-- ==== Sys2Proof/Word.lean ====
section
/-! DEFINITION. The word types of the TH960 model and the two plain names every file needs:
the lane index and the 48-bit signal word (Table 7-1), as data. -/

namespace Sys2Proof

/-- 8 bits. -/
abbrev Byte := BitVec 8
/-- A word is 32 bits unless another width is named (R7). -/
abbrev Word := BitVec 32
/-- A 64-bit word: timetable entries, descriptor words, GT, VALUE of a parameter. -/
abbrev DWord := BitVec 64

/-- The three control lanes A, B and C, with lane index 0, 1 and 2 (Readers, after Table 0-4). -/
inductive Lane where
  | a | b | c
  deriving DecidableEq, Repr

/-- The status bits [3:0] of a signal word (Table 7-1). -/
structure Status where
  valid   : Bool
  limited : Bool
  stale   : Bool
  subst   : Bool
  deriving DecidableEq, Repr

/-- A signal word (R135): its value is MANT × 2^(EXP − 31). The reserved bits [7:4] are written as zero
by every engine, so they carry nothing. -/
structure SigWord where
  mant : BitVec 32
  exp  : BitVec 8
  st   : Status
  deriving DecidableEq, Repr

end Sys2Proof
end

