-- ==== Sys2Proof/Syntax.lean ====
section
/-! DEFINITION. The commands of the TH960: one constructor per row of spec/opcode_table.json, in the table's order.
The table gives the rows no operands; those here are the data the rule of the row draws on and that lie outside the
state: which lane or unit, what arrives on a wire or a port, what a sensor shows, and where a fault strikes. -/

namespace Sys2Proof

/-- One switch of a half-bridge. -/
inductive Side where
  | high | low
  deriving DecidableEq, Repr

/-- The voted groups of Table 5-1. A payload group is one per payload post, named by its descriptor index;
`outDigest` is the output digest of R336, voted as a payload. -/
inductive Group where
  | gate (hb : Nat)
  | edge (ch : Nat)
  | payload (desc : Nat)
  | safetyA | safetyB
  | digest (die : Nat)
  | outDigest
  deriving DecidableEq, Repr

/-- Where a voter stands (Table 1-5): the place an out indication reaches (R102). -/
inductive VoterPlace where
  | die1 | die2 | frame
  deriving DecidableEq, Repr

/-- What a converter delivers for one conversion (R255, R257): the code, and whether its reference was beyond ±1 %. -/
structure AdcSample where
  code   : BitVec 16
  refBad : Bool
  deriving DecidableEq, Repr

/-- Faults of one roll-call exchange (R124, R125), as ordered pairs of lanes. `lost`: sender's block not received complete,
or with a bad CRC-32C; `split`: receiver got another version with a CRC-32C of its own; `echoLost`: echo of the first
lane not received by the second; `stopped`: a lane that sent its block and whose
next read then fails its parity check, so that it goes out before its echoes; `parity`: a read of that
lane fails its parity check; `full`: a lane that writes to a full lane → lane queue (R34). -/
structure ExchangeFaults where
  lost     : List (Lane × Lane)
  split    : List (Lane × Lane)
  echoLost : List (Lane × Lane)
  stopped  : List Lane
  parity   : List Lane
  full     : List Lane
  deriving DecidableEq, Repr

/-- The verdict of a comparator on its test words (Table 5-4): unanimous, a majority with the lane named odd, none of these. -/
inductive TestVerdict where
  | unanimous | odd (l : Lane) | differ
  deriving DecidableEq, Repr
/-- A fault of a voter cell in its self-test (R117, R118): the group, the lane in whose clock the cell runs, the bits of each lane's
test word that its reserved entries have changed, and a verdict that the comparator gives in place of the one its words call for. -/
structure TestRead where
  g       : Group
  cell    : Lane
  a       : BitVec 72
  b       : BitVec 72
  c       : BitVec 72
  given   : Option TestVerdict
  deriving DecidableEq, Repr

/-- A byte that reaches a lane changed at load (R91): its place in the bytes the lane's CRC-64 covers, and the bits changed. -/
structure LoadHit where
  l   : Lane
  at_ : Nat
  x   : Byte
  deriving DecidableEq, Repr

/-- How a hub fault shows (R16, R34, R103): a lockstep mismatch, a lockstep mismatch of the frame voter, a hub write to a full
hub → lane queue. -/
inductive HubCause where
  | lockstep | frameVoter | laneQueue
  deriving DecidableEq, Repr

/-- The ports of the switch (Table 0-6). -/
inductive Port where
  | ringE | ringW | pair0 | pair1 | star (i : Nat) | mgmt
  deriving DecidableEq, Repr

/-- A BTN frame (Tables 15-1 and 15-2). `e2eCrc` is the CRC-32C carried; `fcsOk` says whether the Ethernet FCS was right. -/
structure BtnFrame where
  ver         : Nat
  type        : Nat
  nodeId      : Nat
  slot        : Nat
  dir         : Bool
  wrap        : Bool
  active      : Bool
  cycle       : BitVec 32
  modeCur     : Nat
  req         : Bool
  switch      : Bool
  nak         : Bool
  reqMode     : Nat
  reqNode     : Nat
  reqSeq      : Nat
  switchCycle : BitVec 32
  txTime      : BitVec 64
  actTime     : BitVec 64
  payload     : List Byte
  seq         : BitVec 16
  e2eCrc      : BitVec 32
  fcsOk       : Bool
  deriving DecidableEq, Repr

/-- The destination class of an unscheduled frame (Table 15-6). -/
inductive DestKind where
  | own | group | other
  deriving DecidableEq, Repr

/-- Bits with access W1C that the hardware sets in the register clock of a host write (R10): outbound doorbells, and the CAN channels
whose RX_OVF or HP_LOST it sets. -/
structure Race where
  door   : Word
  rxOvf  : List Nat
  hpLost : List Nat
  deriving DecidableEq, Repr

/-- A CAN frame as received (Table 17-7), with GT[31:0] of its start of frame (R322). -/
structure CanFrame where
  ide  : Bool
  rtr  : Bool
  fdf  : Bool
  id   : BitVec 29
  dlc  : BitVec 4
  brs  : Bool
  esi  : Bool
  data : List Byte
  sof  : BitVec 32
  /-- an FD frame whose res bit is recessive: a protocol exception (R310) -/
  res  : Bool
  deriving DecidableEq, Repr

/-- How a CAN transmit attempt ended (R318). -/
inductive CanEnd where
  | success
  /-- arbitration lost -/
  | lost
  /-- a bit error after the arbitration field and before the CRC delimiter -/
  | collision
  /-- any other error -/
  | error
  deriving DecidableEq, Repr

/-- A HEARTBEAT body (Table 18-3). -/
structure Heartbeat where
  state  : Nat
  tc     : Bool
  ready  : Bool
  full   : Bool
  handover : Bool
  pairId : Bool
  live   : Nat
  epoch  : BitVec 32
  fcGt   : BitVec 64
  digest : BitVec 64
  deriving DecidableEq, Repr

/-- Something that the configuration part of the cast volume (R107) or the hub pair state (R337) holds. The spec gives their sizes and
contents and no layout, so that a frame's bytes are told here by what they stand for; signal words as their 48 bits. -/
inductive CastItem where
  /-- a field: live copy, staged value, values with an assigned commit point -/
  | field (pid : Nat) (live : DWord) (staged : Option DWord) (due : List (BitVec 64 × DWord))
  /-- a staged coefficient set and its commit point -/
  | coefSet (host : Bool) (due : Option (BitVec 64)) (loop bank stages sections : Nat) (words : List Word) (exps : List Byte)
  /-- the coefficient records in use: loop, bank, stages, sections of each -/
  | coefs (l : List (Nat × Nat × Nat × Nat))
  /-- the mode in force and the pending mode -/
  | mode (cur : Nat) (pend : Option Nat)
  /-- a bank-change latch (R162) -/
  | latch (loop : Nat) (on : Bool)
  /-- last(s), marks and counts of a roll-called signal, per lane (R129) -/
  | signal (idx : Nat) (last : BitVec 48) (suspect failed : Bool × Bool × Bool) (good : Nat × Nat × Nat) (cands : Nat)
  /-- a lane-suspect mark -/
  | laneMark (l : Lane) (on : Bool)
  /-- the latched effective state of a unit (R177) -/
  | unit (u eff : Nat)
  /-- the declared state of the safe stop block (0) or of the DC-link blocks (1), item by item -/
  | block (b : Nat) (items : List Int)
  /-- hub: a receive bank, the last frame of a receive slot, the ring delay measurements, a mode request held -/
  | bank (key : Nat) (filling : Option (List Byte)) (read : List Byte) (fresh : Bool)
  | rxSeq (slot : Nat) (seq : BitVec 16) (cycle : BitVec 32) (tx : BitVec 64)
  | delays (l : List Int)
  | request (mode node seq : Nat) (switch : Option (BitVec 32))
  deriving DecidableEq, Repr

/-- A CAST service frame body (Table 18-3). KIND: 1 sweep, 2 mirror, 3 end of sweep, 4 configuration record. `items`: what the frame carries of
the parts that have no layout. -/
structure CastFrame where
  offset : Nat
  kind   : Nat
  src    : Lane
  data   : List Byte
  /-- KIND 4: the configuration record carried, and its assigned commit point when it has one. -/
  pid    : Nat
  value  : DWord
  commit : Option (BitVec 64)
  items  : List CastItem
  deriving DecidableEq, Repr

/-- The body of a service frame (Table 18-3). -/
inductive SvcBody where
  | heartbeat (h : Heartbeat)
  | cast (f : CastFrame)
  | mailbox (mbox : Nat) (words : List Word)
  | role (op kind : Nat) (epoch cycle : BitVec 32) (digest : List Byte)
  deriving DecidableEq, Repr
/-- A service frame (Table 18-2): NODE_ID, SEQ, GT_TX and the body. -/
structure SvcFrame where
  node : Nat
  seq  : BitVec 16
  gtTx : BitVec 64
  body : SvcBody
  deriving DecidableEq, Repr
/-- What a received service frame shows beside its body: SEQ, and whether FCS, CRC-32C and VER are right (R328, R329). -/
structure SvcIn where
  seq : BitVec 16
  ok  : Bool
  deriving DecidableEq, Repr
/-- How the images of the two devices compare (R338): the same DIGEST, byte-identical state-set declarations and STATE records, neither. -/
inductive ImgMatch where
  | same | state | other
  deriving DecidableEq, Repr

/-- The image description of a CAST_REQUEST (R338): DIGEST, and whether the two images' state-set declarations and STATE
signal records are byte-identical. -/
structure CastAsk where
  digest    : List Byte
  sameState : Bool
  deriving DecidableEq, Repr

/-- A drained command (R377, R387): inbound mailbox, sender ID, tag and the words W1 onward. -/
structure Request where
  mbox   : Nat
  sender : Nat
  tag    : Nat
  args   : List Word
  deriving DecidableEq, Repr

/-- What the outside gives a long command at its end (R389). -/
structure JobEnd where
  /-- the ML-DSA-87 signature verifies (check 0x02 of Tables 4-9 and 23-5; R431) -/
  sigOk    : Bool
  /-- values a test measured: phase-node voltages in mV, or failing items -/
  measured : List Nat
  /-- bytes an engine delivers (the signed report of ATTEST) -/
  bytes    : List Byte
  deriving DecidableEq, Repr

/-- The contents of the external flash as read over xSPI (Table 23-3): two firmware parts and two image parts, and the two
copies of the boot-control block (R422). -/
structure Flash where
  fwA  : List Byte
  imgA : List Byte
  fwB  : List Byte
  imgB : List Byte
  bcb0 : List Byte
  bcb1 : List Byte
  deriving DecidableEq, Repr

/-- A host write as it reaches the device: whole; ended before its last word was whole or before the status byte (R370), or malformed over
MGMT_ETH (R373); with an opcode other than those of Table 20-3. -/
inductive HostForm where
  | whole | cut | opcode
  deriving DecidableEq, Repr
/-- One data word of a host write with its window offset. -/
structure HostWord where
  addr : Nat
  data : Word
  deriving DecidableEq, Repr

/-- A request datagram on MGMT_ETH (Table 20-5). -/
structure Datagram where
  peerOk  : Bool
  port    : Nat
  ver     : Nat
  op      : Nat
  seq     : Nat
  addr    : Nat
  count   : Nat
  /-- STATUS zero, FLAGS zero and reserved zero, and a length that fits -/
  formOk  : Bool
  data    : List Word
  deriving DecidableEq, Repr

/-- The outcome of a lane's BIST (R432 to R436). A memory without spares that holds a failing cell: 0 none, 2 coefficient or signal
memory, 3 lane monitor core memory. Failing SRAM cells are (macro, row, column); `retestBad`: the macros whose retest after a soft repair
finds one. -/
structure BistResult where
  logicOk  : Bool
  otherMem : Nat
  cells    : List (Nat × Nat × Nat)
  retestBad : List Nat
  deriving DecidableEq, Repr

/-- A journal post (R411): CLASS 0 FAULT, 1 STATE, 2 EVENT. -/
structure Post where
  type    : Nat
  cls     : Nat
  source  : Nat
  payload : List Byte
  deriving DecidableEq, Repr

/-- The signals by which the blocks of the DC-link chapter are wired, which the spec leaves to the image: for one of FCU0 and
FCU1 its q reference, the speed ω, its d reference, its requested state and the three words the block writes. -/
structure DclFcu where
  iqRef  : Nat
  omega  : Nat
  idRef  : Nat
  state  : Nat
  iqOut  : Nat
  idOut  : Nat
  stOut  : Nat
  deriving DecidableEq, Repr

/-- Modes of PC0 and PC1 (Table 11-4). -/
inductive ConvMode where
  | off | buck | boost | charge
  deriving DecidableEq, Repr

/-- The host set-points DCL_HYST, DCL_ACK, I_DLOSS and CHOP_CHK, the battery voltage, the contactor report, the precharge
restart, the deceleration demand, the regenerative request, and the words written: BLEND and the two shares (R210 to R215). `req0` and
`req1`: the mode that the mode word of PC0 or PC1 asks for in this run (R209), whose coding the spec leaves to the image. -/
structure DclIo where
  hyst    : Nat
  ack     : Nat
  idLoss  : Nat
  /-- CHOP_ON, CHOP_BAND and CHOP_CHK; none where the image sets none, and the default of R211 holds -/
  chopOn   : Option Nat
  chopBand : Option Nat
  chopChk  : Option Nat
  /-- the chopper duty, PRECHARGED and PC0's current demand, which the blocks write -/
  duty    : Nat
  prech   : Nat
  boostI  : Nat
  vBat    : Nat
  closed  : Nat
  start   : Nat
  decel   : Nat
  regen   : Nat
  blend   : Nat
  regOut  : Nat
  fricOut : Nat
  fcus    : List DclFcu
  req0    : Option ConvMode
  req1    : Option ConvMode
  deriving DecidableEq, Repr

/-- The signals of the safe stop block in an image with PAIRED (R362): those it writes its own state, cause and v0 to, and those that hold
what the pair roll call gave for them and for the trigger inputs. -/
structure StopIo where
  stateOut : Nat
  causeOut : Nat
  v0Out    : Nat
  state    : Nat
  cause    : Nat
  v0       : Nat
  trig     : Nat
  deriving DecidableEq, Repr

/-- The commands. `l` is a lane; `p` says that a memory read the operation makes fails its parity check (R105). -/
inductive Instr where
  /-- FAST_CYCLE_BOUNDARY (R60); `reads`: the voters whose self-test reads other words than were injected (R118). -/
  | fastCycleBoundary (reads : List TestRead)
  /-- BELL (R39); `parity`: the lanes whose sequencer meets a parity error in the reads of the bell (R105). -/
  | bell (parity : List Lane)
  /-- STROBE_CAPTURE (R42); `corr`: the rate correction the replica needs, in 2^-32. -/
  | strobeCapture (l : Lane) (corr : Int)
  /-- LANE_CLOCK_FAULT (R45); `byAclk`: LCLK beyond 5 % by comparison with ACLK, else the crystal stopped or its PLL unlocked. -/
  | laneClockFault (l : Lane) (byAclk : Bool)
  /-- HUB_CLOCK_FAULT (R45) -/
  | hubClockFault
  /-- NO_HUB_STROBE (R45) -/
  | noHubStrobe
  /-- RING_SYNC_LOST (R45) -/
  | ringSyncLost
  /-- SERDES_UNLOCK (R45) -/
  | serdesUnlock
  /-- ACLK_FAULT (R45) -/
  | aclkFault
  /-- HUB_FAULT (R16) -/
  | hubFault (cause : HubCause)
  /-- MISSED_DEADLINE (R56) of the operation that lane `l` has in progress on target unit `unit`. -/
  | missedDeadline (l : Lane) (unit : Nat)
  /-- LMC_POST_TIMEOUT (R18) -/
  | lmcPostTimeout (l : Lane)
  /-- NO_OPERATION (R76) -/
  | noOperation (l : Lane) (p : Bool)
  /-- MARKER (R76) -/
  | marker (l : Lane) (p : Bool)
  /-- MODE_REQUEST_ENTRY (R66) -/
  | modeRequestEntry (l : Lane) (p : Bool)
  /-- GROUP_STAGING (R65) -/
  | groupStaging (l : Lane) (p : Bool)
  /-- STAGE_EVALUATION (R145) -/
  | stageEvaluation (l : Lane) (p : Bool)
  /-- MOVE (R151) -/
  | move (l : Lane) (p : Bool)
  /-- ADD (R151) -/
  | add (l : Lane) (p : Bool)
  /-- SUB (R151) -/
  | sub (l : Lane) (p : Bool)
  /-- MUL (R151) -/
  | mul (l : Lane) (p : Bool)
  /-- MAC (R151) -/
  | mac (l : Lane) (p : Bool)
  /-- NEG (R151) -/
  | neg (l : Lane) (p : Bool)
  /-- ABS (R151) -/
  | abs (l : Lane) (p : Bool)
  /-- MIN (R151) -/
  | min (l : Lane) (p : Bool)
  /-- MAX (R151) -/
  | max (l : Lane) (p : Bool)
  /-- LIMIT (R151) -/
  | limit (l : Lane) (p : Bool)
  /-- DEADBAND (R151) -/
  | deadband (l : Lane) (p : Bool)
  /-- SCALE2 (R151) -/
  | scale2 (l : Lane) (p : Bool)
  /-- SIGN (R151) -/
  | sign (l : Lane) (p : Bool)
  /-- RATECMP (R151) -/
  | ratecmp (l : Lane) (p : Bool)
  /-- CMP (R151) -/
  | cmp (l : Lane) (p : Bool)
  /-- HYST (R151) -/
  | hyst (l : Lane) (p : Bool)
  /-- SEL (R151) -/
  | sel (l : Lane) (p : Bool)
  /-- HOLD (R151) -/
  | hold (l : Lane) (p : Bool)
  /-- AND (R151) -/
  | and (l : Lane) (p : Bool)
  /-- OR (R151) -/
  | or (l : Lane) (p : Bool)
  /-- XOR (R151) -/
  | xor (l : Lane) (p : Bool)
  /-- NOT (R151) -/
  | not (l : Lane) (p : Bool)
  /-- LOOKUP_1D (R152) -/
  | lookup1d (l : Lane) (p : Bool)
  /-- LOOKUP_2D (R153) -/
  | lookup2d (l : Lane) (p : Bool)
  /-- LOOP_CLOSE (R157) -/
  | loopClose (l : Lane) (p : Bool)
  /-- FORWARD_TRANSFORM (R168) -/
  | forwardTransform (l : Lane) (p : Bool)
  /-- INVERSE_TRANSFORM (R169) -/
  | inverseTransform (l : Lane) (p : Bool)
  /-- MODULATION (R170) -/
  | modulation (l : Lane) (p : Bool)
  /-- OBSERVER_STEP (R194) -/
  | observerStep (l : Lane) (p : Bool)
  /-- ACQ_TIMEOUT (R199) of the observer of FCU `fcu` in lane `l`. -/
  | acqTimeout (l : Lane) (fcu : Nat)
  /-- SAMPLE_AND_CONVERT (R254) with the converter's codes, in conversion order. -/
  | sampleAndConvert (l : Lane) (p : Bool) (codes : List AdcSample)
  /-- RESOLVER_READ (R191) -/
  | resolverRead (l : Lane) (p : Bool)
  /-- RDC_UPDATE (R189): demodulated sine and cosine of channel `ch` in µV. -/
  | rdcUpdate (l : Lane) (ch : Nat) (sinV cosV : Int)
  /-- ENCODER_HALL_READ (R193) -/
  | encoderHallRead (l : Lane) (p : Bool)
  /-- ENCODER_EDGE (R192): the levels of the three wires of input `inp` after an edge, and how long they
  were held, in units of 1.25 ns. -/
  | encoderEdge (l : Lane) (inp : Nat) (w0 w1 w2 : Bool) (held : Nat)
  /-- ENCODER_SPEED_TIMEOUT (R193) -/
  | encoderSpeedTimeout (l : Lane) (inp : Nat)
  /-- DISCRETE_OR_LCI_READ (R262) -/
  | discreteOrLciRead (l : Lane) (p : Bool)
  /-- DIN_LEVEL_ACCEPTED (R261): input `n` has shown a level in `samples` consecutive samples. -/
  | dinLevelAccepted (l : Lane) (n : Nat) (level : Bool) (samples : Nat)
  /-- LCI_MEASUREMENT (R266): in the analog encoding a 12-bit conversion; in duty and frequency a completed period and its high time in units of
  1.25 ns. -/
  | lciMeasurement (l : Lane) (code : BitVec 12) (high period : Nat)
  /-- LCI_TIMEOUT (R266) with the pin's level. -/
  | lciTimeout (l : Lane) (level : Bool)
  /-- PWM_COMPARE_WRITE (R177) -/
  | pwmCompareWrite (l : Lane) (p : Bool)
  /-- GATE_EVENT_POST (R180) -/
  | gateEventPost (l : Lane) (p : Bool)
  /-- EDGE_EVENT_POST (R180) -/
  | edgeEventPost (l : Lane) (p : Bool)
  /-- PARK_LOCK_COMMAND (R184) -/
  | parkLockCommand (l : Lane) (p : Bool)
  /-- ROLL_CALL_EXCHANGE (R124): every dispatching lane whose entry it is takes part. -/
  | rollCallExchange (f : ExchangeFaults)
  /-- PAIR_ROLL_CALL_SELECTION (R480) -/
  | pairRollCallSelection (l : Lane) (p : Bool)
  /-- PAYLOAD_POST (R283) -/
  | payloadPost (l : Lane) (p : Bool)
  /-- PAYLOAD_TAKE (R284) -/
  | payloadTake (l : Lane) (p : Bool)
  /-- SAFETY_DEMAND_POST (R351) -/
  | safetyDemandPost (l : Lane) (p : Bool)
  /-- STATE_DIGEST_SLICE (R115) -/
  | stateDigestSlice (l : Lane) (p : Bool)
  /-- VOTED_WORD_ARRIVAL (R96): the oldest word lane `l` has posted to group `g` arrives; `parityOk` is its queue parity; `cell`: the
voter cell, by the lane in whose clock it runs, that forms another verdict than the other two (R103). -/
  | votedWordArrival (l : Lane) (g : Group) (parityOk : Bool) (cell : Option Lane)
  /-- ALIGNMENT_WINDOW_EXPIRY (R97) -/
  | alignmentWindowExpiry (g : Group) (tag : Nat) (cell : Option Lane)
  /-- RELEASE_DEADLINE_EXPIRY (R97) -/
  | releaseDeadlineExpiry (g : Group) (tag : Nat) (cell : Option Lane)
  /-- OUT_INDICATION_ARRIVAL (R102) -/
  | outIndicationArrival (l : Lane) (v : VoterPlace)
  /-- GATE_EVENT_EXECUTION (R219) -/
  | gateEventExecution (hb : Nat)
  /-- SWITCH_TURN_ON (R219), with the gate–source voltage of the opposite switch in mV. -/
  | switchTurnOn (hb : Nat) (vgs : Nat)
  /-- GATE_STUCK (R220): the opposite gate of the pending turn-on has not fallen below 2.0 V. -/
  | gateStuck (hb : Nat)
  /-- HARD_SHORT_ARMED (R226) -/
  | hardShortArmed (hb : Nat) (sd : Side)
  /-- BLANKING_END (R226) -/
  | blankingEnd (hb : Nat) (sd : Side)
  /-- HARD_SHORT_TRIP (R226) -/
  | hardShortTrip (hb : Nat) (sd : Side)
  /-- VDS_TRIP (R226) -/
  | vdsTrip (hb : Nat) (sd : Side)
  /-- BS_UV (R225): VBS has fallen below 7.5 V. -/
  | bsUv (hb : Nat)
  /-- BS_RECOVERED (R225): VBS has reached 8.0 V. -/
  | bsRecovered (hb : Nat)
  /-- BS_FAULT (R225) -/
  | bsFault (hb : Nat)
  /-- VGD_UV (R231) of bank 1 or 2 with the supply in mV. -/
  | vgdUv (bank : Nat) (mv : Nat)
  /-- VGD_RECOVERED (R231) -/
  | vgdRecovered (bank : Nat) (mv : Nat)
  /-- DIAG_STEP_END (R232): the unit (R400) and its node voltages and their V_DH, in mV. -/
  | diagStepEnd (unit : Nat) (nodes vdh : List Nat)
  /-- EDGE_HEARTBEAT_DUE (R238) -/
  | edgeHeartbeatDue
  /-- EDGE_LINK_IDLE (R240) -/
  | edgeLinkIdle (link : Nat)
  /-- STATUS_FRAME (R245): GT in fine units at which its K27.7 arrived, whether a character had a code or disparity error, and the
  bytes between K27.7 and K29.7. -/
  | statusFrame (link : Nat) (arrival : Nat) (codeErr : Bool) (bytes : List Byte)
  /-- EDGE_RX_DOWN (R249) -/
  | edgeRxDown (link : Nat)
  /-- SERIALISER_CLOCK_SWITCH (R251) -/
  | serialiserClockSwitch
  /-- SLOT_START (R276) of slot number `slot` of the mode's table. -/
  | slotStart (slot : Nat)
  /-- BTN_FRAME_RECEIVED (R272): arrival is the GT of the first byte after the SFD. -/
  | btnFrameReceived (port : Port) (f : BtnFrame) (arrival : BitVec 64)
  /-- ACCEPTANCE_WINDOW_END (R280) -/
  | acceptanceWindowEnd (slot : Nat)
  /-- MODE_TIMEOUT (R291) -/
  | modeTimeout
  /-- RING_LINK_DOWN (R298); east is RING_E. -/
  | ringLinkDown (east : Bool)
  /-- RING_LINK_UP (R299) -/
  | ringLinkUp (east : Bool)
  /-- RECESS_START (R285) -/
  | recessStart (port : Port)
  /-- UNSCHEDULED_FRAME_RECEIVED (R286) -/
  | unscheduledFrameReceived (port : Port) (dest : DestKind) (bytes : List Byte)
  /-- STAR_FRAME_ARRIVAL (R300): whether the frame is a BTN frame. -/
  | starFrameArrival (i : Nat) (btn : Bool) (node : Nat)
  /-- INVIGILATOR_CUT (R300) -/
  | invigilatorCut (i : Nat)
  /-- LISTEN_WINDOW_END (R305) -/
  | listenWindowEnd
  /-- COLDSTART_FRAME_RECEIVED (R305): the sender and the direction DIR of the copy. -/
  | coldstartFrameReceived (node : Nat) (dir : Bool)
  /-- MEMBER_SILENCE_TIMEOUT (R305) -/
  | memberSilenceTimeout
  /-- CTRL_INIT_WRITE (R315): a host write of CTRL of a channel. -/
  | ctrlInitWrite (ch : Nat) (v : Word)
  /-- BO_RECOVER (R323) -/
  | boRecover (ch : Nat)
  /-- TXC_REQ (R316) -/
  | txcReq (ch buf : Nat)
  /-- TXC_ABORT (R317) -/
  | txcAbort (ch buf : Nat)
  /-- CAN_START_OF_FRAME (R316) -/
  | canStartOfFrame (ch : Nat)
  /-- CAN_ATTEMPT_END (R318); the error counters the engine holds after the attempt, as ISO 11898-1 moves them. -/
  | canAttemptEnd (ch : Nat) (how : CanEnd) (tec rec : Nat)
  /-- CAN_RECOVERY_COMPLETE (R323); `again`: a host write sets BO_RECOVER in the same register clock (R10). -/
  | canRecoveryComplete (ch : Nat) (again : Bool)
  /-- CAN_FRAME_RECEIVED (R319); REC after the frame. -/
  | canFrameReceived (ch : Nat) (f : CanFrame) (rec : Nat)
  /-- HEAD_OBJECT_H0_READ (R321): the high-priority object or the FIFO's head object. -/
  | headObjectH0Read (ch : Nat) (hp : Bool)
  /-- HEAD_OBJECT_RELEASE_READ (R321) -/
  | headObjectReleaseRead (ch : Nat) (hp : Bool)
  /-- CAN_BUFFER_ENTRY (R326) of the voted frame of payload post `desc`. -/
  | canBufferEntry (desc : Nat)
  /-- PAIR_HEARTBEAT_SEND (R336) -/
  | pairHeartbeatSend
  /-- PAIR_HEARTBEAT_RECEIVED (R336); how the two images compare (R338), which a device that asks for a cast acts on and for which
  the spec names no field of the frame. -/
  | pairHeartbeatReceived (n : SvcIn) (hb : Heartbeat) (img : ImgMatch)
  /-- HEARTBEAT_DEADLINE (R340) -/
  | heartbeatDeadline
  /-- CAST_REQUEST (R338) -/
  | castRequest (n : SvcIn) (ask : CastAsk)
  /-- CAST_FRAME_RECEIVED (R337) -/
  | castFrameReceived (n : SvcIn) (f : CastFrame)
  /-- SWAP_PROPOSE (R344): KIND and the CYCLE of the swap bell. -/
  | swapPropose (n : SvcIn) (kind : Nat) (cycle : BitVec 32)
  /-- SWAP_ACCEPT (R344) -/
  | swapAccept (n : SvcIn)
  /-- SWAP_REFUSE (R344) -/
  | swapRefuse (n : SvcIn)
  /-- AUTO_SWAP_EXPIRY (R345) -/
  | autoSwapExpiry
  /-- RELAYED_MAILBOX (R379): mailbox number and its words. -/
  | relayedMailbox (n : SvcIn) (mbox : Nat) (words : List Word)
  /-- PAIR_RELAY_RETRY (R401) -/
  | pairRelayRetry
  /-- INIT_PARTNER_TIMEOUT (R332) -/
  | initPartnerTimeout
  /-- CASTING_TIMEOUT (R332) -/
  | castingTimeout
  /-- DETACH (R332) -/
  | detach
  /-- PAIR_LINK_UP (R332) -/
  | pairLinkUp (port1 : Bool)
  /-- CAST_SWEEP_END (R111): the end-of-sweep marker of source `src`; `p`: a parity failure in the sweep's reads; `cal`: the target's own
  calibration table fails the sweep's parity check (R260). -/
  | castSweepEnd (src : Lane) (p cal : Bool)
  /-- ROTATION_START (R119) -/
  | rotationStart
  /-- LANE_BIST_DONE (R120) -/
  | laneBistDone (l : Lane) (r : BistResult)
  /-- SS_REQ_ACCEPTED (R349): the input of a group (group B is `grpB`) has shown a level in `samples` consecutive samples. -/
  | ssReqAccepted (grpB demand : Bool) (samples : Nat)
  /-- SAFETY_OUTPUT_CHANGE (R350): the released word of a group reaches its launch GT. -/
  | safetyOutputChange (grpB : Bool)
  /-- TEST_PULSE_START (R356): output 0 STO_A, 1 PB_REL_A, 2 STO_B, 3 PB_REL_B. -/
  | testPulseStart (out : Nat)
  /-- TEST_PULSE_END (R356); the read-back showed low within 50 µs and matches at the end. -/
  | testPulseEnd (out : Nat) (readBackOk : Bool)
  /-- SAFE_STOP_RUN (R360) in lane `l`; `io`: the signals the block is wired to for the pair roll call. -/
  | safeStopRun (l : Lane) (p : Bool) (io : Option StopIo)
  /-- SAFE_STOP_STOPPED (R360) -/
  | safeStopStopped (l : Lane)
  /-- GRACE_EXPIRED (R363) -/
  | graceExpired (l : Lane)
  /-- DISCREP (R355) -/
  | discrep (l : Lane)
  /-- DC_LINK_SUPERVISION (R213) -/
  | dcLinkSupervision (l : Lane) (p : Bool) (io : DclIo)
  /-- CHOP_FAULT (R211) -/
  | chopFault (l : Lane)
  /-- PRECHARGE_TIMEOUT (R210) -/
  | prechargeTimeout (l : Lane)
  /-- HOST_WRITE (R372): over HOST_SPI (`eth` false) or MGMT_ETH, of data words from window offset `addr` on. -/
  | hostWrite (eth : Bool) (form : HostForm) (addr : Nat) (data : List Word) (race : Race)
  /-- UDP_REQUEST (R374) -/
  | udpRequest (g : Datagram)
  /-- GT_LO_READ (R368) -/
  | gtLoRead
  /-- INBOUND_GO (R377) by a sender, LEN words. A lane monitor core, the partner and the debugger have no HOST_WRITE: their data words
come with GO. -/
  | inboundGo (m sender len : Nat) (words : List Word)
  /-- CLAIM_TIMEOUT (R378) -/
  | claimTimeout (m : Nat)
  /-- OUTBOUND_ACK (R382) by `reader`. -/
  | outboundAck (m reader : Nat)
  /-- DOORBELL_CLEAR (R380); `again`: bits the hardware sets in the same clock (R10). -/
  | doorbellClear (v again : Word)
  /-- MAILBOX_DRAIN (R381) -/
  | mailboxDrain
  /-- DOORBELL_REPEAT (R375) -/
  | doorbellRepeat
  /-- EVENT_EXPIRY (R383) -/
  | eventExpiry
  /-- JOB_COMPLETION (R389) -/
  | jobCompletion (job : Nat) (e : JobEnd)
  /-- STAGING_DELIVERED (R395) -/
  | stagingDelivered
  /-- IDENTIFY (R391) -/
  | identify (r : Request)
  /-- STATUS (R391) -/
  | status (r : Request)
  /-- COUNTER_CLEAR (R385) -/
  | counterClear (r : Request)
  /-- JOB_STATUS (R389) -/
  | jobStatus (r : Request)
  /-- BULK_WRITE (R392) -/
  | bulkWrite (r : Request)
  /-- BULK_READ (R392) -/
  | bulkRead (r : Request)
  /-- BULK_RELEASE (R392) -/
  | bulkRelease (r : Request)
  /-- BULK_CLAIM_TIMEOUT (R392) -/
  | bulkClaimTimeout
  /-- PARAM_STAGE (R395) -/
  | paramStage (r : Request)
  /-- PARAM_READ (R393) -/
  | paramRead (r : Request)
  /-- COMMIT (R396) -/
  | commit (r : Request)
  /-- DISCARD (R397) -/
  | discard (r : Request)
  /-- CALIBRATE (R397) -/
  | calibrate (r : Request)
  /-- IMAGE_INFO (R391) -/
  | imageInfo (r : Request)
  /-- MODE_REQUEST (R398) -/
  | modeRequest (r : Request)
  /-- STAR_UNMUTE (R301) -/
  | starUnmute (r : Request)
  /-- NET_SEND (R285) -/
  | netSend (r : Request)
  /-- NET_RECEIVE (R391) -/
  | netReceive (r : Request)
  /-- IMAGE_WRITE (R399) -/
  | imageWrite (r : Request)
  /-- COEF_STAGE (R83) -/
  | coefStage (r : Request)
  /-- COEF_READ (R83) -/
  | coefRead (r : Request)
  /-- JOURNAL_INFO (R391) -/
  | journalInfo (r : Request)
  /-- JOURNAL_READ (R412) -/
  | journalRead (r : Request)
  /-- JOURNAL_COMPACT (R413) -/
  | journalCompact (r : Request)
  /-- JOURNAL_APPEND (R411) -/
  | journalAppend (r : Request)
  /-- RUN_TEST (R400) -/
  | runTest (r : Request)
  /-- TEST_RESULTS (R440) -/
  | testResults (r : Request)
  /-- SWITCH_CLEAR (R230) -/
  | switchClear (r : Request)
  /-- PAIR_STATUS (R391) -/
  | pairStatus (r : Request)
  /-- PAIR_SWAP (R401) -/
  | pairSwap (r : Request)
  /-- PAIR_RELAY (R401) -/
  | pairRelay (r : Request)
  /-- FW_WRITE (R399) -/
  | fwWrite (r : Request)
  /-- SLOT_STATUS (R391) -/
  | slotStatus (r : Request)
  /-- SLOT_SELECT (R422) -/
  | slotSelect (r : Request)
  /-- RESTART (R399) -/
  | restart (r : Request)
  /-- RESTART_DELAY_EXPIRY (R399) -/
  | restartDelayExpiry
  /-- CAN_RECOVER (R403) -/
  | canRecover (r : Request)
  /-- ATTEST (R429) -/
  | attest (r : Request)
  /-- DEBUG_CHALLENGE (R430); the 32 bytes the TRNG gives. -/
  | debugChallenge (r : Request) (rnd : List Byte)
  /-- CHALLENGE_EXPIRY (R430) -/
  | challengeExpiry
  /-- DEBUG_UNLOCK (R431) -/
  | debugUnlock (r : Request)
  /-- DEBUG_LOCK (R431) -/
  | debugLock (r : Request)
  /-- ROLLBACK_ADVANCE (R425) -/
  | rollbackAdvance (r : Request)
  /-- PWR_SET (R402) -/
  | pwrSet (r : Request)
  /-- PWR_STATUS (R391) -/
  | pwrStatus (r : Request)
  /-- JOURNAL_POST (R411) -/
  | journalPost (q : Post)
  /-- RECORD_WRITE (R409) -/
  | recordWrite
  /-- COMPACTION_SLICE (R414) of the journal store (`cal` false) or the calibration store. -/
  | compactionSlice (cal : Bool)
  /-- RETENTION_REFRESH (R407) -/
  | retentionRefresh
  /-- MRAM_CHECK_SLICE (R439): words corrected, and the MRAM offsets of words found uncorrectable, in this slice. -/
  | mramCheckSlice (corrected : Nat) (bad : List Nat)
  /-- EARLY_WARNING (R416) -/
  | earlyWarning
  /-- EARLY_WARNING_CLEAR (R448) -/
  | earlyWarningClear
  /-- DEVICE_RESET (R446): cause 1 POR_N, 3 VAON below 2.9 V. -/
  | deviceReset (vaon : Bool)
  /-- POR_N_RELEASE (R419); the level of the PAIR_ID ball. -/
  | porNRelease (pairId : Bool)
  /-- PLINTH (R419): whether a fuse field was uncorrectable. -/
  | plinth (fuseBad : Bool)
  /-- HUB_BIST (R419) -/
  | hubBist (ok : Bool)
  /-- FETCH (R419): what the board's flash returns, when it differs from what the device last knew of it. -/
  | fetch (f : Option Flash)
  /-- VERIFY (R421): whether the signature of firmware A, image A, firmware B, image B verifies. -/
  | verify (fwA imgA fwB imgB : Bool)
  /-- LOAD (R419): the bytes of the image that arrive changed at a lane. -/
  | load (hits : List LoadHit)
  /-- SELF_TEST (R420): words corrected, uncorrectable MRAM offsets. -/
  | selfTest (corrected : Nat) (bad : List Nat)
  /-- RELEASE (R426) -/
  | release
  /-- ANALOG_SELF_TEST_DONE (R438): the drive die and its failing items as (HB index or 0xFFFF, switch, item 1 to 13, the last four those of the safety group). -/
  | analogSelfTestDone (die : Nat) (bad : List (Nat × Side × Nat))
  /-- DOMAIN_DOWN (R447) -/
  | domainDown (code : Nat)
  /-- DOMAIN_GOOD (R447) -/
  | domainGood (code : Nat)
  /-- TEMPERATURE_READ (R478): the six dies in 1/8 °C: lanes A to C, hub, drive dies 1 and 2. -/
  | temperatureRead (t : List Int)
  /-- OUTPUT_READBACK_MISMATCH (R356): output 0 STO, 1 PB_REL, 2 SAFE_OK of group A or B. -/
  | outputReadbackMismatch (grpB : Bool) (out : Nat)
  /-- EXCITATION_FAULT (R188) of amplifier A (0) or B (1). -/
  | excitationFault (amp : Nat) (on : Bool)
  /-- CAN_BUS_INTEGRATED (R310) -/
  | canBusIntegrated (ch : Nat)
  /-- CAN_BUS_ERROR (R310): REC after the error. -/
  | canBusError (ch : Nat) (rec : Nat)
  /-- LANE_MONITOR_CORE_FAULT (R69) -/
  | laneMonitorCoreFault (l : Lane)
  deriving DecidableEq, Repr

end Sys2Proof
end

