-- ==== Sys2Proof/Decode.lean ====
section
/-! DEFINITION. Decoding of command words. The rows of spec/opcode_table.json carry no bits, so no word spells a command. -/

namespace Sys2Proof

/-- The command that a word of `nbits` bits spells by the table's bits: none, for no row gives bits. -/
def decodeTableWord (_nbits _w : Nat) : Option Instr := none

end Sys2Proof
end

