-- ==== Sys2Proof/Machine/Num.lean ====
section
/-! DEFINITION. Exact arithmetic and the one rounding of the device: dyadic numbers, R136 normalisation, square
root, sine and cosine at 2^-30 (R167), the angle of a vector at 2^-32 turn (R482), and the 48-bit layout of a
signal word (Table 7-1). Nothing here reads or writes the state. -/

namespace Sys2Proof.Machine
open Sys2Proof

/-! ### Signal words as bits and as numbers -/

/-- Status bits all clear. -/
def Status.clear : Status := ⟨false, false, false, false⟩
/-- VALID alone. -/
def Status.ok : Status := ⟨true, false, false, false⟩

/-- The 48 bits of Table 7-1. -/
def sigToNat (w : SigWord) : Nat :=
  w.mant.toNat * 2 ^ 16 + w.exp.toNat * 2 ^ 8 +
    (if w.st.subst then 8 else 0) + (if w.st.stale then 4 else 0) +
    (if w.st.limited then 2 else 0) + (if w.st.valid then 1 else 0)

/-- A signal word read back from its 48 bits; the reserved bits are dropped. -/
def sigOfNat (n : Nat) : SigWord :=
  { mant := BitVec.ofNat 32 (n / 2 ^ 16), exp := BitVec.ofNat 8 (n / 2 ^ 8),
    st := { valid := n.testBit 0, limited := n.testBit 1, stale := n.testBit 2, subst := n.testBit 3 } }

/-- Zero in normal form, status all clear: what a scratch word reads at release (R80). -/
def sigZero : SigWord := ⟨0, 0, Status.clear⟩

/-- EXP as a number, −128 to +127. -/
def sigExp (w : SigWord) : Int := w.exp.toInt
/-- MANT as a number. -/
def sigMant (w : SigWord) : Int := w.mant.toInt

/-- An exact number n × 2^e. -/
structure Dy where
  n : Int
  e : Int
  deriving DecidableEq, Repr

/-- The value of a signal word (R135). -/
def sigVal (w : SigWord) : Dy := ⟨sigMant w, sigExp w - 31⟩

def dyInt (n : Int) : Dy := ⟨n, 0⟩
/-- n × 2^k for k ≥ 0. -/
def shl (n : Int) (k : Int) : Int := n * 2 ^ k.toNat
def dyAdd (x y : Dy) : Dy :=
  let e := min x.e y.e
  ⟨shl x.n (x.e - e) + shl y.n (y.e - e), e⟩
def dyNeg (x : Dy) : Dy := ⟨-x.n, x.e⟩
def dySub (x y : Dy) : Dy := dyAdd x (dyNeg y)
def dyMul (x y : Dy) : Dy := ⟨x.n * y.n, x.e + y.e⟩
/-- x × 2^k. -/
def dyScale (x : Dy) (k : Int) : Dy := ⟨x.n, x.e + k⟩
def dyAbs (x : Dy) : Dy := ⟨x.n.natAbs, x.e⟩
/-- Exact comparison. -/
def dyLt (x y : Dy) : Bool := decide ((dySub x y).n < 0)
def dyLe (x y : Dy) : Bool := decide ((dySub x y).n ≤ 0)
def dyEq (x y : Dy) : Bool := decide ((dySub x y).n = 0)
def dyMin (x y : Dy) : Dy := if dyLe x y then x else y
def dyMax (x y : Dy) : Dy := if dyLe y x then x else y
def dyIsZero (x : Dy) : Bool := decide (x.n = 0)
/-- x as a fraction num/den with den a power of two. -/
def dyNum (x : Dy) : Int := shl x.n x.e
def dyDen (x : Dy) : Nat := 2 ^ (-x.e).toNat
/-- ⌊x⌋. -/
def dyFloor (x : Dy) : Int := (dyNum x) / (dyDen x : Int)
/-- x rounded to an integer, ties toward +∞ (R136 step 3). -/
def dyRound (x : Dy) : Int := dyFloor (dyAdd x ⟨1, -1⟩)
/-- ⌊x × 2^k⌋. -/
def dyFloorAt (x : Dy) (k : Int) : Int := dyFloor (dyScale x k)
/-- x rounded to a multiple of 2^-k, as the integer multiple, ties toward +∞. -/
def dyRoundAt (x : Dy) (k : Int) : Int := dyRound (dyScale x k)

/-! ### R136: rounding and normalising -/

/-- The bits needed to write n: 0 for 0. -/
def bitLen (n : Nat) : Nat := if n = 0 then 0 else Nat.log2 n + 1

/-- The least E with num/den < 2^E, for a positive fraction; for a negative one (the magnitude is given) the least E
with num/den ≤ 2^E: the EXP of R136 step 2. -/
def normExp (neg : Bool) (num den : Nat) : Int :=
  let e0 : Int := (bitLen num : Int) - bitLen den - 1
  let fits (e : Int) : Bool :=
    let l := num * 2 ^ (-e).toNat
    let r := den * 2 ^ e.toNat
    if neg then decide (l ≤ r) else decide (l < r)
  if fits e0 then e0 else if fits (e0 + 1) then e0 + 1 else e0 + 2

/-- R136 steps 4 to 6 on a rounded mantissa m at exponent e. The Bool is LIMITED (step 5). -/
def normFinish (m e : Int) : BitVec 32 × BitVec 8 × Bool :=
  let (m, e) :=
    if m ≥ 2 ^ 31 then (m / 2, e + 1)
    else if m = -(2 ^ 30) ∧ e ≠ -128 then (-(2 ^ 31), e - 1)
    else (m, e)
  if e > 127 then
    (if m < 0 then (BitVec.ofInt 32 (-(2 ^ 31))) else BitVec.ofInt 32 (2 ^ 31 - 1), BitVec.ofInt 8 127, true)
  else if e < -128 then (0, 0, false)
  else (BitVec.ofInt 32 m, BitVec.ofInt 8 e, false)

/-- The exact result num/den (den > 0) rounded and normalised under R136. -/
def roundRat (num : Int) (den : Nat) : BitVec 32 × BitVec 8 × Bool :=
  if num = 0 then (0, 0, false)
  else
    let e := normExp (decide (num < 0)) num.natAbs den
    -- mantissa = num/den × 2^(31 − e), one half-LSB added, then floored
    let s := 31 - e
    let n := num * 2 ^ s.toNat
    let d : Int := (den : Int) * 2 ^ (-s).toNat
    normFinish ((2 * n + d) / (2 * d)) e

def roundDy (x : Dy) : BitVec 32 × BitVec 8 × Bool := roundRat (dyNum x) (dyDen x)

/-- A result word: R136 on the exact value, LIMITED added to the given status when step 5 saturates. -/
def mkSig (x : Dy) (st : Status) : SigWord :=
  match roundDy x with
  | (m, e, l) => ⟨m, e, { st with limited := st.limited || l }⟩

/-- The same for a fraction. -/
def mkSigRat (num : Int) (den : Nat) (st : Status) : SigWord :=
  match roundRat num den with
  | (m, e, l) => ⟨m, e, { st with limited := st.limited || l }⟩

/-- The integer form of R138: MANT = n at EXP 31. -/
def sigInt (n : Int) (st : Status) : SigWord := ⟨BitVec.ofInt 32 n, 31, st⟩
/-- A flag (R138). -/
def sigFlag (b : Bool) (st : Status) : SigWord := sigInt (if b then 1 else 0) st

/-- The integer a word carries (R138), in whatever encoding; none when its value is not whole. -/
def sigCarries (w : SigWord) : Option Int :=
  let v := sigVal w
  if dyNum v % (dyDen v : Int) = 0 then some (dyFloor v) else none

/-- An angle word (R187): MANT in units of 2^-32 turn at EXP −1, taken modulo 2^32. -/
def sigAngle (k : Int) (st : Status) : SigWord := ⟨BitVec.ofInt 32 k, BitVec.ofInt 8 (-1), st⟩

/-! ### Square root -/

/-- ⌊√n⌋ by bits: the next lower bit is kept when the square still fits. -/
def isqrtLoop : Nat → Nat → Nat → Nat
  | 0, _, r => r
  | k + 1, n, r =>
    let t := r + 2 ^ k
    isqrtLoop k n (if t * t ≤ n then t else r)
def isqrt (n : Nat) : Nat := isqrtLoop (bitLen n / 2 + 1) n 0

/-- √(num/den) rounded under R136 (num ≥ 0, den > 0). -/
def roundSqrt (num den : Nat) : BitVec 32 × BitVec 8 × Bool :=
  if num = 0 then (0, 0, false)
  else
    -- least e with num/den < 4^e
    let e2 := normExp false num den
    let e := (e2 + 1) / 2
    let s := 2 * (31 - e) + 2
    -- ⌊2·√v·2^(31−e)⌋ = isqrt ⌊4·v·4^(31−e)⌋
    let q := (num * 2 ^ s.toNat) / (den * 2 ^ (-s).toNat)
    normFinish (((isqrt q : Int) + 1) / 2) e

def mkSqrt (x : Dy) (st : Status) : SigWord :=
  match roundSqrt (dyNum x).toNat (dyDen x) with
  | (m, e, l) => ⟨m, e, { st with limited := st.limited || l }⟩

/-- x / y as a step of its own (R482), for y not zero. -/
def mkDiv (x y : Dy) (st : Status) : SigWord :=
  let n := dyNum x * (dyDen y : Int)
  let d := dyNum y * (dyDen x : Int)
  if d < 0 then mkSigRat (-n) d.natAbs st else mkSigRat n d.natAbs st

/-! ### Constants of R482 -/

/-- π × 2^256, rounded down. -/
def piFix : Nat := 0x3243f6a8885a308d313198a2e03707344a4093822299f31d0082efa98ec4e6c89

def constRat (num : Int) (den : Nat) : Dy := sigVal (mkSigRat num den Status.ok)
def cThird : Dy := constRat 1 3
def cInvSqrt3 : Dy := match roundSqrt 1 3 with | (m, e, _) => sigVal ⟨m, e, Status.ok⟩
def cSqrt3Half : Dy := match roundSqrt 3 4 with | (m, e, _) => sigVal ⟨m, e, Status.ok⟩
def cSqrt3 : Dy := match roundSqrt 3 1 with | (m, e, _) => sigVal ⟨m, e, Status.ok⟩
def cTwoPi : Dy := constRat (2 * piFix) (2 ^ 256)
def cInvTwoPi : Dy := constRat (2 ^ 255) piFix

/-! ### Sine and cosine (R167) -/

/-- Fraction bits of the fixed-point series. -/
def trigBits : Nat := 160

/-- Alternating series with terms t ← −t·x²/(d(d+1)) from t, n more terms. -/
def trigSeries (x2 : Int) : Nat → Int → Int → Int → Int
  | 0, _, _, acc => acc
  | n + 1, t, d, acc =>
    let t' := -(t * x2) / (2 ^ trigBits * (d * (d + 1)))
    trigSeries x2 n t' (d + 2) (acc + t')

/-- sin and cos of num/den turn, first quadrant (0 ≤ num/den ≤ 1/4), in units of 2^-trigBits. -/
def sinQuad (num den : Nat) : Int :=
  let x : Int := (2 * piFix * num) / (2 ^ (256 - trigBits) * den)
  let x2 := (x * x) / 2 ^ trigBits
  trigSeries x2 26 x 2 x
def cosQuad (num den : Nat) : Int :=
  let x : Int := (2 * piFix * num) / (2 ^ (256 - trigBits) * den)
  let x2 := (x * x) / 2 ^ trigBits
  trigSeries x2 26 (2 ^ trigBits) 1 (2 ^ trigBits)

/-- Rounded to nearest at 2^-30, ties toward +∞. -/
def trigRound (v : Int) : Int := (v + 2 ^ (trigBits - 31)) / 2 ^ (trigBits - 30)

/-- sin of k × 2^-24 turn, in units of 2^-30. -/
def sin30 (k : Int) : Int :=
  let k := (k % 2 ^ 24).toNat
  let q := k / 2 ^ 22
  let r := k % 2 ^ 22
  if q = 0 then trigRound (sinQuad r (2 ^ 24))
  else if q = 1 then (if r = 0 then 2 ^ 30 else trigRound (cosQuad r (2 ^ 24)))
  else if q = 2 then trigRound (-(sinQuad r (2 ^ 24)))
  else if r = 0 then -(2 ^ 30) else trigRound (-(cosQuad r (2 ^ 24)))
def cos30 (k : Int) : Int := sin30 (k + 2 ^ 22)

/-- The angle of a word modulo 1, truncated to 2^-24 turn (R167). -/
def turn24 (w : SigWord) : Int := (dyFloorAt (sigVal w) 24) % 2 ^ 24
def sinOf (w : SigWord) : Dy := ⟨sin30 (turn24 w), -30⟩
def cosOf (w : SigWord) : Dy := ⟨cos30 (turn24 w), -30⟩

/-! ### The angle of a vector (R482) -/

/-- Bits from the top: keep bit b of k when the direction (2k − 1) × 2^-33 turn does not lie beyond (x, y), which is in the
first quadrant. -/
def angleLoop (x y : Int) : Nat → Nat → Nat
  | 0, k => k
  | b + 1, k =>
    let t := k + 2 ^ b
    let m := 2 * t - 1
    angleLoop x y b (if x * sinQuad m (2 ^ 33) ≤ y * cosQuad m (2 ^ 33) then t else k)

/-- The angle of (x, y) in units of 2^-32 turn, rounded with ties toward +∞, modulo 2^32, for a vector that is not zero. -/
def angleUnits (x y : Int) : Int :=
  let go (x y : Int) : Int := (angleLoop x y 31 0 : Int)
  let k : Int :=
    if 0 < x ∧ 0 ≤ y then go x y
    else if x ≤ 0 ∧ 0 < y then 2 ^ 30 + go y (-x)
    else if x < 0 ∧ y ≤ 0 then 2 ^ 31 + go (-x) (-y)
    else 3 * 2 ^ 30 + go (-y) x
  k % 2 ^ 32

/-- The same for two exact numbers, brought to one exponent. -/
def dyAngle (x y : Dy) : Int :=
  let e := min x.e y.e
  angleUnits (shl x.n (x.e - e)) (shl y.n (y.e - e))

/-! ### Small helpers -/

/-- v clipped to 32 bits, and whether it was. -/
def clip32 (v : Int) : Int × Bool :=
  if v > 2 ^ 31 - 1 then (2 ^ 31 - 1, true) else if v < -(2 ^ 31) then (-(2 ^ 31), true) else (v, false)

/-- A counter that saturates (R385 and the saturating status fields). -/
def satInc (lim n : Nat) : Nat := if n < lim then n + 1 else lim
/-- A 32-bit counter (R385). -/
def satInc32 (n : Nat) : Nat := satInc (2 ^ 32 - 1) n

/-- Field [hi:lo] of a number. -/
def bits (n hi lo : Nat) : Nat := (n / 2 ^ lo) % 2 ^ (hi + 1 - lo)
/-- A two's-complement field of w bits as a number. -/
def signedBits (n w : Nat) : Int := if n < 2 ^ (w - 1) then (n : Int) else (n : Int) - 2 ^ w
/-- n as an unsigned w-bit field. -/
def toField (n : Int) (w : Nat) : Nat := (n % 2 ^ w).toNat
/-- A flag at bit i of a status word. -/
def flagN (b : Bool) (i : Nat) : Nat := if b then 2 ^ i else 0
/-- ⌈a / b⌉. -/
def ceilDiv (a b : Nat) : Nat := (a + b - 1) / b

end Sys2Proof.Machine
end

