-- ==== Sys2Proof/Machine/State.lean ====
section
/-! DEFINITION. The state of the TH960 as plain data: time, the three lanes, the voters, the drive dies, the edge links,
the network, CAN, the pair, the safety I/O, the host window, management, the journal, start-up, self-test and power; the
queue of waiting commands; and the state after POR_N is applied. Every number field says its unit. -/

namespace Sys2Proof.Machine
open Sys2Proof

/-! ### One value per lane -/

/-- One value for each of the three lanes. -/
structure Tri (α : Type) where
  a : α
  b : α
  c : α
  deriving DecidableEq, Repr

def Tri.get {α : Type} (t : Tri α) : Lane → α
  | .a => t.a
  | .b => t.b
  | .c => t.c
def Tri.set {α : Type} (t : Tri α) (l : Lane) (v : α) : Tri α :=
  match l with
  | .a => { t with a := v }
  | .b => { t with b := v }
  | .c => { t with c := v }
def Tri.map {α β : Type} (f : α → β) (t : Tri α) : Tri β := ⟨f t.a, f t.b, f t.c⟩
/-- The same value in every lane. -/
def Tri.all {α : Type} (v : α) : Tri α := ⟨v, v, v⟩

/-! ### Time (Global Time, the Bell and the Eight Clock Domains) -/

/-- Device time. `clk` counts GCLK periods of 1.5625 ns from the release of POR_N. GT runs from the first bell on: `gt` and its
2^-32 fraction `frac`, advancing by 2^32 + `rate` units of 2^-32 per GCLK (R36, R41). -/
structure TimeSt where
  clk       : Nat
  gt        : BitVec 64
  frac      : BitVec 32
  run       : Bool
  /-- rate correction in force, 2^-32 GT units per GCLK -/
  rate      : Int
  /-- correction computed at the bell, to take effect at bell + T_F (R41) -/
  nextRate  : Option Int
  /-- correction that did not fit, in fine units of 195.3125 ps (R41) -/
  carry     : Int
  /-- GT of the next fast-cycle boundary -/
  nextFc    : BitVec 64
  /-- index j within the network cycle of that boundary, 0 for a bell (R39) -/
  fcIdx     : Nat
  /-- the first bell has come -/
  belled    : Bool
  /-- that boundary was a bell whose bell work has not run yet -/
  bellDue   : Bool
  /-- CYCLE: the number of the network cycle in progress, modulo 2^32 -/
  cycle     : BitVec 32
  /-- GT of the bell that opened it -/
  bellGt    : BitVec 64
  /-- fast cycles since the first bell, for the digest slice and the voter test (R82, R117) -/
  fcCount   : Nat
  /-- GT_HI as latched by the last read of GT_LO (R368) -/
  gtHi      : BitVec 32
  /-- the part of a strobe's error that is common to the three lanes, in 2^-32 GT units (Table 2-5) -/
  strobeErr : Int
  /-- RING_SYNC_LOST (Table 2-6) -/
  syncLost  : Bool
  /-- the AON clock was reported faulty (Table 2-6) -/
  aclkBad   : Bool
  /-- XCLK absent or a serdes unlocked (Table 2-6) -/
  serdesBad : Bool
  deriving DecidableEq, Repr

/-! ### The image as parsed (Timetable Images and the Maquette Contract) -/

/-- A mode record (Table 4-3). -/
structure ModeRec where
  start  : Nat
  count  : Nat
  net    : Nat
  number : Nat
  deriving DecidableEq, Repr
/-- A signal map record (Table 4-7). KIND 0 computed, 1 analog or position, 2 discrete, 3 counter. -/
structure SigRec where
  init     : SigWord
  kind     : Nat
  inState  : Bool
  host     : Bool
  rollcall : Bool
  index    : Nat
  nameId   : BitVec 32
  deriving DecidableEq, Repr
/-- A coefficient record (R83): `words` holds b0, b1, b2, a1, a2 of each section in turn. -/
structure CoefRec where
  loop     : Nat
  bank     : Nat
  stages   : Nat
  sections : Nat
  words    : List Word
  exps     : List Byte
  deriving DecidableEq, Repr
/-- A configuration record (R84). -/
structure CfgRec where
  pid   : Nat
  host  : Bool
  value : DWord
  deriving DecidableEq, Repr
/-- A slot record (Table 15-4). KIND 1 DATA, 2 TIMED. -/
structure SlotRec where
  start  : Nat
  len    : Nat
  ports  : Nat
  number : Nat
  txNode : Nat
  maxLen : Nat
  kind   : Nat
  deriving DecidableEq, Repr
/-- A network table (Tables 15-3 and 15-4). -/
structure NetTable where
  window    : Nat
  hop       : Nat
  pairDelay : Nat
  recess    : Nat
  slots     : List SlotRec
  deriving DecidableEq, Repr

/-- An accepted image. `entries` and `descs` are the 64-bit words of the two sections. -/
structure Img where
  size        : Nat
  tfCode      : Nat
  k           : Nat
  initialMode : Nat
  rateLimit   : Nat
  paired      : Bool
  secVersion  : Nat
  imageId     : BitVec 64
  digest      : List Byte
  modes       : List ModeRec
  entries     : List DWord
  descs       : List DWord
  sigmap      : List SigRec
  ranges      : List (Nat × Nat)
  coefs       : List CoefRec
  config      : List CfgRec
  nets        : List NetTable
  deriving DecidableEq, Repr

/-! ### A lane -/

/-- What a lane is doing (R52, R56, R111, R112). `off`: its domain is down. -/
inductive Phase where
  | idle | live | out | probation | failed | off
  deriving DecidableEq, Repr

/-- An operation that has been dispatched and not completed (R53, R77): its results are visible at lane clock `due`. -/
structure Late where
  unit   : Nat
  /-- index of the entry in the mode's array -/
  entry  : Nat
  due    : Nat
  /-- bytes of lane memory it writes -/
  cells  : List Host.Cell
  /-- fields it stages, by PARAM_ID (R60, R62) -/
  stage  : List (Nat × DWord)
  coef   : Option CoefRec
  /-- groups it has posted a word to, once for each word (R56) -/
  groups : List Group
  deriving DecidableEq, Repr

/-- The sequencer and its fault latch (Timetable Execution). -/
structure SeqSt where
  phase    : Phase
  /-- cause of the most recent lane-out (Table 3-2) -/
  cause    : Nat
  outCount : Nat
  fEntry   : Nat
  fUnit    : Nat
  fMode    : Nat
  /-- entry pointer within the mode's array (R50) -/
  ptr      : Nat
  /-- lane clock, counted from the bell, of the last dispatch -/
  last     : Option Nat
  /-- units still executing: (unit, lane clock of the deadline) (R54) -/
  busy     : List (Nat × Nat)
  /-- operations in progress, oldest dispatch first (R77) -/
  late     : List Late
  mode     : Nat
  /-- pending mode (R66) -/
  pend     : Option Nat
  /-- markers written to the lane trace (Table 4-5), oldest first -/
  trace    : List Word
  /-- CRC-64 of what the lane received at load (R91) -/
  loadCrc  : BitVec 64
  /-- the lane monitor core has stopped or faulted (R69) -/
  lmcDown  : Bool
  /-- the partner lanes whose monitor core's loss this lane's core has reported (R69) -/
  lmcPeers : Tri Bool
  /-- posts the lane monitor core discarded unacknowledged (R18) -/
  lmcDrops : Nat
  /-- matching fast cycles in probation (R112) -/
  match2   : Nat
  /-- recomputations failed in a row (R112) -/
  fails    : Nat
  /-- fast-cycle count at which probation began (R112) -/
  probFc   : Nat
  /-- GT at which the lane last went out (R109) -/
  outGt    : Nat
  /-- the GT replica (R42): its count in 2^-32 GT units at lane clock `repClk`, counted from the last bell -/
  rep      : Nat
  repClk   : Nat
  /-- rate correction of the replica in 2^-32: it advances by 0.8 × (1 + corr) GT units a lane clock -/
  corr     : Int
  /-- replica minus hub GT in 2^-32 GT units when the hub count was `devAt`, and how fast that grows in 2^-32 -/
  dev      : Int
  devAt    : Nat
  drift    : Int
  /-- fast-cycle boundaries in a row without a hub strobe; the lane free-runs on the roll-call median (R43, R45) -/
  noStrobe : Nat
  freeRun  : Bool
  /-- the lane's clock monitor found its clock stopped, unlocked or off frequency (R45) -/
  clkBad   : Bool
  /-- exchanges in a row more than 10 ns off the median (R43) -/
  offMed   : Nat
  /-- the lane's last slip count, for the maquette's readers (R49) -/
  slip     : Nat
  /-- payload elements saturated (R283): Table 20-12 has no word for this count -/
  postSat  : Nat
  deriving DecidableEq, Repr

/-- A shadowed field (R58 to R62). `staged`: written to the shadow, no commit point assigned; `due`: values with an assigned
commit point, oldest first. A timetable-owned staged value has its commit point at the next boundary or bell of its class. -/
structure CfgField where
  pid    : Nat
  host   : Bool
  live   : DWord
  staged : Option DWord
  /-- GT at which the staged value reached the shadow -/
  at_    : Nat
  due    : List (BitVec 64 × DWord)
  deriving DecidableEq, Repr

/-- A staged coefficient set (group 0x0F0). -/
structure CoefStage where
  host : Bool
  at_  : Nat
  due  : Option (BitVec 64)
  rcd  : CoefRec
  deriving DecidableEq, Repr

/-- Roll-call memory of one signal (R128, R129): per lane the marks and their counts of good exchanges. -/
structure RcSig where
  idx     : Nat
  last    : SigWord
  suspect : Tri Bool
  failed  : Tri Bool
  good    : Tri Nat
  cands   : Nat
  deriving DecidableEq, Repr

/-- What a lane counts of its roll calls (R129, R134). `marked`: per lane the signals marked in the present fast cycle. -/
structure RcStat where
  substN  : Nat
  pairN   : Nat
  absent  : Bool
  echoMis : Nat
  marked  : Tri (List Nat)
  deriving DecidableEq, Repr

/-- An event of the PWM timebase: time in fine units of 195.3125 ps and the LEG code (Table 9-7). -/
structure Ev where
  t   : Nat
  leg : Nat
  /-- a repeat of R182, which an event released for the same half period replaces -/
  rep : Bool
  deriving DecidableEq, Repr

/-- What the output stage of a half-bridge or channel remembers for the half periods of R182, times in fine units: an event 0 whose event 1
has not come, the last pair released, the start of the half period that stands in its queue as a repeat. -/
structure HalfSt where
  first : Option Ev
  last  : Option (Ev × Ev)
  repAt : Nat
  deriving DecidableEq, Repr

/-- An FCU or converter unit: the effective state latched by its last modulation or compare write (R177, Tables 9-5 and
11-2) and what its status word reports (Tables 9-13 and 11-9). -/
structure FcuSt where
  /-- 0 RUN, 1 ALL_OFF, 2 ASC_LOW, 3 ASC_HIGH; for a converter unit 0 RUN, 1 OFF -/
  eff     : Nat
  /-- row of Table 9-5 that applied, 0 before the first modulation -/
  row     : Nat
  pair    : Bool
  vlimit  : Bool
  /-- a duty clamped at d_hi; for a converter unit, a shift clamped in this fast cycle -/
  clamped : Bool
  drop    : Bool
  /-- MDEPTH_Q; for the chopper its duty in 2^-16 -/
  depth   : Nat
  deriving DecidableEq, Repr

/-- States of the loss-of-lock sequence (Table 10-5). -/
inductive Lol where
  | normal | ramp | asc | probe | release | failed
  deriving DecidableEq, Repr

/-- The state of an observer unit (R194 to R202). -/
structure ObsSt where
  psiA      : SigWord
  psiB      : SigWord
  thO       : BitVec 32
  wO        : SigWord
  locked    : Bool
  lockRuns  : Nat
  unlock    : Nat
  chk       : Nat
  /-- angle and speed of the source at the last run in which the two sources agreed, and runs since -/
  agree     : Option (BitVec 32 × SigWord × Nat)
  sensDist  : Bool
  /-- the observer is distrusted until it locks again (R196) -/
  obsDist   : Bool
  sensGood  : Nat
  sensFault : Bool
  /-- 0 sensor, 1 observer, 2 none -/
  source    : Nat
  lol       : Lol
  tq        : SigWord
  prevIn    : Int
  srcRuns   : Nat
  /-- the FCU runs on its observer with SRC = 0b00 (R198) -/
  onObs     : Bool
  /-- GT at which PROBE was entered, and of the first valley that a probe pulse of it spans (R201) -/
  entered   : BitVec 64
  probeFrom : BitVec 64
  /-- consecutive good probes: angle of di and the speed estimates -/
  probes    : Nat
  probeAng  : Option (BitVec 32)
  probeSpd  : List SigWord
  theta     : BitVec 32
  omega     : SigWord
  /-- the estimate of ASC (R199): its last angle, whether the last run gave one, and the speed the EMF test takes -/
  ascAng    : Option (BitVec 32)
  ascRun    : Bool
  ascOm     : SigWord
  deriving DecidableEq, Repr

/-- A resolver-to-digital channel (R189, R190). Angle in 2^-32 turn; amplitude in µV; phase in 2^-16 period; times in 2^-32 GT units. -/
structure RdcSt where
  theta   : BitVec 32
  speed   : SigWord
  fault   : Bool
  good    : Nat
  bigErr  : Nat
  /-- amplitude and phase of the last 256 sample pairs, the latest first -/
  hist    : List (Nat × Int)
  /-- instant of the last sample pair -/
  at_     : Nat
  /-- RDC_PHASE in force before the GT at which the live value last changed -/
  phOld   : Int
  phAt    : Option Nat
  draws   : Nat
  deriving DecidableEq, Repr

/-- An encoder/Hall input (R192, R193). Times in units of 1.25 ns. -/
structure EncSt where
  w0     : Bool
  w1     : Bool
  w2     : Bool
  cnt    : BitVec 32
  /-- the first Z edge has been seen -/
  zSeen  : Bool
  fault  : Bool
  good   : Nat
  /-- time of the last edge or transition, and of the one before -/
  edge   : Option Nat
  edgeB  : Option Nat
  /-- +1 or −1: the direction of the last transition -/
  dir    : Int
  /-- the last sector that a Hall code named -/
  sector : Option Nat
  /-- count and edge time seen by the previous read -/
  readC  : BitVec 32
  readT  : Option Nat
  /-- no edge for 100 ms -/
  still  : Bool
  deriving DecidableEq, Repr

/-- Measurement state of a lane (Measurement Inputs and the Limp Command Input). -/
structure MeasSt where
  /-- REF_FAULT of ADC0 to ADC3 and the good conversions in a row of each (R257) -/
  refFault : BitVec 4
  refGood  : List Nat
  din      : BitVec 16
  /-- what is in default calibration: the parameters 0x080 and 0x089 of its inputs and resolver channels (R259, R190) -/
  calDef   : List Nat
  /-- the table held failed the parity check of the cast in progress (R260) -/
  calBad   : Bool
  lciVal   : SigWord
  lciOk    : Bool
  /-- the measurement since its restart (R267), times in units of 1.25 ns: when it restarted, the last conversion or the end of the last period,
  and the conversions or periods of the last LCI_WIN, the latest first: time, code or high time, period -/
  lciFrom  : Nat
  lciEdge  : Nat
  lciHist  : List (Nat × Nat × Nat)
  deriving DecidableEq, Repr

/-- The safe stop block of a lane (Safety Functions and Fault Handling Times): its declared state. -/
structure StopSt where
  /-- 0 RUN, 1 RAMP, 2 STOPPED, 3 TRIPPED -/
  state   : Nat
  cause   : Nat
  /-- parameter set of the stop, 1 or 2 -/
  pset    : Nat
  /-- GT of the boundary at which RAMP becomes live: t = 0 -/
  gt0     : Nat
  /-- v0, and the last VALID, non-STALE |V_VEH| read since release -/
  v0      : SigWord
  lastV   : Option SigWord
  /-- V_VEH was not VALID or STALE in the run before -/
  inval   : Bool
  /-- start of the first run of the unbroken series at standstill in RAMP -/
  still   : Option Nat
  viol    : Bool
  spdInv  : Bool
  /-- runs in a row in which fault tolerance is lost (R363) -/
  grace   : Nat
  ftLost  : Bool
  /-- DISCREP: runs in a row that differ; latched; first run of the demand on both; 50 ms of it reached; first return -/
  diffs   : Nat
  disc    : Bool
  both    : Option Nat
  armed   : Bool
  rel     : Option Nat
  /-- bits of the demand word, and the deceleration demanded of the brake-blending block -/
  bits    : Nat
  decel   : SigWord
  /-- the signals of the pair roll call that the last run was wired to (R362) -/
  io      : Option StopIo
  deriving DecidableEq, Repr

/-- The DC-link, chopper and precharge blocks of a lane (DC Link, Converter and Charger Control). -/
structure DclSt where
  f1     : Bool
  f2     : Bool
  f3     : Bool
  f4     : Bool
  f4l    : Bool
  chop   : Bool
  blend  : Bool
  /-- runs in a row at full chopper duty, CHOP_CHK as the last run read it, and VDC in the first of them -/
  chopN  : Nat
  chopK  : Nat
  chopV  : SigWord
  vdc    : SigWord
  /-- precharge: 0 idle, 1 to 4 steps, 7 FAIL; GT at which the step began -/
  pre    : Nat
  preAt  : Nat
  deriving DecidableEq, Repr

/-- Everything one lane die holds. -/
structure LaneSt where
  seq   : SeqSt
  /-- lane SRAM and signal memory in the lane memory space (R481); an unlisted byte is zero -/
  mem   : List Host.Cell
  cfg   : List CfgField
  coef  : List CoefRec
  coefS : List CoefStage
  /-- bank-change latches (R162): the loops whose latch is set -/
  bankL : List Nat
  rc    : List RcSig
  /-- lane-suspect marks (R129) as this lane holds them -/
  laneS : Tri Bool
  rcs   : RcStat
  fcu   : List FcuSt
  obs   : List ObsSt
  /-- pending pairs of events of the PWM timebase, by channel (R177) -/
  pwm   : List (Nat × Ev × Ev)
  rdc   : List RdcSt
  enc   : List EncSt
  meas  : MeasSt
  stop  : StopSt
  dcl   : DclSt
  /-- park-lock command in force (Table 9-11) and whether it executes -/
  park  : Nat
  /-- payload takes: descriptor, stale takes in a row, the swap count seen by the last take -/
  takes : List (Nat × Nat × Nat)
  /-- the running CRC-64 over the words posted by each post port in the present fast cycle (R336) -/
  outCrc : List (Nat × BitVec 64)
  /-- TAG counts: posts of each group in the present fast cycle -/
  tags  : List (Group × Nat)
  deriving DecidableEq, Repr

/-! ### Voters (Three Lanes: Comparison, Voting and Recomputation) -/

/-- A voted unit: the 72-bit word of Table 5-2, or the words of a payload post (R95). -/
structure VWord where
  tag    : BitVec 8
  launch : BitVec 32
  fine   : BitVec 3
  item   : BitVec 5
  value  : BitVec 24
  data   : List DWord
  deriving DecidableEq, Repr

/-- A queued word in an alignment queue. -/
structure QWord where
  w   : VWord
  ok  : Bool
  at_ : Nat
  dup : Bool
  deriving DecidableEq, Repr

/-- A voted group: words in flight from each lane, the alignment queues, and TAGs already decided (fast cycle of the verdict
and the word released). -/
structure GroupSt where
  g       : Group
  flight  : Tri (List VWord)
  queue   : Tri (List QWord)
  decided : List (BitVec 8 × Nat × Option VWord)
  /-- lanes this voter has itself named and takes as absent from then on (R102) -/
  named   : List Lane
  /-- held since the verdict of this TAG -/
  held    : Option (BitVec 8)
  silent  : Bool
  deriving DecidableEq, Repr

/-- The voters and the recomputation in progress. -/
structure VotSt where
  groups   : List GroupSt
  /-- lanes known out at each voter place (R102) -/
  outSeen  : List (VoterPlace × Lane)
  /-- voters of Table 5-7 with a voter fault: bit numbers 20 to 26 -/
  faults   : List Nat
  /-- voter cells whose verdict has differed from that of the other two: group and the lane in whose clock the cell runs (R103) -/
  cells    : List (Group × Lane)
  /-- the test words in the reserved test entries of every voter's queues, by lane (R117) -/
  test     : Tri (BitVec 72)
  /-- fewer than two lanes were live after release: the device stays fail-silent (R30, R106) -/
  dead     : Bool
  devFault : Bool
  /-- cast in progress: target, end-of-sweep markers seen, GT of the later marker (R109 to R111) -/
  cast     : Option (Lane × List Lane × BitVec 64)
  /-- rotation in progress, and whether BIST is still running (R119, R120) -/
  rot      : Option Lane
  rotBist  : Bool
  rotNext  : Lane
  rotCount : Nat
  /-- GT of the start of the previous rotation, or of release -/
  rotGt    : BitVec 64
  /-- second words of one TAG from one lane (R96): Table 20-12 has no word for this count -/
  dups     : Nat
  /-- lanes live at the last fast-cycle boundary (R126) -/
  liveFc   : List Lane
  deriving DecidableEq, Repr

/-! ### Gate drive (Integrated Gate Drive) -/

/-- Causes of a latch (Table 12-8). -/
inductive LatchCause where
  | vds | hardShort | gateStuck | bsFault | diag | vgdUv
  deriving DecidableEq, Repr

/-- One switch of a half-bridge. Times in fine units. -/
structure Switch where
  on      : Bool
  /-- time of the last turn-off -/
  offAt   : Nat
  onAt    : Nat
  latch   : List LatchCause
  /-- protection settings taken at the turn-on (Table 12-7) -/
  vth     : Nat
  blank   : Nat
  /-- the hard-short comparator is armed; blanking has ended -/
  armed   : Bool
  blanked : Bool
  /-- turned off at the SOFT current -/
  soft    : Bool
  deriving DecidableEq, Repr

/-- A half-bridge. -/
structure HbSt where
  hi      : Switch
  lo      : Switch
  /-- a turn-on waiting behind the dead time and the interlock: side and earliest time -/
  pend    : Option (Side × Nat)
  /-- the interlock has been seen to hold it; the dead time of its event (R220, R221) -/
  hold    : Bool
  dt      : Nat
  /-- the dead time that was live before the last commit of another, and the time of that commit (R221) -/
  dtOld   : Nat × Nat
  /-- voted events released and not yet executed -/
  evq     : List Ev
  half    : HalfSt
  /-- VBS has not reached 8.0 V since power-up or its last fall (R224) -/
  bsLow   : Bool
  /-- BS_UV is raised; it has been raised since the last boundary -/
  bsUv    : Bool
  bsSeen  : Bool
  /-- GCLK of the first boundary that delivered BS_UV (R225) -/
  bsAt    : Option Nat
  /-- last diagnostic result (Table 12-8) -/
  diag    : Nat
  vbs     : Nat
  deriving DecidableEq, Repr

/-- Off-state diagnostics running on a unit (R232): the job that asked, the step, when it started. -/
structure DiagRun where
  unit  : Nat
  step  : Nat
  job   : Option Nat
  clear : Bool
  /-- GCLK at which the present step began -/
  start : Nat
  /-- result so far, coded as DIAG, 0 while none, and the failing node -/
  result : Nat
  node   : Nat
  deriving DecidableEq, Repr

/-- The two drive dies. `p…`: the protection word as delivered at the last boundary (R174). -/
structure GdSt where
  hb      : List HbSt
  vgdUv   : Bool × Bool
  vgdMv   : Nat × Nat
  diag    : List DiagRun
  /-- units waiting for their power-up diagnostics (R234) -/
  diagQ   : List Nat
  /-- latch clears waiting for their commit point: unit, GT, job (R230) -/
  clears  : List (Nat × Nat × Option Nat)
  /-- banks whose VGD_UV latch has been reported -/
  pVgd    : Bool × Bool
  /-- delivered: (HB, side) latched; HBs with BS_UV; excitation faults -/
  pLatch  : List (Nat × Side)
  /-- causes of those latches that have their record (R228) -/
  pCause  : List (Nat × Side × LatchCause)
  pBsUv   : List Nat
  pExc    : List Nat
  /-- excitation faults as the drive dies see them (R188) -/
  exc     : List Nat
  /-- each amplifier's waveform: GT of the bell at which it last began, and its period in GT units -/
  excGt   : List (BitVec 64)
  excPer  : List Nat
  deriving DecidableEq, Repr

/-! ### Edge links -/

/-- An event for an EVENT frame (Table 13-2). -/
structure EdgeEv where
  t   : Nat
  ev  : Bool
  ch  : Nat
  leg : Nat
  /-- a repeat of R182, and the time from which it may be sent: a run of its half period can no longer release events then -/
  rep : Option Nat
  deriving DecidableEq, Repr

/-- Frames of Table 13-1 as sent. -/
inductive EdgeFrame where
  | event (es : List EdgeEv)
  | sync (gt : BitVec 32) (fine : Nat) (delay : Nat)
  | heartbeat (active inStep pairId : Bool) (seq : Nat) (silent : Nat)
  | command (mask : Nat)
  deriving DecidableEq, Repr

/-- Return values of a STATUS frame as latched at a boundary (R263). -/
structure EdgeRet where
  desat : BitVec 24
  uv    : BitVec 24
  sel   : Bool
  safe  : Bool
  temp  : BitVec 16
  vph   : List (BitVec 16)
  samp  : Nat
  fresh : Bool
  deriving DecidableEq, Repr

/-- One edge link. Times of `t1` and DELAY in fine units. -/
structure LinkSt where
  hbSeq    : Nat
  hbDue    : Bool
  hbNext   : Nat
  syncDue  : Bool
  evq      : List EdgeEv
  /-- by channel -/
  half     : List (Nat × HalfSt)
  cmdq     : List Nat
  /-- the last 16 frames that left, newest first: bytes 0 to m and the CRC -/
  sent     : List (List Byte)
  t1       : Option Nat
  /-- the last measurements of DELAY, newest first, at most 8 (R244) -/
  meas     : List Int
  delay    : Nat
  /-- DELAY as last sent in SYNC -/
  sentDelay : Nat
  unobeyed : Nat
  /-- a valid STATUS within the last 4 intervals; RX down reported -/
  rxUp     : Bool
  rxDown   : Bool
  /-- GCLK at which the 4 intervals of R249 began: the last valid STATUS, or the start of the link -/
  rxClk    : Nat
  notObey  : Bool
  now      : EdgeRet
  latched  : EdgeRet
  txLane   : Lane
  /-- idle characters still owed after a clock switch (R251) -/
  guard    : Nat
  deriving DecidableEq, Repr

/-! ### The network (the two Belade Timed Network chapters) -/

/-- The two banks of an inbound payload (R281, R284): the frame that fills, the one the lanes read. -/
structure BankSt where
  key     : Nat
  filling : Option (List Byte)
  read    : List Byte
  /-- the read bank was refreshed at the most recent swap point -/
  fresh   : Bool
  deriving DecidableEq, Repr

/-- Reception of one slot in the present cycle (R279, R280). -/
structure SlotRx where
  slot    : Nat
  /-- SEQ, CYCLE and TX_TIME of the last valid frame -/
  last    : Option (BitVec 16 × BitVec 32 × BitVec 64)
  /-- valid copies seen since the last end of the acceptance windows -/
  copies  : Nat
  deriving DecidableEq, Repr

/-- A ring member or star port as timed by this device: violations in a row, muted, clean cycles in a row, frames and clean
frames of the present cycle (R297, R301). -/
structure GuardSt where
  id     : Nat
  viol   : Nat
  muted  : Bool
  clean  : Nat
  frames : Nat
  bad    : Bool
  deriving DecidableEq, Repr

/-- A ring member as this device sees it (R302 to R304). Times in GT units; DELTA and delays in fine units. -/
structure MemberSt where
  id     : Nat
  live   : Bool
  /-- cycles in a row with, and without, a valid frame -/
  seen   : Nat
  unseen : Nat
  inCyc  : Bool
  arr0   : Option Int
  arr1   : Option Int
  tx     : Int
  delta  : Option Int
  d0     : Option Int
  d1     : Option Int
  mode   : Nat
  echo   : Bool
  deriving DecidableEq, Repr

/-- A mode request held, own or echoed (R289). -/
structure ModeReq where
  mode   : Nat
  node   : Nat
  seq    : Nat
  own    : Bool
  /-- network cycles since an own request -/
  age    : Nat
  job    : Option Nat
  /-- CYCLE of the switch bell, once announced -/
  switch : Option (BitVec 32)
  /-- NAK set in this member's frames (R291) -/
  nak    : Bool
  deriving DecidableEq, Repr

/-- Ring start-up states (Table 16-3). -/
inductive RingState where
  | standalone | listen | backoff | coldstart | integrating | member | listenOnly
  deriving DecidableEq, Repr

/-- A released payload (R276, R287, R326): its descriptor, launch GT, whether it is timed and its ACT_TIME when valid. -/
structure TxPay where
  desc   : Nat
  launch : BitVec 64
  timed  : Bool
  act    : Option (BitVec 64)
  bytes  : List Byte
  deriving DecidableEq, Repr

/-- A frame waiting for a recess (R285, R286). -/
structure RecFrame where
  /-- class FORWARDED; else LOCAL -/
  fwd   : Bool
  ports : List Port
  bytes : List Byte
  src   : Port
  deriving DecidableEq, Repr

/-- A ring port. -/
structure RingPort where
  up      : Bool
  down    : Bool
  wrapped : Bool
  /-- valid BTN frames in the present cycle, complete clean cycles since link up -/
  valid   : Nat
  clean   : Nat
  /-- the present cycle began before the link came up -/
  part    : Bool
  deriving DecidableEq, Repr

structure NetSt where
  ring     : RingState
  /-- GCLK at which the present listen window or back-off began -/
  since    : Nat
  /-- nodes whose COLDSTART was heard in the window, with direction and GCLK of arrival -/
  heard    : List (Nat × Bool × Nat)
  /-- node whose frame is being integrated on -/
  integ    : Option Nat
  sending  : Bool
  synced   : Bool
  inBound  : Nat
  clash    : Bool
  tnBad    : Bool
  /-- per ring slot the CYCLE and TX_TIME of the last valid frame, in its window or not (R302) -/
  seenTx   : List (Nat × BitVec 32 × BitVec 64)
  /-- last m of R304, in 2^-16 GT units -/
  lastM    : Int
  /-- ρ in units of 2^-32 (R304) -/
  rho      : Int
  /-- ring delay measurements in fine units, newest first, at most 8 -/
  ringL    : List Int
  own0     : Option Int
  own1     : Option Int
  ownTx    : Int
  /-- TX_TIME of the ring frames sent in this network cycle and the one before -/
  ownSent  : List Nat
  /-- a ring frame with WRAP came or left in this network cycle, in the one before (R303) -/
  wrapNow  : Bool
  wrapOld  : Bool
  /-- GCLK of the last valid frame of a live member (R305) -/
  heardAt  : Option Nat
  badBells : Nat
  noBells  : Nat
  east     : RingPort
  west     : RingPort
  members  : List MemberSt
  mutes    : List GuardSt
  stars    : List GuardSt
  /-- star ports with a frame running through an open gate (R300) -/
  starRun  : List (Nat × Nat)
  rx       : List SlotRx
  banks    : List BankSt
  /-- released payloads waiting for their slot or buffer entry -/
  txq      : List TxPay
  txSeq    : List (Nat × BitVec 16)
  /-- the last frame each port sent -/
  lastTx   : List (Port × BtnFrame)
  /-- GT of that frame's first byte after the SFD, by the port's index (R276, R294, R298) -/
  leftAt   : List (Nat × Nat)
  recess   : List RecFrame
  /-- unscheduled frames the ports sent in their last recess -/
  recTx    : List (Port × List Byte)
  hostRx   : List (Port × List Byte)
  req      : Option ModeReq
  /-- a lane request that came after the announcement -/
  heldReq  : Option (Nat × Option Nat)
  reqSeq   : Nat
  nakCnt   : Nat
  confCnt  : Nat
  toutCnt  : Nat
  /-- a standalone switch: second bell after every live lane holds the pending mode -/
  saBells  : Nat
  rejoin   : Option (Nat × Nat)
  /-- the recess buffer in use in 64-byte units, as the mode agreement word shows it (R292) -/
  fill     : Nat
  deriving DecidableEq, Repr

/-! ### CAN FD -/

/-- A frame object (Table 17-7). -/
structure CanObj where
  h0   : Word
  h1   : Word
  ts   : Word
  data : List Byte
  deriving DecidableEq, Repr
/-- A TX buffer (Table 17-6). -/
structure CanBuf where
  obj    : CanObj
  req    : Bool
  abort  : Bool
  result : Nat
  coll   : Nat
  /-- a frame waiting to replace the one being sent (R326) -/
  repl   : Option CanObj
  deriving DecidableEq, Repr
/-- A lane receive object (R327): its two banks, the GT of the end of the filling frame's EOF, and how often it has swapped. -/
structure CanRx where
  obj     : Nat
  filling : Option CanObj
  endGt   : Nat
  read    : Option CanObj
  ver     : Nat
  deriving DecidableEq, Repr
/-- A CAN channel. BUS_STATE as Table 17-4. -/
structure CanSt where
  init    : Bool
  initReq : Bool
  boRec   : Bool
  listen  : Bool
  order   : Bool
  collLim : Nat
  ie      : Nat
  nbt     : Word
  dbt     : Word
  bus     : Nat
  rxOvf   : Bool
  hpLost  : Bool
  tec     : Nat
  rec_    : Nat
  bufs    : List CanBuf
  hpFilt  : Word × Word
  filts   : List (Word × Word)
  hp      : Option CanObj
  hpLock  : Bool
  fifo    : List CanObj
  fifoLock : Bool
  /-- the buffer being sent and the GT of its start of frame -/
  sending : Option (Nat × Word)
  lanes   : List CanRx
  laneOwn : Bool
  /-- the recovery job waiting, if any -/
  job     : Option Nat
  deriving DecidableEq, Repr

/-! ### The pair -/

/-- A source's half of a cast on the pair link (R337): the offset its sweep has reached, the end of its half, and the lane as the standby has
been told it so far. -/
structure CastHalf where
  src  : Lane
  off  : Nat
  fin  : Nat
  /-- the end-of-sweep marker has gone out -/
  done : Bool
  told : LaneSt
  deriving DecidableEq, Repr
/-- A cast on the pair link as the active sends it (R337, R338): an update cast or a full one. -/
structure CastOut where
  update : Bool
  halves : List CastHalf
  deriving DecidableEq, Repr

/-- Role states (Table 18-4). -/
inductive Role where
  | init | active | casting | probation | inStep | detached | yielded | faulty
  deriving DecidableEq, Repr

structure PairSt where
  pairId   : Bool
  role     : Role
  /-- role to take at the boundary with this GT -/
  next     : Option (Role × BitVec 64)
  epoch    : BitVec 32
  partner  : Option Heartbeat
  seen     : Bool
  up0      : Bool
  up1      : Bool
  dual     : Bool
  mismatch : Nat
  takeovers : Nat
  /-- GCLK of release, for INIT; GCLK of the last active HEARTBEAT -/
  relClk   : Nat
  lastHb   : Nat
  /-- GT of the boundary of the first HEARTBEAT sent, and received, with TC set (R334) -/
  tcAt     : Option Nat
  seenTc   : Option Nat
  silent   : Nat
  /-- fast cycles in a row without the active's digest; matching digests in a row -/
  noDig    : Nat
  matches_ : Nat
  /-- GT of recent disagreements -/
  disagree : List (BitVec 64)
  ownDig   : Option (BitVec 64 × BitVec 64)
  /-- TX_TIME of the latest valid ring frame from the partner's node -/
  ringTx   : Option (BitVec 64)
  sentHb   : Option Heartbeat
  handover : Option (BitVec 64)
  /-- service frames waiting for the ports with the GT at which each was handed over; the GT at which the ports fall idle; SEQ of the next frame
  and the SEQ last received, by TYPE 1 to 4; the last frame sent of each TYPE; CYCLE of the last ROLE or MAILBOX frame (R328, R331) -/
  svcq     : List (Nat × SvcBody)
  svcFree  : Nat
  svcSeq   : List (BitVec 16)
  svcRx    : List (Option (BitVec 16))
  svcSent  : List SvcFrame
  roleCyc  : Option (BitVec 32)
  /-- a cast being sent; one asked for and not started (an update cast or not); the hub pair state as last told (R339) -/
  castOut  : Option CastOut
  castReq  : Option Bool
  hubTold  : List CastItem
  /-- a cast being received: markers seen and the GT of the later -/
  castIn   : List Lane
  castInGt : BitVec 64
  update   : Bool
  /-- proposed or accepted swap: KIND, CYCLE, accepted, job -/
  swap     : Option (Nat × BitVec 32 × Bool × Option Nat)
  /-- relays waiting for the partner: job, words, tries -/
  relay    : Option (Nat × List Word × Nat)
  /-- the device was active at the last fast-cycle boundary: it ranks first (R133) -/
  rankFirst : Bool
  /-- GT at which the acceptance of the proposed swap came, and of the last swap or release (R345) -/
  accGt   : Nat
  lastSwap : Nat
  /-- boundaries in a row with SEL = 1 on EDGE0 while the own hub is lost (R341) -/
  selRuns : Nat
  /-- the last ROLE frame handed to the ports: OP, KIND, SWAP_CYCLE -/
  sentRole : Option (Nat × Nat × BitVec 32)
  deriving DecidableEq, Repr

/-! ### Safety I/O -/

/-- A safety I/O group (R348 to R357). -/
structure SioSt where
  req     : Bool
  /-- GCLK at which the accepted level became demand; the sampling phase in GCLK (R349) -/
  reqAt   : Nat
  phase   : Nat
  guard   : Bool
  ofault  : Bool
  lost    : Bool
  /-- released words waiting for their launch GT: launch and VALUE -/
  pend    : List (BitVec 64 × BitVec 24)
  stoOff  : Bool
  pbApply : Bool
  safeOk  : Bool
  /-- test pulses in progress: STO, PB_REL -/
  pulseS  : Bool
  pulseP  : Bool
  /-- GT of the starts of the last pulses, and GT of their present one -/
  pulseGt : BitVec 64
  deriving DecidableEq, Repr

structure SafetySt where
  a      : SioSt
  b      : SioSt
  /-- the safety input word as latched at the last boundary (Table 19-3) -/
  input  : Word
  deriving DecidableEq, Repr

/-! ### The host window and management -/

/-- An inbound mailbox (Table 20-7). `claim` the claimant with the GCLK of its last write. -/
structure InBox where
  data   : List Word
  len    : Nat
  full   : Bool
  sender : Nat
  claim  : Option (Nat × Nat)
  deriving DecidableEq, Repr
/-- An outbound mailbox (Table 20-8). -/
structure OutBox where
  data : List Word
  len  : Nat
  full : Bool
  deriving DecidableEq, Repr
/-- A long command (R389). -/
structure Job where
  num    : Nat
  code   : Nat
  req    : Request
  /-- commit point, switch bell or swap bell -/
  due    : BitVec 64
  /-- PARAM_IDs of a COMMIT -/
  pids   : List Nat
  done   : Bool
  /-- the completion reply is written: its reply-queue entry is free again (R382) -/
  replied : Bool
  status : Nat
  detail : Nat
  /-- result words of the completion reply -/
  res    : List Word
  deriving DecidableEq, Repr
/-- A kept UDP response (R374). -/
structure UdpResp where
  port   : Nat
  seq    : Nat
  op     : Nat
  addr   : Nat
  status : Nat
  attn   : Bool
  data   : List Word
  deriving DecidableEq, Repr

structure HostSt where
  inb     : List InBox
  outb    : List OutBox
  /-- reply queue: outbound number and words (R382) -/
  replies : List (Nat × List Word)
  events  : List (Nat × List Word)
  door    : Word
  enable  : Word
  dgSent  : Option (Word × Nat)
  udp     : List UdpResp
  answer  : Option UdpResp
  spi     : Nat
  /-- inbound mailbox drained last (R381) -/
  rr      : Nat
  /-- status words latched at boundaries and bells: offset and word -/
  win     : List (Nat × Word)
  /-- counters by word offset in the window, and the snapshot of the last bell (R385) -/
  cnt     : List (Nat × Nat)
  snap    : List (Nat × Nat)
  deriving DecidableEq, Repr

structure MgmtSt where
  bulk     : List Host.Cell
  /-- claim of the transfer buffer and the GCLK of the holder's last command (R392) -/
  claim    : Option (Nat × Nat)
  jobs     : List Job
  nextJob  : Nat
  /-- PARAM_STAGE replies waiting for delivery: request, number of records, staged values -/
  deliver  : List (Request × List (Nat × DWord))
  /-- next-release fields: in force, staged, written (R396) -/
  next     : List CfgField
  tests    : List (Nat × Nat × Nat × Nat × Nat)
  restart  : Option Nat
  /-- firmware slot writes in progress: slot, next offset -/
  fwNext   : List (Nat × Nat)
  challenge : Option (List Byte × Nat)
  attest   : List Byte
  /-- operating seconds, power cycles, rotations, retention account (units of 2^-32) -/
  opSec    : Nat
  cycles   : Nat
  account  : Nat
  temps    : List Int
  hot      : List Nat
  deriving DecidableEq, Repr

/-! ### Journal -/

/-- A record (Table 22-2) with its offset in its area; `bad` when its CRC fails or a word cannot be corrected. -/
structure Rec where
  pos     : Nat
  type    : Nat
  cls     : Nat
  source  : Nat
  seq     : BitVec 32
  rep     : Nat
  payload : List Byte
  bad     : Bool
  deriving DecidableEq, Repr
/-- An area of a store: its generation when its AREA_HEADER exists, the next SEQ it states, the write pointer, the records. -/
structure AreaSt where
  gen  : Option Nat
  next : BitVec 32
  ptr  : Nat
  recs : List Rec
  deriving DecidableEq, Repr
/-- A compaction in progress (R413, R414): slices done, target so far, SEQ bound of what step 2 copies, job. -/
structure CompSt where
  slice : Nat
  start : Nat
  bound : BitVec 32
  left  : Nat
  jobs  : List Nat
  deriving DecidableEq, Repr
structure StoreSt where
  a0     : AreaSt
  a1     : AreaSt
  active : Bool
  comp   : Option CompSt
  deriving DecidableEq, Repr
/-- A queued record (R411). -/
structure QRec where
  post : Post
  rep  : Nat
  cal  : Bool
  deriving DecidableEq, Repr
structure JournalSt where
  main    : StoreSt
  cal     : StoreSt
  queue   : List QRec
  nextSeq : BitVec 32
  evDrop  : Nat
  stDrop  : Nat
  merged  : Nat
  aged    : Nat
  reserve : Bool
  lastPl  : Bool
  warn    : Bool
  /-- MRAM words of the identity area found uncorrectable, and of the others -/
  badMram : List Nat
  deriving DecidableEq, Repr

/-! ### Start-up, self-test, power -/

/-- The fuse fields of Table 23-2: TRIM, OPTIONS, REPAIR, SERIAL, the three key hashes, DEVICE_SEED and ROLLBACK. -/
structure FuseSt where
  trim     : BitVec 1024
  rootHash : BitVec 512
  cust0    : BitVec 512
  cust1    : BitVec 512
  seed     : BitVec 256
  options  : BitVec 64
  repair   : List Word
  serial   : BitVec 128
  rollback : BitVec 64
  deriving DecidableEq, Repr

structure BootSt where
  /-- STAGE (Table 23-1) -/
  stage    : Nat
  released : Bool
  fuses    : FuseSt
  flash    : Flash
  /-- chosen slots, fall-back bits; `valid`: slots with a firmware (true) or an image (false) that passed its checks -/
  fwSlot   : Option Nat
  imgSlot  : Option Nat
  fallFw   : Bool
  fallImg  : Bool
  valid    : List (Nat × Bool)
  /-- GCLK at which the present stage began -/
  stageAt  : Nat
  imgFloor : Nat
  fwFloor  : Nat
  running  : Option Img
  debugOpen : Bool
  debugEver : Bool
  scan     : Bool
  selfDone : Bool
  /-- the identity key is in the engine's key registers -/
  keyOk    : Bool
  /-- identity area of the MRAM (R428): the private key of 4,896 bytes with its SHA3-512, the device certificate, the Rhafel device CA
  certificate -/
  privKey  : List Byte
  certDev  : List Byte
  certCa   : List Byte
  /-- DIGEST of the running firmware; KEY_SLOT of the running image -/
  fwDigest : List Byte
  keySlot  : Nat
  deriving DecidableEq, Repr

/-- Self-test results (Table 24-3). -/
structure TestSt where
  laneBist : Tri Nat
  hubBist  : Nat
  mram     : Nat
  dd       : Nat × Nat
  /-- lane BISTs in progress, each with the GCLK at which it began -/
  bistRun  : List (Lane × Nat)
  mramRun  : Option (Nat × Nat × Nat × Nat)
  corrected : Nat
  uncorr   : Nat
  failMem  : Tri Nat
  /-- UNREPAIRABLE of each lane (R436) -/
  unrep    : Tri Bool
  failMac  : Tri Nat
  /-- soft repairs in force: lane index, macro, spare, address -/
  soft     : List (Nat × Nat × Nat × Nat)
  ddFail   : Bool
  /-- the LCI comparators or converter failed: every LCI read is not VALID until restart (R438) -/
  lciBad   : Bool
  deriving DecidableEq, Repr

structure PowerSt where
  good    : BitVec 12
  on      : BitVec 12
  dropped : BitVec 12
  warn    : Bool
  cause   : Nat
  hubLost : Bool
  /-- PWR_SET jobs in progress: domain code and job (R402) -/
  jobs    : List (Nat × Nat)
  deriving DecidableEq, Repr

/-! ### The device and the state -/

/-- The whole device. -/
structure Dev where
  time  : TimeSt
  lanes : Tri LaneSt
  vot   : VotSt
  gd    : GdSt
  edge  : List LinkSt
  net   : NetSt
  can   : List CanSt
  pair  : PairSt
  safe  : SafetySt
  host  : HostSt
  mgmt  : MgmtSt
  jr    : JournalSt
  boot  : BootSt
  test  : TestSt
  pwr   : PowerSt
  /-- DEGRADED as last reported -/
  degr  : Bool
  /-- the model's own counter of open values drawn: it decides nothing the spec states -/
  draws : Nat
  deriving DecidableEq, Repr

/-- The machine: the device and the queue of commands that wait, first in, first out. -/
structure State where
  dev     : Dev
  pending : List Instr
  deriving DecidableEq, Repr

/-- Reasons to stop with a fault. No command of this device is undefined as a command, so no meaning raises one. -/
inductive Fault where
  /-- Raised by nobody: kept so that the type has a value. Safe. -/
  | unreachable
  deriving DecidableEq, Repr

/-- Reasons to refuse. -/
inductive Refusal where
  /-- A command without a meaning yet, by its mnemonic. Safe: nothing is claimed of it. -/
  | notModelled (mnemonic : String)
  deriving DecidableEq, Repr

/-! ### The state right after reset -/

def TimeSt.reset : TimeSt :=
  { clk := 0, gt := 0, frac := 0, run := false, rate := 0, nextRate := none, carry := 0, nextFc := 0, fcIdx := 0,
    belled := false, bellDue := false, cycle := 0, bellGt := 0, fcCount := 0, gtHi := 0, strobeErr := 0,
    syncLost := false, aclkBad := false, serdesBad := false }

/-- Zero in normal form with VALID: the value of a constant the device writes. -/
def sigZeroOk : SigWord := ⟨0, 0, Status.ok⟩

def SeqSt.reset : SeqSt :=
  { phase := .idle, cause := 0, outCount := 0, fEntry := 0, fUnit := 0, fMode := 0, ptr := 0, last := none, busy := [], late := [],
    mode := 0, pend := none, trace := [], loadCrc := 0, lmcDown := false, lmcPeers := Tri.all false, lmcDrops := 0, match2 := 0,
    fails := 0, probFc := 0, outGt := 0, rep := 0, repClk := 0, corr := 0, dev := 0, devAt := 0, drift := 0,
    noStrobe := 0, freeRun := false, clkBad := false, offMed := 0, slip := 0, postSat := 0 }

/-- The latch holds ALL_OFF before the first modulation (R177). -/
def FcuSt.reset : FcuSt := { eff := 1, row := 0, pair := false, vlimit := false, clamped := false, drop := false, depth := 0 }

def ObsSt.reset : ObsSt :=
  { psiA := sigZero, psiB := sigZero, thO := 0, wO := sigZero, locked := false, lockRuns := 0, unlock := 0, chk := 0,
    agree := none, sensDist := false, obsDist := false, sensGood := 0, sensFault := false, source := 0, lol := .normal, tq := sigZero,
    prevIn := 0, srcRuns := 0, onObs := false, entered := 0, probeFrom := 0, probes := 0, probeAng := none, probeSpd := [], theta := 0, omega := sigZero,
    ascAng := none, ascRun := false, ascOm := sigZero }

def RdcSt.reset : RdcSt :=
  { theta := 0, speed := sigZero, fault := false, good := 0, bigErr := 0, hist := [], at_ := 0, phOld := 0, phAt := none, draws := 0 }

def EncSt.reset : EncSt :=
  { w0 := false, w1 := false, w2 := false, cnt := 0, zSeen := false, fault := false, good := 0, edge := none,
    edgeB := none, dir := 0, sector := none, readC := 0, readT := none, still := false }

def MeasSt.reset : MeasSt :=
  { refFault := 0, refGood := [0, 0, 0, 0], din := 0, calDef := [], calBad := false, lciVal := sigZero,
    lciOk := false, lciFrom := 0, lciEdge := 0, lciHist := [] }

def StopSt.reset : StopSt :=
  { state := 0, cause := 0, pset := 1, gt0 := 0, v0 := sigZero, lastV := none, inval := false, still := none, viol := false,
    spdInv := false, grace := 0, ftLost := false, diffs := 0, disc := false, both := none, armed := false, rel := none,
    bits := 0, decel := sigZero, io := none }
def DclSt.reset : DclSt :=
  { f1 := false, f2 := false, f3 := false, f4 := false, f4l := false, chop := false, blend := false, chopN := 0, chopK := 8,
    chopV := sigZero, vdc := sigZero, pre := 0, preAt := 0 }

def RcStat.reset : RcStat := { substN := 0, pairN := 0, absent := false, echoMis := 0, marked := Tri.all [] }
def LaneSt.reset : LaneSt :=
  { seq := SeqSt.reset, mem := [], cfg := [], coef := [], coefS := [], bankL := [], rc := [], laneS := Tri.all false, rcs := RcStat.reset,
    fcu := List.replicate 11 FcuSt.reset, obs := List.replicate 8 ObsSt.reset, pwm := [],
    rdc := List.replicate 4 RdcSt.reset, enc := List.replicate 4 EncSt.reset, meas := MeasSt.reset,
    stop := StopSt.reset, dcl := DclSt.reset, park := 0, takes := [], outCrc := [], tags := [] }

def VotSt.reset : VotSt :=
  { groups := [], outSeen := [], faults := [], cells := [], test := Tri.all 0, dead := false, devFault := false, cast := none, rot := none, rotBist := false,
    rotNext := .a, rotCount := 0, rotGt := 0, dups := 0, liveFc := [] }

def HalfSt.reset : HalfSt := { first := none, last := none, repAt := 0 }
def Switch.reset : Switch :=
  { on := false, offAt := 0, onAt := 0, latch := [], vth := 7, blank := 3, armed := false, blanked := false, soft := false }
def HbSt.reset : HbSt :=
  { hi := Switch.reset, lo := Switch.reset, pend := none, hold := false, dt := 0, dtOld := (0, 0), evq := [], half := HalfSt.reset, bsLow := true, bsUv := false,
    bsSeen := false, bsAt := none, diag := 0, vbs := 0 }
def GdSt.reset : GdSt :=
  { hb := List.replicate 20 HbSt.reset, vgdUv := (false, false), vgdMv := (0, 0), diag := [], diagQ := [], clears := [], pVgd := (false, false), pLatch := [], pCause := [], pBsUv := [],
    pExc := [], exc := [], excGt := [0, 0], excPer := [64000, 64000] }

def EdgeRet.reset : EdgeRet :=
  { desat := 0, uv := 0, sel := false, safe := false, temp := 0, vph := List.replicate 12 0, samp := 0, fresh := false }
def LinkSt.reset : LinkSt :=
  { hbSeq := 0, hbDue := false, hbNext := 0, syncDue := false, evq := [], half := [], cmdq := [], sent := [], t1 := none, meas := [],
    delay := 0xFFFF, sentDelay := 0xFFFF, unobeyed := 0, rxUp := false, rxDown := false, rxClk := 0, notObey := false, now := EdgeRet.reset,
    latched := EdgeRet.reset, txLane := .a, guard := 0 }

def RingPort.reset : RingPort := { up := true, down := false, wrapped := false, valid := 0, clean := 0, part := false }
def GuardSt.reset (i : Nat) : GuardSt := { id := i, viol := 0, muted := false, clean := 0, frames := 0, bad := false }
def NetSt.reset : NetSt :=
  { ring := .standalone, since := 0, heard := [], integ := none, sending := false, synced := false, inBound := 0,
    clash := false, tnBad := false, seenTx := [], lastM := 0, rho := 0, ringL := [], own0 := none, own1 := none, ownTx := 0,
    ownSent := [], wrapNow := false, wrapOld := false, heardAt := none, leftAt := [], fill := 0, badBells := 0,
    noBells := 0, east := RingPort.reset, west := RingPort.reset, members := [], mutes := [],
    stars := (List.range 12).map GuardSt.reset, starRun := [], rx := [], banks := [], txq := [], txSeq := [], lastTx := [],
    recess := [], recTx := [], hostRx := [], req := none, heldReq := none, reqSeq := 0, nakCnt := 0, confCnt := 0, toutCnt := 0,
    saBells := 0, rejoin := none }

def CanObj.zero : CanObj := { h0 := 0, h1 := 0, ts := 0, data := [] }
def CanBuf.reset : CanBuf :=
  { obj := CanObj.zero, req := false, abort := false, result := 0, coll := 0, repl := none }
def CanSt.reset : CanSt :=
  { init := true, initReq := false, boRec := false, listen := false, order := false, collLim := 3, ie := 0, nbt := 0,
    dbt := 0, bus := 3, rxOvf := false, hpLost := false, tec := 0, rec_ := 0, bufs := List.replicate 3 CanBuf.reset,
    hpFilt := (0, 0), filts := List.replicate 32 (0, 0), hp := none, hpLock := false, fifo := [], fifoLock := false,
    sending := none, lanes := [], laneOwn := false, job := none }

def PairSt.reset : PairSt :=
  { pairId := false, role := .init, next := none, epoch := 0, partner := none, seen := false, up0 := false, up1 := false,
    dual := false, mismatch := 0, takeovers := 0, relClk := 0, lastHb := 0, tcAt := none, seenTc := none, silent := 0, noDig := 0,
    matches_ := 0, disagree := [], ownDig := none, ringTx := none, sentHb := none, handover := none, svcq := [], svcFree := 0,
    svcSeq := [0, 0, 0, 0], svcRx := [none, none, none, none], svcSent := [], roleCyc := none, castOut := none, castReq := none, hubTold := [], castIn := [], castInGt := 0, update := false, swap := none, relay := none, rankFirst := false, accGt := 0, lastSwap := 0, selRuns := 0, sentRole := none }

/-- From POR_N release the accepted level is demand (R349) and GUARD is clear (R354); the pins are low (R420). -/
def SioSt.reset : SioSt :=
  { req := true, reqAt := 0, phase := 0, guard := false, ofault := false, lost := false, pend := [], stoOff := true, pbApply := true,
    safeOk := false, pulseS := false, pulseP := false, pulseGt := 0 }
def SafetySt.reset : SafetySt :=
  { a := SioSt.reset, b := SioSt.reset, input := 0x3 }

def InBox.reset : InBox := { data := List.replicate 16 0, len := 0, full := false, sender := 0, claim := none }
def OutBox.reset : OutBox := { data := List.replicate 16 0, len := 0, full := false }
/-- The latched status words whose Reset column is not zero: FCU STATE (Table 9-13), DELAY (Table 13-7), REQ (Table 19-10). -/
def winReset : List (Nat × Word) :=
  (List.range 8).map (fun i => (0x80 + 4 * i, 0x40000000)) ++ [(0x160, 0xFFFF), (0x168, 0xFFFF), (0x200, 0x01800000)]
def HostSt.reset : HostSt :=
  { inb := List.replicate 16 InBox.reset, outb := List.replicate 16 OutBox.reset, replies := [], events := [], door := 0,
    enable := 0, dgSent := none, udp := [], answer := none, spi := 0, rr := 14, win := winReset, cnt := [], snap := [] }

def MgmtSt.reset : MgmtSt :=
  { bulk := [], claim := none, jobs := [], nextJob := 1, deliver := [], next := [], tests := [], restart := none,
    fwNext := [], challenge := none, attest := [], opSec := 0, cycles := 0, account := 0, temps := List.replicate 6 0, hot := [] }

def AreaSt.empty : AreaSt := { gen := none, next := 0, ptr := 0, recs := [] }
def StoreSt.empty : StoreSt := { a0 := AreaSt.empty, a1 := AreaSt.empty, active := false, comp := none }
def JournalSt.reset : JournalSt :=
  { main := StoreSt.empty, cal := StoreSt.empty, queue := [], nextSeq := 0, evDrop := 0, stDrop := 0, merged := 0, aged := 0,
    reserve := false, lastPl := false, warn := false, badMram := [] }

def FuseSt.zero : FuseSt := { trim := 0, rootHash := 0, cust0 := 0, cust1 := 0, seed := 0, options := 0, repair := [], serial := 0, rollback := 0 }
def Flash.erased : Flash :=
  { fwA := [], imgA := [], fwB := [], imgB := [], bcb0 := [], bcb1 := [] }
def BootSt.reset : BootSt :=
  { stage := 0, released := false, fuses := FuseSt.zero, flash := Flash.erased, fwSlot := none, imgSlot := none,
    fallFw := false, fallImg := false, valid := [], stageAt := 0, imgFloor := 0, fwFloor := 0, running := none,
    debugOpen := false, debugEver := false, scan := false, selfDone := false, keyOk := false,
    privKey := [], certDev := [], certCa := [], fwDigest := [], keySlot := 0 }

def TestSt.reset : TestSt :=
  { laneBist := Tri.all 0, hubBist := 0, mram := 0, dd := (0, 0), bistRun := [], mramRun := none, corrected := 0,
    uncorr := 0, failMem := Tri.all 0, unrep := Tri.all false, failMac := Tri.all 0, soft := [], ddFail := false, lciBad := false }

/-- GOOD resets to 0x000 and ON to 0xFFF (Table 25-5). -/
def PowerSt.reset : PowerSt :=
  { good := 0, on := 0xFFF, dropped := 0, warn := false, cause := 0, hubLost := false, jobs := [] }

def Dev.reset : Dev :=
  { time := TimeSt.reset, lanes := Tri.all LaneSt.reset, vot := VotSt.reset, gd := GdSt.reset,
    edge := [LinkSt.reset, LinkSt.reset], net := NetSt.reset, can := List.replicate 4 CanSt.reset, pair := PairSt.reset,
    safe := SafetySt.reset, host := HostSt.reset, mgmt := MgmtSt.reset, jr := JournalSt.reset, boot := BootSt.reset,
    test := TestSt.reset, pwr := PowerSt.reset, degr := false, draws := 0 }

/-- Right after reset: POR_N asserted, STAGE 0x00, every field at the Reset column of its table or at the value the
assumption log names, and no command waiting. -/
def State.reset : State := { dev := Dev.reset, pending := [] }

/-- Every meaning of this model: the command's effect on the device, the queue left alone. -/
def State.onDev (s : State) (f : Dev → Dev) : Host.Outcome State Fault Refusal := .next { s with dev := f s.dev }

end Sys2Proof.Machine
end

