-- ==== Sys2Proof/Machine/Mem.lean ====
section
/-! DEFINITION. Byte memory in one canonical form: addresses strictly rising, and no entry equal to what an unlisted
address reads as, which is zero. A lane's memory (R481) and the transfer buffer (R392) are kept so. -/

namespace Sys2Proof.Machine
open Sys2Proof

/-- The byte at an address; an unlisted address reads as zero. -/
def memGet : List Host.Cell → Nat → Byte
  | [], _ => 0
  | (a, b) :: r, x => if x = a then b else if x < a then 0 else memGet r x

/-- Write one byte: writing zero removes the entry. -/
def memSet : List Host.Cell → Nat → Byte → List Host.Cell
  | [], x, v => if v = 0 then [] else [(x, v)]
  | (a, b) :: r, x, v =>
    if x < a then (if v = 0 then (a, b) :: r else (x, v) :: (a, b) :: r)
    else if x = a then (if v = 0 then r else (x, v) :: r)
    else (a, b) :: memSet r x v

/-- The canonical form, above a lower bound for the next address. -/
def memWfFrom : Nat → List Host.Cell → Bool
  | _, [] => true
  | n, (a, b) :: r => decide (n ≤ a) && !(b == 0) && memWfFrom (a + 1) r
/-- The canonical form. -/
def memWf (m : List Host.Cell) : Bool := memWfFrom 0 m

/-- The bytes in which memory n differs from memory m, as n has them; `fuel` bounds the entries looked at. -/
def memDiffFuel : Nat → List Host.Cell → List Host.Cell → List Host.Cell
  | 0, _, _ => []
  | _ + 1, [], n => n
  | _ + 1, m, [] => m.map (fun e => (e.1, 0))
  | k + 1, (a, x) :: m, (b, y) :: n =>
    if a < b then (a, 0) :: memDiffFuel k m ((b, y) :: n)
    else if b < a then (b, y) :: memDiffFuel k ((a, x) :: m) n
    else if x = y then memDiffFuel k m n else (b, y) :: memDiffFuel k m n
def memDiff (m n : List Host.Cell) : List Host.Cell := memDiffFuel (m.length + n.length + 1) m n
/-- Write bytes at the addresses named. -/
def memPut (m : List Host.Cell) (cs : List Host.Cell) : List Host.Cell := cs.foldl (fun m c => memSet m c.1 c.2) m

/-- n bytes from address x, lowest first. -/
def memRead (m : List Host.Cell) (x : Nat) : Nat → List Byte
  | 0 => []
  | n + 1 => memGet m x :: memRead m (x + 1) n
/-- Write bytes from address x, lowest first. -/
def memWrite (m : List Host.Cell) (x : Nat) : List Byte → List Host.Cell
  | [] => m
  | b :: r => memWrite (memSet m x b) (x + 1) r

/-- Little-endian (R8). -/
def leNat : List Byte → Nat
  | [] => 0
  | b :: r => b.toNat + 256 * leNat r
/-- n as k little-endian bytes. -/
def leBytes (n : Nat) : Nat → List Byte
  | 0 => []
  | k + 1 => BitVec.ofNat 8 n :: leBytes (n / 256) k
/-- Most significant byte first (R8: BTN headers, edge frames). -/
def beNat (l : List Byte) : Nat := l.foldl (fun a b => a * 256 + b.toNat) 0
def beBytes (n k : Nat) : List Byte := (leBytes n k).reverse

/-- The address of signal word i in the lane memory space (Table 4-11). -/
def sigAddr (i : Nat) : Nat := 0x400000 + 8 * i
/-- Signal word i. -/
def memSig (m : List Host.Cell) (i : Nat) : SigWord := sigOfNat (leNat (memRead m (sigAddr i) 6))
/-- Write signal word i: 48 bits, little-endian, the rest of the slot zero. -/
def memSetSig (m : List Host.Cell) (i : Nat) (w : SigWord) : List Host.Cell :=
  memWrite m (sigAddr i) (leBytes (sigToNat w) 6)
/-- The two bytes of a signal slot that read as zero (R481). -/
def slotGap (x : Nat) : Bool := decide (0x400000 ≤ x) && decide (6 ≤ x % 8)
/-- Write one byte, or bytes from address x, in the lane memory space: what falls on bits [63:48] of a signal slot is dropped. -/
def laneSet (m : List Host.Cell) (x : Nat) (v : Byte) : List Host.Cell := if slotGap x then m else memSet m x v
def laneWrite (m : List Host.Cell) (x : Nat) : List Byte → List Host.Cell
  | [] => m
  | b :: r => laneWrite (laneSet m x b) (x + 1) r
/-- A 32-bit word of lane SRAM. -/
def memWord (m : List Host.Cell) (x : Nat) : Nat := leNat (memRead m x 4)
def memSetWord (m : List Host.Cell) (x : Nat) (v : Int) : List Host.Cell :=
  laneWrite m x (leBytes (toField v 32) 4)

/-! ### Lists -/

/-- The first entry with a key. -/
def lookupNat {α : Type} (l : List (Nat × α)) (k : Nat) : Option α := (l.find? (fun e => e.1 == k)).map (·.2)
/-- Replace or add the entry of a key. -/
def putNat {α : Type} : List (Nat × α) → Nat → α → List (Nat × α)
  | [], k, v => [(k, v)]
  | (a, b) :: r, k, v => if a = k then (k, v) :: r else (a, b) :: putNat r k v
/-- Add without a repeat. -/
def insertNew {α : Type} [BEq α] (l : List α) (x : α) : List α := if l.contains x then l else l ++ [x]
/-- Change entry i of a list. -/
def modAt {α : Type} (l : List α) (i : Nat) (f : α → α) : List α := l.modify i f

end Sys2Proof.Machine
end

