-- ==== Sys2Proof/Machine/Crc.lean ====
section
/-! DEFINITION. The cyclic redundancy checks: CRC-64 of R115 and R91, CRC-32C of R271, CRC-16 of R237, and the FCS of IEEE 802.3. -/

namespace Sys2Proof.Machine
open Sys2Proof

/-- n bits of a reflected CRC: the register shifts right and takes the reflected polynomial when the bit shifted out is 1. -/
def crcBits {w : Nat} (poly : BitVec w) : Nat → BitVec w → BitVec w
  | 0, r => r
  | n + 1, r => crcBits poly n (if r.getLsbD 0 then (r >>> 1) ^^^ poly else r >>> 1)
/-- One byte, least significant bit first. -/
def crcByte {w : Nat} (poly r : BitVec w) (b : Byte) : BitVec w := crcBits poly 8 (r ^^^ b.setWidth w)
/-- Initial value and final XOR all ones. -/
def crcAll {w : Nat} (poly : BitVec w) (l : List Byte) : BitVec w := ~~~(l.foldl (crcByte poly) (BitVec.allOnes w))

/-- CRC-64 (R115): polynomial 0x42F0_E1EB_A9EA_3693, here with its bits reversed. -/
def crc64 (l : List Byte) : BitVec 64 := crcAll 0xC96C5795D7870F42 l
/-- CRC-32C (R271): polynomial 0x1EDC_6F41, here with its bits reversed. -/
def crc32c (l : List Byte) : BitVec 32 := crcAll 0x82F63B78 l

/-- The FCS of an IEEE 802.3 frame: polynomial 0x04C1_1DB7, here with its bits reversed. PRESUMED, log entry 167. -/
def crc32 (l : List Byte) : BitVec 32 := crcAll 0xEDB88320 l

/-- One byte of a CRC-16 that is not reflected, most significant bit first. -/
def crc16Byte (r : BitVec 16) (b : Byte) : BitVec 16 :=
  (List.range 8).foldl (fun r _ => if r.getLsbD 15 then (r <<< 1) ^^^ 0x1021 else r <<< 1) (r ^^^ (b.setWidth 16 <<< 8))
/-- CRC-16 of an edge frame (R237): polynomial 0x1021, initial value 0xFFFF, no final XOR. -/
def crc16 (l : List Byte) : BitVec 16 := l.foldl crc16Byte 0xFFFF

end Sys2Proof.Machine
end

