-- ==== Sys2Proof/Config.lean ====
section
/-! DEFINITION. The open values of the spec: opaque constants without a body. Nothing in Lean can evaluate them or prove a
value of them; each is named in an assumption log entry. -/

namespace Sys2Proof.Config
open Sys2Proof

/-- The tracking loop of a resolver-to-digital channel (R189): the new angle in 2^-32 turn, from the old angle, the
demodulated angle and the bandwidth in Hz. The spec gives bandwidth and type, not the update law. -/
opaque rdcAngle : Nat → BitVec 32 → BitVec 32 → Nat → BitVec 32
/-- Its speed, as the bits of a signal word. -/
opaque rdcSpeed : Nat → BitVec 32 → BitVec 32 → Nat → BitVec 40
/-- The phase in 2^-16 period that a sample pair shows (R190): the rule gives the average, not how a pair shows it. -/
opaque rdcPhase : Nat → Int → Int → Int
/-- The 64 bytes of an observer state block (R194), and the items that a block's bytes stand for: the spec gives its size and
content, not its layout. -/
opaque obsByte : List Nat → Nat → Byte
opaque obsItem : List Byte → Nat → Nat
/-- The MAC address of a port, by the port numbers of Table 20-12 (Table 15-1): the spec gives none. -/
opaque macOf : Nat → BitVec 48
/-- A byte of the configuration part of the cast volume (R107) or of the hub pair state (R337): the spec gives their sizes and contents, not
their layout. Draw and offset in V_P. -/
opaque castByte : Nat → Nat → Byte
/-- The angle of a zero vector (R482 defines it for none). -/
opaque angleOfZero : Nat → BitVec 32
/-- SPD of an encoder read when the edge seen is the one the previous read saw (R193 divides by a zero time). -/
opaque encSpeed : Nat → BitVec 40
/-- A quotient by a zero word that R482 does not name. -/
opaque divByZero : BitVec 48 → BitVec 48
/-- The parts of a replica's deviation from hub GT after the correction of R42, in 2^-32 GT units, and of its rate, in 2^-32, each above
the lower end of its range (Table 2-5): common to the lanes within ±5.0625 ns, the lane's own within ±1.5 ns, ±2.5 ppm. -/
opaque strobeCommon : Nat → Fin 27831388079
opaque replicaRest : Nat → Fin 8246337209
opaque replicaDrift : Nat → Fin 21475
/-- The sampling phase of a safety group in GCLK (R349): it runs freely from POR_N release. -/
opaque ssPhase : Nat → Fin 6400
/-- The test word of a fast-cycle count (R117): the spec says it is built from the count, not how. -/
opaque testWord : Nat → BitVec 72
/-- The measured VBS in units of 0.1 V (Table 12-8): the comparators give two thresholds, not a value. -/
opaque vbs : Nat → Nat → Byte
/-- A value of a block that a faulty sender delivered to one neighbour in another version (R125): draw and signal index. -/
opaque splitWord : Nat → Nat → BitVec 48
/-- SLOT_STATUS: a word of a slot (0 kind, 1 version, 2 valid) from the facts it tells of: the slot, the firmware's MGMT_VER, whether
its firmware and its image are valid, FALLBACK. Table 21-4 names the words; no rule codes them. -/
opaque slotWord : Nat → Nat → Nat → Bool → Bool → Bool → BitVec 32
/-- The private key that ML-DSA-87 derives from the seed ξ (R428). -/
opaque identityKey : List Byte → List Byte
/-- The order code of a free choice that a rule leaves to the management processor. -/
opaque choice : Nat → Nat → Nat

end Sys2Proof.Config
end

