-- ==== Sys2Proof/Machine/Ops.lean ====
section
/-! DEFINITION. Named operations every chapter shares: time, lanes, counters, the host window's latched words, doorbells,
events, the journal write queue, configuration fields and taking a lane out. -/

namespace Sys2Proof.Machine
open Sys2Proof

/-! ### Field updates by group -/

def Dev.onTime (d : Dev) (f : TimeSt → TimeSt) : Dev := { d with time := f d.time }
def Dev.onVot (d : Dev) (f : VotSt → VotSt) : Dev := { d with vot := f d.vot }
def Dev.onGd (d : Dev) (f : GdSt → GdSt) : Dev := { d with gd := f d.gd }
def Dev.onNet (d : Dev) (f : NetSt → NetSt) : Dev := { d with net := f d.net }
def Dev.onPair (d : Dev) (f : PairSt → PairSt) : Dev := { d with pair := f d.pair }
def Dev.onSafe (d : Dev) (f : SafetySt → SafetySt) : Dev := { d with safe := f d.safe }
def Dev.onHost (d : Dev) (f : HostSt → HostSt) : Dev := { d with host := f d.host }
def Dev.onMgmt (d : Dev) (f : MgmtSt → MgmtSt) : Dev := { d with mgmt := f d.mgmt }
def Dev.onJr (d : Dev) (f : JournalSt → JournalSt) : Dev := { d with jr := f d.jr }
def Dev.onBoot (d : Dev) (f : BootSt → BootSt) : Dev := { d with boot := f d.boot }
def Dev.onTest (d : Dev) (f : TestSt → TestSt) : Dev := { d with test := f d.test }
def Dev.onPwr (d : Dev) (f : PowerSt → PowerSt) : Dev := { d with pwr := f d.pwr }
def Dev.lane (d : Dev) (l : Lane) : LaneSt := d.lanes.get l
def Dev.onLane (d : Dev) (l : Lane) (f : LaneSt → LaneSt) : Dev := { d with lanes := d.lanes.set l (f (d.lanes.get l)) }
def Dev.onLanes (d : Dev) (f : LaneSt → LaneSt) : Dev := { d with lanes := d.lanes.map f }
def Dev.onSeq (d : Dev) (l : Lane) (f : SeqSt → SeqSt) : Dev := d.onLane l (fun s => { s with seq := f s.seq })
def Dev.onLink (d : Dev) (i : Nat) (f : LinkSt → LinkSt) : Dev := { d with edge := modAt d.edge i f }
def Dev.onCan (d : Dev) (i : Nat) (f : CanSt → CanSt) : Dev := { d with can := modAt d.can i f }
def Dev.onHb (d : Dev) (n : Nat) (f : HbSt → HbSt) : Dev := d.onGd (fun g => { g with hb := modAt g.hb n f })
def Dev.hb (d : Dev) (n : Nat) : HbSt := d.gd.hb.getD n HbSt.reset
def Dev.link (d : Dev) (i : Nat) : LinkSt := d.edge.getD i LinkSt.reset
def Dev.chan (d : Dev) (i : Nat) : CanSt := d.can.getD i CanSt.reset

/-! ### Lanes -/

def lanesAll : List Lane := [.a, .b, .c]
def laneIdx : Lane → Nat
  | .a => 0
  | .b => 1
  | .c => 2
def laneOf (n : Nat) : Lane := if n = 0 then .a else if n = 1 then .b else .c
def Dev.phase (d : Dev) (l : Lane) : Phase := (d.lane l).seq.phase
def Dev.isLive (d : Dev) (l : Lane) : Bool := d.phase l == .live
def Dev.isProb (d : Dev) (l : Lane) : Bool := d.phase l == .probation
/-- A lane that dispatches: live, or in probation (R111). -/
def Dev.runs (d : Dev) (l : Lane) : Bool := d.isLive l || d.isProb l
def Dev.liveLanes (d : Dev) : List Lane := lanesAll.filter d.isLive
def Dev.liveCount (d : Dev) : Nat := d.liveLanes.length
/-- The lowest-indexed live lane; lane A when none is live. -/
def Dev.lowLane (d : Dev) : Lane := d.liveLanes.headD .a
/-- [0] lane A, [1] lane B, [2] lane C. -/
def laneMask (l : List Lane) : Nat := (l.map (fun x => 2 ^ laneIdx x)).sum
/-- Does any lane run, for the timetable's sake. -/
def triMask (t : Tri Bool) : Nat := (if t.a then 1 else 0) + (if t.b then 2 else 0) + (if t.c then 4 else 0)

/-- The hub serves: no hub fault since POR_N release (R446). -/
def Dev.hubUp (d : Dev) : Bool := !d.pwr.hubLost
/-- Domain `code` is good and switched on (Table 25-1). -/
def Dev.domUp (d : Dev) (code : Nat) : Bool := d.pwr.good.getLsbD code && d.pwr.on.getLsbD code
/-- The outputs of domain `code` are driven: it has supply, and the plinth stage has ended. Else they are high-impedance (R450). -/
def Dev.drives (d : Dev) (code : Nat) : Bool := d.domUp code && decide (2 ≤ d.boot.stage)

/-! ### Time -/

/-- T_F in GT units (Table 2-3). -/
def tfGt (code : Nat) : Nat := [8000, 12800, 16000, 25600, 32000, 64000].getD code 16000
def Img.tf (i : Img) : Nat := tfGt i.tfCode
def Img.tn (i : Img) : Nat := i.tf * i.k
/-- T_F and T_N of the running image in GT units; the defaults of R37 when none runs. -/
def Dev.tf (d : Dev) : Nat := (d.boot.running.map Img.tf).getD 16000
def Dev.tn (d : Dev) : Nat := (d.boot.running.map Img.tn).getD 160000
def Dev.k (d : Dev) : Nat := (d.boot.running.map Img.k).getD 10

/-- GT and fraction as one number in units of 2^-32 GT unit. -/
def TimeSt.raw (t : TimeSt) : Nat := t.gt.toNat * 2 ^ 32 + t.frac.toNat
/-- What GT gains in one GCLK, in units of 2^-32 (R41). -/
def TimeSt.step (t : TimeSt) : Nat := (2 ^ 32 + t.rate).toNat
/-- n GCLK periods pass (R36): GT counts while it runs. -/
def TimeSt.pass (t : TimeSt) (n : Nat) : TimeSt :=
  let r := t.raw + n * t.step
  if t.run then { t with clk := t.clk + n, gt := BitVec.ofNat 64 (r / 2 ^ 32), frac := BitVec.ofNat 32 r }
  else { t with clk := t.clk + n }
/-- Time moves on to GCLK c, never back. -/
def TimeSt.toClk (t : TimeSt) (c : Nat) : TimeSt := t.pass (c - t.clk)
/-- Time moves on to the first GCLK at which GT and its fraction are at least r, never back. -/
def TimeSt.toRaw (t : TimeSt) (r : Nat) : TimeSt :=
  if t.run && decide (t.raw < r) then t.pass (ceilDiv (r - t.raw) (max 1 t.step)) else t
/-- Time moves on to the first GCLK at which GT is at least g, never back. -/
def TimeSt.toGt (t : TimeSt) (g : Nat) : TimeSt := t.toRaw (g * 2 ^ 32)
def Dev.pass (d : Dev) (n : Nat) : Dev := d.onTime (·.pass n)
def Dev.toClk (d : Dev) (c : Nat) : Dev := d.onTime (·.toClk c)
def Dev.toRaw (d : Dev) (r : Nat) : Dev := d.onTime (·.toRaw r)
def Dev.toGt (d : Dev) (g : Nat) : Dev := d.onTime (·.toGt g)
def Dev.gt (d : Dev) : Nat := d.time.gt.toNat
def Dev.clk (d : Dev) : Nat := d.time.clk
/-- GCLK periods of 1 µs and of 1 ms. -/
def usClk : Nat := 640
def msClk : Nat := 640000
/-- GT in fine units of 195.3125 ps. -/
def Dev.fineNow (d : Dev) : Nat := d.time.raw / 2 ^ 29
/-- The full GT whose low 32 bits are w, as the nearest value ahead of g (Table 5-2). -/
def gtAhead (g : Nat) (w : BitVec 32) : Nat := g + (w.toNat + 2 ^ 32 - g % 2 ^ 32) % 2 ^ 32
/-- Time of the device in units of 1.25 ns. -/
def Dev.lclk (d : Dev) : Nat := d.clk * 5 / 4

/-! ### The lanes' GT replicas (R42, R43, R49) -/

/-- What a replica gains in one lane clock at nominal rate: 0.8 GT units, in 2^-32. -/
def nomStep : Nat := 3435973837
/-- What it gains at the rate in force. -/
def SeqSt.step (s : SeqSt) : Nat := max 1 ((nomStep : Int) + (nomStep : Int) * s.corr / 2 ^ 32).toNat
/-- The replica's count at lane clock n. -/
def SeqSt.valAt (s : SeqSt) (n : Nat) : Nat := s.rep + (n - s.repClk) * s.step
/-- The first lane clock at which the replica's count is at least v. A count that a forward correction has overtaken counts from
the clock at which the replica would have reached it (R50). -/
def SeqSt.clkOf (s : SeqSt) (v : Nat) : Nat :=
  if s.rep ≤ v then s.repClk + ceilDiv (v - s.rep) s.step else s.repClk - (s.rep - v) / s.step
/-- Replica minus hub GT when the hub's count is `raw`, in 2^-32 GT units. -/
def SeqSt.devWhen (s : SeqSt) (raw : Nat) : Int := s.dev + s.drift * ((raw : Int) - s.devAt) / 2 ^ 32
/-- The replica goes on from its count at lane clock n. -/
def SeqSt.anchor (s : SeqSt) (n : Nat) : SeqSt := { s with rep := s.valAt n, repClk := n }
/-- The rate correction changes by `by_` from the clock at which the count reaches v (R41). -/
def SeqSt.retune (s : SeqSt) (v : Nat) (by_ : Int) : SeqSt := { s.anchor (s.clkOf v) with corr := s.corr + by_ }
/-- The hub's rate changes when its count is `raw`: a replica that follows it changes with it, one that runs free drifts on. -/
def SeqSt.hubRate (s : SeqSt) (raw : Nat) (by_ : Int) : SeqSt :=
  if by_ = 0 then s
  else if s.freeRun then { s with dev := s.devWhen raw, devAt := raw, drift := s.drift - by_ }
  else s.retune raw by_
/-- The clocks count from the bell at GT g on: clock 0 is the swap clock (R39, R60). -/
def SeqSt.fromBell (s : SeqSt) (g : Nat) : SeqSt :=
  let n := s.clkOf (g * 2 ^ 32)
  { s.anchor n with
    repClk := 0, busy := (s.busy.map (fun e => (e.1, e.2 - n))).filter (fun e => e.2 != 0)
    late := s.late.map (fun e => { e with due := e.due - n }) }
/-- The replica starts at GT g, in step with the hub. -/
def SeqSt.replicaFrom (s : SeqSt) (g : Nat) : SeqSt :=
  { s with rep := g * 2 ^ 32, repClk := 0, dev := 0, devAt := g * 2 ^ 32, drift := 0, noStrobe := 0, freeRun := false }
/-- The replica of lane l as it counts now: what an exchange header carries (R43). -/
def Dev.replica (d : Dev) (l : Lane) : Nat := ((d.time.raw : Int) + (d.lane l).seq.devWhen d.time.raw).toNat
/-- The lane clock in progress. -/
def Dev.laneClk (d : Dev) (l : Lane) : Nat :=
  let s := (d.lane l).seq
  s.repClk + (d.replica l - s.rep) / s.step
/-- Time moves on to lane l's clock n, never back. -/
def Dev.toLaneClk (d : Dev) (l : Lane) (n : Nat) : Dev :=
  let s := (d.lane l).seq
  let v := s.valAt n
  d.toRaw ((v : Int) - s.devWhen v).toNat

/-! ### Counters (R385, R386) -/

/-- Word offset addr of the counters area grows by n, saturating. -/
def Dev.count (d : Dev) (addr n : Nat) : Dev :=
  d.onHost (fun h => { h with cnt := putNat h.cnt addr (min (2 ^ 32 - 1) ((lookupNat h.cnt addr).getD 0 + n)) })
def Dev.countIf (d : Dev) (b : Bool) (addr : Nat) : Dev := if b then d.count addr 1 else d
/-- Word i of the block at 0x4000: ERR_FULL, ERR_DENIED, ERR_BUSY, ERR_FORMAT, ERR_ADDR, R12 events, ERR_LIVE, ERR_OWNED,
ERR_GROUP_INCOMPLETE, SPI_ABORT, UDP_DISCARD, UDP_DUP, CLAIM_TIMEOUT, RELAY_DROP, DRAIN_HELD, EVT_DROP. -/
def cMgmt (i : Nat) : Nat := 0x4000 + 4 * i
def cLane (l : Lane) (i : Nat) : Nat := 0x4080 + 128 * laneIdx l + 4 * i
/-- Group kind k (gate, park, edge, payload, safety, digest), word i of five. -/
def cVote (k i : Nat) : Nat := 0x4200 + 4 * (5 * k + i)
def cConflict (i : Nat) : Nat := 0x4300 + 4 * i
def cStage (loop stage i : Nat) : Nat := 0x6300 + 8 * (8 * loop + stage) + 4 * i
def cLoop (loop i : Nat) : Nat := 0x8300 + 8 * loop + 4 * i
def cFcu (f i : Nat) : Nat := 0x8700 + 64 * f + 4 * i
def cHb (n i : Nat) : Nat := 0x8900 + 16 * n + 4 * i
def cLink (k i : Nat) : Nat := 0x8A40 + 32 * k + 4 * i
def cAdc (l : Lane) (i : Nat) : Nat := 0x8A80 + 256 * laneIdx l + 4 * i
def cConv (i : Nat) : Nat := 0x8D80 + 4 * i
def cCan (ch i : Nat) : Nat := 0x8DC0 + 64 * ch + 4 * i
def cSlot (s i : Nat) : Nat := 0x8EC0 + 32 * s + 4 * i
def cPort (p i : Nat) : Nat := 0xAEC0 + 32 * p + 4 * i
def cNode (n i : Nat) : Nat := 0xB0E0 + 8 * n + 4 * i
def cNet (i : Nat) : Nat := 0xB160 + 4 * i
def cSafe (i : Nat) : Nat := 0xB1A0 + 4 * i
/-- Index of a port in the port block of Table 20-12. -/
def portIdx : Port → Nat
  | .ringE => 0
  | .ringW => 1
  | .pair0 => 2
  | .pair1 => 3
  | .star i => 4 + i
  | .mgmt => 16

/-! ### Host window: latched words, doorbells, events -/

/-- Latch a status word. -/
def Dev.putWin (d : Dev) (addr : Nat) (w : Nat) : Dev :=
  d.onHost (fun h => { h with win := putNat h.win addr (BitVec.ofNat 32 w) })
def Dev.getWin (d : Dev) (addr : Nat) : Word := (lookupNat d.host.win addr).getD 0

/-- Set doorbell bits. When an enabled bit changes from 0 to 1 a DOORBELL datagram goes out, at most one per 100 µs (R375,
R380). -/
def Dev.ring (d : Dev) (bit : Nat) : Dev :=
  let h := d.host
  let m : Word := BitVec.ofNat 32 (2 ^ bit)
  let w := h.door ||| m
  let rises := !h.door.getLsbD bit && h.enable.getLsbD bit
  let spaced := match h.dgSent with | none => true | some (_, t) => decide (t + 100 * usClk ≤ d.clk)
  d.onHost (fun h => { h with door := w, dgSent := if rises && spaced then some (w, d.clk) else h.dgSent })

/-- Outbound mailbox m becomes FULL with these words. -/
def Dev.fillOut (d : Dev) (m : Nat) (ws : List Word) : Dev :=
  (d.onHost (fun h => { h with outb := modAt h.outb m (fun _ =>
    { data := ws ++ List.replicate (16 - ws.length) 0, len := ws.length, full := true }) })).ring m

/-- An unsolicited event (R383, R404). It goes to outbound 15 when that is empty and nothing waits before it; else it waits in
the 16-entry queue. An event that finds the queue full is dropped: EVT_DROP is counted and EVT_LOST set. -/
def Dev.event (d : Dev) (cls : Nat) (v : Word) : Dev :=
  let ws : List Word := [0x000000FF, BitVec.ofNat 32 cls, BitVec.ofNat 32 d.gt, BitVec.ofNat 32 (d.gt / 2 ^ 32), v]
  if d.host.events.isEmpty && !((d.host.outb.getD 15 OutBox.reset).full) then d.fillOut 15 ws
  else if d.host.events.length < 16 then d.onHost (fun h => { h with events := h.events ++ [(d.clk, ws)] })
  else (d.count (cMgmt 15) 1).ring 25

/-! ### The journal write queue (R411) -/

/-- A record TYPE that lies in the calibration store (Table 22-3). -/
def recCal (t : Nat) : Bool := 0x60 ≤ t && t ≤ 0x63

/-- Merge a FAULT post into the newest queued FAULT record with its TYPE and SOURCE, or else into the newest queued FAULT
record; the Bool says which. -/
def mergeFault (q : List QRec) (p : Post) : List QRec × Bool :=
  let same := fun (r : QRec) => r.post.cls == 0 && r.post.type == p.type && r.post.source == p.source
  let anyF := fun (r : QRec) => r.post.cls == 0
  let bump := fun (f : QRec → Bool) =>
    (q.foldr (fun r (acc : List QRec × Bool) =>
      if !acc.2 && f r then ({ r with rep := satInc 0xFFFF r.rep } :: acc.1, true) else (r :: acc.1, acc.2)) ([], false)).1
  if q.any same then (bump same, true) else (bump anyF, false)

/-- Post a record (R411, R416). EVENT waits while fewer than 192 are queued, STATE while fewer than 224, FAULT while any
entry is free; a refused EVENT or STATE post is dropped and counted; a FAULT post is merged. -/
def Dev.post (d : Dev) (p : Post) : Dev :=
  let n := d.jr.queue.length
  let add := d.onJr (fun j => { j with queue := j.queue ++ [{ post := p, rep := 0, cal := recCal p.type }] })
  if p.cls = 0 then
    if n < 256 then add
    else
      match mergeFault d.jr.queue p with
      | (q, same) => d.onJr (fun j => { j with queue := q, merged := if same then j.merged else satInc 255 j.merged })
  else if p.cls = 1 then
    if n < 224 && !d.jr.warn then add else d.onJr (fun j => { j with stDrop := satInc 255 j.stDrop })
  else
    if n < 192 && !d.jr.warn then add else d.onJr (fun j => { j with evDrop := satInc 255 j.evDrop })

/-- The 24-byte payload of Table 22-7 at the present GT. -/
def recPayload (gt unit index code value : Nat) : List Byte :=
  leBytes gt 8 ++ leBytes unit 2 ++ leBytes index 2 ++ leBytes code 4 ++ leBytes value 8
/-- Post a fault record (TYPE 0x0010 to 0x001F) while the hub serves. -/
def Dev.fault (d : Dev) (type unit index code value : Nat) : Dev :=
  if d.hubUp then d.post { type := type, cls := 0, source := 0, payload := recPayload d.gt unit index code value } else d
/-- Post an event record (TYPE 0x0020 to 0x003F) while the hub serves. -/
def Dev.note (d : Dev) (type unit index code value : Nat) : Dev :=
  if d.hubUp then d.post { type := type, cls := 2, source := 0, payload := recPayload d.gt unit index code value } else d

/-- A record of GT `gt` that lane l's monitor core formats and posts (R69): SOURCE is its sender ID, and a core that has stopped
posts nothing. -/
def Dev.postLane (d : Dev) (gt : Nat) (l : Lane) (cls type unit index code value : Nat) : Dev :=
  if d.hubUp && !(d.lane l).seq.lmcDown then
    d.post { type := type, cls := cls, source := 0x11 + laneIdx l, payload := recPayload gt unit index code value }
  else d

/-! ### Units and groups (Tables 1-6, 1-7, 5-1) -/

/-- The unit a half-bridge belongs to: 2 to 7 FCU2 to FCU7, 11 the park-lock channel. -/
def unitOfHb (n : Nat) : Nat :=
  if n < 3 then 2 else if n < 6 then 4 else if n < 9 then 6 else if n = 9 then 11
  else if n < 13 then 3 else if n < 16 then 5 else if n < 19 then 7 else 11
/-- Position of a half-bridge within its unit (R179). -/
def itemOfHb (n : Nat) : Nat := if n = 9 then 0 else if n = 19 then 1 else if n < 10 then n % 3 else (n - 10) % 3
/-- The half-bridges of an FCU in ascending order. -/
def hbsOf (u : Nat) : List Nat := (List.range 20).filter (fun n => unitOfHb n == u)
/-- The unit an edge channel (0 to 23, EL0.0 to EL1.11) belongs to: 0 FCU0, 1 FCU1, 8 PC0, 9 PC1, 10 the chopper. -/
def unitOfEdge (c : Nat) : Nat := if c < 6 then 0 else if c < 12 then 1 else if c < 16 then 8 else if c < 23 then 9 else 10
def itemOfEdge (c : Nat) : Nat := if c < 6 then c else if c < 12 then c - 6 else if c < 16 then c - 12 else if c < 23 then c - 16 else 0
/-- The unit of a timebase channel (R177). -/
def unitOfCh (c : Nat) : Nat := if c < 20 then unitOfHb c else unitOfEdge (c - 20)

/-- Lead of a group's release deadline in GT units: 500 ns, 3.5 µs, 3 µs; none for digests. -/
def groupLead : Group → Option Nat
  | .gate _ => some 320
  | .edge _ => some 2240
  | .payload _ => some 1920
  | .safetyA => some 320
  | .safetyB => some 320
  | .digest _ => none
  | .outDigest => some 0
/-- Group kind of the counters at 0x4200: gate, park lock, edge, payload, safety, digest. -/
def groupKind : Group → Nat
  | .gate n => if unitOfHb n = 11 then 1 else 0
  | .edge _ => 2
  | .payload _ => 3
  | .safetyA => 4
  | .safetyB => 4
  | .digest _ => 5
  | .outDigest => 3
/-- The group's voter in Table 5-7. -/
def groupVoter : Group → Nat
  | .gate n => if n < 10 then 20 else 21
  | .edge _ => 22
  | .payload _ => 23
  | .safetyA => 24
  | .safetyB => 25
  | .digest _ => 26
  | .outDigest => 23
/-- Where the group is voted (Table 1-5): gate and digest in the drive dies, the rest in the hub's frame voter place, safety
A and B and edge in the drive dies 1 and 2. -/
def groupPlace : Group → VoterPlace
  | .gate n => if n < 10 then .die1 else .die2
  | .edge _ => .die2
  | .payload _ => .frame
  | .safetyA => .die1
  | .safetyB => .die2
  | .digest k => if k = 0 then .die1 else .die2
  | .outDigest => .frame
/-- The dual-clock queues of Table 2-2: write period, read period in ps, entries, bits of an entry. -/
structure Dcq where
  write : Nat
  read  : Nat
  depth : Nat
  width : Nat
  deriving DecidableEq, Repr
def Dcq.laneHub : Dcq := ⟨1250, 3200, 32, 80⟩
def Dcq.hubLane : Dcq := ⟨3200, 1250, 32, 80⟩
def Dcq.laneLane : Dcq := ⟨1250, 1250, 16, 72⟩
def Dcq.laneVoter : Dcq := ⟨1250, 1250, 16, 72⟩
def Dcq.hubSerdes : Dcq := ⟨3200, 6400, 16, 66⟩
def Dcq.serdesHub : Dcq := ⟨6400, 3200, 16, 66⟩
def Dcq.hubMgmt : Dcq := ⟨3200, 1000, 64, 72⟩
def Dcq.mgmtHub : Dcq := ⟨1000, 3200, 64, 72⟩
/-- The worst-case latency: one write period and three read periods (R33). -/
def Dcq.latency (q : Dcq) : Nat := q.write + 3 * q.read

/-- The queue a lane's posts to a group pass. -/
def groupDcq (g : Group) : Dcq := match groupPlace g with | .frame => Dcq.laneHub | _ => Dcq.laneVoter
/-- What an alignment queue holds of a group: 16 words, or 8 KiB of payload words (R96). -/
def queueFits (g : Group) (q : List QWord) (w : VWord) : Bool :=
  match groupPlace g with
  | .frame => decide (8 * ((q.map (fun x => x.w.data.length)).sum + w.data.length) ≤ 8192)
  | _ => decide (q.length < 16)

def GroupSt.new (g : Group) : GroupSt :=
  { g := g, flight := ⟨[], [], []⟩, queue := ⟨[], [], []⟩, decided := [], named := [], held := none, silent := false }
/-- The group's voter state. -/
def Dev.group (d : Dev) (g : Group) : GroupSt := (d.vot.groups.find? (fun x => x.g == g)).getD (GroupSt.new g)
def Dev.onGroup (d : Dev) (g : Group) (f : GroupSt → GroupSt) : Dev :=
  d.onVot (fun v =>
    if v.groups.any (fun x => x.g == g) then { v with groups := v.groups.map (fun x => if x.g == g then f x else x) }
    else { v with groups := v.groups ++ [f (GroupSt.new g)] })
/-- Entries of lane l's queue towards a group that are taken: the lane → hub queue is one for all payload posts (Table 2-2). -/
def Dev.dcqFill (d : Dev) (l : Lane) (g : Group) : Nat :=
  match groupPlace g with
  | .frame => ((d.vot.groups.filter (fun x => groupPlace x.g == .frame)).map (fun x => (x.flight.get l).length)).sum
  | _ => ((d.group g).flight.get l).length
/-- Groups of a unit: a unit is silent when one of its groups is (Table 5-1). -/
def groupUnit : Group → Nat
  | .gate n => unitOfHb n
  | .edge c => unitOfEdge c
  | .payload _ => 12
  | .safetyA => 13
  | .safetyB => 14
  | .digest _ => 15
  | .outDigest => 16
def Dev.unitSilent (d : Dev) (u : Nat) : Bool := d.vot.groups.any (fun x => groupUnit x.g == u && x.silent)
def Dev.unitHeld (d : Dev) (u : Nat) : Bool := d.vot.groups.any (fun x => groupUnit x.g == u && (x.held.isSome || x.silent))

/-! ### DEGRADED (R353) -/

/-- Both drive dies and EDGE in service (R334). -/
def Dev.full (d : Dev) : Bool := d.domUp 9 && d.domUp 10 && d.domUp 11
/-- HUBLOSS: no lane has had a hub strobe at 2 boundaries in a row. -/
def Dev.hubLoss (d : Dev) : Bool := lanesAll.all (fun l => decide (2 ≤ (d.lane l).seq.noStrobe))

/-- R130: a roll-called signal with fewer than three candidates, or a lane-suspect mark. -/
def degRoll (q : LaneSt) : Bool := q.rc.any (fun r => decide (r.cands < 3)) || q.laneS.a || q.laneS.b || q.laneS.c
/-- R198. -/
def degObs (q : LaneSt) : Bool := q.obs.any (fun o => o.onObs || o.sensDist || o.lol != .normal)
/-- R211 and Table 11-5. -/
def degDcl (q : LaneSt) : Bool := q.dcl.chop || q.dcl.pre == 7
/-- R228, R231, R234: a latch in the protection word; before release, when no boundary latches that word, a latch that stands. -/
def Dev.protLatched (d : Dev) : Bool :=
  !d.gd.pLatch.isEmpty || d.gd.vgdUv.1 || d.gd.vgdUv.2 ||
    (!d.boot.released && d.gd.hb.any (fun h => !h.hi.latch.isEmpty || !h.lo.latch.isEmpty))
/-- R248, R249. -/
def degLink (x : LinkSt) : Bool := x.latched.desat != 0 || x.latched.uv != 0 || x.rxDown || x.notObey
/-- R323: a lane-owned channel in bus-off. -/
def degCan (c : CanSt) : Bool := c.laneOwn && c.bus == 2
/-- DEGRADED: the OR of every condition that a rule states as raising it (R353): R106 and Table 1-10, R104, R437, R130, R198, R211,
Table 11-5, R228, R231, R248, R249, R323, R356, R439, R441, R478, Table 2-6. -/
def Dev.degraded (d : Dev) : Bool :=
  let q := d.lane d.lowLane
  (d.boot.released && ((decide (d.liveCount < 3) && d.pair.role != .casting) || d.hubLoss || degRoll q || degObs q || degDcl q)) ||
    lanesAll.any (fun l => d.phase l == .failed) || !d.vot.faults.isEmpty || d.protLatched || d.edge.any degLink ||
    d.can.any degCan || d.safe.a.ofault || d.safe.b.ofault || !d.mgmt.hot.isEmpty || !d.jr.badMram.isEmpty || d.test.ddFail ||
    d.pwr.hubLost || (d.boot.released && !d.full)

/-! ### Words of the window that faults update -/

/-- Lane timetable status word (Table 3-6). -/
def seqWord (s : SeqSt) : Nat :=
  flagN (s.phase == .live || s.phase == .probation) 31 + flagN (s.phase == .out || s.phase == .failed || s.phase == .off) 30 +
    s.mode * 2 ^ 27 + (s.pend.getD 0) * 2 ^ 24 + flagN s.pend.isSome 23 + s.cause * 2 ^ 16 + s.outCount * 2 ^ 8
/-- Lane fault location word (Table 3-7). -/
def seqPlace (s : SeqSt) : Nat := s.fEntry * 2 ^ 16 + s.fUnit * 2 ^ 10 + s.fMode * 2 ^ 7
/-- Bit of Table 5-7 of a unit. -/
def silBit (u : Nat) : Nat := if u < 8 then u else if u < 15 then u + 1 else 31
/-- Silent and voter-fault map (Table 5-7). -/
def Dev.silentMap (d : Dev) : Nat :=
  ((List.range 15).map (fun u => flagN (d.unitSilent u) (silBit u))).sum + ((List.range 27).map (fun b => flagN (d.vot.faults.contains b) b)).sum
def Dev.paired (d : Dev) : Bool := (d.boot.running.map (·.paired)).getD false
/-- Global status word (Table 20-2). -/
def Dev.globalWord (d : Dev) : Nat :=
  flagN d.degr 31 + flagN d.boot.released 30 + flagN d.time.syncLost 29 + flagN d.paired 28 + flagN d.boot.debugOpen 27 + d.boot.stage * 2 ^ 8

/-- Doorbell GLOBAL: a bit of the global status word changed since it was last looked at (R380). -/
def globalDoor (d : Dev) : Dev :=
  if (d.getWin 0x10).toNat = d.globalWord then d else (d.putWin 0x10 d.globalWord).ring 26
/-- A new value of DEGRADED: record, event, doorbell. It is looked at where a rule raises or ends it at once (a lane out or live
again, a voter fault, an output fault, a link, a channel, a temperature, a failed test) and at every boundary for what the
lanes hold. -/
def noteDegraded (d : Dev) : Dev :=
  let v := d.degraded
  if v = d.degr then d
  else globalDoor (({ d with degr := v }.note 0x20 0 0 (flagN v 0) 0).event 1 (BitVec.ofNat 32 (flagN v 0)))

/-! ### Taking a lane out (R56, R57, R102, R106, R114, R121) -/

/-- The lane's own part: out, cause and place latched, dispatch stopped. ENTRY, UNIT and ENTRY_MODE are those of the entry for
causes 0x1 to 0x4 and zero for the others (Table 3-7). -/
def SeqSt.goOut (s : SeqSt) (cause : Nat) (entry unit : Nat) : SeqSt :=
  let loc := decide (1 ≤ cause ∧ cause ≤ 4)
  { s with phase := .out, cause := cause, outCount := satInc 255 s.outCount,
           fEntry := if loc then entry else 0, fUnit := if loc then unit else 0, fMode := if loc then s.mode else 0,
           busy := [], late := [], last := none, match2 := 0, offMed := 0 }

/-- The voting status word (Table 5-6). -/
def Dev.votingWord (d : Dev) : Nat :=
  let m := fun (f : Lane → Bool) => laneMask (lanesAll.filter f)
  flagN (d.boot.released && d.liveCount == 2) 31 + m d.isLive * 2 ^ 28 + m d.isProb * 2 ^ 25 +
    m (fun l => d.phase l == .failed) * 2 ^ 22 + flagN d.vot.cast.isSome 21 + flagN d.vot.rot.isSome 20 +
    laneIdx d.vot.rotNext * 2 ^ 18 + flagN (!d.vot.faults.isEmpty) 17 + flagN d.vot.devFault 16 + d.vot.rotCount % 256 * 2 ^ 8
/-- The live set changed: words 0x0058 and 0x005C are updated and an event tells of it (R122, Table 21-8); DEGRADED follows (R106). -/
def Dev.liveChanged (d : Dev) : Dev :=
  noteDegraded (((d.putWin 0x58 d.votingWord).putWin 0x5C d.silentMap).event 5 (BitVec.ofNat 32 d.votingWord))

/-- Every voter holds its group when fewer than two lanes are live after release (R30): no released word is executed from then
on, and the device stays fail-silent (R106). A standby that is being cast has no live lane and holds nothing (R337). -/
def Dev.holdAll (d : Dev) : Dev :=
  if d.boot.released && decide (d.liveCount < 2) && d.pair.role != .casting then
    { d with
      vot := { d.vot with devFault := true, dead := true, groups := d.vot.groups.map (fun g => { g with held := some (g.held.getD 0) }) }
      gd := { d.gd with hb := d.gd.hb.map (fun h => { h with evq := [] }) }
      edge := d.edge.map (fun x => { x with evq := [] })
      net := { d.net with txq := [] }
      safe := { d.safe with a := { d.safe.a with pend := [] }, b := { d.safe.b with pend := [] } } }
  else d

/-- The lane goes out; its status words follow (Table 3-6). A voter counts a lane that was live as live until it has the out
indication, one that was in probation never (R97, R102). A rotation of another lane is abandoned; a cast in progress is abandoned
with its source or target. -/
def Dev.takeOut (d : Dev) (l : Lane) (cause entry unit : Nat) : Dev :=
  if d.runs l then
    let m := (d.lane l).seq.mode
    let was := d.isLive l
    let d := d.onSeq l (fun s => { s.goOut cause entry unit with outGt := d.gt })
    let d := (d.putWin (0x40 + 8 * laneIdx l) (seqWord (d.lane l).seq)).putWin (0x44 + 8 * laneIdx l) (seqPlace (d.lane l).seq)
    let d := d.count (cLane l (cause - 1)) 1
    let d := d.onVot (fun v => { v with
      cast := none,
      outSeen := v.outSeen.filter (fun e => e.2 != l) ++ (if was then [] else [(.die1, l), (.die2, l), (.frame, l)]),
      rot := if v.rot = some l || v.rot = none then v.rot else none,
      rotBist := if v.rot = some l || v.rot = none then v.rotBist else false })
    let loc := decide (1 ≤ cause ∧ cause ≤ 4)
    let d := d.postLane d.gt l 0 0x10 (if loc then unit else 0xFFFF) (laneIdx l) cause (if loc then entry + m * 2 ^ 16 else 0)
    if was then d.liveChanged.holdAll else d
  else d

/-- Lane l's queue to the hub is full (Table 2-2). -/
def Dev.hubQueueFull (d : Dev) (l : Lane) : Bool := decide (Dcq.laneHub.depth ≤ d.dcqFill l .outDigest)
def Dev.takeOutIf (d : Dev) (b : Bool) (l : Lane) (cause : Nat) : Dev := if b then d.takeOut l cause 0 0 else d
/-- A lane's record of GT `gt`: a full queue to the hub takes the lane out and discards it (R34). -/
def Dev.laneRecAt (d : Dev) (gt : Nat) (l : Lane) (cls type unit index code value : Nat) : Dev :=
  if d.runs l && d.hubQueueFull l then d.takeOut l 5 0 0 else d.postLane gt l cls type unit index code value
/-- Such a record at the present GT. -/
def Dev.laneRec (d : Dev) (l : Lane) (cls type unit index code value : Nat) : Dev := d.laneRecAt d.gt l cls type unit index code value
/-- The lane that posts what all lanes find alike: the lowest-indexed live lane whose monitor core runs. -/
def Dev.recLane (d : Dev) : Lane := (d.liveLanes.filter (fun l => !(d.lane l).seq.lmcDown)).headD d.lowLane

/-- Records of roll-call marks as (UNIT, lane, NAME_ID) (R130). Those of an exchange carry the GT of its clock 1,280, at which its
results are written (R124). -/
def Dev.markNotes (d : Dev) (gt : Nat) (l : List (Nat × Nat × Nat)) : Dev :=
  l.foldl (fun d r => d.laneRecAt gt d.recLane 2 0x21 r.1 r.2.1 r.2.2 0) d

/-! ### Descriptors -/

/-- Bits hi to lo of a 64-bit word. -/
def dw (w : DWord) (hi lo : Nat) : Nat := bits w.toNat hi lo
/-- Word i of the descriptor at index x: word 0 is its header (Table 4-6). -/
def Img.desc (g : Img) (x i : Nat) : DWord := g.descs.getD (x + i) 0
/-- COUNT of a descriptor header. -/
def Img.descCount (g : Img) (x : Nat) : Nat := dw (g.desc x 0) 47 32
def Img.mode (g : Img) (m : Nat) : Option ModeRec := g.modes.find? (fun r => r.number == m)
/-- The signal map record of a signal. -/
def Img.sig (g : Img) (i : Nat) : Option SigRec := g.sigmap.find? (fun r => r.index == i)

end Sys2Proof.Machine
end

