-- ==== Sys2Proof/Machine/Operands.lean ====
section
/-! DEFINITION. Operand forms: the timetable entry (Table 4-4), the maquette cost of a class (Table 4-5), the signal words of a
lane, and the descriptor bodies of the signal operation unit and the section units (Tables 7-2, 7-3, 7-5, 7-6). -/

namespace Sys2Proof.Machine
open Sys2Proof

/-- A timetable entry (Table 4-4). -/
structure Entry where
  offset  : Nat
  cls     : Nat
  unit    : Nat
  operand : Nat
  deriving DecidableEq, Repr

def entryOf (w : DWord) : Entry :=
  { offset := dw w 63 44, cls := dw w 43 38, unit := dw w 37 32, operand := dw w 31 0 }

/-- The slice length L of the state digest (R82): ⌈S/64⌉ rounded up to a multiple of 8. -/
def Img.sliceLen (g : Img) : Nat := 8 * ceilDiv (ceilDiv ((g.ranges.map (·.2)).sum) 64) 8

/-- The maquette cost in lane clocks (Table 4-5). -/
def cost (g : Img) (e : Entry) : Nat :=
  let n := g.descCount e.operand
  match e.cls with
  | 0x00 => 1
  | 0x01 => 1
  | 0x02 => 4
  | 0x03 => 8 + 2 * n
  | 0x08 => 6 + 5 * n
  | 0x09 => 4
  | 0x0A => 12
  | 0x0B => 20
  | 0x0C => 12
  | 0x10 => 24
  | 0x11 => 24
  | 0x12 => 40
  | 0x13 => 64
  | 0x18 => 80 * n
  | 0x19 => 8
  | 0x1A => 8
  | 0x1B => 8
  | 0x20 => 8
  | 0x21 => 12 + 4 * n
  | 0x22 => 12 + 4 * n
  | 0x28 => 1280
  | 0x29 => 16 + 4 * n
  | 0x30 => 16 + ceilDiv n 8
  | 0x31 => 16 + ceilDiv n 8
  | 0x34 => 8
  | 0x35 => 8
  | 0x38 => ceilDiv g.sliceLen 4
  | _ => 1

/-- Signal word i of a lane. -/
def LaneSt.sig (s : LaneSt) (i : Nat) : SigWord := memSig s.mem i
def LaneSt.setSig (s : LaneSt) (i : Nat) (w : SigWord) : LaneSt := { s with mem := memSetSig s.mem i w }
/-- Several words, in order. -/
def LaneSt.setSigs (s : LaneSt) (l : List (Nat × SigWord)) : LaneSt := l.foldl (fun s e => s.setSig e.1 e.2) s

/-- The n 15-bit indices of a word from bit hi downward. -/
def idx15 (w : DWord) (hi i : Nat) : Nat := dw w (hi - 15 * i) (hi - 15 * i - 14)

/-- A signal operation descriptor (Table 7-3). -/
structure SigOp where
  op   : Nat
  out  : Nat
  a    : Nat
  b    : Nat
  c    : Nat
  fbit : Nat
  cond : Nat
  imm  : Int
  deriving DecidableEq, Repr
def sigOpOf (g : Img) (x : Nat) : SigOp :=
  let w1 := g.desc x 1
  let w2 := g.desc x 2
  { op := dw w1 63 58, out := dw w1 57 43, a := dw w1 42 28, b := dw w1 27 13, c := dw w2 63 49, fbit := dw w2 48 44,
    cond := dw w2 43 40, imm := signedBits (dw w2 39 32) 8 }

/-- A stage descriptor (Table 7-2). -/
structure StageDesc where
  n       : Nat
  inp     : Nat
  out     : Nat
  loop    : Nat
  stage   : Nat
  base    : Nat
  addr    : Nat
  expInit : Int
  expMin  : Int
  expMax  : Int
  deriving DecidableEq, Repr
def stageOf (g : Img) (x : Nat) : StageDesc :=
  let w1 := g.desc x 1
  let w2 := g.desc x 2
  { n := g.descCount x, inp := dw w1 63 49, out := dw w1 48 34, loop := dw w1 33 27, stage := dw w1 26 24,
    base := dw w1 23 11, addr := dw w2 63 32, expInit := signedBits (dw w2 31 24) 8, expMin := signedBits (dw w2 23 16) 8,
    expMax := signedBits (dw w2 15 8) 8 }

/-- Value i of a lookup table that begins at descriptor word `first`: two to a word, the lower index in [31:0]. -/
def tabVal (g : Img) (x first i : Nat) : Int :=
  let w := g.desc x (first + i / 2)
  signedBits (if i % 2 = 0 then dw w 31 0 else dw w 63 32) 32

/-- A constant in a descriptor as a signal word: 48 bits, status ignored. -/
def constSig (w : DWord) : SigWord := sigOfNat (dw w 47 0)

end Sys2Proof.Machine
end

