-- ==== Sys2Proof/Machine/Flags.lean ====
section
/-! DEFINITION. Status bits and flags: the status rule R137, flags and integers of R138, exact comparisons of R150. -/

namespace Sys2Proof.Machine
open Sys2Proof

/-- R137: VALID is the AND, LIMITED, STALE and SUBST the OR of the operands' bits. -/
def stJoin (x y : Status) : Status :=
  { valid := x.valid && y.valid, limited := x.limited || y.limited, stale := x.stale || y.stale, subst := x.subst || y.subst }
def stOf : List SigWord → Status
  | [] => Status.ok
  | w :: r => stJoin w.st (stOf r)
/-- LIMITED set as well. -/
def stLim (s : Status) (b : Bool) : Status := { s with limited := s.limited || b }
/-- The word as a copy with another status. -/
def sigWith (w : SigWord) (s : Status) : SigWord := { w with st := s }

/-- Exact comparisons of values (R150). -/
def sigLt (x y : SigWord) : Bool := dyLt (sigVal x) (sigVal y)
def sigLe (x y : SigWord) : Bool := dyLe (sigVal x) (sigVal y)
def sigEq (x y : SigWord) : Bool := dyEq (sigVal x) (sigVal y)

/-- The bit of MANT that FBIT selects (R138). -/
def sigBit (w : SigWord) (b : Nat) : Bool := w.mant.getLsbD b

/-- COND of Table 7-3; reserved codes are refused at load (R149) and test false. -/
def condHolds (c : Nat) (x y : SigWord) : Bool :=
  match c with
  | 0 => sigEq x y
  | 1 => !sigEq x y
  | 2 => sigLt x y
  | 3 => sigLe x y
  | 4 => sigLt y x
  | 5 => sigLe y x
  | _ => false

/-- A word that carries the integer n, within a range, with VALID set. -/
def carriesIn (w : SigWord) (lo hi : Int) : Option Int :=
  match sigCarries w with
  | some n => if w.st.valid && decide (lo ≤ n ∧ n ≤ hi) then some n else none
  | none => none

/-! ### The accumulator of R150 -/

/-- A term: an integer n of weight 2^w at exponent e, added or subtracted. -/
structure Term where
  n   : Int
  e   : Int
  w   : Int
  neg : Bool
  deriving DecidableEq, Repr
/-- An operand: MANT at its exponent. -/
def termOf (x : SigWord) (neg : Bool) : Term := ⟨sigMant x, sigExp x, sigExp x - 31, neg⟩
/-- A product, exact as a 64-bit value at exponent EXP_A + EXP_B. -/
def termMul (x y : SigWord) : Term := ⟨sigMant x * sigMant y, sigExp x + sigExp y, sigExp x + sigExp y - 62, false⟩
/-- abs(x) as an operand. -/
def termAbs (x : SigWord) (neg : Bool) : Term := ⟨(sigMant x).natAbs, sigExp x, sigExp x - 31, neg⟩

/-- The largest exponent among the terms that are not zero. -/
def maxExp : List Term → Option Int
  | [] => none
  | t :: r =>
    match maxExp r with
    | none => if t.n = 0 then none else some t.e
    | some m => if t.n = 0 then some m else some (max t.e m)
/-- Align at accumulator bits [70:39], discard below bit 0 by arithmetic right shift, add. -/
def accSum (ts : List Term) (low : Int) : Int :=
  (ts.map (fun t => let v := dyFloor ⟨t.n, t.w - low⟩; if t.neg then -v else v)).sum
/-- The sum of R150, exact from the accumulator. -/
def sumTerms (ts : List Term) : Dy :=
  match maxExp ts with
  | none => ⟨0, 0⟩
  | some m => ⟨accSum ts (m - 70), m - 70⟩

end Sys2Proof.Machine
end

