-- ==== Sys2Proof/Machine/Fields.lean ====
section
/-! DEFINITION. Configuration: parameter identifiers (R393), the value coding (R394), the fields with their ranges, steps,
defaults, commit classes and groups (Tables 3-4, 9-12, 10-4, 11-3, 12-2, 14-5, 19-5, 21-5), and reading, staging, assigning and
applying a field in a lane (R58 to R65). -/

namespace Sys2Proof.Machine
open Sys2Proof

/-- PARAM_ID of a field's shadow: FIELD in [30:20], INSTANCE in [19:0]. -/
def pidOf (field inst : Nat) : Nat := field * 2 ^ 20 + inst
def pidField (p : Nat) : Nat := bits p 30 20
def pidInst (p : Nat) : Nat := bits p 19 0
/-- COPY = 1 names the live copy. -/
def pidCopy (p : Nat) : Bool := p.testBit 31

/-- How a field takes effect (Table 21-5). -/
inductive FieldKind where
  | commit | calOnly | nextRelease | imageOnly | readOnly | group
  deriving DecidableEq, Repr

/-- A field. Bounds, step and default are fractions in the unit of its table; `word` tells a signal word from an integer. -/
structure FieldInfo where
  kind  : FieldKind
  word  : Bool
  range : Option ((Int × Nat) × (Int × Nat))
  step  : Option (Nat × Nat)
  first : Nat
  count : Nat
  clsB  : Bool
  group : Option Nat
  dflt  : Nat → Int × Nat

/-- An integer field. -/
def fInt (lo hi dflt : Int) (count : Nat) : FieldInfo :=
  { kind := .commit, word := false, range := some ((lo, 1), (hi, 1)), step := none, first := 0, count := count, clsB := false,
    group := none, dflt := fun _ => (dflt, 1) }
/-- A signal-word field. -/
def fWord (lo hi dflt : Int × Nat) (count : Nat) : FieldInfo :=
  { kind := .commit, word := true, range := some (lo, hi), step := none, first := 0, count := count, clsB := false,
    group := none, dflt := fun _ => dflt }
/-- A signal word of any value. -/
def fAny (count : Nat) : FieldInfo := { fWord (0, 1) (0, 1) (0, 1) count with range := none }
def fGroup (count : Nat) : FieldInfo := { fInt 0 0 0 count with kind := .group }
def fImage (count : Nat) : FieldInfo := { fInt 0 0 0 count with kind := .imageOnly, range := none }

/-- Plausibility bands, loops and FCUs (R127, Table 3-4, Table 9-12). -/
def fieldsA (f : Nat) : Option FieldInfo :=
  match f with
  | 0x001 => some (fAny 32768)
  | 0x010 => some { fAny 32768 with group := some 0x0F7 }
  | 0x011 => some { fAny 32768 with group := some 0x0F7 }
  | 0x012 => some { fInt 0 2 0 32768 with group := some 0x0F7 }
  | 0x020 => some { fAny 128 with group := some 0x0F2 }
  | 0x021 => some { fAny 128 with group := some 0x0F2 }
  | 0x022 => some { fInt 0 1 0 128 with group := some 0x0F1 }
  | 0x030 => some (fWord (0, 1) (1, 1) (0, 1) 8)
  | 0x031 => some (fWord (0, 1) (1, 1) (0, 1) 8)
  | 0x032 => some (fWord (0, 1) (10, 1) (0, 1) 8)
  | 0x033 => some (fWord (1, 100) (100, 1) (1, 1) 8)
  | 0x034 => some { fWord (0, 1) (1000, 1) (100, 1) 8 with step := some (10, 1) }
  | 0x035 => some { fWord (0, 1) (2550, 1) (0, 1) 8 with step := some (10, 1) }
  | 0x036 => some { fInt 0 1 1 8 with dflt := fun i => (if i < 2 then 0 else 1, 1) }
  | 0x037 => some { fWord (2, 5) (4, 1) (6, 5) 8 with step := some (1, 100), clsB := true, group := some 0x0F5 }
  | 0x038 => some { fInt 0 1 0 8 with clsB := true, group := some 0x0F5 }
  | _ => none

/-- Position and observers (Table 10-4). -/
def fieldsB (f : Nat) : Option FieldInfo :=
  match f with
  | 0x050 => some { fInt 32000 320000 64000 2 with clsB := true }
  | 0x051 => some (fInt 500 4000 1000 4)
  | 0x052 => some (fWord (3, 10) (9, 10) (1, 2) 4)
  | 0x053 => some (fWord (11, 10) (2, 1) (3, 2) 4)
  | 0x054 => some { fWord (-100, 1) (100, 1) (0, 1) 8 with step := some (1, 640) }
  | 0x055 => some { fWord (0, 1) (1, 1) (0, 1) 8 with step := some (1, 2 ^ 24) }
  | 0x056 => some (fInt 0 2 0 4)
  | 0x057 => some (fInt 4 1048576 4096 4)
  | 0x058 => some { fWord (0, 1) (1000, 1) (50, 1) 4 with step := some (10, 1) }
  | 0x059 => some (fWord (0, 1) (10, 1) (0, 1) 8)
  | 0x05A => some (fWord (0, 1) (1000, 1) (10, 1) 8)
  | 0x05B => some (fWord (0, 1) (1, 1) (1, 50) 8)
  | 0x05C => some (fWord (0, 1) (1000, 1) (20, 1) 8)
  | 0x05D => some (fWord (0, 1) (10000, 1) (300, 1) 8)
  | 0x05E => some (fWord (0, 1) (1, 4) (1, 36) 8)
  | 0x05F => some (fInt 1 255 4 8)
  | 0x060 => some (fWord (1, 2) (10, 1) (2, 1) 8)
  | 0x061 => some (fWord (1, 2) (1, 1) (9, 10) 8)
  | 0x062 => some (fWord (1, 20) (100, 1) (1, 2) 8)
  | 0x063 => some (fWord (5, 1) (100, 1) (20, 1) 8)
  | _ => none

/-- Gate drive and measurement (Tables 12-2, 14-5; R190). -/
def fieldsC (f : Nat) : Option FieldInfo :=
  match f with
  | 0x070 => some { fInt 0 255 50 20 with group := some 0x0F3 }
  | 0x071 => some { fInt 0 15 3 20 with group := some 0x0F3 }
  | 0x072 => some { fInt 0 15 3 20 with group := some 0x0F3 }
  | 0x073 => some { fInt 0 15 3 20 with group := some 0x0F3 }
  | 0x074 => some { fInt 0 15 7 40 with group := some 0x0F4 }
  | 0x075 => some { fInt 0 15 3 40 with group := some 0x0F4 }
  | 0x076 => some { fInt 0 2 1 6 with first := 2 }
  | 0x080 => some { fInt (-32768) 32767 0 (2 ^ 20) with kind := .calOnly }
  | 0x081 => some { fInt (-32768) 32767 0 (2 ^ 20) with kind := .calOnly }
  | 0x082 => some { fWord (-5, 2) (5, 1) (-5, 2) 32 with step := some (1, 1000) }
  | 0x083 => some { fWord (-5, 2) (5, 1) (5, 1) 32 with
      step := some (1, 1000), dflt := fun i => if i < 24 then (5, 2) else (5, 1) }
  | 0x084 => some { fWord (0, 1) (255, 1) (20, 1) 16 with step := some (1, 1) }
  | 0x085 => some { fInt 0 3 0 1 with clsB := true }
  | 0x086 => some { fWord (0, 1) (20000, 1) (1, 4) 1 with clsB := true }
  | 0x087 => some { fWord (0, 1) (20000, 1) (19, 4) 1 with clsB := true }
  | 0x088 => some { fWord (1, 10) (50, 1) (10, 1) 1 with step := some (1, 10), clsB := true }
  | 0x089 => some { fWord (1, 10) (4, 1) (1, 1) (2 ^ 20) with kind := .calOnly }
  | 0x08A => some { fInt (-16384) 16384 0 (2 ^ 20) with kind := .calOnly }
  | 0x08B => some { fAny (2 ^ 20) with kind := .readOnly }
  | 0x08C => some { fAny (2 ^ 20) with kind := .readOnly }
  | _ => none

/-- Safe stop, converters, next-release fields, image-only records and groups (Tables 11-3, 11-5, 19-5, 21-5). -/
def fieldsD (f : Nat) : Option FieldInfo :=
  match f with
  | 0x090 => some { fWord (1, 2) (6, 1) (2, 1) 2 with first := 1, dflt := fun i => if i = 2 then (1, 1) else (2, 1) }
  | 0x091 => some { fWord (1, 5) (5, 1) (1, 1) 2 with first := 1, dflt := fun i => if i = 2 then (1, 2) else (1, 1) }
  | 0x092 => some (fWord (1, 2) (10, 1) (2, 1) 1)
  | 0x093 => some (fWord (1, 40) (3600, 1) (1, 10) 1)
  | 0x094 => some (fInt 1 2 1 1)
  | 0x0A0 => some (fInt 0 32767 (-1) 3)
  | 0x0A1 => some { fInt 0 1 0 3 with clsB := true }
  | 0x0A2 => some { fWord (0, 1) (1000, 1) (100, 1) 3 with step := some (10, 1) }
  | 0x0A3 => some { fInt 0 1 0 11 with first := 32 }
  | 0x0A4 => some { fInt (-1) 32767 (-1) 11 with first := 32 }
  | 0x0A5 => some (fWord (1, 2) (15, 1) (5, 1) 1)
  | 0x0A6 => some (fWord (5, 1) (50, 1) (20, 1) 1)
  | 0x0A7 => some (fWord (1, 10) (10, 1) (1, 1) 1)
  | 0x0B0 => some { fInt 0 14 0 1 with kind := .nextRelease }
  | 0x0B1 => some { fInt 0 0xFFFF 0 1 with kind := .nextRelease }
  | 0x0B2 => some { fInt 0 1 0 1 with kind := .nextRelease }
  | 0x0B3 => some { fInt 0 0xFFFFFFFF 0 1 with kind := .nextRelease }
  | 0x0B4 => some { fInt 0 0xFFFFFFFF 0 1 with kind := .nextRelease }
  | 0x0B5 => some { fWord (0, 1) (86400, 1) (1800, 1) 1 with kind := .nextRelease }
  | 0x0C0 => some (fImage 4)
  | 0x0C1 => some (fImage 1)
  | 0x0C2 => some (fImage 1)
  | 0x0C3 => some (fImage 1)
  | 0x0C4 => some (fImage 4)
  | 0x0C5 => some (fImage 4)
  | 0x0C6 => some (fImage 4)
  | 0x0C7 => some (fImage 128)
  | 0x0F0 => some (fGroup 256)
  | 0x0F1 => some (fGroup 128)
  | 0x0F2 => some (fGroup 128)
  | 0x0F3 => some (fGroup 20)
  | 0x0F4 => some (fGroup 40)
  | 0x0F5 => some (fGroup 8)
  | 0x0F6 => some (fGroup 1)
  | 0x0F7 => some (fGroup 32768)
  | _ => none

/-- The field of a FIELD code (Table 21-5). -/
def fieldInfo (f : Nat) : Option FieldInfo :=
  if f < 0x050 then fieldsA f else if f < 0x070 then fieldsB f else if f < 0x090 then fieldsC f else fieldsD f

/-! ### Values (R394) -/

/-- An integer as VALUE. -/
def valOfInt (n : Int) : DWord := BitVec.ofInt 64 n
/-- A signal word as VALUE: VALUE[47:0], the rest zero. -/
def valOfSig (w : SigWord) : DWord := BitVec.ofNat 64 (sigToNat w)
/-- VALUE as a signal word and as an integer. -/
def valSig (v : DWord) : SigWord := sigOfNat (dw v 47 0)
def valInt (v : DWord) : Int := signedBits (dw v 31 0) 32
/-- A fraction as a signal word with clear status. -/
def sigRat (q : Int × Nat) : SigWord := mkSigRat q.1 q.2 Status.clear
/-- VALUE of a fraction in a field's coding. -/
def valOfRat (word : Bool) (q : Int × Nat) : DWord :=
  if word then valOfSig (sigRat q) else valOfInt (q.1 / (q.2 : Int))

/-- Is num/den within lo to hi? -/
def ratIn (r : (Int × Nat) × (Int × Nat)) (num : Int) (den : Nat) : Bool :=
  decide (r.1.1 * den ≤ num * r.1.2) && decide (num * r.2.2 ≤ r.2.1 * den)
/-- Round a value to a multiple of a step, ties toward +∞ (R136 step 3). -/
def roundStep (step : Option (Nat × Nat)) (v : Dy) : Int × Nat :=
  match step with
  | none => (dyNum v, dyDen v)
  | some (a, b) =>
    let k := (2 * dyNum v * b + (dyDen v * a : Nat)) / ((2 * dyDen v * a : Nat) : Int)
    (k * a, b)

/-- The range of a field's instance. SENS_LO and SENS_HI of a differential input end at +2.5 V, and LCI_LO and LCI_HI have the range of
the LCI_MODE they are stated for; in mode off, which has no unit, the widest of the three (Table 14-5, R267: DESIGN CHOICE, log 148). -/
def fieldRange (f inst : Nat) (i : FieldInfo) (mode : Int) : Option ((Int × Nat) × (Int × Nat)) :=
  if (f == 0x082 || f == 0x083) && decide (inst < 24) then some ((-5, 2), (5, 2))
  else if f == 0x086 || f == 0x087 then (if mode = 1 then some ((0, 1), (5, 1)) else if mode = 2 then some ((0, 1), (1, 1)) else i.range)
  else i.range
/-- VALUE after rounding, when it is well formed and in range (R394, R395 step 6); `mode` is the LCI_MODE it is stated for. -/
def checkValue (f inst : Nat) (i : FieldInfo) (v : DWord) (mode : Int := 0) : Option DWord :=
  if i.word then
    if dw v 63 48 ≠ 0 then none
    else
      let q := roundStep i.step (sigVal (valSig v))
      let ok := match fieldRange f inst i mode with | none => true | some r => ratIn r q.1 q.2
      if !ok then none
      else if f = 0x001 then some (valOfSig { valSig v with st := Status.ok })
      else if i.step = none then some (valOfSig { valSig v with st := Status.clear })
      else some (valOfSig (sigRat q))
  else if f = 0x0B3 || f = 0x0B4 then (if dw v 63 32 = 0 then some v else none)
  else
    let n := valInt v
    let ok := match fieldRange f inst i mode with | none => true | some r => ratIn r n 1
    if v = valOfInt n && ok && (f != 0x051 || [500, 1000, 2000, 4000].contains n) && (f != 0x0B0 || n % 2 == 0)
    then some v else none

/-- The default VALUE of a field's instance (R84): what its table states, else zero. -/
def cfgDefault (p : Nat) : DWord :=
  match fieldInfo (pidField p) with
  | some i => valOfRat i.word (i.dflt (pidInst p))
  | none => 0

/-! ### Fields of a lane -/

def LaneSt.field (s : LaneSt) (p : Nat) : Option CfgField := s.cfg.find? (fun c => c.pid == p)
/-- The live value of a field. -/
def LaneSt.cfgVal (s : LaneSt) (field inst : Nat) : DWord :=
  match s.field (pidOf field inst) with
  | some c => c.live
  | none => cfgDefault (pidOf field inst)
def LaneSt.cfgInt (s : LaneSt) (field inst : Nat) : Int := valInt (s.cfgVal field inst)
def LaneSt.cfgSig (s : LaneSt) (field inst : Nat) : SigWord := { valSig (s.cfgVal field inst) with st := Status.ok }
def LaneSt.cfgDy (s : LaneSt) (field inst : Nat) : Dy := sigVal (s.cfgSig field inst)
/-- Live configuration of the device: that of the lowest-indexed live lane. -/
def Dev.cfgVal (d : Dev) (field inst : Nat) : DWord := (d.lane d.lowLane).cfgVal field inst
def Dev.cfgInt (d : Dev) (field inst : Nat) : Int := (d.lane d.lowLane).cfgInt field inst
def Dev.cfgDy (d : Dev) (field inst : Nat) : Dy := (d.lane d.lowLane).cfgDy field inst

/-- A field as a drive die takes it: the value that two of the three lanes give it (R188, R221). -/
def Dev.dieVal (d : Dev) (field inst : Nat) : DWord :=
  let v := fun (l : Lane) => (d.lane l).cfgVal field inst
  if v .a = v .b ∨ v .a = v .c then v .a else if v .b = v .c then v .b else d.cfgVal field inst
def Dev.dieInt (d : Dev) (field inst : Nat) : Int := valInt (d.dieVal field inst)

/-- Change a field's record, making one at the default when there is none. -/
def LaneSt.onField (s : LaneSt) (p : Nat) (host : Bool) (f : CfgField → CfgField) : LaneSt :=
  if (s.field p).isSome then { s with cfg := s.cfg.map (fun c => if c.pid == p then f c else c) }
  else { s with cfg := s.cfg ++ [f { pid := p, host := host, live := cfgDefault p, staged := none, at_ := 0, due := [] }] }
/-- Stage a value: it replaces the value staged before (R62). -/
def LaneSt.stage (s : LaneSt) (p : Nat) (host : Bool) (v : DWord) : LaneSt :=
  s.onField p host (fun c => { c with staged := some v })
/-- Give the staged value the commit point g. -/
def LaneSt.assign (s : LaneSt) (p : Nat) (g : BitVec 64) : LaneSt :=
  s.onField p true (fun c => match c.staged with
    | some v => { c with staged := none, due := c.due ++ [(g, v)] }
    | none => c)
/-- Drop the staged value. -/
def LaneSt.unstage (s : LaneSt) (p : Nat) : LaneSt :=
  { s with cfg := s.cfg.map (fun c => if c.pid == p then { c with staged := none } else c) }

/-- The running image, or the empty one. -/
def Dev.img (d : Dev) : Img := d.boot.running.getD
  { size := 0, tfCode := 2, k := 10, initialMode := 0, rateLimit := 0, paired := false, secVersion := 0, imageId := 0, digest := [],
    modes := [], entries := [], descs := [], sigmap := [], ranges := [], coefs := [], config := [], nets := [] }

/-! ### Commit groups (Table 3-4) -/

/-- The four signals of the DC-link thresholds record (R212): THR1 to THR4. -/
def Img.cfgRec (g : Img) (p : Nat) : Option CfgRec := g.config.find? (fun r => r.pid == p)
def Img.cfgWord (g : Img) (p : Nat) : DWord := match g.cfgRec p with | some r => r.value | none => 0
def Img.thrSigs (g : Img) : List Nat :=
  match g.cfgRec (pidOf 0x0C1 0) with
  | some r => [dw r.value 59 45, dw r.value 44 30, dw r.value 29 15, dw r.value 14 0]
  | none => []
/-- The group of a field, as the group's PARAM_ID; the field itself when it commits alone. -/
def groupPid (g : Img) (p : Nat) : Nat :=
  let f := pidField p
  if f = 0x001 then (if g.thrSigs.contains (pidInst p) then pidOf 0x0F6 0 else p)
  else match fieldInfo f with
    | some i => (match i.group with | some q => pidOf q (pidInst p) | none => p)
    | none => p
/-- The member fields of a group, or the field alone. -/
def groupMembers (g : Img) (p : Nat) : List Nat :=
  let i := pidInst p
  match pidField p with
  | 0x0F1 => [pidOf 0x022 i]
  | 0x0F2 => [pidOf 0x020 i, pidOf 0x021 i]
  | 0x0F3 => [pidOf 0x070 i, pidOf 0x071 i, pidOf 0x072 i, pidOf 0x073 i]
  | 0x0F4 => [pidOf 0x074 i, pidOf 0x075 i]
  | 0x0F5 => [pidOf 0x037 i, pidOf 0x038 i]
  | 0x0F6 => g.thrSigs.map (pidOf 0x001)
  | 0x0F7 => [pidOf 0x010 i, pidOf 0x011 i, pidOf 0x012 i]
  | _ => [p]
/-- Class B: the members become live only at a bell (R59). -/
def groupClsB (p : Nat) : Bool :=
  match pidField p with
  | 0x0F5 => true
  | f => match fieldInfo f with | some i => i.clsB | none => false

/-- Is the live bank of a loop b? -/
def LaneSt.liveBank (s : LaneSt) (loop : Nat) : Nat := (s.cfgInt 0x022 loop).toNat
/-- The committed coefficient set of a loop's bank. -/
def LaneSt.coefOf (s : LaneSt) (loop bank : Nat) : Option CoefRec := s.coef.find? (fun r => r.loop == loop && r.bank == bank)
/-- Shape of a set: stages and sections. -/
def coefShape (r : CoefRec) : Nat × Nat := (r.stages, r.sections)

end Sys2Proof.Machine
end

