-- ==== Sys2Proof/Machine/Sequencer.lean ====
section
/-! DEFINITION. The timetable sequencer of a lane: the entry at the pointer, its dispatch clock and slip (R49, R50), a dispatch
collision (R54), a parity failure (R105), a missed deadline (R56); and the commands of sequencer control. -/

namespace Sys2Proof.Machine
open Sys2Proof

/-- The entry at lane l's pointer in the mode in force, when the array has one left. -/
def Dev.entryAt (d : Dev) (l : Lane) : Option Entry :=
  match d.boot.running with
  | none => none
  | some g =>
    let s := (d.lane l).seq
    match g.mode s.mode with
    | none => none
    | some m => if s.ptr < m.count then (g.entries[m.start + s.ptr]?).map entryOf else none

/-- The target clock of an offset at nominal rate, in lane clocks from the bell (R90): 0.8 GT units per lane clock. -/
def targetClk (offset : Nat) : Nat := ceilDiv (5 * offset) 4
/-- The nominal dispatch clocks of entries in array order, the first of them not before clock `next` (R49, R90). -/
def nomClks : Nat → List Entry → List (Entry × Nat)
  | _, [] => []
  | next, e :: r => (e, max (targetClk e.offset) next) :: nomClks (max (targetClk e.offset) next + 1) r
/-- The target clock (R49): the first lane clock at which the lane's replica is at the bell plus the offset. -/
def Dev.target (d : Dev) (l : Lane) (offset : Nat) : Nat := (d.lane l).seq.clkOf ((d.time.bellGt.toNat + offset) * 2 ^ 32)
/-- The dispatch clock (R49, R50): the later of the target clock and the clock after the previous dispatch, and not before the clock of
a correction that overtook the target. -/
def Dev.dispatchAt (d : Dev) (l : Lane) (offset : Nat) : Nat :=
  let s := (d.lane l).seq
  max (d.target l offset) (match s.last with | none => s.repClk | some t => max s.repClk (t + 1))
/-- The pointer, the last dispatch and the unit's deadline move on. -/
def SeqSt.dispatched (s : SeqSt) (unit clk dead : Nat) : SeqSt :=
  { s with ptr := s.ptr + 1, last := some clk, busy := putNat s.busy unit dead, slip := clk }

/-! ### Completion (R53, R77) -/

def Late.stages (e : Late) : Bool := !e.stage.isEmpty || e.coef.isSome
/-- Complete by lane clock n. A staging that completes in a swap clock belongs to the next commit point (R60). -/
def Late.doneBy (swap : Bool) (n : Nat) (e : Late) : Bool := if swap && e.stages then decide (e.due < n) else decide (e.due ≤ n)
/-- Insert in order of completion, dispatch order kept among equals. -/
def insertLate (e : Late) : List Late → List Late
  | [] => [e]
  | x :: r => if e.due < x.due then e :: x :: r else x :: insertLate e r
/-- A coefficient set reaches the shadow: it replaces what the timetable staged for the bank before (R62). -/
def LaneSt.stageCoef (q : LaneSt) (c : CoefRec) : LaneSt :=
  { q with coefS := q.coefS.filter (fun x => !(!x.host && x.rcd.loop == c.loop && x.rcd.bank == c.bank && x.due.isNone)) ++
      [{ host := false, at_ := 0, due := none, rcd := c }] }
/-- What an operation leaves when it completes. -/
def LaneSt.complete (q : LaneSt) (e : Late) : LaneSt :=
  let q := e.stage.foldl (fun q v => q.stage v.1 false v.2) { q with mem := memPut q.mem e.cells }
  match e.coef with
  | some c => q.stageCoef c
  | none => q
/-- The operations complete by lane clock n have left their results, in order of completion. -/
def LaneSt.settle (q : LaneSt) (swap : Bool) (n : Nat) : LaneSt :=
  let due := (q.seq.late.filter (Late.doneBy swap n)).foldl (fun l e => insertLate e l) []
  due.foldl LaneSt.complete { q with seq := { q.seq with late := q.seq.late.filter (fun e => !e.doneBy swap n) } }
/-- Every lane's results up to the present. -/
def Dev.settled (d : Dev) : Dev := lanesAll.foldl (fun d l => d.onLane l (fun q => q.settle false (d.laneClk l))) d
/-- The results before the boundary at GT b, of which a staging that completes in the swap clock is none. -/
def Dev.settledAt (d : Dev) (b : Nat) : Dev := d.onLanes (fun q => q.settle true (q.seq.clkOf (b * 2 ^ 32)))

/-- The sequencer's part of a dispatch: the state after it, and whether the operation runs. Time moves on to the dispatch clock, and
what is complete by then is visible. -/
def startEntry (d : Dev) (l : Lane) (p : Bool) (e : Entry) (g : Img) : Dev × Bool :=
  let s := (d.lane l).seq
  let clk := d.dispatchAt l e.offset
  let slip := clk - d.target l e.offset
  let d := (d.toLaneClk l clk).onLane l (fun q => q.settle false clk)
  if slip > 64 then (d.takeOut l 3 s.ptr e.unit, false)
  else if decide (clk < (lookupNat s.busy e.unit).getD 0) then (d.takeOut l 2 s.ptr e.unit, false)
  else if p then (d.takeOut l 6 s.ptr e.unit, false)
  else (d.onSeq l (fun q => { (q.dispatched e.unit clk (clk + cost g e)) with slip := slip }), true)

/-- The groups lane l has posted to between two states, once for each word. -/
def postedBy (d0 d1 : Dev) (l : Lane) : List Group :=
  d1.vot.groups.flatMap (fun x => List.replicate ((x.flight.get l).length - ((d0.group x.g).flight.get l).length) x.g)
/-- The operation that led from d0 to d1 is in progress: what it writes to lane memory is held back until its deadline clock, unless
the lane has gone out in it (R56, R77). -/
def holdBack (l : Lane) (e : Entry) (stage : List (Nat × DWord)) (coef : Option CoefRec) (d0 d1 : Dev) : Dev :=
  let s := (d0.lane l).seq
  let m := (d0.lane l).mem
  let work : Late := { unit := e.unit, entry := s.ptr - 1, due := (lookupNat s.busy e.unit).getD 0, cells := memDiff m (d1.lane l).mem,
                       stage := stage, coef := coef, groups := postedBy d0 d1 l }
  d1.onLane l (fun q => { q with mem := m, seq := if d1.runs l then { q.seq with late := q.seq.late ++ [work] } else q.seq })

/-- Dispatch the entry at lane l's pointer when the lane runs and the entry is one `ok` accepts, then run the operation: its fields
to stage are `stage`. -/
def dispatchStaging (d : Dev) (l : Lane) (p : Bool) (ok : Img → Entry → Bool)
    (stage : Img → Entry → Dev → List (Nat × DWord) × Option CoefRec) (body : Img → Entry → Dev → Dev) : Dev :=
  match d.boot.running, d.entryAt l with
  | some g, some e =>
    if d.runs l && ok g e then
      match startEntry d l p e g with
      | (d', true) => holdBack l e (stage g e d').1 (stage g e d').2 d' (body g e d')
      | (d', false) => d'
    else d
  | _, _ => d
/-- Dispatch an entry that stages nothing. -/
def dispatch (d : Dev) (l : Lane) (p : Bool) (ok : Img → Entry → Bool) (body : Img → Entry → Dev → Dev) : Dev :=
  dispatchStaging d l p ok (fun _ _ _ => ([], none)) body

/-- The class alone decides. -/
def clsIs (c : Nat) : Img → Entry → Bool := fun _ e => e.cls == c

/-! ### Sequencer control -/

/-- NO_OPERATION (class 0x00). -/
def execNoOperation (l : Lane) (p : Bool) (s : State) : Host.Outcome State Fault Refusal :=
  s.onDev (fun d => dispatch d l p (clsIs 0x00) (fun _ _ d => d))

/-- MARKER (class 0x01): the operand is written to the lane trace. -/
def execMarker (l : Lane) (p : Bool) (s : State) : Host.Outcome State Fault Refusal :=
  s.onDev (fun d => dispatch d l p (clsIs 0x01) (fun _ e d =>
    d.onSeq l (fun q => { q with trace := q.trace ++ [BitVec.ofNat 32 e.operand] })))

/-- The last word lane l posted to a group is taken back. -/
def unpost (l : Lane) (d : Dev) (g : Group) : Dev := d.onGroup g (fun x => { x with flight := x.flight.set l (x.flight.get l).dropLast })
/-- MISSED_DEADLINE (R53, R56): at the deadline clock of the operation in progress on the unit the lane goes out with cause 0x1, and
nothing of its result is written or posted. -/
def execMissedDeadline (l : Lane) (unit : Nat) (s : State) : Host.Outcome State Fault Refusal :=
  s.onDev (fun d =>
    match (d.lane l).seq.late.find? (fun e => e.unit == unit) with
    | some e => if d.runs l then (e.groups.foldl (unpost l) (d.toLaneClk l e.due)).takeOut l 1 e.entry e.unit else d
    | none => d)

/-- LMC_POST_TIMEOUT (R18): while the hub is not serving, the lane monitor core's unacknowledged post counts as failed, is
discarded and is counted in its own memory. -/
def execLmcPostTimeout (l : Lane) (s : State) : Host.Outcome State Fault Refusal :=
  s.onDev (fun d => if d.hubUp then d else
    d.onSeq l (fun q => if q.lmcDown then q else { q with lmcDrops := q.lmcDrops + 1 }))

/-- LANE_MONITOR_CORE_FAULT (R69): the lane keeps executing and voting; its mailbox and journal traffic is lost, which the partner lanes'
cores that still run report. -/
def execLaneMonitorCoreFault (l : Lane) (s : State) : Host.Outcome State Fault Refusal :=
  s.onDev (fun d => (d.onLanes (fun q =>
    if q.seq.lmcDown then q else { q with seq := { q.seq with lmcPeers := q.seq.lmcPeers.set l true } })).onSeq l (fun q =>
      { q with lmcDown := true, lmcPeers := (d.lane l).seq.lmcPeers }))

end Sys2Proof.Machine
end

