-- ==== Sys2Proof/Machine/SignalOps.lean ====
section
/-! DEFINITION. The signal operation unit: the 22 operations of class 0x09 (R150, R151, Table 7-4) and the 1-D and 2-D lookups
of classes 0x0A and 0x0B (R152, R153). -/

namespace Sys2Proof.Machine
open Sys2Proof

/-! ### Results as functions of the operands -/

def opAdd (a b : SigWord) : SigWord := mkSig (sumTerms [termOf a false, termOf b false]) (stOf [a, b])
def opSub (a b : SigWord) : SigWord := mkSig (sumTerms [termOf a false, termOf b true]) (stOf [a, b])
def opMul (a b : SigWord) : SigWord := mkSig (sumTerms [termMul a b]) (stOf [a, b])
def opMac (a b c : SigWord) : SigWord := mkSig (sumTerms [termMul a b, termOf c false]) (stOf [a, b, c])
def opNeg (a : SigWord) : SigWord := mkSig (dyNeg (sigVal a)) (stOf [a])
def opAbs (a : SigWord) : SigWord := mkSig (dyAbs (sigVal a)) (stOf [a])
/-- A copy of the smaller; A when equal; status of both. -/
def opMin (a b : SigWord) : SigWord := sigWith (if sigLt b a then b else a) (stOf [a, b])
def opMax (a b : SigWord) : SigWord := sigWith (if sigLt a b then b else a) (stOf [a, b])
/-- A when B ≤ A ≤ C; C when B > C; else the limit that A breaks, with LIMITED. -/
def opLimit (a b c : SigWord) : SigWord :=
  let st := stOf [a, b, c]
  if sigLt c b then sigWith c (stLim st true)
  else if sigLt a b then sigWith b (stLim st true)
  else if sigLt c a then sigWith c (stLim st true)
  else sigWith a st
def opDeadband (a b : SigWord) : SigWord :=
  let st := stOf [a, b]
  if dyLe (dyAbs (sigVal a)) (dyAbs (sigVal b)) then ⟨0, 0, st⟩
  else mkSig (sumTerms [termOf a false, termAbs b (decide (0 < sigMant a))]) st
/-- EXP + IMM with MANT unchanged, under R136 steps 5 and 6. -/
def opScale2 (a : SigWord) (imm : Int) : SigWord :=
  let st := stOf [a]
  let e := sigExp a + imm
  if a.mant = 0 then ⟨0, 0, st⟩
  else if e > 127 then ⟨if sigMant a < 0 then BitVec.ofInt 32 (-(2 ^ 31)) else BitVec.ofInt 32 (2 ^ 31 - 1), 127, stLim st true⟩
  else if e < -128 then ⟨0, 0, st⟩
  else ⟨a.mant, BitVec.ofInt 8 e, st⟩
def opSign (a : SigWord) : SigWord := sigInt (sigMant a).sign (stOf [a])
/-- The flag abs(A − C) > B; C is written with a copy of A. -/
def opRatecmp (a b c : SigWord) : SigWord :=
  sigFlag (dyLt (sigVal b) (dyAbs (dySub (sigVal a) (sigVal c)))) (stOf [a, b, c])
def opCmp (cond : Nat) (a b : SigWord) : SigWord := sigFlag (condHolds cond a b) (stOf [a, b])
def opHyst (a b c old : SigWord) : SigWord :=
  if sigLt b a then sigFlag true (stOf [a, b, c])
  else if sigLt a c then sigFlag false (stOf [a, b, c])
  else old
def opSel (fbit : Nat) (a b c : SigWord) : SigWord :=
  let ch := if sigBit a fbit then b else c
  sigWith ch (stJoin a.st ch.st)
def opHold (a old : SigWord) : SigWord :=
  if a.st.valid then a else sigWith old { old.st with stale := true }
def opLogic (f : Word → Word → Word) (a b : SigWord) : SigWord := ⟨f a.mant b.mant, 31, stOf [a, b]⟩
def opNot (a : SigWord) : SigWord := ⟨~~~a.mant, 31, stOf [a]⟩

/-! ### Lookups -/

/-- One axis: i, f in units of 2^-24, and whether it clamps. -/
def lookAxis (x xmin : SigWord) (p : Int) (n : Nat) : Nat × Int × Bool :=
  let u := dyScale (dySub (sigVal x) (sigVal xmin)) (-p)
  if dyLt u (dyInt 0) then (0, 0, true)
  else if dyLt (dyInt (n - 1)) u then (n - 2, 2 ^ 24, true)
  else
    let i := min (dyFloor u).toNat (n - 2)
    (i, dyFloorAt (dySub u (dyInt i)) 24, false)
/-- y0 + f (y1 − y0) in units of 2^-24 of the table's LSB. -/
def lookMix (y0 y1 f : Int) : Int := y0 * 2 ^ 24 + f * (y1 - y0)
/-- The result of a 1-D lookup of the descriptor at x on the word v (R152, Table 7-5). -/
def lookup1 (g : Img) (x : Nat) (v : SigWord) : SigWord :=
  let w1 := g.desc x 1
  match lookAxis v (constSig (g.desc x 2)) (signedBits (dw w1 24 17) 8) (dw w1 33 25) with
  | (i, f, c) =>
    mkSig ⟨lookMix (tabVal g x 3 i) (tabVal g x 3 (i + 1)) f, signedBits (dw w1 16 9) 8 - 55⟩ (stLim (stOf [v]) c)
/-- The result of a 2-D lookup (R153, Table 7-6). -/
def lookup2 (g : Img) (x : Nat) (vx vy : SigWord) : SigWord :=
  let w1 := g.desc x 1
  let w2 := g.desc x 2
  let nx := dw w1 18 13
  match lookAxis vx (constSig (g.desc x 3)) (signedBits (dw w2 63 56) 8) nx,
        lookAxis vy (constSig (g.desc x 4)) (signedBits (dw w2 55 48) 8) (dw w1 12 7) with
  | (ix, fx, cx), (iy, fy, cy) =>
    let row := fun j => dyRound ⟨lookMix (tabVal g x 5 (j * nx + ix)) (tabVal g x 5 (j * nx + ix + 1)) fx, -24⟩
    mkSig ⟨lookMix (row iy) (row (iy + 1)) fy, signedBits (dw w2 47 40) 8 - 55⟩ (stLim (stOf [vx, vy]) (cx || cy))

/-! ### The commands -/

/-- A class 0x09 entry whose descriptor carries this OP. -/
def opIs (op : Nat) : Img → Entry → Bool := fun g e => e.cls == 0x09 && (sigOpOf g e.operand).op == op
/-- Run a signal operation: read the operands and the old OUT, write OUT. -/
def sigOp (d : Dev) (l : Lane) (p : Bool) (op : Nat) (f : SigOp → LaneSt → SigWord) : Dev :=
  dispatch d l p (opIs op) (fun g e d =>
    let o := sigOpOf g e.operand
    d.onLane l (fun q => q.setSig o.out (f o q)))

def execMove (l : Lane) (p : Bool) (s : State) : Host.Outcome State Fault Refusal :=
  s.onDev (fun d => sigOp d l p 0x00 (fun o q => q.sig o.a))
def execAdd (l : Lane) (p : Bool) (s : State) : Host.Outcome State Fault Refusal :=
  s.onDev (fun d => sigOp d l p 0x01 (fun o q => opAdd (q.sig o.a) (q.sig o.b)))
def execSub (l : Lane) (p : Bool) (s : State) : Host.Outcome State Fault Refusal :=
  s.onDev (fun d => sigOp d l p 0x02 (fun o q => opSub (q.sig o.a) (q.sig o.b)))
def execMul (l : Lane) (p : Bool) (s : State) : Host.Outcome State Fault Refusal :=
  s.onDev (fun d => sigOp d l p 0x03 (fun o q => opMul (q.sig o.a) (q.sig o.b)))
def execMac (l : Lane) (p : Bool) (s : State) : Host.Outcome State Fault Refusal :=
  s.onDev (fun d => sigOp d l p 0x04 (fun o q => opMac (q.sig o.a) (q.sig o.b) (q.sig o.c)))
def execNeg (l : Lane) (p : Bool) (s : State) : Host.Outcome State Fault Refusal :=
  s.onDev (fun d => sigOp d l p 0x05 (fun o q => opNeg (q.sig o.a)))
def execAbs (l : Lane) (p : Bool) (s : State) : Host.Outcome State Fault Refusal :=
  s.onDev (fun d => sigOp d l p 0x06 (fun o q => opAbs (q.sig o.a)))
def execMin (l : Lane) (p : Bool) (s : State) : Host.Outcome State Fault Refusal :=
  s.onDev (fun d => sigOp d l p 0x07 (fun o q => opMin (q.sig o.a) (q.sig o.b)))
def execMax (l : Lane) (p : Bool) (s : State) : Host.Outcome State Fault Refusal :=
  s.onDev (fun d => sigOp d l p 0x08 (fun o q => opMax (q.sig o.a) (q.sig o.b)))
def execLimit (l : Lane) (p : Bool) (s : State) : Host.Outcome State Fault Refusal :=
  s.onDev (fun d => sigOp d l p 0x09 (fun o q => opLimit (q.sig o.a) (q.sig o.b) (q.sig o.c)))
def execDeadband (l : Lane) (p : Bool) (s : State) : Host.Outcome State Fault Refusal :=
  s.onDev (fun d => sigOp d l p 0x0A (fun o q => opDeadband (q.sig o.a) (q.sig o.b)))
def execScale2 (l : Lane) (p : Bool) (s : State) : Host.Outcome State Fault Refusal :=
  s.onDev (fun d => sigOp d l p 0x0B (fun o q => opScale2 (q.sig o.a) o.imm))
def execSign (l : Lane) (p : Bool) (s : State) : Host.Outcome State Fault Refusal :=
  s.onDev (fun d => sigOp d l p 0x0C (fun o q => opSign (q.sig o.a)))
/-- RATECMP writes two words: the flag to OUT, then a copy of A to C. -/
def execRatecmp (l : Lane) (p : Bool) (s : State) : Host.Outcome State Fault Refusal :=
  s.onDev (fun d => dispatch d l p (opIs 0x0D) (fun g e d =>
    let o := sigOpOf g e.operand
    d.onLane l (fun q => (q.setSig o.out (opRatecmp (q.sig o.a) (q.sig o.b) (q.sig o.c))).setSig o.c (q.sig o.a))))
def execCmp (l : Lane) (p : Bool) (s : State) : Host.Outcome State Fault Refusal :=
  s.onDev (fun d => sigOp d l p 0x0E (fun o q => opCmp o.cond (q.sig o.a) (q.sig o.b)))
def execHyst (l : Lane) (p : Bool) (s : State) : Host.Outcome State Fault Refusal :=
  s.onDev (fun d => sigOp d l p 0x0F (fun o q => opHyst (q.sig o.a) (q.sig o.b) (q.sig o.c) (q.sig o.out)))
def execSel (l : Lane) (p : Bool) (s : State) : Host.Outcome State Fault Refusal :=
  s.onDev (fun d => sigOp d l p 0x10 (fun o q => opSel o.fbit (q.sig o.a) (q.sig o.b) (q.sig o.c)))
def execHold (l : Lane) (p : Bool) (s : State) : Host.Outcome State Fault Refusal :=
  s.onDev (fun d => sigOp d l p 0x11 (fun o q => opHold (q.sig o.a) (q.sig o.out)))
def execAnd (l : Lane) (p : Bool) (s : State) : Host.Outcome State Fault Refusal :=
  s.onDev (fun d => sigOp d l p 0x12 (fun o q => opLogic (· &&& ·) (q.sig o.a) (q.sig o.b)))
def execOr (l : Lane) (p : Bool) (s : State) : Host.Outcome State Fault Refusal :=
  s.onDev (fun d => sigOp d l p 0x13 (fun o q => opLogic (· ||| ·) (q.sig o.a) (q.sig o.b)))
def execXor (l : Lane) (p : Bool) (s : State) : Host.Outcome State Fault Refusal :=
  s.onDev (fun d => sigOp d l p 0x14 (fun o q => opLogic (· ^^^ ·) (q.sig o.a) (q.sig o.b)))
def execNot (l : Lane) (p : Bool) (s : State) : Host.Outcome State Fault Refusal :=
  s.onDev (fun d => sigOp d l p 0x15 (fun o q => opNot (q.sig o.a)))
/-- LOOKUP_1D (class 0x0A): IN in [63:49], OUT in [48:34] of word 1. -/
def execLookup1d (l : Lane) (p : Bool) (s : State) : Host.Outcome State Fault Refusal :=
  s.onDev (fun d => dispatch d l p (clsIs 0x0A) (fun g e d =>
    let w1 := g.desc e.operand 1
    d.onLane l (fun q => q.setSig (dw w1 48 34) (lookup1 g e.operand (q.sig (dw w1 63 49))))))
/-- LOOKUP_2D (class 0x0B): IN_X, IN_Y and OUT in word 1. -/
def execLookup2d (l : Lane) (p : Bool) (s : State) : Host.Outcome State Fault Refusal :=
  s.onDev (fun d => dispatch d l p (clsIs 0x0B) (fun g e d =>
    let w1 := g.desc e.operand 1
    d.onLane l (fun q => q.setSig (dw w1 33 19) (lookup2 g e.operand (q.sig (dw w1 63 49)) (q.sig (dw w1 48 34))))))

end Sys2Proof.Machine
end

