-- ==== Sys2Proof/Machine/Sections.lean ====
section
/-! DEFINITION. The section engine (R140 to R148) and the loop close (R154 to R162, R166). -/

namespace Sys2Proof.Machine
open Sys2Proof

/-- A counter whose event arises identically on every lane (R148, R166) is kept once: as the lowest-indexed live lane counts. -/
def Dev.countLow (d : Dev) (l : Lane) (addr n : Nat) : Dev := if l = d.lowLane then d.count addr n else d

/-- round30: v ÷ 2^30 to nearest, ties toward +∞. -/
def round30 (v : Int) : Int := (v + 2 ^ 29) / 2 ^ 30

/-- The running values of an evaluation: signal, saturation seen, all small, new states so far. -/
structure SecRun where
  x     : Int
  sat   : Bool
  small : Bool
  st    : List (Int × Int)
  deriving DecidableEq, Repr

/-- One section of R145 with coefficients b0, b1, b2, a1, a2 and states s1, s2. -/
def sectionStep (r : SecRun) (b0 b1 b2 a1 a2 s1 s2 : Int) : SecRun :=
  let (y, c0) := clip32 (round30 (b0 * r.x + s1 * 2 ^ 30))
  let (t1, c1) := clip32 (round30 (b1 * r.x - a1 * y + s2 * 2 ^ 30))
  let (t2, c2) := clip32 (round30 (b2 * r.x - a2 * y))
  { x := y, sat := r.sat || c0 || c1 || c2, small := r.small && decide (y.natAbs < 2 ^ 28), st := r.st ++ [(t1, t2)] }

/-- Coefficient word k of section j of a set. -/
def coefWord (c : CoefRec) (j k : Nat) : Int := (c.words.getD (5 * j + k) 0).toInt
/-- Sections base to base + n − 1 in turn over their states. -/
def sectionLoop (c : CoefRec) (base : Nat) : Nat → List (Int × Int) → SecRun → SecRun
  | _, [], r => r
  | j, (s1, s2) :: rest, r =>
    let w := fun k => coefWord c (base + j) k
    sectionLoop c base (j + 1) rest (sectionStep r (w 0) (w 1) (w 2) (w 3) (w 4) s1 s2)

/-- The stage input aligned to E_s, clipped at 256.0 (R145). -/
def stageInput (w : SigWord) (gain e : Int) : Int × Bool :=
  let x := dyFloor ⟨sigMant w, sigExp w + gain - e⟩
  if 2 ^ 39 ≤ x.natAbs then (x.sign * (2 ^ 39 - 1), true) else (x, false)

/-- Result of an evaluation: output mantissa, saturation, new exponent, new states, EXP_CEIL. -/
structure StageOut where
  y    : Int
  sat  : Bool
  e    : Int
  st   : List (Int × Int)
  ceil : Bool
  deriving DecidableEq, Repr

/-- R145 and R146 on the states st under exponent e. -/
def stageEval (c : CoefRec) (base : Nat) (w : SigWord) (gain e lo hi : Int) (st : List (Int × Int)) : StageOut :=
  let (x, s0) := stageInput w gain e
  let r := sectionLoop c base 0 st { x := x, sat := s0, small := decide (x.natAbs < 2 ^ 28), st := [] }
  let all := fun (f : Int → Bool) => r.st.all (fun p => f p.1 && f p.2)
  let up := r.sat || !(all (fun s => decide (s.natAbs < 2 ^ 30)))
  let down := !up && r.small && all (fun s => decide (s.natAbs < 2 ^ 28))
  let mapSt := fun (f : Int → Int) => r.st.map (fun p => (f p.1, f p.2))
  if up && decide (e < hi) then ⟨r.x, r.sat, e + 1, mapSt (fun s => (s + 1) / 2), false⟩
  else if down && decide (lo < e) then ⟨r.x, r.sat, e - 1, mapSt (fun s => s * 2), false⟩
  else ⟨r.x, r.sat, e, r.st, up && decide (e = hi)⟩

/-- The states of n sections of the block at address a. -/
def readStates (m : List Host.Cell) (a n : Nat) : List (Int × Int) :=
  (List.range n).map (fun j => (signedBits (memWord m (a + 8 + 8 * j)) 32, signedBits (memWord m (a + 12 + 8 * j)) 32))
def writeStates (m : List Host.Cell) (a : Nat) : Nat → List (Int × Int) → List Host.Cell
  | _, [] => m
  | j, (s1, s2) :: r => writeStates (memSetWord (memSetWord m (a + 8 + 8 * j) s1) (a + 12 + 8 * j) s2) a (j + 1) r

/-- An empty coefficient record: what a loop without one would read. -/
def CoefRec.none (loop bank : Nat) : CoefRec := { loop := loop, bank := bank, stages := 0, sections := 0, words := [], exps := [] }
/-- The live coefficient set of a loop. -/
def LaneSt.liveCoef (s : LaneSt) (loop : Nat) : CoefRec := (s.coefOf loop (s.liveBank loop)).getD (CoefRec.none loop 0)

/-- The evaluation of the stage descriptor at x in a lane. -/
def stageOf_eval (s : LaneSt) (t : StageDesc) : StageOut :=
  let c := s.liveCoef t.loop
  stageEval c t.base (s.sig t.inp) ((c.exps.getD t.stage 0).toInt) ((memGet s.mem t.addr).toInt) t.expMin t.expMax
    (readStates s.mem t.addr t.n)

/-- STAGE_EVALUATION (class 0x08). -/
def execStageEvaluation (l : Lane) (p : Bool) (s : State) : Host.Outcome State Fault Refusal :=
  s.onDev (fun d => dispatch d l p (clsIs 0x08) (fun g e d =>
    let t := stageOf g e.operand
    let q := d.lane l
    let r := stageOf_eval q t
    let w := q.sig t.inp
    let out : SigWord := ⟨BitVec.ofInt 32 r.y, BitVec.ofInt 8 ((memGet q.mem t.addr).toInt), stLim w.st r.sat⟩
    let d := d.onLane l (fun q =>
      { q with mem := memSetSig (laneSet (writeStates q.mem t.addr 0 r.st) t.addr (BitVec.ofInt 8 r.e)) t.out out })
    let d := if r.sat then d.countLow l (cStage t.loop t.stage 0) 1 else d
    if r.ceil then d.countLow l (cStage t.loop t.stage 1) 1 else d))

/-! ### The loop close -/

/-- A loop close descriptor (Table 8-1). -/
structure LoopDesc where
  loop    : Nat
  y       : Nat
  out     : Nat
  trkVal  : Nat
  trkFlag : Nat
  fbit    : Nat
  pol     : Bool
  fb      : Nat
  trkEn   : Bool
  fbEn    : Bool
  intEn   : Bool
  bankBl  : Bool
  addr    : Nat
  sec     : Nat
  deriving DecidableEq, Repr
def loopOf (g : Img) (x : Nat) : LoopDesc :=
  let w1 := g.desc x 1
  let w2 := g.desc x 2
  let w3 := g.desc x 3
  { loop := dw w1 63 57, y := dw w1 56 42, out := dw w1 41 27, trkVal := dw w1 26 12, trkFlag := dw w2 63 49,
    fbit := dw w2 48 44, pol := w2.getLsbD 43, fb := dw w2 42 28, trkEn := w2.getLsbD 27, fbEn := w2.getLsbD 26,
    intEn := w2.getLsbD 25, bankBl := w2.getLsbD 24, addr := dw w3 63 32, sec := dw w3 31 29 }

/-- The result of a loop close: OUT, the new s1, TRK_INVALID, SHIFT_SAT. -/
structure LoopOut where
  out     : SigWord
  s1      : Int
  invalid : Bool
  shift   : Bool
  deriving DecidableEq, Repr

/-- R157 to R159. -/
def loopClose (t : LoopDesc) (y trkVal trkFlag fb old lo hi : SigWord) (chg : Bool) (e s1 : Int) : LoopOut :=
  let forced := !trkFlag.st.valid
  let want := t.trkEn && (forced || sigBit trkFlag t.fbit == t.pol)
  let trk := want && trkVal.st.valid
  let fbT := !trk && t.fbEn && fb.st.limited
  let bank := !trk && !fbT && t.bankBl && chg
  let target := if trk then trkVal else if fbT then fb else if bank then old else y
  let st0 := if trk then stOf [trkVal] else if fbT then stOf [fb, y] else if bank then stOf [old, y] else stOf [y]
  let st1 := stLim st0 fbT
  let st2 := if trk && forced then { st1 with stale := true } else st1
  let lim := opLimit { target with st := st2 } { lo with st := Status.ok } { hi with st := Status.ok }
  let out := mkSig (sigVal lim) lim.st
  let diff := dySub (sigVal lim) (sigVal y)
  let adj := t.intEn && !(dyIsZero diff)
  let (n, c) := clip32 (s1 + dyRound (dyScale diff (31 - e)))
  { out := out, s1 := if adj then n else s1, invalid := want && !trkVal.st.valid, shift := adj && c }

/-- LOOP_CLOSE (class 0x0C). -/
def execLoopClose (l : Lane) (p : Bool) (s : State) : Host.Outcome State Fault Refusal :=
  s.onDev (fun d => dispatch d l p (clsIs 0x0C) (fun g e d =>
    let t := loopOf g e.operand
    let q := d.lane l
    let a := t.addr + 8 + 8 * t.sec
    let r := loopClose t (q.sig t.y) (q.sig t.trkVal) (q.sig t.trkFlag) (q.sig t.fb) (q.sig t.out)
      (q.cfgSig 0x021 t.loop) (q.cfgSig 0x020 t.loop) (q.bankL.contains t.loop) ((memGet q.mem t.addr).toInt)
      (signedBits (memWord q.mem a) 32)
    let d := d.onLane l (fun q =>
      { q with mem := memSetSig (if t.intEn then memSetWord q.mem a r.s1 else q.mem) t.out r.out,
               bankL := q.bankL.filter (fun b => b != t.loop) })
    let d := if r.invalid then d.countLow l (cLoop t.loop 0) 1 else d
    if r.shift then d.countLow l (cLoop t.loop 1) 1 else d))

end Sys2Proof.Machine
end

