-- ==== Sys2Proof/Machine/Groups.lean ====
section
/-! DEFINITION. Owners and commit groups at work (R58 to R65, R143, R154, R155, R175, R212): which instances an image declares, who owns
a field, the value checks of Table 3-4, and what a lane's shadows make live at a commit point. -/

namespace Sys2Proof.Machine
open Sys2Proof

/-! ### What an image declares -/

/-- The integrating section of a loop: the last section of its final stage (R154); without a stage entry, the last section of its
record. -/
def Img.integSec (g : Img) (c : CoefRec) : Nat :=
  match ((g.entries.map entryOf).filter (fun e => e.cls == 0x08)).find? (fun e =>
      let t := stageOf g e.operand
      t.loop == c.loop && t.stage + 1 == c.stages) with
  | some e => let t := stageOf g e.operand; t.base + t.n - 1
  | none => c.sections - 1
/-- The form of R155: a1 = −1.0, a2 = 0 and b2 = 0 in the integrating section. -/
def coefFormOk (g : Img) (c : CoefRec) : Bool :=
  let k := g.integSec c
  c.words.getD (5 * k + 2) 0 == 0 && c.words.getD (5 * k + 3) 0 == 0xC0000000 && c.words.getD (5 * k + 4) 0 == 0

def Img.hasLoop (g : Img) (loop : Nat) : Bool := g.coefs.any (fun c => c.loop == loop && c.bank == 0)
/-- INSTANCE of GC and OC (R393), and of the resolver calibration (Table 21-5). -/
def calInstOk (i : Nat) : Bool := decide (bits i 19 18 ≤ 2 ∧ bits i 17 12 ≤ 33 ∧ bits i 9 0 = 0)
def rdcInstOk (i : Nat) : Bool := decide (bits i 19 18 ≤ 2 ∧ bits i 17 2 = 0)
/-- The OUT signals of the image's pair roll-call selections, which count as roll-called for their plausibility bands (R480). -/
def Img.selOuts (g : Img) : List Nat :=
  ((g.entries.map entryOf).filter (fun e => e.cls == 0x29)).flatMap (fun e =>
    (List.range (g.descCount e.operand)).map (fun i => idx15 (g.desc e.operand (i + 1)) 63 2))
/-- INSTANCE is in range and the image declares it (R395 step 4). -/
def instOk (g : Img) (f i : Nat) : Bool :=
  if f = 0x001 then (g.sig i).isSome
  else if f = 0x010 || f = 0x011 || f = 0x012 || f = 0x0F7 then
    (match g.sig i with | some r => r.rollcall | none => false) || g.selOuts.contains i
  else if f = 0x020 || f = 0x021 || f = 0x022 || f = 0x0F1 || f = 0x0F2 then g.hasLoop i
  else if f = 0x0F0 then g.hasLoop (i / 2)
  else if f = 0x0F6 then i == 0 && !g.thrSigs.isEmpty
  else if f = 0x080 || f = 0x081 then calInstOk i
  else if f = 0x089 || f = 0x08A || f = 0x08B || f = 0x08C then rdcInstOk i
  else match fieldInfo f with
    | some x => decide (x.first ≤ i ∧ i < x.first + x.count)
    | none => false
/-- The host owns a field or group (R61, R84): the record of the field, of its group or of a member says so; without a record the
host does. A host set-point is a signal with OWNER = 1. STATE_SIG and SHIFT_SIG are always the timetable's (R208). -/
def fieldHost (g : Img) (p : Nat) : Bool :=
  if pidField p = 0x001 then (match g.sig (pidInst p) with | some r => r.host | none => false)
  else if pidField p = 0x0A0 || pidField p = 0x0A4 then false
  else
    let q := groupPid g p
    match (p :: q :: groupMembers g q).findSome? g.cfgRec with
    | some r => r.host
    | none => true
/-! ### Value checks (Table 3-4, R143, R155, R182, R212) -/

def valLt (a b : DWord) : Bool := dyLt (sigVal (valSig a)) (sigVal (valSig b))
/-- The check of a coefficient set: its bank is not live, its structure is that of the live bank, its integrating section has the
form of R155. -/
def coefSetOk (g : Img) (q : LaneSt) (c : CoefRec) : Bool :=
  let b := q.liveBank c.loop
  c.bank != b && coefFormOk g c && (match q.coefOf c.loop b with | some x => coefShape x == coefShape c | none => true)
/-- A DC-link threshold lies in 400 to 1,200 V (Table 11-6). -/
def thrOk (g : Img) (p : Nat) (v : DWord) : Bool :=
  pidField p != 0x001 || !g.thrSigs.contains (pidInst p) || (dyLe (dyInt 400) (sigVal (valSig v)) && dyLe (sigVal (valSig v)) (dyInt 1200))
/-- A value lies in the range of its field (R5), with this LCI_MODE. -/
def inRange (g : Img) (p : Nat) (v : DWord) (mode : Int) : Bool :=
  (match fieldInfo (pidField p) with
  | some i => (checkValue (pidField p) (pidInst p) i v mode).isSome
  | none => true) && thrOk g p v
/-- The check of a group, or of a field that commits alone, that becomes live with these values: `val` of a member, `sets` the
coefficient sets that become live with it or before it. Every member is in its range. -/
def groupOk (g : Img) (q : LaneSt) (val : Nat → DWord) (sets : List CoefRec) (grp : Nat) : Bool :=
  let i := pidInst grp
  let v := fun (f : Nat) => val (pidOf f i)
  pidField grp = 0x0F0 && sets.all (fun c => c.loop != i / 2 || c.bank != i % 2 || coefSetOk g q c) ||
  pidField grp != 0x0F0 && (groupMembers g grp).all (fun p => inRange g p (val p) (valInt (val (pidOf 0x085 0)))) &&
    match pidField grp with
    | 0x0F1 =>
      let b := (valInt (v 0x022)).toNat
      (q.coefOf i b).isSome || sets.any (fun c => c.loop == i && c.bank == b)
    | 0x0F2 => !valLt (v 0x020) (v 0x021)
    | 0x0F5 => valInt (v 0x038) != 1 || decide (16000 ≤ g.tf)
    | 0x0A1 => valInt (v 0x0A1) != 1 || decide (16000 ≤ g.tf)
    | 0x0F6 =>
      let t := g.thrSigs.map (fun s => val (pidOf 0x001 s))
      let vdc := match g.sig (dw (g.cfgWord (pidOf 0x0C2 0)) 29 15) with | some r => valOfSig r.init | none => 0
      valLt (t.getD 0 0) (t.getD 1 0) && valLt (t.getD 1 0) (t.getD 2 0) && valLt (t.getD 2 0) (t.getD 3 0) &&
        valLt (t.getD 2 0) vdc && valLt vdc (t.getD 3 0)
    | 0x0F7 => valLt (v 0x010) (v 0x011)
    | _ => true

/-! ### What becomes live at a commit point (R59, R60, R63, R65) -/

/-- A timetable-owned staged value whose commit point this is: class F at every boundary, class B at a bell (R59), and every member of
its group is staged (R63). -/
def LaneSt.ttReady (q : LaneSt) (g : Img) (bell : Bool) (c : CfgField) : Bool :=
  let grp := groupPid g c.pid
  !c.host && c.staged.isSome && (bell || !groupClsB grp) &&
    (groupMembers g grp).all (fun p => (q.field p).any (fun x => !x.host && x.staged.isSome))
/-- The value a field takes at GT b, if any. -/
def LaneSt.newValue (q : LaneSt) (g : Img) (bell : Bool) (b : Nat) (c : CfgField) : Option DWord :=
  match (c.due.filter (fun e => decide (e.1.toNat ≤ b))).getLast? with
  | some e => some e.2
  | none => if q.ttReady g bell c then c.staged else none
/-- A staged coefficient set whose commit point this is. -/
def setReady (b : Nat) (c : CoefStage) : Bool := match c.due with | some x => decide (x.toNat ≤ b) | none => !c.host
/-- The value of a member after the commit point. -/
def LaneSt.valueAt (q : LaneSt) (g : Img) (bell : Bool) (b : Nat) (p : Nat) : DWord :=
  match q.field p with | some c => (q.newValue g bell b c).getD c.live | none => cfgDefault p
/-- Timetable-staged groups at their commit point that fail their value check (R65). -/
def LaneSt.badGroups (q : LaneSt) (g : Img) (bell : Bool) (b : Nat) : List Nat :=
  let sets := (q.coefS.filter (setReady b)).map (·.rcd)
  let grps := ((q.cfg.filter (q.ttReady g bell)).map (fun c => groupPid g c.pid) ++
    ((q.coefS.filter (fun c => !c.host && c.due.isNone)).map (fun c => pidOf 0x0F0 (2 * c.rcd.loop + c.rcd.bank)))).foldl insertNew []
  grps.filter (fun x => !groupOk g q (q.valueAt g bell b) sets x)

end Sys2Proof.Machine
end

