-- ==== Sys2Proof/Machine/Post.lean ====
section
/-! DEFINITION. Posting: the word of Table 5-2, TAGs (R95), and a lane's post of a word to a group. -/

namespace Sys2Proof.Machine
open Sys2Proof

/-! ### Posting -/

/-- Posts lane l has made to the group in the present fast cycle. -/
def LaneSt.postCount (s : LaneSt) (g : Group) : Nat := ((s.tags.find? (fun t => t.1 == g)).map (·.2)).getD 0
def LaneSt.countPost (s : LaneSt) (g : Group) : LaneSt :=
  { s with tags := if s.tags.any (fun t => t.1 == g) then s.tags.map (fun t => if t.1 == g then (g, t.2 + 1) else t)
                   else s.tags ++ [(g, 1)] }
/-- TAG: the fast-cycle count mod 4 over the index of the post (Table 5-2). -/
def tagOf (fc idx : Nat) : BitVec 8 := BitVec.ofNat 8 (fc % 4 * 64 + idx % 64)

/-- The bytes of a voted unit, lowest first: the 72 bits of Table 5-2, then the data words of a payload. -/
def wordBytes (w : VWord) : List Byte :=
  leBytes (w.value.toNat + 2 ^ 24 * (w.item.toNat + 2 ^ 5 * (w.fine.toNat + 2 ^ 3 * (w.launch.toNat + 2 ^ 32 * w.tag.toNat)))) 9 ++
    w.data.flatMap (fun x => leBytes x.toNat 8)
/-- The CRC-64 of post port `unit` moves on over a posted word (R336). -/
def LaneSt.addCrc (s : LaneSt) (unit : Nat) (w : VWord) : LaneSt :=
  let r := (lookupNat s.outCrc unit).getD (BitVec.allOnes 64)
  { s with outCrc := putNat s.outCrc unit ((wordBytes w).foldl (crcByte 0xC96C5795D7870F42) r) }

/-- Lane l posts a unit to the group. A lane that is not running posts nothing; a full queue refuses the write and takes the
lane out with cause 0x5 (R34). -/
def Dev.postWord (d : Dev) (l : Lane) (g : Group) (w : VWord) (entry unit : Nat) : Dev :=
  if !d.runs l then d
  else if (groupDcq g).depth ≤ d.dcqFill l g then d.takeOut l 5 entry unit
  else
    let w := { w with tag := tagOf d.time.fcCount ((d.lane l).postCount g) }
    (d.onLane l (fun q => (q.countPost g).addCrc unit w)).onGroup g (fun x => { x with flight := x.flight.set l (x.flight.get l ++ [w]) })

/-- A word of Table 5-2 with launch at time t in fine units; its TAG is filled in by the post. -/
def wordAt (t item value : Nat) : VWord :=
  { tag := 0, launch := BitVec.ofNat 32 (t / 8), fine := BitVec.ofNat 3 t, item := BitVec.ofNat 5 item,
    value := BitVec.ofNat 24 value, data := [] }

end Sys2Proof.Machine
end

