-- ==== Sys2Proof/Machine/Field.lean ====
section
/-! DEFINITION. Field control and modulation (R167 to R185), the converter channels (R205 to R207), event posts (R179, R180) and
the park-lock channel (R184). Every step is rounded as R482 states. -/

namespace Sys2Proof.Machine
open Sys2Proof

/-! ### Steps of R482 -/

/-- One step: an exact value rounded once to a signal word. -/
def rd (x : Dy) : Dy := sigVal (mkSig x Status.ok)
/-- One step on a fraction num/den, den > 0. -/
def rdQ (num : Int) (den : Nat) : Dy := sigVal (mkSigRat num den Status.ok)
/-- A division by a word, a step of its own; by zero an open value. -/
def rdDiv (x y : Dy) : Dy :=
  if y.n = 0 then sigVal (sigOfNat (Config.divByZero (BitVec.ofNat 48 (sigToNat (mkSig x Status.ok)))).toNat)
  else sigVal (mkDiv x y Status.ok)
/-- The magnitude of a vector, a step of its own. -/
def rdMag (x y : Dy) : Dy := sigVal (mkSqrt (dyAdd (dyMul x x) (dyMul y y)) Status.ok)
/-- 0.96 as a constant. -/
def c096 : Dy := constRat 24 25
def dyOne : Dy := dyInt 1
def dyZero : Dy := dyInt 0

/-- The α and β components of three phase quantities. -/
def clarke (a b c : Dy) : Dy × Dy :=
  (rd (dyMul (dySub (dySub (dyScale a 1) b) c) cThird), rd (dyMul (dySub b c) cInvSqrt3))

/-! ### Transforms -/

/-- d and q components of (α, β) at an angle. -/
def parkD (al be s c : Dy) : Dy := dyAdd (dyMul al c) (dyMul be s)
def parkQ (al be s c : Dy) : Dy := dySub (dyMul be c) (dyMul al s)
/-- 1/12 turn as a constant. -/
def cTwelfth : Dy := constRat 1 12
/-- θ_2 of paired operation, a step of its own (R183, R482). -/
def theta2 (disp : Bool) (w : SigWord) : SigWord := if disp then mkSig (dySub (sigVal w) cTwelfth) w.st else w
/-- Sine and cosine of θ, or of θ_2 (R167). -/
def trigAt (disp : Bool) (w : SigWord) : Dy × Dy := (sinOf (theta2 disp w), cosOf (theta2 disp w))

/-- The forward transform (R168, R183) as the words it writes. -/
def forwardOut (g : Img) (x : Nat) (s : LaneSt) : List (Nat × SigWord) :=
  let w1 := g.desc x 1
  let w2 := g.desc x 2
  let pair := w1.getLsbD 3
  let three := w1.getLsbD 2
  let w3 := g.desc x 3
  let w4 := g.desc x 4
  let wd := fun w hi i => s.sig (idx15 w hi i)
  let th := wd w1 63 3
  let ops1 := [wd w1 63 0, wd w1 63 1] ++ (if three then [wd w1 63 2] else [])
  let ops2 := if pair then [wd w3 63 0, wd w3 63 1] ++ (if three then [wd w3 63 2] else []) else []
  let st := stOf (ops1 ++ ops2 ++ [th])
  let half := fun (a b c : SigWord) (disp : Bool) =>
    let ic := if three then sigVal c else rd (dyNeg (dyAdd (sigVal a) (sigVal b)))
    let i0 := if three then rd (dyMul (dyAdd (dyAdd (sigVal a) (sigVal b)) ic) cThird) else dyZero
    let (al, be) := clarke (sigVal a) (sigVal b) ic
    let (sn, cs) := trigAt disp th
    (parkD al be sn cs, parkQ al be sn cs, i0)
  let (d1, q1, z1) := half (wd w1 63 0) (wd w1 63 1) (wd w1 63 2) false
  if pair then
    let (d2, q2, z2) := half (wd w3 63 0) (wd w3 63 1) (wd w3 63 2) (w3.getLsbD 18)
    let r1 := rd d1
    let r2 := rd q1
    let r3 := rd d2
    let r4 := rd q2
    [(idx15 w2 63 0, mkSig (dyScale (dyAdd r1 r3) (-1)) st), (idx15 w2 63 1, mkSig (dyScale (dyAdd r2 r4) (-1)) st),
     (idx15 w2 63 2, mkSig z1 st), (idx15 w4 63 0, mkSig (dyScale (dySub r1 r3) (-1)) st),
     (idx15 w4 63 1, mkSig (dyScale (dySub r2 r4) (-1)) st), (idx15 w4 63 2, mkSig z2 st)]
  else [(idx15 w2 63 0, mkSig d1 st), (idx15 w2 63 1, mkSig q1 st), (idx15 w2 63 2, mkSig z1 st)]

/-- FORWARD_TRANSFORM (class 0x10). -/
def execForwardTransform (l : Lane) (p : Bool) (s : State) : Host.Outcome State Fault Refusal :=
  s.onDev (fun d => dispatch d l p (clsIs 0x10) (fun g e d =>
    d.onLane l (fun q => q.setSigs (forwardOut g e.operand q))))

/-- Phase voltages of (d, q) at an angle: VA, VB, VC. -/
def inversePark (vd vq : Dy) (sc : Dy × Dy) : Dy × Dy × Dy :=
  let al := rd (dySub (dyMul vd sc.2) (dyMul vq sc.1))
  let be := rd (dyAdd (dyMul vd sc.1) (dyMul vq sc.2))
  let h := dyScale (dyNeg al) (-1)
  let b := dyMul cSqrt3Half be
  (al, dyAdd h b, dySub h b)

/-- The inverse transform (R169, R183) of FCU f as the words it writes. -/
def inverseOut (g : Img) (x f : Nat) (s : LaneSt) : List (Nat × SigWord) :=
  let w1 := g.desc x 1
  let w2 := g.desc x 2
  let w3 := g.desc x 3
  let w4 := g.desc x 4
  let w5 := g.desc x 5
  let wd := fun w hi i => s.sig (idx15 w hi i)
  let pair := w1.getLsbD 3
  let dec := w1.getLsbD 2
  let th := wd w1 63 2
  let om := sigVal (wd w1 63 3)
  let ops := [wd w1 63 0, wd w1 63 1, th] ++ (if dec then [wd w1 63 3, wd w2 63 0, wd w2 63 1] else []) ++
    (if pair then [wd w4 63 0, wd w4 63 1] else [])
  let st := stOf ops
  let ffd := if dec then mkSig (dyNeg (dyMul (dyMul om (s.cfgDy 0x031 f)) (sigVal (wd w2 63 1)))) st else sigZeroOk
  let ffq := if dec then
      mkSig (dyMul om (dyAdd (dyMul (s.cfgDy 0x030 f) (sigVal (wd w2 63 0))) (s.cfgDy 0x032 f))) st
    else sigZeroOk
  let vd := rd (dyAdd (sigVal (wd w1 63 0)) (sigVal ffd))
  let vq := rd (dyAdd (sigVal (wd w1 63 1)) (sigVal ffq))
  let ff := [(idx15 w2 63 2, ffd), (idx15 w2 63 3, ffq)]
  if pair then
    let dd := sigVal (wd w4 63 0)
    let dq := sigVal (wd w4 63 1)
    let (a, b, c) := inversePark (dyAdd vd dd) (dyAdd vq dq) (trigAt false th)
    let (a2, b2, c2) := inversePark (dySub vd dd) (dySub vq dq) (trigAt (w5.getLsbD 48) th)
    ff ++ [(idx15 w3 63 0, mkSig a st), (idx15 w3 63 1, mkSig b st), (idx15 w3 63 2, mkSig c st),
      (idx15 w4 63 2, mkSig a2 st), (idx15 w4 63 3, mkSig b2 st), (idx15 w5 63 0, mkSig c2 st)]
  else
    let (a, b, c) := inversePark vd vq (trigAt false th)
    ff ++ [(idx15 w3 63 0, mkSig a st), (idx15 w3 63 1, mkSig b st), (idx15 w3 63 2, mkSig c st)]

/-- INVERSE_TRANSFORM (class 0x11): units 0x08 to 0x0F are FCU0 to FCU7. -/
def execInverseTransform (l : Lane) (p : Bool) (s : State) : Host.Outcome State Fault Refusal :=
  s.onDev (fun d => dispatch d l p (clsIs 0x11) (fun g e d =>
    d.onLane l (fun q => q.setSigs (inverseOut g e.operand (e.unit - 8) q))))

/-! ### Periods -/

/-- The value of a field at GT g: due values up to g, and at a commit point what the timetable has staged for it, unless its group
fails the value check there (R65, R175). `at_`: g is the next commit point, and whether that is a bell. -/
def LaneSt.cfgAt (s : LaneSt) (img : Img) (field inst g : Nat) (at_ : Option Bool) : DWord :=
  match s.field (pidOf field inst), at_ with
  | none, _ => cfgDefault (pidOf field inst)
  | some c, none => ((c.due.filter (fun x => decide (x.1.toNat ≤ g))).getLast?.map (·.2)).getD c.live
  | some c, some bell => if (s.badGroups img bell g).contains (groupPid img c.pid) then c.live else (s.newValue img bell g c).getD c.live

/-- The next boundary and whether it is a bell. -/
def Dev.nextFc (d : Dev) : Nat := d.time.nextFc.toNat
def Dev.nextIsBell (d : Dev) : Bool := d.time.fcIdx == 0
/-- GT of the start of the fast cycle in progress. -/
def Dev.fcStart (d : Dev) : Nat := d.nextFc - d.tf

/-- The target period: its start in GT units, its length as the fraction of 1/640 µs units over 1 or 2, and whether halved. -/
structure Period where
  start : Nat
  tf    : Nat
  half  : Bool
  deriving DecidableEq, Repr
/-- Length in fine units. -/
def Period.fine (p : Period) : Nat := if p.half then 4 * p.tf else 8 * p.tf
/-- Length in µs as a fraction: tf / den. -/
def Period.den (p : Period) : Nat := if p.half then 1280 else 640

/-- The period that begins at the next boundary, for a unit whose half-period setting is field `f` of instance i. -/
def Dev.periodNext (d : Dev) (s : LaneSt) (f i : Nat) : Period :=
  { start := d.nextFc, tf := d.tf, half := valInt (s.cfgAt d.img f i d.nextFc (some d.nextIsBell)) == 1 }
/-- The period at T_F/2 of the present fast cycle. -/
def Dev.periodHalf (d : Dev) : Period := { start := d.fcStart + d.tf / 2, tf := d.tf, half := true }

/-! ### Modulation -/

/-- Latched legs of an FCU in the protection word of the last boundary (R174, R228). -/
def Dev.latchedLegs (d : Dev) (f : Nat) : Nat := ((hbsOf f).filter (fun n => d.gd.pLatch.any (fun x => x.1 == n))).length
/-- The 24 edge channels that a unit owns, as timebase channels less 20. -/
def edgesOf (u : Nat) : List Nat := (List.range 24).filter (fun c => unitOfEdge c == u)
/-- A DESAT or UV bit of one of the unit's channels stands in the protection word of the last boundary (R248). -/
def Dev.remoteLatched (d : Dev) (u : Nat) : Bool :=
  (edgesOf u).any (fun c =>
    let r := (d.link (c / 12)).latched
    let w := r.desat ||| r.uv
    w.getLsbD (2 * (c % 12)) || w.getLsbD (2 * (c % 12) + 1))
/-- Rows 1 and 3 of Table 9-5 (Table 12-4, R248): row and effective state. -/
def Dev.react (d : Dev) (s : LaneSt) (f : Nat) (pair : Bool) : Option (Nat × Nat) :=
  let n := if f < 2 then 0 else d.latchedLegs f
  if 2 ≤ n || (decide (f < 2) && (d.remoteLatched f || (pair && d.remoteLatched 1))) then some (1, 1)
  else if n = 1 then
    let r := s.cfgInt 0x076 f
    if r = 1 then some (3, 1) else if r = 2 then some (3, 2) else none
  else none
/-- The bootstrap clamp of R173: a BS_UV of the FCU was delivered at the last boundary. -/
def Dev.bsClamp (d : Dev) (f : Nat) : Bool := decide (2 ≤ f) && (hbsOf f).any (fun n => d.gd.pBsUv.contains n)

/-- The effective state and the row of Table 9-5 that gave it. -/
def effState (react : Option (Nat × Nat)) (pairSilent : Bool) (state vdc : SigWord) : Nat × Nat :=
  match react, pairSilent with
  | some (1, e), _ => (e, 1)
  | _, true => (1, 2)
  | some (r, e), false => (e, r)
  | none, false =>
    match carriesIn state 0 3 with
    | none => (1, 4)
    | some 0 => if vdc.st.valid && dyLt dyZero (sigVal vdc) then (0, 7) else (1, 6)
    | some n => (n.toNat, 5)

/-- What R170 needs besides the words: the period, t_win, WIN_EN, the clamp, PULSE_MIN (ns), I_DT (A), dead times (ns). -/
structure ModCfg where
  per   : Period
  twin  : Dy
  win   : Bool
  clamp : Bool
  pmin  : Dy
  idt   : Dy
  dt    : List Dy
  deriving DecidableEq, Repr

/-- 1 − n·t_win/T, one step. -/
def oneLess (c : ModCfg) (n : Nat) : Dy :=
  let a := c.per.tf
  let td := dyDen c.twin
  rdQ ((td * a : Nat) - dyNum c.twin * (n * c.per.den : Nat)) (td * a)
def mMax (c : ModCfg) : Dy := if c.win then oneLess c 2 else dyOne
def dHi (c : ModCfg) : Dy :=
  let h := if c.win then oneLess c 1 else dyOne
  if c.clamp then dyMin h c096 else h
/-- The demanded depth m of three phase voltages. -/
def depthOf (vdc a b c : Dy) : Dy :=
  let (al, be) := clarke a b c
  rdDiv (dyMul cSqrt3 (rdMag al be)) vdc
/-- k for a depth. -/
def shrink (mmax m : Dy) : Dy := if dyLe m mmax then dyOne else rdDiv mmax m

/-- x·T < lim, with x a duty and lim in ns. -/
def shorter (c : ModCfg) (x lim : Dy) : Bool :=
  decide (dyNum x * (c.per.tf * 1000 : Nat) * (dyDen lim : Int) < dyNum lim * (dyDen x * c.per.den : Nat))

/-- One duty: value in 2^-24, changed by clamp or pulse rule, clamped at either end, clamped at d_hi, pulse dropped. -/
structure DutyOut where
  k       : Int
  changed : Bool
  clamp   : Bool
  hi      : Bool
  drop    : Bool
  deriving DecidableEq, Repr
def dutyOf (c : ModCfg) (vdc v v0 i dt : Dy) : DutyOut :=
  let hi := dHi c
  let d0 := rd (dyAdd ⟨1, -1⟩ (rdDiv (dyAdd v v0) vdc))
  let r := dyMax (dyMin (rdDiv i c.idt) dyOne) (dyInt (-1))
  -- d0 + (t_dt/T)·r exactly, then one rounding
  let tn : Int := dyNum dt * (c.per.den : Int) * dyNum r
  let td : Nat := dyDen dt * 1000 * c.per.tf * dyDen r
  let d1 := rdQ (dyNum d0 * (td : Int) + tn * (dyDen d0 : Int)) (dyDen d0 * td)
  let above := dyLt hi d1
  let below := dyLt d1 dyZero
  let d2 := if above then hi else if below then dyZero else d1
  let low := shorter c d2 c.pmin
  let high := !low && dyEq hi dyOne && shorter c (dySub dyOne d2) c.pmin
  let d3 := if low then dyZero else if high then dyOne else d2
  let drop := !(dyEq d3 d2)
  { k := dyRoundAt d3 24, changed := above || below || drop, clamp := above || below, hi := above, drop := drop }

/-- The duties of one set with depth factor k. -/
def dutiesOf (c : ModCfg) (vdc k a b e ia ib ie : Dy) (legs : List Dy) : List DutyOut :=
  let va := rd (dyMul k a)
  let vb := rd (dyMul k b)
  let vc := rd (dyMul k e)
  let v0 := rd (dyScale (dyNeg (dyAdd (dyMax (dyMax va vb) vc) (dyMin (dyMin va vb) vc))) (-1))
  [dutyOf c vdc va v0 ia (legs.getD 0 dyZero), dutyOf c vdc vb v0 ib (legs.getD 1 dyZero),
   dutyOf c vdc vc v0 ie (legs.getD 2 dyZero)]

/-- The modulation's configuration for FCU f in lane s targeting period per (R175, R170). -/
def modCfg (d : Dev) (s : LaneSt) (f : Nat) (per : Period) : ModCfg :=
  let at_ := fun field => s.cfgAt d.img field f per.start (if per.start = d.nextFc then some d.nextIsBell else none)
  { per := per, twin := sigVal (valSig (at_ 0x037)), win := valInt (at_ 0x036) == 1, clamp := d.bsClamp f,
    pmin := s.cfgDy 0x034 f, idt := s.cfgDy 0x033 f,
    dt := if f < 2 then List.replicate 3 (s.cfgDy 0x035 f)
          else (hbsOf f).map (fun n => dyInt (10 * s.cfgInt 0x070 n)) }

/-- Outputs of a modulation: words to write, the unit's latch, and counts of clamped and dropped duties. -/
structure ModOut where
  words : List (Nat × SigWord)
  fcu   : FcuSt
  nClamp : Nat
  nDrop : Nat
  deriving DecidableEq, Repr

/-- A value in units of 2^-k, rounded down, from 0 to 0xFFFF. That MDEPTH_Q, TQ and CHOP_DUTY_Q round down is a DESIGN CHOICE: log entry
152. -/
def satQ (x : Dy) (k : Int) : Nat := min 0xFFFF (max 0 (dyFloorAt x k)).toNat

/-- The modulation of FCU f (R170 to R174, R183). -/
def modulate (d : Dev) (g : Img) (x f : Nat) (s : LaneSt) (cfg : ModCfg) : ModOut :=
  let w := fun i => g.desc x i
  let wd := fun i k => s.sig (idx15 (w i) 63 k)
  let pair := (w 1).getLsbD 3
  let eff := effState (d.react s f pair) (pair && (d.unitSilent 0 || d.unitSilent 1)) (wd 2 3) (wd 1 3)
  let iFb := [(idx15 (w 5) 63 0), (idx15 (w 5) 63 1)] ++ (if pair then [idx15 (w 9) 63 1, idx15 (w 9) 63 2] else [])
  let iDepth := idx15 (w 4) 63 3
  let iMax := idx15 (w 5) 63 2
  let fcu0 : FcuSt := { eff := eff.1, row := eff.2, pair := pair, vlimit := false, clamped := false, drop := false, depth := 0 }
  if eff.1 ≠ 0 then
    { words := iFb.map (fun i => (i, (⟨0, 0, { Status.ok with limited := true }⟩ : SigWord))) ++
        [(iDepth, sigZeroOk), (iMax, sigZeroOk)],
      fcu := fcu0, nClamp := 0, nDrop := 0 }
  else
    let v := fun i k => sigVal (wd i k)
    let vdc := v 1 3
    let mm := mMax cfg
    let m1 := depthOf vdc (v 1 0) (v 1 1) (v 1 2)
    let k1 := shrink mm m1
    let m2 := if pair then depthOf vdc (v 6 0) (v 6 1) (v 6 2) else m1
    let k2 := if pair then shrink mm m2 else k1
    let k := dyMin k1 k2
    let m := dyMax m1 m2
    let lim := dyLt k dyOne
    let ds := dutiesOf cfg vdc k (v 1 0) (v 1 1) (v 1 2) (v 2 0) (v 2 1) (v 2 2) cfg.dt
    let ds2 := if pair then dutiesOf cfg vdc k (v 6 0) (v 6 1) (v 6 2) (v 7 0) (v 7 1) (v 7 2) cfg.dt else []
    let ops := [wd 1 0, wd 1 1, wd 1 2, wd 1 3, wd 2 0, wd 2 1, wd 2 2, wd 2 3, wd 3 0, wd 3 1, wd 3 2, wd 3 3] ++
      (if pair then [wd 6 0, wd 6 1, wd 6 2, wd 7 0, wd 7 1, wd 7 2, wd 8 0, wd 8 1] else [])
    let st : Status := { stOf ops with limited := false }
    let word := fun (x : Dy) (b : Bool) => (⟨(roundDy x).1, (roundDy x).2.1, { st with limited := b }⟩ : SigWord)
    let fb := fun (a ff : Dy) => dySub (dyMul k (dyAdd a ff)) ff
    let dIdx := [idx15 (w 4) 63 0, idx15 (w 4) 63 1, idx15 (w 4) 63 2]
    let dIdx2 := if pair then [idx15 (w 8) 63 2, idx15 (w 8) 63 3, idx15 (w 9) 63 0] else []
    let all := ds ++ ds2
    { words := (dIdx ++ dIdx2).zip (all.map (fun q => word ⟨q.k, -24⟩ (lim || q.changed))) ++
        [(idx15 (w 5) 63 0, word (fb (v 3 0) (v 3 2)) lim), (idx15 (w 5) 63 1, word (fb (v 3 1) (v 3 3)) lim)] ++
        (if pair then [(idx15 (w 9) 63 1, word (dyMul k (v 8 0)) lim), (idx15 (w 9) 63 2, word (dyMul k (v 8 1)) lim)] else []) ++
        [(iDepth, word m lim), (iMax, word mm false)],
      fcu := { fcu0 with vlimit := lim, clamped := all.any (·.hi), drop := all.any (·.drop), depth := satQ m 14 },
      nClamp := (all.filter (·.clamp)).length, nDrop := (all.filter (·.drop)).length }

def LaneSt.fcuAt (s : LaneSt) (f : Nat) : FcuSt := s.fcu.getD f FcuSt.reset
def LaneSt.onFcu (s : LaneSt) (f : Nat) (h : FcuSt → FcuSt) : LaneSt := { s with fcu := modAt s.fcu f h }

/-- The period a modulation of FCU f at this OFFSET targets (R182). -/
def modPeriod (d : Dev) (s : LaneSt) (f offset : Nat) : Period :=
  if s.cfgInt 0x038 f = 1 ∧ offset % d.tf < d.tf / 2 then d.periodHalf else d.periodNext s 0x038 f

/-- MODULATION (class 0x12). In paired operation the state latched for FCU0 governs FCU1's legs too (R183). -/
def execModulation (l : Lane) (p : Bool) (s : State) : Host.Outcome State Fault Refusal :=
  s.onDev (fun d => dispatch d l p (clsIs 0x12) (fun g e d =>
    let f := e.unit - 8
    let q := d.lane l
    let r := modulate d g e.operand f q (modCfg d q f (modPeriod d q f e.offset))
    let d := d.onLane l (fun q =>
      let q := (q.setSigs r.words).onFcu f (fun _ => r.fcu)
      if r.fcu.pair then q.onFcu 1 (fun _ => r.fcu) else q)
    let d := if r.fcu.vlimit then d.countLow l (cFcu f 0) 1 else d
    (d.countLow l (cFcu f 1) r.nClamp).countLow l (cFcu f 2) r.nDrop))

/-! ### PWM edges (R177, R178, R201, R205, R207) -/

/-- A duty word clamped to 0 to 1 and rounded to 2^-24. -/
def duty24 (w : SigWord) : Int := dyRoundAt (dyMax dyZero (dyMin dyOne (sigVal w))) 24
/-- Leg state of an effective state other than RUN. -/
def legOf (eff : Nat) : Nat := if eff = 2 then 1 else if eff = 3 then 2 else 0
/-- h = d·N/2 rounded, for a duty in 2^-24. -/
def halfWidth (k n : Int) : Int := (k * n + 2 ^ 24) / 2 ^ 25
/-- The two events of R178 for a duty in 2^-24, in RUN, with the centre moved by σ. -/
def eventsRun (start n : Nat) (k sigma : Int) : Ev × Ev :=
  let h := halfWidth k n
  let mid : Int := (start : Int) + (n / 2 : Nat) + sigma
  (⟨(mid - h).toNat, if k = 0 then 1 else 2, false⟩, ⟨(mid + h).toNat, if k = 2 ^ 24 then 2 else 1, false⟩)
/-- Both events in the middle with one leg state. -/
def eventsAt (start n leg : Nat) : Ev × Ev := (⟨start + n / 2, leg, false⟩, ⟨start + n / 2, leg, false⟩)
/-- The probe pulse of R201: 1.5 µs before to 0.5 µs after the end of the period. -/
def eventsProbe (start n : Nat) : Ev × Ev := (⟨start + n - 7680, 1, false⟩, ⟨start + n + 2560, 0, false⟩)

/-- The FCU whose sequence and latch govern an FCU's channels: FCU0 in paired operation. -/
def LaneSt.fcuMaster (s : LaneSt) (f : Nat) : Nat := if f = 1 && (s.fcuAt 0).pair then 0 else f
def LaneSt.obsAt (s : LaneSt) (f : Nat) : ObsSt := s.obs.getD f ObsSt.reset

/-- Converter instance of Table 21-5 from the unit: 8 PC0, 9 PC1, 10 chopper. -/
def pcInst (u : Nat) : Nat := u - 8
/-- Timebase channels of a converter unit. -/
def pcChans (u : Nat) : List Nat := (List.range 44).filter (fun c => decide (32 ≤ c) && unitOfCh c == u)
/-- The signal a field names, when it names one. -/
def LaneSt.cfgSigIdx (s : LaneSt) (field inst : Nat) : Option Nat :=
  let n := s.cfgInt field inst
  if n < 0 then none else some n.toNat
/-- Is the effective state of a converter unit RUN (Table 11-2, R248)? -/
def pcRuns (d : Dev) (s : LaneSt) (u : Nat) : Bool :=
  !(d.unitSilent u) && !(decide (u < 10) && d.remoteLatched u) &&
  (match s.cfgSigIdx 0x0A0 (pcInst u) with
   | none => false
   | some i => carriesIn (s.sig i) 0 1 == some 0) &&
  (pcChans u).all (fun c => match s.cfgSigIdx 0x0A4 c with | none => true | some i => (s.sig i).st.valid)

/-- Exchange of leg states with INV = 1. -/
def invLeg (e : Ev) : Ev := { e with leg := if e.leg = 2 then 1 else if e.leg = 1 then 2 else e.leg }
/-- PULSE_MIN on a duty in 2^-24, as a modulation applies it with d_hi = 1. -/
def pulseMin (c : ModCfg) (k : Int) : Int :=
  if shorter c ⟨k, -24⟩ c.pmin then 0 else if shorter c ⟨2 ^ 24 - k, -24⟩ c.pmin then 2 ^ 24 else k

/-- The events of a compare write to a converter channel in RUN, and whether the shift was clamped (R205, R207). -/
def pcEvents (s : LaneSt) (u ch : Nat) (per : Period) (dw_ : SigWord) : (Ev × Ev) × Bool × Int :=
  let cfg : ModCfg := { per := per, twin := dyZero, win := false, clamp := false, pmin := s.cfgDy 0x0A2 (pcInst u), idt := dyOne, dt := [] }
  let k := pulseMin cfg (duty24 dw_)
  let n : Nat := per.fine
  let sh := match s.cfgSigIdx 0x0A4 ch with | none => dyZero | some i => sigVal (s.sig i)
  let raw := dyRound (dyMul sh (dyInt n))
  let lim : Int := (n / 2 : Nat) - halfWidth k n
  let sg := max (-lim) (min lim raw)
  let ev := eventsRun (8 * per.start) n k sg
  ((if s.cfgInt 0x0A3 ch = 1 then (invLeg ev.1, invLeg ev.2) else ev), decide (sg ≠ raw), k)

/-- Replace the pending pair of a channel. -/
def LaneSt.setPair (s : LaneSt) (ch : Nat) (e : Ev × Ev) : LaneSt := { s with pwm := putNat s.pwm ch e }

/-- A compare write to a channel of an FCU or of a converter unit. -/
def compareWrite (d : Dev) (l : Lane) (ch : Nat) (phase : Bool) (dw_ : SigWord) : Dev :=
  let q := d.lane l
  let u := unitOfCh ch
  let conv := decide (8 ≤ u ∧ u ≤ 10)
  let f := q.fcuMaster u
  let per := if phase then d.periodHalf else if conv then d.periodNext q 0x0A1 (pcInst u) else d.periodNext q 0x038 f
  let halved := if conv then q.cfgInt 0x0A1 (pcInst u) == 1 else q.cfgInt 0x038 f == 1
  -- a PHASE = 1 write with no half periods changes nothing (R182); at a bell the new setting governs
  if phase && !halved then d
  else if conv then
    let run := pcRuns d q u
    let r := pcEvents q u ch per dw_
    let off := !run || !dw_.st.valid
    let d := d.onLane l (fun q => (q.setPair ch (if off then eventsAt (8 * per.start) per.fine 0 else r.1)).onFcu u (fun c =>
      { c with eff := if run then 0 else 1, clamped := c.clamped || (!off && r.2.1),
               depth := if u == 10 then min 0xFFFF (satQ (Dy.mk (duty24 dw_) (-24)) 16) else c.depth }))
    if !off && r.2.1 then d.countLow l (cConv 2) 1 else d
  else if (q.obsAt f).lol == .probe then d.onLane l (fun q => q.setPair ch (eventsProbe (8 * per.start) per.fine))
  else if !dw_.st.valid then d.onLane l (fun q => q.setPair ch (eventsAt (8 * per.start) per.fine 0))
  else
    let eff := (q.fcuAt f).eff
    d.onLane l (fun q => q.setPair ch
      (if eff = 0 then eventsRun (8 * per.start) per.fine (duty24 dw_) 0 else eventsAt (8 * per.start) per.fine (legOf eff)))

/-- PWM_COMPARE_WRITE (class 0x20, Table 9-6). Channels 9 and 19 belong to the park-lock channel, which has no modulation: a
write to one finds no latched state and places both events off. -/
def execPwmCompareWrite (l : Lane) (p : Bool) (s : State) : Host.Outcome State Fault Refusal :=
  s.onDev (fun d => dispatch d l p (clsIs 0x20) (fun g e d =>
    let w1 := g.desc e.operand 1
    compareWrite d l (dw w1 48 43) (w1.getLsbD 42) ((d.lane l).sig (dw w1 63 49))))

/-! ### Event posts (R179, R180) -/

/-- Post both pending events of the selected timebase channels, in ascending order. -/
def postPairs (l : Lane) (entry unit : Nat) : List Nat → Dev → Dev
  | [], d => d
  | ch :: r, d =>
    match lookupNat (d.lane l).pwm ch with
    | none => postPairs l entry unit r d
    | some (e0, e1) =>
      let g : Group := if ch < 20 then .gate ch else .edge (ch - 20)
      let item := if ch < 20 then itemOfHb ch else itemOfEdge (ch - 20)
      let d := d.postWord l g (wordAt e0.t item e0.leg) entry unit
      postPairs l entry unit r (d.postWord l g (wordAt e1.t item (4 + e1.leg)) entry unit)

/-- Channels that MASK selects: bit 40 + i selects base + i. -/
def maskChans (w : DWord) (n base : Nat) : List Nat := ((List.range n).filter (fun i => w.getLsbD (40 + i))).map (base + ·)

/-- GATE_EVENT_POST (class 0x21): unit 0x22 posts for HB0 to HB9, unit 0x23 for HB10 to HB19. -/
def execGateEventPost (l : Lane) (p : Bool) (s : State) : Host.Outcome State Fault Refusal :=
  s.onDev (fun d => dispatch d l p (clsIs 0x21) (fun g e d =>
    postPairs l ((d.lane l).seq.ptr - 1) e.unit (maskChans (g.desc e.operand 1) 10 (if e.unit = 0x22 then 0 else 10)) d))

/-- EDGE_EVENT_POST (class 0x22): bit 40 + i selects timebase channel 20 + i. -/
def execEdgeEventPost (l : Lane) (p : Bool) (s : State) : Host.Outcome State Fault Refusal :=
  s.onDev (fun d => dispatch d l p (clsIs 0x22) (fun g e d =>
    postPairs l ((d.lane l).seq.ptr - 1) e.unit (maskChans (g.desc e.operand 1) 24 20) d))

/-! ### Park lock (R184, R229) -/

/-- The duty of a park-lock command in 2^-24: clamped to 0 to 0.96, a pulse shorter than 100 ns dropped. -/
def parkDuty (tf : Nat) (w : SigWord) : Int :=
  let k := dyRoundAt (dyMax dyZero (dyMin c096 (sigVal w))) 24
  if k * ((tf : Int) * 1000) < 100 * 640 * 2 ^ 24 then 0 else k
/-- The command as executed: 0 OFF, 1 RELEASE, 2 ENGAGE, 3 BRAKE. -/
def parkCmd (latched : Bool) (cmd duty : SigWord) : Nat :=
  if latched then 0
  else match carriesIn cmd 1 3 with
    | none => 0
    | some 3 => 3
    | some n => if duty.st.valid then n.toNat else 0

/-- PARK_LOCK_COMMAND (class 0x35, Table 9-11). -/
def execParkLockCommand (l : Lane) (p : Bool) (s : State) : Host.Outcome State Fault Refusal :=
  s.onDev (fun d => dispatch d l p (clsIs 0x35) (fun g e d =>
    let w1 := g.desc e.operand 1
    let q := d.lane l
    let duty := q.sig (dw w1 48 34)
    let c := parkCmd (d.gd.pLatch.any (fun x => x.1 == 9 || x.1 == 19)) (q.sig (dw w1 63 49)) duty
    let sta := 8 * d.nextFc
    let n := 8 * d.tf
    let low := eventsAt sta n 1
    let off := eventsAt sta n 0
    let pul := eventsRun sta n (parkDuty d.tf duty) 0
    d.onLane l (fun q =>
      { ((q.setPair 9 (if c = 0 then off else if c = 1 then pul else low)).setPair 19
          (if c = 0 then off else if c = 2 then pul else low)) with park := c })))

end Sys2Proof.Machine
end

