-- ==== Sys2Proof/Machine/Position.lean ====
section
/-! DEFINITION. Rotor position (R187 to R203): resolver and encoder reads, the observer step with its source selection and the
loss-of-lock sequence. -/

namespace Sys2Proof.Machine
open Sys2Proof

/-! ### Exact fractions -/

/-- A fraction num/den. -/
abbrev Frac := Int × Nat
def frOf (x : Dy) : Frac := (dyNum x, dyDen x)
def frAdd (x y : Frac) : Frac := (x.1 * y.2 + y.1 * x.2, x.2 * y.2)
def frMul (x y : Frac) : Frac := (x.1 * y.1, x.2 * y.2)
def frNeg (x : Frac) : Frac := (-x.1, x.2)
/-- One step of R482. -/
def rdF (x : Frac) : Dy := rdQ x.1 x.2
/-- An angle in turns to the nearest 2^-32, ties toward +∞, modulo 1. -/
def angOf (x : Frac) : BitVec 32 := BitVec.ofInt 32 ((2 * x.1 * 2 ^ 32 + x.2) / (2 * (x.2 : Int)))
/-- An angle of 2^-32 turn as a fraction of a turn. -/
def frAng (a : BitVec 32) : Frac := ((a.toNat : Int), 2 ^ 32)
/-- An angle word. -/
def angWord (a : BitVec 32) (st : Status) : SigWord := sigAngle a.toNat st
/-- The angle an angle word carries, in 2^-32 turn: its value modulo 1. -/
def angIn (w : SigWord) : BitVec 32 := BitVec.ofInt 32 (dyFloorAt (sigVal w) 32)

/-! ### Resolvers -/

/-- Calibration instance of a resolver channel in a lane (Table 21-5). -/
def rdcInst (l : Lane) (ch : Nat) : Nat := laneIdx l * 2 ^ 18 + ch
def LaneSt.onRdc (s : LaneSt) (ch : Nat) (f : RdcSt → RdcSt) : LaneSt := { s with rdc := modAt s.rdc ch f }
def LaneSt.rdcAt (s : LaneSt) (ch : Nat) : RdcSt := s.rdc.getD ch RdcSt.reset

/-- √(sin² + cos²) lies outside AMP_LO to AMP_HI times RDC_AMP; voltages in µV. -/
def ampBad (s : LaneSt) (l : Lane) (ch : Nat) (sn cs : Int) : Bool :=
  let a := frMul (frOf (s.cfgDy 0x089 (rdcInst l ch))) (1000000, 1)
  let lo := frMul a (frOf (s.cfgDy 0x052 ch))
  let hi := frMul a (frOf (s.cfgDy 0x053 ch))
  let m := sn * sn + cs * cs
  decide (m * (lo.2 * lo.2 : Nat) < lo.1 * lo.1) || decide (hi.1 * hi.1 < m * (hi.2 * hi.2 : Nat))

/-- The channel's amplifier: EXC_A serves channels 0 and 1, EXC_B channels 2 and 3 (R188). -/
def excOf (ch : Nat) : Nat := ch / 2
/-- The last 256 amplitudes and phases. -/
def histAdd (h : List (Nat × Int)) (x : Nat × Int) : List (Nat × Int) := (x :: h).take 256
/-- The averages of R190 in whole µV and whole 2^-16 periods, rounded down; 0 before the first pair. -/
def RdcSt.measAmp (r : RdcSt) : Nat := r.hist.foldl (fun a x => a + x.1) 0 / max 1 r.hist.length
def RdcSt.measPh (r : RdcSt) : Int := r.hist.foldl (fun a x => a + x.2) 0 / (max 1 r.hist.length : Nat)
/-- A reported excitation is a fault of the channels that it serves (R189). -/
def RdcSt.faulty (r : RdcSt) : RdcSt := { r with fault := true, good := 0 }

/-- An update of the tracking loop at a sample pair (R189, R190). -/
def rdcStep (s : LaneSt) (l : Lane) (ch : Nat) (exc : Bool) (sn cs : Int) (r : RdcSt) : RdcSt :=
  let dem : BitVec 32 := if sn = 0 ∧ cs = 0 then Config.angleOfZero r.draws else BitVec.ofInt 32 (angleUnits cs sn)
  let bw := (s.cfgInt 0x051 ch).toNat
  let th := Config.rdcAngle r.draws r.theta dem bw
  let big := decide (2 ^ 26 < ((dem - r.theta).toInt).natAbs)
  let n := if big then r.bigErr + 1 else 0
  let fast := decide (2 ^ 29 < ((th - r.theta).toInt).natAbs)
  let bad := ampBad s l ch sn cs || decide (2 ≤ n) || fast || exc
  let good := if bad then 0 else r.good + 1
  { r with
    theta := th, speed := { sigOfNat ((Config.rdcSpeed r.draws r.theta dem bw).toNat * 2 ^ 8) with st := Status.ok },
    fault := bad || (r.fault && decide (good < 16)), good := min 16 good, bigErr := n,
    hist := histAdd r.hist (isqrt (sn * sn + cs * cs).toNat, Config.rdcPhase r.draws sn cs), draws := r.draws + 1 }

/-- RDC_PHASE in force in half-period k of the channel's excitation: the value live before the zero crossing that begins it (R190). -/
def phaseIn (d : Dev) (l : Lane) (ch k : Nat) : Int :=
  let r := (d.lane l).rdcAt ch
  let live := (d.lane l).cfgInt 0x08A (rdcInst l ch)
  match r.phAt with
  | none => live
  | some b =>
    if (d.gd.excGt.getD (excOf ch) 0).toNat + ceilDiv (k * d.gd.excPer.getD (excOf ch) 64000) 2 ≤ b then r.phOld else live
/-- The half-period of the channel's excitation at GT t. -/
def halfAt (d : Dev) (ch t : Nat) : Nat :=
  2 * (t - (d.gd.excGt.getD (excOf ch) 0).toNat) / max 1 (d.gd.excPer.getD (excOf ch) 64000)
/-- The sample pair of half-period k, in 2^-32 GT units: its peak, later by RDC_PHASE (R189). -/
def pairAt (d : Dev) (l : Lane) (ch k : Nat) : Nat :=
  let per := d.gd.excPer.getD (excOf ch) 64000
  ((((d.gd.excGt.getD (excOf ch) 0).toNat * 2 ^ 32 + (2 * k + 1) * per * 2 ^ 30 : Nat) : Int) + phaseIn d l ch k * per * 2 ^ 16).toNat
/-- The next sample pair: the first after the last one that lies in this GCLK period or later. -/
def nextPair (d : Dev) (l : Lane) (ch : Nat) : Nat :=
  let lo := max (((d.lane l).rdcAt ch).at_ + 1) (d.time.raw + 1 - d.time.step)
  let k := halfAt d ch (lo / 2 ^ 32) - 1
  (((List.range 4).map (fun i => pairAt d l ch (k + i))).find? (fun t => decide (lo ≤ t))).getD lo

/-- RDC_UPDATE (R189): time moves on to the channel's next sample pair. There is no excitation before release (R188). -/
def execRdcUpdate (l : Lane) (ch : Nat) (sinV cosV : Int) (s : State) : Host.Outcome State Fault Refusal :=
  s.onDev (fun d =>
    if ch < 4 ∧ d.boot.released = true ∧ (d.lane l).seq.phase ≠ .off then
      let t := nextPair d l ch
      (d.toRaw t).onLane l (fun q =>
        q.onRdc ch (fun r => { rdcStep q l ch (d.gd.pExc.contains (excOf ch)) sinV cosV r with at_ := t }))
    else d)

/-- RESOLVER_READ (class 0x19, Table 10-1). -/
def execResolverRead (l : Lane) (p : Bool) (s : State) : Host.Outcome State Fault Refusal :=
  s.onDev (fun d => dispatch d l p (clsIs 0x19) (fun g e d =>
    let w1 := g.desc e.operand 1
    let ch := e.unit - 0x1C
    d.onLane l (fun q =>
      let r := q.rdcAt ch
      let pp := dw w1 33 30 + 1
      let st : Status := { Status.clear with valid := !r.fault }
      let a := angOf (frAdd ((pp * r.theta.toNat : Nat), 2 ^ 32) (frOf (q.cfgDy 0x055 ch)))
      (q.setSig (dw w1 63 49) (angWord a st)).setSig (dw w1 48 34) (mkSig (dyMul (dyInt pp) (sigVal r.speed)) st))))

/-! ### Encoder and Hall inputs -/

def LaneSt.onEnc (s : LaneSt) (i : Nat) (f : EncSt → EncSt) : LaneSt := { s with enc := modAt s.enc i f }
def LaneSt.encAt (s : LaneSt) (i : Nat) : EncSt := s.enc.getD i EncSt.reset

/-- Position in the quadrature sequence 00, 10, 11, 01 (A leads B when counting up). -/
def quadPos (a b : Bool) : Nat := if a then (if b then 2 else 1) else (if b then 3 else 0)
/-- Sector of a Hall code U, V, W in the sequence 100, 110, 010, 011, 001, 101; none for 000 and 111. -/
def hallSector (u v w : Bool) : Option Nat :=
  match u, v, w with
  | true, false, false => some 0
  | true, true, false => some 1
  | false, true, false => some 2
  | false, true, true => some 3
  | false, false, true => some 4
  | true, false, true => some 5
  | _, _, _ => none

/-- After an edge, faulty or not: the fault clears after 16 fault-free edges in a row (R192). -/
def encFault (e : EncSt) (bad : Bool) : EncSt :=
  let n := if bad then 0 else e.good + 1
  { e with fault := bad || (e.fault && decide (n < 16)), good := min 16 n }
/-- The time stamp of an edge that counts. -/
def encStamp (e : EncSt) (t : Nat) : EncSt := { e with edge := some t, edgeB := e.edge, still := false }

/-- An edge in quadrature at time t (units of 1.25 ns). -/
def encQuad (e : EncSt) (t : Nat) (a b z : Bool) : EncSt :=
  let both := (a != e.w0) && (b != e.w1)
  let moved := (a != e.w0) || (b != e.w1)
  let up := (quadPos a b + 4 - quadPos e.w0 e.w1) % 4 == 1
  let e1 := if moved then
      (if both then encStamp e t
       else { encStamp e t with cnt := if up then e.cnt + 1 else e.cnt - 1, dir := if up then 1 else -1 })
    else e
  let first := (z != e.w2) && !e.zSeen
  let e2 := if first then { e1 with cnt := 0, zSeen := true } else e1
  encFault { e2 with w0 := a, w1 := b, w2 := z } both
/-- The sector that the input stands in: that of the code on its wires, and with none there the last one named. -/
def EncSt.place (e : EncSt) : Option Nat := (hallSector e.w0 e.w1 e.w2).or e.sector
/-- A Hall edge at time t. A code that names the first sector, or the sector again after 000 or 111, is no transition. -/
def encHall (e : EncSt) (t : Nat) (u v w : Bool) : EncSt :=
  let e0 := { e with w0 := u, w1 := v, w2 := w, sector := e.place }
  match hallSector u v w, e.place with
  | none, _ => encFault e0 true
  | some k, none => encFault { e0 with sector := some k } false
  | some k, some p =>
    if k = p then encFault e0 false
    else
      let up := (k + 6 - p) % 6 == 1
      let down := (p + 6 - k) % 6 == 1
      let c := if up then e.cnt + 1 else if down then e.cnt - 1 else e.cnt
      encFault { encStamp e0 t with sector := some k, dir := if down then -1 else 1, cnt := c } (!(up || down))

/-- ENCODER_EDGE (R192): the wires took these levels and held them for `held` units of 1.25 ns; levels held for less than ENC_FILT do not
pass the glitch filter. -/
def execEncoderEdge (l : Lane) (inp : Nat) (w0 w1 w2 : Bool) (held : Nat) (s : State) : Host.Outcome State Fault Refusal :=
  s.onDev (fun d =>
    d.onLane l (fun q => q.onEnc inp (fun e =>
      if w0 = e.w0 ∧ w1 = e.w1 ∧ w2 = e.w2 then e
      else if dyLt ⟨5 * (held : Int), -2⟩ (q.cfgDy 0x058 inp) then e
      else if q.cfgInt 0x056 inp = 1 then encQuad e d.lclk w0 w1 w2
      else if q.cfgInt 0x056 inp = 2 then encHall e d.lclk w0 w1 w2
      else { e with w0 := w0, w1 := w1, w2 := w2 })))

/-- ENCODER_SPEED_TIMEOUT (R193): 100 ms after the last edge. -/
def execEncoderSpeedTimeout (l : Lane) (inp : Nat) (s : State) : Host.Outcome State Fault Refusal :=
  s.onDev (fun d =>
    match ((d.lane l).encAt inp).edge with
    | none => d.onLane l (fun q => q.onEnc inp (fun e => { e with still := true }))
    | some t => (d.toClk (ceilDiv (4 * t) 5 + 100 * msClk)).onLane l (fun q => q.onEnc inp (fun e => { e with still := true })))

/-- 2π·num/den rad/s as a word, den > 0. -/
def twoPiRat (num : Int) (den : Nat) (st : Status) : SigWord :=
  let f := frMul (frOf cTwoPi) (num, den)
  mkSigRat f.1 f.2 st
/-- Lane-clock units of 1.25 ns in a second. -/
def lclkHz : Int := 800000000

/-- The read's outputs ANG, CNT, SPD and whether an open value was drawn (R193). -/
def encRead (q : LaneSt) (inp pp now draws : Nat) : SigWord × SigWord × SigWord × Bool :=
  let e := q.encAt inp
  let st : Status := { Status.clear with valid := !e.fault }
  let off := frOf (q.cfgDy 0x055 (4 + inp))
  let openSpd : SigWord := { sigOfNat ((Config.encSpeed draws).toNat * 2 ^ 8) with st := st }
  if q.cfgInt 0x056 inp = 1 then
    let cpr := (q.cfgInt 0x057 inp).toNat
    let ang := angOf (frAdd ((pp : Int) * e.cnt.toInt, cpr) off)
    let (spd, isOpen) :=
      if e.still then ({ sigZero with st := st }, false)
      else match e.edge, e.readT with
        | some t, some r =>
          if r < t then (twoPiRat (pp * (e.cnt - e.readC).toInt * lclkHz) (cpr * (t - r)) st, false) else (openSpd, true)
        | _, _ => (openSpd, true)
    (angWord ang { st with valid := st.valid && e.zSeen }, sigInt e.cnt.toInt st, spd, isOpen)
  else if q.cfgInt 0x056 inp = 2 then
    let (spd, isOpen) :=
      if e.still then ({ sigZero with st := st }, false)
      else match e.edge, e.edgeB with
        | some t, some b => if b < t then (twoPiRat (e.dir * lclkHz) (6 * (t - b)) st, false) else (openSpd, true)
        | _, _ => (openSpd, true)
    let dt : Frac := ((now - e.edge.getD now : Nat), 800000000)
    let mv := frMul (frMul (frOf (sigVal spd)) dt) (frOf cInvTwoPi)
    let mv := if decide (mv.2 < 12 * mv.1) then (1, 12) else if decide (12 * mv.1 < -(mv.2 : Int)) then (-1, 12) else mv
    let ang := angOf (frAdd (frAdd ((2 * e.place.getD 0 + 1 : Nat), 12) off) mv)
    let st := { st with valid := st.valid && (hallSector e.w0 e.w1 e.w2).isSome }
    let spd := { spd with st := st }
    (angWord ang st, sigInt e.cnt.toInt st, spd, isOpen)
  else
    let no := { sigZero with st := Status.clear }
    (angWord 0 Status.clear, sigInt e.cnt.toInt Status.clear, no, false)

/-- ENCODER_HALL_READ (class 0x1A, Table 10-2). An input that is off gives words without VALID. -/
def execEncoderHallRead (l : Lane) (p : Bool) (s : State) : Host.Outcome State Fault Refusal :=
  s.onDev (fun d => dispatch d l p (clsIs 0x1A) (fun g e d =>
    let w1 := g.desc e.operand 1
    let inp := dw w1 63 62
    let q := d.lane l
    let (a, c, v, o) := encRead q inp (dw w1 16 13 + 1) d.lclk d.draws
    let d := if o then { d with draws := d.draws + 1 } else d
    d.onLane l (fun q =>
      (((q.setSig (dw w1 61 47) a).setSig (dw w1 46 32) c).setSig (dw w1 31 17) v).onEnc inp (fun x =>
        { x with readC := x.cnt, readT := x.edge }))))

/-! ### The observer step -/

/-- An observer descriptor (Table 10-3). -/
structure ObsDesc where
  ia : Nat
  ib : Nat
  ic : Nat
  vdc : Nat
  da : Nat
  db : Nat
  dc : Nat
  stateIn : Nat
  sAng : Nat
  sSpd : Nat
  stateOut : Nat
  tq : Nat
  thS : Nat
  thT : Nat
  om : Nat
  blend : Nat
  tdSr : Int
  tdT : Int
  dt : Nat
  addr : Nat
  src : Nat
  lolEn : Bool
  deriving DecidableEq, Repr
def obsDescOf (g : Img) (x : Nat) : ObsDesc :=
  let w := fun i => g.desc x i
  { ia := idx15 (w 1) 63 0, ib := idx15 (w 1) 63 1, ic := idx15 (w 1) 63 2, vdc := idx15 (w 1) 63 3,
    da := idx15 (w 2) 63 0, db := idx15 (w 2) 63 1, dc := idx15 (w 2) 63 2, stateIn := idx15 (w 2) 63 3,
    sAng := idx15 (w 3) 63 0, sSpd := idx15 (w 3) 63 1, stateOut := idx15 (w 3) 63 2, tq := idx15 (w 3) 63 3,
    thS := idx15 (w 4) 63 0, thT := idx15 (w 4) 63 1, om := idx15 (w 4) 63 2, blend := idx15 (w 4) 63 3,
    tdSr := signedBits (dw (w 5) 63 44) 20, tdT := signedBits (dw (w 5) 43 24) 20, dt := dw (w 5) 23 4,
    addr := dw (w 6) 63 32, src := dw (w 6) 31 30, lolEn := (w 6).getLsbD 29 }

/-- The instance of TD_SENS and ANG_OFF of the sensor whose read writes signal i: resolver 0 to 3, encoder 4 to 7. -/
def sensorInst (g : Img) (i : Nat) : Option Nat :=
  g.entries.findSome? (fun w =>
    let e := entryOf w
    let w1 := g.desc e.operand 1
    if e.cls = 0x19 ∧ dw w1 63 49 = i then some (e.unit - 0x1C)
    else if e.cls = 0x1A ∧ dw w1 61 47 = i then some (4 + dw w1 63 62) else none)

/-- The nominal sampling times of signal i in a mode: offset of the entry, and lane clocks from the bell (R254, R258). -/
def sampleClks (g : Img) (mode i : Nat) : List (Nat × Nat) :=
  match g.mode mode with
  | none => []
  | some m =>
    (nomClks 0 (((g.entries.drop m.start).take m.count).map entryOf)).filterMap (fun x =>
      if x.1.cls = 0x18 then
        ((List.range (g.descCount x.1.operand)).find? (fun k => dw (g.desc x.1.operand (k + 1)) 57 43 == i)).map
          (fun k => (x.1.offset, x.2 + 80 * k))
      else none)
/-- The last one at or before an offset, else the last of the network cycle before. -/
def sampleClk (g : Img) (mode i before : Nat) : Option Nat :=
  let all := sampleClks g mode i
  (((all.filter (fun x => decide (x.1 ≤ before))).getLast?).or all.getLast?).map (·.2)

/-- Time from the probe's event 0 to the sample of signal i, in units of 1/40 GT unit (a lane clock is 32 of them): event 0 lies 1.5 µs
before the valley that the pulse spans (R201). A signal that no conversion of the mode writes counts as sampled at the valley. -/
def probeSpan (g : Img) (mode i before n : Nat) : Nat :=
  match sampleClk g mode i before with
  | none => 38400
  | some c =>
    let per := max 1 (5 * n)
    let r := 32 * c % per
    if 2 * r < per then 38400 + r else 38400 - (per - r)

/-- Observer status word (Table 10-7). -/
def lolCode : Lol → Nat
  | .normal => 0
  | .ramp => 1
  | .asc => 2
  | .probe => 3
  | .release => 4
  | .failed => 5
def b2n (b : Bool) : Nat := if b then 1 else 0
def obsWord (o : ObsSt) : Nat :=
  lolCode o.lol * 2 ^ 29 + o.source * 2 ^ 27 + b2n o.locked * 2 ^ 26 + b2n o.sensDist * 2 ^ 25 + b2n o.sensFault * 2 ^ 24 +
    min 15 o.probes * 2 ^ 20 + satQ (sigVal o.tq) 15

/-- Inputs of a run as words and settings. -/
structure ObsIn where
  dsc : ObsDesc
  ab  : Dy × Dy
  vab : Dy × Dy
  dt  : Frac
  f   : Nat
  st  : Status
  deriving DecidableEq, Repr

/-- i_αβ of three phase words, with i_c formed from two when IC is zero (R168). -/
def currents (s : LaneSt) (t : ObsDesc) : Dy × Dy :=
  let a := sigVal (s.sig t.ia)
  let b := sigVal (s.sig t.ib)
  clarke a b (if t.ic = 0 then rd (dyNeg (dyAdd a b)) else sigVal (s.sig t.ic))
/-- v_αβ from the previous run's duties. -/
def voltages (s : LaneSt) (t : ObsDesc) : Dy × Dy :=
  let v := sigVal (s.sig t.vdc)
  let a := sigVal (s.sig t.da)
  let b := sigVal (s.sig t.db)
  let c := sigVal (s.sig t.dc)
  let m := dyMul (dyAdd (dyAdd a b) c) cThird
  let ph := fun x => rd (dyMul v (dySub x m))
  clarke (ph a) (ph b) (ph c)
def obsIn (g : Img) (x f : Nat) (s : LaneSt) : ObsIn :=
  let t := obsDescOf g x
  { dsc := t, ab := currents s t, vab := voltages s t, dt := ((t.dt : Int), 640000000), f := f,
    st := stOf ([s.sig t.ia, s.sig t.ib, s.sig t.vdc, s.sig t.da, s.sig t.db, s.sig t.dc] ++
      (if t.ic = 0 then [] else [s.sig t.ic])) }

/-- psi after one run, one component (R195). -/
def psiNext (s : LaneSt) (i : ObsIn) (psi v cur : Dy) : SigWord :=
  let keep := frAdd (1, 1) (frNeg (frMul (frOf (s.cfgDy 0x05A i.f)) i.dt))
  let add := frMul i.dt (frOf (dySub v (dyMul (s.cfgDy 0x059 i.f) cur)))
  let q := frAdd (frMul (frOf psi) keep) add
  mkSigRat q.1 q.2 Status.ok
/-- The flux observer and the phase-locked loop, then the lock (R195). -/
def fluxStep (s : LaneSt) (i : ObsIn) (o : ObsSt) : ObsSt :=
  let pa := psiNext s i (sigVal o.psiA) i.vab.1 i.ab.1
  let pb := psiNext s i (sigVal o.psiB) i.vab.2 i.ab.2
  let lq := s.cfgDy 0x031 i.f
  let fa := rd (dySub (sigVal pa) (dyMul lq i.ab.1))
  let fb := rd (dySub (sigVal pb) (dyMul lq i.ab.2))
  let mag := rdMag fa fb
  let k : Int := o.thO.toNat / 2 ^ 8
  let eps := if mag.n = 0 then dyZero else rdDiv (dySub (dyMul fb ⟨cos30 k, -30⟩) (dyMul fa ⟨sin30 k, -30⟩)) mag
  let w := mkSig (dyAdd (sigVal o.wO) (dyMul (s.cfgDy 0x05C i.f) eps)) Status.ok
  let adv := frMul (frMul (frOf (sigVal w)) i.dt) (frOf cInvTwoPi)
  let th := angOf (frAdd (frAng o.thO) (frAdd adv (frOf (dyMul (s.cfgDy 0x05B i.f) eps))))
  let sinChk : Dy := ⟨sin30 (dyFloorAt (s.cfgDy 0x05E i.f) 24), -30⟩
  let big := dyLe sinChk (dyAbs eps)
  let wmin := s.cfgDy 0x05D i.f
  let fluxOk := dyLe (dyScale (s.cfgDy 0x032 i.f) (-1)) mag
  let weak := !fluxOk || dyLt (dyAbs (sigVal w)) (dyMul (constRat 4 5) wmin)
  let good := !big && fluxOk && dyLe wmin (dyAbs (sigVal w))
  let o := { o with psiA := pa, psiB := pb, wO := w, thO := th }
  if o.locked then
    let n := if big then o.unlock + 1 else 0
    if weak || decide (3 ≤ n) then { o with locked := false, lockRuns := 0, unlock := 0 } else { o with unlock := n }
  else
    let n := if good then o.lockRuns + 1 else 0
    if 8 ≤ n then { o with locked := true, obsDist := false, lockRuns := n, unlock := 0 } else { o with lockRuns := n }

/-- |a − b| in 2^-32 turn is above a limit in turns. -/
def apart (a b : BitVec 32) (lim : Dy) : Bool :=
  decide (dyNum lim * 2 ^ 32 < (((a - b).toInt).natAbs : Int) * (dyDen lim : Int))

/-- The cross-check of sensor and observer (R196). -/
def crossCheck (s : LaneSt) (i : ObsIn) (o : ObsSt) : ObsSt :=
  let ang := s.sig i.dsc.sAng
  let spd := s.sig i.dsc.sSpd
  let ok := ang.st.valid && spd.st.valid
  let th := angIn ang
  let lim := s.cfgDy 0x05E i.f
  let far := apart o.thO th lim
  let o := { o with agree := o.agree.map (fun (x : BitVec 32 × SigWord × Nat) => (x.1, x.2.1, x.2.2 + 1)) }
  if o.sensDist then
    let n := if ok && o.locked && !far then o.sensGood + 1 else 0
    if 1024 ≤ n then { o with sensDist := false, sensGood := 0, chk := 0 } else { o with sensGood := n }
  else if o.locked && ok && dyLe (s.cfgDy 0x05D i.f) (dyAbs (sigVal o.wO)) then
    if !far then { o with chk := 0, agree := some (th, spd, 0) }
    else if ((o.chk + 1 : Nat) : Int) < s.cfgInt 0x05F i.f then { o with chk := o.chk + 1 }
    else
      let coast : BitVec 32 := match o.agree with
        | some (a, w, n) => angOf (frAdd (frAng a)
            (frMul (frMul (frOf (sigVal w)) (i.dt.1 * (n : Int), i.dt.2)) (frOf cInvTwoPi)))
        | none => 0
      let dO := ((o.thO - coast).toInt).natAbs
      let dS := ((th - coast).toInt).natAbs
      if o.agree.isSome && decide (dS < dO) then
        { o with locked := false, obsDist := true, lockRuns := 0, unlock := 0, thO := th, wO := { spd with st := Status.ok }, chk := 0 }
      else { o with sensDist := true, sensGood := 0, chk := 0 }
  else { o with chk := 0 }

/-- Is the sensor usable? -/
def usable (s : LaneSt) (t : ObsDesc) (o : ObsSt) : Bool :=
  (s.sig t.sAng).st.valid && (s.sig t.sSpd).st.valid && !o.sensDist
/-- The source of a run: 0 sensor, 1 observer, 2 none (R197). -/
def chooseSource (src : Nat) (sens locked : Bool) : Nat :=
  if src ≠ 2 && sens then 0 else if src ≠ 1 && locked then 1 else 2

/-- θ advanced by ω over a time in seconds. -/
def advance (a : BitVec 32) (w : SigWord) (t : Frac) : BitVec 32 :=
  angOf (frAdd (frAng a) (frMul (frMul (frOf (sigVal w)) t) (frOf cInvTwoPi)))
/-- Angle, speed and status of the run (R197). -/
def sourceOut (g : Img) (s : LaneSt) (i : ObsIn) (o : ObsSt) (src : Nat) : BitVec 32 × SigWord × Status :=
  if src = 0 then
    let a := s.sig i.dsc.sAng
    let w := s.sig i.dsc.sSpd
    let td := match sensorInst g i.dsc.sAng with
      | some k => frMul (frOf (s.cfgDy 0x054 k)) (1, 1000000)
      | none => (0, 1)
    (advance (angIn a) w (frAdd (i.dsc.tdSr, 640000000) td), w, stOf [a, w])
  else if src = 1 then (o.thO, o.wO, { i.st with subst := i.st.subst || i.dsc.src == 0 })
  else (advance o.theta o.omega i.dt, o.omega, { Status.ok with stale := true, subst := true })

/-! ### The loss-of-lock sequence -/

/-- RUN_DT / LOL_RAMP, a step of its own; LOL_RAMP in ms. -/
def rampStep (s : LaneSt) (i : ObsIn) : Dy :=
  let r := frOf (s.cfgDy 0x060 i.f)
  rdQ ((i.dsc.dt : Int) * (r.2 : Int)) (640000 * r.1.toNat)
/-- E = √3·|OMEGA|·PSI. -/
def backEmf (s : LaneSt) (i : ObsIn) (w : SigWord) : Dy := rd (dyMul (dyMul cSqrt3 (dyAbs (sigVal w))) (s.cfgDy 0x032 i.f))

/-- The speed of a rotation by a − b in one run. -/
def turnSpeed (i : ObsIn) (a b : BitVec 32) : SigWord :=
  mkSigRat (dyNum cTwoPi * (a - b).toInt * (i.dt.2 : Int)) (dyDen cTwoPi * 2 ^ 32 * i.dt.1.toNat) Status.ok
/-- The estimate of θ and OMEGA in ASC from the current vector, held while it is small (R199). Its speed is the rotation between two
runs that each gave an angle. -/
def ascStep (s : LaneSt) (i : ObsIn) (o : ObsSt) : ObsSt :=
  if dyLt (rdMag i.ab.1 i.ab.2) (s.cfgDy 0x062 i.f) then { o with ascRun := false }
  else
    let a : BitVec 32 := BitVec.ofInt 32 (dyAngle i.ab.1 i.ab.2 + 2 ^ 31)
    let w := match o.ascAng with
      | some b => if o.ascRun then turnSpeed i a b else o.ascOm
      | none => o.ascOm
    { o with ascAng := some a, ascRun := true, ascOm := w }

/-- The probe evaluation of R201 at a run that sampled a valley a pulse spanned: good (some angle of di) or rejected. -/
def probeAngle (g : Img) (s : LaneSt) (i : ObsIn) (mode offset n : Nat) : Option (BitVec 32) :=
  let di := fun k => rdQ (dyNum (sigVal (s.sig k)) * 51200) (dyDen (sigVal (s.sig k)) * max 1 (probeSpan g mode k offset n))
  let a := di i.dsc.ia
  let b := di i.dsc.ib
  let c := if i.dsc.ic = 0 then rd (dyNeg (dyAdd a b)) else di i.dsc.ic
  let (al, be) := clarke a b c
  let ok := dyLe (s.cfgDy 0x062 i.f) (rdMag al be)
  if ok then some (BitVec.ofInt 32 (dyAngle al be)) else none

/-- The sum of words' values. -/
def sumWords (l : List SigWord) : Dy := l.foldl (fun a w => dyAdd a (sigVal w)) dyZero
/-- 1/7 as a constant (R482). -/
def cSeventh : Dy := constRat 1 7
/-- Take a probe: the count, the angle and the last speed estimates; and whether eight good ones agree within ±5 %, which locks. -/
def probeTake (i : ObsIn) (o : ObsSt) (a : Option (BitVec 32)) : ObsSt × Bool :=
  match a with
  | none => ({ o with probes := 0, probeAng := none, probeSpd := [] }, false)
  | some x =>
    let sp := match o.probeAng with
      | some b => [turnSpeed i x b]
      | none => []
    let sps := (sp ++ o.probeSpd).take 7
    let n := o.probes + 1
    let mean := mkSig (dyMul (sumWords sps) cSeventh) Status.ok
    let lim := dyMul (constRat 1 20) (dyAbs (sigVal mean))
    let ok := decide (8 ≤ n) && sps.all (fun w => dyLe (dyAbs (dySub (sigVal w) (sigVal mean))) lim)
    let o := { o with probes := n, probeAng := some x, probeSpd := sps }
    (if ok then
      { o with thO := if 0 ≤ sigMant mean then x + 0x40000000 else x - 0x40000000, wO := mean, locked := true, obsDist := false,
               lockRuns := 8, unlock := 0 }
    else o, ok)

/-- What a run of the sequence sees. -/
structure LolIn where
  zero   : Bool
  wasNz  : Bool
  src    : Bool
  sens   : Bool
  probed : Bool
  timeout : Bool
  emfLow : Bool
  emfAsc : Bool
  deriving DecidableEq, Repr

/-- The transition of Table 10-5: the first that holds, in the order listed (R202). -/
def lolNext (o : ObsSt) (x : LolIn) : Lol :=
  let runs8 := decide (8 ≤ o.srcRuns)
  match o.lol with
  | .normal => if x.zero && !x.src then .ramp else .normal
  | .ramp =>
    if runs8 then .release else if !x.zero then .normal
    else if dyLe (sigVal o.tq) dyZero then (if x.emfLow then .probe else .asc) else .ramp
  | .asc => if runs8 then .release else if x.emfAsc then .probe else .asc
  | .probe => if !x.zero then .normal else if x.sens || x.probed then .release else if x.timeout then .failed else .probe
  | .release => if !x.zero || dyLe dyOne (sigVal o.tq) then .normal else if !x.src then .ramp else .release
  | .failed => if x.zero && x.wasNz then (if x.sens then .normal else .probe) else .failed

/-- TQ_SCALE of a run in a state. -/
def tqNext (s : LaneSt) (i : ObsIn) (o : ObsSt) (n : Lol) : SigWord :=
  match n with
  | .normal => mkSig dyOne Status.ok
  | .ramp => mkSig (dyMax dyZero (rd (dySub (sigVal o.tq) (rampStep s i)))) Status.ok
  | .release => mkSig (dyMin dyOne (rd (dyAdd (sigVal o.tq) (rampStep s i)))) Status.ok
  | _ => sigZeroOk
/-- STATE_OUT of a run in a state. -/
def stateOut (n : Lol) (stIn : SigWord) : SigWord :=
  match n with
  | .asc => sigInt (if sigCarries stIn = some 3 then 3 else 2) Status.ok
  | .probe => sigInt 1 Status.ok
  | .failed => sigInt 1 Status.ok
  | _ => stIn

def lolOf (n : Nat) : Lol :=
  match n with
  | 1 => .ramp
  | 2 => .asc
  | 3 => .probe
  | 4 => .release
  | 5 => .failed
  | _ => .normal
/-- The items of an observer's state, all of which the state block holds (R195). -/
def obsItems (o : ObsSt) : List Nat :=
  let ag := o.agree.getD (0, sigZero, 0)
  [sigToNat o.psiA, sigToNat o.psiB, o.thO.toNat, sigToNat o.wO, b2n o.locked, o.lockRuns, o.unlock, o.chk, b2n o.agree.isSome,
   ag.1.toNat, sigToNat ag.2.1, ag.2.2, b2n o.sensDist, b2n o.obsDist, o.sensGood, b2n o.sensFault, o.source, lolCode o.lol, sigToNat o.tq,
   o.prevIn.natAbs, o.srcRuns, b2n o.onObs, o.entered.toNat, o.probeFrom.toNat, o.probes, b2n o.probeAng.isSome, (o.probeAng.getD 0).toNat,
   o.theta.toNat, sigToNat o.omega, b2n o.ascAng.isSome, (o.ascAng.getD 0).toNat, b2n o.ascRun, sigToNat o.ascOm, o.probeSpd.length] ++
    o.probeSpd.map sigToNat
/-- The state that items stand for. -/
def obsOfItems (v : Nat → Nat) : ObsSt :=
  let flag := fun i => v i == 1
  let word := fun i => sigOfNat (v i)
  let opt := fun {α : Type} (i : Nat) (x : α) => if flag i then some x else none
  { psiA := word 0, psiB := word 1, thO := BitVec.ofNat 32 (v 2), wO := word 3, locked := flag 4, lockRuns := v 5, unlock := v 6, chk := v 7,
    agree := opt 8 (BitVec.ofNat 32 (v 9), word 10, v 11), sensDist := flag 12, obsDist := flag 13, sensGood := v 14,
    sensFault := flag 15, source := v 16, lol := lolOf (v 17), tq := word 18, prevIn := (v 19 : Int), srcRuns := v 20, onObs := flag 21,
    entered := BitVec.ofNat 64 (v 22), probeFrom := BitVec.ofNat 64 (v 23), probes := v 24, probeAng := opt 25 (BitVec.ofNat 32 (v 26)),
    theta := BitVec.ofNat 32 (v 27), omega := word 28, ascAng := opt 29 (BitVec.ofNat 32 (v 30)), ascRun := flag 31, ascOm := word 32,
    probeSpd := (List.range (min 7 (v 33))).map (fun i => word (34 + i)) }
/-- The bytes of the state block of a state, and the state of a block's bytes. -/
def obsBytes (o : ObsSt) : List Byte := (List.range 64).map (Config.obsByte (obsItems o))
def obsOfBytes (b : List Byte) : ObsSt := obsOfItems (Config.obsItem b)

/-- Result of a run: the new state, the words written, probes good and rejected. -/
structure ObsOut where
  o     : ObsSt
  words : List (Nat × SigWord)
  good  : Nat
  rej   : Nat
  deriving DecidableEq, Repr

/-- One observer step (R195 to R202): `valley` the GT of the valley this run sampled, `probeFrom` the first valley a pulse laid
down from this run spans, n the PWM period in fine units. -/
def obsRun (g : Img) (x f : Nat) (s : LaneSt) (o0 : ObsSt) (mode offset gt valley probeFrom n : Nat) : ObsOut :=
  let i := obsIn g x f s
  let t := i.dsc
  let stIn := s.sig t.stateIn
  let o1 := crossCheck s i (fluxStep s i o0)
  let probing := t.lolEn && (o0.lol == .probe) && decide (o0.probeFrom.toNat ≤ valley)
  let pr := if probing then probeAngle g s i mode offset n else none
  let (o2, probed) := if probing then probeTake i o1 pr else (o1, false)
  let sens := usable s t o2
  let src := chooseSource t.src sens o2.locked
  let (th, w, st) := sourceOut g s i o2 src
  let zero := carriesIn stIn 0 3 == some 0
  let vdc := s.sig t.vdc
  let o3 := { o2 with theta := th, omega := { w with st := Status.ok }, source := src,
                      sensFault := !((s.sig t.sAng).st.valid), onObs := t.src == 0 && src == 1 }
  let o4 := if t.lolEn && o3.lol == .asc then ascStep s i o3 else o3
  let o5 := { o4 with srcRuns :=
    if o4.lol == .ramp then (if src ≠ 2 then o4.srcRuns + 1 else 0)
    else if o4.lol == .asc then (if sens then o4.srcRuns + 1 else 0) else 0 }
  let e := backEmf s i (if o5.lol == .asc then o5.ascOm else o5.omega)
  let lim := dyMul (s.cfgDy 0x061 f) (sigVal vdc)
  let nz : Bool := decide (o5.prevIn ≠ (0 : Int))
  let li : LolIn :=
    { zero := zero, wasNz := nz, src := src != 2, sens := sens,
      probed := probed,
      timeout := decide (dyNum (s.cfgDy 0x063 f) * 640000 ≤ ((gt - o5.entered.toNat : Nat) : Int) * (dyDen (s.cfgDy 0x063 f) : Int)),
      emfLow := dyLt e lim, emfAsc := dyLt e (dyMul (constRat 9 10) lim) }
  let nx := if t.lolEn then lolNext o5 li else .normal
  let moved := nx != o5.lol
  let tq := if t.lolEn then tqNext s i o5 nx else mkSig dyOne Status.ok
  let o6 := { o5 with lol := nx, tq := tq, prevIn := if zero then 0 else 1, srcRuns := if moved then 0 else o5.srcRuns }
  let o7 := if moved && nx == .probe then
      { o6 with entered := BitVec.ofNat 64 gt, probeFrom := BitVec.ofNat 64 probeFrom, probes := 0, probeAng := none, probeSpd := [] }
    else if moved && nx == .asc then { o6 with ascAng := none, ascRun := false, ascOm := o6.omega } else o6
  let dead := nx == .asc || nx == .probe || nx == .failed
  let st' : Status := if dead then { st with valid := false } else st
  let thT := advance o7.theta o7.omega (t.tdT, 640000000)
  { o := o7,
    words := [(t.stateOut, if t.lolEn then stateOut nx stIn else stIn), (t.tq, tq),
      (t.thS, angWord o7.theta st'), (t.thT, angWord thT st'), (t.om, { o7.omega with st := st' }),
      (t.blend, sigFlag (nx != .normal) Status.ok)],
    good := if probing && pr.isSome then 1 else 0, rej := if probing && pr.isNone then 1 else 0 }

/-- Counter word of an entry to a sequence state (Table 20-12). -/
def lolCount : Lol → Option Nat
  | .ramp => some 3
  | .asc => some 4
  | .probe => some 5
  | .failed => some 6
  | _ => none
/-- Journal and count a change of an observer (R198, R202). -/
def obsReport (d : Dev) (l : Lane) (f : Nat) (a b : ObsSt) : Dev :=
  let ch := a.source != b.source || a.sensDist != b.sensDist || a.obsDist != b.obsDist || a.lol != b.lol
  let d := if a.lol != b.lol then (match lolCount b.lol with | some k => d.countLow l (cFcu f k) 1 | none => d) else d
  if ch && l == d.lowLane then d.laneRec d.recLane 2 0x22 f 0 (obsWord b) 0 else d

/-- A lane takes an observer's state: into the unit and into its state block (R195). -/
def LaneSt.setObs (q : LaneSt) (f addr : Nat) (o : ObsSt) : LaneSt :=
  { q with mem := laneWrite q.mem addr (obsBytes o), obs := modAt q.obs f (fun _ => o) }

/-- OBSERVER_STEP (class 0x13, units 0x10 to 0x17). -/
def execObserverStep (l : Lane) (p : Bool) (s : State) : Host.Outcome State Fault Refusal :=
  s.onDev (fun d => dispatch d l p (clsIs 0x13) (fun g e d =>
    let f := e.unit - 0x10
    let q := d.lane l
    let o := q.obsAt f
    let per := modPeriod d q f e.offset
    let half := q.cfgInt 0x038 f = 1
    let valley := if half ∧ d.tf / 2 ≤ e.offset % d.tf then d.fcStart + d.tf / 2 else d.fcStart
    let r := obsRun g e.operand f q o q.seq.mode e.offset d.gt valley (per.start + per.fine / 8) per.fine
    let d := d.onLane l (fun q => (q.setSigs r.words).setObs f (obsDescOf g e.operand).addr r.o)
    obsReport ((d.countLow l (cFcu f 7) r.good).countLow l (cFcu f 8) r.rej) l f o r.o))

/-- The descriptor of FCU f's observer steps (R194). -/
def Img.observer (g : Img) (f : Nat) : Option ObsDesc :=
  ((g.entries.map entryOf).find? (fun e => e.cls == 0x13 && e.unit == 0x10 + f)).map (fun e => obsDescOf g e.operand)
/-- The unit enters FAILED between two runs: the outputs of FAILED, as a run would write them (Table 10-5). -/
def failObs (t : ObsDesc) (f : Nat) (q : LaneSt) : LaneSt :=
  let o := q.obsAt f
  (q.setSigs [(t.stateOut, stateOut .failed (q.sig t.stateIn)), (t.tq, sigZeroOk), (t.blend, sigFlag true Status.ok)]).setObs f t.addr
    { o with lol := .failed, srcRuns := 0, tq := sigZeroOk }

/-- ACQ_TIMEOUT (R199, R202): ACQ_TIMEOUT after the entry to PROBE the sequence enters FAILED, unless a row listed before holds, which
the next run takes. -/
def execAcqTimeout (l : Lane) (fcu : Nat) (s : State) : Host.Outcome State Fault Refusal :=
  s.onDev (fun d =>
    let q := d.lane l
    let o := q.obsAt fcu
    match d.img.observer fcu with
    | some t =>
      if fcu < 8 ∧ o.lol = .probe ∧ d.runs l = true then
        let lim := q.cfgDy 0x063 fcu
        let d := d.toGt (o.entered.toNat + ceilDiv ((dyNum lim).toNat * 640000) (dyDen lim))
        let q := d.lane l
        if carriesIn (q.sig t.stateIn) 0 3 != some 0 || usable q t o then d
        else
          let d := d.onLane l (failObs t fcu)
          obsReport d l fcu o ((d.lane l).obsAt fcu)
      else d
    | none => d)

end Sys2Proof.Machine
end

