-- ==== Sys2Proof/Machine/Measure.lean ====
section
/-! DEFINITION. Measurement inputs (R253 to R263) and the limp command input (R264 to R267). -/

namespace Sys2Proof.Machine
open Sys2Proof

/-! ### Sample and convert -/

/-- Calibration input of an ADC's IN code (R393): D0 to D23, S0 to S7, 32 reference, 33 zero. -/
def inputOf (adc inp : Nat) : Nat :=
  if inp < 6 then 6 * adc + inp else if inp < 8 then 24 + 2 * adc + (inp - 6) else if inp = 8 then 32 else 33
/-- GC and OC instance: lane [19:18], input [17:12], RANGE [11:10]. -/
def calInst (l : Lane) (input range : Nat) : Nat := laneIdx l * 2 ^ 18 + input * 2 ^ 12 + range * 2 ^ 10
/-- The code as a number: two's complement, straight binary, or centred. -/
def codeNum (range : Nat) (q : BitVec 16) : Int :=
  if range < 2 then q.toInt else if range = 2 then q.toNat else (q.toNat : Int) - 32768
/-- The code lies at the end of its range (R256). -/
def atRail (range : Nat) (q : BitVec 16) : Bool :=
  if range < 2 then q == 0x7FFF || q == 0x8000 else q == 0 || q == 0xFFFF
/-- v of R255: (1 + GC·2^-20)·(q − OC/16)·LSB with LSB 5·2^-17 V for RANGE 0b00 and 5·2^-16 V for the others. -/
def adcVolts (range : Nat) (q : BitVec 16) (gc oc : Int) : Dy :=
  dyMul (dyMul ⟨2 ^ 20 + gc, -20⟩ ⟨16 * codeNum range q - oc, -4⟩) ⟨5, if range = 0 then -17 else -16⟩

/-- One conversion: the word, rail hit, out of range. -/
def convert (s : LaneSt) (l : Lane) (adc : Nat) (refFault : Bool) (w : DWord) (q : BitVec 16) : SigWord × Bool × Bool :=
  let range := dw w 59 58
  let input := inputOf adc (dw w 63 60)
  let v := adcVolts range q (s.cfgInt 0x080 (calInst l input range)) (s.cfgInt 0x081 (calInst l input range))
  let rail := atRail range q
  let out := decide (input < 32) && (dyLt v (s.cfgDy 0x082 input) || dyLt (s.cfgDy 0x083 input) v)
  let k : Dy := ⟨signedBits (dw w 34 3) 32, signedBits (dw w 42 35) 8 - 31⟩
  (mkSig (dyMul k v) { valid := !(rail || out || refFault), limited := rail, stale := false, subst := false }, rail, out)

/-- The reference check of R257 at one conversion of ADC a. -/
def refStep (m : MeasSt) (a : Nat) (bad : Bool) : MeasSt :=
  let n := if bad then 0 else m.refGood.getD a 0 + 1
  let bit : BitVec 4 := BitVec.ofNat 4 (2 ^ a)
  { m with refGood := m.refGood.set a (min 1024 n),
           refFault := if bad then m.refFault ||| bit else if 1024 ≤ n then m.refFault &&& ~~~bit else m.refFault }

/-- The conversions of a descriptor in turn: conversion i is body word i + 1. -/
def convertAll (g : Img) (x : Nat) (l : Lane) (adc : Nat) : Nat → List AdcSample → Dev → Dev
  | _, [], d => d
  | i, c :: r, d =>
    if i < g.descCount x then
      let w := g.desc x (i + 1)
      let input := inputOf adc (dw w 63 60)
      let d := d.onLane l (fun q => { q with meas := refStep q.meas adc c.refBad })
      let (word, rail, out) := convert (d.lane l) l adc ((d.lane l).meas.refFault.getLsbD adc) w c.code
      let d := d.onLane l (fun q => q.setSig (dw w 57 43) word)
      let d := d.countIf (rail && decide (input < 32)) (cAdc l input)
      let d := d.countIf out (cAdc l (32 + input))
      convertAll g x l adc (i + 1) r d
    else d

/-- SAMPLE_AND_CONVERT (class 0x18, units 0x18 to 0x1B): a conversion the operand gives no code for delivers code 0. -/
def execSampleAndConvert (l : Lane) (p : Bool) (codes : List AdcSample) (s : State) : Host.Outcome State Fault Refusal :=
  s.onDev (fun d => dispatch d l p (clsIs 0x18) (fun g e d =>
    let n := g.descCount e.operand
    convertAll g e.operand l (e.unit - 0x18) 0 ((codes ++ List.replicate n (AdcSample.mk 0 false)).take n) d))

/-! ### Discrete inputs, edge returns and the LCI -/

/-- VPH in 1/32 V, TEMP in 1/16 °C, SAMPLE_TIME as an integer (R263, Table 13-4). -/
def edgeReturn (k : LinkSt) (item : Nat) : SigWord :=
  let st : Status := { Status.clear with valid := !k.rxDown, stale := !k.latched.fresh }
  if item < 12 then mkSig ⟨((k.latched.vph.getD item 0).toNat : Int), -5⟩ st
  else if item = 12 then mkSig ⟨k.latched.temp.toInt, -4⟩ st
  else sigInt k.latched.samp st

/-- DISCRETE_OR_LCI_READ (class 0x1B, Table 14-3). The LCI front end stands in drive die 1, domain code 9, and is fed from SIO_A, domain code
7 (R265). -/
def execDiscreteOrLciRead (l : Lane) (p : Bool) (s : State) : Host.Outcome State Fault Refusal :=
  s.onDev (fun d => dispatch d l p (clsIs 0x1B) (fun g e d =>
    let w1 := g.desc e.operand 1
    let sel := dw w1 63 62
    let out := dw w1 61 47
    let item := dw w1 46 43
    let m := (d.lane l).meas
    let w : SigWord :=
      if sel = 0 then sigInt m.din.toNat Status.ok
      else if sel = 1 then { m.lciVal with st := { Status.clear with valid := m.lciOk && d.domUp 7 && d.domUp 9 && !d.test.lciBad } }
      else edgeReturn (d.link (sel - 2)) item
    d.onLane l (fun q => q.setSig out w)))

/-- DIN_LEVEL_ACCEPTED (R261): at a sample of input n, one in 800 lane clocks, the level has stood for DIN_FILT consecutive samples, or
DIN_FILT is 0. -/
def execDinLevelAccepted (l : Lane) (n : Nat) (level : Bool) (samples : Nat) (s : State) : Host.Outcome State Fault Refusal :=
  s.onDev (fun d =>
    if n < 16 ∧ (d.lane l).seq.phase ≠ .off then
      let d := d.toClk (640 * ceilDiv d.clk 640)
      if dyLe ((d.lane l).cfgDy 0x084 n) (dyInt samples) then
        d.onLane l (fun q => { q with meas := { q.meas with din :=
          (q.meas.din &&& ~~~(BitVec.ofNat 16 (2 ^ n))) ||| (if level then BitVec.ofNat 16 (2 ^ n) else 0) } })
      else d
    else d)

/-- LCI_WIN in units of 1.25 ns. -/
def lciWin (q : LaneSt) : Nat := (dyFloor (dyMul (q.cfgDy 0x088 0) (dyInt 800000))).toNat
/-- The conversions or periods that ended in the last LCI_WIN before time t, or the last one if none did. -/
def lciKeep (q : LaneSt) (t : Nat) (h : List (Nat × Nat × Nat)) : List (Nat × Nat × Nat) :=
  h.take 1 ++ (h.drop 1).filter (fun e => decide (t < e.1 + lciWin q))
/-- Value and VALID of the measurements in the live mode (Table 14-4); times in units of 1.25 ns. -/
def lciValue (q : LaneSt) (h : List (Nat × Nat × Nat)) : SigWord × Bool :=
  let lo := q.cfgDy 0x086 0
  let hi := q.cfgDy 0x087 0
  let within := fun (w : SigWord) => dyLe lo (sigVal w) && dyLe (sigVal w) hi
  let a : Nat := h.foldl (fun x e => x + e.2.1) 0
  let period : Nat := h.foldl (fun x e => x + e.2.2) 0
  let n := h.length
  match q.cfgInt 0x085 0 with
  | 1 =>
    let w := mkSigRat (5 * a : Nat) (4096 * max 1 n) Status.clear
    (w, within w)
  | 2 =>
    let w := mkSigRat a (max 1 period) Status.clear
    (w, within w && decide (72000 * n ≤ period ∧ period ≤ 8880000 * n))
  | 3 =>
    let w := mkSigRat ((n : Int) * 800000000) (max 1 period) Status.clear
    (w, within w)
  | _ => (sigZero, false)
/-- A channel restarts its measurement at time t (R267). -/
def MeasSt.restart (m : MeasSt) (t : Nat) : MeasSt := { m with lciVal := sigZero, lciOk := false, lciFrom := t, lciEdge := t, lciHist := [] }
/-- The channel takes a conversion or period that ends at time t. In the analog encoding the first measurement is complete after one LCI_WIN
(R267). -/
def lciTake (q : LaneSt) (t a period : Nat) : MeasSt :=
  let h := lciKeep q t ((t, a, period) :: q.meas.lciHist)
  let r := lciValue q h
  let whole := q.cfgInt 0x085 0 != 1 || decide (q.meas.lciFrom + lciWin q ≤ t)
  { q.meas with lciVal := r.1, lciOk := r.2 && whole, lciEdge := t, lciHist := h }

/-- LCI_MEASUREMENT (R266): the lane's channel completes a conversion, 10 µs after the last, or a period. None is made while the mode is off,
and a period with a pulse shorter than 1 µs is none. -/
def execLciMeasurement (l : Lane) (code : BitVec 12) (high period : Nat) (s : State) : Host.Outcome State Fault Refusal :=
  s.onDev (fun d =>
    let q := d.lane l
    let m := q.cfgInt 0x085 0
    if m = 1 then
      let d := d.toClk (ceilDiv (4 * (q.meas.lciEdge + 8000)) 5)
      d.onLane l (fun q => { q with meas := lciTake q d.lclk code.toNat 0 })
    else if (m = 2 ∨ m = 3) ∧ 800 ≤ high ∧ high + 800 ≤ period then
      let d := d.toClk (ceilDiv (4 * (q.meas.lciEdge + period)) 5)
      d.onLane l (fun q => { q with meas := lciTake q d.lclk high period })
    else d)

/-- LCI_TIMEOUT (R266): no edge for 15 ms in duty, when the value is the level, or for 150 ms in frequency, when it is 0 Hz. -/
def execLciTimeout (l : Lane) (level : Bool) (s : State) : Host.Outcome State Fault Refusal :=
  s.onDev (fun d =>
    let q := d.lane l
    let m := q.cfgInt 0x085 0
    if m = 2 ∨ m = 3 then
      let d := d.toClk (ceilDiv (4 * q.meas.lciEdge) 5 + (if m = 2 then 15 else 150) * msClk)
      let d := d.onLane l (fun q => { q with meas := { q.meas with
        lciVal := if m = 2 && level then mkSig (dyInt 1) Status.clear else sigZero, lciOk := false, lciHist := [] } })
      d.count (cLane l 10) 1
    else d)

end Sys2Proof.Machine
end

