-- ==== Sys2Proof/Machine/Payload.lean ====
section
/-! DEFINITION. Posts and takes that pass the hub: payload posts and takes (R282 to R284, R287, R325, R327), the safety demand
post (R351, R352) and the state digest slice (R82, R115); group staging (R65). -/

namespace Sys2Proof.Machine
open Sys2Proof

/-! ### The payload descriptor (Tables 15-5 and 17-9) -/

/-- An element of a payload. -/
structure PayElem where
  sig    : Nat
  byte   : Nat
  width  : Nat
  signed : Bool
  deriving DecidableEq, Repr
def payElemOf (n : Nat) : PayElem :=
  { sig := bits n 31 17, byte := bits n 16 7, width := bits n 6 5, signed := n.testBit 4 }

structure PayDesc where
  len   : Nat
  can   : Bool
  slot  : Nat
  timed : Bool
  act   : Nat
  miss  : Nat
  chan  : Nat
  buf   : Nat
  entry : Nat
  filt  : Nat
  h0    : Nat
  h1    : Nat
  idSig : Nat
  tsSig : Nat
  elems : List PayElem
  deriving DecidableEq, Repr
def payOf (g : Img) (x : Nat) : PayDesc :=
  let w1 := g.desc x 1
  let w2 := g.desc x 2
  let can := dw w1 63 62 == 1
  let first := if can then 3 else 2
  { len := g.descCount x, can := can, slot := dw w1 61 54, timed := w1.getLsbD 45, act := dw w1 44 30, miss := dw w1 29 26,
    chan := dw w1 61 60, buf := dw w1 59 58, entry := dw w1 45 26, filt := dw w1 25 21, h0 := dw w2 63 32, h1 := dw w2 31 0,
    idSig := dw w2 63 49, tsSig := dw w2 48 34,
    elems := (List.range (dw w1 53 46)).map (fun j =>
      let w := g.desc x (first + j / 2)
      payElemOf (if j % 2 = 0 then dw w 31 0 else dw w 63 32)) }

/-- The network table of the mode in force. -/
def Dev.netTable (d : Dev) : Option NetTable :=
  match d.boot.running with
  | none => none
  | some g => match g.mode (d.lane d.lowLane).seq.mode with
    | none => none
    | some m => g.nets[m.net]?
def Dev.slotRec (d : Dev) (slot : Nat) : Option SlotRec :=
  match d.netTable with
  | none => none
  | some t => t.slots.find? (fun r => r.number == slot)

/-! ### Bytes of an element -/

def widthBytes (w : Nat) : Nat := if w = 0 then 1 else if w = 1 then 2 else if w = 2 then 4 else 6
/-- The bytes of an element and whether it saturated (R283). -/
def elemBytes (e : PayElem) (w : SigWord) : List Byte × Bool :=
  if e.width = 3 then (beBytes (sigToNat w) 6, false)
  else
    let k := 8 * widthBytes e.width
    let lo : Int := if e.signed then -(2 ^ (k - 1)) else 0
    let hi : Int := if e.signed then 2 ^ (k - 1) - 1 else 2 ^ k - 1
    let n := dyRound (sigVal w)
    (beBytes (toField (max lo (min hi n)) k) (k / 8), decide (n < lo ∨ hi < n))
/-- The word an element carries in a payload (R284), before the stale rule. -/
def elemWord (e : PayElem) (bs : List Byte) : SigWord :=
  let n := beNat ((bs.drop e.byte).take (widthBytes e.width))
  if e.width = 3 then sigOfNat n
  else mkSig (dyInt (if e.signed then signedBits n (8 * widthBytes e.width) else n)) Status.ok

/-- Bytes laid over a list from an offset. -/
def overlay (l : List Byte) (at_ : Nat) : List Byte → List Byte
  | [] => l
  | b :: r => overlay (l.set at_ b) (at_ + 1) r
/-- The payload of a post: bytes no element covers are zero. -/
def postBytes (p : PayDesc) (q : LaneSt) : List Byte :=
  p.elems.foldl (fun l e => overlay l e.byte (elemBytes e (q.sig e.sig)).1) (List.replicate p.len 0)
def postSats (p : PayDesc) (q : LaneSt) : Nat := (p.elems.filter (fun e => (elemBytes e (q.sig e.sig)).2)).length

/-- Bytes as 64-bit words, eight to a word, and back. -/
def packWords : Nat → List Byte → List DWord
  | 0, _ => []
  | n + 1, l => if l.isEmpty then [] else BitVec.ofNat 64 (leNat (l.take 8)) :: packWords n (l.drop 8)
def unpackWords (l : List DWord) (n : Nat) : List Byte := (l.flatMap (fun w => leBytes w.toNat 8)).take n

/-- ACT_TIME of a timed post: the bell plus ACT_SIG, none when that word is not VALID or carries no integer of 0 to 2^31 − 1
(R287). -/
def actTime (bell : Nat) (w : SigWord) : Option (BitVec 64) :=
  (carriesIn w 0 (2 ^ 31 - 1)).map (fun n => BitVec.ofNat 64 (bell + n.toNat))

/-- The unit that a payload post sends: header, ACT_TIME, payload; VALUE says whether it is timed and ACT_TIME is valid. -/
def payWord (g : Img) (x : Nat) (p : PayDesc) (q : LaneSt) (bell launch : Nat) : VWord :=
  let timed := p.timed && !p.can
  let act := actTime bell (q.sig p.act)
  let v := (if timed then 1 else 0) + (if timed && act.isSome then 2 else 0)
  { wordAt (8 * launch) 0 v with
    data := g.desc x 0 :: (if timed then [act.getD 0] else []) ++ packWords (p.len + 1) (postBytes p q) }

/-- PAYLOAD_POST (class 0x30). While the hub is not serving, the post is discarded (R18). -/
def execPayloadPost (l : Lane) (p : Bool) (s : State) : Host.Outcome State Fault Refusal :=
  s.onDev (fun d => dispatch d l p (clsIs 0x30) (fun g e d =>
    let x := e.operand
    let t := payOf g x
    let q := d.lane l
    let bell := d.time.bellGt.toNat
    let launch := bell + (if t.can then t.entry else match d.slotRec t.slot with | some r => r.start | none => 0)
    let d := d.onSeq l (fun s => { s with postSat := s.postSat + postSats t q })
    if d.hubUp then d.postWord l (.payload x) (payWord g x t q bell launch) (q.seq.ptr - 1) e.unit else d))

/-! ### The take -/

/-- The stale rule of R284 on a word: n stale takes in a row, this one included. -/
def staleWord (stale : Bool) (n miss : Nat) (w : SigWord) : SigWord :=
  if stale then { w with st := { w.st with stale := true, valid := w.st.valid && decide (n < miss) } } else w

/-- Data bytes of a DLC code: a classic frame carries at most 8 (ISO 11898-1). -/
def dlcLen (fd : Bool) (n : Nat) : Nat := if n ≤ 8 then n else if fd then [12, 16, 20, 24, 32, 48, 64].getD (n - 9) 64 else 8
/-- The data bytes a received object carries: none of a remote frame. -/
def CanObj.bytes (o : CanObj) : List Byte :=
  if o.h0.getLsbD 30 then [] else o.data.take (dlcLen (o.h0.getLsbD 29) (bits o.h1.toNat 31 28))
/-- What a take finds in the hub: the bytes, whether they are stale, the swap count, the CAN object. -/
structure TakeSrc where
  bytes : List Byte
  stale : Bool
  ver   : Nat
  obj   : Option CanObj
  deriving DecidableEq, Repr
def Dev.takeSrc (d : Dev) (t : PayDesc) (seen : Option Nat) : TakeSrc :=
  if t.can then
    match (d.chan t.chan).lanes.find? (fun r => r.obj == t.filt) with
    | some r => { bytes := (r.read.map (·.bytes)).getD [], stale := r.read.isNone || seen == some r.ver, ver := r.ver, obj := r.read }
    | none => { bytes := [], stale := true, ver := 0, obj := none }
  else
    match d.net.banks.find? (fun b => b.key == t.slot) with
    | some b => { bytes := b.read, stale := !b.fresh, ver := 0, obj := none }
    | none => { bytes := [], stale := true, ver := 0, obj := none }

/-- The lane's words after a take. While the hub is not serving (R18), and when the frame read is shorter than COUNT and thus
invalid (R282), the last values stay with STALE set. -/
def takeWords (q : LaneSt) (t : PayDesc) (src : TakeSrc) (serving : Bool) (n : Nat) : LaneSt :=
  let put := fun (q : LaneSt) (i : Nat) (w : SigWord) =>
    q.setSig i (staleWord (src.stale || !serving) n t.miss (if serving then w else q.sig i))
  let q := t.elems.foldl (fun q e => put q e.sig (elemWord e src.bytes)) q
  if t.can then
    let w0 : Nat := (src.obj.map (fun o => o.h0.toNat)).getD 0
    let ts : Nat := (src.obj.map (fun o => o.ts.toNat)).getD 0
    let q := if t.idSig = 0 then q else put q t.idSig (mkSig (dyInt w0) Status.ok)
    if t.tsSig = 0 then q else put q t.tsSig (mkSig (dyInt ts) Status.ok)
  else q

/-- PAYLOAD_TAKE (class 0x31). -/
def execPayloadTake (l : Lane) (p : Bool) (s : State) : Host.Outcome State Fault Refusal :=
  s.onDev (fun d => dispatch d l p (clsIs 0x31) (fun g e d =>
    let x := e.operand
    let t := payOf g x
    let q := d.lane l
    let old := lookupNat q.takes x
    let src := d.takeSrc t (old.map (·.2))
    let serving := d.hubUp && decide (t.len ≤ src.bytes.length)
    let stale := src.stale || !serving
    let n := if stale then min 15 ((old.map (·.1)).getD 0 + 1) else 0
    d.onLane l (fun q => { takeWords q t src serving n with takes := putNat q.takes x (n, src.ver) })))

/-! ### Safety demand and digest -/

/-- The demands of the safe stop block in a state, as bits of the demand word (R359 to R361): both outputs of both groups in STOPPED and
TRIPPED, SAFE_OK permitted in RUN alone. -/
def stopBits (state : Nat) : Nat := if state = 0 then 16 else if state = 1 then 0 else 15
/-- The demand bits a lane posts (Table 19-2): those of the demand word, of the safe stop block, and STO_A and STO_B off while F4L holds
(R213, Table 11-7); SAFE_OK high where the word asks for it and the block is in RUN. DEDUCED: log entry 112. -/
def demandBits (q : LaneSt) (w : SigWord) : BitVec 32 :=
  let blk := BitVec.ofNat 32 (stopBits q.stop.state)
  ((w.mant ||| blk) &&& 15) ||| (w.mant &&& blk &&& 16) ||| (if q.dcl.f4l then 3 else 0)
/-- VALUE of a safety demand word (R352): STO_OFF, PB_APPLY, SAFE_OK; a demand word that is not VALID demands everything. -/
def demandValue (q : LaneSt) (w : SigWord) (grpB : Bool) : Nat :=
  if !w.st.valid then 3
  else
    let b := fun (i v : Nat) => if (demandBits q w).getLsbD i then v else 0
    if grpB then b 1 1 + b 3 2 else b 0 1 + b 2 2 + b 4 4

/-- The word as a lane holds it: the lanes OR into DEG TWO_LANE, strobe loss and every latch in the protection word, and set HUBLOSS
(R353), each as it was at the boundary. DEDUCED: log entry 192. -/
def Dev.laneInput (d : Dev) : Word :=
  d.safe.input ||| BitVec.ofNat 32
    (flagN (d.vot.liveFc.length == 2 || d.hubLoss || !d.gd.pLatch.isEmpty || d.gd.pVgd.1 || d.gd.pVgd.2) 6 + flagN d.hubLoss 8)
/-- SAFETY_DEMAND_POST (class 0x34): one word to each group for the boundary that ends the fast cycle; the safety input word as
latched at the boundary before goes to IN. -/
def execSafetyDemandPost (l : Lane) (p : Bool) (s : State) : Host.Outcome State Fault Refusal :=
  s.onDev (fun d => dispatch d l p (clsIs 0x34) (fun g e d =>
    let w1 := g.desc e.operand 1
    let q := d.lane l
    let dem := q.sig (dw w1 63 49)
    let t := 8 * d.time.nextFc.toNat
    let post := fun (d : Dev) (grpB : Bool) =>
      d.postWord l (if grpB then .safetyB else .safetyA) (wordAt t 0 (demandValue q dem grpB)) (q.seq.ptr - 1) e.unit
    let d := post (post d false) true
    d.onLane l (fun q => q.setSig (dw w1 48 34) (sigInt d.laneInput.toInt Status.ok))))

/-- The bytes of the declared state set from the n-th on, in range order. -/
def stateBytes (m : List Host.Cell) : List (Nat × Nat) → Nat → Nat → List Byte
  | [], _, _ => []
  | (a, len) :: r, from_, n =>
    if len ≤ from_ then stateBytes m r (from_ - len) n
    else
      let k := min n (len - from_)
      memRead m (a + from_) k ++ stateBytes m r 0 (n - k)
/-- The slice of a fast cycle that began at GT g (R82). -/
def sliceBytes (m : List Host.Cell) (g : Img) (start : Nat) : List Byte :=
  let k := start / g.tf % 64
  stateBytes m g.ranges (k * g.sliceLen) g.sliceLen

/-- STATE_DIGEST_SLICE (class 0x38): three words to the digest voters of both drive dies (Table 5-2). -/
def execStateDigestSlice (l : Lane) (p : Bool) (s : State) : Host.Outcome State Fault Refusal :=
  s.onDev (fun d => dispatch d l p (clsIs 0x38) (fun g e d =>
    let q := d.lane l
    let c := (crc64 (sliceBytes q.mem g d.fcStart)).toNat
    let parts := [bits c 63 40, bits c 39 16, bits c 15 0]
    [0, 1].foldl (fun d die =>
      parts.foldl (fun d v => d.postWord l (.digest die) (wordAt 0 0 v) (q.seq.ptr - 1) e.unit) d) d))

/-! ### Group staging (R65) -/

/-- The group that a group-staging descriptor names: its PARAM_ID stands in word 1 [63:32]. The layout of the descriptor is a DESIGN
CHOICE: log entry 35. -/
def stagingGroup (g : Img) (x : Nat) : Nat := dw (g.desc x 1) 63 32
/-- The member signals: 15-bit indices, four to a word from word 2 on. -/
def stagingSig (g : Img) (x i : Nat) : Nat := idx15 (g.desc x (2 + i / 4)) 63 (i % 4)
def stagingSigs (g : Img) (x : Nat) : List Nat := (List.range (g.descCount x)).map (stagingSig g x)
/-- How many signal words stage a group: one a member; five words a section and an exponent a stage for a coefficient set. -/
def stagingCount (g : Img) (p : Nat) : Nat :=
  if pidField p = 0x0F0 then (match g.coefs.find? (fun r => r.loop == pidInst p / 2) with | some r => 5 * r.sections + r.stages | none => 0)
  else (groupMembers g p).length
/-- The staged VALUE of a signal word in a field's coding (R394): the word rounded to the field's step, or the integer at or below its
value. A value out of range is staged as it is, and the value check at the commit point finds it. DESIGN CHOICE: log entry 132. -/
def stagedValue (p : Nat) (w : SigWord) : DWord :=
  match fieldInfo (pidField p) with
  | some i =>
    let v := if i.word then valOfSig { w with st := Status.clear } else valOfInt (dyFloor (sigVal w))
    (checkValue (pidField p) (pidInst p) i v).getD v
  | none => valOfSig w
/-- A Q2.30 coefficient word of a value, rounded and saturated. DESIGN CHOICE: log entry 132. -/
def coefOfSig (w : SigWord) : Word := BitVec.ofInt 32 (clip32 (dyRoundAt (sigVal w) 30)).1
/-- A coefficient set from signals: five words a section, then an exponent a stage, in the shape the loop has. -/
def stagedSetOf (g : Img) (q : LaneSt) (inst : Nat) (sigs : List Nat) : Option CoefRec :=
  match g.coefs.find? (fun r => r.loop == inst / 2) with
  | none => none
  | some r =>
    let n := 5 * r.sections
    some { r with
      bank := inst % 2
      words := (sigs.take n).map (fun i => coefOfSig (q.sig i))
      exps := (sigs.drop n).map (fun i => BitVec.ofInt 8 (dyFloor (sigVal (q.sig i)))) }
/-- What the descriptor at x stages in a lane: every member of its group, which the timetable owns (R61). -/
def stagingOf (g : Img) (q : LaneSt) (x : Nat) : List (Nat × DWord) × Option CoefRec :=
  let p := stagingGroup g x
  if fieldHost g p then ([], none)
  else if pidField p = 0x0F0 then ([], stagedSetOf g q (pidInst p) (stagingSigs g x))
  else (((groupMembers g p).zip (stagingSigs g x)).map (fun m => (m.1, stagedValue m.1 (q.sig m.2))), none)

/-- GROUP_STAGING (class 0x03): every member of the group is staged from the signals the descriptor lists; the shadows take the values
at the entry's deadline clock (R60, R77). -/
def execGroupStaging (l : Lane) (p : Bool) (s : State) : Host.Outcome State Fault Refusal :=
  s.onDev (fun d => dispatchStaging d l p (clsIs 0x03) (fun g e d => stagingOf g (d.lane l) e.operand) (fun _ _ d => d))

end Sys2Proof.Machine
end

