-- ==== Sys2Proof/Machine/NetBase.lean ====
section
/-! DEFINITION. What the network commands share: next-release fields, node identity and ring geometry (R273, R293), lanes'
mode requests and the device's held request (R66, R289, R291), the end of a long command. -/

namespace Sys2Proof.Machine
open Sys2Proof

/-! ### Next-release fields and identity -/

/-- The value in force of a next-release field (0x0B0 to 0x0B5): set at load, unchanged until the next release. -/
def Dev.nextVal (d : Dev) (field : Nat) : DWord :=
  match d.mgmt.next.find? (fun c => c.pid == pidOf field 0) with
  | some c => c.live
  | none => cfgDefault (pidOf field 0)
def Dev.nextNat (d : Dev) (field : Nat) : Nat := (valInt (d.nextVal field)).toNat
/-- NODE_ID_BASE plus the level of PAIR_ID (R273). -/
def Dev.nodeId (d : Dev) : Nat := d.nextNat 0x0B0 + (if d.pair.pairId then 1 else 0)
/-- The partner's node ID. -/
def Dev.partnerId (d : Dev) : Nat := d.nextNat 0x0B0 + (if d.pair.pairId then 0 else 1)
/-- The device is ACTIVE: a standalone device is in that state for good (Table 18-4). -/
def Dev.isActive (d : Dev) : Bool := d.pair.role == .active
def Dev.coldCapable (d : Dev) : Bool := d.nextNat 0x0B2 == 1
def Dev.rateLimit (d : Dev) : Nat := (d.boot.running.map (·.rateLimit)).getD 0
/-- A device whose image carries RATE_LIMIT = 0 never touches the ring. -/
def Dev.standalone (d : Dev) : Bool := d.rateLimit == 0

/-- Fitted node IDs met going from node s in a direction, up to and including r (R293): n steps left. -/
def hopsFrom (map : Nat) (east : Bool) (r : Nat) : Nat → Nat → Nat → Nat
  | 0, _, acc => acc
  | n + 1, s, acc =>
    let t := if east then (s + 1) % 16 else (s + 15) % 16
    let acc := if map.testBit t then acc + 1 else acc
    if t = r then acc else hopsFrom map east r n t acc
/-- h from S to this device; DIR = 0 is eastward. -/
def Dev.hops (d : Dev) (s : Nat) (dir : Bool) : Nat := hopsFrom (d.nextNat 0x0B1) (!dir) d.nodeId 16 s 0
def Dev.hopDelay (d : Dev) : Nat := (d.netTable.map (·.hop)).getD 0
def Dev.window (d : Dev) : Nat := (d.netTable.map (·.window)).getD 640

def Dev.member (d : Dev) (id : Nat) : Option MemberSt := d.net.members.find? (fun m => m.id == id)
def MemberSt.new (id : Nat) : MemberSt :=
  { id := id, live := false, seen := 0, unseen := 0, inCyc := false, arr0 := none, arr1 := none, tx := 0, delta := none,
    d0 := none, d1 := none, mode := 0, echo := false }
def NetSt.onMember (n : NetSt) (id : Nat) (f : MemberSt → MemberSt) : NetSt :=
  if n.members.any (fun m => m.id == id) then { n with members := n.members.map (fun m => if m.id == id then f m else m) }
  else { n with members := n.members ++ [f (MemberSt.new id)] }
/-- LISTEN_ONLY: no more sending, never live (R302). -/
def Dev.listenOnly (d : Dev) : Dev :=
  (d.onNet (fun n => { n with ring := .listenOnly, sending := false })).onNet (fun n =>
    { n with members := n.members.map (fun m => if m.id == d.nodeId then { m with live := false } else m) })
/-- Copies leave by ring ports, each with the GT of its first byte. -/
def NetSt.leave (n : NetSt) (cs : List (Port × BtnFrame × Nat)) : NetSt :=
  { n with lastTx := n.lastTx.filter (fun x => !(cs.any (fun c => c.1 == x.1))) ++ cs.map (fun c => (c.1, c.2.1)),
           leftAt := cs.foldl (fun l c => putNat l (portIdx c.1) c.2.2) n.leftAt,
           wrapNow := n.wrapNow || cs.any (fun c => c.2.1.wrap) }
/-- When a copy leaves that would leave at GT t: one that is looped back here HOP_DELAY later (R298). -/
def timed (hop t : Nat) (wrapped : Bool) (cs : List (Port × BtnFrame)) : List (Port × BtnFrame × Nat) :=
  cs.map (fun c => (c.1, c.2, if c.2.wrap && !wrapped then t + hop else t))
/-- A device whose image carries RATE_LIMIT = 0 never touches the ring. -/
def Dev.offRing (d : Dev) : Bool := d.boot.running.any (fun g => g.rateLimit == 0)
/-- Other ring members that are live. -/
def Dev.liveOthers (d : Dev) : List MemberSt := d.net.members.filter (fun m => m.live && m.id != d.nodeId)

/-! ### Jobs -/

/-- A long command reaches its end: what its completion reply will carry (R389). -/
def Dev.endJob (d : Dev) (num status detail : Nat) : Dev :=
  d.onMgmt (fun m => { m with jobs := m.jobs.map (fun j =>
    if j.num == num && !j.done then
      { j with done := true, status := status, detail := detail, due := if j.due = 0 then d.time.bellGt else j.due }
    else j) })
def Dev.endJob? (d : Dev) (num : Option Nat) (status detail : Nat) : Dev :=
  match num with
  | some n => d.endJob n status detail
  | none => d

/-- The last result of a test: code, unit, result word, coverage word, duration in µs (R440). -/
def Dev.putTest (d : Dev) (code unit result cover dur : Nat) : Dev :=
  d.onMgmt (fun m => { m with tests := m.tests.filter (fun t => !(t.1 == code && t.2.1 == unit)) ++ [(code, unit, result, cover, dur)] })

/-! ### Mode requests -/

/-- Bytes held of a class. A frame in the host receive queue is LOCAL. -/
def NetSt.held (n : NetSt) (fwd : Bool) : Nat :=
  ((n.recess.filter (fun r => r.fwd == fwd)).map (fun r => r.bytes.length)).sum +
    (if fwd then 0 else (n.hostRx.map (fun r => r.2.length)).sum)
def NetSt.heldAll (n : NetSt) : Nat := n.held true + n.held false
/-- The network status words follow every bell and every change of request state (R292). -/
def NetSt.showFill (n : NetSt) : NetSt := { n with fill := ceilDiv n.heldAll 64 }

/-- The timetable mode in force. -/
def Dev.modeCur (d : Dev) : Nat := (d.lane d.lowLane).seq.mode
def Dev.hasMode (d : Dev) (m : Nat) : Bool := match d.boot.running with | some g => (g.mode m).isSome | none => false
/-- Clear the lanes' pending mode (R291). -/
def Dev.clearPend (d : Dev) : Dev := d.onLanes (fun s => { s with seq := { s.seq with pend := none } })
/-- Set the pending mode in every running lane. -/
def Dev.setPend (d : Dev) (m : Nat) : Dev :=
  lanesAll.foldl (fun d l => if d.runs l then d.onSeq l (fun s => { s with pend := some m }) else d) d

/-- The device's own request is withdrawn with a reason of R291: its job ends with ERR_ABORTED. -/
def Dev.withdraw (d : Dev) (reason : Nat) : Dev :=
  match d.net.req with
  | none => d
  | some r =>
    let d := d.onNet (fun n => NetSt.showFill { n with req := none })
    if r.own then (d.endJob? r.job 0x19 reason).clearPend else d

def ModeReq.new (m node seq : Nat) (job : Option Nat) : ModeReq :=
  { mode := m, node := node, seq := seq, own := true, age := 0, job := job, switch := none, nak := false }

/-- The device becomes the requester of mode m (R289 step 1). An own request not yet announced is replaced with a new REQ_SEQ; one
already announced, or another member's, holds the new one until after its switch bell (Table 15-8). Only the ACTIVE device sends
requests (R333). Off the ring the switch is the second bell after every live lane holds the mode. -/
def Dev.requestMode (d : Dev) (m : Nat) (job : Option Nat) : Dev :=
  let oldJob := match d.net.req with | some r => if r.own && job != r.job then r.job else none | none => none
  if d.standalone then
    let d := d.endJob? oldJob 0x19 4
    d.onNet (fun n => NetSt.showFill { n with saBells := 0, req := some (ModeReq.new m d.nodeId n.reqSeq job) })
  else if !d.isActive then d
  else
    let announced := match d.net.req with | some r => r.switch.isSome || !r.own | none => false
    if announced then
      let d := match d.net.heldReq with | some (_, j) => d.endJob? j 0x19 4 | none => d
      d.onNet (fun n => { n with heldReq := some (m, job) })
    else
      let d := d.endJob? oldJob 0x19 4
      d.onNet (fun n =>
        let s := (n.reqSeq + 1) % 256
        NetSt.showFill { n with reqSeq := s, members := n.members.map (fun x => { x with echo := false }),
                                req := some (ModeReq.new m d.nodeId s job) })

/-- The lanes' entries have already requested mode m and the request has not been decided: an entry that comes round again in the
next network cycle repeats that request (Table 3-5; DEDUCED, the entry log on mode requests). -/
def Dev.entryRepeats (d : Dev) (m : Nat) : Bool :=
  (match d.net.req with | some r => r.own && r.mode == m && r.job.isNone | none => false) || d.net.heldReq == some (m, none)

/-- MODE_REQUEST_ENTRY (class 0x02): the lane's pending mode. A mode the image lacks is refused. The hub takes the request from
the lowest-indexed live lane, whose entry the others share; the agreement does not begin again for the same request. -/
def execModeRequestEntry (l : Lane) (p : Bool) (s : State) : Host.Outcome State Fault Refusal :=
  s.onDev (fun d => dispatch d l p (clsIs 0x02) (fun g e d =>
    let m := e.operand % 8
    if (g.mode m).isNone then d
    else
      let d := d.onSeq l (fun s => { s with pend := some m })
      if l = d.lowLane && !d.entryRepeats m then d.requestMode m none else d))

end Sys2Proof.Machine
end

