-- ==== Sys2Proof/Machine/Btn.lean ====
section
/-! DEFINITION. The Belade Timed Network's scheduled frames: building and sending (R270, R271, R276, R277, R287), checks and
reception (R272, R278 to R280), ring forwarding, windows and muting (R293 to R298), delay measurement (R303), GT adoption
(R307), mode agreement (R289 to R291), and the end of the acceptance windows. -/

namespace Sys2Proof.Machine
open Sys2Proof

/-! ### The frame -/

/-- The BTN header (Table 15-2). -/
def btnHead (f : BtnFrame) : List Byte :=
  beBytes (f.ver * 16 + f.type) 1 ++ beBytes f.nodeId 1 ++ beBytes f.slot 1 ++
  beBytes (flagN f.dir 7 + flagN f.wrap 6 + flagN f.active 5) 1 ++
  beBytes f.cycle.toNat 4 ++ beBytes (f.modeCur * 32 + flagN f.req 4 + flagN f.switch 3 + flagN f.nak 2) 1 ++
  beBytes (f.reqMode * 32) 1 ++ beBytes f.reqNode 1 ++ beBytes f.reqSeq 1 ++ beBytes f.switchCycle.toNat 4 ++
  beBytes f.txTime.toNat 8 ++ beBytes f.actTime.toNat 8 ++ beBytes f.payload.length 2 ++ beBytes 0 2
/-- The header that E2E_CRC covers: WRAP taken as zero (R271). -/
def btnHeader (f : BtnFrame) : List Byte := btnHead { f with wrap := false }
/-- E2E_CRC of R271. -/
def btnCrc (f : BtnFrame) : BitVec 32 := crc32c (btnHeader f ++ f.payload ++ beBytes f.seq.toNat 2)
def btnSeal (f : BtnFrame) : BtnFrame := { f with e2eCrc := btnCrc f }
/-- An IEEE 802.3 frame as it leaves a port: preamble and SFD, destination, the port's MAC address, EtherType, content, zeros up to the minimum of 64
bytes, FCS. -/
def etherFrame (dest : BitVec 48) (port type : Nat) (content : List Byte) : List Byte :=
  let b := beBytes dest.toNat 6 ++ beBytes (Config.macOf port).toNat 6 ++ beBytes type 2 ++ content
  let b := b ++ List.replicate (60 - b.length) 0
  List.replicate 7 0x55 ++ [0xD5] ++ b ++ leBytes (crc32 b).toNat 4
/-- A BTN frame as it leaves a port (Table 15-1). -/
def btnWire (f : BtnFrame) (p : Port) : List Byte :=
  etherFrame (if f.type = 2 then 0x034254000001 else 0x034254000000) (portIdx p) 0x88B5
    (btnHead f ++ f.payload ++ beBytes f.seq.toNat 2 ++ beBytes 0 2 ++ beBytes f.e2eCrc.toNat 4)
/-- Wire time in GT units, rounded up, of a frame with this many payload bytes at a port's byte time in 6.25 ps (GT = 250). -/
def wireGt (byteT len : Nat) : Nat := ceilDiv (max 72 (70 + len) * byteT) 250
def byteRing : Nat := 1280
def byteStar : Nat := 12800
def bytePair : Nat := 512

/-! ### Slots -/

def SlotRec.ring (r : SlotRec) : Bool := r.ports.testBit 0
def SlotRec.pair (r : SlotRec) : Bool := r.ports.testBit 1
def SlotRec.star (r : SlotRec) (i : Nat) : Bool := r.ports.testBit (2 + i)
def SlotRec.onPort (r : SlotRec) : Port → Bool
  | .ringE => r.ring
  | .ringW => r.ring
  | .pair0 => r.pair
  | .pair1 => r.pair
  | .star i => r.star i
  | .mgmt => false
/-- RX_OFFSET_max of R281. -/
def SlotRec.rxMax (r : SlotRec) (t : NetTable) : Nat := if r.ring then 15 * t.hop else if r.pair then t.pairDelay else 0
def SlotRec.byteT (r : SlotRec) : Nat := if r.ring then byteRing else if r.pair then bytePair else byteStar
/-- ARR_END as an offset from the bell (R281). -/
def SlotRec.arrEnd (r : SlotRec) (t : NetTable) : Nat := r.start + r.rxMax t + t.window + wireGt r.byteT r.maxLen + 512
/-- The slot's swap point: the number of the first boundary strictly after ARR_END, exactly (R281). -/
def SlotRec.swapFc (r : SlotRec) (t : NetTable) (tf : Nat) : Nat :=
  (250 * (r.start + r.rxMax t + t.window + 512) + max 72 (70 + r.maxLen) * r.byteT) / (250 * max 1 tf) + 1
/-- Its index within the network cycle. -/
def SlotRec.swapIdx (r : SlotRec) (t : NetTable) (tf k : Nat) : Nat := r.swapFc t tf % max 1 k

/-- Ports a slot names, in the order of Table 20-12. -/
def SlotRec.portList (r : SlotRec) : List Port :=
  (if r.ring then [.ringE, .ringW] else []) ++ (if r.pair then [.pair0, .pair1] else []) ++
    ((List.range 12).filter r.star).map .star
/-- The port under which the hub counts what concerns the slot itself. -/
def SlotRec.port0 (r : SlotRec) : Nat := match r.portList with | p :: _ => portIdx p | [] => 16

/-! ### Sending -/

/-- The ring copies of a frame that leaves by both ports, with the wrap of R298. -/
def ringCopies (n : NetSt) (f : BtnFrame) : List (Port × BtnFrame) :=
  let one := fun (p q : Port) (a b : RingPort) (dir : Bool) =>
    let g := btnSeal { f with dir := dir, wrap := false }
    if a.wrapped then
      (if b.wrapped || !b.up then [] else [(q, { g with wrap := true })]) ++ (if a.up then [(p, g)] else [])
    else if a.up then [(p, g)] else []
  one .ringE .ringW n.east n.west false ++ one .ringW .ringE n.west n.east true

/-- The frame the hub builds for a slot (R276). -/
def Dev.buildFrame (d : Dev) (r : SlotRec) (start : Nat) (seq : BitVec 16) (q : TxPay) : BtnFrame :=
  let rq := d.net.req
  let has := fun (f : ModeReq → Bool) => match rq with | some x => f x | none => false
  let num := fun (f : ModeReq → Nat) => match rq with | some x => f x | none => 0
  btnSeal
    { ver := 1, type := if q.timed then 2 else 1, nodeId := d.nodeId, slot := r.number, dir := false, wrap := false,
      active := d.paired && d.isActive, cycle := d.time.cycle, modeCur := d.modeCur, req := has (fun x => !x.nak),
      switch := has (fun x => x.own && x.switch.isSome), nak := has (·.nak), reqMode := num (·.mode), reqNode := num (·.node),
      reqSeq := num (·.seq), switchCycle := (match rq with | some x => if x.own then x.switch.getD 0 else 0 | none => 0),
      txTime := BitVec.ofNat 64 start, actTime := q.act.getD 0, payload := q.bytes, seq := seq, e2eCrc := 0, fcsOk := true }

/-- The copies that leave for a slot. -/
def Dev.slotCopies (d : Dev) (r : SlotRec) (f : BtnFrame) : List (Port × BtnFrame) :=
  if r.ring then (if d.net.ring == .member && d.net.sending then ringCopies d.net f else [])
  else if r.pair then
    (if d.pair.up0 then [(Port.pair0, f)] else []) ++ (if d.pair.up1 then [(Port.pair1, f)] else [])
  else (r.portList).map (fun p => (p, f))

/-- SLOT_START (R276, R277, R287): the slot of the mode in force begins. -/
def slotStartAt (d : Dev) (r : SlotRec) : Dev :=
  let start := d.time.bellGt.toNat + r.start
  let d := d.toGt start
  if r.txNode ≠ d.nodeId || !d.hubUp then d
  else
    let mine := fun (q : TxPay) => match d.boot.running with
      | some g => let t := payOf g q.desc; !t.can && t.slot == r.number && decide (q.launch.toNat = start)
      | none => false
    match d.net.txq.find? mine with
    | none => d
    | some q =>
      let d := d.onNet (fun n => { n with txq := n.txq.filter (fun x => !(mine x)) })
      if q.timed && q.act.isNone then d.count (cPort r.port0 4) 1
      else if q.timed && decide ((q.act.getD 0).toNat < start + d.tn) then d.count (cPort r.port0 5) 1
      else
        let seq := (lookupNat d.net.txSeq r.number).getD 0
        let f := d.buildFrame r start seq q
        let cs := d.slotCopies r f
        if cs.isEmpty then d
        else d.onNet (fun n =>
          let n := NetSt.leave { n with txSeq := putNat n.txSeq r.number (seq + 1) } (timed d.hopDelay start false cs)
          if r.ring then
            let n := { (n.onMember d.nodeId (fun m => { m with live := true })) with ownSent := n.ownSent ++ [start] }
            -- the ring delay is measured on the first frame of a network cycle (R303)
            if n.ownTx < 8 * (d.time.bellGt.toNat : Int) then { n with ownTx := 8 * (start : Int), own0 := none, own1 := none } else n
          else n)
def execSlotStart (slot : Nat) (s : State) : Host.Outcome State Fault Refusal :=
  s.onDev (fun d => match d.slotRec slot with
    | some r => slotStartAt d r
    | none => d)

/-! ### Receiving -/

/-- The conditions of R272 but the window. -/
def frameBad (f : BtnFrame) (r : SlotRec) (star : Bool) : Bool :=
  !f.fcsOk || f.e2eCrc != btnCrc f || f.ver != 1 || !(f.type == 1 || f.type == 2) ||
    decide (r.maxLen < f.payload.length) || decide ((if star then 256 else 1024) < f.payload.length) || f.nodeId != r.txNode

/-- The slot start that a frame arriving at a belongs to: of this network cycle or of the one before, the nearer. -/
def Dev.slotNear (d : Dev) (r : SlotRec) (a off : Int) : Int :=
  let s0 : Int := d.time.bellGt.toNat + r.start
  let s1 : Int := s0 - d.tn
  if (a - off - s0).natAbs ≤ (a - off - s1).natAbs then s0 else s1

/-- Copies, duplicates and the bank (R279, R280, R281). -/
def takeCopy (d : Dev) (r : SlotRec) (f : BtnFrame) (inTime : Bool) : Dev :=
  let old := d.net.rx.find? (fun x => x.slot == r.number)
  let last := match old with | some x => x.last | none => none
  let copies := match old with | some x => x.copies | none => 0
  let put := fun (d : Dev) (n : Nat) (l : Option (BitVec 16 × BitVec 32 × BitVec 64)) =>
    d.onNet (fun s => { s with rx := s.rx.filter (fun x => x.slot != r.number) ++ [{ slot := r.number, last := l, copies := n }] })
  let same := match last with | some (q, _, _) => q == f.seq | none => false
  let sameCyc := match last with | some (_, c, _) => c == f.cycle | none => false
  if same && sameCyc then put d (copies + 1) last
  else if same then d.count (cSlot r.number 6) 1
  else
    let gap := match last with | some (q, _, _) => f.seq != q + 1 | none => false
    let d := d.countIf gap (cSlot r.number 7)
    let d := d.count (cSlot r.number 0) 1
    let d := put d (copies + 1) (some (f.seq, f.cycle, f.txTime))
    if inTime then
      d.onNet (fun n =>
        if n.banks.any (fun b => b.key == r.number) then
          { n with banks := n.banks.map (fun b => if b.key == r.number then { b with filling := some f.payload } else b) }
        else
          let b : BankSt := { key := r.number, filling := some f.payload, read := [], fresh := false }
          { n with banks := n.banks ++ [b] })
    else d

/-! ### Mode agreement (R289, R291) -/

def modeFrame (d : Dev) (f : BtnFrame) : Dev :=
  let hit := fun (r : ModeReq) => r.mode == f.reqMode && r.node == f.reqNode && r.seq == f.reqSeq
  match d.net.req with
  | none =>
    if f.req && f.reqNode != d.nodeId then
      d.onNet (fun n =>
        let r : ModeReq := { mode := f.reqMode, node := f.reqNode, seq := f.reqSeq, own := false, age := 0, job := none,
                             switch := if f.switch && f.nodeId == f.reqNode then some f.switchCycle else none,
                             nak := !d.hasMode f.reqMode }
        NetSt.showFill { n with req := some r })
    else d
  | some r =>
    if f.nak && hit r then
      if r.own then (d.onNet (fun n => { n with nakCnt := satInc 31 n.nakCnt })).withdraw 1 else d
    else if f.req then
      if f.reqMode != r.mode || f.reqNode != r.node then
        (d.onNet (fun n => { n with confCnt := satInc 255 n.confCnt })).withdraw 2
      else if f.reqSeq != r.seq then
        if r.own then d
        else d.onNet (fun n => NetSt.showFill { n with req := some { r with seq := f.reqSeq, switch := none } })
      else
        d.onNet (fun n =>
          let n := n.onMember f.nodeId (fun m => { m with echo := true })
          if f.switch && f.nodeId == r.node && !r.own then NetSt.showFill { n with req := some { r with switch := some f.switchCycle } } else n)
    -- the requester withdrew its request; where it has switched without this member, the bell finds the difference (R290)
    else if f.nodeId == r.node && !r.own && !(f.modeCur == r.mode && f.modeCur != d.modeCur) then
      d.onNet (fun n => NetSt.showFill { n with req := none })
    else d

/-! ### The ring -/

/-- Counts a direct copy against its window (R297). -/
def guardRing (d : Dev) (id : Nat) (inWin : Bool) : Dev :=
  let g := (d.net.mutes.find? (fun x => x.id == id)).getD (GuardSt.reset id)
  let v := if inWin then 0 else g.viol + 1
  let mute := g.muted || decide (3 ≤ v)
  let d := d.countIf (!inWin) (cNode id 0)
  let d := d.countIf (mute && !g.muted) (cNode id 1)
  d.onNet (fun n => { n with mutes := n.mutes.filter (fun x => x.id != id) ++
    [{ g with viol := v, muted := mute, frames := g.frames + 1, bad := g.bad || !inWin }] })
def Dev.mutedRing (d : Dev) (id : Nat) : Bool := d.net.mutes.any (fun x => x.id == id && x.muted)

/-- A copy of one of the device's own frames comes back (R303): the ring delay from its two copies; a frame with its own node ID
that it did not send is a CLASH (R302). L is not updated while frames carry WRAP. Times in fine units. -/
def ownReturn (d : Dev) (f : BtnFrame) (a : Int) : Dev :=
  if !d.net.ownSent.contains f.txTime.toNat then d.onNet (fun n => { n with clash := true })
  else if f.wrap || 8 * (f.txTime.toNat : Int) ≠ d.net.ownTx || d.net.wrapNow || d.net.wrapOld then d
  else d.onNet (fun n =>
    let n := if f.dir then { n with own1 := some a } else { n with own0 := some a }
    match n.own0, n.own1 with
    | some x, some y => { n with ringL := (((x - n.ownTx) + (y - n.ownTx)) / 2 :: n.ringL).take 8 }
    | _, _ => n)

/-- L of R303, averaged over the last 8 cycles; the direct hops all round before the first measurement. -/
def Dev.ringDelay (d : Dev) : Option Int :=
  if d.net.ringL.isEmpty then none else some (d.net.ringL.sum / d.net.ringL.length)

/-- A direct valid copy of another member's frame (R303): the first frame of the cycle whose two copies both arrive gives δ and
the path delays. -/
def measureMember (d : Dev) (f : BtnFrame) (a : Int) : Dev :=
  d.onNet (fun n => n.onMember f.nodeId (fun m =>
    let tx : Int := 8 * f.txTime.toNat
    let m := { m with inCyc := true, mode := f.modeCur }
    if m.delta.isSome then m
    else
      let m := if m.tx = tx then m else { m with tx := tx, arr0 := none, arr1 := none }
      let m := if f.dir then { m with arr1 := some a } else { m with arr0 := some a }
      match m.arr0, m.arr1, d.ringDelay with
      | some x, some y, some l =>
        let δ := (x + y - l) / 2 - tx
        { m with delta := some δ, d0 := some (x - tx - δ), d1 := some (y - tx - δ) }
      | _, _, _ => m))

/-- A member without a GT adopts one from a frame (R307): `delay` is D_DIR(S) in GT units. -/
def adoptGt (d : Dev) (tx cycle start delay : Nat) : Dev :=
  d.onTime (fun t => { t with run := true, gt := BitVec.ofNat 64 (tx + delay), frac := 0, cycle := BitVec.ofNat 32 cycle,
                              bellGt := BitVec.ofNat 64 (tx - start), nextFc := BitVec.ofNat 64 (tx - start + d.tn), fcIdx := 0 })
/-- D_DIR(S) in GT units: stored, or the hops at HOP_DELAY. -/
def Dev.pathDelay (d : Dev) (s : Nat) (dir : Bool) : Nat :=
  let st := match d.member s with | some m => if dir then m.d1 else m.d0 | none => none
  match st with
  | some v => (v / 8).toNat
  | none => d.hops s dir * d.hopDelay
/-- LISTEN and BACKOFF end with a valid DATA frame: a device without a first bell adopts the sender's GT, one that keeps its GT
only returns to measuring. -/
def integrateOn (d : Dev) (f : BtnFrame) (r : SlotRec) : Dev :=
  if (d.net.ring == .listen || d.net.ring == .backoff) && f.type == 1 then
    let d := d.onNet (fun n => { n with ring := .integrating, integ := some f.nodeId })
    if !d.time.belled then adoptGt d f.txTime.toNat f.cycle.toNat r.start (d.pathDelay f.nodeId f.dir) else d
  else d

/-- The copies a member forwards (R294, R298). `bad`: the FCS or E2E_CRC proved wrong after forwarding began. -/
def forwardCopies (n : NetSt) (east bad : Bool) (f : BtnFrame) : List (Port × BtnFrame) :=
  let f := if bad then { f with fcsOk := false } else f
  let inP := if east then n.east else n.west
  let outP := if east then n.west else n.east
  let pIn : Port := if east then .ringE else .ringW
  let pOut : Port := if east then .ringW else .ringE
  if inP.wrapped then []
  else if outP.wrapped then
    if f.wrap then [] else [(pIn, { f with wrap := true })] ++ (if outP.up then [(pOut, f)] else [])
  else if outP.up then [(pOut, f)] else []

/-- Two consecutive frames of a slot, by CYCLE, whose TX_TIME values differ by anything but T_N show a ring of another T_N, wherever they
fall against the windows: a member is in LISTEN_ONLY from then (R38, R302). -/
def noteTn (d : Dev) (r : SlotRec) (f : BtnFrame) : Dev :=
  let bad := match lookupNat d.net.seenTx r.number with
    | some (c, t) => f.cycle == c + 1 && f.txTime - t != BitVec.ofNat 64 d.tn
    | none => false
  let d := d.onNet (fun n => { n with seenTx := putNat n.seenTx r.number (f.cycle, f.txTime), tnBad := n.tnBad || bad })
  if bad && d.net.ring == .member then d.listenOnly else d

/-- A ring frame is forwarded, its first byte leaving at its arrival (R294, R295). -/
def forward (d : Dev) (east bad : Bool) (f : BtnFrame) (a : Nat) : Dev :=
  d.onNet (fun n => n.leave (timed d.hopDelay a f.wrap (forwardCopies n east bad f)))
/-- A good frame on a ring port counts as valid there (R298); one with WRAP shows a wrapped ring (R303). -/
def noteRing (d : Dev) (east : Bool) (f : BtnFrame) : Dev :=
  d.onNet (fun n =>
    let n := { n with wrapNow := n.wrapNow || f.wrap }
    if east then { n with east := { n.east with valid := n.east.valid + 1 } }
    else { n with west := { n.west with valid := n.west.valid + 1 } })
/-- A valid frame of another member was heard: of a live one, it keeps the device in MEMBER (R305). -/
def hearMember (d : Dev) (f : BtnFrame) : Dev :=
  d.onNet (fun n =>
    let n := n.onMember f.nodeId (fun m => { m with inCyc := true, mode := f.modeCur })
    if n.members.any (fun m => m.id == f.nodeId && m.live) then { n with heardAt := some d.clk } else n)

/-- A ring copy: measured, checked, accepted and forwarded. -/
def ringFrame (d : Dev) (east : Bool) (f : BtnFrame) (arrival : Nat) : Dev :=
  let port : Port := if east then .ringE else .ringW
  -- the arrival of R295: F = 1.000 µs after the receive interface
  let a : Int := arrival + 640
  let crcBad := !f.fcsOk || f.e2eCrc != btnCrc f
  let own := f.nodeId == d.nodeId
  let hasGt := d.time.run
  let d := if crcBad then d else noteRing d east f
  let rec_ := d.slotRec f.slot
  let off : Int := d.hops f.nodeId f.dir * d.hopDelay
  let w : Int := d.window
  let start : Int := match rec_ with | some r => d.slotNear r a off | none => 0
  let inWin := match rec_ with
    | none => true
    | some _ =>
      !hasGt || (if f.wrap then decide (start - w ≤ a ∧ a ≤ start + 30 * d.hopDelay + w) else decide ((a - (start + off)).natAbs ≤ w.natAbs))
  let direct := !f.wrap && !own && !crcBad && rec_.isSome && hasGt
  let d := if direct then guardRing d f.nodeId inWin else d
  let muted := d.mutedRing f.nodeId
  let fwd := !(own && !f.wrap) && inWin && !muted
  let d := if fwd then forward d east crcBad f (arrival + 640) else d
  if own then (if crcBad then d else ownReturn d f (8 * a))
  else match rec_ with
    | none => d.count (cPort (portIdx port) 0) 1
    | some r =>
      if !r.onPort port then d.count (cPort (portIdx port) 0) 1
      else if frameBad f r false then d.count (cSlot r.number 4) 1
      else
      let d := if r.ring then noteTn d r f else d
      if !inWin then
        if f.wrap then d.count (cSlot r.number 4) 1
        else d.count (cSlot r.number (if a < start + off then 2 else 3)) 1
      else if muted then d
      else
        let inTime := match d.netTable with
          | some t => !f.wrap || decide (a + wireGt byteRing f.payload.length ≤ start - r.start + r.arrEnd t)
          | none => true
        let d := if f.wrap then d else measureMember d f (8 * a)
        let d := hearMember d f
        let d := if f.nodeId == d.partnerId && d.paired then d.onPair (fun p => { p with ringTx := some f.txTime }) else d
        let d := takeCopy d r f inTime
        modeFrame (integrateOn d f r) f

/-- A frame on a pair or star port. -/
def plainFrame (d : Dev) (port : Port) (star : Bool) (off : Nat) (f : BtnFrame) (arrival : Nat) : Dev :=
  match d.slotRec f.slot with
  | none => d.count (cPort (portIdx port) 0) 1
  | some r =>
    if !r.onPort port then d.count (cPort (portIdx port) 0) 1
    else if frameBad f r star then d.count (cSlot r.number 4) 1
    else
      let start := d.slotNear r arrival off
      let w : Int := d.window
      if (arrival : Int) < start + off - w then d.count (cSlot r.number 2) 1
      else if start + off + w < (arrival : Int) then d.count (cSlot r.number 3) 1
      else takeCopy d r f true

/-- COLDSTART_FRAME_RECEIVED (R305, Table 16-3): one that arrives after the first bell is discarded and counted. -/
def coldFrame (d : Dev) (node : Nat) (dir : Bool) : Dev :=
  let back := fun (d : Dev) =>
    let d := (d.count (cNet 2) 1).onTime (fun t => { t with run := false })
    d.onNet (fun n => { n with ring := .backoff, since := d.clk, heard := [], integ := none })
  if d.standalone || node == d.nodeId then d
  else if d.time.belled then d.count (cNet 3) 1
  else match d.net.ring with
    | .listen => d.onNet (fun n => { n with heard := n.heard.filter (fun x => x.1 != node) ++ [(node, dir, d.clk)] })
    | .backoff => d.onNet (fun n => { n with heard := n.heard.filter (fun x => x.1 != node) ++ [(node, dir, d.clk)] })
    | .coldstart => if d.gt < d.tn then back (d.count (cNet 1) 1) else d.count (cNet 3) 1
    | .integrating =>
      if d.net.integ == some node then d
      else if d.coldCapable then back d
      else (d.onTime (fun t => { t with run := false })).onNet
        (fun n => { n with ring := .listen, since := d.clk, heard := [], integ := none })
    | _ => d.count (cNet 3) 1
/-- A COLDSTART frame (R306). -/
def coldstartOf (node : Nat) (dir active : Bool) (mode : Nat) : BtnFrame :=
  btnSeal
    { ver := 1, type := 3, nodeId := node, slot := 255, dir := dir, wrap := false, active := active,
      cycle := 0, modeCur := mode, req := false, switch := false, nak := false, reqMode := 0, reqNode := 0, reqSeq := 0,
      switchCycle := 0, txTime := 0, actTime := 0, payload := [], seq := 0, e2eCrc := 0, fcsOk := true }
/-- A COLDSTART frame on a ring port: it is forwarded like any ring frame (R294). -/
def coldRing (d : Dev) (east : Bool) (f : BtnFrame) : Dev :=
  let d := noteRing d east f
  let own := f.nodeId == d.nodeId
  let d := if (own && !f.wrap) || d.mutedRing f.nodeId then d else forward d east false f (d.gt + 640)
  coldFrame d f.nodeId f.dir
/-- COLDSTART_FRAME_RECEIVED: one sent from RING_E comes in by RING_W. -/
def execColdstartFrameReceived (node : Nat) (dir : Bool) (s : State) : Host.Outcome State Fault Refusal :=
  s.onDev (fun d => if !d.hubUp || d.offRing then d else coldRing d dir (coldstartOf node dir false 0))

/-- BTN_FRAME_RECEIVED (R272). -/
def execBtnFrameReceived (port : Port) (f : BtnFrame) (arrival : BitVec 64) (s : State) : Host.Outcome State Fault Refusal :=
  s.onDev (fun d =>
    let a := arrival.toNat
    let d := d.toGt a
    let cold := f.type = 3 && f.fcsOk && f.e2eCrc == btnCrc f && f.ver == 1
    let ring := fun (east : Bool) => if d.offRing then d else if cold then coldRing d east f else ringFrame d east f a
    if !d.hubUp then d
    else match port with
      | .ringE => ring true
      | .ringW => ring false
      | .pair0 => plainFrame d port false ((d.netTable.map (·.pairDelay)).getD 0) f a
      | .pair1 => plainFrame d port false ((d.netTable.map (·.pairDelay)).getD 0) f a
      | .star i => if (d.net.stars.getD i (GuardSt.reset i)).muted then d else plainFrame (d.onNet (fun n => { n with starRun := n.starRun.filter (fun x => x.1 != i) })) port true 0 f a
      | .mgmt => d)

/-- ACCEPTANCE_WINDOW_END (R279, R280): EMPTY and ONE_COPY of a slot another node owns. -/
def execAcceptanceWindowEnd (slot : Nat) (s : State) : Host.Outcome State Fault Refusal :=
  s.onDev (fun d =>
    match d.netTable, d.slotRec slot with
    | some t, some r =>
      let d := d.toGt (d.time.bellGt.toNat + r.start + r.rxMax t + t.window)
      if r.txNode = d.nodeId || !d.hubUp then d
      else
        let n := match d.net.rx.find? (fun x => x.slot == slot) with | some x => x.copies | none => 0
        let d := if n = 0 then d.count (cSlot slot 1) 1 else if n = 1 && (r.ring || r.pair) then d.count (cSlot slot 5) 1 else d
        d.onNet (fun s => { s with rx := s.rx.map (fun x => if x.slot == slot then { x with copies := 0 } else x) })
    | _, _ => d)

/-- MODE_TIMEOUT (R291): an own request that has not reached its announcement within 8 network cycles is withdrawn. -/
def execModeTimeout (s : State) : Host.Outcome State Fault Refusal :=
  s.onDev (fun d => match d.net.req with
    | some r =>
      if r.own && r.switch.isNone && !d.standalone && decide (8 ≤ r.age) then
        (d.onNet (fun n => { n with toutCnt := satInc 255 n.toutCnt })).withdraw 3
      else d
    | none => d)

end Sys2Proof.Machine
end

