-- ==== Sys2Proof/Machine/Ring.lean ====
section
/-! DEFINITION. The network beside its scheduled frames: port state (R298, R299), the recess (R285, R286), the star ports'
invigilator (R300, R301), start-up (R305, R306), live members, synchronisation and mode agreement at a bell (R302, R304, R289,
R290). -/

namespace Sys2Proof.Machine
open Sys2Proof

/-! ### Ports -/

def NetSt.onSide (n : NetSt) (east : Bool) (f : RingPort → RingPort) : NetSt :=
  if east then { n with east := f n.east } else { n with west := f n.west }

/-- Wrap a port that is down (R298): counted once. -/
def wrapPort (d : Dev) (east : Bool) : Dev :=
  let p := if east then d.net.east else d.net.west
  if p.down && !p.wrapped then (d.count (cNet 0) 1).onNet (·.onSide east (fun p => { p with wrapped := true })) else d

/-- RING_LINK_DOWN (R298): a member without a GT wraps at once, any other at the next bell. -/
def execRingLinkDown (east : Bool) (s : State) : Host.Outcome State Fault Refusal :=
  s.onDev (fun d =>
    let d := d.onNet (·.onSide east (fun p => { p with up := false, down := true, clean := 0 }))
    if d.time.run || d.standalone then d else wrapPort d east)
/-- RING_LINK_UP (R299): the wrapped port counts complete clean cycles from here. -/
def execRingLinkUp (east : Bool) (s : State) : Host.Outcome State Fault Refusal :=
  s.onDev (fun d => (d.onTime (fun t => { t with serdesBad := false })).onNet (·.onSide east (fun p => { p with up := true, down := p.wrapped, clean := 0, part := true })))

/-- A port at a bell: silence while the other port hears frames makes it down; a wrapped port whose link is up unwraps after two
complete cycles with a frame in each. -/
def bellPort (d : Dev) (east : Bool) : Dev :=
  let p := if east then d.net.east else d.net.west
  let o := if east then d.net.west else d.net.east
  let clean := if p.part then 0 else if p.up && 0 < p.valid then p.clean + 1 else 0
  let silent := !p.part && p.valid == 0 && decide (0 < o.valid)
  let unwrap := p.wrapped && p.up && decide (2 ≤ clean)
  d.onNet (·.onSide east (fun p =>
    { p with clean := clean, part := false, wrapped := p.wrapped && !unwrap, down := (p.down || silent) && !unwrap }))

/-! ### The recess -/

/-- Room for a frame of a class (R286). -/
def NetSt.roomFor (n : NetSt) (fwd : Bool) (len : Nat) : Bool :=
  decide (n.heldAll + len ≤ 65536) && (fwd || decide (n.held false < 16384))

/-- Byte time of a port in 6.25 ps. -/
def portByte : Port → Nat
  | .star _ => byteStar
  | .pair0 => bytePair
  | .pair1 => bytePair
  | _ => byteRing
/-- Wire time and gap of an unscheduled frame in GT units: 8 bytes of preamble, 4 of FCS, 12 of gap. -/
def recessGt (p : Port) (len : Nat) : Nat := ceilDiv ((8 + len + 4 + 12) * portByte p) 250
/-- The length of the recess less W. -/
def Dev.recessLen (d : Dev) : Nat := match d.netTable with
  | some t => d.tn - t.recess - t.window
  | none => d.tn

/-- Queue a frame for its ports, dropping it for those whose recess it does not fit, or drop it at the tail. `src`: the port under
which a drop is counted. -/
def queueRecess (d : Dev) (fwd : Bool) (ports : List Port) (src : Port) (bytes : List Byte) : Dev :=
  let fits := ports.filter (fun p => decide (recessGt p bytes.length ≤ d.recessLen))
  let d := (ports.filter (fun p => !fits.contains p)).foldl (fun d p => d.count (cPort (portIdx p) 1) 1) d
  if fits.isEmpty then d
  else if d.net.roomFor fwd bytes.length then
    d.onNet (fun n => { n with recess := n.recess ++ [{ fwd := fwd, ports := fits, bytes := bytes, src := src }] })
  else d.count (cPort (portIdx src) (if fwd then 2 else 3)) 1
/-- A frame for the host receive queue. -/
def queueHost (d : Dev) (src : Port) (bytes : List Byte) : Dev :=
  if d.net.roomFor false bytes.length then d.onNet (fun n => { n with hostRx := n.hostRx ++ [(src, bytes)] })
  else d.count (cPort (portIdx src) 3) 1

/-- Frames that leave a port in the time left, in queue order. -/
def sendRecess (p : Port) : Nat → List RecFrame → List RecFrame × List (Port × List Byte)
  | _, [] => ([], [])
  | left, r :: rest =>
    let t := recessGt p r.bytes.length
    if r.ports.contains p && decide (t ≤ left) then
      match sendRecess p (left - t) rest with
      | (q, out) =>
        let ps := r.ports.filter (fun x => x != p)
        (if ps.isEmpty then q else { r with ports := ps } :: q, (p, r.bytes) :: out)
    else if r.ports.contains p then (r :: rest, [])
    else match sendRecess p left rest with | (q, out) => (r :: q, out)

/-- RECESS_START (R285). -/
def execRecessStart (port : Port) (s : State) : Host.Outcome State Fault Refusal :=
  s.onDev (fun d =>
    let start := match d.netTable with | some t => t.recess | none => 0
    let d := d.toGt (d.time.bellGt.toNat + start)
    if !d.hubUp then d
    else match sendRecess port d.recessLen d.net.recess with
      | (q, out) => d.onNet (fun n => { n with recess := q, recTx := n.recTx.filter (fun x => x.1 != port) ++ out }))

def Dev.star (d : Dev) (i : Nat) : GuardSt := d.net.stars.getD i (GuardSt.reset i)
/-- Is offset t within the recess? -/
def Dev.inRecess (d : Dev) (t : Int) : Bool := match d.netTable with | some n => decide ((n.recess : Int) ≤ t) | none => true

/-- UNSCHEDULED_FRAME_RECEIVED (R286, Table 15-6). -/
def execUnscheduledFrameReceived (port : Port) (dest : DestKind) (bytes : List Byte) (s : State) : Host.Outcome State Fault Refusal :=
  s.onDev (fun d =>
    if !d.hubUp then d
    else
      let ring : List Port := match port with | .ringE => [.ringW] | .ringW => [.ringE] | .star _ => [.ringE, .ringW] | _ => []
      match port, dest with
      -- a star port's gate is open to unscheduled frames in the recess alone, and closed while the port is muted (R300, R301)
      | .star i, k =>
        if (d.star i).muted || !d.inRecess ((d.gt : Int) - d.time.bellGt.toNat) then d
        else if k == .other then queueRecess d true ring port bytes
        else queueHost (queueRecess d true ring port bytes) port bytes
      | _, .own => queueHost d port bytes
      | _, .group => queueHost (queueRecess d true ring port bytes) port bytes
      | _, .other => queueRecess d true ring port bytes)

/-! ### The invigilator (R300, R301) -/

def Dev.onStar (d : Dev) (i : Nat) (f : GuardSt → GuardSt) : Dev := d.onNet (fun n => { n with stars := modAt n.stars i f })
/-- One violation: the third in a row mutes the port. -/
def starViolation (d : Dev) (i : Nat) : Dev :=
  (d.count (cPort (4 + i) 7) 1).onStar i (fun g =>
    { g with viol := g.viol + 1, muted := g.muted || decide (3 ≤ g.viol + 1), frames := g.frames + 1, bad := true })
/-- The edge-node slot of a star port whose gate is open at offset t from the bell. -/
def Dev.openSlot (d : Dev) (i : Nat) (t : Int) : Option SlotRec :=
  match d.netTable with
  | none => none
  | some n => n.slots.find? (fun r => r.star i && r.txNode != d.nodeId && decide ((t - r.start).natAbs ≤ n.window))
/-- STAR_FRAME_ARRIVAL. -/
def execStarFrameArrival (i : Nat) (btn : Bool) (node : Nat) (s : State) : Host.Outcome State Fault Refusal :=
  s.onDev (fun d =>
    if !d.hubUp || decide (12 ≤ i) then d
    else
      let t : Int := (d.gt : Int) - d.time.bellGt.toNat
      match d.openSlot i t with
      | some r =>
        let w : Nat := d.window
        let ok := btn && node == r.txNode
        if !ok then starViolation d i
        else
          let d := d.onStar i (fun g => { g with viol := if g.muted then g.viol else 0, frames := g.frames + 1 })
          if (d.star i).muted then d
          else d.onNet (fun n => { n with starRun := putNat n.starRun i (d.time.bellGt.toNat + r.start + r.len + w) })
      | none =>
        if d.inRecess t then d
        else starViolation d i)

/-- INVIGILATOR_CUT: a frame still running at slot end + W is cut. -/
def execInvigilatorCut (i : Nat) (s : State) : Host.Outcome State Fault Refusal :=
  s.onDev (fun d => match lookupNat d.net.starRun i with
    | some t => starViolation ((d.toGt t).onNet (fun n => { n with starRun := n.starRun.filter (fun x => x.1 != i) })) i
    | none => d)

/-- A guard at a bell: two clean cycles in a row unmute it. -/
def GuardSt.bell (g : GuardSt) : GuardSt :=
  let good := decide (0 < g.frames) && !g.bad
  let c := if good then g.clean + 1 else 0
  if g.muted && decide (2 ≤ c) then { g with muted := false, viol := 0, clean := 0, frames := 0, bad := false }
  else { g with clean := if g.muted then c else 0, frames := 0, bad := false }

/-! ### Start-up -/

/-- The listen window and the back-off in GCLK (R305). -/
def Dev.listenClk (d : Dev) (back : Bool) : Nat :=
  if back then 4 * d.tn + d.nodeId * 25 * usClk else 2 * d.tn + d.nodeId * 10 * usClk
/-- A COLDSTART frame leaves on both ring ports; GT is zero at its slot start (R306). -/
def coldstartSend (d : Dev) : Dev :=
  let f := coldstartOf d.nodeId false (d.paired && d.isActive) d.modeCur
  let d := d.onTime (fun t => { t with run := true, gt := 0, frac := 0, cycle := 0, bellGt := 0,
                                       nextFc := BitVec.ofNat 64 d.tn, fcIdx := 0 })
  d.onNet (fun n => NetSt.leave { (n.onMember d.nodeId (fun m => { m with live := true })) with ring := .coldstart, heard := [], ownSent := [0] } (timed d.hopDelay 0 false (ringCopies n f)))

/-- LISTEN_WINDOW_END (R305, Table 16-3). A device that has had its first bell keeps its GT and listens again. -/
def execListenWindowEnd (s : State) : Host.Outcome State Fault Refusal :=
  s.onDev (fun d =>
    let back := d.net.ring == .backoff
    if !(back || d.net.ring == .listen) || !d.hubUp then d
    else
      let d := d.toClk (d.net.since + d.listenClk back)
      let again := d.onNet (fun n => { n with ring := .listen, since := d.clk, heard := [] })
      match d.net.heard with
      | [] => if d.coldCapable && !d.time.belled then coldstartSend d else again
      | [(node, dir, at_)] =>
        let d := d.onNet (fun n => { n with ring := .integrating, integ := some node, heard := [] })
        if !d.time.belled then adoptGt d 0 0 0 (d.pathDelay node dir + (d.clk - at_)) else d
      | _ =>
        if d.coldCapable then
          (d.count (cNet 2) 1).onNet (fun n => { n with ring := .backoff, since := d.clk, heard := [] })
        else again)

/-- MEMBER_SILENCE_TIMEOUT (R305): 4 T_N after the last valid frame of a live member, back to LISTEN with the GT kept; no more sending
until synchronised again (R308). -/
def execMemberSilenceTimeout (s : State) : Host.Outcome State Fault Refusal :=
  s.onDev (fun d =>
    match d.net.ring, d.net.heardAt with
    | .member, some t =>
      let d := d.toClk (t + 4 * d.tn)
      d.onNet (fun n => { n with ring := .listen, since := d.clk, heard := [], sending := false, synced := false, inBound := 0,
                                 heardAt := none })
    | _, _ => d)

/-! ### The bell -/

/-- Live members (R302): two consecutive cycles with, or without, a valid frame. -/
def MemberSt.bell (m : MemberSt) (own muted : Bool) : MemberSt :=
  if own then m
  else
    let s := if m.inCyc then m.seen + 1 else 0
    let u := if m.inCyc then 0 else m.unseen + 1
    { m with seen := s, unseen := u, live := !muted && decide (u < 2) && (m.live || decide (2 ≤ s)), inCyc := false }

/-- δ of a member measured in the cycle, in fine units: from two copies, or from one with the path delay held (R303). -/
def Dev.deltaOf (d : Dev) (m : MemberSt) : Option Int :=
  match m.delta with
  | some v => some v
  | none =>
    match m.arr0, m.arr1 with
    | some a, _ => some (a - m.tx - m.d0.getD (8 * (d.hops m.id false * d.hopDelay)))
    | none, some a => some (a - m.tx - m.d1.getD (8 * (d.hops m.id true * d.hopDelay)))
    | none, none => none

/-- The values of R304 with one highest and one lowest removed when there are three or more. -/
def trimmed (l : List Int) : List Int :=
  if l.length < 3 then l
  else
    let hi := l.foldl max (l.headD 0)
    let lo := l.foldl min (l.headD 0)
    (l.erase hi).erase lo

/-- A correction in 2^-16 GT units is applied from boundary 1 of this network cycle on for one network cycle, as a rate change within
the limits of R41; the rest is carried. -/
def applyCorr (d : Dev) (corr : Int) : Dev :=
  let tn : Int := d.tn
  let lim : Int := (min 1000 d.rateLimit : Nat) * 2 ^ 32 / 1000000
  let rate := max (-lim) (min lim (corr * 65536 / tn))
  d.onTime (fun t => { t with nextRate := some rate, carry := corr - rate * tn / 65536 })
/-- The correction of R304, limited by R41: ρ and rate in 2^-32, m and the correction in 2^-16 GT units. A member that is alone applies
none; one that has measured nothing applies what was carried. -/
def syncBell (d : Dev) : Dev :=
  let others := d.liveOthers
  let deltas := others.filterMap d.deltaOf
  if others.isEmpty then
    -- each bell of an only live member counts as a measurement of m = 0
    let own := (d.member d.nodeId).any (·.live)
    (d.onTime (fun t => { t with nextRate := some 0 })).onNet (fun n =>
      let k := if own then n.inBound + 1 else n.inBound
      { n with badBells := 0, noBells := 0, lastM := if own then 0 else n.lastM, inBound := k, synced := n.synced || (own && decide (2 ≤ k)) })
  else if deltas.isEmpty then (applyCorr d d.time.carry).onNet (fun n => { n with noBells := n.noBells + 1, badBells := 0 })
  else
    let vals := trimmed (0 :: deltas)
    let m : Int := vals.sum * 8192 / vals.length
    let tn : Int := d.tn
    let lim : Int := (min 1000 d.rateLimit : Nat) * 2 ^ 32 / 1000000
    let clamp := fun (x : Int) => max (-lim) (min lim x)
    let rho := clamp (d.net.rho - m * 65536 / (2 * tn))
    let need := -m + rho * tn / 65536
    let ok := decide (m.natAbs ≤ 64 * 65536)
    let d := applyCorr d (need + d.time.carry)
    d.onNet (fun n =>
      let k := if ok then n.inBound + 1 else 0
      { n with lastM := m, rho := rho, inBound := k, synced := decide (2 ≤ k) || (n.synced && ok), noBells := 0,
               badBells := if 640 * 65536 < need.natAbs then n.badBells + 1 else 0 })

/-- RING_SYNC_LOST (Table 2-6): the hub free-runs on its own crystal; the loss is in the global status word and in the journal. A
standalone device never raises it. The device sends again once it is synchronised (R308). -/
def ringSyncLose (d : Dev) : Dev :=
  if d.standalone || d.time.syncLost then d
  else
    let d := d.onTime (fun t => { t with syncLost := true, nextRate := some 0, carry := 0 })
    let d := d.onNet (fun n => { n with synced := false, inBound := 0, sending := false })
    (d.note 0x2B 0 0 1 0).ring 26
/-- RING_SYNC_LOST (R45). -/
def execRingSyncLost (s : State) : Host.Outcome State Fault Refusal :=
  s.onDev (fun d => if d.hubUp && d.time.run then ringSyncLose d else d)
/-- At a bell: four without a measurement, or two with a correction beyond 1 µs, lose the ring; being synchronised again ends it. -/
def syncState (d : Dev) : Dev :=
  if decide (4 ≤ d.net.noBells) || decide (2 ≤ d.net.badBells) then ringSyncLose d
  else if d.time.syncLost && d.net.synced then ((d.onTime (fun t => { t with syncLost := false })).note 0x2B 0 0 0 0).ring 26
  else d

/-- Does this device own a ring slot in the mode in force? -/
def Dev.ownsRing (d : Dev) : Bool := match d.netTable with
  | some t => t.slots.any (fun r => r.ring && r.txNode == d.nodeId)
  | none => false

/-- The ring state at a bell (Table 16-3, R302, R308). -/
def ringBell (d : Dev) : Dev :=
  let kept := d.time.belled
  let d := match d.net.ring with
    | .coldstart => if d.tn ≤ d.gt then d.onNet (fun n => { n with ring := .member, sending := true }) else d
    | .integrating => if d.net.tnBad then d.listenOnly else d.onNet (fun n => { n with ring := .member, sending := !kept })
    | _ => d
  if d.net.ring == .member then
    if !d.ownsRing || d.net.clash || d.net.tnBad then d.listenOnly
    else if !d.net.sending && d.net.synced && d.net.rejoin.isNone then d.onNet (fun n => { n with sending := true })
    else d
  else d

/-- The mode switch takes effect in every running lane (R67 steps 2 and 3; the shadows were swapped before). -/
def switchMode (d : Dev) (m : Nat) : Dev :=
  let old := d.modeCur
  let d := lanesAll.foldl (fun d l =>
    if d.runs l then d.onSeq l (fun s => { s with mode := m, pend := none, ptr := 0, last := none }) else d) d
  (d.note 0x25 old m (if d.standalone then 0 else d.time.cycle.toNat) 0).event 6 (BitVec.ofNat 32 m)

/-- Mode agreement at a bell (R66, R289, R290): announcement, the switch, a member left behind, a rejoin. -/
def modeBell (d : Dev) : Dev :=
  let d := match d.net.req with
    | none =>
      -- a pending mode that no request carries any more: standalone lanes switch at the second bell (R66)
      d
    | some r =>
      if d.standalone then
        if d.liveLanes.all (fun l => (d.lane l).seq.pend == some r.mode) then
          if d.net.saBells = 0 then d.onNet (fun n => { n with saBells := 1 })
          else
            let d := d.onNet (fun n => { n with req := none, saBells := 0 })
            let d := if r.mode = d.modeCur then d.clearPend else switchMode d r.mode
            d.endJob? r.job 0 0
        else d
      else if r.switch == some d.time.cycle then
        let d := d.onNet (fun n => { n with req := none })
        let d := if r.nak || r.mode = d.modeCur then d.clearPend else switchMode d r.mode
        let d := d.endJob? r.job 0 0
        match d.net.heldReq with
        | some (m, j) => (d.onNet (fun n => { n with heldReq := none })).requestMode m j
        | none => d
      else if r.own && r.switch.isNone && d.liveOthers.all (·.echo) then
        d.onNet (fun n => { n with req := some { r with switch := some (d.time.cycle + 2), age := r.age + 1 } })
      else if r.own then d.onNet (fun n => { n with req := some { r with age := r.age + 1 } })
      else match d.member r.node with
        | some m =>
          if m.mode = r.mode && m.mode ≠ d.modeCur && d.net.sending then
            (d.count (cPort 0 6) 1).onNet (fun n => { n with sending := false, req := none, rejoin := some (m.mode, 2) })
          else d
        | none => d
  match d.net.rejoin with
  | some (m, 0) =>
    if d.hasMode m then
      let d := if m = d.modeCur then d else switchMode d m
      d.onNet (fun n => { n with rejoin := none, sending := n.ring == .member })
    else (d.onNet (fun n => { n with rejoin := none })).listenOnly
  | some (m, k + 1) => d.onNet (fun n => { n with rejoin := some (m, k) })
  | none => d

/-- The network's work at a bell. -/
def netBell (d : Dev) : Dev :=
  if !d.hubUp then d
  else
    let d := bellPort (bellPort d true) false
    let d := wrapPort (wrapPort d true) false
    let d := d.onNet (fun n => { n with mutes := n.mutes.map (·.bell), stars := n.stars.map (·.bell) })
    let d := d.onNet (fun n => { n with members := n.members.map (fun m =>
      m.bell (m.id == d.nodeId) (n.mutes.any (fun g => g.id == m.id && g.muted))) })
    let d := if d.standalone then d else ringBell (syncState (syncBell d))
    let d := modeBell d
    d.onNet (fun n => { n with
      members := n.members.map (fun m => { m with arr0 := none, arr1 := none, delta := none }),
      wrapOld := n.wrapNow, wrapNow := false, fill := ceilDiv n.heldAll 64,
      ownSent := n.ownSent.filter (fun t => decide (d.time.bellGt.toNat ≤ t + d.tn)),
      east := { n.east with valid := 0 }, west := { n.west with valid := 0 } })

end Sys2Proof.Machine
end

