-- ==== Sys2Proof/Machine/SafetyIo.lean ====
section
/-! DEFINITION. The safety I/O groups (R348 to R357), the safety input word (R353), DEGRADED as the OR of every condition a rule
states (R353), and the safe stop block of a lane (R355, R359 to R363). Times in GT units of 1.5625 ns. -/

namespace Sys2Proof.Machine
open Sys2Proof

/-! ### Groups -/

def Dev.sio (d : Dev) (grpB : Bool) : SioSt := if grpB then d.safe.b else d.safe.a
def Dev.onSio (d : Dev) (grpB : Bool) (f : SioSt → SioSt) : Dev :=
  d.onSafe (fun s => if grpB then { s with b := f s.b } else { s with a := f s.a })
def sioIdx (grpB : Bool) : Nat := if grpB then 1 else 0
/-- The group's SIO domain is in service. -/
def Dev.sioUp (d : Dev) (grpB : Bool) : Bool := d.domUp (7 + sioIdx grpB)
def Dev.sioSilent (d : Dev) (grpB : Bool) : Bool := d.unitSilent (13 + sioIdx grpB)

/-- The first sampling instant of a group at or after GCLK t: one in 10 µs (R349). -/
def SioSt.sampleAt (x : SioSt) (t : Nat) : Nat := x.phase + 6400 * ceilDiv (t - x.phase) 6400
/-- SS_REQ_ACCEPTED (R349, R354): at a sample of the group's input the level has stood for this many consecutive samples; the 50th accepts
it. GUARD opens when 50 ms of unbroken accepted demand become run. -/
def execSsReqAccepted (grpB demand : Bool) (samples : Nat) (s : State) : Host.Outcome State Fault Refusal :=
  s.onDev (fun d =>
    if !d.sioUp grpB || decide (samples < 50) then d
    else
      let d := d.toClk ((d.sio grpB).sampleAt d.clk)
      let now := d.clk
      d.onSio grpB (fun x =>
        if demand then (if x.req then x else { x with req := true, reqAt := now })
        else { x with req := false, guard := x.guard || (x.req && decide (x.reqAt + 50 * msClk ≤ now)) }))

/-- SAFETY_OUTPUT_CHANGE (R350, R354): the earliest released word reaches its launch GT. While GUARD is clear it acts with
STO_OFF = 1. -/
def execSafetyOutputChange (grpB : Bool) (s : State) : Host.Outcome State Fault Refusal :=
  s.onDev (fun d =>
    match (d.sio grpB).pend with
    | [] => d
    | (g, v) :: rest =>
      let d := (d.toGt g.toNat).onSio grpB (fun x => { x with pend := rest })
      if !d.sioUp grpB then d
      else
        let guard := (d.sio grpB).guard
        let off := v.getLsbD 0
        let d := d.countIf (!guard && !off) (cSafe (sioIdx grpB))
        d.onSio grpB (fun x => { x with stoOff := off || !guard, pbApply := v.getLsbD 1, safeOk := v.getLsbD 2 && !grpB }))

/-! ### Pins and test pulses -/

/-- The level of an output: 0 STO, 1 PB_REL, 2 SAFE_OK. A pulse holds it low (R357); where nothing drives the ball, the board
pulls the wire low (R450). -/
def Dev.sioPin (d : Dev) (grpB : Bool) (out : Nat) : Bool :=
  let x := d.sio grpB
  d.drives (7 + sioIdx grpB) && (match out with
    | 0 => !x.stoOff && !x.pulseS
    | 1 => !x.pbApply && !x.pulseP
    | _ => x.safeOk && !grpB)

/-- A read-back mismatch (R356): OFAULT until restart, counted and recorded. -/
def Dev.outFault (d : Dev) (grpB : Bool) (out : Nat) : Dev :=
  noteDegraded (((d.onSio grpB (fun x => { x with ofault := true })).count (cSafe (6 + sioIdx grpB)) 1).fault 0x17 (sioIdx grpB) out 0 0)

/-- The next instant of the pulse of output k at or after GT g: windows of 200 ms, outputs 50 ms apart. -/
def pulseAt (k g : Nat) : Nat := ceilDiv (g - 32000000 * k) 128000000 * 128000000 + 32000000 * k

/-- TEST_PULSE_START (R356): 0 STO_A, 1 PB_REL_A, 2 STO_B, 3 PB_REL_B. It falls due only while its output is high. -/
def execTestPulseStart (out : Nat) (s : State) : Host.Outcome State Fault Refusal :=
  s.onDev (fun d =>
    let grpB := decide (2 ≤ out)
    let pb := out % 2 == 1
    if 4 ≤ out || !d.time.run || !d.sioPin grpB (out % 2) then d
    else
      let x := d.sio grpB
      let t0 := pulseAt out d.gt
      let t := if t0 = x.pulseGt.toNat && t0 != 0 then t0 + 128000000 else t0
      ((d.toGt t).count (cSafe (2 + out)) 1).onSio grpB (fun x =>
        { x with pulseS := x.pulseS || !pb, pulseP := x.pulseP || pb, pulseGt := BitVec.ofNat 64 t }))

/-- TEST_PULSE_END (R356): 300 µs after its start; a read-back that did not show low within 50 µs, or does not match, is a
fault. -/
def execTestPulseEnd (out : Nat) (readBackOk : Bool) (s : State) : Host.Outcome State Fault Refusal :=
  s.onDev (fun d =>
    let grpB := decide (2 ≤ out)
    let pb := out % 2 == 1
    let x := d.sio grpB
    if 4 ≤ out || !(if pb then x.pulseP else x.pulseS) then d
    else
      let d := (d.toGt (x.pulseGt.toNat + 192000)).onSio grpB (fun x =>
        { x with pulseS := x.pulseS && pb, pulseP := x.pulseP && !pb })
      if readBackOk then d else d.outFault grpB (out % 2))

/-- OUTPUT_READBACK_MISMATCH (R356), outside a change or a pulse. Group B has no SAFE_OK. -/
def execOutputReadbackMismatch (grpB : Bool) (out : Nat) (s : State) : Host.Outcome State Fault Refusal :=
  s.onDev (fun d => if !d.sioUp grpB || 3 ≤ out || (grpB && out == 2) then d else d.outFault grpB out)

/-! ### The safety input word (R353) -/

/-- COVER: the partner takeover-capable (R334) and FULL. -/
def Dev.cover (d : Dev) : Bool :=
  d.paired && (match d.pair.seenTc with | some t => decide (t + 2 * d.tf ≤ d.fcStart) | none => false) && (match d.pair.partner with | some h => h.full | none => false)
/-- The safety input word (Table 19-3). -/
def Dev.safetyInput (d : Dev) : Nat :=
  let a := d.safe.a
  let b := d.safe.b
  flagN (a.req || a.lost) 0 + flagN (b.req || b.lost) 1 + flagN (a.guard && !a.lost) 2 + flagN (b.guard && !b.lost) 3 +
    flagN (a.ofault || a.lost) 4 + flagN (b.ofault || b.lost) 5 + flagN d.degraded 6 + flagN d.cover 7 + flagN d.hubLoss 8 +
    flagN (d.sioSilent false || d.sioSilent true) 9

/-! ### The safe stop block -/

/-- What one run reads. -/
structure StopIn where
  /-- GT of the boundary that began the run, and T_F -/
  now   : Nat
  tf    : Nat
  word  : Word
  deg   : Bool
  hubl  : Bool
  pair_ : Bool
  v     : SigWord
  ack   : Bool
  deriving DecidableEq, Repr

/-- Runs that make up a time in GT units. -/
def runsOf (gt tf : Nat) : Nat := ceilDiv gt (max 1 tf)

/-- DISCREP (R355): latched after 20 ms of runs; cleared after 50 ms of demand on both and a return of both within 20 ms. -/
def StopSt.discrep (s : StopSt) (a b : Bool) (now tf : Nat) : StopSt :=
  let n := if a != b then s.diffs + 1 else 0
  let s := { s with diffs := n, disc := s.disc || decide (runsOf 12800000 tf ≤ n) }
  if a && b then
    let since := s.both.getD now
    { s with both := some since, armed := s.armed || decide (since + 32000000 ≤ now), rel := none }
  else if a || b then { s with both := none, rel := if s.armed then some (s.rel.getD now) else none }
  else
    let ok := s.armed && (match s.rel with | none => true | some r => decide (now ≤ r + 12800000))
    { s with both := none, armed := false, rel := none, disc := s.disc && !ok }

/-- The grace timer (R363) in runs. -/
def StopSt.graceRun (s : StopSt) (lost : Bool) : StopSt := { s with ftLost := lost, grace := if lost then s.grace + 1 else 0 }
/-- GRACE in runs. -/
def graceRuns (q : LaneSt) (tf : Nat) : Nat :=
  let g := q.cfgDy 0x093 0
  ceilDiv (dyNum g * 640000000).toNat (max 1 (dyDen g * tf))

/-- The first trigger of Table 19-4 that holds, and whether one that holds names set 1. -/
def stopTrig (s : StopSt) (i : StopIn) (graceN : Nat) : Nat × Bool :=
  let t1 := i.word.getLsbD 0 || i.word.getLsbD 1
  let t2 := s.ftLost && decide (graceN ≤ s.grace)
  let t4 := i.word.getLsbD 4 || i.word.getLsbD 5
  let t5 := i.hubl && !i.word.getLsbD 7
  (if t1 then 1 else if t2 then 2 else if s.disc then 3 else if t4 then 4 else if t5 then 5 else 0, t1 || s.disc || t4 || t5)

/-- The envelope of R360: |v| ≤ v0 − 3.6·a·t + V_TOL with t in GT units, compared exactly. -/
def envelopeOk (v v0 a tol : Dy) (t : Nat) : Bool :=
  dyLe (dyAdd (dyMul (dyAbs v) (dyInt 3200000000)) (dyMul a (dyInt (18 * t)))) (dyMul (dyAdd v0 tol) (dyInt 3200000000))
/-- |v| < 0.1 km/h. -/
def standstill (v : Dy) : Bool := dyLt (dyMul (dyAbs v) (dyInt 10)) (dyInt 1)

/-- RAMP (R360): trips on the envelope or on a second run in a row without a speed, and stops after 500 ms at standstill. -/
def StopSt.ramp (s : StopSt) (q : LaneSt) (i : StopIn) (good : Bool) : StopSt :=
  let v := sigVal i.v
  let a := dyMin (q.cfgDy 0x091 s.pset) (q.cfgDy 0x090 s.pset)
  let viol := good && !envelopeOk v (sigVal s.v0) a (q.cfgDy 0x092 0) (i.now - s.gt0)
  let trip := viol || (!good && s.inval)
  let still := if good && standstill v then some (s.still.getD i.now) else none
  let stop := match still with | some t => decide (t + 320000000 ≤ i.now) | none => false
  { s with viol := s.viol || viol, spdInv := !good, inval := !good, still := still,
           state := if trip then 3 else if stop then 2 else 1 }

/-- A stop begins (R359): RAMP, cause, set and v0; without any speed ever read the run trips at once. -/
def StopSt.begin_ (s : StopSt) (i : StopIn) (cause : Nat) (pset : Nat) (good : Bool) : StopSt :=
  { s with state := if good || s.lastV.isSome then 1 else 3, cause := cause, pset := pset, gt0 := i.now + i.tf,
           v0 := s.lastV.getD sigZero, viol := false, spdInv := !good, inval := !good,
           still := if good && standstill (sigVal i.v) then some i.now else none }

/-- The state part of a run (R359 to R361). -/
def StopSt.advance (s : StopSt) (q : LaneSt) (i : StopIn) : StopSt :=
  let good := i.v.st.valid && !i.v.st.stale
  let s := if good then { s with lastV := some (mkSig (dyAbs (sigVal i.v)) Status.ok) } else s
  let (cause, one) := stopTrig s i (graceRuns q i.tf)
  let s :=
    if s.state = 0 then
      (if cause = 0 then { s with spdInv := !good } else s.begin_ i cause (if one then 1 else (q.cfgInt 0x094 0).toNat) good)
    else if s.state = 1 then s.ramp q i good
    else if cause = 0 && i.v.st.valid && standstill (sigVal i.v) && i.ack then
      { s with state := 0, cause := 0, still := none, spdInv := !good }
    else { s with spdInv := !good }
  { s with bits := stopBits s.state,
           decel := if s.state = 1 then { valSig (q.cfgVal 0x090 s.pset) with st := Status.ok } else sigInt 0 Status.ok }

/-- What the run of lane l that began at GT `now` reads. With PAIRED the trigger inputs are those the pair roll call gave (R362). -/
def stopIn (d : Dev) (g : Img) (q : LaneSt) (now : Nat) : StopIn :=
  let r := g.cfgWord (pidOf 0x0C3 0)
  let own := d.laneInput
  let word := match q.stop.io with
    | some x => if g.paired && (q.sig x.trig).st.valid then (q.sig x.trig).mant else own
    | none => own
  { now := now, tf := d.tf, word := word, hubl := word.getLsbD 8, pair_ := d.paired, deg := word.getLsbD 6,
    v := q.sig (dw r 14 0), ack := carriesIn (q.sig (dw r 29 15)) 1 1 == some 1 }
/-- Fault tolerance is lost (R363). -/
def ftLost (i : StopIn) : Bool := i.deg && !(i.pair_ && i.word.getLsbD 7)

/-- A stop state changed: record 0x28, event class 4 and the count of stops by cause, from the reporting lane. -/
def noteStop (d : Dev) (l : Lane) (old new : StopSt) (word : Nat) : Dev :=
  if old.state = new.state || l != d.recLane then d
  else
    let d := if old.state = 0 then d.count (cSafe (7 + new.cause)) 1 else d
    (d.laneRec l 2 0x28 new.state new.cause word 0).event 4 (BitVec.ofNat 32 word)

/-- V in 1/64 km/h, saturating. -/
def speedQ (w : SigWord) : Nat := min 0xFFFF (dyFloorAt (dyAbs (sigVal w)) 6).toNat
/-- The safety status word (Table 19-10). -/
def Dev.safetyWord (d : Dev) : Nat :=
  let s := (d.lane d.lowLane).stop
  let a := d.safe.a
  let b := d.safe.b
  s.state * 2 ^ 30 + s.cause * 2 ^ 27 + flagN s.viol 26 + flagN s.spdInv 25 + flagN (b.req || b.lost) 24 + flagN (a.req || a.lost) 23 +
    flagN (b.guard && !b.lost) 22 + flagN (a.guard && !a.lost) 21 + flagN s.disc 20 + flagN (b.ofault || b.lost) 19 +
    flagN (a.ofault || a.lost) 18 + flagN s.ftLost 17 + flagN d.cover 16 + flagN (d.sioPin false 2) 15 +
    flagN (d.sioPin true 1) 14 + flagN (d.sioPin false 1) 13 + flagN (d.sioPin true 0) 12 + flagN (d.sioPin false 0) 11
/-- The speed word at 0x0204. -/
def Dev.speedWord (d : Dev) : Nat :=
  let s := (d.lane d.lowLane).stop
  speedQ s.v0 * 65536 + speedQ (s.lastV.getD sigZero)

/-- The block's state as the pair roll call gave it (R362): state, cause and v0 of the first-ranked device. Where that device is in RAMP and
this one is not, RAMP became live at the boundary that began this run. A word that is not VALID, or carries no state or cause, leaves
the own value. -/
def StopSt.rolled (s : StopSt) (q : LaneSt) (now : Nat) : StopSt :=
  match s.io with
  | none => s
  | some x =>
    let st := ((carriesIn (q.sig x.state) 0 3).getD s.state).toNat
    let ca := ((carriesIn (q.sig x.cause) 0 5).getD s.cause).toNat
    let st := if (q.sig x.state).st.valid then st else s.state
    let ca := if (q.sig x.cause).st.valid then ca else s.cause
    let v0 := if (q.sig x.v0).st.valid then { q.sig x.v0 with st := Status.ok } else s.v0
    if st = 1 && s.state != 1 then
      { s with state := 1, cause := ca, v0 := v0, gt0 := now, still := none, viol := false,
               pset := if ca = 2 then (q.cfgInt 0x094 0).toNat else 1 }
    else { s with state := st, cause := ca, v0 := if st = 0 then s.v0 else v0 }
/-- The own state, cause and v0 that a run leaves for the pair roll call. -/
def StopSt.share (s : StopSt) (q : LaneSt) : LaneSt :=
  match s.io with
  | none => q
  | some x => ((q.setSig x.stateOut (sigInt s.state Status.ok)).setSig x.causeOut (sigInt s.cause Status.ok)).setSig x.v0Out
      { s.v0 with st := Status.ok }

/-- One run of the block in lane l, for the fast cycle that began at GT `now`. -/
def stopRun (d : Dev) (l : Lane) (now : Nat) : Dev :=
  match d.boot.running with
  | none => d
  | some g =>
    if !d.runs l then d
    else
      let q := d.lane l
      let i := stopIn d g q now
      let s := if g.paired then q.stop.rolled q now else q.stop
      let s := ((s.discrep (i.word.getLsbD 0) (i.word.getLsbD 1) now i.tf).graceRun (ftLost i)).advance q i
      let d := d.onLane l (fun q => s.share { q with stop := s })
      noteStop d l q.stop s d.safetyWord

/-- SAFE_STOP_RUN (R360): the run of the fast cycle in progress. A read that fails its parity check takes the lane out (R105). -/
def execSafeStopRun (l : Lane) (p : Bool) (io : Option StopIo) (s : State) : Host.Outcome State Fault Refusal :=
  s.onDev (fun d =>
    if d.runs l && p then d.takeOut l 6 0 0
    else stopRun (d.onLane l (fun q => { q with stop := { q.stop with io := io } })) l d.fcStart)

/-- SAFE_STOP_STOPPED (R360): the first run that begins 500 ms after the first run of the series at standstill. It trips instead
where it breaks the envelope. -/
def execSafeStopStopped (l : Lane) (s : State) : Host.Outcome State Fault Refusal :=
  s.onDev (fun d =>
    match (d.lane l).stop.still with
    | some t =>
      if (d.lane l).stop.state = 1 && d.runs l then
        let d := d.toGt (t + 320000000)
        stopRun d l (max d.fcStart (t + 320000000))
      else d
    | none => d)

/-- GRACE_EXPIRED (R363): the timer of a lane in which fault tolerance is lost reaches GRACE; trigger 0b010 holds from then. -/
def execGraceExpired (l : Lane) (s : State) : Host.Outcome State Fault Refusal :=
  s.onDev (fun d =>
    let q := d.lane l
    if q.stop.ftLost && d.runs l then
      let n := graceRuns q d.tf
      (d.toGt (d.fcStart + (n - q.stop.grace) * d.tf)).onLane l (fun q => { q with stop := { q.stop with grace := max q.stop.grace n } })
    else d)

/-- DISCREP (R355): the two requests as latched have differed for 20 ms of runs. -/
def execDiscrep (l : Lane) (s : State) : Host.Outcome State Fault Refusal :=
  s.onDev (fun d =>
    if d.runs l && (d.laneInput.getLsbD 0 != d.laneInput.getLsbD 1) then
      let n := runsOf 12800000 d.tf
      (d.toGt (d.fcStart + (n - (d.lane l).stop.diffs) * d.tf)).onLane l (fun q =>
        { q with stop := { q.stop with disc := true, diffs := max q.stop.diffs n } })
    else d)

end Sys2Proof.Machine
end

