-- ==== Sys2Proof/Machine/DcLink.lean ====
section
/-! DEFINITION. The DC-link supervision block of a lane (R212 to R215), the chopper fault (R211) and the precharge sequence
(R210). The signals that the spec leaves to the image are operands of the command. -/

namespace Sys2Proof.Machine
open Sys2Proof

/-- VDC as DCL_SIGNALS names it (R212), and the STATUS word. -/
def dclSigs (g : Img) : Nat × Nat :=
  let r := g.cfgWord (pidOf 0x0C2 0)
  (dw r 29 15, dw r 14 0)
/-- The observer of FCU0 or FCU1 asks for friction braking. -/
def obsBlend (q : LaneSt) : Bool := (q.obs.getD 0 ObsSt.reset).lol != .normal || (q.obs.getD 1 ObsSt.reset).lol != .normal

/-- One stage flag (R213): HYST of VDC against its threshold and the threshold minus DCL_HYST. -/
def stageFlag (vdc thr hyst : SigWord) (old : Bool) : Bool :=
  if sigLt thr vdc then true else if sigLt vdc (opSub thr hyst) then false else old
/-- The remote fault of EL1.11: DESAT or UV of channel 11 as latched on link 1. -/
def chopRemote (d : Dev) : Bool :=
  let x := (d.link 1).latched
  let w := x.desat ||| x.uv
  w.getLsbD 22 || w.getLsbD 23

/-- A host set-point as a block reads it: its word, or this default where the image has none or its value lies outside the range
(R211, R213; the default for a value out of range is a DESIGN CHOICE: log 149). -/
def blockPoint (q : LaneSt) (sig : Option Nat) (lo hi : Option Int) (dflt : Int) : SigWord :=
  match sig with
  | none => sigInt dflt Status.ok
  | some i =>
    let w := q.sig i
    if (match lo with | some n => dyLe (dyInt n) (sigVal w) | none => true) && (match hi with | some n => dyLe (sigVal w) (dyInt n) | none => true) then w
    else sigInt dflt Status.ok
/-- The chopper duty LIMIT((VDC − CHOP_ON)/CHOP_BAND, 0, 1) (R211). A band of zero switches at CHOP_ON (DESIGN CHOICE: log 149). -/
def chopDuty (q : LaneSt) (io : DclIo) (vdc : SigWord) : SigWord :=
  let excess := opSub vdc (blockPoint q io.chopOn none none 820)
  let band := blockPoint q io.chopBand (some 0) none 20
  let x := if sigMant band = 0 then sigFlag (decide (0 ≤ sigMant excess)) (stOf [excess, band]) else mkDiv (sigVal excess) (sigVal band) (stOf [excess, band])
  opLimit x (sigInt 0 Status.ok) (sigInt 1 Status.ok)

/-- The flags of a run (R211, R213, R214). -/
def DclSt.flags (s : DclSt) (d : Dev) (q : LaneSt) (g : Img) (io : DclIo) : DclSt :=
  let vdc := q.sig (dclSigs g).1
  let hyst := blockPoint q (some io.hyst) (some 2) (some 50) 10
  let thr := fun (i : Nat) => q.sig (g.thrSigs.getD i 0)
  let f1 := stageFlag vdc (thr 0) hyst s.f1
  let f4 := stageFlag vdc (thr 3) hyst s.f4
  let ack := carriesIn (q.sig io.ack) 1 1 == some 1
  let full := sigEq (chopDuty q io vdc) (sigInt 1 Status.ok)
  let n := if full then s.chopN + 1 else 0
  let v0 := if full && s.chopN == 0 then vdc else s.chopV
  let chk := match io.chopChk with | some i => ((carriesIn (q.sig i) 2 64).getD 8).toNat | none => 8
  let stuck := full && decide (chk ≤ n) && sigLt (opSub v0 vdc) (sigInt 1 Status.ok)
  let chop := s.chop || chopRemote d || d.unitSilent 10 || stuck
  { s with f1 := f1, f2 := stageFlag vdc (thr 1) hyst s.f2, f3 := stageFlag vdc (thr 2) hyst s.f3, f4 := f4,
           f4l := f4 || (s.f4l && !(ack && !f1)), chop := chop, chopN := n, chopK := chk, chopV := v0, vdc := vdc,
           blend := f1 || chop || obsBlend q }

/-- The precharge sequence (R210, Table 11-5): 0 idle, 1 to 4, 7 FAIL. It starts, and restarts from FAIL, on the host's word. -/
def DclSt.precharge (s : DclSt) (q : LaneSt) (io : DclIo) (now : Nat) : DclSt :=
  let goTo := fun (n : Nat) => { s with pre := n, preAt := now }
  let age : Nat := now - s.preAt
  let bat := q.sig io.vBat
  let limit := q.cfgDy 0x0A7 0
  match s.pre with
  | 0 => if carriesIn (q.sig io.start) 1 1 == some 1 then goTo 1 else s
  | 1 => if bat.st.valid then goTo 2 else s
  | 2 =>
    if dyLe (dySub (sigVal bat) (q.cfgDy 0x0A6 0)) (sigVal s.vdc) then goTo 3
    else if decide (32000000 ≤ age) && dyLt (sigVal s.vdc) (dyInt 50) then goTo 7
    else if dyLe (dyMul limit (dyInt 640000000)) (dyInt age) then goTo 7
    else s
  | 3 =>
    if carriesIn (q.sig io.closed) 1 1 == some 1 && decide (age ≤ 320000000) then goTo 4
    else if 320000000 ≤ age then goTo 7 else s
  | 7 => if carriesIn (q.sig io.start) 1 1 == some 1 then goTo 1 else s
  | _ => s

/-- What the block writes for one FCU (Table 11-7 steps 4, 6, 7; R210 holds its torque until step 4 completes). -/
def dclFcu (s : DclSt) (io : DclIo) (q : LaneSt) (f : DclFcu) : LaneSt :=
  let iq := q.sig f.iqRef
  let regen := (s.f1 || s.chop) && sigLt (opMul iq (q.sig f.omega)) (sigInt 0 Status.ok)
  let id_ := q.sig f.idRef
  let st := if s.pre = 4 then q.sig f.state else sigInt 1 Status.ok
  ((q.setSig f.iqOut (if regen then sigInt 0 (stOf [iq]) else iq)).setSig f.idOut
    (if s.f2 then opMin id_ (opNeg (blockPoint q (some io.idLoss) (some 0) none 200)) else id_)).setSig f.stOut (if s.f3 then sigInt 2 Status.ok else st)

/-- STATUS (R214). -/
def dclStatus (s : DclSt) : Nat :=
  flagN s.f1 0 + flagN s.f2 1 + flagN s.f3 2 + flagN s.f4 3 + flagN s.f4l 4 + flagN s.blend 5 + flagN s.chop 6

/-- A unit is put in OFF: its state word carries 1. -/
def LaneSt.unitState (q : LaneSt) (inst n : Nat) : LaneSt :=
  match q.cfgSigIdx 0x0A0 inst with
  | some i => q.setSig i (sigInt n Status.ok)
  | none => q
/-- The states the precharge and stage 1 put the converters in: PC0 boosts in step 2 with F1 clear and is off in steps 1, 3 and
FAIL; PC1 is off with F1; a faulty chopper is off. -/
def dclUnits (s : DclSt) (q : LaneSt) : LaneSt :=
  let q := if s.pre = 2 then q.unitState 0 (if s.f1 then 1 else 0)
           else if s.pre = 1 || s.pre = 3 || s.pre = 7 then q.unitState 0 1 else q
  let q := if s.f1 then q.unitState 1 1 else q
  if s.chop then q.unitState 2 1 else q

/-- Is a mode of PC0, or of PC1, allowed (Table 11-4)? The contactor report carries 1 when they are closed. -/
def modeAllowed (s : DclSt) (q : LaneSt) (closed : Bool) (pc1 : Bool) (m : ConvMode) : Bool :=
  let allOff := fun (i : Nat) => (q.fcu.getD i FcuSt.reset).eff == 1
  match m with
  | .off => true
  | .buck => !pc1 && s.pre == 4 && closed
  | .boost => !pc1 && s.pre == 2
  | .charge => pc1 && allOff 0 && allOff 1 && q.park == 2 && !(s.f1 || s.f2 || s.f3 || s.f4) && closed
/-- A mode request of PC0 or PC1 (R209): one that its condition does not allow leaves the unit in OFF. -/
def pcRequest (s : DclSt) (io : DclIo) (pc1 : Bool) (q : LaneSt) : LaneSt :=
  let closed := carriesIn (q.sig io.closed) 1 1 == some 1
  match if pc1 then io.req1 else io.req0 with
  | none => q
  | some m => q.unitState (if pc1 then 1 else 0) (if m != .off && modeAllowed s q closed pc1 m then 0 else 1)
/-- The request is refused, and counted (R209). -/
def pcRefused (s : DclSt) (io : DclIo) (pc1 : Bool) (q : LaneSt) : Bool :=
  match if pc1 then io.req1 else io.req0 with
  | none => false
  | some m => !modeAllowed s q (carriesIn (q.sig io.closed) 1 1 == some 1) pc1 m

/-- Blending (R215): with BLEND the regenerative share is zero and the friction share the whole demand. In RAMP the demand is
A_RAMP (R360). -/
def dclBlend (s : DclSt) (io : DclIo) (q : LaneSt) : LaneSt :=
  let dem := if q.stop.state = 1 then q.stop.decel else q.sig io.decel
  let reg := if s.blend then sigInt 0 (stOf [dem]) else q.sig io.regen
  (q.setSig io.regOut reg).setSig io.fricOut (if s.blend then dem else opSub dem reg)

/-- A precharge failure: PRE_FAIL and its count (Table 11-5), from the reporting lane. -/
def notePre (d : Dev) (l : Lane) (old new : DclSt) : Dev :=
  if new.pre = 7 && old.pre != 7 && l == d.recLane then
    (d.count (cConv 3) 1).laneRec l 2 0x26 old.pre 0 0 (sigToNat new.vdc)
  else d

/-- Refused mode requests of PC0 and PC1 (R209, Table 20-12), counted by the reporting lane. -/
def noteModes (d : Dev) (l : Lane) (io : DclIo) (q : LaneSt) (t : DclSt) : Dev :=
  [false, true].foldl (fun d b => if l == d.recLane && pcRefused t io b q then d.count (cConv (if b then 1 else 0)) 1 else d) d

/-- What the chopper and precharge blocks write: the duty of R211; PRECHARGED, from step 3 on; and PRE_I as PC0's current demand, zero but
in step 2, the only one in which PC0 boosts (R209, R210; Table 11-5). The signals are the image's (DEDUCED: log 149). -/
def dclOut (s : DclSt) (io : DclIo) (q : LaneSt) : LaneSt :=
  ((q.setSig io.duty (chopDuty q io s.vdc)).setSig io.prech (sigFlag (s.pre == 3 || s.pre == 4) Status.ok)).setSig io.boostI
    (if s.pre = 2 && !s.f1 then q.cfgSig 0x0A5 0 else sigInt 0 Status.ok)

/-- DC_LINK_SUPERVISION (R213): one run of the block in lane l, with the converter blocks around it. A read that fails its parity
check takes the lane out (R105). -/
def execDcLinkSupervision (l : Lane) (p : Bool) (io : DclIo) (s : State) : Host.Outcome State Fault Refusal :=
  s.onDev (fun d =>
    match d.boot.running with
    | none => d
    | some g =>
      if !d.runs l then d
      else if p then d.takeOut l 6 0 0
      else
        let q := d.lane l
        let t := (q.dcl.flags d q g io).precharge q io d.fcStart
        let d := d.onLane l (fun q =>
          let q := io.fcus.foldl (dclFcu t io) { q with dcl := t }
          let q := dclBlend t io (dclOut t io (dclUnits t (pcRequest t io true (pcRequest t io false q))))
          (q.setSig io.blend (sigFlag t.blend Status.ok)).setSig (dclSigs g).2 (sigInt (dclStatus t) (stOf [t.vdc])))
        noteModes (notePre d l q.dcl t) l io q t)

/-- CHOP_FAULT (R211): the remote or the voter reports the channel, or full duty has held for CHOP_CHK runs and VDC has not fallen by 1 V
over them. -/
def execChopFault (l : Lane) (s : State) : Host.Outcome State Fault Refusal :=
  s.onDev (fun d =>
    let t := (d.lane l).dcl
    if d.runs l && (chopRemote d || d.unitSilent 10 || (decide (t.chopK ≤ t.chopN) && sigLt (opSub t.chopV t.vdc) (sigInt 1 Status.ok))) then
      noteDegraded (d.onLane l (fun q => { q with dcl := { q.dcl with chop := true, blend := true } }.unitState 2 1))
    else d)

/-- PRECHARGE_TIMEOUT (Table 11-5): step 2 ends at 50 ms while VDC is below 50 V, else at PRE_TIMEOUT; step 3 at 500 ms. -/
def execPrechargeTimeout (l : Lane) (s : State) : Host.Outcome State Fault Refusal :=
  s.onDev (fun d =>
    let q := d.lane l
    let lim := q.cfgDy 0x0A7 0
    let full : Nat := ceilDiv (dyNum lim * 640000000).toNat (dyDen lim)
    let span := if q.dcl.pre = 3 then 320000000 else if dyLt (sigVal q.dcl.vdc) (dyInt 50) then min 32000000 full else full
    if d.runs l && (q.dcl.pre == 2 || q.dcl.pre == 3) then
      let d := d.toGt (q.dcl.preAt + span)
      let t := { q.dcl with pre := 7, preAt := d.gt }
      notePre (d.onLane l (fun q => { q with dcl := t }.unitState 0 1)) l q.dcl t
    else d)

/-- The DC-link status word (Table 11-9). -/
def Dev.dclWord (d : Dev) : Nat :=
  let s := (d.lane d.lowLane).dcl
  let stage := if s.f4 then 4 else if s.f3 then 3 else if s.f2 then 2 else if s.f1 then 1 else 0
  stage * 2 ^ 29 + flagN s.f4l 28 + flagN s.chop 27 + flagN s.blend 26 + flagN s.vdc.st.subst 25 + s.pre * 2 ^ 22 +
    min 0xFFFF (dyFloorAt (sigVal s.vdc) 4).toNat
/-- The converter status word. -/
def Dev.pcWord (d : Dev) : Nat :=
  let q := d.lane d.lowLane
  let u := fun (i : Nat) => q.fcu.getD i FcuSt.reset
  flagN ((u 8).eff == 0) 31 + flagN ((u 9).eff == 0) 30 + flagN ((u 10).eff == 0) 29 +
    flagN ((u 8).clamped || (u 9).clamped || (u 10).clamped) 28 + (u 10).depth

end Sys2Proof.Machine
end

