-- ==== Sys2Proof/Machine/Voter.lean ====
section
/-! DEFINITION. The voters: alignment queues matched by TAG (R96), the verdict instant (R97) and the verdict (R98 to R101), holding
and silencing a group (R100), out indications (R102), voter faults (R104) and probation (R112). -/

namespace Sys2Proof.Machine
open Sys2Proof

/-! ### Lanes as a voter sees them -/

/-- A lane counts as live at a group's voter until that voter has named it itself or has its out indication (R102). -/
def Dev.liveAt (d : Dev) (g : Group) (l : Lane) : Bool :=
  !(d.group g).named.contains l &&
    match d.phase l with
    | .live => true
    | .out => !d.vot.outSeen.contains (groupPlace g, l)
    | .off => !d.vot.outSeen.contains (groupPlace g, l)
    | .failed => !d.vot.outSeen.contains (groupPlace g, l)
    | .idle => false
    | .probation => false
def Dev.markOut (d : Dev) (v : VoterPlace) (l : Lane) : Dev := d.onVot (fun x => { x with outSeen := insertNew x.outSeen (v, l) })
/-- The live lanes as a group's voter sees them. -/
def Dev.liveFor (d : Dev) (g : Group) : List Lane := lanesAll.filter (d.liveAt g)
/-- No voter holds a lane absent any more: it has become live. -/
def Dev.rejoin (d : Dev) (l : Lane) : Dev :=
  d.onVot (fun v => { v with
    outSeen := v.outSeen.filter (fun e => e.2 != l), groups := v.groups.map (fun g => { g with named := g.named.filter (· != l) }) })

/-- The word of a TAG in a lane's alignment queue. -/
def GroupSt.word (g : GroupSt) (l : Lane) (tag : BitVec 8) : Option QWord := (g.queue.get l).find? (fun q => q.w.tag == tag)
/-- The earliest arrival of a list of words, the first listed among equals. -/
def earliest (l : List QWord) : Option QWord :=
  l.foldl (fun acc q => match acc with
    | none => some q
    | some p => if q.at_ < p.at_ then some q else some p) none
/-- The words of a TAG from the lanes that count as live. -/
def GroupSt.words (g : GroupSt) (live : List Lane) (tag : BitVec 8) : List QWord := live.filterMap (fun l => g.word l tag)
/-- The first arrival of a TAG, which opens its alignment window. -/
def GroupSt.first (g : GroupSt) (live : List Lane) (tag : BitVec 8) : Option QWord := earliest (g.words live tag)
/-- The word whose LAUNCH is the unit's: one on which two live lanes agree, else the first that came with good parity. DESIGN CHOICE, log
entry 124: R97 does not say whose LAUNCH counts where the lanes differ. -/
def GroupSt.unitWord (g : GroupSt) (live : List Lane) (tag : BitVec 8) : Option QWord :=
  let good := (g.words live tag).filter (·.ok)
  match earliest (good.filter (fun q => decide (2 ≤ (good.filter (fun p => p.w == q.w)).length))) with
  | some q => some q
  | none => earliest good
/-- The release deadline of a TAG in full GT (R97, Table 5-2); none for a digest, or while no word tells a LAUNCH. -/
def GroupSt.deadline (g : GroupSt) (live : List Lane) (tag : BitVec 8) : Option Nat :=
  match groupLead g.g, g.unitWord live tag with
  | some lead, some q => some (gtAhead q.at_ q.w.launch - lead)
  | _, _ => none
/-- The instant that forces the verdict, when the first word came at `at_`: the end of the 2 µs window or the release deadline, whichever
is earlier, and not before the first arrival. -/
def GroupSt.forced (g : GroupSt) (live : List Lane) (tag : BitVec 8) (at_ : Nat) : Nat :=
  match g.deadline live tag with
  | some t => max at_ (min (at_ + 1280) t)
  | none => at_ + 1280

/-! ### Voter faults -/

/-- A voter fault (R104): VOTER_FAULT, the bit of Table 5-7, a fault record. CODE 1 cell disagreement, 2 queue parity error, 3
self-test failure. -/
def Dev.voterFault (d : Dev) (bit lane code tag : Nat) : Dev :=
  noteDegraded ((d.onVot (fun v => { v with faults := insertNew v.faults bit })).fault 0x13 bit lane code tag)

/-! ### Release and hold -/

/-- A released event pairs with the other of its post (R179). -/
def HalfSt.took (h : HalfSt) (ev1 : Bool) (e : Ev) : HalfSt :=
  if ev1 then (match h.first with | some a => { h with first := none, last := some (a, e) } | none => h) else { h with first := some e }
/-- An event 0 released for the half period that stands as a repeat replaces it: that period has a run of its own (R182). `n`: T_F/2. -/
def HalfSt.replaces (h : HalfSt) (ev1 : Bool) (t n : Nat) : Bool := !ev1 && decide (h.repAt ≤ t ∧ t < h.repAt + n)
/-- The last pair, when its period began at `t0`, shifted by T_F/2 (R182). -/
def HalfSt.shifted (h : HalfSt) (t0 n : Nat) : Option (Ev × Ev) :=
  match h.last with
  | some (a, b) => if t0 ≤ a.t ∧ a.t < t0 + n then some ({ a with t := a.t + n, rep := true }, { b with t := b.t + n, rep := true }) else none
  | none => none
/-- Insert an event of a half-bridge in order of time. -/
def insertHb (e : Ev) (q : List Ev) : List Ev := q.filter (fun x => decide (x.t ≤ e.t)) ++ e :: q.filter (fun x => decide (e.t < x.t))
/-- A voted event reaches a half-bridge. -/
def HbSt.release (h : HbSt) (n : Nat) (ev1 : Bool) (e : Ev) : HbSt :=
  let q := if h.half.replaces ev1 e.t n then h.evq.filter (!·.rep) else h.evq
  { h with evq := insertHb e q, half := h.half.took ev1 e }
def LinkSt.halfOf (x : LinkSt) (c : Nat) : HalfSt := (lookupNat x.half c).getD HalfSt.reset
/-- A voted event reaches a channel of a link. -/
def LinkSt.release (x : LinkSt) (n : Nat) (e : EdgeEv) : LinkSt :=
  let h := x.halfOf e.ch
  let q := if h.replaces e.ev e.t n then x.evq.filter (fun y => !(y.rep.isSome && y.ch == e.ch)) else x.evq
  { x with evq := q ++ [e], half := putNat x.half e.ch (h.took e.ev ⟨e.t, e.leg, false⟩) }

/-- The payload that a voted unit carries. -/
def txPayOf (x : Nat) (launch : Nat) (w : VWord) : TxPay :=
  let timed := w.value.getLsbD 0
  let body := if timed then w.data.drop 2 else w.data.drop 1
  { desc := x, launch := BitVec.ofNat 64 launch, timed := timed, act := if w.value.getLsbD 1 then w.data[1]? else none,
    bytes := unpackWords body (dw (w.data.getD 0 0) 47 32) }
/-- The slot of a payload post belongs to the partner's node (R333). -/
def partnerSlot (d : Dev) (x : Nat) : Bool :=
  match d.boot.running with
  | none => false
  | some g =>
    let p := payOf g x
    d.paired && !p.can && (match d.slotRec p.slot with | some r => r.txNode == d.partnerId && r.txNode != d.nodeId | none => false)

/-- The channels that are carried on EDGE0 but stay off (R24, Table 1-7). -/
def edgeStaysOff (c : Nat) : Bool := decide (3 ≤ c ∧ c ≤ 5 ∨ 9 ≤ c ∧ c ≤ 11)
/-- A released word reaches the output stage (R98). A link without supply or in reset takes no event (R250). -/
def outputStage (d : Dev) (g : Group) (launch : Nat) (w : VWord) : Dev :=
  let t := 8 * launch + w.fine.toNat
  match g with
  | .gate n => d.onHb n (·.release (4 * d.tf) (w.value.getLsbD 2) ⟨t, w.value.toNat % 4, false⟩)
  | .edge c =>
    let leg := if edgeStaysOff c then 0 else w.value.toNat % 4
    if d.domUp 11 then d.onLink (c / 12) (·.release (4 * d.tf) ⟨t, w.value.getLsbD 2, c % 12, leg, none⟩) else d
  | .payload x => if partnerSlot d x then d else d.onNet (fun n => { n with txq := n.txq ++ [txPayOf x launch w] })
  | .safetyA => d.onSio false (fun x => { x with pend := x.pend ++ [(BitVec.ofNat 64 launch, w.value)] })
  | .safetyB => d.onSio true (fun x => { x with pend := x.pend ++ [(BitVec.ofNat 64 launch, w.value)] })
  | .digest _ => d
  | .outDigest => d.onPair (fun p => { p with ownDig := some (BitVec.ofNat 64 (launch - 1280), w.data.getD 0 0) })

/-- Held, or in a silent set, or in a device that stays fail-silent: nothing the verdict releases is executed (R30, R100, R106). -/
def Dev.shut (d : Dev) (g : Group) : Bool :=
  d.vot.dead || (d.group g).held.isSome || (d.group g).silent ||
    (match g with
     | .payload _ => false
     | .digest _ => false
     | .outDigest => false
     | _ => d.unitSilent (groupUnit g))
def releaseWord (d : Dev) (g : Group) (launch : Nat) (w : VWord) : Dev := if d.shut g then d else outputStage d g launch w

/-- What of a group waits at its output stage is no longer executed. -/
def dropPending (d : Dev) (g : Group) : Dev :=
  match g with
  | .gate n => d.onHb n (fun h => { h with evq := [] })
  | .edge c => d.onLink (c / 12) (fun x => { x with evq := x.evq.filter (fun e => e.ch != c % 12) })
  | .payload x => d.onNet (fun n => { n with txq := n.txq.filter (fun p => p.desc != x) })
  | .safetyA => d.onSio false (fun x => { x with pend := [] })
  | .safetyB => d.onSio true (fun x => { x with pend := [] })
  | .digest _ => d
  | .outDigest => d
/-- A group that goes silent when held: a digest group releases nothing, and an unreleased output digest only stops the
HEARTBEAT (R336). -/
def canSilence : Group → Bool
  | .digest _ => false
  | .outDigest => false
  | _ => true
/-- Hold a group (R100). -/
def holdGroup (d : Dev) (g : Group) (tag : BitVec 8) : Dev :=
  let d := d.onVot (fun v => { v with devFault := true })
  if !canSilence g || (d.group g).held.isSome || (d.group g).silent then d
  else (dropPending d g).onGroup g (fun x => { x with held := some tag })

/-! ### The verdict -/

/-- The outcome of R98. -/
inductive Verdict where
  | late
  | unanimous (w : VWord)
  | majority (w : VWord) (odd : List Lane)
  | hold
  deriving DecidableEq, Repr

/-- The words that count: from a live lane, with good parity, and without a second word for the TAG. -/
def countedWord (g : GroupSt) (tag : BitVec 8) (l : Lane) : Option VWord :=
  match g.word l tag with
  | some q => if q.ok && !q.dup then some q.w else none
  | none => none
/-- Two lanes whose counted words agree: the first pair in lane order. -/
def agreeing (w : Lane → Option VWord) (live : List Lane) : Option (Lane × Lane × VWord) :=
  ([(Lane.a, Lane.b), (Lane.a, Lane.c), (Lane.b, Lane.c)].filterMap (fun p =>
    match w p.1, w p.2 with
    | some x, some y => if live.contains p.1 && live.contains p.2 && x == y then some (p.1, p.2, x) else none
    | _, _ => none)).head?
/-- The verdict of R98 on a TAG. -/
def verdictOf (g : GroupSt) (tag : BitVec 8) (live : List Lane) (late : Bool) : Verdict :=
  if late then .late
  else
    let w := countedWord g tag
    match agreeing w live with
    | none => .hold
    | some (x, y, v) =>
      if live.length = 3 && lanesAll.all (fun l => w l == some v) then .unanimous v
      else
        let excused := fun l => match g.word l tag with | some q => !q.ok | none => false
        .majority v (live.filter (fun z => z != x && z != y && w z != some v && !excused z))

/-- A probation failure (R112): out with cause 0x9; FAILED at the third recomputation in a row, which ends a rotation of the lane. Only
a failed comparison counts among the three: DESIGN CHOICE, log entry 125. -/
def probationFail (d : Dev) (l : Lane) : Dev :=
  let d := (d.takeOut l 9 0 0).onSeq l (fun s => { s with fails := s.fails + 1 })
  if 3 ≤ (d.lane l).seq.fails then
    noteDegraded ((d.onSeq l (fun s => { s with phase := .failed })).onVot (fun v => { v with rot := if v.rot = some l then none else v.rot }))
  else d

/-- The fast-cycle count in which a TAG was posted, of the last four. -/
def tagFc (now : Nat) (tag : BitVec 8) : Nat := now - (now + 4 - tag.toNat / 64 % 4) % 4
/-- Has lane p posted this TAG in its probation? The output digest is that of the fast cycle before. -/
def Dev.judges (d : Dev) (g : Group) (tag : BitVec 8) (p : Lane) : Bool :=
  let fc := tagFc d.time.fcCount tag
  let from_ := (d.lane p).seq.probFc
  d.isProb p && (match g with | .outDigest => decide (from_ < fc) | _ => decide (from_ ≤ fc))
/-- Does lane p's word for a TAG fail against the released word? A parity error excuses it (R101). -/
def probationMiss (gs : GroupSt) (tag : BitVec 8) (w : VWord) (p : Lane) : Bool :=
  countedWord gs tag p != some w && !((gs.word p tag).any (fun q => !q.ok))

/-- A voter cell's verdict differs from that of the other two (R103): a voter fault, reported once. The frame voter has no such cells. -/
def cellFault (d : Dev) (g : Group) (cell : Option Lane) (tag : BitVec 8) : Dev :=
  match cell, groupPlace g with
  | none, _ => d
  | some _, .frame => d
  | some x, _ =>
    if d.vot.cells.contains (g, x) then d
    else (d.onVot (fun v => { v with cells := v.cells ++ [(g, x)] })).voterFault (groupVoter g) (laneIdx x) 1 tag.toNat

/-- The verdict and what follows from it: release, take-outs, hold, probation. `at_`: the verdict instant; `cell`: a voter cell whose own
verdict differs, which the other two mask. -/
def runVerdict (d : Dev) (g : Group) (tag : BitVec 8) (at_ : Nat) (cell : Option Lane) : Dev :=
  let gs := d.group g
  let live := d.liveFor g
  match gs.first live tag with
  | none => d
  | some _ =>
    let late := match gs.deadline live tag with | some t => decide (t < at_) | none => false
    let v := verdictOf gs tag live late
    let k := groupKind g
    let rel : Option VWord := match v with | .unanimous w => some w | .majority w _ => some w | _ => none
    let d := cellFault d g cell tag
    let d := d.onGroup g (fun x => { x with
      queue := x.queue.map (fun l => l.filter (fun y => y.w.tag != tag)),
      decided := x.decided ++ [(tag, d.time.fcCount, rel)] })
    let d := match v with
      | .late => holdGroup (d.count (cVote k 2) 1) g tag
      | .hold => holdGroup (d.count (cVote k 2) 1) g tag
      | .unanimous w => releaseWord (d.count (cVote k 0) 1) g (gtAhead at_ w.launch) w
      | .majority w odd =>
        odd.foldl (fun d l => (d.takeOut l 9 0 0).onGroup g (fun x => { x with named := insertNew x.named l }))
          (releaseWord (d.count (cVote k 1) 1) g (gtAhead at_ w.launch) w)
    match rel with
    | none => d
    | some w => lanesAll.foldl (fun d p => if d.judges g tag p && probationMiss gs tag w p then probationFail d p else d) d

/-- A good word from every live lane is present. -/
def allPresent (d : Dev) (g : Group) (tag : BitVec 8) : Bool :=
  (d.liveFor g).all (fun l => match (d.group g).word l tag with | some q => q.ok | none => false)
/-- Form the verdict when its instant has come. -/
def verdictIfDue (d : Dev) (g : Group) (tag : BitVec 8) (cell : Option Lane) : Dev :=
  let gs := d.group g
  let live := d.liveFor g
  match gs.first live tag with
  | none => d
  | some q =>
    let late := match gs.deadline live tag with | some t => decide (t < d.gt) | none => false
    let t := gs.forced live tag q.at_
    if t < d.gt then runVerdict d g tag t cell
    else if allPresent d g tag || late then runVerdict d g tag d.gt cell else d
/-- TAGs that a group has words of, oldest first. -/
def GroupSt.tagsOf (g : GroupSt) : List (BitVec 8) :=
  (lanesAll.flatMap (fun l => (g.queue.get l).map (fun q => q.w.tag))).foldl insertNew []
/-- The verdicts of a group whose instant has come. -/
def groupDue (d : Dev) (g : Group) : Dev := (d.group g).tagsOf.foldl (fun d t => verdictIfDue d g t none) d
/-- Every verdict whose instant has passed. -/
def verdictsDue (d : Dev) : Dev := d.vot.groups.foldl (fun d g => groupDue d g.g) d
/-- Words that no verdict can reach any more leave the queues: two fast cycles old. -/
def staleWords (fc : Nat) (g : GroupSt) : GroupSt :=
  { g with queue := g.queue.map (fun l => l.filter (fun q => decide (fc ≤ tagFc fc q.w.tag + 2))) }

/-! ### The commands -/

/-- A word joins its alignment queue: a second one for a TAG is discarded and counted, and spoils the first (R96). -/
def enqueue (d : Dev) (l : Lane) (g : Group) (w : VWord) (parityOk : Bool) (cell : Option Lane) : Dev :=
  if (d.group g).decided.any (fun e => e.1 == w.tag) then d.count (cVote (groupKind g) 3) 1
  else match (d.group g).word l w.tag with
    | some _ =>
      (d.onVot (fun v => { v with dups := v.dups + 1 })).onGroup g (fun x =>
        { x with queue := x.queue.set l ((x.queue.get l).map (fun q => if q.w.tag == w.tag then { q with dup := true } else q)) })
    | none =>
      let d := if parityOk then d else (d.count (cVote (groupKind g) 4) 1).voterFault (groupVoter g) 0xFFFF 2 w.tag.toNat
      let now := d.gt
      let d := d.onGroup g (fun x =>
        { x with queue := x.queue.set l (x.queue.get l ++ [{ w := w, ok := parityOk, at_ := now, dup := false }]) })
      verdictIfDue d g w.tag cell

/-- VOTED_WORD_ARRIVAL (R96, R99): the oldest word of the lane's DCQ towards the group arrives, unless its alignment queue is full, when it
waits in the DCQ. A verdict may make another TAG's due, when it has named a lane. -/
def execVotedWordArrival (l : Lane) (g : Group) (parityOk : Bool) (cell : Option Lane) (s : State) : Host.Outcome State Fault Refusal :=
  s.onDev (fun d =>
    match (d.group g).flight.get l with
    | [] => d
    | w :: rest =>
      let gs := d.group g
      let d := match gs.first (d.liveFor g) w.tag with
        | some q =>
          let t := gs.forced (d.liveFor g) w.tag q.at_
          if t < d.gt then runVerdict d g w.tag t none else d
        | none => d
      if !queueFits g ((d.group g).queue.get l) w then d
      else groupDue (enqueue (d.onGroup g (fun x => { x with flight := x.flight.set l rest })) l g w parityOk cell) g)

/-- A forced verdict: time moves on to its instant. -/
def forceVerdict (d : Dev) (g : Group) (tag : BitVec 8) (cell : Option Lane) : Dev :=
  let gs := d.group g
  let live := d.liveFor g
  match gs.first live tag with
  | none => d
  | some q =>
    let t := gs.forced live tag q.at_
    groupDue (runVerdict (d.toGt t) g tag t cell) g

/-- ALIGNMENT_WINDOW_EXPIRY (R97): 2 µs after the first arrival. -/
def execAlignmentWindowExpiry (g : Group) (tag : Nat) (cell : Option Lane) (s : State) : Host.Outcome State Fault Refusal :=
  s.onDev (fun d => forceVerdict d g (BitVec.ofNat 8 tag) cell)

/-- RELEASE_DEADLINE_EXPIRY (R97): the launch GT less the lead of Table 5-1; a digest has none. -/
def execReleaseDeadlineExpiry (g : Group) (tag : Nat) (cell : Option Lane) (s : State) : Host.Outcome State Fault Refusal :=
  s.onDev (fun d => if (groupLead g).isNone then d else forceVerdict d g (BitVec.ofNat 8 tag) cell)

/-- OUT_INDICATION_ARRIVAL (R102): the voters of the place treat the lane as absent from now on. -/
def execOutIndicationArrival (l : Lane) (v : VoterPlace) (s : State) : Host.Outcome State Fault Refusal :=
  s.onDev (fun d =>
    if d.phase l == .out || d.phase l == .off then
      let d := d.markOut v l
      (d.vot.groups.filter (fun g => groupPlace g.g == v)).foldl (fun d g => groupDue d g.g) d
    else d)

end Sys2Proof.Machine
end

