-- ==== Sys2Proof/Machine/Recovery.lean ====
section
/-! DEFINITION. Recomputation of a lane (R107 to R114), rotation (R119 to R121), the lane BISTs and soft repair (R432 to R437), and
the steps that a boundary and a bell take in them. -/

namespace Sys2Proof.Machine
open Sys2Proof

/-! ### The lane BISTs -/

def regroup (l : List Nat) : List Nat := l.foldl insertNew []
/-- Insert in rising order without a repeat. -/
def insNat (x : Nat) : List Nat → List Nat
  | [] => [x]
  | y :: r => if x < y then x :: y :: r else if x = y then y :: r else y :: insNat x r
def sortNat (l : List Nat) : List Nat := l.foldl (fun acc x => insNat x acc) []

/-- A fuse repair record (Table 24-2): lane index, macro, spare, address, when VALID. -/
def fuseRepair (w : Word) : Option (Nat × Nat × Nat × Nat) :=
  let n := w.toNat
  if w.getLsbD 31 && bits n 30 29 != 3 && bits n 22 21 != 3 then some (bits n 30 29, bits n 28 23, bits n 22 21, bits n 9 0) else none
/-- Fused spares of a macro of a lane: spare and address. -/
def Dev.fused (d : Dev) (l : Lane) (m : Nat) : List (Nat × Nat) :=
  (d.boot.fuses.repair.filterMap fuseRepair).filterMap (fun r => if r.1 == laneIdx l && r.2.1 == m then some r.2.2 else none)

/-- A cover: rows in rising order and at most one column. -/
abbrev Cover := List Nat × Option Nat
/-- Number of spares, number of columns and addresses of a cover, for the choice of R436. -/
def coverKey (c : Cover) : List Nat :=
  [c.1.length + (if c.2.isSome then 1 else 0), if c.2.isSome then 1 else 0] ++ c.1 ++ (match c.2 with | some x => [x] | none => [])
def lexLt : List Nat → List Nat → Bool
  | [], [] => false
  | [], _ => true
  | _, [] => false
  | x :: r, y :: t => if x < y then true else if y < x then false else lexLt r t
/-- The cover of failing cells (row, column) with the free spare rows and column: fewest spares, then fewest columns, then the
lowest addresses. -/
def bestCover (cells : List (Nat × Nat)) (freeRows : Nat) (freeCol : Bool) : Option Cover :=
  let rowsOnly : Cover := (sortNat (cells.map (·.1)), none)
  let withCol := fun (c : Nat) => ((sortNat ((cells.filter (fun x => x.2 != c)).map (·.1)), some c) : Cover)
  let all := rowsOnly :: (if freeCol then (sortNat (cells.map (·.2))).map withCol else [])
  (all.filter (fun c => decide (c.1.length ≤ freeRows))).foldl (fun acc c => match acc with
    | none => some c
    | some b => if lexLt (coverKey c) (coverKey b) then some c else some b) none

/-- Soft repair of one macro: its records, or none when it is unrepairable. -/
def softRepair (d : Dev) (l : Lane) (m : Nat) (cells : List (Nat × Nat)) : Option (List (Nat × Nat × Nat × Nat)) :=
  let f := d.fused l m
  let hit := fun (c : Nat × Nat) => f.any (fun s => if s.1 == 2 then s.2 == c.2 else s.2 == c.1)
  let rows := [0, 1].filter (fun r => !f.any (fun s => s.1 == r))
  match bestCover (cells.filter (fun c => !hit c)) rows.length (!f.any (fun s => s.1 == 2)) with
  | none => none
  | some (rs, col) =>
    some ((rs.zip rows).map (fun x => (laneIdx l, m, x.2, x.1)) ++ (match col with | some c => [(laneIdx l, m, 2, c)] | none => []))

/-- The result of the memory BIST: the soft repairs, or the first macro that is unrepairable. -/
def repairAll (d : Dev) (l : Lane) (cells : List (Nat × Nat × Nat)) : List (Nat × Nat × Nat × Nat) × Option Nat :=
  (sortNat (cells.map (·.1))).foldl (fun acc m =>
    match softRepair d l m ((cells.filter (fun c => c.1 == m)).map (·.2)) with
    | some r => (acc.1 ++ r, acc.2)
    | none => (acc.1, some (acc.2.getD m))) ([], none)

/-- The self-test status word and the repair words (Table 24-3). -/
def Dev.testWord (d : Dev) : Nat :=
  let t := d.test
  t.laneBist.a * 2 ^ 26 + t.laneBist.b * 2 ^ 28 + t.laneBist.c * 2 ^ 30 + t.hubBist * 2 ^ 24 + t.mram * 2 ^ 22 + t.dd.1 * 2 ^ 20 +
    t.dd.2 * 2 ^ 18 + flagN (!t.bistRun.isEmpty) 17 + flagN t.mramRun.isSome 16 + min 0xFFFF t.corrected
def Dev.repairWord (d : Dev) (l : Lane) : Nat :=
  let fuse := (d.boot.fuses.repair.filterMap fuseRepair).filter (fun r => r.1 == laneIdx l)
  let soft := d.test.soft.filter (fun r => r.1 == laneIdx l)
  let fm := d.test.failMem.get l
  flagN (d.test.unrep.get l) 31 + (sortNat ((fuse ++ soft).map (·.2.1))).length * 2 ^ 24 + min 255 fuse.length * 2 ^ 16 +
    min 255 soft.length * 2 ^ 8 + fm * 2 ^ 6 + d.test.failMac.get l
def Dev.testStatus (d : Dev) : Dev :=
  lanesAll.foldl (fun d l => d.putWin (0x244 + 4 * laneIdx l) (d.repairWord l)) (d.putWin 0x240 d.testWord)

/-- Start the lane BISTs: the soft repairs of the lane are cleared (R436). -/
def startBist (d : Dev) (l : Lane) : Dev :=
  (d.onTest (fun t => { t with
    soft := t.soft.filter (fun r => r.1 != laneIdx l)
    bistRun := t.bistRun.filter (fun x => x.1 != l) ++ [(l, d.clk)] })).testStatus

/-- The lane is marked FAILED (R437): the memory and the macro concerned, and whether that memory is unrepairable (R436). -/
def failLane (d : Dev) (l : Lane) (mem mac : Nat) (unrep : Bool) : Dev :=
  let d := d.onTest (fun t => { t with failMem := t.failMem.set l mem, failMac := t.failMac.set l mac, unrep := t.unrep.set l unrep })
  noteDegraded ((d.onSeq l (fun s => { s with phase := .failed })).fault 0x1A (laneIdx l) mem mac 0)

/-- LANE_BIST_DONE (R120, R436, R437): 15.5 ms after its start. -/
def execLaneBistDone (l : Lane) (r : BistResult) (s : State) : Host.Outcome State Fault Refusal :=
  s.onDev (fun d =>
    match d.test.bistRun.find? (fun x => x.1 == l) with
    | none => d
    | some (_, t) =>
      let d := d.toClk (t + 15500 * usClk)
      let (soft, bad) := repairAll d l r.cells
      -- unrepairable macros: no cover, or a retest that finds a failing cell
      let macs := sortNat ((soft.map (·.2.1)).filter r.retestBad.contains ++ (match bad with | some m => [m] | none => []))
      let memOk := r.otherMem == 0 && macs.isEmpty
      let code := fun (pass : Bool) => if !pass then 3 else if soft.isEmpty then 1 else 2
      let d := d.onTest (fun x => { x with
        bistRun := x.bistRun.filter (fun y => y.1 != l), soft := x.soft ++ soft, laneBist := x.laneBist.set l (code (r.logicOk && memOk)),
        failMem := x.failMem.set l 0, failMac := x.failMac.set l 0, unrep := x.unrep.set l false })
      let d := d.putTest 0x10 (laneIdx l) (if r.logicOk then 1 else 3) (980 + 900 * 65536) 6000
      let d := d.putTest 0x11 (laneIdx l) (code memOk + min 255 soft.length * 256) 1000 9500
      let ok := r.logicOk && memOk
      let d :=
        if ok then d
        else match macs with
          | m :: _ => failLane d l 1 m true
          | [] => if r.otherMem = 0 then failLane d l 3 0 false else failLane d l r.otherMem 0 true
      let d := d.onVot (fun v => if v.rot == some l then (if ok then { v with rotBist := false } else { v with rotBist := false, rot := none }) else v)
      d.testStatus)

/-! ### The cast -/

/-- Words from bytes, little-endian. -/
def wordsOf : Nat → List Byte → List Word
  | 0, _ => []
  | n + 1, l => BitVec.ofNat 32 (leNat (l.take 4)) :: wordsOf n (l.drop 4)
/-- The record of R83 at the start of these bytes. -/
def coefParse (bs : List Byte) : CoefRec :=
  let sections := leNat ((bs.drop 4).take 2)
  let stages := (bs.getD 3 0).toNat
  { loop := leNat (bs.take 2), bank := (bs.getD 2 0).toNat, stages := stages, sections := sections,
    words := wordsOf (5 * sections) (bs.drop 8), exps := (bs.drop (8 + 20 * sections)).take stages }
/-- Its length in bytes. -/
def coefRecLen (sections stages : Nat) : Nat := 8 * ceilDiv (8 + 20 * sections + stages) 8
/-- A coefficient set in the layout of R83. -/
def coefRecord (c : CoefRec) : List Byte :=
  let bs := leBytes c.loop 2 ++ leBytes c.bank 1 ++ leBytes c.stages 1 ++ leBytes c.sections 2 ++ leBytes 0 2 ++
    c.words.flatMap (fun w => leBytes w.toNat 4) ++ c.exps
  bs ++ List.replicate (coefRecLen c.sections c.stages - bs.length) 0

/-- Bytes of the coefficient memory in use: the records of R83. -/
def LaneSt.coefBytes (q : LaneSt) : Nat := (q.coef.map (fun c => coefRecLen c.sections c.stages)).sum
/-- Where the state set begins in the cast volume (R109: entries, descriptors, coefficients, configuration, state). -/
def castBase (g : Img) (q : LaneSt) : Nat := 8 * g.entries.length + 8 * g.descs.length + q.coefBytes + 16384
def castHalf (g : Img) (q : LaneSt) : Nat := (castBase g q + (g.ranges.map (·.2)).sum) / 16 * 8
/-- Copy the bytes of a range, whose first is byte `off` of the cast volume: the first half from m0, the second from m1. -/
def castRange (m0 m1 : List Host.Cell) (half off a len : Nat) (m : List Host.Cell) : List Host.Cell :=
  let k := min len (half - off)
  memWrite (memWrite m a (memRead m0 a k)) (a + k) (memRead m1 (a + k) (len - k))
def castRanges (m0 m1 : List Host.Cell) (half : Nat) : Nat → List (Nat × Nat) → List Host.Cell → List Host.Cell
  | _, [], m => m
  | off, (a, len) :: r, m => castRanges m0 m1 half (off + len) r (castRange m0 m1 half off a len m)

/-- The coefficient records from byte `off` of the cast volume on: what lies before `half` from the first source's, the rest from the
second's (R83, R109). -/
def castCoefs (half : Nat) : Nat → List CoefRec → List CoefRec → List CoefRec
  | off, x :: r, y :: t =>
    let at_ := fun (n : Nat) => decide (n < half)
    let n := 5 * x.sections
    { (if at_ off then x else y) with
      words := (List.range n).map (fun j => if at_ (off + 8 + 4 * j) then x.words.getD j 0 else y.words.getD j 0)
      exps := (List.range x.stages).map (fun j => if at_ (off + 8 + 4 * n + j) then x.exps.getD j 0 else y.exps.getD j 0) } ::
      castCoefs half (off + 8 * ceilDiv (8 + 20 * x.sections + x.stages) 8) r t
  | _, _, _ => []

/-- A lane's memory after load, and outside the state set after a recomputation: the initial signal words, each stage block with
E_s = EXP_INIT and zero states (R80, R142). A host set-point carries the status of its INIT until its first commit: DEDUCED, log entry 193. -/
def initMem (g : Img) : List Host.Cell :=
  let m := g.sigmap.foldl (fun m r => memSetSig m r.index r.init) []
  ((g.entries.map entryOf).filter (fun e => e.cls == 0x08)).foldl (fun m e =>
    let t := stageOf g e.operand
    laneWrite m t.addr (leBytes (toField t.expInit 8) 1)) m

/-- Calibration is never cast (R260): it is the lane's own. -/
def isCal (p : Nat) : Bool := [0x080, 0x081, 0x089, 0x08A, 0x08B, 0x08C].contains (pidField p)
/-- The configuration part of the cast (R107): fields, shadows, roll-call memory, bank-change latches, effective states and set-points,
from the source that holds the part. What the image does not declare as state is left behind (R81, R93); those
words of the target read as after load (R80, R135): DESIGN CHOICE, log entry 126. -/
def LaneSt.castConfig (t a : LaneSt) (g : Img) (m : List Host.Cell) : LaneSt :=
  let q : LaneSt := { t with
    mem := m
    cfg := t.cfg.filter (fun c => isCal c.pid) ++ a.cfg.filter (fun c => !isCal c.pid)
    coefS := a.coefS, bankL := a.bankL, rc := a.rc, laneS := a.laneS, fcu := a.fcu, obs := a.obs,
    stop := a.stop, dcl := a.dcl, park := a.park, takes := a.takes, pwm := a.pwm, outCrc := [], tags := [] }
  q.setSigs ((g.sigmap.filter (·.host)).map (fun r => (r.index, a.sig r.index)))
/-- The target's lane state after the cast of R107: `a` is the first source and `b` the second. -/
def LaneSt.castFrom (t a b : LaneSt) (g : Img) : LaneSt :=
  let half := castHalf g a
  let base := castBase g a
  let q := t.castConfig (if base - 16384 < half then a else b) g (castRanges a.mem b.mem half base g.ranges (initMem g))
  { q with coef := castCoefs half (8 * g.entries.length + 8 * g.descs.length) a.coef b.coef }

/-- The target begins dispatch at an apply bell: the pointer at the first entry, in the source's mode. `fc`: the fast-cycle count. -/
def SeqSt.restart (s : SeqSt) (src : SeqSt) (ph : Phase) (fc : Nat) : SeqSt :=
  { s with phase := ph, ptr := 0, last := none, busy := [], late := [], mode := src.mode, pend := src.pend, match2 := 0,
           loadCrc := src.loadCrc, offMed := 0, probFc := fc }

/-- The two sources of a cast to a target, lower index first. -/
def Dev.sources (d : Dev) (t : Lane) : List Lane := d.liveLanes.filter (· != t)

/-- At a bell: a cast whose two markers came at least T_F before is applied, and the target goes into probation (R111); else a
cast starts for a lane that went out before this bell, unless its BIST still runs or the device stays fail-silent (R106, R109). At the apply bell every lane clears the target's lane-suspect
mark (R129). -/
def castBell (d : Dev) : Dev :=
  match d.boot.running, d.vot.cast with
  | some g, some (t, marks, gt) =>
    match d.sources t with
    | [x, y] =>
      if marks.contains x && marks.contains y && decide (gt.toNat + d.tf ≤ d.gt) then
        let src := (d.lane x).seq
        let was := (d.lane x).laneS.get t
        let d := d.onLane t (fun q => { q.castFrom (d.lane x) (d.lane y) g with seq := q.seq.restart src .probation d.time.fcCount })
        let d := d.onLanes (fun q => { q with laneS := q.laneS.set t false })
        let d := if was then d.markNotes d.gt [(0x83, laneIdx t, 0)] else d
        d.onVot (fun v => { v with cast := none })
      else d
    | _ => d.onVot (fun v => { v with cast := none })
  | some _, none =>
    let bistOn := fun (l : Lane) => d.test.bistRun.any (fun x => x.1 == l)
    match lanesAll.find? (fun l => d.phase l == .out && !bistOn l && d.domUp (1 + laneIdx l) &&
        decide ((d.lane l).seq.outGt < d.time.bellGt.toNat)) with
    | some t => if d.liveCount = 2 && !d.vot.dead then d.onVot (fun v => { v with cast := some (t, [], 0) }) else d
    | none => d
  | _, _ => d

/-- CAST_SWEEP_END (R109, R111): a source has delivered its half; a parity failure takes it out (R105). -/
def execCastSweepEnd (src : Lane) (p cal : Bool) (s : State) : Host.Outcome State Fault Refusal :=
  s.onDev (fun d =>
    match d.vot.cast with
    | some (t, marks, _) =>
      if !(d.sources t).contains src then d
      else if p then d.takeOut src 6 0 0
      else
        (d.onLane t (fun q => { q with meas := { q.meas with calBad := q.meas.calBad || cal } })).onVot (fun v =>
          { v with cast := some (t, insertNew marks src, BitVec.ofNat 64 d.gt) })
    | none => d)

/-! ### Probation and rotation -/

/-- At a fast-cycle boundary: a lane in probation that matched throughout two cycles becomes live (R112). A rotation ends with
it. A device that stays fail-silent recomputes no lane (R106). -/
def probationBoundary (d : Dev) : Dev :=
  lanesAll.foldl (fun d l =>
    if !d.isProb l || d.vot.dead then d
    else
      let n := (d.lane l).seq.match2 + 1
      if n < 2 then d.onSeq l (fun s => { s with match2 := n })
      else
        let d := d.onSeq l (fun s => { s with phase := .live, match2 := 0, fails := 0 })
        let d := (d.rejoin l).onVot (fun v => { v with
          rotCount := if v.rot == some l then v.rotCount + 1 else v.rotCount
          rot := if v.rot == some l then none else v.rot })
        d.liveChanged) d

/-- The next bell at or after GT g, bells following the last one every T_N. -/
def bellAtOrAfter (d : Dev) (g : Nat) : Nat :=
  let b := d.time.bellGt.toNat
  b + ceilDiv (g - b) (max 1 d.tn) * d.tn
def nextLane : Lane → Lane
  | .a => .b
  | .b => .c
  | .c => .a

/-- ROTATION_START (R119, R120): at the first bell at which 600 s have passed, all lanes are live, nothing is cast, and a pair's
partner is ready. -/
def execRotationStart (s : State) : Host.Outcome State Fault Refusal :=
  s.onDev (fun d =>
    let ready := !d.paired || (d.isActive && (match d.pair.partner with | some h => h.ready | none => false))
    if d.boot.released && decide (d.liveCount = 3) && d.vot.cast.isNone && d.vot.rot.isNone && ready && d.hubUp then
      let d := d.toGt (bellAtOrAfter d (max d.gt (d.vot.rotGt.toNat + 384000000000)))
      let l := d.vot.rotNext
      let d := d.takeOut l 8 0 0
      let d := d.onVot (fun v => { v with rot := some l, rotBist := true, rotNext := nextLane l, rotGt := BitVec.ofNat 64 d.gt })
      startBist d l
    else d)

end Sys2Proof.Machine
end

