-- ==== Sys2Proof/Machine/Can.lean ====
section
/-! DEFINITION. The CAN FD controllers: bit-timing ranges (R311), register writes (R315 to R317), transmission (R316 to R318),
reception (R319 to R322), bus-off (R323) and lane-owned channels (R326, R327). -/

namespace Sys2Proof.Machine
open Sys2Proof

/-! ### Ranges and buffers -/

/-- The nominal setting is in range (R311, Table 17-5). -/
def nbtOk (w : Word) : Bool :=
  let n := w.toNat
  let q := 1 + (bits n 23 16 + 1) + (bits n 15 9 + 1)
  decide (8 ≤ q ∧ q ≤ 385) && decide (bits n 8 2 ≤ bits n 23 16) && decide (bits n 8 2 ≤ bits n 15 9) &&
    decide (640 ≤ q * (bits n 31 24 + 1))
def nomBit (w : Word) : Nat := (3 + bits w.toNat 23 16 + bits w.toNat 15 9) * (bits w.toNat 31 24 + 1)
/-- The data setting is in range beside a nominal one. -/
def dbtOk (nbt w : Word) : Bool :=
  let n := w.toNat
  let q := 1 + (bits n 26 22 + 1) + (bits n 21 18 + 1)
  let b := q * (bits n 31 27 + 1)
  decide (5 ≤ q ∧ q ≤ 49) && decide (bits n 17 14 ≤ bits n 26 22) && decide (bits n 17 14 ≤ bits n 21 18) &&
    decide (80 ≤ b) && decide (b ≤ nomBit nbt)

def CanSt.buf (c : CanSt) (b : Nat) : CanBuf := c.bufs.getD b CanBuf.reset
def CanSt.onBuf (c : CanSt) (b : Nat) (f : CanBuf → CanBuf) : CanSt := { c with bufs := modAt c.bufs b f }
/-- A buffer ends with a result (Table 17-6). -/
def CanBuf.finish (b : CanBuf) (r : Nat) : CanBuf := { b with req := false, abort := false, result := r }
/-- A doorbell of the channel when its enable is set (R324): enables are 8 HP, 4 FIFO, 2 TX, 1 ERR. -/
def canBell (d : Dev) (ch ie : Nat) : Dev :=
  let c := d.chan ch
  if !c.laneOwn && c.ie.testBit ie then d.ring (if ie = 3 then 16 + ch else 20 + ch) else d
/-- A host write is ignored and counted (R12, R313, R315, R316). -/
def canIgnored (d : Dev) (ch : Nat) : Dev := (d.count (cMgmt 5) 1).count (cCan ch 8) 1

/-- Buffers with REQ end with a result; a TX doorbell for each. -/
def endAll (d : Dev) (ch r : Nat) : Dev :=
  [0, 1, 2].foldl (fun d b =>
    if ((d.chan ch).buf b).req then canBell (d.onCan ch (·.onBuf b (·.finish r))) ch 1 else d) d

/-- The bus state that the error counters give (ISO 11898-1): 2 bus-off, 1 error passive, 0 error active. -/
def busOf (tec rec : Nat) : Nat := if 256 ≤ tec then 2 else if 128 ≤ tec || 128 ≤ rec then 1 else 0
/-- New error counters; a change of bus state rings ERR_IE; bus-off ends every buffer with REQ, is counted and recorded (R323). -/
def canErrors (d : Dev) (ch tec rec : Nat) : Dev :=
  let old := (d.chan ch).bus
  let new := busOf tec rec
  let d := d.onCan ch (fun c => { c with tec := min 255 tec, rec_ := min 255 rec, bus := new })
  if new = old then d
  else
    let d := canBell d ch 0
    if new = 2 then
      let held := (d.chan ch).bufs.filter (fun b => b.repl.isSome)
      let d := d.onCan ch (fun c => { c with sending := none, boRec := false, bufs := c.bufs.map (fun b => { b with repl := none }) })
      noteDegraded (((endAll d ch 4).count (cCan ch 6) 1 |>.count (cCan ch 7) held.length).note 0x27 ch 0 (min 255 tec * 256 + min 255 rec) 0)
    else d

/-- The channel leaves the bus: pending buffers end ABORTED (R315). A channel in bus-off stays there (R323). -/
def canOffBus (d : Dev) (ch : Nat) : Dev :=
  endAll (d.onCan ch (fun c => { c with initReq := false, sending := none, bus := if c.bus = 2 then 2 else 3 })) ch 2

/-! ### Register writes -/

/-- A write of BO_RECOVER (R323): it starts recovery of a channel in bus-off. DESIGN CHOICE, log entry 144: no rule says what a 1 written on
another channel does; the bit stays 0. -/
def canRecoverStart (d : Dev) (ch : Nat) : Dev := d.onCan ch (fun c => if c.bus = 2 then { c with boRec := true } else c)

/-- A host write of CTRL (Table 17-3). -/
def ctrlWrite (d : Dev) (ch : Nat) (v : Word) : Dev :=
  let c := d.chan ch
  if c.laneOwn then canIgnored d ch
  else
    let lim := bits v.toNat 27 24
    let cfgNew := v.getLsbD 29 != c.listen || v.getLsbD 28 != c.order || lim != c.collLim
    let d := d.onCan ch (fun c => { c with ie := bits v.toNat 23 20 })
    let d :=
      if c.init then
        let d := d.onCan ch (fun c => { c with listen := v.getLsbD 29, order := v.getLsbD 28,
                                               collLim := if lim = 0 then c.collLim else lim })
        if lim = 0 then canIgnored d ch else d
      else if cfgNew then canIgnored d ch else d
    let d := if v.getLsbD 30 then canRecoverStart d ch else d
    if v.getLsbD 31 then
      if c.init then d
      else
        let d := d.onCan ch (fun c => { c with init := true })
        if c.sending.isSome then d.onCan ch (fun c => { c with initReq := true }) else canOffBus d ch
    else if c.init && nbtOk c.nbt && dbtOk c.nbt c.dbt then d.onCan ch (fun c => { c with init := false, initReq := false })
    else d

/-- REQ of a buffer (R316). -/
def txReq (d : Dev) (ch b : Nat) : Dev :=
  d.onCan ch (·.onBuf b (fun x => if x.req then x else { x with req := true, abort := false, result := 0, coll := 0 }))
/-- ABORT of a buffer (R317). -/
def txAbort (d : Dev) (ch b : Nat) : Dev :=
  let c := d.chan ch
  if !(c.buf b).req then d
  else if (c.sending.map (·.1)) == some b then d.onCan ch (·.onBuf b (fun x => { x with abort := true }))
  else canBell (d.onCan ch (·.onBuf b (·.finish 2))) ch 1

/-- Four bytes of a little-endian word laid over the data of an object. -/
def CanObj.putData (o : CanObj) (at_ : Nat) (v : Word) : CanObj :=
  { o with data := overlay (o.data ++ List.replicate (64 - o.data.length) 0) at_ (leBytes v.toNat 4) }
/-- H0 as written: a base identifier lies in [28:18], and a remote frame is never FD (Table 17-7). -/
def h0Ok (v : Word) : Bool := (v.getLsbD 31 || bits v.toNat 17 0 == 0) && !(v.getLsbD 30 && v.getLsbD 29)

/-- A host write to TX buffer b at an offset within it. -/
def bufWrite (d : Dev) (ch b off : Nat) (v : Word) : Dev :=
  if off = 0 then
    if v.getLsbD 31 && v.getLsbD 30 then d
    else if v.getLsbD 31 then txReq d ch b
    else if v.getLsbD 30 then txAbort d ch b
    else d
  else if off = 12 then d
  else if ((d.chan ch).buf b).req then canIgnored d ch
  else
    let put := fun (f : CanObj → CanObj) => d.onCan ch (·.onBuf b (fun x => { x with obj := f x.obj }))
    if off = 4 then (if h0Ok v then put (fun o => { o with h0 := v }) else canIgnored d ch)
    else if off = 8 then put (fun o => { o with h1 := (v &&& 0xF8000000) ||| (o.h1 &&& 0x04000000) })
    else put (·.putData (off - 16) v)

/-- Word w of filter i, 0 to 31, or of the high-priority filter, 32. -/
def filtWrite (d : Dev) (ch i w : Nat) (v : Word) : Dev :=
  if !(d.chan ch).init then canIgnored d ch
  else
    let put := fun (p : Word × Word) => if w = 0 then (v, p.2) else (p.1, v)
    d.onCan ch (fun c => if i = 32 then { c with hpFilt := put c.hpFilt } else { c with filts := modAt c.filts i put })

/-- A host write of one word of a channel's area (Table 17-2). -/
def canWrite (d : Dev) (ch off : Nat) (v : Word) : Dev :=
  let c := d.chan ch
  if c.laneOwn then canIgnored d ch
  else if off = 0 then ctrlWrite d ch v
  else if off = 4 then d.onCan ch (fun c => { c with rxOvf := c.rxOvf && !v.getLsbD 28, hpLost := c.hpLost && !v.getLsbD 27 })
  else if off = 8 then (if c.init && nbtOk v then d.onCan ch (fun c => { c with nbt := v &&& 0xFFFFFFFC }) else canIgnored d ch)
  else if off = 12 then
    (if c.init && dbtOk c.nbt v then d.onCan ch (fun c => { c with dbt := v &&& 0xFFFFFF80 }) else canIgnored d ch)
  else if decide (0x40 ≤ off ∧ off < 0x130) then bufWrite d ch ((off - 0x40) / 0x50) ((off - 0x40) % 0x50) v
  else if decide (0x200 ≤ off ∧ off < 0x208) then filtWrite d ch 32 ((off - 0x200) / 4) v
  else if decide (0x208 ≤ off ∧ off < 0x308) then filtWrite d ch ((off - 0x208) / 8) ((off - 0x208) / 4 % 2) v
  else d
/-- The offsets of Table 17-2. -/
def canDefined (off : Nat) : Bool :=
  decide (off < 0x10) || decide (0x40 ≤ off ∧ off < 0x130) || decide (0x140 ≤ off ∧ off < 0x18C) ||
    decide (0x190 ≤ off ∧ off < 0x1DC) || decide (0x200 ≤ off ∧ off < 0x308)

/-- A command that acts on one channel while the hub serves. -/
def onChan (d : Dev) (ch : Nat) (f : Dev → Dev) : Dev := if d.hubUp && decide (ch < 4) then f d else d

/-- CTRL_INIT_WRITE (R315). -/
def execCtrlInitWrite (ch : Nat) (v : Word) (s : State) : Host.Outcome State Fault Refusal :=
  s.onDev (fun d => onChan d ch (fun d => ctrlWrite d ch v))
/-- BO_RECOVER (R323) on a management-owned channel. -/
def execBoRecover (ch : Nat) (s : State) : Host.Outcome State Fault Refusal :=
  s.onDev (fun d => onChan d ch (fun d => if (d.chan ch).laneOwn then canIgnored d ch else canRecoverStart d ch))
/-- TXC_REQ (R316). -/
def execTxcReq (ch buf : Nat) (s : State) : Host.Outcome State Fault Refusal :=
  s.onDev (fun d => onChan d ch (fun d => if (d.chan ch).laneOwn then canIgnored d ch else txReq d ch buf))
/-- TXC_ABORT (R317). -/
def execTxcAbort (ch buf : Nat) (s : State) : Host.Outcome State Fault Refusal :=
  s.onDev (fun d => onChan d ch (fun d => if (d.chan ch).laneOwn then canIgnored d ch else txAbort d ch buf))

/-! ### Transmission -/

/-- The arbitration key of a buffer (R316): base identifier, base before extended, extended identifier. -/
def arbKey (o : CanObj) : Nat :=
  let n := o.h0.toNat
  bits n 28 18 * 2 ^ 19 + (if o.h0.getLsbD 31 then 2 ^ 18 + bits n 17 0 else 0)
/-- The buffer chosen at a start of frame. -/
def chooseBuf (c : CanSt) : Option Nat :=
  let req := [0, 1, 2].filter (fun b => (c.buf b).req)
  if c.order then req.head?
  else req.foldl (fun acc b => match acc with
    | none => some b
    | some a => if arbKey (c.buf b).obj < arbKey (c.buf a).obj then some b else some a) none
/-- The channel may send: on the bus, not listen-only, idle. -/
def CanSt.canSend (c : CanSt) : Bool := !c.init && decide (c.bus < 2) && !c.listen && c.sending.isNone

/-- ESI of the frame as sent: the channel is error passive (Table 17-7). -/
def setEsi (passive : Bool) (o : CanObj) : CanObj :=
  { o with h1 := (o.h1 &&& 0xFBFFFFFF) ||| (if passive then 0x04000000 else 0) }
/-- CAN_START_OF_FRAME (R316). -/
def execCanStartOfFrame (ch : Nat) (s : State) : Host.Outcome State Fault Refusal :=
  s.onDev (fun d => onChan d ch (fun d =>
    match chooseBuf (d.chan ch) with
    | some b => if (d.chan ch).canSend then
        d.onCan ch (fun c => { c with sending := some (b, BitVec.ofNat 32 d.gt) }.onBuf b (fun x => { x with obj := setEsi (c.bus == 1) x.obj }))
      else d
    | none => d))

/-- A waiting frame takes its buffer (R326): after an attempt that did not succeed the old one ends REPLACED, after one that did it
enters the free buffer. -/
def takeRepl (d : Dev) (ch b : Nat) : Dev :=
  d.onCan ch (·.onBuf b (fun x => match x.repl with
    | some o => { x with obj := o, repl := none, req := true, abort := false, coll := 0, result := if x.req then 5 else x.result }
    | none => x))

/-- The end of an attempt of buffer b whose start of frame was ts (R317, R318). -/
def attemptEnd (d : Dev) (ch b : Nat) (ts : Word) (how : CanEnd) : Dev :=
  let x := (d.chan ch).buf b
  let n := if how = .collision then x.coll + 1 else 0
  let d := d.onCan ch (fun c => { c with sending := none }.onBuf b (fun x => { x with coll := n }))
  if how = .success then
    canBell (d.onCan ch (·.onBuf b (fun x => { x with obj := { x.obj with ts := ts } }.finish 1))) ch 1
  else if x.abort then canBell (d.onCan ch (·.onBuf b (·.finish 2))) ch 1
  else if how = .collision && decide ((d.chan ch).collLim ≤ n) then
    canBell (canBell ((d.onCan ch (·.onBuf b (·.finish 3))).count (cCan ch 3) 1) ch 1) ch 0
  else d

/-- CAN_ATTEMPT_END (R318, R323). An attempt that ends in bus-off ends its buffer with BUS_OFF. -/
def execCanAttemptEnd (ch : Nat) (how : CanEnd) (tec rec : Nat) (s : State) : Host.Outcome State Fault Refusal :=
  s.onDev (fun d => onChan d ch (fun d =>
    match (d.chan ch).sending with
    | none => d
    | some (b, ts) =>
      if 256 ≤ tec then
        let n := if how = .collision then ((d.chan ch).buf b).coll + 1 else 0
        let lim := how = .collision && decide ((d.chan ch).collLim ≤ n)
        let d := d.countIf lim (cCan ch 3)
        let d := canErrors (d.onCan ch (·.onBuf b (fun x => { x with coll := n }))) ch tec rec
        if (d.chan ch).initReq then canOffBus d ch else d
      else
        let d := takeRepl (canErrors (attemptEnd d ch b ts how) ch tec rec) ch b
        if (d.chan ch).initReq then canOffBus d ch else d))

/-- CAN_RECOVERY_COMPLETE (R323): error active again. BO_RECOVER set in the same register clock stays set (R10). -/
def execCanRecoveryComplete (ch : Nat) (again : Bool) (s : State) : Host.Outcome State Fault Refusal :=
  s.onDev (fun d => onChan d ch (fun d =>
    let c := d.chan ch
    if c.boRec && c.bus == 2 then
      let d := d.onCan ch (fun c => { c with boRec := again && !c.laneOwn, tec := 0, rec_ := 0, job := none, bus := if c.init then 3 else 0 })
      noteDegraded (canBell (d.endJob? c.job 0 0) ch 0)
    else d))

/-- CAN_BUS_INTEGRATED (R310): the channel joins the bus as error active. -/
def execCanBusIntegrated (ch : Nat) (s : State) : Host.Outcome State Fault Refusal :=
  s.onDev (fun d => onChan d ch (fun d =>
    let c := d.chan ch
    if c.bus == 3 && !c.init then canBell (d.onCan ch (fun c => { c with bus := 0 })) ch 0 else d))

/-- CAN_BUS_ERROR (R310): the receive error counter after the error. -/
def execCanBusError (ch : Nat) (rec : Nat) (s : State) : Host.Outcome State Fault Refusal :=
  s.onDev (fun d => onChan d ch (fun d => if (d.chan ch).bus < 2 then canErrors d ch (d.chan ch).tec rec else d))

/-! ### Reception -/

/-- H0 of a received frame. -/
def frameH0 (f : CanFrame) : Word :=
  BitVec.ofNat 32 (flagN f.ide 31 + flagN f.rtr 30 + flagN f.fdf 29 + f.id.toNat)
/-- The object of a received frame with its matching filter, 0x3F for the high-priority filter. -/
def frameObj (f : CanFrame) (filt : Nat) : CanObj :=
  { h0 := frameH0 f, h1 := BitVec.ofNat 32 (f.dlc.toNat * 2 ^ 28 + flagN f.brs 27 + flagN f.esi 26 + filt * 2 ^ 20), ts := f.sof,
    data := f.data ++ List.replicate (64 - f.data.length) 0 }
/-- An enabled filter matches the frame (R319). -/
def filtMatch (p : Word × Word) (f : CanFrame) : Bool :=
  p.1.getLsbD 31 && p.1.getLsbD 29 == f.ide &&
    ((f.id ^^^ p.1.setWidth 29) &&& p.2.setWidth 29) == 0 && (!p.2.getLsbD 30 || p.2.getLsbD 29 == f.fdf) &&
    (!f.rtr || p.2.getLsbD 31)

/-- A frame accepted by filter i of a lane-owned channel fills its lane receive object (R327). -/
def laneRx (d : Dev) (ch i : Nat) (f : CanFrame) : Dev :=
  let now := d.gt
  let o := frameObj f i
  let c := d.chan ch
  if c.lanes.any (fun r => r.obj == i) then
    let ow := c.lanes.any (fun r => r.obj == i && r.filling.isSome)
    (d.countIf ow (cCan ch 4)).onCan ch (fun c => { c with lanes := c.lanes.map (fun r =>
      if r.obj == i then { r with filling := some o, endGt := now } else r) })
  else d.onCan ch (fun c => { c with lanes := c.lanes ++ [{ obj := i, filling := some o, endGt := now, read := none, ver := 0 }] })

/-- CAN_FRAME_RECEIVED (R319 to R321, R327): filtered and routed. A protocol exception makes the channel integrate and is counted (R310). -/
def execCanFrameReceived (ch : Nat) (f : CanFrame) (rec : Nat) (s : State) : Host.Outcome State Fault Refusal :=
  s.onDev (fun d => onChan d ch (fun d =>
    if 2 ≤ (d.chan ch).bus then d
    else if f.fdf && f.res then canBell ((d.count (cCan ch 5) 1).onCan ch (fun c => { c with bus := 3 })) ch 0
    else
      let d := canErrors d ch (d.chan ch).tec rec
      let c := d.chan ch
      if !c.laneOwn && filtMatch c.hpFilt f then
        if c.hp.isSome then (d.count (cCan ch 2) 1).onCan ch (fun c => { c with hpLost := true })
        else canBell (d.onCan ch (fun c => { c with hp := some (frameObj f 0x3F), hpLock := false })) ch 3
      else
        match (List.range 32).find? (fun i => filtMatch (c.filts.getD i (0, 0)) f) with
        | none => d.count (cCan ch 0) 1
        | some i =>
          if (c.filts.getD i (0, 0)).1.getLsbD 30 then d
          else if c.laneOwn then laneRx d ch i f
          else if 16 ≤ c.fifo.length then (d.count (cCan ch 1) 1).onCan ch (fun c => { c with rxOvf := true })
          else canBell (d.onCan ch (fun c => { c with fifo := c.fifo ++ [frameObj f i] })) ch 2))

/-- HEAD_OBJECT_H0_READ (R321): it locks an object that is not empty. -/
def execHeadObjectH0Read (ch : Nat) (hp : Bool) (s : State) : Host.Outcome State Fault Refusal :=
  s.onDev (fun d => onChan d ch (fun d => d.onCan ch (fun c =>
    if hp then { c with hpLock := c.hp.isSome } else { c with fifoLock := !c.fifo.isEmpty })))
/-- HEAD_OBJECT_RELEASE_READ (R321). -/
def execHeadObjectReleaseRead (ch : Nat) (hp : Bool) (s : State) : Host.Outcome State Fault Refusal :=
  s.onDev (fun d => onChan d ch (fun d => d.onCan ch (fun c =>
    if hp then { c with hp := none, hpLock := false } else { c with fifo := c.fifo.drop 1, fifoLock := false })))

/-! ### Lane-owned frames -/

/-- CAN_BUFFER_ENTRY (R326): at the bell plus ENTRY the voted frame enters its buffer and sets REQ. -/
def execCanBufferEntry (desc : Nat) (s : State) : Host.Outcome State Fault Refusal :=
  s.onDev (fun d =>
    match d.boot.running, d.net.txq.find? (fun p => p.desc == desc) with
    | some g, some p =>
      let t := payOf g desc
      if !t.can || !d.hubUp then d
      else
        let d := (d.toGt p.launch.toNat).onNet (fun n => { n with txq := n.txq.filter (fun x => x != p) })
        let c := d.chan t.chan
        let o : CanObj := { h0 := BitVec.ofNat 32 t.h0, h1 := BitVec.ofNat 32 t.h1, ts := 0, data := p.bytes }
        if !d.isActive then d
        else if c.bus = 2 then d.count (cCan t.chan 7) 1
        else if (c.sending.map (·.1)) == some t.buf then d.onCan t.chan (·.onBuf t.buf (fun x => { x with repl := some o }))
        else d.onCan t.chan (·.onBuf t.buf (fun x =>
          { x with obj := o, req := true, abort := false, coll := 0, result := if x.req then 5 else 0 }))
    | _, _ => d)

/-- At a fast-cycle boundary at GT b: a filling bank whose frame ended at least 800 ns before becomes the read bank (R327). -/
def canBoundary (d : Dev) (b : Nat) : Dev :=
  { d with can := d.can.map (fun c => { c with lanes := c.lanes.map (fun r =>
      match r.filling with
      | some o => if r.endGt + 512 ≤ b then { r with read := some o, filling := none, ver := r.ver + 1 } else r
      | none => r) }) }

/-- STAT of a channel (Table 17-4) and CTRL, as the host reads them. -/
def CanSt.statWord (c : CanSt) : Nat :=
  c.bus * 2 ^ 30 + flagN c.laneOwn 29 + flagN c.rxOvf 28 + flagN c.hpLost 27 + c.fifo.length * 2 ^ 22 + c.tec * 256 + c.rec_

end Sys2Proof.Machine
end

