-- ==== Sys2Proof/Machine/GateDrive.lean ====
section
/-! DEFINITION. The integrated gate drive: voted events (R219 to R221), bootstrap (R224, R225), switch protection (R226, R227),
gate supply (R231) and the off-state diagnostics (R232, R234). Times in units of 195.3125 ps. -/

namespace Sys2Proof.Machine
open Sys2Proof

def HbSt.sw (h : HbSt) : Side → Switch
  | .high => h.hi
  | .low => h.lo
def HbSt.onSw (h : HbSt) (s : Side) (f : Switch → Switch) : HbSt :=
  match s with
  | .high => { h with hi := f h.hi }
  | .low => { h with lo := f h.lo }
def otherSide : Side → Side
  | .high => .low
  | .low => .high
def sideIdx : Side → Nat
  | .high => 0
  | .low => 1
/-- The bank of a half-bridge is in service. -/
def Dev.gdUp (d : Dev) (n : Nat) : Bool := d.domUp (if n < 10 then 9 else 10)

/-- 120 ns. -/
def softFine : Nat := 615
/-- A switch turns off at t. -/
def Switch.turnOff (s : Switch) (t : Nat) : Switch :=
  if s.on then { s with on := false, offAt := t, armed := false, blanked := false, soft := false } else s
/-- Protection turns a switch off at the SOFT current and latches it (R227): it is off when the gate sinks the full SOFT current, 40 ns and
80 ns after detection (Table 12-3). -/
def Switch.latchOff (s : Switch) (t : Nat) (c : LatchCause) : Switch :=
  { s with on := false, offAt := if s.on then t + softFine else s.offAt, armed := false, blanked := false, soft := true,
           latch := insertNew s.latch c }
/-- Both switches off, nothing pending. -/
def HbSt.allOff (h : HbSt) (t : Nat) : HbSt := { h with hi := h.hi.turnOff t, lo := h.lo.turnOff t, pend := none }
def Dev.hbOff (d : Dev) (n : Nat) : Dev := d.onHb n (·.allOff d.fineNow)

/-- The live dead time of a half-bridge, DT codes of 10 ns being 51.2 units (R219, Table 12-2). -/
def Dev.deadTime (d : Dev) (n : Nat) : Nat := ceilDiv ((d.dieInt 0x070 n).toNat * 512) 10
/-- The dead time that is live at time t, now or before the last commit (R221). -/
def Dev.deadTimeAt (d : Dev) (n t : Nat) : Nat := if t < (d.hb n).dtOld.2 then (d.hb n).dtOld.1 else d.deadTime n
/-- A commit at GT b has put another dead time in force than `was`. -/
def keepDead (was d : Dev) (b : Nat) : Dev :=
  (List.range 20).foldl (fun d n => if was.deadTime n = d.deadTime n then d else d.onHb n (fun h => { h with dtOld := (was.deadTime n, 8 * b) })) d

/-- A voter cell's clock runs: its lane has supply and a good clock. -/
def Dev.cellRuns (d : Dev) (l : Lane) : Bool := d.domUp (laneIdx l + 1) && !(d.lane l).seq.clkBad
/-- The second to come of the cells' instants. -/
def secondOf : List Nat → Option Nat
  | [x, y, z] => some (max (min x y) (min (max x y) z))
  | [x, y] => some (max x y)
  | _ => none
/-- The hub's count, in 2^-32 GT units, at which the second cell realises fine time t: the median of the three lanes' replicas (R32). -/
def Dev.realised (d : Dev) (t : Nat) : Option Nat :=
  let r : Nat := t * 2 ^ 29
  secondOf ((lanesAll.filter d.cellRuns).map (fun l => (Int.ofNat r - (d.lane l).seq.devWhen r).toNat))

/-! ### Voted events -/

/-- The result of a unit's diagnostics: kept for TEST_RESULTS, and the end of the job that asked. RUN_TEST ends OK with its results
(R400); SWITCH_CLEAR that does not pass ends with ERR_DIAG, or with ERR_ABORTED when a turn-on aborted it. -/
def diagReport (d : Dev) (r : DiagRun) (result node dur : Nat) : Dev :=
  let word := result + 16 * node
  let d := d.putTest 1 r.unit word 1000 dur
  match r.job with
  | none => d
  | some j =>
    let res : List Word := if r.clear then [BitVec.ofNat 32 word] else [BitVec.ofNat 32 word, 1000, BitVec.ofNat 32 dur]
    let d := d.onMgmt (fun m => { m with jobs := m.jobs.map (fun x => if x.num == j then { x with res := res } else x) })
    if !r.clear then d.endJob j 0 0
    else if result = 5 then d.endJob j 0x19 0
    else if result = 1 then d
    else d.endJob j 0x1A 0

/-- A unit's diagnostics are aborted by a voted turn-on: result ABORTED, no latch (R234). -/
def diagAbort (d : Dev) (unit : Nat) : Dev :=
  match d.gd.diag.find? (fun r => r.unit == unit) with
  | none => d
  | some r =>
    let d := d.onGd (fun g => { g with diag := g.diag.filter (fun x => x.unit != unit) })
    let hbs := if unit = 8 then [9, 19] else hbsOf unit
    let d := hbs.foldl (fun d n => d.onHb n (fun h => { h with diag := 5 })) d
    let dur := 500 * (min r.step 5 - 1) + (d.clk - r.start) / usClk
    diagReport d r 5 0 dur

/-- An event on a half-bridge at time t: what no longer belongs turns off at once, a turn-on is placed behind the dead time.
`free`: the device is ACTIVE; else both switches are held off (R333). -/
def HbSt.event (h : HbSt) (t dt leg : Nat) (free : Bool) : HbSt :=
  let want : Option Side := if !free then none else if leg = 1 then some .low else if leg = 2 then some .high else none
  let h := { h with pend := none, hold := false, dt := dt }
  let h := if want == some Side.high then h else { h with hi := h.hi.turnOff t }
  let h := if want == some Side.low then h else { h with lo := h.lo.turnOff t }
  match want with
  | none => h
  | some s =>
    if (h.sw s).on || !(h.sw s).latch.isEmpty then h
    else { h with pend := some (s, max t ((h.sw (otherSide s)).offAt + dt)) }

/-- GATE_EVENT_EXECUTION (R219, R32): the earliest released event of the half-bridge, when the second of its voter cells switches. -/
def execGateEventExecution (hb : Nat) (s : State) : Host.Outcome State Fault Refusal :=
  s.onDev (fun d =>
    match (d.hb hb).evq with
    | [] => d
    | e :: rest =>
      match d.realised e.t with
      | none => d.onHb hb (fun h => { h with evq := rest })
      | some r =>
        let d := d.toRaw r
        let u := unitOfHb hb
        let du := if u = 11 then 8 else u
        let free := d.isActive && d.gdUp hb
        let d := if free && (e.leg = 1 || e.leg = 2) && d.gd.diag.any (fun r => r.unit == du) then diagAbort d du else d
        let t := r / 2 ^ 29
        let dt := d.deadTimeAt hb t
        d.onHb hb (fun h => { h with evq := rest }.event t dt e.leg free))

/-- The instant until which the interlock waits: the opposite turn-off, the dead time and 1 µs (R220). -/
def HbSt.stuckAt (h : HbSt) (sd : Side) : Nat := (h.sw (otherSide sd)).offAt + h.dt + 5120
/-- The opposite gate is stuck: the turn-on is cancelled and that switch latched off as for a short (R220, R226). -/
def gateStuck (d : Dev) (hb : Nat) (sd : Side) (t : Nat) : Dev :=
  ((d.count (cHb hb 0) 1).count (cHb hb 2) 1).onHb hb (fun h => { h with pend := none, hold := false }.onSw (otherSide sd) (·.latchOff t .gateStuck))

/-- SWITCH_TURN_ON (R219, R220, R224): the pending turn-on happens, unless the opposite gate is above 2.0 V, which holds it and bars it for
good from 1 µs after the dead time on. A high side without its bootstrap is refused and BS_UV is raised. The switch takes the protection
settings live now (Table 12-7). -/
def execSwitchTurnOn (hb : Nat) (vgs : Nat) (s : State) : Host.Outcome State Fault Refusal :=
  s.onDev (fun d =>
    match (d.hb hb).pend with
    | none => d
    | some (sd, t) =>
      let d := d.toGt (ceilDiv t 8)
      let h := d.hb hb
      let i := 2 * hb + sideIdx sd
      let vth := (d.dieInt 0x074 i).toNat
      let blank := (d.dieInt 0x075 i).toNat
      if !(h.sw sd).latch.isEmpty || !d.gdUp hb then d.onHb hb (fun h => { h with pend := none, hold := false })
      else if (h.hold || decide (2000 < vgs)) && decide (h.stuckAt sd ≤ d.fineNow) then gateStuck d hb sd d.fineNow
      else if 2000 < vgs then d.onHb hb (fun h => { h with hold := true })
      else if sd == .high && h.bsLow then
        (if h.bsUv then d else d.count (cHb hb 1) 1).onHb hb (fun h => { h with pend := none, hold := false, bsUv := true, bsSeen := true })
      else d.onHb hb (fun h => { h with pend := none, hold := false }.onSw sd (fun w =>
        { w with on := true, onAt := max t d.fineNow, vth := vth, blank := blank, armed := false, blanked := false, soft := false })))

/-- GATE_STUCK (R220): the opposite gate has not fallen by its turn-off plus the dead time plus 1 µs. -/
def execGateStuck (hb : Nat) (s : State) : Host.Outcome State Fault Refusal :=
  s.onDev (fun d =>
    match (d.hb hb).pend with
    | none => d
    | some (sd, _) =>
      let t := (d.hb hb).stuckAt sd
      gateStuck (d.toGt (ceilDiv t 8)) hb sd t)

/-! ### Comparators -/

/-- HARD_SHORT_ARMED (R226): 100 ns after turn-on. -/
def execHardShortArmed (hb : Nat) (sd : Side) (s : State) : Host.Outcome State Fault Refusal :=
  s.onDev (fun d =>
    let w := (d.hb hb).sw sd
    if w.on && !w.armed then (d.toGt (ceilDiv (w.onAt + 512) 8)).onHb hb (·.onSw sd (fun w => { w with armed := true })) else d)
/-- BLANKING_END (R226): (BLANK + 1) × 250 ns after turn-on. -/
def execBlankingEnd (hb : Nat) (sd : Side) (s : State) : Host.Outcome State Fault Refusal :=
  s.onDev (fun d =>
    let w := (d.hb hb).sw sd
    if w.on && !w.blanked then
      (d.toGt (ceilDiv (w.onAt + 1280 * (w.blank + 1)) 8)).onHb hb (·.onSw sd (fun w => { w with blanked := true }))
    else d)
/-- A short is detected on a switch (R226, R227). -/
def shortTrip (d : Dev) (hb : Nat) (sd : Side) (c : LatchCause) : Dev :=
  (d.count (cHb hb 0) 1).onHb hb (·.onSw sd (·.latchOff d.fineNow c))
/-- HARD_SHORT_TRIP: acts from 100 ns after turn-on until turn-off. -/
def execHardShortTrip (hb : Nat) (sd : Side) (s : State) : Host.Outcome State Fault Refusal :=
  s.onDev (fun d => if ((d.hb hb).sw sd).on && ((d.hb hb).sw sd).armed then shortTrip d hb sd .hardShort else d)
/-- VDS_TRIP: acts from the end of blanking until turn-off. -/
def execVdsTrip (hb : Nat) (sd : Side) (s : State) : Host.Outcome State Fault Refusal :=
  s.onDev (fun d => if ((d.hb hb).sw sd).on && ((d.hb hb).sw sd).blanked then shortTrip d hb sd .vds else d)

/-! ### Bootstrap and gate supply -/

/-- BS_UV (R225 steps 1 and 2): VBS fell below 7.5 V; an on high side turns off at its normal current. -/
def execBsUv (hb : Nat) (s : State) : Host.Outcome State Fault Refusal :=
  s.onDev (fun d =>
    if (d.hb hb).hi.on then
      (d.count (cHb hb 1) 1).onHb hb (fun h => { h with hi := h.hi.turnOff d.fineNow, bsLow := true, bsUv := true, bsSeen := true })
    else d.onHb hb (fun h => { h with bsLow := true }))
/-- BS_RECOVERED (R225 step 4): VBS reached 8.0 V. -/
def execBsRecovered (hb : Nat) (s : State) : Host.Outcome State Fault Refusal :=
  s.onDev (fun d => d.onHb hb (fun h => { h with bsLow := false, bsUv := false, bsAt := none }))
/-- BS_FAULT (R225 step 5): 1 ms after the first boundary that delivered BS_UV. A turn-on of the low side stays pending. -/
def execBsFault (hb : Nat) (s : State) : Host.Outcome State Fault Refusal :=
  s.onDev (fun d =>
    match (d.hb hb).bsAt with
    | some t =>
      if (d.hb hb).bsUv then
        let d := d.toClk (t + msClk)
        d.onHb hb (fun h => { h with pend := h.pend.filter (fun p => p.1 != Side.high) }.onSw .high (·.latchOff d.fineNow .bsFault))
      else d
    | none => d)

def bankHbs (bank : Nat) : List Nat := (List.range 20).filter (fun n => decide (n < 10) == (bank == 1))
def pairSet (p : Bool × Bool) (bank : Nat) (v : Bool) : Bool × Bool := if bank = 1 then (v, p.2) else (p.1, v)
def pairNat (p : Nat × Nat) (bank : Nat) (v : Nat) : Nat × Nat := if bank = 1 then (v, p.2) else (p.1, v)
/-- Every half-bridge of a bank off and latched VGD_UV (R231). -/
def bankLatch (d : Dev) (bank : Nat) : Dev :=
  let t := d.fineNow
  let d := (bankHbs bank).foldl (fun d n => d.onHb n (fun h =>
    { h.allOff t with hi := { (h.allOff t).hi with latch := insertNew h.hi.latch .vgdUv },
                      lo := { (h.allOff t).lo with latch := insertNew h.lo.latch .vgdUv } })) d
  d.onGd (fun g => { g with vgdUv := pairSet g.vgdUv bank true })
def bankUnlatch (d : Dev) (bank : Nat) : Dev :=
  let d := (bankHbs bank).foldl (fun d n => d.onHb n (fun h =>
    { h with hi := { h.hi with latch := h.hi.latch.filter (· != .vgdUv) },
             lo := { h.lo with latch := h.lo.latch.filter (· != .vgdUv) } })) d
  d.onGd (fun g => { g with vgdUv := pairSet g.vgdUv bank false, pVgd := pairSet g.pVgd bank false })

/-- VGD_UV (R231): the gate supply is below 9.0 V. -/
def execVgdUv (bank : Nat) (mv : Nat) (s : State) : Host.Outcome State Fault Refusal :=
  s.onDev (fun d =>
    let d := d.onGd (fun g => { g with vgdMv := pairNat g.vgdMv bank (min 65535 mv) })
    if mv < 9000 then bankLatch d bank else d)
/-- VGD_RECOVERED (R231): the gate supply is above 9.5 V. -/
def execVgdRecovered (bank : Nat) (mv : Nat) (s : State) : Host.Outcome State Fault Refusal :=
  s.onDev (fun d =>
    let d := d.onGd (fun g => { g with vgdMv := pairNat g.vgdMv bank (min 65535 mv) })
    if 9500 < mv then bankUnlatch d bank else d)

/-! ### Off-state diagnostics -/

/-- Half-bridges of a UNIT code 2 to 8 of R400. -/
def hbsOfUnit (u : Nat) : List Nat := if u = 8 then [9, 19] else hbsOf u
/-- The next step: the park lock has no S5. -/
def diagNext (unit step : Nat) : Nat := if unit = 8 && step = 4 then 6 else step + 1
/-- The result and node of a step on the node voltages and their V_DH, 0 when it passes (Table 12-6). -/
def diagEval (unit step : Nat) (nodes vdh : List Nat) : Nat × Nat :=
  let hi := fun i => decide (8 * vdh.getD i 0 < 10 * nodes.getD i 0)
  let lo := fun i => decide (10 * nodes.getD i 0 < 2 * vdh.getD i 0)
  let idx := List.range (hbsOfUnit unit).length
  match step with
  | 1 => if idx.any hi then (2, 0) else (0, 0)
  | 2 => if idx.any lo then (3, 0) else (0, 0)
  | 3 => if hi 0 then (4, 0) else (0, 0)
  | 4 => if hi 1 then (4, 1) else (0, 0)
  | 5 => if hi 2 then (4, 2) else (0, 0)
  | _ => (0, 0)

/-- The dies a unit's diagnostics occupy. -/
def unitDie (u : Nat) : List Nat := if u = 8 then [1, 2] else if u % 2 = 0 then [1] else [2]
def DiagRun.new (unit : Nat) (job : Option Nat) (clear : Bool) (now : Nat) : DiagRun :=
  { unit := unit, step := 1, job := job, clear := clear, start := now, result := 0, node := 0 }
/-- Start the waiting power-up diagnostics whose dies are free, in order. -/
def diagPump (d : Dev) : Dev :=
  d.gd.diagQ.foldl (fun d u =>
    let busy := d.gd.diag.flatMap (fun r => unitDie r.unit)
    let before := (d.gd.diagQ.takeWhile (fun x => x != u)).flatMap unitDie
    if (unitDie u).any (fun k => busy.contains k || before.contains k) then d
    else d.onGd (fun g => { g with diagQ := g.diagQ.filter (fun x => x != u), diag := g.diag ++ [DiagRun.new u none false d.clk] })) d

/-- The first fast-cycle boundary at least 2 T_F from now (R20). -/
def Dev.commitPoint (d : Dev) : Nat :=
  let n := d.time.nextFc.toNat
  let tf := d.tf
  n + ceilDiv (d.gt + 2 * tf - n) tf * tf

/-- Steps run when the diagnostics end with a result: those up to the failing one, and S6. -/
def diagSteps (unit result node : Nat) : Nat :=
  match result with
  | 1 => if unit = 8 then 5 else 6
  | 2 => 2
  | 3 => 3
  | 4 => 4 + node
  | _ => 0
/-- The end of a unit's diagnostics: DIAG of its half-bridges, a DIAG latch on every switch for a failing result, the latch
clear placed at its commit point for a pass under R230, the end of the job, the fault record (R234). -/
def diagFinish (d : Dev) (r : DiagRun) (result node : Nat) : Dev :=
  let t := d.fineNow
  let bad := result != 1
  let d := d.onGd (fun g => { g with diag := g.diag.filter (fun x => x.unit != r.unit) })
  let d := (hbsOfUnit r.unit).foldl (fun d n => d.onHb n (fun h =>
    let h := { h with diag := result }
    if bad then (h.onSw .high (·.latchOff t .diag)).onSw .low (·.latchOff t .diag) else h)) d
  let d := if bad then noteDegraded (d.fault 0x19 r.unit node result 0) else d
  let d := diagReport d r result node (500 * diagSteps r.unit result node)
  let d := if r.clear && !bad then d.onGd (fun g => { g with clears := g.clears ++ [(r.unit, d.commitPoint, r.job)] }) else d
  diagPump d

/-- DIAG_STEP_END (R232): each step lasts 0.5 ms. A V_DH below 10 V ends the sequence with NO_SUPPLY before its first step. -/
def execDiagStepEnd (unit : Nat) (nodes vdh : List Nat) (s : State) : Host.Outcome State Fault Refusal :=
  s.onDev (fun d =>
    match d.gd.diag.find? (fun r => r.unit == unit) with
    | none => d
    | some r =>
      if r.step = 1 && (List.range (hbsOfUnit unit).length).any (fun i => decide (vdh.getD i 0 < 10000)) then diagFinish d r 6 0
      else
        let d := d.toClk (r.start + 500 * usClk)
        if 6 ≤ r.step then diagFinish d r (if r.result = 0 then 1 else r.result) r.node
        else
          let (res, node) := diagEval unit r.step nodes vdh
          let r' : DiagRun :=
            { r with start := d.clk, step := if res = 0 then diagNext unit r.step else 6, result := res, node := node }
          d.onGd (fun g => { g with diag := g.diag.map (fun x => if x.unit == unit then r' else x) }))

/-- The latch clear at its commit point (R230): every latch of the unit but VGD_UV. -/
def clearLatches (d : Dev) (unit : Nat) : Dev :=
  let keep := fun (w : Switch) => { w with latch := w.latch.filter (· == .vgdUv) }
  (hbsOfUnit unit).foldl (fun d n => d.onHb n (fun h => { h with hi := keep h.hi, lo := keep h.lo })) d

/-! ### Status (R235) -/

/-- CAUSE_H and CAUSE_L (Table 12-8): VGD_UV only while no other latch is set. -/
def causeCode (l : List LatchCause) : Nat :=
  match l.filter (· != .vgdUv) with
  | [] => if l.isEmpty then 0 else 6
  | .vds :: _ => 1
  | .hardShort :: _ => 2
  | .gateStuck :: _ => 3
  | .bsFault :: _ => 4
  | .diag :: _ => 5
  | .vgdUv :: _ => 6
/-- VBS_Q: the open measured value, on the side of its thresholds that the comparator tells (R224). -/
def vbsQ (low : Bool) (v : Byte) : Nat := if low then min 79 v.toNat else max 75 v.toNat
/-- A half-bridge status word; `uv`: the protection word carries its BS_UV. -/
def hbWord (h : HbSt) (uv : Bool) : Nat :=
  flagN (!h.hi.latch.isEmpty) 31 + flagN (!h.lo.latch.isEmpty) 30 + causeCode h.hi.latch * 2 ^ 27 + causeCode h.lo.latch * 2 ^ 24 +
    flagN (uv || h.bsLow) 23 + h.diag * 2 ^ 20 + h.vbs * 2 ^ 8
def bankWord (d : Dev) (bank : Nat) : Nat :=
  let g := d.gd
  let uv := if bank = 1 then g.vgdUv.1 else g.vgdUv.2
  let mv := if bank = 1 then g.vgdMv.1 else g.vgdMv.2
  flagN uv 31 + flagN (g.diag.any (fun r => (unitDie r.unit).contains bank)) 30 + min 65535 mv

end Sys2Proof.Machine
end

