-- ==== Sys2Proof/Machine/PairLink.lean ====
section
/-! DEFINITION. The pair link: service frames as bytes (R328, R329), their order and their instants between the pair slots (R331), what a
cast carries (R107, R337 to R339), and how the active sends it. -/

namespace Sys2Proof.Machine
open Sys2Proof

/-! ### The partner -/

def Role.code : Role → Nat
  | .init => 0
  | .active => 1
  | .casting => 2
  | .probation => 3
  | .inStep => 4
  | .detached => 5
  | .yielded => 6
  | .faulty => 7

/-- The role the hub holds: the one that becomes live at the boundary, when one is set. -/
def PairSt.hubRole (p : PairSt) : Role := match p.next with | some (r, _) => r | none => p.role
/-- A pair port is up and the hub serves a pair. -/
def Dev.pairUp (d : Dev) : Bool := d.paired && d.hubUp && (d.pair.up0 || d.pair.up1)
/-- The partner's last heartbeat shows a role. -/
def Dev.partnerIs (d : Dev) (r : Role) : Bool := match d.pair.partner with | some h => h.state == r.code | none => false

/-! ### Service frames (R329) -/

/-- TYPE of Table 18-2. -/
def svcType : SvcBody → Nat
  | .heartbeat _ => 1
  | .cast _ => 2
  | .mailbox _ _ => 3
  | .role _ _ _ _ _ => 4
/-- The body (Table 18-3), multi-byte fields most significant byte first, mailbox words as they lie in the mailbox; a configuration record as
PARAM_ID, VALUE and commit point: DESIGN CHOICE, log entry 165. -/
def svcBytes : SvcBody → List Byte
  | .heartbeat h =>
    beBytes h.state 1 ++ beBytes (flagN h.tc 0 + flagN h.ready 1 + flagN h.full 2 + flagN h.handover 3 + flagN h.pairId 4) 1 ++
      beBytes h.live 1 ++ beBytes 0 1 ++ beBytes h.epoch.toNat 4 ++ beBytes h.fcGt.toNat 8 ++ beBytes h.digest.toNat 8
  | .cast f =>
    beBytes f.offset 4 ++ beBytes f.kind 1 ++ beBytes (laneIdx f.src) 1 ++ beBytes 0 2 ++
      (if f.kind = 4 then beBytes f.pid 4 ++ beBytes f.value.toNat 8 ++ beBytes (f.commit.getD 0).toNat 8 else f.data)
  | .mailbox m ws => beBytes m 1 ++ beBytes 0 3 ++ ((ws ++ List.replicate 16 0).take 16).flatMap (fun (w : Word) => leBytes w.toNat 4)
  | .role op kind epoch cycle dig =>
    beBytes op 1 ++ beBytes kind 1 ++ beBytes 0 2 ++ beBytes epoch.toNat 4 ++ beBytes cycle.toNat 4 ++ (dig ++ List.replicate 64 0).take 64
/-- The header of Table 18-2. -/
def svcHeader (f : SvcFrame) : List Byte :=
  beBytes (0x10 + svcType f.body) 1 ++ beBytes f.node 1 ++ beBytes f.seq.toNat 2 ++ beBytes f.gtTx.toNat 8 ++ beBytes (svcBytes f.body).length 2 ++
    beBytes 0 2
/-- The frame from the destination address to the FCS, as port i sends it. -/
def svcWire (f : SvcFrame) (i : Nat) : List Byte :=
  let b := svcHeader f ++ svcBytes f.body
  etherFrame 0x034254000002 i 0x88B6 (b ++ beBytes (crc32c b).toNat 4)
/-- Wire time of a service frame in GT units, rounded up, preamble to FCS, and of the gap after a frame. -/
def svcGt (len : Nat) : Nat := ceilDiv (max 72 (46 + len) * bytePair) 250
def svcGap : Nat := ceilDiv (12 * bytePair) 250

/-! ### When a frame starts (R331) -/

/-- The pair-slot intervals of R330 in this network cycle and the next, and the instants B + 2 µs. -/
def Dev.pairSpans (d : Dev) : List (Nat × Nat) :=
  let slots := match d.netTable with
    | none => []
    | some t => (t.slots.filter (·.pair)).flatMap (fun r => [0, 1].map (fun c =>
        let s := d.time.bellGt.toNat + r.start + c * d.tn
        (s - t.window, s + r.len)))
  slots ++ [0, 1, 2, 3].map (fun j => let h := d.fcStart - d.tf + j * d.tf + 1280; (h, h))
/-- The first instant at or after t at which a frame of wire time w ends before the next interval and the next B + 2 µs; n bounds the
intervals passed over. -/
def fitFrame (spans : List (Nat × Nat)) (w : Nat) : Nat → Nat → Nat
  | 0, t => t
  | n + 1, t =>
    match spans.find? (fun s => decide (t < s.2 ∧ s.1 < t + w)) with
    | some s => fitFrame spans w n s.2
    | none => t
/-- Place of a frame in the order of R331. -/
def svcRank : SvcBody → Nat
  | .heartbeat _ => 0
  | .role _ _ _ _ _ => 1
  | .mailbox _ _ => 1
  | .cast f => if f.kind = 2 then 2 else if f.kind = 4 then 3 else 4
/-- At most one ROLE or MAILBOX frame leaves in a network cycle (Table 18-1). -/
def Dev.mayLeave (d : Dev) (b : SvcBody) : Bool := svcRank b != 1 || d.pair.roleCyc != some d.time.cycle
/-- The frame of a queue that comes first in the order of R331, the earliest among equals. -/
def firstSvc : List (Nat × SvcBody) → Option (Nat × SvcBody)
  | [] => none
  | x :: r => match firstSvc r with
    | some y => if svcRank y.2 < svcRank x.2 then some y else some x
    | none => some x

/-! ### What a cast carries -/

def triOf {α : Type} (t : α × α × α) : Tri α := ⟨t.1, t.2.1, t.2.2⟩
def triList {α : Type} (t : Tri α) : α × α × α := (t.a, t.b, t.c)
def optItems (o : Option Nat) : List Int := match o with | some n => [1, (n : Int)] | none => [0, 0]
def itemOpt (v : Nat → Int) (i : Nat) : Option Nat := if v i = 1 then some (v (i + 1)).toNat else none
/-- The items of the safe stop block's state, its wiring apart, and the state that they stand for. -/
def StopSt.items (s : StopSt) : List Int :=
  [(s.state : Int), (s.cause : Int), (s.pset : Int), (s.gt0 : Int), (sigToNat s.v0 : Int)] ++ optItems (s.lastV.map sigToNat) ++ [(b2n s.inval : Int)] ++
    optItems s.still ++ [(b2n s.viol : Int), (b2n s.spdInv : Int), (s.grace : Int), (b2n s.ftLost : Int), (s.diffs : Int), (b2n s.disc : Int)] ++
    optItems s.both ++ [(b2n s.armed : Int)] ++ optItems s.rel ++ [(s.bits : Int), (sigToNat s.decel : Int)]
def StopSt.ofItems (s : StopSt) (l : List Int) : StopSt :=
  let v := fun i => l.getD i 0
  let n := fun i => (v i).toNat
  { state := n 0, cause := n 1, pset := n 2, gt0 := n 3, v0 := sigOfNat (n 4), lastV := (itemOpt v 5).map sigOfNat, inval := v 7 == 1,
    still := itemOpt v 8, viol := v 10 == 1, spdInv := v 11 == 1, grace := n 12, ftLost := v 13 == 1, diffs := n 14, disc := v 15 == 1,
    both := itemOpt v 16, armed := v 18 == 1, rel := itemOpt v 19, bits := n 21, decel := sigOfNat (n 22), io := s.io }
/-- The items of the DC-link blocks' state, and the state that they stand for. -/
def DclSt.items (s : DclSt) : List Int :=
  [(b2n s.f1 : Int), (b2n s.f2 : Int), (b2n s.f3 : Int), (b2n s.f4 : Int), (b2n s.f4l : Int), (b2n s.chop : Int), (b2n s.blend : Int), (s.chopN : Int),
   (s.chopK : Int), (sigToNat s.chopV : Int), (sigToNat s.vdc : Int), (s.pre : Int), (s.preAt : Int)]
def DclSt.ofItems (l : List Int) : DclSt :=
  let v := fun i => l.getD i 0
  let n := fun i => (v i).toNat
  { f1 := v 0 == 1, f2 := v 1 == 1, f3 := v 2 == 1, f4 := v 3 == 1, f4l := v 4 == 1, chop := v 5 == 1, blend := v 6 == 1, chopN := n 7, chopK := n 8,
    chopV := sigOfNat (n 9), vdc := sigOfNat (n 10), pre := n 11, preAt := n 12 }

/-- The configuration part of a lane's cast volume (R107); calibration is never cast (R260). -/
def castItems (q : LaneSt) : List CastItem :=
  (q.cfg.filter (fun c => !isCal c.pid)).map (fun c => .field c.pid c.live c.staged c.due) ++
  q.coefS.map (fun c => .coefSet c.host c.due c.rcd.loop c.rcd.bank c.rcd.stages c.rcd.sections c.rcd.words c.rcd.exps) ++
  [.mode q.seq.mode q.seq.pend] ++ q.bankL.map (fun i => .latch i true) ++
  q.rc.map (fun r => .signal r.idx (BitVec.ofNat 48 (sigToNat r.last)) (triList r.suspect) (triList r.failed) (triList r.good) r.cands) ++
  lanesAll.map (fun l => .laneMark l (q.laneS.get l)) ++ (List.range q.fcu.length).map (fun u => .unit u (q.fcu.getD u FcuSt.reset).eff) ++
  [.block 0 q.stop.items, .block 1 q.dcl.items]
/-- Bank-change latches that have cleared since. -/
def latchGone (old new : LaneSt) : List CastItem := (old.bankL.filter (fun i => !new.bankL.contains i)).map (fun i => .latch i false)
/-- The hub pair state (R337). -/
def hubItems (n : NetSt) : List CastItem :=
  n.banks.map (fun b => .bank b.key b.filling b.read b.fresh) ++
  n.rx.filterMap (fun r => r.last.map (fun x => .rxSeq r.slot x.1 x.2.1 x.2.2)) ++ [.delays n.ringL] ++
  (match n.req with | some r => [.request r.mode r.node r.seq r.switch] | none => [])

/-- Which coefficient record, and its size. -/
def coefKey (c : CoefRec) : Nat × Nat × Nat × Nat := (c.loop, c.bank, c.stages, c.sections)
/-- A lane takes an item. A live host set-point is written to its signal word with VALID set (R161). -/
def LaneSt.takeItem (q : LaneSt) (i : CastItem) : LaneSt :=
  match i with
  | .field p live staged due =>
    if isCal p then q
    else
      let host := match q.field p with | some c => c.host | none => true
      let q := q.onField p host (fun c => { c with live := live, staged := staged, due := due })
      if pidField p = 0x001 then q.setSig (pidInst p) { valSig live with st := Status.ok } else q
  | .coefSet host due loop bank stages sections words exps =>
    { q with coefS := q.coefS.filter (fun c => !(c.host == host && c.rcd.loop == loop && c.rcd.bank == bank && c.due == due)) ++
        [{ host := host, at_ := 0, due := due,
           rcd := { loop := loop, bank := bank, stages := stages, sections := sections, words := words, exps := exps } }] }
  | .coefs l =>
    if q.coef.map coefKey = l then q
    else { q with coef := l.map (fun x => { loop := x.1, bank := x.2.1, stages := x.2.2.1, sections := x.2.2.2,
                                            words := List.replicate (5 * x.2.2.2) 0, exps := List.replicate x.2.2.1 0 }) }
  | .mode cur pend => { q with seq := { q.seq with mode := cur, pend := pend } }
  | .latch loop on => { q with bankL := if on then insertNew q.bankL loop else q.bankL.filter (· != loop) }
  | .signal idx last suspect failed good cands =>
    { q with rc := q.rc.filter (fun r => r.idx != idx) ++
        [{ idx := idx, last := sigOfNat last.toNat, suspect := triOf suspect, failed := triOf failed, good := triOf good, cands := cands }] }
  | .laneMark l on => { q with laneS := q.laneS.set l on }
  | .unit u eff => { q with fcu := modAt q.fcu u (fun c => { c with eff := eff }) }
  | .block b items => if b = 0 then { q with stop := q.stop.ofItems items } else { q with dcl := DclSt.ofItems items }
  | .bank _ _ _ _ => q
  | .rxSeq _ _ _ _ => q
  | .delays _ => q
  | .request _ _ _ _ => q
/-- The hub takes an item of the pair state. -/
def NetSt.takeItem (n : NetSt) (i : CastItem) : NetSt :=
  match i with
  | .bank key filling read fresh =>
    { n with banks := n.banks.filter (fun b => b.key != key) ++ [{ key := key, filling := filling, read := read, fresh := fresh }] }
  | .rxSeq slot seq cycle tx =>
    { n with rx := n.rx.filter (fun r => r.slot != slot) ++ [{ slot := slot, last := some (seq, cycle, tx), copies := 0 }] }
  | .delays l => { n with ringL := l }
  | .request mode node seq switch =>
    { n with req := some { mode := mode, node := node, seq := seq, own := false, age := 0, job := none, switch := switch, nak := false } }
  | _ => n

/-! ### The cast volume as bytes -/

/-- Byte i of the state set lies at this lane address; and back. -/
def stateAddr : List (Nat × Nat) → Nat → Option Nat
  | [], _ => none
  | (a, len) :: r, i => if i < len then some (a + i) else stateAddr r (i - len)
def stateOff : Nat → List (Nat × Nat) → Nat → Option Nat
  | _, [], _ => none
  | off, (a, len) :: r, x => if a ≤ x ∧ x < a + len then some (off + (x - a)) else stateOff (off + len) r x
/-- Length of V_P (R337), and where the hub pair state begins. -/
def castHub (g : Img) (q : LaneSt) : Nat := castBase g q + (g.ranges.map (·.2)).sum
def castSize (g : Img) (q : LaneSt) : Nat := castHub g q + 32768
/-- Byte x of V_P. The configuration part and the hub pair state have no layout: log entry 166. -/
def castByte (g : Img) (q : LaneSt) (draw x : Nat) : Byte :=
  let c0 := 8 * g.entries.length + 8 * g.descs.length
  if x < c0 then ((leBytes ((g.entries ++ g.descs).getD (x / 8) 0).toNat 8).getD (x % 8) 0)
  else if x < castBase g q - 16384 then (q.coef.flatMap coefRecord).getD (x - c0) 0
  else if x < castBase g q then Config.castByte draw x
  else match stateAddr g.ranges (x - castBase g q) with
    | some a => memGet q.mem a
    | none => Config.castByte draw x
/-- Records of the same sizes, in order, read from the coefficient part. -/
def coefsFrom : List CoefRec → List Byte → List CoefRec
  | [], _ => []
  | r :: t, l => coefParse l :: coefsFrom t (l.drop (coefRecLen r.sections r.stages))
/-- The observers whose state blocks hold an address that has been written take the state of their block (R195). -/
def takeObs (g : Img) (addrs : List Nat) (q : LaneSt) : LaneSt :=
  (List.range 8).foldl (fun q f => match g.observer f with
    | some t => if addrs.any (fun a => decide (t.addr ≤ a ∧ a < t.addr + 64)) then
        { q with obs := modAt q.obs f (fun _ => obsOfBytes (memRead q.mem t.addr 64)) } else q
    | none => q) q
/-- Cast bytes from an offset of V_P into one lane: the coefficient memory and the state set; entries and descriptors are those of
the same image. -/
def castWrite (g : Img) (off : Nat) (data : List Byte) (q : LaneSt) : LaneSt :=
  let c0 := 8 * g.entries.length + 8 * g.descs.length
  let base := castBase g q
  let at_ := data.zip (List.range data.length |>.map (· + off))
  let inCoef := at_.filter (fun e => decide (c0 ≤ e.2 ∧ e.2 < base - 16384))
  let cells := at_.filterMap (fun e => if base ≤ e.2 then (stateAddr g.ranges (e.2 - base)).map (fun a => (a, e.1)) else none)
  let cb := inCoef.foldl (fun l e => l.set (e.2 - c0) e.1) (q.coef.flatMap coefRecord)
  takeObs g (cells.map (·.1))
    { q with mem := cells.foldl (fun m e => laneSet m e.1 e.2) q.mem, coef := if inCoef.isEmpty then q.coef else coefsFrom q.coef cb }

/-! ### Sending -/

/-- One frame of the sweep, at most 1,024 bytes of DATA; the frame that begins the configuration part or the hub pair state carries what
stands there, and the first of a half which coefficient records the volume holds. At the end of a half the marker. -/
def sweepBody (d : Dev) (g : Img) (h : CastHalf) : SvcBody :=
  let q := d.lane h.src
  let n := min 1024 (h.fin - h.off)
  let has := fun (x : Nat) => decide (h.off ≤ x ∧ x < h.off + n)
  .cast
    { offset := h.off, kind := if n = 0 then 3 else 1, src := h.src, data := (List.range n).map (fun i => castByte g q d.draws (h.off + i)),
      pid := 0, value := 0, commit := none,
      items := (if h.off = 0 || d.pair.castOut.any (fun c => c.halves.any (fun x => x.fin == h.off)) then [.coefs (q.coef.map coefKey)] else []) ++
        (if has (castBase g q - 16384) then castItems q else []) ++ (if has (castHub g q) then hubItems d.net else []) }
/-- The half whose sweep goes on: the first source's, then the second's. -/
def Dev.castHalf? (d : Dev) : Option CastHalf := d.pair.castOut.bind (fun c => c.halves.find? (fun h => !h.done))
/-- A half after its frame has gone out. -/
def CastHalf.sent (h : CastHalf) : CastHalf := if h.off < h.fin then { h with off := min h.fin (h.off + 1024) } else { h with done := true }
def CastOut.sent (c : CastOut) (l : Lane) : CastOut := { c with halves := c.halves.map (fun h => if h.src == l then h.sent else h) }

/-- The frame that goes next and its start, and whether it is of the sweep. -/
def Dev.nextSvc (d : Dev) : Option (Nat × Option (Nat × SvcBody) × SvcBody) :=
  let q := d.pair.svcq.filter (fun e => d.mayLeave e.2)
  let sweep : Option SvcBody := match d.boot.running with
    | some g => d.castHalf?.map (sweepBody d g)
    | none => none
  let pick := fun (t : Nat) => match firstSvc (q.filter (fun e => decide (e.1 ≤ t))), sweep with
    | some e, _ => some (some e, e.2)
    | none, some b => some (none, b)
    | none, none => none
  let t0 := if sweep.isSome then d.pair.svcFree else q.foldl (fun t e => min t (max e.1 d.pair.svcFree)) ((q.head?.map (fun e => max e.1 d.pair.svcFree)).getD 0)
  let start := fun (b : SvcBody) (t : Nat) => fitFrame d.pairSpans (svcGt (svcBytes b).length) 64 t
  match pick t0 with
  | none => none
  | some (_, b) => match pick (start b t0) with
    | some (e, b) => some (start b (max t0 ((e.map (·.1)).getD 0)), e, b)
    | none => none
/-- A frame goes out at GT t on both pair ports. -/
def Dev.sendSvc (d : Dev) (t : Nat) (b : SvcBody) : Dev :=
  let i := svcType b - 1
  d.onPair (fun p => { p with
    svcFree := t + svcGt (svcBytes b).length + svcGap, svcSeq := modAt p.svcSeq i (· + 1)
    svcSent := p.svcSent.filter (fun f => svcType f.body != svcType b) ++
      [{ node := d.nodeId, seq := p.svcSeq.getD i 0, gtTx := BitVec.ofNat 64 t, body := b }]
    roleCyc := if svcRank b = 1 then some d.time.cycle else p.roleCyc })
/-- What has started before GT `lim` goes out, in the order of R331. -/
def svcLoop : Nat → Nat → Dev → Dev
  | 0, _, d => d
  | n + 1, lim, d =>
    match d.nextSvc with
    | some (t, e, b) =>
      if t < lim then
        svcLoop n lim ((d.sendSvc t b).onPair (fun p => match e with
          | some x => { p with svcq := p.svcq.erase x }
          | none => { p with castOut := (p.castOut.map (fun c => match b with
              | .cast f => c.sent f.src
              | _ => c)).bind (fun c => if c.halves.all (·.done) then none else some c) }))
      else d
    | none => d
/-- The ports send what they can before GT `lim`; with no port up, what waits is lost. -/
def Dev.svcGo (d : Dev) (lim : Nat) : Dev :=
  if d.pairUp then svcLoop (d.pair.svcq.length + 1024) lim d else d.onPair (fun p => { p with svcq := [] })
/-- A service frame is handed to the ports. -/
def Dev.handSvc (d : Dev) (b : SvcBody) : Dev := (d.onPair (fun p => { p with svcq := p.svcq ++ [(d.gt, b)] })).svcGo (d.gt + 1)

/-! ### Mirrors and increments -/

/-- A CAST frame of kind 2 or 4. -/
def castBody (kind off : Nat) (src : Lane) (data : List Byte) (items : List CastItem) : SvcBody :=
  .cast { offset := off, kind := kind, src := src, data := data, pid := 0, value := 0, commit := none, items := items }
/-- The mirrors of what a source has changed in its half since the standby was told (R109, R337): state in words of 8 bytes, coefficient
records, configuration. -/
def mirrorsOf (d : Dev) (g : Img) (lo : Nat) (h : CastHalf) : List SvcBody :=
  let q := d.lane h.src
  let mine := fun (x : Nat) => decide (lo ≤ x ∧ x < h.fin)
  let cells := q.mem.filter (fun c => !h.told.mem.contains c) ++ h.told.mem.filter (fun c => !q.mem.contains c)
  let offs := ((cells.filterMap (fun c => stateOff (castBase g q) g.ranges c.1)).map (fun x => x / 8 * 8)).foldl insertNew []
  let coefs := if q.coef = h.told.coef then [] else
    (List.range ((castBase g q - 16384 - (8 * g.entries.length + 8 * g.descs.length)) / 8)).map
      (fun i => 8 * g.entries.length + 8 * g.descs.length + 8 * i)
  let conf := (castItems q).filter (fun i => !(castItems h.told).contains i) ++ latchGone h.told q
  ((coefs ++ offs).filter mine).map (fun x => castBody 2 x h.src ((List.range 8).map (fun i => castByte g q d.draws (x + i))) []) ++
    (if conf.isEmpty || !mine (castBase g q - 16384) then [] else
      [castBody 2 (castBase g q - 16384) h.src [Config.castByte d.draws (castBase g q - 16384)] conf])
/-- At a fast-cycle boundary the mirrors of the fast cycle are handed over. A source that has gone out ends the cast, which begins again at
the next bell. -/
def castMirrors (d : Dev) : Dev :=
  match d.boot.running, d.pair.castOut with
  | some g, some c =>
    if c.halves.any (fun h => !d.isLive h.src) then d.onPair (fun p => { p with castOut := none, castReq := some c.update })
    else
      let lo := fun (h : CastHalf) => match c.halves with
        | x :: _ => if x.src == h.src then 0 else x.fin
        | [] => 0
      let ms := c.halves.flatMap (fun h => mirrorsOf d g (lo h) h)
      d.onPair (fun p => { p with
        svcq := p.svcq ++ ms.map (fun m => (d.gt, m)),
        castOut := some { c with halves := c.halves.map (fun h => { h with told := d.lane h.src }) } })
  | _, _ => d
/-- The standby is one that the active keeps in step (R339). -/
def Dev.partnerKept (d : Dev) : Bool := d.partnerIs .probation || d.partnerIs .inStep || d.partnerIs .detached
/-- At a bell the changes of the hub pair state in that cycle (R339). -/
def hubIncrement (d : Dev) : Dev :=
  match d.boot.running with
  | some g =>
    if d.isActive && d.pairUp && (d.partnerKept || d.pair.castOut.isSome) then
      let now := hubItems d.net
      let new := now.filter (fun i => !d.pair.hubTold.contains i)
      let q := d.lane d.lowLane
      let d := d.onPair (fun p => { p with hubTold := now })
      if new.isEmpty then d else d.handSvc (castBody 2 (castHub g q) d.lowLane [Config.castByte d.draws (castHub g q)] new)
    else d
  | none => d
/-- A cast that was asked for starts at a bell (R337, R338): a full cast over V_P, an update cast over the state set with the host-owned
configuration records. -/
def castStart (d : Dev) : Dev :=
  match d.boot.running, d.pair.castReq, d.liveLanes with
  | some g, some u, x :: y :: _ =>
    let q := d.lane x
    let lo := if u then castBase g q else 0
    let hi := if u then castHub g q else castSize g q
    let mid := lo + (hi - lo) / 16 * 8
    let d := d.onPair (fun p => { p with
      castReq := none, svcFree := max p.svcFree d.gt
      castOut := some { update := u, halves :=
        [{ src := x, off := lo, fin := mid, done := false, told := q }, { src := y, off := mid, fin := hi, done := false, told := d.lane y }] } })
    if u then (q.cfg.filter (fun c => c.host && !isCal c.pid)).foldl (fun d c =>
      d.handSvc (.cast { offset := castBase g q - 16384, kind := 4, src := x, data := [], pid := c.pid, value := c.live, commit := none,
                         items := [.field c.pid c.live c.staged c.due] })) d
    else d
  | _, _, _ => d

/-! ### Receiving (R328) -/

/-- A service frame of a TYPE: one that is not valid is discarded, and so is a later copy with the same SEQ. -/
def Dev.svcIn (d : Dev) (type : Nat) (n : SvcIn) (f : Dev → Dev) : Dev :=
  if !d.pairUp || !n.ok || (d.pair.svcRx.getD (type - 1) none == some n.seq) then d
  else f (d.onPair (fun p => { p with svcRx := modAt p.svcRx (type - 1) (fun _ => some n.seq) }))

end Sys2Proof.Machine
end

