-- ==== Sys2Proof/Machine/Pair.lean ====
section
/-! DEFINITION. Operating as a pair: roles (R332 to R335), heartbeats and output digests (R336), casts (R337 to R339), takeover
(R340, R341), handover (R342), dual active (R343), swaps (R344, R345). Times in GT units. -/

namespace Sys2Proof.Machine
open Sys2Proof

/-! ### Roles -/

/-- A role to be taken at the boundary with GT g. -/
def Dev.roleAt (d : Dev) (r : Role) (g : Nat) : Dev := d.onPair (fun p => { p with next := some (r, BitVec.ofNat 64 g) })
def Dev.roleNext (d : Dev) (r : Role) : Dev := d.roleAt r d.nextFc
/-- Roles in which a standby is takeover-capable (Table 18-4). -/
def tcRole (r : Role) : Bool := r == .inStep || r == .detached

/-- READY (R334). -/
def Dev.ready (d : Dev) : Bool :=
  d.pair.role == .inStep && d.liveCount == 3 && d.vot.cast.isNone && d.vot.rot.isNone
/-- Takeover-capable from the second fast cycle after the first HEARTBEAT with TC set. -/
def Dev.tcNow (d : Dev) : Bool :=
  tcRole d.pair.role && (match d.pair.tcAt with | some t => decide (t + 2 * d.tf ≤ d.fcStart) | none => false)
def Dev.partnerFull (d : Dev) : Bool := match d.pair.partner with | some h => h.full | none => false
def Dev.partnerReady (d : Dev) : Bool := match d.pair.partner with | some h => h.ready | none => false

/-- A ROLE frame is handed to the ports (Table 18-3): OP 1 propose, 2 accept, 3 refuse, 4 cast request. -/
def Dev.sendRole (d : Dev) (op kind : Nat) (cycle : BitVec 32) : Dev :=
  (d.onPair (fun p => { p with sentRole := some (op, kind, cycle) })).handSvc (.role op kind d.pair.epoch cycle d.img.digest)

/-- The pending swap is abandoned; the active counts it, and its job ends with ERR_ABORTED 0x06 (R344, R401). -/
def Dev.dropSwap (d : Dev) : Dev :=
  match d.pair.swap with
  | none => d
  | some (_, _, _, j) => ((d.onPair (fun p => { p with swap := none })).countIf (d.pair.role == .active) (cNet 6)).endJob? j 0x19 6

/-- The role changes now (a boundary): record 0x24, event class 3. Leaving ACTIVE holds every gate off (R333). A role that is cast
stops its lanes (R337), and what the image does not declare as state is left behind (log entry 126). -/
def Dev.takeRole (d : Dev) (r : Role) : Dev :=
  let old := d.pair.role
  if old = r then d.onPair (fun p => { p with next := none })
  else
    let tc := fun (p : PairSt) => if tcRole r then p.tcAt else none
    let d := d.onPair (fun p => { p with role := r, next := none, tcAt := tc p, matches_ := 0, noDig := 0, silent := 0 })
    let d := if old == .active then (List.range 20).foldl (fun d n => d.hbOff n) d else d
    let d := if r == .casting then
        (d.onLanes (fun q => if q.seq.phase == .live || q.seq.phase == .probation then
          { q with mem := [], seq := { q.seq with phase := .idle, busy := [], late := [], last := none } } else q)).onPair
            (fun p => { p with castIn := [], castInGt := 0 })
      else d
    (d.note 0x24 old.code r.code d.pair.epoch.toNat 0).event 3 (BitVec.ofNat 32 r.code)

/-- A standby steps up (R340, R344): EPOCH grows by one. -/
def Dev.stepUp (d : Dev) : Dev := d.onPair (fun p => { p with epoch := p.epoch + 1 })

/-- Go to CASTING and ask for a cast. -/
def Dev.askCast (d : Dev) : Dev := (d.roleNext .casting).sendRole 4 0 0

/-! ### Heartbeats -/

/-- PAIR_HEARTBEAT_SEND (R336, R342): at B + 2 µs. In CASTING the digest is zero; else a device whose digest for B is not released
sends none. -/
def execPairHeartbeatSend (s : State) : Host.Outcome State Fault Refusal :=
  s.onDev (fun d =>
    let b := d.fcStart
    let r := d.pair.hubRole
    let dig : Option (BitVec 64) := if r == .casting then some 0 else match d.pair.ownDig with
      | some (g, x) => if g.toNat = b then some x else none
      | none => none
    match dig with
    | none => d
    | some x =>
      if !d.pairUp then d
      else
        let d := (d.toGt (b + 1280)).svcGo (b + 1280)
        let ho := r == .active && !d.full && d.partnerIs .inStep && d.partnerFull && d.pair.handover.isNone
        let h : Heartbeat :=
          { state := r.code, tc := tcRole r, ready := d.ready, full := d.full, handover := ho, pairId := d.pair.pairId,
            live := laneMask d.liveLanes, epoch := d.pair.epoch, fcGt := BitVec.ofNat 64 b, digest := x }
        let d := (d.sendSvc d.gt (.heartbeat h)).onPair (fun p => { p with
          sentHb := some h
          tcAt := if tcRole r then some (p.tcAt.getD b) else none })
        if ho then ((d.dropSwap.roleAt .inStep (b + 2 * d.tf)).onPair (fun p => { p with handover := some (BitVec.ofNat 64 (b + 2 * d.tf)) }))
        else d)

/-- The transitions that a heartbeat of the partner causes (Table 18-5). -/
def heartbeatRole (d : Dev) (h : Heartbeat) (img : ImgMatch) : Dev :=
  match d.pair.hubRole with
  | .init =>
    if h.state = 1 then (if img = .other then (d.count (cNet 7) 1).sendRole 4 0 0 else d.askCast)
    else if h.state = 0 && !d.pair.pairId then d.roleNext .active else d
  | .active =>
    if h.state = 1 then
      let d := (d.count (cNet 8) 1).onPair (fun p => { p with dual := true })
      if decide (d.pair.epoch.toNat < h.epoch.toNat) || (h.epoch == d.pair.epoch && d.pair.pairId) then d.dropSwap.askCast else d
    else d
  | .inStep => if h.state = 1 && h.handover then d.dropSwap.roleAt .active (h.fcGt.toNat + 2 * d.tf) else d
  | .detached => if h.state = 1 && h.handover then d.dropSwap.roleAt .active (h.fcGt.toNat + 2 * d.tf) else d
  | _ => d

/-- PAIR_HEARTBEAT_RECEIVED (R336, R343): the partner's state and digest are recorded; a standby keeps the active's EPOCH, and holds whether a
cast from it is an update cast (R338). -/
def execPairHeartbeatReceived (n : SvcIn) (hb : Heartbeat) (img : ImgMatch) (s : State) : Host.Outcome State Fault Refusal :=
  s.onDev (fun d => d.svcIn 1 n (fun d =>
      let now := d.clk
      let act := hb.state == 1
      let d := d.onPair (fun p => { p with
        partner := some hb, seen := true
        update := if act then img == .state else p.update
        lastHb := if act then now else p.lastHb
        epoch := if act && p.hubRole != .active then hb.epoch else p.epoch
        seenTc := if hb.tc then some (p.seenTc.getD hb.fcGt.toNat) else none })
      heartbeatRole d hb img))

/-- The partner's heartbeat for boundary b. -/
def Dev.hbFor (d : Dev) (b : Nat) : Option Heartbeat :=
  match d.pair.partner with
  | some h => if h.fcGt.toNat = b then some h else none
  | none => none
def Dev.ownFor (d : Dev) (b : Nat) : Option (BitVec 64) :=
  match d.pair.ownDig with
  | some (g, x) => if g.toNat = b then some x else none
  | none => none

/-- A disagreement (R336): counted and recorded by both; the standby is recast, or FAULTY at the third within 600 s. -/
def disagree (d : Dev) (own : BitVec 64) : Dev :=
  let r := d.pair.hubRole
  let d := ((d.count (cNet 10) 1).fault 0x16 0 0 r.code own.toNat).onPair (fun p => { p with mismatch := satInc 255 p.mismatch })
  if r == .active then d
  else
    let now := d.gt
    let recent := d.pair.disagree.filter (fun t => decide (now ≤ t.toNat + 384000000000))
    let d := d.onPair (fun p => { p with disagree := recent ++ [BitVec.ofNat 64 now] })
    if 3 ≤ d.pair.disagree.length then d.roleNext .faulty else d.askCast

/-- The digests of boundary b are compared, or the fast cycle counts as not compared (R336). -/
def compareDigests (d : Dev) (b : Nat) : Dev :=
  let r := d.pair.hubRole
  let due := if r == .active then d.partnerIs .probation || d.partnerIs .inStep else r == .probation || r == .inStep
  if !due then d
  else match d.ownFor b, d.hbFor b with
    | some x, some h =>
      if h.digest = x then
        let d := d.onPair (fun p => { p with matches_ := p.matches_ + 1 })
        if r == .probation && decide (2 ≤ d.pair.matches_) then d.roleNext .inStep else d
      else disagree d x
    | _, _ => (d.count (cNet 9) 1).onPair (fun p => { p with matches_ := 0 })

/-- A takeover (R340): ACTIVE at the next boundary, EPOCH + 1, counted and journalled; a pending swap is abandoned. -/
def takeOver (d : Dev) : Dev :=
  let d := ((d.dropSwap.stepUp.roleNext .active).count (cNet 4) 1).onPair (fun p => { p with takeovers := satInc 255 p.takeovers })
  d.note 0x23 0 0 d.pair.epoch.toNat 0

/-- HEARTBEAT_DEADLINE (R336, R340): at B + T_F/2. -/
def execHeartbeatDeadline (s : State) : Host.Outcome State Fault Refusal :=
  s.onDev (fun d =>
    if !d.paired || !d.hubUp then d
    else
      let b := d.fcStart
      let d := compareDigests (d.toGt (b + d.tf / 2)) b
      let got := match d.hbFor b with | some h => h.state == 1 | none => false
      let r := d.pair.hubRole
      if r == .active then d
      else
        let d := d.onPair (fun p => { p with silent := if got then 0 else p.silent + 1, noDig := if got then 0 else p.noDig + 1 })
        let d := if r == .inStep && decide (2 ≤ d.pair.noDig) then d.roleNext .detached else d
        let ring := match d.pair.ringTx with | some t => decide (b - d.tf ≤ t.toNat) | none => false
        if d.tcNow && decide (2 ≤ d.pair.silent) && !ring && tcRole d.pair.hubRole then takeOver d else d)

/-- INIT_PARTNER_TIMEOUT (Table 18-5): 4 T_N + PAIR_ID level × 2 T_N after release without a valid heartbeat. -/
def execInitPartnerTimeout (s : State) : Host.Outcome State Fault Refusal :=
  s.onDev (fun d =>
    if d.paired && d.boot.released && d.pair.hubRole == .init && d.pair.partner.isNone then
      let d := d.toClk (d.pair.relClk + (if d.pair.pairId then 6 else 4) * d.tn)
      d.roleNext .active
    else d)

/-- CASTING_TIMEOUT (Table 18-5): no active heartbeat for 2 T_N. -/
def execCastingTimeout (s : State) : Host.Outcome State Fault Refusal :=
  s.onDev (fun d =>
    if d.paired && d.pair.hubRole == .casting then
      ((d.toClk (d.pair.lastHb + 2 * d.tn)).roleNext .init).onPair (fun p => { p with castIn := [], partner := none })
    else d)

/-- DETACH (Table 18-5): the active digest was not received in 2 fast cycles. -/
def execDetach (s : State) : Host.Outcome State Fault Refusal :=
  s.onDev (fun d =>
    if d.paired && d.pair.hubRole == .inStep then
      (d.roleNext .detached).onPair (fun p => { p with noDig := max 2 p.noDig })
    else d)

/-- PAIR_LINK_UP (Table 18-5): a DETACHED standby with the same image asks for a cast. -/
def execPairLinkUp (port1 : Bool) (s : State) : Host.Outcome State Fault Refusal :=
  s.onDev (fun d =>
    if !d.hubUp then d
    else
      let d := (d.onTime (fun t => { t with serdesBad := false })).onPair (fun p => if port1 then { p with up1 := true } else { p with up0 := true })
      if d.paired && d.pair.hubRole == .detached && !d.pair.update then d.askCast else d)

/-! ### Casts -/

/-- CAST_REQUEST (R338): an ACTIVE device answers with a full cast, an update cast or none. -/
def execCastRequest (n : SvcIn) (ask : CastAsk) (s : State) : Host.Outcome State Fault Refusal :=
  s.onDev (fun d => d.svcIn 4 n (fun d =>
    match d.boot.running with
    | none => d
    | some g =>
      if d.pair.hubRole != .active || d.pair.castReq.isSome || d.pair.castOut.isSome then d
      else if ask.digest == g.digest then d.onPair (fun p => { p with castReq := some false })
      else if ask.sameState then d.onPair (fun p => { p with castReq := some true })
      else d.count (cNet 7) 1))

/-- A configuration record of an incremental cast: staged, and with its commit point when it has one (R335, R339). -/
def castRecord (f : CastFrame) (q : LaneSt) : LaneSt :=
  let host := match q.field f.pid with | some c => c.host | none => true
  let q := q.stage f.pid host f.value
  match f.commit with | some g => q.assign f.pid g | none => q
/-- What a frame of a cast in progress brings to a lane: bytes and items, for a record that of the image (R338). -/
def castTake (g : Img) (f : CastFrame) (q : LaneSt) : LaneSt :=
  if f.kind = 4 then (if instOk g (pidField f.pid) (pidInst f.pid) then f.items.foldl LaneSt.takeItem q else q)
  else castWrite g f.offset f.data (f.items.foldl LaneSt.takeItem q)

/-- CAST_FRAME_RECEIVED (R337, R339): delivered to all lanes of the standby as one copy; the hub takes its pair state. -/
def execCastFrameReceived (n : SvcIn) (f : CastFrame) (s : State) : Host.Outcome State Fault Refusal :=
  s.onDev (fun d => d.svcIn 2 n (fun d =>
    match d.boot.running with
    | none => d
    | some g =>
      let r := d.pair.hubRole
      if r == .casting then
        (if f.kind = 3 then d.onPair (fun p => { p with castIn := insertNew p.castIn f.src, castInGt := BitVec.ofNat 64 d.gt })
         else if f.kind = 1 ∨ f.kind = 2 ∨ f.kind = 4 then
           (d.onLanes (castTake g f)).onNet (fun n => f.items.foldl NetSt.takeItem n)
         else d)
      else if r == .probation || r == .inStep || r == .detached then
        (if f.kind = 4 then d.onLanes (castRecord f)
         else if f.kind = 2 then d.onNet (fun n => f.items.foldl NetSt.takeItem n)
         else d)
      else d))

/-! ### Swaps -/

/-- The CYCLE of the first bell at least 4 T_N ahead (R344). -/
def swapCycle (d : Dev) : BitVec 32 := d.time.cycle + BitVec.ofNat 32 (4 + ceilDiv (d.gt - d.time.bellGt.toNat) (max 1 d.tn))
/-- The active proposes a swap of a kind, for a job or its own. -/
def proposeSwap (d : Dev) (kind : Nat) (job : Option Nat) : Dev :=
  let c := swapCycle d
  (d.sendRole 1 kind c).onPair (fun p => { p with swap := some (kind, c, false, job) })

/-- SWAP_PROPOSE (R344): the standby accepts when IN_STEP, or for an update when DETACHED after an update cast. -/
def execSwapPropose (n : SvcIn) (kind : Nat) (cycle : BitVec 32) (s : State) : Host.Outcome State Fault Refusal :=
  s.onDev (fun d => d.svcIn 4 n (fun d =>
    if d.pair.hubRole == .active then d
    else if (if kind = 1 then d.pair.hubRole == .detached && d.pair.update else d.pair.hubRole == .inStep) then
      (d.sendRole 2 kind cycle).onPair (fun p => { p with swap := some (kind, cycle, true, none) })
    else d.sendRole 3 kind cycle))
/-- SWAP_ACCEPT (R344). -/
def execSwapAccept (n : SvcIn) (s : State) : Host.Outcome State Fault Refusal :=
  s.onDev (fun d => d.svcIn 4 n (fun d =>
    match d.pair.swap with
    | some (k, c, _, j) =>
      if d.pair.hubRole == .active then d.onPair (fun p => { p with swap := some (k, c, true, j), accGt := d.gt }) else d
    | none => d))
/-- SWAP_REFUSE (R344): the swap is abandoned. -/
def execSwapRefuse (n : SvcIn) (s : State) : Host.Outcome State Fault Refusal :=
  s.onDev (fun d => d.svcIn 4 n (fun d => if d.pair.hubRole == .active then d.dropSwap else d))
/-- AUTO_SWAP_EXPIRY (R345): AUTO_SWAP seconds since the last swap or release, with the partner READY. -/
def execAutoSwapExpiry (s : State) : Host.Outcome State Fault Refusal :=
  s.onDev (fun d =>
    let a := sigVal (valSig (d.nextVal 0x0B5))
    if d.pairUp && d.pair.hubRole == .active && d.partnerReady && d.pair.swap.isNone && dyLt (dyInt 0) a then
      proposeSwap (d.toGt (d.pair.lastSwap + (dyFloor (dyMul a (dyInt 640000000))).toNat)) 0 none
    else d)

/-- The swap bell (R344). -/
def swapBell (d : Dev) : Dev :=
  match d.pair.swap with
  | none => d
  | some (kind, c, acc, job) =>
    if c != d.time.cycle then d
    else
      let standby : Role := if kind = 1 then .detached else .inStep
      if d.pair.role == .active then
        if acc && decide (d.pair.accGt + 2 * d.tf ≤ d.gt) && d.partnerIs standby && d.pair.next.isNone then
          (((d.onPair (fun p => { p with swap := none, lastSwap := d.gt })).takeRole standby).count (cNet 5) 1).endJob? job 0 0
        else d.dropSwap
      else if acc && d.pair.role == standby && d.pair.next.isNone then
        ((d.onPair (fun p => { p with swap := none, lastSwap := d.gt })).stepUp.takeRole .active).count (cNet 5) 1
      else d.dropSwap

/-- The bell's cast work: an asked cast starts at the first bell (R337); a received one is applied at the first bell at least T_F
after both markers; the changes of the hub pair state go out (R339); lanes that a cast had stopped dispatch again. -/
def pairBell (d : Dev) : Dev :=
  if !d.paired then d
  else
    let d := swapBell d
    let d := if d.isActive then castStart d else d.onPair (fun p => { p with castReq := none, castOut := none })
    let d := (hubIncrement d).svcGo (d.gt + 1)
    let done := d.pair.role == .casting && decide (2 ≤ d.pair.castIn.length) && decide (d.pair.castInGt.toNat + d.tf ≤ d.gt)
    let wake := fun (q : LaneSt) => if q.seq.phase == .idle then
        { q with seq := { q.seq with phase := .live, ptr := 0, last := none, busy := [] } } else q
    if done then
      let d := d.onVot (fun v => { v with groups := v.groups.map (fun g => { g with silent := false, held := none }), outSeen := [] })
      ((d.onLanes wake).takeRole (if d.pair.update then .detached else .probation)).onPair (fun p => { p with castIn := [] })
    else if d.pair.role != .casting && d.boot.released then d.onLanes wake else d

/-- At a fast-cycle boundary at GT b: a role whose boundary has come becomes live; a hubless standby steps up on SEL (R341). -/
def pairBoundary (d : Dev) (b : Nat) : Dev :=
  if !d.paired then d
  else
    let d := match d.pair.next with
      | some (r, g) => if g.toNat ≤ b then
          (d.takeRole r).onPair (fun p => { p with handover := none })
        else d
      | none => d
    let d := if d.hubUp then d.onPair (fun p => { p with selRuns := 0 })
      else d.onPair (fun p => { p with selRuns := if (d.link 0).latched.sel then p.selRuns + 1 else 0 })
    let d := if !d.hubUp && tcRole d.pair.role && decide (2 ≤ d.pair.selRuns) then d.takeRole .active else d
    ((castMirrors d).svcGo (d.gt + 1)).onPair (fun p => { p with rankFirst := p.role == .active })

/-- The pair status word (Table 18-9). -/
def Dev.pairWord (d : Dev) : Nat :=
  let p := d.pair
  p.role.code * 2 ^ 28 + flagN d.tcNow 27 + flagN d.ready 26 + flagN d.full 25 + flagN p.seen 24 +
    ((p.partner.map (·.state)).getD 0) * 2 ^ 20 + flagN p.up0 19 + flagN p.up1 18 + flagN p.dual 17 + p.mismatch * 2 ^ 8 + p.takeovers

end Sys2Proof.Machine
end

