-- ==== Sys2Proof/Machine/Clock.lean ====
section
/-! DEFINITION. Loss of a reference (Table 2-6): the lanes' strobe capture and clock monitors (R42, R45, R86), the loss of the hub
(R16, R18, R341, R446), of the serdes references and of ACLK; the temperature words (R478) and excitation faults (R188). -/

namespace Sys2Proof.Machine
open Sys2Proof

/-- Guard rate ρ_G in ppm (R86): ±200 ppm before an image is loaded. -/
def Dev.guardPpm (d : Dev) : Nat := match d.boot.running with | some g => 100 + g.rateLimit | none => 200
/-- A lane's clock monitor takes it out with cause 0x7; the row of Table 2-6 goes into the journal. A lane that is not yet released stays
out (R45). -/
def clockOut (d : Dev) (l : Lane) (row : Nat) : Dev :=
  ((d.fault 0x15 row (laneIdx l) 0 0).onSeq l (fun q => { q with clkBad := true })).takeOut l 7 0 0

/-- The replica after a capture at lane clock n, the hub's count being `raw`: in phase but for the common part and its own, and in rate. -/
def SeqSt.captured (q : SeqSt) (n raw : Nat) (corr common own drift : Int) : SeqSt :=
  { q with rep := ((raw : Int) + common + own).toNat, repClk := n, corr := corr, dev := common + own, devAt := raw, drift := drift,
           noStrobe := 0, freeRun := false }
/-- STROBE_CAPTURE (R42): the replica is corrected in phase and rate; what is left of the deviation is open within the bounds of
Table 2-5. A lane that needs a rate beyond ±ρ_G is taken out (R45). -/
def execStrobeCapture (l : Lane) (corr : Int) (s : State) : Host.Outcome State Fault Refusal :=
  s.onDev (fun d =>
    if !d.hubUp then d
    else if d.guardPpm * 2 ^ 32 < corr.natAbs * 1000000 then clockOut d l 2
    else
      let own : Int := (Config.replicaRest d.draws).val
      let drift : Int := (Config.replicaDrift d.draws).val
      { d.onSeq l (fun q => q.captured (d.laneClk l) d.time.raw corr d.time.strobeErr (own - 4123168604) (drift - 10737)) with
        draws := d.draws + 1 })

/-- LANE_CLOCK_FAULT (R45): the lane crystal stopped or its PLL unlocked, or LCLK is beyond ±5 % against ACLK, which the monitors do not
compare with once ACLK is faulty. -/
def execLaneClockFault (l : Lane) (byAclk : Bool) (s : State) : Host.Outcome State Fault Refusal :=
  s.onDev (fun d => if byAclk && d.time.aclkBad then d else clockOut d l (if byAclk then 2 else 1))

/-! ### The hub -/

/-- The hub is lost: its management and network logic is held in reset until the next POR_N release (R446). The lanes keep the
last network values and the partner state that was delivered last (R18, R341); queued records are lost with it (R18). -/
def loseHub (d : Dev) : Dev :=
  if d.pwr.hubLost then d
  else
    { d with
      pwr := { d.pwr with hubLost := true, jobs := [] }
      net := { NetSt.reset with banks := d.net.banks.map (fun b => { b with filling := none, fresh := false }), req := none }
      can := d.can.map (fun c => { CanSt.reset with lanes := c.lanes.map (fun r => { r with filling := none }), laneOwn := c.laneOwn })
      jr := { d.jr with queue := [] }
      mgmt := { d.mgmt with jobs := [], deliver := [], restart := none }
      host := { d.host with replies := [], events := [] }
      pair := { d.pair with up0 := false, up1 := false, next := none, castOut := none, castReq := none, swap := none, relay := none,
                            svcq := [] }
      vot := { d.vot with groups := d.vot.groups.map (fun g =>
        if groupPlace g.g == .frame then { g with flight := Tri.all [], queue := Tri.all [] } else g) } }

/-- HUB_FAULT (R16, R34, R103): a lockstep mismatch of the hub or of its frame voter, whose payload is not sent, or a write to a full
hub → lane queue. -/
def execHubFault (cause : HubCause) (s : State) : Host.Outcome State Fault Refusal :=
  match cause with
  | .lockstep => s.onDev loseHub
  | .frameVoter => s.onDev loseHub
  | .laneQueue => s.onDev loseHub
/-- HUB_CLOCK_FAULT (R45): a hub fault; no record of it outlives the hub. -/
def execHubClockFault (s : State) : Host.Outcome State Fault Refusal := s.onDev (fun d => loseHub (d.fault 0x15 4 0xFFFF 0 0))

/-- Two boundaries without a strobe (R45): each lane concerned holds its last rate and free-runs. When that is all of them, an ACTIVE
device whose partner showed IN_STEP and FULL becomes YIELDED at the boundary after detection, at GT g (R341). -/
def strobeLoss (d : Dev) (g : Nat) : Dev :=
  let was := d.hubLoss && lanesAll.all (fun l => (d.lane l).seq.freeRun)
  let d := d.onLanes (fun q => if 2 ≤ q.seq.noStrobe then { q with seq := { q.seq with freeRun := true } } else q)
  if d.hubLoss && !was && d.paired && d.pair.role == .active && d.partnerIs .inStep && d.partnerFull then d.roleAt .yielded g else d
/-- NO_HUB_STROBE (R45): no lane has had a strobe at the last two boundaries. -/
def execNoHubStrobe (s : State) : Host.Outcome State Fault Refusal :=
  s.onDev (fun d =>
    strobeLoss (d.onLanes (fun q => { q with seq := { q.seq with noStrobe := max 2 q.seq.noStrobe } })) d.nextFc)

/-! ### The serdes reference and ACLK -/

/-- SERDES_UNLOCK (R45): RING_E, RING_W, PAIR0 and PAIR1 are down and reported; GT and the lanes continue. -/
def execSerdesUnlock (s : State) : Host.Outcome State Fault Refusal :=
  s.onDev (fun d =>
    if !d.hubUp then d
    else
      let dn := fun (p : RingPort) => { p with up := false, down := true, clean := 0 }
      let d := (d.onTime (fun t => { t with serdesBad := true })).fault 0x15 7 0xFFFF 0 0
      let d := (d.onNet (fun n => { n with east := dn n.east, west := dn n.west })).onPair (fun p => { p with up0 := false, up1 := false })
      if d.time.run || d.standalone then d else wrapPort (wrapPort d true) false)
/-- ACLK_FAULT (R45): the AON clock fault is reported; the clock monitors take the hub strobe as reference. -/
def execAclkFault (s : State) : Host.Outcome State Fault Refusal :=
  s.onDev (fun d => if d.hubUp then (d.onTime (fun t => { t with aclkBad := true })).fault 0x15 8 0xFFFF 0 0 else d)

/-! ### Temperature and excitation -/

/-- TEMPERATURE_READ (R478): HOT sets above 150 °C with a record and clears below 145 °C. -/
def execTemperatureRead (t : List Int) (s : State) : Host.Outcome State Fault Refusal :=
  s.onDev (fun d =>
    if !d.hubUp || t.length != 6 then d
    else
      noteDegraded <| (List.range 6).foldl (fun d i =>
        let v := t.getD i 0
        let was := d.mgmt.hot.contains i
        if v < 145 * 8 then d.onMgmt (fun m => { m with hot := m.hot.filter (· != i) })
        else if 150 * 8 < v && !was then
          (d.onMgmt (fun m => { m with hot := insertNew m.hot i })).fault 0x1D i 0 0 (toField v 64)
        else d) (d.onMgmt (fun m => { m with temps := t })))

/-- EXCITATION_FAULT (R188): the drive die finds the output faulty, or, `on` false, no longer so, and reports it in the next protection
word. -/
def execExcitationFault (amp : Nat) (on : Bool) (s : State) : Host.Outcome State Fault Refusal :=
  s.onDev (fun d =>
    if amp < 2 then d.onGd (fun g => { g with exc := if on then insertNew g.exc amp else g.exc.filter (· != amp) }) else d)

end Sys2Proof.Machine
end

