-- ==== Sys2Proof/Machine/EdgeLink.lean ====
section
/-! DEFINITION. The edge links: frames the device sends and their order (R238 to R240), the delay measurement (R244), STATUS
frames (R245, R248, R249), and the serialiser's clock (R251). -/

namespace Sys2Proof.Machine
open Sys2Proof

/-- SILENT of a link: its channels whose unit has a silent edge group (R238, Table 5-1). -/
def Dev.silentMask (d : Dev) (k : Nat) : Nat :=
  ((List.range 12).map (fun c => flagN (d.unitSilent (unitOfEdge (12 * k + c))) c)).sum
/-- The EDGEn_TX outputs are high-impedance: no supply, or the device in reset (R250, R450). -/
def Dev.edgeHiZ (d : Dev) : Bool := !d.drives 11
/-- The link sends: it is driven and not every channel is silent (R250). -/
def Dev.linkSends (d : Dev) (k : Nat) : Bool := !d.edgeHiZ && d.silentMask k != 4095

/-- EDGE_HEARTBEAT_DUE (R238): at every GT multiple of 3,200 units, while GT runs. -/
def execEdgeHeartbeatDue (s : State) : Host.Outcome State Fault Refusal :=
  s.onDev (fun d =>
    if !d.time.run || d.edgeHiZ then d
    else
      let next := max ((d.link 0).hbNext) (ceilDiv d.gt 3200 * 3200)
      let d := d.toGt next
      { d with edge := d.edge.map (fun x => { x with hbDue := true, hbNext := next + 3200 }) })

/-- Events in order of TIME, which leaves the fine field out; ties in release order. -/
def insertEv (e : EdgeEv) : List EdgeEv → List EdgeEv
  | [] => [e]
  | x :: r => if x.t / 8 ≤ e.t / 8 then x :: insertEv e r else e :: x :: r
def sortEvs (l : List EdgeEv) : List EdgeEv := l.foldl (fun acc e => insertEv e acc) []

/-- An event field (Table 13-2). -/
def evBytes (e : EdgeEv) : List Byte :=
  beBytes (e.t / 8 % 2 ^ 24 * 2 ^ 16 + e.t % 8 * 2 ^ 13 + flagN e.ev 12 + e.ch % 16 * 2 ^ 8 + e.leg % 4) 5
/-- ROLE and the other flags of a HEARTBEAT (Table 13-3). -/
def hbFlags (active inStep pairId : Bool) : Nat := (if active then 1 else 2) * 2 ^ 6 + flagN (inStep && !active) 5 + flagN pairId 4
/-- Bytes 0 to m of a frame (Table 13-1), the most significant byte of a field first. -/
def EdgeFrame.body : EdgeFrame → List Byte
  | .event es => beBytes 1 1 ++ beBytes es.length 1 ++ es.flatMap evBytes
  | .sync gt fine delay => beBytes 2 1 ++ beBytes gt.toNat 4 ++ beBytes (fine % 8 * 32) 1 ++ beBytes delay 2
  | .heartbeat active inStep pairId seq silent => beBytes 3 1 ++ beBytes (hbFlags active inStep pairId) 1 ++ beBytes seq 1 ++ beBytes (silent % 4096) 2
  | .command mask => beBytes 4 1 ++ beBytes 1 1 ++ beBytes (mask % 4096) 2
/-- What stands between K27.7 and K29.7: the bytes and their CRC-16 (R237). -/
def EdgeFrame.wire (f : EdgeFrame) : List Byte := f.body ++ beBytes (crc16 f.body).toNat 2
/-- A frame leaves; the last 16 are kept, newest first. -/
def LinkSt.send (x : LinkSt) (f : EdgeFrame) : LinkSt := { x with sent := (f.wire :: x.sent).take 16 }

/-- Events that may be sent at fine time t: a repeat waits for its time (R182). -/
def LinkSt.ready (x : LinkSt) (t : Nat) : List EdgeEv := sortEvs (x.evq.filter (fun e => match e.rep with | some u => decide (u ≤ t) | none => true))
/-- EDGE_LINK_IDLE (R240): a due HEARTBEAT, a due SYNC, EVENT frames, COMMAND frames, in that order. -/
def execEdgeLinkIdle (link : Nat) (s : State) : Host.Outcome State Fault Refusal :=
  s.onDev (fun d =>
    if !d.linkSends link then d
    else
      let d := d.pass (16 * (d.link link).guard)
      let d := d.onLink link (fun x => { x with guard := 0 })
      let x := d.link link
      if x.hbDue then
        let f := EdgeFrame.heartbeat (!d.paired || d.isActive) (d.pair.role == .inStep) d.pair.pairId x.hbSeq (d.silentMask link)
        d.onLink link (fun x => { x with hbDue := false, hbSeq := (x.hbSeq + 1) % 256 }.send f)
      else if x.syncDue then
        let f := EdgeFrame.sync (BitVec.ofNat 32 d.gt) (d.fineNow % 8) x.delay
        d.onLink link (fun x => { x with syncDue := false, t1 := some d.fineNow, sentDelay := x.delay }.send f)
      else if !(x.ready d.fineNow).isEmpty then
        let es := (x.ready d.fineNow).take 24
        d.onLink link (fun x => { x with evq := x.evq.filter (fun e => !es.contains e) }.send (.event es))
      else match x.cmdq with
        | m :: r => d.onLink link (fun x => { x with cmdq := r }.send (.command m))
        | [] => d)

/-- DELAY in fine units (R244): the average of 8 measurements, or none. -/
def delayOf (meas : List Int) : Nat :=
  if meas.length < 8 then 0xFFFF else (toField ((2 * meas.sum + 8) / 16) 16)

/-- The fields of a STATUS frame that the device takes (Table 13-4). -/
structure StatusFrame where
  sel   : Bool
  safe  : Bool
  turn  : Nat
  samp  : Nat
  desat : BitVec 24
  uv    : BitVec 24
  temp  : BitVec 16
  vph   : List (BitVec 16)
  err   : Nat
  deriving DecidableEq, Repr
/-- The value of bytes i to i + n − 1. -/
def beAt (l : List Byte) (i n : Nat) : Nat := beNat ((l.drop i).take n)
/-- A STATUS frame from what stands between K27.7 and K29.7, unless it is to be discarded (R237): 43 bytes and their CRC-16, TYPE 0x81. -/
def statusOf (codeErr : Bool) (l : List Byte) : Option StatusFrame :=
  if codeErr || l.length != 45 || beAt l 0 1 != 0x81 || beAt l 43 2 != (crc16 (l.take 43)).toNat then none
  else some
    { sel := (beAt l 1 1).testBit 7, safe := (beAt l 1 1).testBit 6, turn := beAt l 4 3, samp := beAt l 7 3
      desat := BitVec.ofNat 24 (beAt l 10 3), uv := BitVec.ofNat 24 (beAt l 13 3), temp := BitVec.ofNat 16 (beAt l 16 2)
      vph := (List.range 12).map (fun i => BitVec.ofNat 16 (beAt l (18 + 2 * i) 2)), err := beAt l 42 1 }

/-- STATUS_FRAME (R245): a frame that fails a check is discarded and counted. -/
def execStatusFrame (link : Nat) (arrival : Nat) (codeErr : Bool) (bytes : List Byte) (s : State) : Host.Outcome State Fault Refusal :=
  s.onDev (fun d =>
    if d.edgeHiZ then d
    else
      match statusOf codeErr bytes with
      | none => d.count (cLink link 0) 1
      | some f =>
        let d := d.toGt (arrival / 8)
        let x := d.link link
        let meas := match x.t1 with
          | some t => ((((arrival : Int) - t - f.turn + 1) / 2) :: x.meas).take 8
          | none => x.meas
        let ret : EdgeRet := { desat := f.desat, uv := f.uv, sel := f.sel, safe := f.safe, temp := f.temp, vph := f.vph,
                               samp := f.samp, fresh := true }
        let no := if !f.sel && d.isActive then x.unobeyed + 1 else 0
        let bad := decide (4 ≤ no)
        let d := (d.count (cLink link 1) f.err).onLink link (fun x =>
          { x with meas := meas, delay := delayOf meas, unobeyed := no, notObey := bad, rxUp := true, rxDown := false, rxClk := d.clk, now := ret })
        let d := if x.rxDown then d.note 0x2C link 0x80 0 0 else d
        let d := if bad && !x.notObey then (d.count (cLink link 3) 1).note 0x2C link 1 0 0 else d
        noteDegraded (if !bad && x.notObey then d.note 0x2C link 0x81 0 0 else d))

/-- EDGE_RX_DOWN (R249): 4 intervals, 20 µs, without a valid STATUS; DELAY is no longer available (R244). -/
def execEdgeRxDown (link : Nat) (s : State) : Host.Outcome State Fault Refusal :=
  s.onDev (fun d =>
    if (d.link link).rxDown || d.boot.stage == 0 then d
    else
      let d := d.toClk ((d.link link).rxClk + 20 * usClk)
      noteDegraded (((d.count (cLink link 2) 1).onLink link (fun x =>
        { x with rxDown := true, rxUp := false, meas := [], delay := 0xFFFF })).note 0x2C link 0 0 0))

/-- SERIALISER_CLOCK_SWITCH (R32, R251): the serialiser takes the clock of the lowest-indexed live lane and owes 8 further K28.5. -/
def execSerialiserClockSwitch (s : State) : Host.Outcome State Fault Refusal :=
  s.onDev (fun d =>
    { d with edge := d.edge.map (fun x =>
        if x.txLane = d.lowLane || d.liveLanes.isEmpty then x else { x with txLane := d.lowLane, guard := 8 }) })

/-! ### Status (R252) -/

def linkWord (x : LinkSt) : Nat :=
  flagN x.rxUp 31 + flagN x.latched.sel 30 + flagN x.latched.safe 29 + flagN x.notObey 28 + laneIdx x.txLane * 2 ^ 26 + x.sentDelay
def latchWord (x : LinkSt) : Nat := (x.latched.desat ||| x.latched.uv).toNat

end Sys2Proof.Machine
end

