-- ==== Sys2Proof/Machine/Status.lean ====
section
/-! DEFINITION. The status words of the host window that no other file gives: timetable (R70), silent and voter-fault map (R122), roll
call (R134), FCU and park lock (R186), measurement (R269), network (R292), ring (R309), journal (R418), power (R452), temperature
(R478), the identity area (R368); which words the lane monitor cores latch at a boundary; and reading a window word (R369). -/

namespace Sys2Proof.Machine
open Sys2Proof

/-- Roll-call status word (Table 6-2), from the lowest-indexed live lane. -/
def rollWord (q : LaneSt) : Nat :=
  let m := fun (l : Lane) => q.rc.any (fun r => r.suspect.get l || r.failed.get l)
  flagN q.rcs.absent 31 + triMask q.laneS * 2 ^ 28 + laneMask (lanesAll.filter m) * 2 ^ 25 + flagN (q.rc.any (fun r => decide (r.cands < 3))) 24 +
    min 255 q.rcs.echoMis * 2 ^ 16 + min 255 q.rcs.pairN * 2 ^ 8 + min 255 q.rcs.substN
/-- FCU status word (Table 9-13). -/
def fcuWord (d : Dev) (q : LaneSt) (f : Nat) : Nat :=
  let u := q.fcu.getD f FcuSt.reset
  u.eff * 2 ^ 30 + (u.row - 1) * 2 ^ 27 + flagN (u.pair && f == 0) 26 + flagN (q.cfgInt 0x038 f == 1) 25 + flagN u.vlimit 24 +
    flagN (d.gd.pBsUv.any (fun n => unitOfHb n == f)) 23 + flagN u.clamped 22 + flagN u.drop 21 + min 0xFFFF u.depth
/-- Measurement status word (Table 14-6). -/
def measWord (q : LaneSt) : Nat :=
  q.meas.refFault.toNat * 2 ^ 28 + flagN (!q.meas.calDef.isEmpty) 27 + (q.cfgInt 0x085 0).toNat % 4 * 2 ^ 25 + flagN q.meas.lciOk 24 + q.meas.din.toNat

/-- Network status word and mode agreement word (Table 15-10). -/
def Dev.netWord (d : Dev) : Nat :=
  d.nodeId * 2 ^ 28 + d.modeCur * 2 ^ 25 + (match d.net.req with
    | some r => 2 ^ 24 + r.mode * 2 ^ 21 + flagN r.own 20 + flagN r.switch.isSome 19 + r.seq
    | none => 0)
def Dev.modeWord (d : Dev) : Nat :=
  min 255 d.net.confCnt * 2 ^ 24 + min 255 d.net.toutCnt * 2 ^ 16 + min 31 d.net.nakCnt * 2 ^ 11 + d.net.fill
def ringCode : RingState → Nat
  | .standalone => 0
  | .listen => 1
  | .backoff => 2
  | .coldstart => 3
  | .integrating => 4
  | .member => 5
  | .listenOnly => 6
/-- Ring status word, star status word and synchronisation word (Table 16-5). -/
def Dev.ringWord (d : Dev) : Nat :=
  let n := d.net
  let live := (d.liveOthers.map (·.id)) ++ (if (d.member d.nodeId).any (·.live) then [d.nodeId] else [])
  ringCode n.ring * 2 ^ 29 + flagN n.synced 28 + flagN n.east.wrapped 27 + flagN n.west.wrapped 26 + flagN n.clash 25 + flagN n.tnBad 24 +
    live.length * 2 ^ 16 + (live.map (fun i => 2 ^ i)).sum
def Dev.starWord (d : Dev) : Nat := (d.net.stars.map (fun g => flagN g.muted (16 + g.id))).sum
def Dev.syncWord (d : Dev) : Nat :=
  toField (max (-32768) (min 32767 (d.net.lastM / 65536))) 16 * 65536 + toField (max (-32768) (min 32767 (d.net.rho * 10000000 / 2 ^ 32))) 16

/-- Journal status word and journal drop word (Table 22-5). -/
def StoreSt.area (s : StoreSt) : AreaSt := if s.active then s.a1 else s.a0
def Dev.journalWord (d : Dev) : Nat :=
  let j := d.jr
  flagN j.main.active 31 + flagN (j.main.comp.isSome || j.cal.comp.isSome) 30 + flagN j.reserve 29 + flagN j.lastPl 28 +
    j.queue.length * 2 ^ 16 + ceilDiv j.main.area.ptr 1024
def Dev.dropWord (d : Dev) : Nat := d.jr.evDrop * 2 ^ 24 + d.jr.stDrop * 2 ^ 16 + d.jr.merged * 2 ^ 8 + d.jr.aged
/-- Power status word and reset word (Table 25-5). -/
def Dev.powerWord (d : Dev) : Nat := flagN d.pwr.warn 31 + d.pwr.good.toNat * 2 ^ 16 + d.pwr.on.toNat
def Dev.resetWord (d : Dev) : Nat := d.pwr.cause * 2 ^ 29 + d.pwr.dropped.toNat * 2 ^ 16
/-- Temperature word i (Table 27-10). -/
def Dev.tempWord (d : Dev) (i : Nat) : Nat :=
  let t := fun (k : Nat) => toField (d.mgmt.temps.getD k 0) 12
  flagN (d.mgmt.hot.contains (2 * i)) 31 + t (2 * i) * 2 ^ 16 + flagN (d.mgmt.hot.contains (2 * i + 1)) 15 + t (2 * i + 1)
/-- The words that the lane monitor cores and the hub latch at a fast-cycle boundary: R70, R122, R134, R186, R204, R216, R235, R252, R269,
R347, R366. -/
def latchWords (d : Dev) : Dev :=
  let q := d.lane d.lowLane
  let put := fun (d : Dev) (e : Nat × Nat) => d.putWin e.1 e.2
  let d := lanesAll.foldl (fun d l =>
    put (put (put d (0x40 + 8 * laneIdx l, seqWord (d.lane l).seq)) (0x44 + 8 * laneIdx l, seqPlace (d.lane l).seq))
      (0x180 + 4 * laneIdx l, measWord (d.lane l))) d
  let d := put (put (put d (0x58, d.votingWord)) (0x5C, d.silentMap)) (0x60, rollWord q)
  let d := (List.range 8).foldl (fun d f =>
    put (put d (0x80 + 4 * f, fcuWord d q f)) (0xC0 + 4 * f, obsWord (q.obs.getD f ObsSt.reset))) d
  let d := put (put (put d (0xA0, q.park)) (0xE0, d.dclWord)) (0xE4, d.pcWord)
  let d := (List.range 20).foldl (fun d n => put d (0x100 + 4 * n, hbWord (d.hb n) (d.gd.pBsUv.contains n))) d
  let d := put (put d (0x150, bankWord d 1)) (0x154, bankWord d 2)
  let d := (List.range 2).foldl (fun d k => put (put d (0x160 + 8 * k, linkWord (d.link k))) (0x164 + 8 * k, latchWord (d.link k))) d
  let d := put (put d (0x1E0, d.pairWord)) (0x1E4, d.pair.epoch.toNat)
  put (put d (0x200, d.safetyWord)) (0x204, d.speedWord)

/-! ### Reading the window (R368, R369) -/

/-- Little-endian word at byte n of a data field. -/
def dataWord (l : List Byte) (n : Nat) : Nat := leNat ((l.drop n).take 4)
/-- Word at offset o of a received object (Table 17-2). -/
def objWord (o : Option CanObj) (off : Nat) : Nat :=
  match o with
  | none => 0
  | some x => if off = 0 then x.h0.toNat else if off = 4 then x.h1.toNat else if off = 8 then x.ts.toNat else dataWord x.data (off - 12)
def txcWord (b : CanBuf) : Nat := flagN b.req 31 + flagN b.abort 30 + b.result * 2 ^ 27 + b.coll * 2 ^ 23
def bufWord (b : CanBuf) (off : Nat) : Nat :=
  if off = 0 then txcWord b else if off = 4 then b.obj.h0.toNat else if off = 8 then b.obj.h1.toNat
  else if off = 12 then b.obj.ts.toNat else dataWord b.obj.data (off - 16)
def filtWord (p : Word × Word) (w : Nat) : Nat := if w = 0 then p.1.toNat else p.2.toNat
/-- A word of a channel's area (Tables 17-2 to 17-8). -/
def canRead (c : CanSt) (off : Nat) : Nat :=
  if off = 0 then flagN c.init 31 + flagN c.boRec 30 + flagN c.listen 29 + flagN c.order 28 + c.collLim * 2 ^ 24 + c.ie * 2 ^ 20
  else if off = 4 then c.statWord
  else if off = 8 then c.nbt.toNat
  else if off = 12 then c.dbt.toNat
  else if decide (0x40 ≤ off ∧ off < 0x130) then bufWord (c.buf ((off - 0x40) / 0x50)) ((off - 0x40) % 0x50)
  else if decide (0x140 ≤ off ∧ off < 0x18C) then objWord c.hp (off - 0x140)
  else if decide (0x190 ≤ off ∧ off < 0x1DC) then objWord c.fifo.head? (off - 0x190)
  else if decide (0x200 ≤ off ∧ off < 0x208) then filtWord c.hpFilt ((off - 0x200) / 4)
  else if decide (0x208 ≤ off ∧ off < 0x308) then filtWord (c.filts.getD ((off - 0x208) / 8) (0, 0)) ((off - 0x208) / 4 % 2)
  else 0

/-- Allowed senders and readers of a mailbox (Table 20-6, R376). -/
def inMask (m : Nat) : Nat := if m < 10 then 3 else if m < 15 then 2 ^ (m - 8) else 0
def outMask (m : Nat) : Nat := if m < 10 || m = 15 then 3 else 2 ^ (m - 8)
def inCtrl (b : InBox) : Nat :=
  flagN b.full 30 + flagN b.claim.isSome 29 + (match b.claim with | some c => c.1 | none => b.sender) * 2 ^ 16 + b.len
def outCtrl (b : OutBox) : Nat := flagN b.full 30 + b.len
def Dev.inb (d : Dev) (m : Nat) : InBox := d.host.inb.getD m InBox.reset
def Dev.outb (d : Dev) (m : Nat) : OutBox := d.host.outb.getD m OutBox.reset

/-- A word of the identity and global status area. -/
def identRead (d : Dev) (x : Nat) : Nat :=
  match x with
  | 0x00 => 0x0960B000
  | 0x04 => 0x03020302
  | 0x08 => (d.boot.running.map (fun g => g.imageId.toNat % 2 ^ 32)).getD 0
  | 0x0C => (d.boot.running.map (fun g => g.imageId.toNat / 2 ^ 32)).getD 0
  | 0x10 => d.globalWord
  | 0x14 => d.gt % 2 ^ 32
  | 0x18 => d.time.gtHi.toNat
  | 0x1C0 => d.netWord
  | 0x1C4 => d.modeWord
  | 0x1C8 => d.ringWord
  | 0x1CC => d.starWord
  | 0x1D0 => d.syncWord
  | 0x220 => d.journalWord
  | 0x224 => d.dropWord
  | 0x260 => d.powerWord
  | 0x264 => d.resetWord
  | 0x280 => d.tempWord 0
  | 0x284 => d.tempWord 1
  | 0x288 => d.tempWord 2
  | _ => (d.getWin x).toNat
/-- A word of the host window, without the read's side effects. -/
def winRead (d : Dev) (x : Nat) : Word :=
  BitVec.ofNat 32 (
    if x < 0x1000 then identRead d x
    else if x < 0x1400 then ((d.inb ((x - 0x1000) / 64)).data.getD ((x - 0x1000) / 4 % 16) 0).toNat
    else if x < 0x1440 then inCtrl (d.inb ((x - 0x1400) / 4))
    else if x < 0x1480 then inMask ((x - 0x1440) / 4)
    else if x < 0x1800 then 0
    else if x < 0x1C00 then ((d.outb ((x - 0x1800) / 64)).data.getD ((x - 0x1800) / 4 % 16) 0).toNat
    else if x < 0x1C40 then outCtrl (d.outb ((x - 0x1C00) / 4))
    else if x < 0x1C80 then outMask ((x - 0x1C40) / 4)
    else if x = 0x2000 then ((List.range 16).map (fun m => flagN (d.inb m).full m)).sum
    else if x = 0x2004 then d.host.door.toNat
    else if x = 0x2008 then d.host.enable.toNat
    else if x < 0x3000 then 0
    else if x < 0x4000 then canRead (d.chan ((x - 0x3000) / 0x400)) ((x - 0x3000) % 0x400)
    else if x < 0x10000 then (lookupNat d.host.snap x).getD 0
    else 0)

end Sys2Proof.Machine
end

