-- ==== Sys2Proof/Machine/HostWindow.lean ====
section
/-! DEFINITION. Access to the host window: write checks and their order (R369 to R372, R427), mailbox over UDP (R373 to R375), claims,
GO and ACK (R376 to R379, R382), doorbells (R380), unsolicited events (R383). -/

namespace Sys2Proof.Machine
open Sys2Proof

/-! ### Senders and masks -/

/-- Mask bit of a sender ID (R376). -/
def senderBit (s : Nat) : Nat :=
  match s with
  | 0x01 => 0
  | 0x02 => 1
  | 0x11 => 2
  | 0x12 => 3
  | 0x13 => 4
  | 0x20 => 5
  | 0x30 => 6
  | _ => 7
/-- May this sender write inbound m? A debugger only while DEBUG_OPEN is 1. -/
def Dev.maySend (d : Dev) (m s : Nat) : Bool := (inMask m).testBit (senderBit s) && (s != 0x30 || d.boot.debugOpen)
def Dev.onIn (d : Dev) (m : Nat) (f : InBox → InBox) : Dev := d.onHost (fun h => { h with inb := modAt h.inb m f })
def Dev.onOut (d : Dev) (m : Nat) (f : OutBox → OutBox) : Dev := d.onHost (fun h => { h with outb := modAt h.outb m f })

/-! ### Which offsets exist -/

/-- Records of Table 20-12: base, records, words of a record, counters in it. -/
def cntBlocks : List (Nat × Nat × Nat × Nat) :=
  [(0x4000, 1, 32, 16), (0x4080, 3, 32, 11), (0x4200, 1, 64, 31), (0x4300, 2048, 1, 1), (0x6300, 1024, 2, 2), (0x8300, 128, 2, 2),
   (0x8700, 8, 16, 9), (0x8900, 20, 4, 3), (0x8A40, 2, 8, 5), (0x8A80, 3, 64, 64), (0x8D80, 1, 16, 4), (0x8DC0, 4, 16, 9),
   (0x8EC0, 256, 8, 8), (0xAEC0, 17, 8, 8), (0xB0E0, 16, 2, 2), (0xB160, 1, 16, 11), (0xB1A0, 1, 16, 13)]
def cntDefined (x : Nat) : Bool :=
  cntBlocks.any (fun b => decide (b.1 ≤ x ∧ x < b.1 + 4 * b.2.1 * b.2.2.1 ∧ (x - b.1) / 4 % b.2.2.1 < b.2.2.2))
/-- A host write to this offset is refused with ERR_ADDR (R369): a reserved offset outside the identity area. -/
def winReserved (x : Nat) : Bool :=
  if x < 0x1480 then false
  else if x < 0x1800 then true
  else if x < 0x1C80 then false
  else if x < 0x2000 then true
  else if x < 0x200C then false
  else if x < 0x3000 then true
  else if x < 0x4000 then !canDefined ((x - 0x3000) % 0x400)
  else !cntDefined x

/-! ### Writes (Table 20-4) -/

/-- The inbound mailbox whose data or control word lies at this offset. -/
def inboxAt (x : Nat) : Option Nat :=
  if decide (0x1000 ≤ x ∧ x < 0x1400) then some ((x - 0x1000) / 64)
  else if decide (0x1400 ≤ x ∧ x < 0x1440) then some ((x - 0x1400) / 4) else none
def isInCtrl (x : Nat) : Bool := decide (0x1400 ≤ x ∧ x < 0x1440)
def isOutCtrl (x : Nat) : Bool := decide (0x1C00 ≤ x ∧ x < 0x1C40)
/-- GO with a LEN outside 1 to 16. -/
def badGo (w : HostWord) : Bool := isInCtrl w.addr && w.data.getLsbD 31 && decide (bits w.data.toNat 4 0 = 0 ∨ 16 < bits w.data.toNat 4 0)
def wordDenied (d : Dev) (sender : Nat) (w : HostWord) : Bool :=
  (match inboxAt w.addr with | some m => !d.maySend m sender | none => false) ||
    (isOutCtrl w.addr && w.data.getLsbD 31 && !(outMask ((w.addr - 0x1C00) / 4)).testBit (senderBit sender))
def wordBusy (d : Dev) (sender : Nat) (w : HostWord) : Bool :=
  match inboxAt w.addr with
  | some m => (match (d.inb m).claim with | some c => c.1 != sender | none => false)
  | none => false
def wordFull (d : Dev) (w : HostWord) : Bool := match inboxAt w.addr with | some m => (d.inb m).full | none => false
/-- The outcome code of a write (R371), decided before any word is applied. -/
def writeCode (d : Dev) (sender : Nat) (ws : List HostWord) : Nat :=
  if d.boot.stage < 5 || decide (0x81 ≤ d.boot.stage ∧ d.boot.stage ≤ 0x83) then 3
  else if ws.isEmpty || decide (256 < ws.length) || ws.any (fun w => w.addr % 4 != 0) || ws.any badGo then 4
  else if ws.any (fun w => winReserved w.addr) then 5
  else if ws.any (wordDenied d sender) then 2
  else if ws.any (wordBusy d sender) then 3
  else if ws.any (wordFull d) then 1
  else 0

/-- A data word of an empty mailbox: the first write claims it (R378). -/
def putInWord (d : Dev) (m i sender : Nat) (v : Word) : Dev :=
  d.onIn m (fun b => { b with data := b.data.set i v, claim := some (sender, d.clk) })
/-- GO (R377): the sender's ID replaces W0[31:24], and the claim ends. -/
def goInbox (d : Dev) (m sender len : Nat) : Dev :=
  d.onIn m (fun b => { b with
    data := b.data.set 0 (BitVec.ofNat 32 (sender * 2 ^ 24 + (b.data.getD 0 0).toNat % 2 ^ 24))
    len := len, full := true, sender := sender, claim := none })
/-- The control word: LEN is stored before GO acts. Without GO a LEN outside 1 to 16 keeps the stored one and is counted (R12). -/
def putInCtrl (d : Dev) (m sender : Nat) (v : Word) : Dev :=
  let len := bits v.toNat 4 0
  let ok := decide (1 ≤ len ∧ len ≤ 16)
  if v.getLsbD 31 then goInbox d m sender len
  else (d.countIf (!ok) (cMgmt 5)).onIn m (fun b => { b with len := if ok then len else b.len, claim := some (sender, d.clk) })

/-- ACK (R382): it clears FULL, and the first queued reply for the mailbox, or for mailbox 15 the first waiting event, refills it. -/
def ackOut (d : Dev) (m : Nat) : Dev :=
  if !(d.outb m).full then d
  else
    let d := d.onOut m (fun b => { b with full := false })
    if m = 15 then
      match d.host.events with
      | (_, ws) :: rest => (d.onHost (fun h => { h with events := rest })).fillOut 15 ws
      | [] => d
    else
      match d.host.replies.find? (fun r => r.1 == m) with
      | some r => (d.onHost (fun h => { h with replies := h.replies.erase r })).fillOut m r.2
      | none => d

/-- Apply one word of an accepted write. RO words and fields are ignored (R9); reserved fields too (R11). -/
def applyWord (sender : Nat) (d : Dev) (w : HostWord) : Dev :=
  let x := w.addr
  if decide (0x1000 ≤ x ∧ x < 0x1400) then putInWord d ((x - 0x1000) / 64) ((x - 0x1000) / 4 % 16) sender w.data
  else if isInCtrl x then putInCtrl d ((x - 0x1400) / 4) sender w.data
  else if isOutCtrl x then (if w.data.getLsbD 31 then ackOut d ((x - 0x1C00) / 4) else d)
  else if x = 0x2004 then d.onHost (fun h => { h with door := h.door &&& ~~~w.data })
  else if x = 0x2008 then d.onHost (fun h => { h with enable := w.data })
  else if decide (0x3000 ≤ x ∧ x < 0x4000) then canWrite d ((x - 0x3000) / 0x400) ((x - 0x3000) % 0x400) w.data
  else d
/-- Count a refusal of the window (Table 20-12). -/
def countCode (d : Dev) (code : Nat) : Dev := d.countIf (decide (1 ≤ code ∧ code ≤ 5)) (cMgmt (code - 1))
/-- A host write as a whole (R372), with its outcome. -/
def hostWrite (d : Dev) (sender : Nat) (ws : List HostWord) : Dev × Nat :=
  let c := writeCode d sender ws
  if c = 0 then (ws.foldl (applyWord sender) d, 0) else (countCode d c, c)
/-- ATTN (R371). -/
def Dev.attn (d : Dev) : Bool := (d.host.door &&& d.host.enable) != 0
/-- The window answers from the end of the plinth stage (R427), while the hub serves. -/
def Dev.winUp (d : Dev) : Bool := d.hubUp && decide (2 ≤ d.boot.stage)

/-- Doorbell bits that an event sets in the register clock in which `was` is cleared: they stay set, or ring (R10). -/
def keepDoor (was : Word) (again : Word) (d : Dev) : Dev :=
  let stay := was &&& again
  let d := d.onHost (fun h => { h with door := h.door ||| stay })
  (List.range 27).foldl (fun d i => if again.getLsbD i && !stay.getLsbD i then d.ring i else d) d
/-- The bits that the hardware sets in the register clock of a write: they are set after it (R10). -/
def raceOver (was : Word) (r : Race) (d : Dev) : Dev :=
  let d := r.rxOvf.foldl (fun d ch => d.onCan ch (fun c => { c with rxOvf := true })) d
  keepDoor was r.door (r.hpLost.foldl (fun d ch => d.onCan ch (fun c => { c with hpLost := true })) d)
/-- The words of a transaction: the address advances by 4 (R370). -/
def hostWords (addr : Nat) (data : List Word) : List HostWord := (List.range data.length).map (fun i => HostWord.mk (addr + 4 * i) (data.getD i 0))
/-- HOST_WRITE (R370 to R372). A truncated transaction, or a malformed datagram, is discarded and counted; another opcode gives ERR_FORMAT. -/
def execHostWrite (eth : Bool) (form : HostForm) (addr : Nat) (data : List Word) (race : Race) (s : State) : Host.Outcome State Fault Refusal :=
  s.onDev (fun d =>
    if !d.winUp then d
    else if form = .cut || (eth && form = .opcode) then raceOver d.host.door race (d.count (cMgmt (if eth then 10 else 9)) 1)
    else
      let r := if form = .opcode then (countCode d 4, 4) else hostWrite d (if eth then 2 else 1) (hostWords addr data)
      let d := raceOver d.host.door race r.1
      if eth then d else d.onHost (fun h => { h with spi := flagN d.attn 7 + r.2 }))

/-! ### MGMT_ETH -/

/-- Latch GT[63:32] (R368). -/
def latchGt (d : Dev) : Dev := d.onTime (fun t => { t with gtHi := BitVec.ofNat 32 (t.gt.toNat / 2 ^ 32) })
/-- A read of one word with its side effects: GT_LO, and the head objects of the CAN channels (R321). -/
def readWord (d : Dev) (x : Nat) : Dev × Word :=
  let v := winRead d x
  let ch := (x - 0x3000) / 0x400
  let off := (x - 0x3000) % 0x400
  if x = 0x14 then (latchGt d, v)
  else if decide (0x3000 ≤ x ∧ x < 0x4000) then
    (if off = 0x140 then d.onCan ch (fun c => { c with hpLock := c.hp.isSome })
     else if off = 0x188 then d.onCan ch (fun c => { c with hp := none, hpLock := false })
     else if off = 0x190 then d.onCan ch (fun c => { c with fifoLock := !c.fifo.isEmpty })
     else if off = 0x1D8 then d.onCan ch (fun c => { c with fifo := c.fifo.drop 1, fifoLock := false })
     else d, v)
  else (d, v)
def readWords (d : Dev) (x : Nat) : Nat → Dev × List Word
  | 0 => (d, [])
  | n + 1 =>
    let r := readWord d x
    let q := readWords r.1 (x + 4) n
    (q.1, r.2 :: q.2)

/-- A request as the device accepts it: from MGMT_PEER and well formed. -/
def datagramGood (g : Datagram) : Bool :=
  g.peerOk && g.formOk && g.ver == 1 && (g.op == 1 || g.op == 2) && g.addr % 4 == 0 && decide (1 ≤ g.count ∧ g.count ≤ 256) &&
    (g.op == 1 || g.data.length == g.count)
/-- Execute a request (R374). -/
def udpRun (d : Dev) (g : Datagram) : Dev × UdpResp :=
  if g.op = 1 then
    if decide (d.boot.stage < 5 ∨ 0x81 ≤ d.boot.stage ∧ d.boot.stage ≤ 0x83) && decide (0x20 < g.addr + 4 * g.count) then
      (d.count (cMgmt 2) 1, { port := g.port, seq := g.seq, op := 0x81, addr := g.addr, status := 3, attn := d.attn, data := [] })
    else
      let r := readWords d g.addr g.count
      (r.1, { port := g.port, seq := g.seq, op := 0x81, addr := g.addr, status := 0, attn := r.1.attn, data := r.2 })
  else
    let r := hostWrite d 2 (hostWords g.addr g.data)
    (r.1, { port := g.port, seq := g.seq, op := 0x82, addr := g.addr, status := r.2, attn := r.1.attn, data := [] })
/-- UDP_REQUEST (R373, R374). -/
def execUdpRequest (g : Datagram) (s : State) : Host.Outcome State Fault Refusal :=
  s.onDev (fun d =>
    if !d.winUp then d
    else if !datagramGood g then d.count (cMgmt 10) 1
    else match d.host.udp.find? (fun u => u.port == g.port && u.seq == g.seq) with
      | some u => (d.count (cMgmt 11) 1).onHost (fun h => { h with answer := some u })
      | none =>
        let r := udpRun d g
        r.1.onHost (fun h => { h with answer := some r.2, udp := (r.2 :: h.udp.filter (fun u => u.port != g.port)).take 4 }))

/-- GT_LO_READ (R368). -/
def execGtLoRead (s : State) : Host.Outcome State Fault Refusal := s.onDev (fun d => if d.winUp then latchGt d else d)

/-! ### Mailboxes -/

/-- The lane whose monitor core has this sender ID. -/
def senderLane (sender : Nat) : Option Lane := if decide (0x11 ≤ sender ∧ sender ≤ 0x13) then some (laneOf (sender - 0x11)) else none
/-- Data words with GO as one write, with the checks of Table 20-4. -/
def writeAndGo (d : Dev) (m sender len : Nat) (words : List Word) : Dev :=
  let go : HostWord := { addr := 0x1400 + 4 * m, data := BitVec.ofNat 32 (2 ^ 31 + len % 32) }
  let ws := (List.range words.length).map (fun i => HostWord.mk (0x1000 + 64 * m + 4 * i) (words.getD i 0)) ++ [go]
  let c := writeCode d sender ws
  if c = 0 then ws.foldl (applyWord sender) d else countCode d c
/-- INBOUND_GO (R377). The words of a lane monitor core cross the lane → hub queue (R34); a core that has stopped sends none (R69). -/
def execInboundGo (m sender len : Nat) (words : List Word) (s : State) : Host.Outcome State Fault Refusal :=
  s.onDev (fun d =>
    if !d.winUp || decide (16 ≤ m) || decide (16 < words.length) then d
    else
      match senderLane sender with
      | none => writeAndGo d m sender len words
      | some l => if (d.lane l).seq.lmcDown || d.hubQueueFull l then d.takeOutIf (d.runs l && !(d.lane l).seq.lmcDown) l 5
                  else writeAndGo d m sender len words)
/-- CLAIM_TIMEOUT (R378). -/
def execClaimTimeout (m : Nat) (s : State) : Host.Outcome State Fault Refusal :=
  s.onDev (fun d =>
    match (d.inb m).claim with
    | some c => if d.winUp then ((d.toClk (c.2 + msClk)).onIn m (fun b => { b with claim := none })).count (cMgmt 12) 1 else d
    | none => d)
/-- OUTBOUND_ACK (R382). The hub reads outbound 13 for the partner and sends what it holds in a MAILBOX frame (R401). -/
def execOutboundAck (m reader : Nat) (s : State) : Host.Outcome State Fault Refusal :=
  s.onDev (fun d =>
    if !d.winUp || decide (16 ≤ m) then d
    else
      let c := writeCode d reader [{ addr := 0x1C00 + 4 * m, data := 0x80000000 }]
      let d' := if m = 13 && reader == 0x20 then d.handSvc (.mailbox 13 ((d.outb 13).data.take (d.outb 13).len)) else d
      if c = 0 then ackOut d' m else countCode d c)
/-- RELAYED_MAILBOX (R379): data and GO as one write; a FULL or claimed mailbox discards the frame. -/
def execRelayedMailbox (n : SvcIn) (mbox : Nat) (words : List Word) (s : State) : Host.Outcome State Fault Refusal :=
  s.onDev (fun d => d.svcIn 3 n (fun d =>
    if !d.winUp || words.isEmpty || decide (16 < words.length) then d
    -- the mask of every other mailbox excludes the partner
    else if mbox != 13 then countCode d 2
    else if (d.inb 13).full || (d.inb 13).claim.isSome then d.count (cMgmt 13) 1
    else goInbox (d.onIn 13 (fun b => { b with data := words ++ b.data.drop words.length })) 13 0x20 words.length))

/-! ### Doorbells and events -/

/-- DOORBELL_CLEAR (R380): a bit that an event sets in the same clock stays set (R10). -/
def execDoorbellClear (v again : Word) (s : State) : Host.Outcome State Fault Refusal :=
  s.onDev (fun d =>
    if !d.winUp then d
    else
      keepDoor d.host.door again (d.onHost (fun h => { h with door := h.door &&& ~~~v })))
/-- DOORBELL_REPEAT (R375): 10 ms after the last datagram while an enabled bit stays set. -/
def execDoorbellRepeat (s : State) : Host.Outcome State Fault Refusal :=
  s.onDev (fun d =>
    match d.host.dgSent with
    | some (_, t) =>
      if d.winUp && d.attn then
        let d := d.toClk (t + 10 * msClk)
        d.onHost (fun h => { h with dgSent := some (h.door, d.clk) })
      else d
    | none => d)
/-- EVENT_EXPIRY (R383). -/
def execEventExpiry (s : State) : Host.Outcome State Fault Refusal :=
  s.onDev (fun d =>
    match d.host.events with
    | (t, _) :: rest => ((d.toClk (t + 10 * msClk)).onHost (fun h => { h with events := rest })).count (cMgmt 15) 1 |>.ring 25
    | [] => d)

end Sys2Proof.Machine
end

