-- ==== Sys2Proof/Machine/Reply.lean ====
section
/-! DEFINITION. What every mailbox command shares: replies and their queue (R382, R387), status counts, jobs (R389), who may use
which code (R390), the lengths of Table 21-4, and the transfer buffer (R392). -/

namespace Sys2Proof.Machine
open Sys2Proof

/-! ### Replies -/

/-- A reply for mailbox m: it fills the outbound mailbox, or waits in the reply queue behind what waits there (R382). -/
def sendReply (d : Dev) (m : Nat) (ws : List Word) : Dev :=
  if (d.outb m).full || d.host.replies.any (fun r => r.1 == m) then d.onHost (fun h => { h with replies := h.replies ++ [(m, ws)] })
  else d.fillOut m ws
/-- The words of a reply (Table 21-1). -/
def replyWords (r : Request) (code job status detail : Nat) (res : List Word) : List Word :=
  BitVec.ofNat 32 (r.tag % 256 * 65536 + code) :: BitVec.ofNat 32 (job * 65536 + detail % 256 * 256 + status) :: res
/-- Refusals counted in the block at 0x4000: the codes of R371, ERR_LIVE, ERR_OWNED and ERR_GROUP_INCOMPLETE. A payload refused with
ERR_PARAM is no R12 event: R12 counts a register field that keeps its value. -/
def countStatus (d : Dev) (status : Nat) : Dev :=
  if decide (1 ≤ status ∧ status ≤ 5) then d.count (cMgmt (status - 1)) 1
  else if decide (0x14 ≤ status ∧ status ≤ 0x16) then d.count (cMgmt (status - 0x0E)) 1
  else d
/-- The reply of a command that is not long. -/
def reply (d : Dev) (r : Request) (code status detail : Nat) (res : List Word) : Dev :=
  sendReply (countStatus d status) r.mbox (replyWords r code 0 status detail res)
def refuse (d : Dev) (r : Request) (code status detail : Nat) : Dev := reply d r code status detail []
def okay (d : Dev) (r : Request) (code : Nat) (res : List Word) : Dev := reply d r code 0 0 res
/-- A 64-bit value, low word first (R391). -/
def twoWords (n : Nat) : List Word := [BitVec.ofNat 32 n, BitVec.ofNat 32 (n / 2 ^ 32)]

/-! ### Jobs -/

/-- A new long command: ACCEPTED with its JOB number. The last 32 jobs are kept. -/
def accept (d : Dev) (r : Request) (code due : Nat) (pids : List Nat) : Dev × Nat :=
  let n := d.mgmt.nextJob
  let j : Job := { num := n, code := code, req := r, due := BitVec.ofNat 64 due, pids := pids, done := false, replied := false,
                   status := 0, detail := 0, res := [] }
  let d := d.onMgmt (fun m => { m with
    jobs := (m.jobs ++ [j]).drop (m.jobs.length + 1 - 32), nextJob := if n + 1 < 65536 then n + 1 else 1 })
  (sendReply d r.mbox (replyWords r code n 0x10 0 []), n)
/-- A long command with nothing left to do. -/
def acceptDone (d : Dev) (r : Request) (code : Nat) : Dev :=
  let (d, n) := accept d r code 0 []
  d.endJob n 0 0
/-- A job with this code runs. -/
def Dev.jobRuns (d : Dev) (code : Nat) : Bool := d.mgmt.jobs.any (fun j => j.code == code && !j.done)
def Dev.onJob (d : Dev) (n : Nat) (f : Job → Job) : Dev :=
  d.onMgmt (fun m => { m with jobs := m.jobs.map (fun j => if j.num == n then f j else j) })
/-- Entries of the reply queue neither occupied nor reserved (R382). -/
def Dev.freeReplies (d : Dev) : Nat := 8 - d.host.replies.length - (d.mgmt.jobs.filter (fun j => !j.replied)).length

/-! ### Codes -/

/-- The codes marked R (Table 21-4), which a relayed command may use. -/
def relayable (code : Nat) : Bool :=
  [0x0001, 0x0002, 0x0004, 0x0102, 0x0201, 0x0401, 0x0502, 0x0601, 0x0702, 0x0A02].contains code
/-- Least and greatest number of words after W0 of a request (Table 21-4); none for an undefined code. A count of bytes at bulk 0
may be given or left out where the transfer buffer itself says it. -/
def codeLen (code : Nat) : Option (Nat × Nat) :=
  match code with
  | 0x0004 => some (1, 1)
  | 0x0010 => some (2, 15)
  | 0x0011 => some (2, 2)
  | 0x0101 => some (3, 15)
  | 0x0102 => some (1, 1)
  | 0x0103 => some (1, 15)
  | 0x0104 => some (1, 15)
  | 0x0105 => some (3, 4)
  | 0x0202 => some (1, 1)
  | 0x0203 => some (1, 1)
  | 0x0204 => some (2, 2)
  | 0x0210 => some (1, 2)
  | 0x0301 => some (1, 2)
  | 0x0302 => some (1, 1)
  | 0x0402 => some (2, 2)
  | 0x0404 => some (1, 14)
  | 0x0501 => some (2, 2)
  | 0x0502 => some (2, 2)
  | 0x0503 => some (1, 1)
  | 0x0602 => some (1, 1)
  | 0x0603 => some (1, 15)
  | 0x0701 => some (4, 4)
  | 0x0703 => some (1, 1)
  | 0x0801 => some (1, 1)
  | 0x0901 => some (8, 8)
  | 0x0903 => some (1, 1)
  | 0x0905 => some (1, 1)
  | 0x0A01 => some (2, 2)
  | _ => if [0x0001, 0x0002, 0x0003, 0x0012, 0x0201, 0x0205, 0x0401, 0x0403, 0x0601, 0x0702, 0x0704, 0x0902, 0x0904, 0x0A02].contains code
      then some (0, 0) else none
/-- LEN is right for the code; PARAM_STAGE carries whole records. -/
def lenOk (code n : Nat) : Bool :=
  match codeLen code with
  | some (lo, hi) => decide (lo ≤ n ∧ n ≤ hi) && (code != 0x0101 || n % 3 == 0)
  | none => false
/-- Commands that act on released lanes (R427). -/
def needsLanes (code : Nat) : Bool :=
  [0x0101, 0x0103, 0x0104, 0x0105, 0x0202, 0x0301, 0x0503, 0x0602].contains code
/-- Commands that act on the running image. -/
def needsImage (code : Nat) : Bool := [0x0102, 0x0201, 0x0302].contains code
/-- The firmware drains mailboxes: from the start of the load stage, and with STAGE 0x84 and later codes (R427). -/
def Dev.drains (d : Dev) : Bool := d.hubUp && decide (5 ≤ d.boot.stage) && !decide (0x81 ≤ d.boot.stage ∧ d.boot.stage ≤ 0x83)

/-- What every drained command passes before it acts (R390, R427). Mailboxes 10 to 12 carry internal codes and no others. A command
of the holder of the transfer buffer keeps its claim (R392). -/
def command (d : Dev) (r : Request) (code : Nat) (body : Dev → Dev) : Dev :=
  if !d.drains || decide (10 ≤ r.mbox ∧ r.mbox ≤ 12) || decide (15 ≤ r.mbox) then d
  else
    let d := match d.mgmt.claim with
      | some c => if c.1 = r.sender then d.onMgmt (fun m => { m with claim := some (c.1, d.clk) }) else d
      | none => d
    if r.mbox = 14 && !d.boot.debugOpen then refuse d r code 2 0
    else if (codeLen code).isNone then refuse d r code 0x11 0
    else if r.mbox = 13 && !relayable code then refuse d r code 2 0
    else if !lenOk code r.args.length then refuse d r code 4 0
    else if needsLanes code && !d.boot.released then refuse d r code 0x13 3
    else if needsImage code && d.boot.running.isNone then refuse d r code 0x13 3
    else body d

/-- Word i of the payload, W1 being word 0. -/
def argOf (r : Request) (i : Nat) : Nat := (r.args.getD i 0).toNat
/-! ### The transfer buffer -/

/-- 2,304 KiB. -/
def bulkSize : Nat := 2359296
/-- Another sender holds the buffer. -/
def Dev.bulkBusy (d : Dev) (sender : Nat) : Bool := match d.mgmt.claim with | some c => c.1 != sender | none => false
def claimBulk (d : Dev) (sender : Nat) : Dev := d.onMgmt (fun m => { m with claim := some (sender, d.clk) })
/-- n bytes of the buffer from offset o. -/
def Dev.bulkBytes (d : Dev) (o n : Nat) : List Byte := memRead d.mgmt.bulk o n
def putBulk (d : Dev) (o : Nat) (bs : List Byte) : Dev := d.onMgmt (fun m => { m with bulk := memWrite m.bulk o bs })
/-- A buffer-using command is refused while another sender holds the buffer (R392); when it is carried out it claims it, and a command
refused for its payload leaves the claim as it was (R12). -/
def withBulk (d : Dev) (r : Request) (code : Nat) (body : Dev → Dev) : Dev :=
  if d.bulkBusy r.sender then refuse d r code 3 0 else body d

def cmdBulkWrite (d : Dev) (r : Request) : Dev :=
  command d r 0x0010 (fun d =>
    let ws := r.args.drop 1
    if d.bulkBusy r.sender then refuse d r 0x0010 3 0
    else if argOf r 0 % 4 ≠ 0 || decide (bulkSize < argOf r 0 + 4 * ws.length) then refuse d r 0x0010 0x12 5
    else okay (putBulk (claimBulk d r.sender) (argOf r 0) (ws.flatMap (fun w => leBytes w.toNat 4))) r 0x0010 [])
def cmdBulkRead (d : Dev) (r : Request) : Dev :=
  command d r 0x0011 (fun d =>
    let n := argOf r 1
    if d.bulkBusy r.sender then refuse d r 0x0011 3 0
    else if n = 0 || decide (14 < n) then refuse d r 0x0011 0x12 3
    else if argOf r 0 % 4 ≠ 0 || decide (bulkSize < argOf r 0 + 4 * n) then refuse d r 0x0011 0x12 5
    else okay d r 0x0011 ((List.range n).map (fun i => BitVec.ofNat 32 (leNat (d.bulkBytes (argOf r 0 + 4 * i) 4)))))
def cmdBulkRelease (d : Dev) (r : Request) : Dev :=
  command d r 0x0012 (fun d =>
    if d.bulkBusy r.sender then refuse d r 0x0012 3 0 else okay (d.onMgmt (fun m => { m with claim := none })) r 0x0012 [])

/-- BULK_WRITE (R392). -/
def execBulkWrite (r : Request) (s : State) : Host.Outcome State Fault Refusal := s.onDev (fun d => cmdBulkWrite d r)
/-- BULK_READ (R392). -/
def execBulkRead (r : Request) (s : State) : Host.Outcome State Fault Refusal := s.onDev (fun d => cmdBulkRead d r)
/-- BULK_RELEASE (R392). -/
def execBulkRelease (r : Request) (s : State) : Host.Outcome State Fault Refusal := s.onDev (fun d => cmdBulkRelease d r)
/-- BULK_CLAIM_TIMEOUT (R392): 10 s without a command from the holder. -/
def execBulkClaimTimeout (s : State) : Host.Outcome State Fault Refusal :=
  s.onDev (fun d =>
    match d.mgmt.claim with
    | some (_, t) => (d.toClk (t + 10000 * msClk)).onMgmt (fun m => { m with claim := none })
    | none => d)

end Sys2Proof.Machine
end

