-- ==== Sys2Proof/Machine/Params.lean ====
section
/-! DEFINITION. Staging and committing (R83, R143, R155, R161, R393 to R397): PARAM_STAGE, STAGING_DELIVERED, PARAM_READ, COMMIT,
DISCARD, CALIBRATE, COEF_STAGE and COEF_READ. -/

namespace Sys2Proof.Machine
open Sys2Proof

def isNextRelease (p : Nat) : Bool := decide (0x0B0 ≤ pidField p ∧ pidField p ≤ 0x0B5)

/-! ### PARAM_STAGE -/

/-- The record of a next-release field. -/
def Dev.nextField (d : Dev) (p : Nat) : Option CfgField := d.mgmt.next.find? (fun c => c.pid == p)
def Dev.onNext (d : Dev) (p : Nat) (f : CfgField → CfgField) : Dev :=
  let put := fun (l : List CfgField) =>
    if l.any (fun c => c.pid == p) then l.map (fun c => if c.pid == p then f c else c)
    else l ++ [f { pid := p, host := true, live := cfgDefault p, staged := none, at_ := 0, due := [] }]
  d.onMgmt (fun m => { m with next := put m.next })

/-- The checks of a staging record (R395): status, detail and the value as it will be staged; `mode` is the LCI_MODE that becomes live with
it or is live (R267). -/
def checkRecord (g : Img) (mode : Int) (p : Nat) (v : DWord) : Nat × Nat × DWord :=
  let f := pidField p
  let i := pidInst p
  if pidCopy p then (0x14, 0, 0)
  else match fieldInfo f with
    | none => (0x12, 1, 0)
    | some x =>
      if x.kind != .commit && x.kind != .nextRelease then (0x12, 6, 0)
      else if !instOk g f i then (0x12, 2, 0)
      else if !fieldHost g p then (0x15, 0, 0)
      else match checkValue f i x v mode with
        | some w => if thrOk g p w then (0, 0, w) else (0x12, 3, 0)
        | none => (0x12, 3, 0)

/-- The records of a PARAM_STAGE request. -/
def stageRecs : List Word → List (Nat × DWord)
  | p :: lo :: hi :: r => (p.toNat, BitVec.ofNat 64 (lo.toNat + hi.toNat * 2 ^ 32)) :: stageRecs r
  | _ => []
/-- The lanes that staged values reach: those that dispatch. -/
def Dev.onRunning (d : Dev) (f : LaneSt → LaneSt) : Dev := lanesAll.foldl (fun d l => if d.runs l then d.onLane l f else d) d
/-- A configuration record goes to a partner in PROBATION, IN_STEP or DETACHED (R335, R339), and, while a cast to it runs, with what it then
holds. -/
def tellPartner (d : Dev) (p : Nat) (v : DWord) (g : Option (BitVec 64)) : Dev :=
  if d.paired && d.isActive && d.partnerKept then
    d.handSvc (.cast { offset := 0, kind := 4, src := d.lowLane, data := [], pid := p, value := v, commit := g, items := [] })
  else d

/-- The LCI_MODE that the records of a request are stated for: the one they stage, else the one staged before them, else the live one. -/
def Dev.lciMode (d : Dev) (recs : List (Nat × DWord)) : Int :=
  let p := pidOf 0x085 0
  let q := d.lane d.lowLane
  match (recs.filter (fun e => e.1 == p)).getLast? with
  | some e => valInt e.2
  | none => match (q.field p).bind (fun c => if c.host then c.staged else none) with
    | some v => valInt v
    | none => q.cfgInt 0x085 0

def cmdParamStage (d : Dev) (r : Request) : Dev :=
  command d r 0x0101 (fun d =>
    if !d.isActive then refuse d r 0x0101 0x13 1
    else
      let recs := (stageRecs r.args).map (fun e => (e.1, checkRecord d.img (d.lciMode (stageRecs r.args)) e.1 e.2))
      match recs.find? (fun e => e.2.1 != 0) with
      | some e => refuse d r 0x0101 e.2.1 e.2.2.1
      | none => d.onMgmt (fun m => { m with deliver := m.deliver ++ [(r, recs.map (fun e => (e.1, e.2.2.2)))] }))

/-- A value reaches the shadows. -/
def stageOne (d : Dev) (e : Nat × DWord) : Dev :=
  let put := fun (c : CfgField) => { c with staged := some e.2, at_ := d.gt }
  if isNextRelease e.1 then d.onNext e.1 put
  else tellPartner (d.onRunning (fun q => q.onField e.1 true put)) e.1 e.2 none
/-- STAGING_DELIVERED (R395): the oldest drained PARAM_STAGE reaches the shadows, and its reply is written. -/
def execStagingDelivered (s : State) : Host.Outcome State Fault Refusal :=
  s.onDev (fun d =>
    match d.mgmt.deliver with
    | (r, vs) :: rest =>
      let d := (d.onMgmt (fun m => { m with deliver := rest }))
      okay (vs.foldl stageOne d) r 0x0101 [BitVec.ofNat 32 (r.args.length / 3)]
    | [] => d)

/-! ### COMMIT and DISCARD -/

/-- The host's staged value of a field, with the GT at which it reached the shadow. -/
def Dev.stagedVal (d : Dev) (q : LaneSt) (p : Nat) : Option (DWord × Nat) :=
  match (if isNextRelease p then d.nextField p else q.field p) with
  | some c => if c.host then c.staged.map (fun v => (v, c.at_)) else none
  | none => none
/-- The host's staged coefficient set of a group instance. -/
def stagedSet (q : LaneSt) (i : Nat) : Option CoefStage :=
  q.coefS.find? (fun c => c.host && c.due.isNone && c.rcd.loop == i / 2 && c.rcd.bank == i % 2)
/-- How many members a group has and how many of them are staged, and the latest GT at which one reached the shadow. -/
def Dev.stagedOf (d : Dev) (g : Img) (q : LaneSt) (grp : Nat) : Nat × Nat × Nat :=
  if pidField grp = 0x0F0 then (match stagedSet q (pidInst grp) with | some c => (1, 1, c.at_) | none => (1, 0, 0))
  else
    let ms := groupMembers g grp
    let vs := ms.filterMap (d.stagedVal q)
    (ms.length, vs.length, vs.foldl (fun a v => max a v.2) 0)
/-- The groups a request names: all with something staged, or those of the fields it lists. -/
def Dev.named (d : Dev) (g : Img) (q : LaneSt) (r : Request) : List Nat :=
  if argOf r 0 % 2 = 1 then
    (((q.cfg ++ d.mgmt.next).filter (fun c => c.host && c.staged.isSome)).map (fun c => groupPid g c.pid) ++
      ((q.coefS.filter (fun c => c.host && c.due.isNone)).map (fun c => pidOf 0x0F0 (2 * c.rcd.loop + c.rcd.bank)))).foldl insertNew []
  else ((r.args.drop 1).map (fun w => groupPid g w.toNat)).foldl insertNew []
/-- A PARAM_ID that a COMMIT or DISCARD may name: detail 0 when it may. -/
def nameDetail (g : Img) (p : Nat) : Nat :=
  match fieldInfo (pidField p) with
  | none => 1
  | some x => if x.kind == .calOnly || x.kind == .imageOnly || x.kind == .readOnly then 6 else if instOk g (pidField p) (pidInst p) then 0 else 2
/-- The status and detail with which the listed PARAM_IDs are refused. -/
def namesBad (g : Img) (r : Request) : Option (Nat × Nat) :=
  if argOf r 0 % 2 = 1 then none
  else (r.args.drop 1).findSome? (fun w =>
    if pidCopy w.toNat then some (0x14, 0) else if nameDetail g w.toNat = 0 then none else some (0x12, nameDetail g w.toNat))

/-- Drop the staged members of a group (R64, R397). -/
def dropGroup (d : Dev) (g : Img) (grp : Nat) : Dev :=
  let ms := groupMembers g grp
  let i := pidInst grp
  let d := d.onRunning (fun q =>
    let q := ms.foldl (fun q p => match q.field p with | some c => if c.host then q.unstage p else q | none => q) q
    if pidField grp = 0x0F0 then
      { q with coefS := q.coefS.filter (fun c => !(c.host && c.due.isNone && c.rcd.loop == i / 2 && c.rcd.bank == i % 2)) }
    else q)
  d.onMgmt (fun m => { m with
    next := m.next.map (fun c => if ms.contains c.pid then { c with staged := none } else c)
    deliver := m.deliver.map (fun e => (e.1, e.2.filter (fun v => !ms.contains v.1))) })

/-- The bell at or after the next boundary. -/
def Dev.nextBell (d : Dev) : Nat := d.nextFc + (d.k - d.time.fcIdx) % d.k * d.tf
/-- The first commit point at least 2 T_F after GT t: a bell for class B (R20, R396). -/
def Dev.pointAfter (d : Dev) (t : Nat) (bell : Bool) : Nat :=
  let n := if bell then d.nextBell else d.nextFc
  let step := if bell then d.tn else d.tf
  n + ceilDiv (t + 2 * d.tf - n) step * step

/-- The staged values of a group take the commit point g. -/
def assignGroup (d : Dev) (im : Img) (g : Nat) (grp : Nat) : Dev :=
  let gt := BitVec.ofNat 64 g
  let i := pidInst grp
  if pidField grp = 0x0F0 then
    d.onRunning (fun q => { q with coefS := q.coefS.map (fun c =>
      if c.host && c.due.isNone && c.rcd.loop == i / 2 && c.rcd.bank == i % 2 then { c with due := some gt } else c) })
  else (groupMembers im grp).foldl (fun d p =>
    match d.stagedVal (d.lane d.lowLane) p with
    | none => d
    | some (v, _) =>
      if isNextRelease p then d.onNext p (fun c => { c with staged := none, due := c.due ++ [(gt, v)] })
      else tellPartner (d.onRunning (fun q => q.assign p gt)) p v (some gt)) d

def cmdCommit (d : Dev) (r : Request) : Dev :=
  command d r 0x0103 (fun d =>
    let g := d.img
    let q := d.lane d.lowLane
    if !d.isActive then refuse d r 0x0103 0x13 1
    else match namesBad g r with
    | some (s, t) => refuse d r 0x0103 s t
    | none =>
      let groups := (d.named g q r).filter (fun x => decide (0 < (d.stagedOf g q x).2.1))
      let val := fun (p : Nat) => match d.stagedVal q p with | some (v, _) => v | none => q.cfgVal (pidField p) (pidInst p)
      let sets := (q.coefS.filter (fun c => c.due.isSome || groups.contains (pidOf 0x0F0 (2 * c.rcd.loop + c.rcd.bank)))).map (·.rcd)
      let bad := groups.filter (fun x => !groupOk g q val sets x)
      if groups.isEmpty then refuse d r 0x0103 0x13 4
      else if groups.any (fun x => (d.stagedOf g q x).2.1 != (d.stagedOf g q x).1) then refuse d r 0x0103 0x16 0
      else if !bad.isEmpty then refuse (bad.foldl (fun d x => dropGroup d g x) d) r 0x0103 0x12 4
      else
        let at_ := groups.foldl (fun a x => max a (d.stagedOf g q x).2.2) 0
        let p := d.pointAfter at_ (groups.any groupClsB)
        (accept (groups.foldl (fun d x => assignGroup d g p x) d) r 0x0103 p groups).1)

def cmdDiscard (d : Dev) (r : Request) : Dev :=
  command d r 0x0104 (fun d =>
    let g := d.img
    if !d.isActive then refuse d r 0x0104 0x13 1
    else match namesBad g r with
    | some (s, t) => refuse d r 0x0104 s t
    | none => okay ((d.named g (d.lane d.lowLane) r).foldl (fun d x => dropGroup d g x) d) r 0x0104 [])

/-! ### CALIBRATE -/

/-- The lane of a calibration instance. -/
def calLane (p : Nat) : Lane := laneOf (bits (pidInst p) 19 18)
/-- Post a STATE record. -/
def Dev.stateRec (d : Dev) (type : Nat) (payload : List Byte) : Dev :=
  d.post { type := type, cls := 1, source := 0, payload := payload }
/-- The journal record of a calibration: TYPE 0x0060 or 0x0063 (Table 22-8). -/
def calRecord (d : Dev) (p : Nat) (v w : DWord) : Dev :=
  let i := pidInst p
  if pidField p = 0x080 then
    d.stateRec 0x60 (leBytes (bits i 19 18) 1 ++ leBytes (bits i 17 12) 1 ++ leBytes (bits i 11 10) 1 ++ leBytes 0 1 ++
      leBytes (dw v 15 0) 2 ++ leBytes (dw w 15 0) 2)
  else
    d.stateRec 0x63 (leBytes (bits i 19 18) 1 ++ leBytes (bits i 1 0) 1 ++ leBytes 0 2 ++ leBytes (dw w 15 0) 2 ++ leBytes 0 2 ++
      leBytes (dw v 47 0) 6 ++ leBytes 0 2)
/-- The two values of the request: GC and OC, or RDC_AMP as a signal word in two words and RDC_PHASE. -/
def calValues (r : Request) (adc : Bool) : DWord × DWord :=
  let int := fun (i : Nat) => valOfInt (signedBits (argOf r i) 32)
  if adc then (int 1, int 2) else (BitVec.ofNat 64 (argOf r 1 + argOf r 2 * 2 ^ 32), int 3)
/-- A calibration field takes a value at GT g in its lane. -/
def calAssign (q : LaneSt) (p : Nat) (v : DWord) (g : Nat) : LaneSt :=
  q.onField p true (fun c => { c with due := c.due ++ [(BitVec.ofNat 64 g, v)] })
def cmdCalibrate (d : Dev) (r : Request) : Dev :=
  command d r 0x0105 (fun d =>
    let p := argOf r 0
    let f := pidField p
    let i := pidInst p
    let adc := f == 0x080
    let l := calLane p
    if pidCopy p then refuse d r 0x0105 0x14 0
    else if f != 0x080 && f != 0x089 then refuse d r 0x0105 0x12 (if (fieldInfo f).isSome then 6 else 1)
    else if r.args.length != (if adc then 3 else 4) then refuse d r 0x0105 4 0
    else if !instOk d.img f i then refuse d r 0x0105 0x12 2
    else if !d.runs l then refuse d r 0x0105 0x13 3
    else
      let v := calValues r adc
      match (fieldInfo f).bind (fun x => checkValue f i x v.1), (fieldInfo (f + 1)).bind (fun x => checkValue (f + 1) i x v.2) with
      | some a, some b =>
        let g := d.pointAfter d.gt false
        let d := (calRecord d p a b).onLane l (fun q => calAssign (calAssign q p a g) (pidOf (f + 1) i) b g)
        (accept d r 0x0105 g [p]).1
      | _, _ => refuse d r 0x0105 0x12 3)

/-! ### PARAM_READ -/

/-- Measured amplitude in the unit of RDC_AMP and measured phase of a resolver channel. -/
def measuredVal (d : Dev) (f i : Nat) : DWord :=
  let c := (d.lane (laneOf (bits i 19 18))).rdcAt (bits i 1 0)
  if f = 0x08B then valOfSig (sigRat ((c.measAmp : Int), 1000000)) else valOfInt c.measPh
/-- The value of a field's shadow or live copy, and whether a staged or assigned value waits. A next-release value whose commit
point has passed stands in `due` with commit point zero: written to the journal, not in force. -/
def shadowVal (c : CfgField) (live : Bool) : DWord × Bool :=
  let pending := c.staged.isSome || c.due.any (fun e => e.1 != 0)
  (if live then c.live else match c.staged with
    | some v => v
    | none => match c.due.getLast? with | some e => e.2 | none => c.live, pending)
def cmdParamRead (d : Dev) (r : Request) : Dev :=
  command d r 0x0102 (fun d =>
    let g := d.img
    -- group 0x0F1 is the same as field 0x022
    let p := if pidField (argOf r 0) = 0x0F1 then pidOf 0x022 (pidInst (argOf r 0)) else argOf r 0 % 2 ^ 31
    let f := pidField p
    let i := pidInst p
    match fieldInfo f with
    | none => refuse d r 0x0102 0x12 1
    | some x =>
      if !instOk g f i then refuse d r 0x0102 0x12 2
      else
        let l := if x.kind == .calOnly then calLane p else d.lowLane
        let vp : DWord × Bool :=
          if x.kind == .readOnly then (measuredVal d f i, false)
          else if x.kind == .imageOnly || x.kind == .group then (g.cfgWord p, false)
          else match (if isNextRelease p then d.nextField p else (d.lane l).field p) with
            | some c => shadowVal c (pidCopy (argOf r 0))
            | none => (cfgDefault p, false)
        okay d r 0x0102 (twoWords vp.1.toNat ++ [BitVec.ofNat 32 (flagN vp.2 0 + flagN (fieldHost g p) 1 + flagN (groupClsB p) 2)]))

/-! ### Coefficient sets -/

/-- The values of the set are checked when it commits (Table 3-4, R143, R155). Reserved bytes and padding that are not zero are ignored,
and the capacities of check 0x0C are not looked at again: DESIGN CHOICE, log entry 135. -/
def cmdCoefStage (d : Dev) (r : Request) : Dev :=
  command d r 0x0301 (fun d => withBulk d r 0x0301 (fun d =>
    let g := d.img
    let loop := bits (argOf r 0) 6 0
    let bank := bits (argOf r 0) 8 8
    let hd := d.bulkBytes 0 8
    let n := coefRecLen (leNat ((hd.drop 4).take 2)) (hd.getD 3 0).toNat
    let grp := pidOf 0x0F0 (2 * loop + bank)
    if !d.isActive then refuse d r 0x0301 0x13 1
    else if !g.hasLoop loop then refuse d r 0x0301 0x12 2
    else if !fieldHost g grp then refuse d r 0x0301 0x15 0
    else if r.args.length = 2 && argOf r 1 != n then refuse d r 0x0301 0x12 5
    else
      let c := coefParse (d.bulkBytes 0 n)
      if c.loop != loop || c.bank != bank || !decide (1 ≤ c.stages ∧ c.stages ≤ 8) then refuse d r 0x0301 0x12 3
      else
        let other := fun (x : CoefStage) => !(x.host && x.due.isNone && x.rcd.loop == loop && x.rcd.bank == bank)
        let new : CoefStage := { host := true, at_ := d.gt, due := none, rcd := c }
        okay ((claimBulk d r.sender).onRunning (fun q => { q with coefS := q.coefS.filter other ++ [new] })) r 0x0301 []))
def cmdCoefRead (d : Dev) (r : Request) : Dev :=
  command d r 0x0302 (fun d => withBulk d r 0x0302 (fun d =>
    match (d.lane d.lowLane).coefOf (bits (argOf r 0) 6 0) (bits (argOf r 0) 8 8) with
    | some c =>
      let bs := coefRecord c
      okay (putBulk (claimBulk d r.sender) 0 bs) r 0x0302 [BitVec.ofNat 32 bs.length]
    | none => refuse d r 0x0302 0x12 2))

/-- PARAM_STAGE (R395). -/
def execParamStage (r : Request) (s : State) : Host.Outcome State Fault Refusal := s.onDev (fun d => cmdParamStage d r)
/-- PARAM_READ (R393). -/
def execParamRead (r : Request) (s : State) : Host.Outcome State Fault Refusal := s.onDev (fun d => cmdParamRead d r)
/-- COMMIT (R396). -/
def execCommit (r : Request) (s : State) : Host.Outcome State Fault Refusal := s.onDev (fun d => cmdCommit d r)
/-- DISCARD (R397). -/
def execDiscard (r : Request) (s : State) : Host.Outcome State Fault Refusal := s.onDev (fun d => cmdDiscard d r)
/-- CALIBRATE (R397). -/
def execCalibrate (r : Request) (s : State) : Host.Outcome State Fault Refusal := s.onDev (fun d => cmdCalibrate d r)
/-- COEF_STAGE (R83). -/
def execCoefStage (r : Request) (s : State) : Host.Outcome State Fault Refusal := s.onDev (fun d => cmdCoefStage d r)
/-- COEF_READ (R83). -/
def execCoefRead (r : Request) (s : State) : Host.Outcome State Fault Refusal := s.onDev (fun d => cmdCoefRead d r)

end Sys2Proof.Machine
end

