-- ==== Sys2Proof/Machine/Image.lean ====
section
/-! DEFINITION. Timetable images (R71 to R85): the header, the section directory, and the parsed form of an image. Multi-byte fields are
little-endian (R8). -/

namespace Sys2Proof.Machine
open Sys2Proof

def fieldAt (bs : List Byte) (o n : Nat) : Nat := leNat ((bs.drop o).take n)
/-- The first n records of k bytes, or as many as there are. -/
def recsOf (k : Nat) : Nat → List Byte → List (List Byte)
  | 0, _ => []
  | _ + 1, [] => []
  | n + 1, b :: r => (b :: r).take k :: recsOf k n ((b :: r).drop k)
/-- n records of k bytes from offset o. -/
def recsAt (bs : List Byte) (o k n : Nat) : List (List Byte) := recsOf k n (bs.drop o)
/-- 64-bit words of a byte string, n at most. -/
def wordsAt : Nat → List Byte → List DWord
  | 0, _ => []
  | _ + 1, [] => []
  | n + 1, b :: r => BitVec.ofNat 64 (leNat ((b :: r).take 8)) :: wordsAt n ((b :: r).drop 8)

/-- The signature block: 7,296 bytes (Table 4-8). -/
def sigSize : Nat := 7296
/-- Directory record i: offset and size. -/
def dirAt (bs : List Byte) (i : Nat) : Nat × Nat := (fieldAt bs (0x40 + 8 * i) 4, fieldAt bs (0x44 + 8 * i) 4)
def section_ (bs : List Byte) (i : Nat) : List Byte := (bs.drop (dirAt bs i).1).take (dirAt bs i).2

def modeOfBytes (r : List Byte) : ModeRec :=
  { start := fieldAt r 0 4, count := fieldAt r 4 4, net := fieldAt r 8 2, number := fieldAt r 10 1 }
def sigOfBytes (r : List Byte) : SigRec :=
  let f := fieldAt r 6 2
  { init := sigOfNat (fieldAt r 0 6), kind := bits f 15 14, inState := f.testBit 13, host := f.testBit 12, rollcall := f.testBit 11,
    index := fieldAt r 8 2, nameId := BitVec.ofNat 32 (fieldAt r 12 4) }
def cfgOfBytes (r : List Byte) : CfgRec :=
  { pid := fieldAt r 0 4, host := fieldAt r 4 1 == 1, value := BitVec.ofNat 64 (fieldAt r 8 8) }
/-- Coefficient records one after another. -/
def coefsOfBytes : Nat → List Byte → List CoefRec
  | 0, _ => []
  | n + 1, l =>
    if l.length < 8 then []
    else
      let c := coefParse l
      c :: coefsOfBytes n (l.drop (coefRecLen c.sections c.stages))
def slotOfBytes (r : List Byte) : SlotRec :=
  { start := fieldAt r 0 4, len := fieldAt r 4 2, ports := fieldAt r 6 2, number := fieldAt r 8 1, txNode := fieldAt r 9 1,
    maxLen := fieldAt r 10 2, kind := fieldAt r 12 1 }
/-- The network table at an offset of its section. -/
def netOfBytes (bs : List Byte) (o : Nat) : NetTable :=
  { window := fieldAt bs (o + 2) 2, hop := fieldAt bs (o + 4) 2, pairDelay := fieldAt bs (o + 6) 2, recess := fieldAt bs (o + 8) 4,
    slots := (recsAt bs (o + 16) 16 (fieldAt bs o 2)).map slotOfBytes }

/-- An image as its bytes spell it. -/
def imageOf (bs : List Byte) : Img :=
  let sec := section_ bs
  let st := sec 4
  let nets := sec 7
  { size := fieldAt bs 8 4, tfCode := fieldAt bs 0x10 1, k := fieldAt bs 0x11 1, initialMode := fieldAt bs 0x13 1,
    rateLimit := fieldAt bs 0x14 1, paired := (fieldAt bs 0x15 1).testBit 0, secVersion := fieldAt bs 0x18 4,
    imageId := BitVec.ofNat 64 (fieldAt bs 0x20 8), digest := (bs.drop (bs.length - sigSize + 8)).take 64,
    modes := (recsAt (sec 0) 0 16 (fieldAt bs 0x12 1)).map modeOfBytes,
    entries := wordsAt ((dirAt bs 1).2 / 8) (sec 1), descs := wordsAt ((dirAt bs 2).2 / 8) (sec 2),
    sigmap := (recsAt (sec 3) 0 16 ((dirAt bs 3).2 / 16)).map sigOfBytes,
    ranges := (recsAt st 4 8 (fieldAt st 0 4)).map (fun r => (fieldAt r 0 4, fieldAt r 4 4)),
    coefs := coefsOfBytes 257 (sec 5),
    config := (recsAt (sec 6) 0 16 ((dirAt bs 6).2 / 16)).map cfgOfBytes,
    nets := (List.range (min (fieldAt nets 0 4) (nets.length / 4))).map (fun i => netOfBytes nets (fieldAt nets (4 + 4 * i) 4)) }
/-- KEY_SLOT of the signature block. -/
def imageKeySlot (bs : List Byte) : Nat := fieldAt bs (bs.length - sigSize + 4) 1

end Sys2Proof.Machine
end

