-- ==== Sys2Proof/Machine/RollCall.lean ====
section
/-! DEFINITION. The roll call: the exchange and its echo round (R124 to R126), selection (R127, R128, R131), attribution
(R129, R130), the replica comparison (R43), and the pair roll-call selection (R133, R480). -/

namespace Sys2Proof.Machine
open Sys2Proof

/-! ### Selection of one signal -/

/-- KIND of Table 4-7: 2 discrete, 3 counter; the rest are compared as analog. -/
def SigRec.discrete (r : SigRec) : Bool := r.kind == 2
def SigRec.counter (r : SigRec) : Bool := r.kind == 3
/-- A signal's record, or one that says nothing of it. -/
def Img.sigD (g : Img) (i : Nat) : SigRec :=
  (g.sig i).getD { init := sigZero, kind := 0, inState := false, host := false, rollcall := false, index := i, nameId := 0 }
/-- What a lane remembers of a roll-called signal: last(s) is INIT before the first selection. -/
def LaneSt.rcOf (s : LaneSt) (g : Img) (i : Nat) : RcSig :=
  (s.rc.find? (fun r => r.idx == i)).getD
    { idx := i, last := (g.sigD i).init, suspect := Tri.all false, failed := Tri.all false, good := Tri.all 0, cands := 3 }
def LaneSt.putRc (s : LaneSt) (r : RcSig) : LaneSt :=
  { s with rc := if s.rc.any (fun x => x.idx == r.idx) then s.rc.map (fun x => if x.idx == r.idx then r else x) else s.rc ++ [r] }

/-- LOW ≤ d ≤ HIGH (R127). -/
def inBand (lo hi d : Dy) : Bool := dyLe lo d && dyLe d hi
/-- The middle of three by ≤, ties being equal. -/
def middle {α : Type} (le : α → α → Bool) (a b c : α) : α :=
  if le a b then (if le b c then b else if le a c then c else a)
  else (if le a c then a else if le b c then c else b)
/-- The signed 32-bit step from `last` to v (R127). -/
def stepFrom (last v : SigWord) : Int := (v.mant - last.mant).toInt
/-- A step as a value at exponent e. -/
def stepVal (e n : Int) : Dy := ⟨n, e - 31⟩

/-- Is lane x's value of the signal a candidate? -/
def isCand (r : SigRec) (v : SigWord) : Bool :=
  v.st.valid && (!(r.discrete || r.counter) || v.exp == r.init.exp)

/-- The reference and the lanes that agree, from the candidates in lane order: mantissa and exponent of the result. -/
def refOf (r : SigRec) (lo hi : Dy) (last : SigWord) (cand : List (Lane × SigWord)) : (BitVec 32 × BitVec 8) × List (Lane × SigWord) :=
  let e := sigExp r.init
  let none' := ((last.mant, last.exp), [])
  match cand with
  | [(la, a), (lb, b), (lc, c)] =>
    let all := [(la, a), (lb, b), (lc, c)]
    if r.discrete then
      let m := (a.mant &&& b.mant) ||| (a.mant &&& c.mant) ||| (b.mant &&& c.mant)
      ((m, r.init.exp), all.filter (fun v => v.2.mant == m))
    else if r.counter then
      let m := middle (fun x y => decide (x ≤ y)) (stepFrom last a) (stepFrom last b) (stepFrom last c)
      ((last.mant + BitVec.ofInt 32 m, r.init.exp),
        all.filter (fun v => inBand lo hi (stepVal e (stepFrom last v.2 - m))))
    else
      let m := middle sigLe a b c
      ((m.mant, m.exp), all.filter (fun v => inBand lo hi (dySub (sigVal v.2) (sigVal m))))
  | [(la, a), (lb, b)] =>
    let both := [(la, a), (lb, b)]
    if r.discrete then ((a.mant, r.init.exp), if a.mant == b.mant then both else [])
    else if r.counter then
      let x := stepFrom last a
      let y := stepFrom last b
      ((last.mant + BitVec.ofInt 32 ((x + y) / 2), r.init.exp), if inBand lo hi (stepVal e (x - y)) then both else [])
    else
      let lsb := 31 - min (sigExp a) (sigExp b)
      let w := mkSig ⟨dyFloorAt (dyScale (dyAdd (sigVal a) (sigVal b)) (-1)) lsb, -lsb⟩ Status.ok
      ((w.mant, w.exp), if inBand lo hi (dySub (sigVal a) (sigVal b)) then both else [])
  | _ => none'

/-- The status of the lowest-indexed agreeing lane with the LIMITED, STALE and SUBST bits of all (R131). -/
def agreeSt : List (Lane × SigWord) → Status
  | [] => Status.clear
  | (_, w) :: r =>
    let any := fun (f : Status → Bool) => r.any (fun v => f v.2.st)
    { valid := w.st.valid, limited := w.st.limited || any (·.limited), stale := w.st.stale || any (·.stale),
      subst := w.st.subst || any (·.subst) }

/-- The substitute of R127 at the lane level. -/
def substWord (init last : SigWord) (code : Int) : SigWord :=
  if code = 1 then { init with st := { init.st with subst := true } }
  else { last with st := { last.st with subst := true, stale := true } }

/-- One selection: the word, last(s) after it, whether it was substituted, the agreeing lanes. -/
structure Pick where
  out   : SigWord
  last  : SigWord
  subst : Bool
  agree : List Lane
  deriving DecidableEq, Repr
def pick (r : SigRec) (lo hi : Dy) (code : Int) (last : SigWord) (cand : List (Lane × SigWord)) : Pick :=
  match refOf r lo hi last cand with
  | (ref, ag) =>
    if 2 ≤ ag.length then
      let out : SigWord := ⟨ref.1, ref.2, agreeSt ag⟩
      { out := out, last := out, subst := false, agree := ag.map (·.1) }
    else
      let out := substWord r.init last code
      { out := out, last := if code = 1 then out else last, subst := true, agree := ag.map (·.1) }

/-! ### Marks (R129) -/

/-- Marks of one lane for one signal after an exchange: suspect, failed, good; and whether it was marked. -/
def markStep (sus fail : Bool) (good : Nat) (isC agrees : Bool) : (Bool × Bool × Nat) × Bool :=
  if agrees then
    let n := if sus || fail then good + 1 else 0
    if 1024 ≤ n then ((false, false, 0), false) else ((sus, fail, n), false)
  else if isC then ((true, fail, 0), true)
  else ((sus, true, 0), true)

/-- The signal's memory after an exchange: the live set used, the candidates' lanes, the pick. An exchange in which a lane is not live
breaks its series of good ones. -/
def RcSig.after (r : RcSig) (live cand : List Lane) (k : Pick) : RcSig :=
  let one := fun (x : Lane) =>
    if live.contains x then (markStep (r.suspect.get x) (r.failed.get x) (r.good.get x) (cand.contains x) (k.agree.contains x)).1
    else (r.suspect.get x, r.failed.get x, 0)
  { r with last := k.last, cands := cand.length,
           suspect := ⟨(one .a).1, (one .b).1, (one .c).1⟩,
           failed := ⟨(one .a).2.1, (one .b).2.1, (one .c).2.1⟩,
           good := ⟨(one .a).2.2, (one .b).2.2, (one .c).2.2⟩ }

/-- Records of the marks that changed (TYPE 0x0021), as (UNIT, lane, NAME_ID). -/
def markRecords (old new : RcSig) (name : Nat) : List (Nat × Nat × Nat) :=
  lanesAll.flatMap (fun x =>
    let ev := fun (u : Nat) (o n : Bool) => if o == n then [] else [(if n then u else u + 0x80, laneIdx x, name)]
    ev 1 (old.suspect.get x) (new.suspect.get x) ++ ev 2 (old.failed.get x) (new.failed.get x))
/-! ### The exchange -/

/-- Signal i of a roll-call descriptor (R479). -/
def rcIndex (g : Img) (x i : Nat) : Nat := idx15 (g.desc x (1 + i / 4)) 63 (i % 4)
def rcIndices (g : Img) (x : Nat) : List Nat := (List.range (g.descCount x)).map (rcIndex g x)

/-- Who takes part in an exchange: `live` the live set used (R126), `sent` the lanes that sent their blocks, `run` those that are still
running when the echoes are judged, `echo` those that sent theirs. -/
structure ExLanes where
  live : List Lane
  sent : List Lane
  run  : List Lane
  echo : List Lane
  deriving DecidableEq, Repr
/-- The witnesses of the block of x (R125): a live lane that has gone out is none. -/
def ExLanes.witnesses (e : ExLanes) (x : Lane) : List Lane := e.live.filter (fun w => w != x && e.run.contains w)
/-- Does witness w report x's block PRESENT, as lane y has its echo? -/
def ExLanes.present (e : ExLanes) (f : ExchangeFaults) (x y w : Lane) : Bool :=
  e.sent.contains x && e.echo.contains w && !f.lost.contains (x, w) && (w == y || !f.echoLost.contains (w, y))
/-- Does lane y accept the block of x? -/
def accepts (f : ExchangeFaults) (e : ExLanes) (x y : Lane) : Bool :=
  let ws := e.witnesses x
  e.sent.contains x && ws.all (e.present f x y) && (ws.length < 2 || ws.all (fun w => !f.split.contains (x, w)))
/-- Refused because its two witnesses' reports, as y has them, differ (R125). -/
def echoDiffers (f : ExchangeFaults) (e : ExLanes) (x y : Lane) : Bool :=
  match e.witnesses x with
  | [v, w] =>
    let pv := e.present f x y v
    let pw := e.present f x y w
    pv != pw || (pv && pw && (f.split.contains (x, v) || f.split.contains (x, w)))
  | _ => false

/-- The word of signal i that lane y holds from lane x: its own version where the sender split its block, which the spec leaves
open. -/
def blockWord (d : Dev) (f : ExchangeFaults) (x y : Lane) (i : Nat) : SigWord :=
  if x != y && (f.split.contains (x, y) || f.lost.contains (x, y)) then
    sigOfNat (Config.splitWord (3 * d.draws + laneIdx x) i).toNat
  else (d.lane x).sig i

/-- What lane y does at clock 1,200 to 1,279 with signal i: its new words and memory, with its records. -/
def selectSig (d0 : Dev) (g : Img) (f : ExchangeFaults) (e : ExLanes) (y : Lane) (d : Dev) (i : Nat) : Dev :=
  let q := d.lane y
  let r := g.sigD i
  let cand := (e.live.filter (fun x => accepts f e x y)).map (fun x => (x, blockWord d0 f x y i))
  let cand := cand.filter (fun v => isCand r v.2)
  let old := q.rcOf g i
  let k := pick r (q.cfgDy 0x010 i) (q.cfgDy 0x011 i) (q.cfgInt 0x012 i) old.last cand
  let new := old.after e.live (cand.map (·.1)) k
  let mk := fun (x : Lane) (l : List Nat) =>
    if e.live.contains x && !(k.agree.contains x) then insertNew l i else l
  let d := d.onLane y (fun q =>
    { (q.setSig i k.out).putRc new with
      rcs := { q.rcs with
        substN := if k.subst then q.rcs.substN + 1 else q.rcs.substN,
        marked := ⟨mk .a q.rcs.marked.a, mk .b q.rcs.marked.b, mk .c q.rcs.marked.c⟩ } })
  if y = d.lowLane then
    let n := ((g.sigmap.filter (·.rollcall)).map (·.index)).idxOf i
    (if k.subst && decide (n < 2048) then d.count (cConflict n) 1 else d).markNotes (d.gt + 1024) (markRecords old new r.nameId.toNat)
  else d

/-- Lane-suspect marks after the exchange (R129). -/
def suspectStep (f : ExchangeFaults) (e : ExLanes) (y : Lane) (d : Dev) : Dev :=
  let q := d.lane y
  let refused := fun x => e.live.contains x && !(accepts f e x y)
  let sus := fun x => q.laneS.get x || refused x || decide (2 ≤ (q.rcs.marked.get x).length)
  let newL := lanesAll.filter (fun x => sus x && !q.laneS.get x)
  let mis := (e.live.filter (fun x => echoDiffers f e x y)).length
  let d := d.onLane y (fun q =>
    { q with laneS := ⟨sus .a, sus .b, sus .c⟩, rcs := { q.rcs with echoMis := min 255 (q.rcs.echoMis + mis) } })
  if y = d.lowLane then d.markNotes (d.gt + 1024) (newL.map (fun x => (3, laneIdx x, 0))) else d

/-- A free-running lane steers its replica rate toward the median (R43), so that what it is off by would be gone a fast cycle later, by
at most 20 ppm. The law is a DESIGN CHOICE: log entry 127. `med`, `medDrift`: deviation and drift of the median replica. -/
def SeqSt.steer (s : SeqSt) (raw n tf : Nat) (med medDrift : Int) : SeqSt :=
  let dev := s.devWhen raw
  let by_ := max (-85899) (min 85899 ((med - dev) / tf - (s.drift - medDrift)))
  { s.anchor n with corr := s.corr + by_, dev := dev, devAt := raw, drift := s.drift + by_ }
/-- The replicas compared at the exchange (R43): more than 10 ns (6.4 GT units) from the median of three at two exchanges in a row takes
the lane out with cause 0x7; while free-running the replica moves toward the median. -/
def replicaStep (d : Dev) (here : List Lane) : Dev :=
  if here.length < 3 then d
  else
    let raw := d.time.raw
    let v := fun (l : Lane) => ((d.lane l).seq.devWhen raw, (d.lane l).seq.drift)
    let m := middle (fun (x y : Int × Int) => decide (x.1 ≤ y.1)) (v .a) (v .b) (v .c)
    here.foldl (fun d l =>
      let s := (d.lane l).seq
      let n := if 27487790694 < (s.devWhen raw - m.1).natAbs then s.offMed + 1 else 0
      let s' := if s.freeRun then s.steer raw (d.laneClk l) d.tf m.1 m.2 else s
      let d := d.onSeq l (fun _ => { s' with offMed := n })
      if 2 ≤ n then (d.takeOut l 7 0 0).laneRec l 0 0x15 3 (laneIdx l) 0 0 else d) d

/-- The lanes that have dispatched send and echo: one that writes to a full lane → lane queue is taken out and sends nothing (R34); one
in `stopped` goes out after its block. Marked: log entry 129. -/
def exchangeSend (d : Dev) (f : ExchangeFaults) (e : Entry) (at_ : List Lane) : Dev × ExLanes :=
  let live := d.vot.liveFc
  let p := fun (l : Lane) => (d.lane l).seq.ptr - 1
  let d := (at_.filter (fun l => d.runs l && f.full.contains l)).foldl (fun d l => d.takeOut l 5 (p l) e.unit) d
  let sent := at_.filter d.runs
  let d := (sent.filter f.stopped.contains).foldl (fun d l => d.takeOut l 6 0 0) d
  (d, { live := live, sent := sent, run := lanesAll.filter d.runs, echo := sent.filter d.runs })

/-- ROLL_CALL_EXCHANGE (class 0x28): every running lane whose entry it is dispatches, exchanges and selects; the selected words become
visible at clock 1,280 (R124). -/
def execRollCallExchange (f : ExchangeFaults) (s : State) : Host.Outcome State Fault Refusal :=
  s.onDev (fun d =>
    match d.boot.running, (lanesAll.filter d.runs).filterMap d.entryAt with
    | some g, e0 :: es =>
      match (e0 :: es).find? (fun e => e.cls == 0x28) with
      | none => d
      | some e =>
        let at_ := (lanesAll.filter d.runs).filter (fun l => d.entryAt l == some e)
        let d := at_.foldl (fun d l => (startEntry d l (f.parity.contains l) e g).1) d
        let d0 := d
        match exchangeSend d f e at_ with
        | (d, x) =>
          let d := x.echo.foldl (fun d y =>
            holdBack y e [] none d (suspectStep f x y ((rcIndices g e.operand).foldl (selectSig d0 g f x y) d))) d
          replicaStep { d with draws := d.draws + 1 } (x.echo.filter d.isLive)
    | _, _ => d)

/-! ### The pair roll call -/

/-- v_first − v_second as R128 forms it for the kind. -/
def pairDiff (r : SigRec) (v w : SigWord) : Dy :=
  if r.counter then stepVal (sigExp r.init) (v.mant - w.mant).toInt else dySub (sigVal v) (sigVal w)

/-- The result for one signal: the word, last(s) after it, whether the SUBST rule resolved it, whether the partner was absent
(R133). -/
def pairPick (r : SigRec) (lo hi : Dy) (code : Int) (first absent : Bool) (own partner last : SigWord) :
    SigWord × SigWord × Bool × Bool :=
  if absent then
    let o := { own with st := { own.st with subst := true } }
    (o, o, false, true)
  else
    let v1 := if first then own else partner
    let v2 := if first then partner else own
    if inBand lo hi (pairDiff r v1 v2) then (v1, v1, false, false)
    else if code = 2 then
      let o := { v2 with st := { v2.st with subst := true } }
      (o, o, true, false)
    else
      let o := substWord r.init last code
      (o, if code = 1 then o else last, true, false)

/-- The role held at the fast-cycle boundary before: the active device ranks first. -/
def Dev.ranksFirst (d : Dev) : Bool := d.pair.rankFirst

/-- One body word of the descriptor (R480). The last value that SUBST = 0b00 takes is the one the group of OUT holds: that of the last pair
selection into OUT, or of the last lane exchange where OUT is roll-called itself. DESIGN CHOICE: log entry 151. -/
def pairSig (g : Img) (x : Nat) (first : Bool) (q0 q : LaneSt) (i : Nat) : LaneSt :=
  let w := g.desc x (1 + i)
  let own := q0.sig (dw w 63 49)
  let par := q0.sig (dw w 48 34)
  let o := dw w 33 19
  let r := g.sigD o
  let rc := q.rcOf g o
  match pairPick r (q.cfgDy 0x010 o) (q.cfgDy 0x011 o) (q.cfgInt 0x012 o) first (par.st.stale || !par.st.valid) own par rc.last with
  | (out, last, sub, abs) =>
    let q := (q.setSig o out).putRc { rc with last := last }
    { q with rcs := { q.rcs with pairN := if sub then q.rcs.pairN + 1 else q.rcs.pairN, absent := q.rcs.absent || abs } }

/-- PAIR_ROLL_CALL_SELECTION (class 0x29). -/
def execPairRollCallSelection (l : Lane) (p : Bool) (s : State) : Host.Outcome State Fault Refusal :=
  s.onDev (fun d => dispatch d l p (clsIs 0x29) (fun g e d =>
    let q0 := (d.lane l)
    let q1 := { q0 with rcs := { q0.rcs with absent := false } }
    let q2 := (List.range (g.descCount e.operand)).foldl (pairSig g e.operand d.ranksFirst q0) q1
    d.onLane l (fun _ => q2)))

end Sys2Proof.Machine
end

