-- ==== Sys2Proof/Machine/ImageForm.lean ====
section
/-! DEFINITION. The form checks of a timetable image: 0x01 and 0x03 to 0x0A of Table 4-9 (R71 to R76, R79 and the descriptor rules of
the chapters that own the units). Each answers whether the image passes. -/

namespace Sys2Proof.Machine
open Sys2Proof

/-! ### Header and sections -/

def zeroBytes (bs : List Byte) (o n : Nat) : Bool := ((bs.drop o).take n).all (· == 0)

/-- Check 0x01. -/
def check01 (bs : List Byte) : Bool :=
  let n := bs.length
  let sg := n - sigSize
  decide (0x100 + sigSize ≤ n ∧ n ≤ 0x200000) && fieldAt bs 8 4 == n && fieldAt bs 0 4 == 0x36394854 && fieldAt bs 4 2 == 3 &&
    fieldAt bs 6 2 == 0x100 && fieldAt bs sg 4 == 0x4E474953 && zeroBytes bs (sg + 5) 3 && zeroBytes bs (sg + 7291) 5
/-- Check 0x04: MIN_FW is acceptable when it is at most 0x0302 and at most the firmware's version. -/
def check04 (fwVer : Nat) (bs : List Byte) : Bool :=
  fieldAt bs 0x0C 1 == 0xB0 && fieldAt bs 0x0D 1 == 3 && decide (fieldAt bs 0x0E 2 ≤ 0x0302 ∧ fieldAt bs 0x0E 2 ≤ fwVer)
/-- Check 0x05: k × T_F ≤ 1,600 µs = 1,024,000 GT units. -/
def check05 (bs : List Byte) (g : Img) : Bool :=
  decide (g.tfCode ≤ 5 ∧ 2 ≤ g.k ∧ g.k ≤ 64 ∧ g.tn ≤ 1024000) && decide (1 ≤ fieldAt bs 0x12 1 ∧ fieldAt bs 0x12 1 ≤ 8) &&
    (g.mode g.initialMode).isSome && decide (g.rateLimit ≤ 100 ∧ g.secVersion ≤ 63) && decide (fieldAt bs 0x15 1 < 2) &&
    zeroBytes bs 0x16 2 && zeroBytes bs 0x1C 4 && zeroBytes bs 0x28 24 && zeroBytes bs 0xB0 80

/-- Directory record i is present: absent sections have offset and size zero. -/
def present (bs : List Byte) (i : Nat) : Bool := dirAt bs i != (0, 0)
/-- Byte x lies in one of the sections. -/
def inSections (l : List (Nat × Nat)) (x : Nat) : Bool := l.any (fun r => decide (r.1 ≤ x ∧ x < r.1 + r.2))
/-- No two of these intervals meet. -/
def apartAll : List (Nat × Nat) → Bool
  | [] => true
  | r :: t => t.all (fun q => decide (r.1 + r.2 ≤ q.1 ∨ q.1 + q.2 ≤ r.1)) && apartAll t
/-- Check 0x06. -/
def check06 (bs : List Byte) (g : Img) : Bool :=
  let fin := bs.length - sigSize
  let secs := ((List.range 8).filter (present bs)).map (dirAt bs)
  let es := g.entries.map entryOf
  secs.all (fun r => r.1 % 8 == 0 && decide (0x100 ≤ r.1 ∧ r.1 + r.2 ≤ fin)) && apartAll secs &&
    bs.zipIdx.all (fun x => x.1 == 0 || decide (x.2 < 0x100 ∨ fin ≤ x.2) || inSections secs x.2) &&
    [0, 1, 2, 3, 4, 6].all (present bs) && (present bs 5 || !es.any (fun e => e.cls == 8 || e.cls == 12)) &&
    (present bs 7 || g.modes.all (fun m => m.net == 0xFFFF)) && !present bs 8 && !present bs 9

/-- Entry numbers distinct. -/
def distinct : List Nat → Bool
  | [] => true
  | x :: r => !r.contains x && distinct r
/-- Check 0x07: the mode table and the ranges it names. -/
def check07 (bs : List Byte) (g : Img) : Bool :=
  let recs := recsAt (section_ bs 0) 0 16 (fieldAt bs 0x12 1)
  decide ((dirAt bs 0).2 = 16 * fieldAt bs 0x12 1) && recs.all (fun r => zeroBytes r 11 5) && (dirAt bs 1).2 % 8 == 0 &&
    g.modes.all (fun m => decide (m.number ≤ 7 ∧ 1 ≤ m.count ∧ m.count ≤ 65536 ∧ m.start + m.count ≤ g.entries.length) &&
      (m.net == 0xFFFF || decide (m.net < g.nets.length))) &&
    distinct (g.modes.map (·.number)) && apartAll (g.modes.map (fun m => (m.start, m.count)))

/-! ### Entries -/

/-- The entries of a mode. -/
def Img.entriesOf (g : Img) (m : ModeRec) : List Entry := ((g.entries.drop m.start).take m.count).map entryOf
/-- The entries of every mode, in mode table order. -/
def Img.allEntries (g : Img) : List Entry := g.modes.flatMap g.entriesOf
def rising : List Nat → Bool
  | a :: b :: r => decide (a ≤ b) && rising (b :: r)
  | _ => true
/-- Check 0x08. -/
def check08 (g : Img) : Bool :=
  g.modes.all (fun m =>
    let o := (g.entriesOf m).map (·.offset)
    o.all (fun x => decide (x < g.tn)) && rising o)

/-- The units of a class: lowest and highest code (Table 4-5). -/
def unitsOf (cls : Nat) : Option (Nat × Nat) :=
  match cls with
  | 0x00 => some (0, 0)
  | 0x01 => some (0, 0)
  | 0x02 => some (0, 0)
  | 0x03 => some (0, 0)
  | 0x08 => some (0x01, 0x04)
  | 0x09 => some (0x05, 0x05)
  | 0x0A => some (0x05, 0x05)
  | 0x0B => some (0x05, 0x05)
  | 0x0C => some (0x05, 0x05)
  | 0x10 => some (0x08, 0x0F)
  | 0x11 => some (0x08, 0x0F)
  | 0x12 => some (0x08, 0x0F)
  | 0x13 => some (0x10, 0x17)
  | 0x18 => some (0x18, 0x1B)
  | 0x19 => some (0x1C, 0x1F)
  | 0x1A => some (0x20, 0x20)
  | 0x1B => some (0x2A, 0x2A)
  | 0x20 => some (0x21, 0x21)
  | 0x21 => some (0x22, 0x23)
  | 0x22 => some (0x24, 0x24)
  | 0x28 => some (0x25, 0x25)
  | 0x29 => some (0x25, 0x25)
  | 0x30 => some (0x26, 0x26)
  | 0x31 => some (0x26, 0x26)
  | 0x34 => some (0x27, 0x27)
  | 0x35 => some (0x28, 0x28)
  | 0x38 => some (0x29, 0x29)
  | _ => none
/-- OPERAND is a descriptor index, not an immediate. -/
def byDesc (cls : Nat) : Bool := !([0, 1, 2, 0x38].contains cls)
/-- Check 0x09, over the entries of the modes. Words of the section that lie in no mode's range are no entries: DESIGN CHOICE, log
entry 105. -/
def check09 (g : Img) : Bool :=
  g.allEntries.all (fun e =>
    (match unitsOf e.cls with | some u => decide (u.1 ≤ e.unit ∧ e.unit ≤ u.2) | none => false) &&
    (if e.cls = 0 ∨ e.cls = 0x38 then e.operand == 0 else if e.cls = 2 then decide (e.operand < 8) else true))

/-! ### Descriptors -/

/-- LENGTH of the descriptor at x. -/
def Img.descLen (g : Img) (x : Nat) : Nat := dw (g.desc x 0) 57 48
/-- Bits hi to lo of word i of the descriptor at x are zero. -/
def zeroAt (g : Img) (x i hi lo : Nat) : Bool := dw (g.desc x i) hi lo == 0
def popBits (n w : Nat) : Nat := ((List.range n).filter (fun i => w.testBit i)).length

/-- The operands A, B and C that a signal operation uses (Table 7-4). -/
def opUses (op : Nat) : Bool × Bool :=
  let b := [1, 2, 3, 4, 7, 8, 9, 10, 13, 14, 15, 16, 18, 19, 20]
  let c := [4, 9, 13, 15, 16]
  (b.contains op, c.contains op)
def okSigOp (g : Img) (x : Nat) : Bool :=
  let t := sigOpOf g x
  let u := opUses t.op
  decide (t.op ≤ 0x15 ∧ t.cond ≤ 5) && (u.1 || t.b == 0) && (u.2 || t.c == 0) && zeroAt g x 1 12 0 && zeroAt g x 2 31 0
def okStage (g : Img) (x : Nat) : Bool :=
  let t := stageOf g x
  decide (1 ≤ t.n ∧ t.n ≤ 8) && zeroAt g x 1 10 0 && zeroAt g x 2 7 0 && t.addr % 8 == 0 &&
    decide (t.expMin ≤ t.expInit ∧ t.expInit ≤ t.expMax) &&
    g.coefs.any (fun c => c.loop == t.loop && c.bank == 0 && decide (t.stage < c.stages ∧ t.base + t.n ≤ c.sections))
def okLookup1 (g : Img) (x : Nat) : Bool :=
  let n := dw (g.desc x 1) 33 25
  decide (2 ≤ n ∧ n ≤ 257) && g.descLen x == 3 + ceilDiv n 2 && zeroAt g x 1 8 0 && zeroAt g x 2 63 48
def okLookup2 (g : Img) (x : Nat) : Bool :=
  let nx := dw (g.desc x 1) 18 13
  let ny := dw (g.desc x 1) 12 7
  decide (2 ≤ nx ∧ nx ≤ 33 ∧ 2 ≤ ny ∧ ny ≤ 33) && g.descLen x == 5 + ceilDiv (nx * ny) 2 && zeroAt g x 1 6 0 && zeroAt g x 2 39 0 &&
    zeroAt g x 3 63 48 && zeroAt g x 4 63 48
/-- R156: the loop's final stage owns the state block, the section and Y; one loop close per loop. -/
def okLoopClose (g : Img) (es : List Entry) (x : Nat) : Bool :=
  let t := loopOf g x
  let last := (es.filter (fun e => e.cls == 8)).filter (fun e =>
    let s := stageOf g e.operand
    s.loop == t.loop && g.coefs.any (fun c => c.loop == t.loop && c.bank == 0 && s.stage + 1 == c.stages))
  (t.trkEn || (t.trkVal == 0 && t.trkFlag == 0)) && (t.fbEn || t.fb == 0) && zeroAt g x 1 11 0 && zeroAt g x 2 23 0 &&
    zeroAt g x 3 28 0 && t.out != t.y && !last.isEmpty &&
    last.all (fun e => let s := stageOf g e.operand; s.addr == t.addr && s.n == t.sec + 1 && s.out == t.y) &&
    (es.filter (fun e => e.cls == 12)).all (fun e => e.operand == x || (loopOf g e.operand).loop != t.loop)
def okForward (g : Img) (x : Nat) : Bool :=
  let pair := (g.desc x 1).getLsbD 3
  g.descLen x == (if pair then 5 else 3) && ((g.desc x 1).getLsbD 2 || zeroAt g x 1 33 19) && zeroAt g x 1 1 0 && zeroAt g x 2 18 0 &&
    (!pair || (zeroAt g x 3 17 0 && zeroAt g x 4 18 0))
def okInverse (g : Img) (x : Nat) : Bool :=
  let pair := (g.desc x 1).getLsbD 3
  g.descLen x == (if pair then 6 else 4) && zeroAt g x 1 1 0 && zeroAt g x 2 3 0 && zeroAt g x 3 18 0 &&
    (!pair || (zeroAt g x 4 3 0 && zeroAt g x 5 47 0))
def okModulation (g : Img) (x : Nat) : Bool :=
  let pair := (g.desc x 1).getLsbD 3
  g.descLen x == (if pair then 10 else 6) && zeroAt g x 1 2 0 && zeroAt g x 2 3 0 && zeroAt g x 3 3 0 && zeroAt g x 4 3 0 &&
    zeroAt g x 5 18 0 &&
    (!pair || (zeroAt g x 6 18 0 && zeroAt g x 7 18 0 && zeroAt g x 8 3 0 && zeroAt g x 9 18 0))
/-- R194: the FCU's transforms take THETA from this step, its modulation STATE from STATE_OUT while LOL_EN = 1, and the FCU has
one observer descriptor. -/
def okObserver (g : Img) (es : List Entry) (unit x : Nat) : Bool :=
  let t := obsDescOf g x
  let fcu := 8 + (unit - 0x10)
  let th := fun (n : Nat) => n == t.thS || n == t.thT
  t.src != 3 && [1, 2, 3, 4, 5].all (fun i => zeroAt g x i 3 0) && zeroAt g x 6 28 0 && zeroAt g x 7 63 0 &&
    es.all (fun e =>
      if e.unit = fcu then
        (e.cls != 0x10 || th (idx15 (g.desc e.operand 1) 63 3)) && (e.cls != 0x11 || th (idx15 (g.desc e.operand 1) 63 2)) &&
          (e.cls != 0x12 || !t.lolEn || idx15 (g.desc e.operand 2) 63 3 == t.stateOut)
      else if e.unit = unit then e.operand == x
      else true)
/-- Inputs 0 to 5, 8 and 9 take the differential ranges, 6 and 7 the single-ended ones (Tables 14-1, 14-2). -/
def okSample (g : Img) (x : Nat) : Bool :=
  let n := g.descCount x
  decide (1 ≤ n ∧ n ≤ 8) && g.descLen x == 1 + n && (List.range n).all (fun i =>
    let w := g.desc x (i + 1)
    let inp := dw w 63 60
    decide (inp ≤ 9) && ((inp == 6 || inp == 7) == decide (2 ≤ dw w 59 58)) && dw w 2 0 == 0)
def okDiscrete (g : Img) (x : Nat) : Bool :=
  let w := g.desc x 1
  dw w 42 0 == 0 && (if dw w 63 62 < 2 then dw w 46 43 == 0 else decide (dw w 46 43 ≤ 13))
/-- The names of an exchange: all roll-called, none twice (R479). -/
def okExchange (g : Img) (x : Nat) : Bool :=
  let n := g.descCount x
  let l := rcIndices g x
  decide (1 ≤ n ∧ n ≤ 64) && g.descLen x == 1 + ceilDiv n 4 && l.all (fun i => match g.sig i with | some r => r.rollcall | none => false) &&
    distinct l && (List.range (ceilDiv n 4)).all (fun j => zeroAt g x (j + 1) 3 0 &&
      (List.range 4).all (fun p => decide (4 * j + p < n) || idx15 (g.desc x (j + 1)) 63 p == 0))
def okSelection (g : Img) (x : Nat) : Bool :=
  let n := g.descCount x
  decide (1 ≤ n ∧ n ≤ 64) && g.descLen x == 1 + n && (List.range n).all (fun i => zeroAt g x (i + 1) 18 0) &&
    distinct ((List.range n).map (fun i => idx15 (g.desc x (i + 1)) 63 2))
/-- The lanes own a CAN channel: CAN_OWNER is 0 (R313); a channel with no record is management's (R84). -/
def canLaneOwned (g : Img) (ch : Nat) : Bool := match g.cfgRec (pidOf 0x0C0 ch) with | some r => valInt r.value == 0 | none => false
/-- A payload post or take (Tables 15-5 and 17-9). -/
def okPayload (g : Img) (post : Bool) (x : Nat) : Bool :=
  let t := payOf g x
  let w1 := g.desc x 1
  let w2 := g.desc x 2
  let n := t.elems.length
  let first := if t.can then 3 else 2
  let path := dw w1 63 62
  let cells := t.elems.map (fun e => (e.byte, widthBytes e.width))
  decide (path ≤ 1 ∧ 1 ≤ t.len ∧ t.len ≤ 1024 ∧ 1 ≤ n) && g.descLen x == first + ceilDiv n 2 &&
    cells.all (fun c => decide (c.1 + c.2 ≤ t.len)) && apartAll cells &&
    (List.range n).all (fun j => let w := g.desc x (first + j / 2); (if j % 2 = 0 then dw w 3 0 else dw w 35 32) == 0) &&
    (n % 2 == 0 || zeroAt g x (first + n / 2) 63 32) &&
    (if !t.can then
      dw w1 25 0 == 0 && (t.timed || t.act == 0) &&
        (if post then t.miss == 0 else !t.timed && t.act == 0 && decide (1 ≤ t.miss))
    else
      dw w1 57 54 == 0 && dw w1 20 0 == 0 && canLaneOwned g t.chan &&
        (if post then t.buf != 3 && decide (t.entry < g.tn) && t.filt == 0 && bits t.h0 30 30 == 0 && bits t.h1 26 0 == 0 &&
            (t.h0.testBit 31 || bits t.h0 17 0 == 0) && t.len == dlcLen (t.h0.testBit 29) (bits t.h1 31 28)
        else decide (t.len ≤ 64 ∧ 1 ≤ t.miss) && t.buf == 0 && dw w1 45 30 == 0 && dw w2 33 0 == 0))

/-- A group staging: COUNT is the number of the group's members, the signals follow the group's identifier. -/
def okStaging (g : Img) (x : Nat) : Bool :=
  let n := g.descCount x
  decide (1 ≤ n) && n == stagingCount g (stagingGroup g x) && g.descLen x == 2 + ceilDiv n 4 && zeroAt g x 1 31 0 &&
    (List.range (ceilDiv n 4)).all (fun j => zeroAt g x (j + 2) 3 0 &&
      (List.range 4).all (fun p => decide (4 * j + p < n) || idx15 (g.desc x (j + 2)) 63 p == 0))
/-- The descriptor rules of a class. -/
def descBody (g : Img) (es : List Entry) (e : Entry) : Bool :=
  let x := e.operand
  let n := g.descCount x
  let len := g.descLen x
  match e.cls with
  | 0x03 => okStaging g x
  | 0x08 => len == 3 && okStage g x
  | 0x09 => n == 0 && len == 3 && okSigOp g x
  | 0x0A => n == 0 && okLookup1 g x
  | 0x0B => n == 0 && okLookup2 g x
  | 0x0C => n == 0 && len == 4 && okLoopClose g es x
  | 0x10 => n == 0 && okForward g x
  | 0x11 => n == 0 && okInverse g x
  | 0x12 => n == 0 && okModulation g x
  | 0x13 => n == 0 && len == 8 && okObserver g es e.unit x
  | 0x18 => okSample g x
  | 0x19 => n == 0 && len == 2 && zeroAt g x 1 29 0
  | 0x1A => n == 0 && len == 2 && zeroAt g x 1 12 0
  | 0x1B => n == 0 && len == 2 && okDiscrete g x
  | 0x20 => n == 0 && len == 2 && zeroAt g x 1 41 0 && decide (dw (g.desc x 1) 48 43 < 44)
  | 0x21 => len == 2 && zeroAt g x 1 39 0 && zeroAt g x 1 63 50 && n == popBits 10 (dw (g.desc x 1) 49 40) && decide (1 ≤ n)
  | 0x22 => len == 2 && zeroAt g x 1 39 0 && n == popBits 24 (dw (g.desc x 1) 63 40) && decide (1 ≤ n)
  | 0x28 => okExchange g x
  | 0x29 => okSelection g x
  | 0x30 => okPayload g true x
  | 0x31 => okPayload g false x
  | 0x34 => n == 0 && len == 2 && zeroAt g x 1 33 0
  | 0x35 => n == 0 && len == 2 && zeroAt g x 1 33 0
  | _ => true
/-- The header word: inside the section, CLASS matching, LENGTH in range, reserved bits zero (Table 4-6). -/
def descHead (g : Img) (e : Entry) : Bool :=
  let x := e.operand
  decide (x + 1 ≤ g.descs.length ∧ 1 ≤ g.descLen x ∧ x + g.descLen x ≤ g.descs.length) && dw (g.desc x 0) 63 58 == e.cls && zeroAt g x 0 31 0

/-- R183: when FCU0 runs paired, all its transforms and modulations do, with one DISP30, and FCU1 has none. -/
def okPaired (g : Img) (es : List Entry) : Bool :=
  let fc := fun (u : Nat) => es.filter (fun e => e.unit == u && decide (0x10 ≤ e.cls ∧ e.cls ≤ 0x12))
  let pair := fun (e : Entry) => (g.desc e.operand 1).getLsbD 3
  let disp := fun (e : Entry) => if e.cls = 0x10 then (g.desc e.operand 3).getLsbD 18 else (g.desc e.operand 5).getLsbD 48
  let ds := ((fc 8).filter (fun e => e.cls != 0x12)).map disp
  if (fc 8).any pair then (fc 8).all pair && (fc 9).isEmpty && ds.all (fun x => x == ds.headD x)
  else true
/-- Only FCU0 takes the paired form. -/
def okPairUnits (g : Img) (es : List Entry) : Bool :=
  es.all (fun e => !(decide (0x10 ≤ e.cls ∧ e.cls ≤ 0x12) && e.unit != 8 && (g.desc e.operand 1).getLsbD 3))

/-- The coefficient section is exactly the records that `g.coefs` holds, LOOP, BANK and STAGES in range, one record per bank, a bank 0
record for each loop, equal shapes, and the form of R155 in every integrating section (R83, R143, R155). -/
def okCoefs (size : Nat) (g : Img) : Bool :=
  (g.coefs.map (fun c => coefRecLen c.sections c.stages)).sum == size &&
    g.coefs.all (fun c => decide (c.loop ≤ 127 ∧ c.bank ≤ 1 ∧ 1 ≤ c.stages ∧ c.stages ≤ 8) &&
      c.words.length == 5 * c.sections && c.exps.length == c.stages && coefFormOk g c &&
      g.coefs.any (fun b => b.loop == c.loop && b.bank == 0 && coefShape b == coefShape c)) &&
    distinct (g.coefs.map (fun c => 2 * c.loop + c.bank))
/-- No two posts of one mode name the same CHAN, BUF and ENTRY (R325). -/
def okCanPosts (g : Img) : Bool :=
  g.modes.all (fun m =>
    let ps := ((g.entriesOf m).filter (fun e => e.cls == 0x30)).map (fun e => payOf g e.operand)
    distinct ((ps.filter (·.can)).map (fun t => (t.chan * 4 + t.buf) * 2 ^ 20 + t.entry)))
/-- Check 0x0A. -/
def check0A (bs : List Byte) (g : Img) : Bool :=
  let es := (g.allEntries.filter (fun e => byDesc e.cls)).eraseDups
  (dirAt bs 2).2 % 8 == 0 && es.all (descHead g) && es.all (descBody g es) && okPaired g es && okPairUnits g es &&
    okCoefs (dirAt bs 5).2 g && okCanPosts g

end Sys2Proof.Machine
end

