-- ==== Sys2Proof/Machine/Journal.lean ====
section
/-! DEFINITION. The journal store (R406 to R418, R439, R448): writing records, compaction, the retention refresh, the recovery scan,
the early warning, the MRAM check, and the 0x04xx commands. -/

namespace Sys2Proof.Machine
open Sys2Proof

/-! ### Areas and records -/

/-- Bytes of an area: 6 MiB of the journal store, 1.5 MiB of the calibration store (Table 22-1). -/
def areaSize (cal : Bool) : Nat := if cal then 1572864 else 6291456
/-- MRAM offset of area 0 or 1 of a store. -/
def areaBase (cal one : Bool) : Nat :=
  if cal then (if one then 0xE80000 else 0xD00000) else (if one then 0x700000 else 0x100000)
/-- Row of Table 22-1 of an MRAM offset, counted from 0. -/
def mramRow (x : Nat) : Nat := if x < 0x100000 then 0 else if x < 0x700000 then 1 else if x < 0xD00000 then 2 else if x < 0xE80000 then 3 else 4
/-- Footprint of a record with n payload bytes (R408). -/
def footprint (n : Nat) : Nat := 24 + 8 * ceilDiv n 8
def Rec.foot (r : Rec) : Nat := footprint r.payload.length
/-- Where a record of this footprint starts when the pointer stands at p: it crosses no 4 KiB boundary. -/
def recStart (p foot : Nat) : Nat := if 4096 < p % 4096 + foot then ceilDiv p 4096 * 4096 else p
/-- One above a SEQ, 0x5A5A_5A5A skipped (R410). -/
def seqAfter (s : BitVec 32) : BitVec 32 := if s + 1 = 0x5A5A5A5A then s + 2 else s + 1
/-- The SEQ that the record n places behind the next one gets. -/
def seqAhead (s : BitVec 32) : Nat → BitVec 32
  | 0 => s
  | n + 1 => seqAhead (seqAfter s) n

def JournalSt.store (j : JournalSt) (cal : Bool) : StoreSt := if cal then j.cal else j.main
def JournalSt.onStore (j : JournalSt) (cal : Bool) (f : StoreSt → StoreSt) : JournalSt :=
  if cal then { j with cal := f j.cal } else { j with main := f j.main }
def StoreSt.onArea (s : StoreSt) (f : AreaSt → AreaSt) : StoreSt := if s.active then { s with a1 := f s.a1 } else { s with a0 := f s.a0 }
/-- Append a record to an area. -/
def AreaSt.put (a : AreaSt) (r : Rec) : AreaSt :=
  let p := recStart a.ptr r.foot
  { a with ptr := p + r.foot, recs := a.recs ++ [{ r with pos := p }] }
/-- The bytes that an EVENT or STATE record may fill: the last 128 KiB of a journal area are for FAULT records (R415). -/
def areaCap (cal : Bool) (cls : Nat) : Nat := areaSize cal - (if !cal && cls != 0 then 131072 else 0)
def AreaSt.fits (a : AreaSt) (cal : Bool) (cls foot : Nat) : Bool := decide (recStart a.ptr foot + foot ≤ areaCap cal cls)

/-- A STATE record's key (Table 22-8). -/
def recKey (r : Rec) : Nat × List Byte :=
  (r.type, if r.type = 0x50 then r.payload.take 4 else if r.type = 0x60 then r.payload.take 3 else if r.type = 0x63 then r.payload.take 2 else [])
/-- The live STATE records of an area: the newest of each TYPE and key. -/
def liveState (rs : List Rec) : List Rec :=
  let st := rs.filter (fun r => r.cls == 1 && !r.bad)
  st.filter (fun r => !st.any (fun x => recKey x == recKey r && decide (r.seq.toNat < x.seq.toNat)))
/-- Insert by falling SEQ; sort newest first. -/
def insSeq (r : Rec) : List Rec → List Rec
  | [] => [r]
  | x :: t => if x.seq.toNat < r.seq.toNat then r :: x :: t else x :: insSeq r t
def newestFirst (l : List Rec) : List Rec := l.foldl (fun a r => insSeq r a) []
/-- What step 2 of a compaction copies of the records older than `bound`, in order of priority. -/
def toCopy (rs : List Rec) (bound : BitVec 32) : List Rec :=
  let old := rs.filter (fun r => decide (r.seq.toNat < bound.toNat) && !r.bad && r.type != 1)
  liveState old ++ newestFirst (old.filter (fun r => r.cls == 0)) ++ newestFirst (old.filter (fun r => r.cls == 2))
/-- The first of them whose footprints stay within half the area. -/
def copyFit : Nat → List Rec → List Rec
  | _, [] => []
  | room, r :: t => if r.foot ≤ room then r :: copyFit (room - r.foot) t else []

/-! ### Writing -/

/-- A compaction of a store starts (R413): zeroing in slices of 1 MiB, copying in slices of 1 MiB, and one for what was written
meanwhile. One that runs takes the job in. -/
def startCompaction (d : Dev) (cal : Bool) (jobs : List Nat) : Dev :=
  let s := d.jr.store cal
  match s.comp with
  | some c => d.onJr (·.onStore cal (fun s => { s with comp := some { c with jobs := c.jobs ++ jobs } }))
  | none =>
    let copied := ((copyFit (areaSize cal / 2) (toCopy s.area.recs d.jr.nextSeq)).map Rec.foot).sum
    let c : CompSt := { slice := 0, start := d.clk, bound := d.jr.nextSeq, jobs := jobs,
                        left := ceilDiv (areaSize cal) 1048576 + ceilDiv copied 1048576 + 1 }
    d.onJr (·.onStore cal (fun s => { s with comp := some c }))

/-- Write one queued record (R409): it takes the next SEQ. One that finds the reserve or the area full is dropped and counted, or
merged when it is a FAULT. A FAULT record tells of itself with event class 2. A store past 75 % starts its compaction. -/
def writeRec (d : Dev) (q : QRec) : Dev :=
  let cal := q.cal
  let a := (d.jr.store cal).area
  let p := q.post
  if !a.fits cal p.cls (footprint p.payload.length) then
    let d := if cal then d else d.onJr (fun j => { j with reserve := true })
    if p.cls = 0 then
      match mergeFault d.jr.queue p with
      | (l, same) => d.onJr (fun j => { j with queue := l, merged := if same then j.merged else satInc 255 j.merged })
    else if p.cls = 1 then d.onJr (fun j => { j with stDrop := satInc 255 j.stDrop })
    else d.onJr (fun j => { j with evDrop := satInc 255 j.evDrop })
  else
    let s := d.jr.nextSeq
    let r : Rec := { pos := 0, type := p.type, cls := p.cls, source := p.source, seq := s, rep := q.rep, payload := p.payload, bad := false }
    let d := d.onJr (fun j => { j.onStore cal (·.onArea (·.put r)) with nextSeq := seqAfter s })
    let d := if p.cls = 0 then d.event 2 s else d
    if decide (areaSize cal * 3 < (d.jr.store cal).area.ptr * 4) && (d.jr.store cal).comp.isNone && !d.jr.warn then startCompaction d cal []
    else d
/-- Write the queued records of a class, oldest first. -/
def flushClass (d : Dev) (cls : Nat) : Dev :=
  let take := d.jr.queue.filter (fun q => q.post.cls == cls)
  take.foldl writeRec (d.onJr (fun j => { j with queue := j.queue.filter (fun q => q.post.cls != cls) }))
/-- The stores have been scanned: both have an active area. -/
def Dev.scanned (d : Dev) : Bool := d.jr.main.area.gen.isSome && d.jr.cal.area.gen.isSome

/-- JOURNAL_POST (R411). -/
def execJournalPost (q : Post) (s : State) : Host.Outcome State Fault Refusal :=
  s.onDev (fun d => if d.hubUp && decide (q.payload.length ≤ 4072) then d.post q else d)
/-- RECORD_WRITE (R409): the oldest queued record. -/
def execRecordWrite (s : State) : Host.Outcome State Fault Refusal :=
  s.onDev (fun d =>
    match d.jr.queue with
    | q :: rest => if d.hubUp && d.scanned then writeRec (d.onJr (fun j => { j with queue := rest })) q else d
    | [] => d)

/-! ### Compaction slices -/

/-- The operating counters record (TYPE 0x0061). -/
def countersRec (d : Dev) : Dev :=
  d.stateRec 0x61 (leBytes d.mgmt.opSec 8 ++ leBytes d.mgmt.cycles 4 ++ leBytes d.vot.rotCount 4 ++ leBytes d.mgmt.account 8)

/-- The last slice: the target holds what step 2 copied, what was written meanwhile, the record of what was left behind, and its
AREA_HEADER, whose commit word makes it active (R413). Job 0 stands for the retention refresh, which ends with the second store. -/
def endCompaction (d : Dev) (cal : Bool) (c : CompSt) : Dev :=
  let s := d.jr.store cal
  let src := s.area
  let all := toCopy src.recs c.bound
  let kept := copyFit (areaSize cal / 2) all
  let later := src.recs.filter (fun r => !decide (r.seq.toNat < c.bound.toNat) && !r.bad && r.type != 1)
  let left := all.length - kept.length
  let base : AreaSt := { gen := none, next := 0, ptr := 32, recs := [] }
  let t := (kept ++ later).foldl AreaSt.put base
  let n0 := d.jr.nextSeq
  let note : Rec := { pos := 0, type := 0x2E, cls := 2, source := 0, seq := n0, rep := 0, bad := false,
                      payload := recPayload d.gt (if cal then 1 else 0) 0 left 0 }
  let t := if left = 0 then t else t.put note
  let h := if left = 0 then n0 else seqAfter n0
  let gen := src.gen.getD 0 + 1
  let hdr : Rec := { pos := 0, type := 1, cls := 0, source := 0, seq := h, rep := 0, bad := false,
                     payload := leBytes gen 4 ++ leBytes (seqAfter h).toNat 4 }
  let t : AreaSt := { t with gen := some gen, next := seqAfter h, recs := hdr :: t.recs }
  let sw := fun (s : StoreSt) => if s.active then { s with a0 := t, active := false, comp := none } else { s with a1 := t, active := true, comp := none }
  let d := d.onJr (fun j => { j.onStore cal sw with
    nextSeq := seqAfter h, aged := if left = 0 then j.aged else satInc 255 j.aged, reserve := if cal then j.reserve else false })
  let d := (c.jobs.filter (· != 0)).foldl (fun d n => d.endJob n 0 0) d
  let other := match (d.jr.store (!cal)).comp with | some x => x.jobs.contains 0 | none => false
  if c.jobs.contains 0 && !other then countersRec (d.onMgmt (fun m => { m with account := 0 })) else d

/-- COMPACTION_SLICE (R414): slices start 100 ms apart; queued FAULT records are written within. -/
def execCompactionSlice (cal : Bool) (s : State) : Host.Outcome State Fault Refusal :=
  s.onDev (fun d =>
    match (d.jr.store cal).comp with
    | none => d
    | some c =>
      if !d.hubUp then d
      else
        let d := flushClass (d.toClk c.start) 0
        if c.left ≤ 1 then endCompaction d cal c
        else
          let c' : CompSt := { c with slice := c.slice + 1, left := c.left - 1, start := d.clk + 100 * msClk }
          d.onJr (·.onStore cal (fun s => { s with comp := some c' })))

/-- RETENTION_REFRESH (R407): with the account at 0.25 both stores are compacted; the account returns to zero when both are done. -/
def execRetentionRefresh (s : State) : Host.Outcome State Fault Refusal :=
  s.onDev (fun d => if d.hubUp && d.scanned && decide (2 ^ 30 ≤ d.mgmt.account) then startCompaction (startCompaction d true [0]) false [0] else d)

/-- Largest r ≤ n with ok r, for ok that holds from 0 up to a bound. -/
def largest (ok : Nat → Bool) : Nat → Nat
  | 0 => 0
  | n + 1 => if ok (n + 1) then n + 1 else largest ok n
/-- What a second adds to the account at a hub temperature in 1/8 °C, in units of 2^-32 rounded up: retention of 20 years at 105 °C, 2
years at 125 °C and 2,000 h at 150 °C, its logarithm linear between (R407). -/
def accountStep (t : Int) : Nat :=
  let y : Nat := 631152000
  let x := (max 840 (min 1200 t)).toNat
  if x ≤ 1000 then largest (fun r => decide ((r * y) ^ 160 < 2 ^ (32 * 160) * 10 ^ (x - 840))) 70 + 1
  else largest (fun r => decide ((r * (y / 10)) ^ 200 * 7200000 ^ (x - 1000) < 2 ^ (32 * 200) * (y / 10) ^ (x - 1000))) 600 + 1
/-- n seconds of operation pass (R407). -/
def Dev.secondsPass (d : Dev) (n : Nat) : Dev :=
  if n = 0 || !d.hubUp then d
  else d.onMgmt (fun m => { m with opSec := m.opSec + n, account := m.account + n * accountStep (m.temps.getD 3 0) })

/-! ### The MRAM check (R439) -/

/-- Words found in a slice: corrected ones are counted, uncorrectable ones recorded, and the record that holds one is unreadable. -/
def mramWords (d : Dev) (corrected : Nat) (bad : List Nat) : Dev :=
  let new := bad.filter (fun x => !d.jr.badMram.contains x)
  let hit := fun (cal one : Bool) (a : AreaSt) =>
    { a with recs := a.recs.map (fun r => if bad.any (fun x => decide (areaBase cal one + r.pos ≤ x ∧ x < areaBase cal one + r.pos + r.foot))
                                          then { r with bad := true } else r) }
  let mark := fun (cal : Bool) (s : StoreSt) => { s with a0 := hit cal false s.a0, a1 := hit cal true s.a1 }
  let d := d.onTest (fun t => { t with corrected := min 65535 (t.corrected + corrected), uncorr := t.uncorr + new.length })
  let d := d.onJr (fun j => { j with badMram := j.badMram ++ new, main := mark false j.main, cal := mark true j.cal })
  noteDegraded (new.foldl (fun d x => d.fault 0x1B (mramRow x) 0 0 x) d)
/-- The end of a check: its result word (R440). A slice takes 2 ms. -/
def mramDone (d : Dev) (slices corrected bad : Nat) : Dev :=
  let res := if 0 < bad then 3 else if 0 < corrected then 2 else 1
  let word := res + min 255 corrected * 256 + min 255 bad * 65536
  let d := (d.onTest (fun t => { t with mram := res, mramRun := none })).putTest 3 0 word 1000 (2000 * slices)
  let d := (d.mgmt.jobs.filter (fun j => j.code == 0x0501 && !j.done && argOf j.req 0 == 3)).foldl (fun d j =>
    (d.onJob j.num (fun x => { x with res := [BitVec.ofNat 32 word, 1000, BitVec.ofNat 32 (2000 * slices)] })).endJob j.num 0 0) d
  d.testStatus
/-- MRAM_CHECK_SLICE (R439): 16 slices of 1 MiB, 10 ms apart; the check waits for a compaction (Table 22-4). `mramRun`: slices done, GCLK
of the next, words corrected, words uncorrectable. -/
def execMramCheckSlice (corrected : Nat) (bad : List Nat) (s : State) : Host.Outcome State Fault Refusal :=
  s.onDev (fun d =>
    match d.test.mramRun with
    | none => d
    | some (n, at_, c, u) =>
      if !d.hubUp || d.jr.main.comp.isSome || d.jr.cal.comp.isSome then d
      else
        let d := flushClass (mramWords (d.toClk at_) corrected bad) 0
        if 15 ≤ n then mramDone d 16 (c + corrected) (u + bad.length)
        else (d.onTest (fun t => { t with mramRun := some (n + 1, d.clk + 10 * msClk, c + corrected, u + bad.length) })).testStatus)

/-! ### Early warning -/

/-- EARLY_WARNING (R416): compactions and the MRAM check are abandoned, the queued FAULT and then STATE records are written, and a
POWER_LOSS record. -/
def execEarlyWarning (s : State) : Host.Outcome State Fault Refusal :=
  s.onDev (fun d =>
    let d := d.onPwr (fun p => { p with warn := true })
    if !d.hubUp || !d.scanned then d
    else
      let jobs := ((d.jr.main.comp.map (·.jobs)).getD []) ++ ((d.jr.cal.comp.map (·.jobs)).getD [])
      let d := d.onJr (fun j => { j with warn := true, main := { j.main with comp := none }, cal := { j.cal with comp := none } })
      let d := (jobs.filter (· != 0)).foldl (fun d n => d.endJob n 0x19 0) d
      let d := match d.test.mramRun with
        | none => d
        | some _ =>
          let d := (d.onTest (fun t => { t with mram := 0, mramRun := none })).putTest 3 0 0 1000 0
          ((d.mgmt.jobs.filter (fun j => j.code == 0x0501 && !j.done && argOf j.req 0 == 3)).foldl (fun d j =>
            (d.onJob j.num (fun x => { x with res := [0, 1000, 0] })).endJob j.num 0 0) d).testStatus
      writeRec (flushClass (flushClass d 0) 1)
        { post := { type := 0x40, cls := 2, source := 0, payload := leBytes d.gt 8 }, rep := 0, cal := false })
/-- EARLY_WARNING_CLEAR (R448): posts are accepted again. -/
def execEarlyWarningClear (s : State) : Host.Outcome State Fault Refusal :=
  s.onDev (fun d => (d.onPwr (fun p => { p with warn := false })).onJr (fun j => { j with warn := false }))

/-! ### The recovery scan (R417) -/

/-- Choose the active area of a store: the higher generation; a store with none is initialised with generation 1. The walk ends at the
first position that holds no existing record; compactions do not survive. -/
def scanStore (s : StoreSt) (next : BitVec 32) : StoreSt :=
  let s := { s with comp := none }
  match s.a0.gen, s.a1.gen with
  | some x, some y => { s with active := decide (x < y) }
  | some _, none => { s with active := false }
  | none, some _ => { s with active := true }
  | none, none =>
    let hdr : Rec := { pos := 0, type := 1, cls := 0, source := 0, seq := next, rep := 0, payload := leBytes 1 4 ++ leBytes (seqAfter next).toNat 4, bad := false }
    { s with active := false, a0 := { gen := some 1, next := seqAfter next, ptr := 32, recs := [hdr] } }
/-- One above the highest SEQ found, or the next SEQ of an active AREA_HEADER, whichever is higher (R410). -/
def seqOf (s : StoreSt) : Nat :=
  max s.area.next.toNat (s.area.recs.foldl (fun a r => max a (seqAfter r.seq).toNat) 0)
def scanJournal (d : Dev) : Dev :=
  let main := scanStore d.jr.main 0
  let n1 := if d.jr.main.a0.gen.isNone && d.jr.main.a1.gen.isNone then (1 : BitVec 32) else 0
  let cal := scanStore d.jr.cal n1
  let last := match newestFirst main.area.recs with | r :: _ => r.type == 0x40 | [] => false
  d.onJr (fun j => { j with main := main, cal := cal, nextSeq := BitVec.ofNat 32 (max (seqOf main) (seqOf cal)), lastPl := last, reserve := false })

/-! ### The 0x04xx commands -/

/-- A record as its MRAM bytes (R408). A CORRUPT record is reported with its SEQ in bytes whose rest the spec leaves open (R412). -/
def recBytes (r : Rec) : List Byte :=
  let n := r.payload.length
  let h0 := leBytes r.type 2 ++ leBytes n 2 ++ leBytes r.seq.toNat 4
  let h1 := leBytes r.source 1 ++ leBytes r.cls 1 ++ leBytes r.rep 2
  if r.bad then
    (List.range 4).map (fun i => BitVec.ofNat 8 (Config.choice (2 ^ 40 + r.pos * 2 ^ 32 + r.seq.toNat) i)) ++ leBytes r.seq.toNat 4 ++
      (List.range 16).map (fun i => BitVec.ofNat 8 (Config.choice (2 ^ 40 + r.pos * 2 ^ 32 + r.seq.toNat) (4 + i)))
  else
    let crc := crc32c (h0 ++ h1 ++ r.payload)
    h0 ++ leBytes crc.toNat 4 ++ h1 ++ r.payload ++ List.replicate (8 * ceilDiv n 8 - n) 0 ++
      leBytes (r.seq ^^^ 0x5A5A5A5A).toNat 4 ++ leBytes 0 4
/-- Records of the active journal area from a SEQ on, oldest first. -/
def readRecs (d : Dev) (first limit : Nat) : List Rec × Nat :=
  let l := ((newestFirst d.jr.main.area.recs).reverse).filter (fun r => decide (first ≤ r.seq.toNat))
  let take := copyFit bulkSize (l.take limit)
  (take, match l.drop take.length with | r :: _ => r.seq.toNat | [] => match take.getLast? with | some r => (seqAfter r.seq).toNat | none => first)
/-- The end of a JOURNAL_READ: records, bytes at bulk 0, next sequence. -/
def journalReadEnd (d : Dev) (j : Job) : Dev :=
  let (rs, nxt) := readRecs d (argOf j.req 0) (argOf j.req 1)
  let bs := rs.flatMap recBytes
  ((putBulk d 0 bs).onJob j.num (fun x => { x with res := [BitVec.ofNat 32 rs.length, BitVec.ofNat 32 bs.length, BitVec.ofNat 32 nxt] })).endJob j.num 0 0

def cmdJournalInfo (d : Dev) (r : Request) : Dev :=
  command d r 0x0401 (fun d =>
    let l := newestFirst (d.jr.main.area.recs.filter (fun r => !r.bad))
    let seq := fun (o : Option Rec) => ((o.map (fun x => x.seq)).getD 0 : Word)
    okay d r 0x0401 [BitVec.ofNat 32 (ceilDiv d.jr.main.area.ptr 1024), BitVec.ofNat 32 (ceilDiv d.jr.cal.area.ptr 1024),
      seq l.getLast?, seq l.head?])
def cmdJournalRead (d : Dev) (r : Request) : Dev :=
  command d r 0x0402 (fun d => withBulk d r 0x0402 (fun d =>
    if d.jobRuns 0x0402 then refuse d r 0x0402 3 0 else (accept (claimBulk d r.sender) r 0x0402 0 []).1))
def cmdJournalCompact (d : Dev) (r : Request) : Dev :=
  command d r 0x0403 (fun d =>
    let (d, n) := accept d r 0x0403 0 []
    startCompaction d false [n])
def cmdJournalAppend (d : Dev) (r : Request) : Dev :=
  command d r 0x0404 (fun d =>
    let t := argOf r 0
    if t < 0x8000 || decide (0xFFFF < t) then refuse d r 0x0404 0x12 3
    else if 192 ≤ d.jr.queue.length || d.jr.warn then
      refuse (d.onJr (fun j => { j with evDrop := satInc 255 j.evDrop })) r 0x0404 3 0
    else
      let seq := seqAhead d.jr.nextSeq d.jr.queue.length
      okay (d.post { type := t, cls := 2, source := r.sender, payload := (r.args.drop 1).flatMap (fun w => leBytes w.toNat 4) })
        r 0x0404 [seq])

/-- JOURNAL_INFO (R391). -/
def execJournalInfo (r : Request) (s : State) : Host.Outcome State Fault Refusal := s.onDev (fun d => cmdJournalInfo d r)
/-- JOURNAL_READ (R412). -/
def execJournalRead (r : Request) (s : State) : Host.Outcome State Fault Refusal := s.onDev (fun d => cmdJournalRead d r)
/-- JOURNAL_COMPACT (R413). -/
def execJournalCompact (r : Request) (s : State) : Host.Outcome State Fault Refusal := s.onDev (fun d => cmdJournalCompact d r)
/-- JOURNAL_APPEND (R411). -/
def execJournalAppend (r : Request) (s : State) : Host.Outcome State Fault Refusal := s.onDev (fun d => cmdJournalAppend d r)

end Sys2Proof.Machine
end

