-- ==== Sys2Proof/Machine/Commands.lean ====
section
/-! DEFINITION. Mailbox commands that report, that send and receive frames, that ask for modes, tests and latch clears, and those of the
pair and of CAN (R301, R385, R389, R391, R398, R400, R401, R403, R440). -/

namespace Sys2Proof.Machine
open Sys2Proof

/-! ### Reports -/

/-- Words of the host window as results. -/
def winWords (d : Dev) (l : List Nat) : List Word := l.map (winRead d)
/-- IMAGE_ID of the running image, zero when none runs. -/
def Dev.imageId (d : Dev) : Nat := (d.boot.running.map (fun g => g.imageId.toNat)).getD 0
def Dev.imageSec (d : Dev) : Nat := (d.boot.running.map (·.secVersion)).getD 0
/-- Count of set ROLLBACK bits, and the image floor (R424). -/
def fuseCount (w : BitVec 64) : Nat := ((List.range 64).filter w.getLsbD).length
def Dev.imageFloor (d : Dev) : Nat := max (fuseCount d.boot.fuses.rollback) d.boot.imgFloor

def cmdIdentify (d : Dev) (r : Request) : Dev :=
  command d r 0x0001 (fun d =>
    let s := d.boot.fuses.serial.toNat
    okay d r 0x0001 (winWords d [0, 4] ++ twoWords d.imageId ++ twoWords s ++ twoWords (s / 2 ^ 64) ++
      [BitVec.ofNat 32 d.imageSec, BitVec.ofNat 32 d.imageFloor]))
def cmdStatus (d : Dev) (r : Request) : Dev :=
  command d r 0x0002 (fun d => okay d r 0x0002 (winWords d [0x10, 0x58, 0x1E0, 0x200] ++ twoWords d.gt))
/-- Every counter, its snapshot, and the counts of the journal drop word (R385, R418). -/
def clearCounters (d : Dev) : Dev :=
  (d.onHost (fun h => { h with cnt := [], snap := [] })).onJr (fun j => { j with evDrop := 0, stDrop := 0, merged := 0, aged := 0 })
def cmdCounterClear (d : Dev) (r : Request) : Dev := command d r 0x0003 (fun d => okay (clearCounters d) r 0x0003 [])
/-- 0 unknown, 1 running, 2 done, and the completion's status and detail. -/
def jobState (d : Dev) (n : Nat) : List Word :=
  match d.mgmt.jobs.find? (fun j => j.num == n) with
  | none => [0, 0]
  | some j => if j.done then [2, BitVec.ofNat 32 (j.detail % 256 * 256 + j.status)] else [1, 0]
def cmdJobStatus (d : Dev) (r : Request) : Dev := command d r 0x0004 (fun d => okay d r 0x0004 (jobState d (argOf r 0)))
def cmdImageInfo (d : Dev) (r : Request) : Dev :=
  command d r 0x0201 (fun d =>
    let g := d.img
    okay d r 0x0201 (twoWords d.imageId ++
      [BitVec.ofNat 32 (g.tfCode + g.k * 2 ^ 8 + g.modes.length * 2 ^ 16 + d.modeCur * 2 ^ 24), BitVec.ofNat 32 (d.boot.imgSlot.getD 0)]))
def cmdPwrStatus (d : Dev) (r : Request) : Dev := command d r 0x0A02 (fun d => okay d r 0x0A02 [BitVec.ofNat 32 d.pwr.on.toNat])

/-- IDENTIFY (R391). -/
def execIdentify (r : Request) (s : State) : Host.Outcome State Fault Refusal := s.onDev (fun d => cmdIdentify d r)
/-- STATUS (R391). -/
def execStatus (r : Request) (s : State) : Host.Outcome State Fault Refusal := s.onDev (fun d => cmdStatus d r)
/-- COUNTER_CLEAR (R385). -/
def execCounterClear (r : Request) (s : State) : Host.Outcome State Fault Refusal := s.onDev (fun d => cmdCounterClear d r)
/-- JOB_STATUS (R389). -/
def execJobStatus (r : Request) (s : State) : Host.Outcome State Fault Refusal := s.onDev (fun d => cmdJobStatus d r)
/-- IMAGE_INFO (R391). -/
def execImageInfo (r : Request) (s : State) : Host.Outcome State Fault Refusal := s.onDev (fun d => cmdImageInfo d r)
/-- PWR_STATUS (R391): a bit per domain code, 1 on. -/
def execPwrStatus (r : Request) (s : State) : Host.Outcome State Fault Refusal := s.onDev (fun d => cmdPwrStatus d r)

/-! ### Modes and the network -/

def cmdModeRequest (d : Dev) (r : Request) : Dev :=
  command d r 0x0202 (fun d =>
    let m := argOf r 0
    if !d.isActive then refuse d r 0x0202 0x13 1
    else if 7 < m then refuse d r 0x0202 0x12 3
    else if !d.hasMode m then refuse d r 0x0202 0x12 2
    else
      let (d, n) := accept d r 0x0202 0 []
      (d.setPend m).requestMode m (some n))
/-- Ports named by a mask open again; their counts restart. -/
def unmute (g : GuardSt) : GuardSt := { g with viol := 0, muted := false, clean := 0 }
def cmdStarUnmute (d : Dev) (r : Request) : Dev :=
  command d r 0x0203 (fun d =>
    let m := argOf r 0
    if 4096 ≤ m then refuse d r 0x0203 0x12 3
    else okay (d.onNet (fun n => { n with stars := n.stars.map (fun g => if m.testBit g.id then unmute g else g) })) r 0x0203 [])
/-- The ports of NET_SEND: the ring in [0], star ports in [12:1]. -/
def sendPorts (m : Nat) : List Port :=
  (if m.testBit 0 then [Port.ringE, Port.ringW] else []) ++ ((List.range 12).filter (fun i => m.testBit (1 + i))).map Port.star
def cmdNetSend (d : Dev) (r : Request) : Dev :=
  command d r 0x0204 (fun d =>
    let n := argOf r 0
    let m := argOf r 1
    if d.bulkBusy r.sender then refuse d r 0x0204 3 0
    else if n < 60 || 1514 < n then refuse d r 0x0204 0x12 5
    else if m = 0 || 8192 ≤ m then refuse d r 0x0204 0x12 3
    else if !d.net.roomFor false n then
      refuse ((d.count (cPort 16 3) 1)) r 0x0204 3 0
    else okay (queueRecess (claimBulk d r.sender) false (sendPorts m) .mgmt (d.bulkBytes 0 n)) r 0x0204 [])
def cmdNetReceive (d : Dev) (r : Request) : Dev :=
  command d r 0x0205 (fun d => withBulk d r 0x0205 (fun d =>
    let d := claimBulk d r.sender
    match d.net.hostRx with
    | [] => okay d r 0x0205 [0, 0]
    | (p, bs) :: rest =>
      okay (putBulk (d.onNet (fun n => { n with hostRx := rest })) 0 bs) r 0x0205
        [BitVec.ofNat 32 bs.length, BitVec.ofNat 32 (portIdx p)]))

/-- MODE_REQUEST (R398). -/
def execModeRequest (r : Request) (s : State) : Host.Outcome State Fault Refusal := s.onDev (fun d => cmdModeRequest d r)
/-- STAR_UNMUTE (R301). -/
def execStarUnmute (r : Request) (s : State) : Host.Outcome State Fault Refusal := s.onDev (fun d => cmdStarUnmute d r)
/-- NET_SEND (R285, R286): a frame for the next recess of the ports named. -/
def execNetSend (r : Request) (s : State) : Host.Outcome State Fault Refusal := s.onDev (fun d => cmdNetSend d r)
/-- NET_RECEIVE (R391): the oldest frame of the host receive queue; the port as Table 20-12 orders the ports. -/
def execNetReceive (r : Request) (s : State) : Host.Outcome State Fault Refusal := s.onDev (fun d => cmdNetReceive d r)

/-! ### Tests and latch clears -/

/-- The UNIT codes of R400 as this model numbers units: FCU0 to FCU7, PC0 8, PC1 9, chopper 10, park lock 11. -/
def unitOfCode (u : Nat) : Nat := if u < 8 then u else if u = 8 then 11 else u - 1
/-- The unit's effective state is ALL_OFF or OFF in every live lane; for the park lock CMD_LIVE is OFF (R230). -/
def Dev.unitOff (d : Dev) (u : Nat) : Bool :=
  d.liveLanes.all (fun l =>
    if u = 8 then (d.lane l).park == 0
    else ((d.lane l).fcu.getD (if u < 8 then u else u - 1) FcuSt.reset).eff == 1)
/-- The unit is under test, or a latch clear of it waits for its commit point (R400, Table 12-7). -/
def Dev.unitBusy (d : Dev) (u : Nat) : Bool :=
  d.gd.diag.any (fun x => x.unit == u) || d.gd.diagQ.contains u || d.gd.clears.any (fun x => x.1 == u)
/-- Units of a drive die (Table 12-1). -/
def dieUnits (die : Nat) : List Nat := if die = 1 then [2, 4, 6, 8] else [3, 5, 7, 8]
/-- The analog self-test of a die that was asked for runs. Its job keeps the GCLK of its start in `due`. -/
def Dev.analogJob (d : Dev) (die : Nat) : Option Job :=
  d.mgmt.jobs.find? (fun j => j.code == 0x0501 && !j.done && argOf j.req 0 == 2 && argOf j.req 1 == die)
def startDiag (d : Dev) (u : Nat) (job : Nat) (clear : Bool) : Dev :=
  d.onGd (fun g => { g with diag := g.diag ++ [DiagRun.new u (some job) clear d.clk] })

def cmdRunTest (d : Dev) (r : Request) : Dev :=
  command d r 0x0501 (fun d =>
    let u := argOf r 1
    match argOf r 0 with
    | 1 =>
      if u < 2 || 8 < u then refuse d r 0x0501 0x12 2
      else if d.unitBusy u then refuse d r 0x0501 3 0
      else if !d.unitOff u then refuse d r 0x0501 0x13 2
      else
        let (d, n) := accept d r 0x0501 0 []
        startDiag d u n false
    | 2 =>
      if u = 0 || 2 < u then refuse d r 0x0501 0x12 2
      else if (d.analogJob u).isSome || d.boot.stage == 6 || (dieUnits u).any d.unitBusy then refuse d r 0x0501 3 0
      else if !(dieUnits u).all d.unitOff then refuse d r 0x0501 0x13 2
      else (accept d r 0x0501 d.clk []).1
    | 3 =>
      if u ≠ 0 then refuse d r 0x0501 0x12 2
      else if d.test.mramRun.isSome then refuse d r 0x0501 3 0
      else
        let d := (accept d r 0x0501 0 []).1
        (d.onTest (fun t => { t with mramRun := some (0, d.clk, 0, 0) })).testStatus
    | _ => refuse d r 0x0501 0x12 1)

/-- The UNITs of a TEST code: those RUN_TEST takes, lane indices for 0x10 and 0x11, 0 for 0x12. -/
def testUnitOk (t u : Nat) : Bool :=
  match t with
  | 1 => decide (2 ≤ u ∧ u ≤ 8)
  | 2 => decide (1 ≤ u ∧ u ≤ 2)
  | 3 => u == 0
  | 0x10 => decide (u < 3)
  | 0x11 => decide (u < 3)
  | 0x12 => u == 0
  | _ => false
/-- The coverage word of a test (R440). -/
def testCover (t : Nat) : Nat := if t = 0x10 then 980 + 900 * 65536 else if t = 0x12 then 970 else 1000
def cmdTestResults (d : Dev) (r : Request) : Dev :=
  command d r 0x0502 (fun d =>
    let t := argOf r 0
    let u := argOf r 1
    if !([1, 2, 3, 0x10, 0x11, 0x12].contains t) then refuse d r 0x0502 0x12 1
    else if !testUnitOk t u then refuse d r 0x0502 0x12 2
    else match d.mgmt.tests.find? (fun x => x.1 == t && x.2.1 == u) with
      | some (_, _, res, cov, dur) => okay d r 0x0502 [BitVec.ofNat 32 res, BitVec.ofNat 32 cov, BitVec.ofNat 32 dur]
      | none => okay d r 0x0502 [0, BitVec.ofNat 32 (testCover t), 0])

/-- Channels of a unit behind the edge links, as masks of the two links. -/
def linkMask (u k : Nat) : Nat := ((List.range 12).map (fun c => if unitOfEdge (12 * k + c) = unitOfCode u then 2 ^ c else 0)).sum
/-- A COMMAND frame with OP 0x01 waits on each link that has channels of the unit (R248). -/
def sendClear (d : Dev) (u : Nat) : Dev :=
  [0, 1].foldl (fun d k => if linkMask u k = 0 then d else d.onLink k (fun x => { x with cmdq := x.cmdq ++ [linkMask u k] })) d
def cmdSwitchClear (d : Dev) (r : Request) : Dev :=
  command d r 0x0503 (fun d =>
    let u := argOf r 0
    if 11 < u then refuse d r 0x0503 0x12 2
    else if !d.unitOff u then refuse d r 0x0503 0x13 2
    else if decide (2 ≤ u ∧ u ≤ 8) then
      if d.unitBusy u then refuse d r 0x0503 3 0
      else
        let (d, n) := accept d r 0x0503 0 []
        startDiag d u n true
    else
      let (d, n) := accept (sendClear d u) r 0x0503 0 []
      (d.onJob n (fun j => { j with res := [0] })).endJob n 0 0)

/-- RUN_TEST (R400). -/
def execRunTest (r : Request) (s : State) : Host.Outcome State Fault Refusal := s.onDev (fun d => cmdRunTest d r)
/-- TEST_RESULTS (R440). -/
def execTestResults (r : Request) (s : State) : Host.Outcome State Fault Refusal := s.onDev (fun d => cmdTestResults d r)
/-- SWITCH_CLEAR (R230, R248). -/
def execSwitchClear (r : Request) (s : State) : Host.Outcome State Fault Refusal := s.onDev (fun d => cmdSwitchClear d r)

/-! ### The pair and CAN -/

/-- A HEARTBEAT body (Table 18-3); its multi-byte fields least significant byte first, as mailbox words are (R8). -/
def heartbeatBytes (h : Heartbeat) : List Byte :=
  leBytes h.state 1 ++ leBytes (flagN h.tc 0 + flagN h.ready 1 + flagN h.full 2 + flagN h.handover 3 + flagN h.pairId 4) 1 ++
    leBytes h.live 1 ++ leBytes 0 1 ++ leBytes h.epoch.toNat 4 ++ leBytes h.fcGt.toNat 8 ++ leBytes h.digest.toNat 8
def cmdPairStatus (d : Dev) (r : Request) : Dev :=
  command d r 0x0601 (fun d =>
    let body := match d.pair.partner with | some h => wordsOf 6 (heartbeatBytes h) | none => List.replicate 6 0
    okay d r 0x0601 (winWords d [0x1E0, 0x1E4] ++ body))
def cmdPairSwap (d : Dev) (r : Request) : Dev :=
  command d r 0x0602 (fun d =>
    let k := argOf r 0
    if 1 < k then refuse d r 0x0602 0x12 3
    else if !d.isActive then refuse d r 0x0602 0x13 1
    else if d.pair.swap.isSome then refuse d r 0x0602 3 0
    else
      let (d, n) := accept d r 0x0602 0 []
      if d.pairUp then proposeSwap d k (some n) else d.endJob n 0x19 6)
/-- PAIR_RELAY carries the inner tag and code, and the inner words. -/
def cmdPairRelay (d : Dev) (r : Request) : Dev :=
  command d r 0x0603 (fun d =>
    if d.pair.relay.isSome then refuse d r 0x0603 3 0
    else
      let (d, n) := accept d r 0x0603 0 []
      (d.onPair (fun p => { p with relay := some (n, r.args, 1) })).handSvc (.mailbox 13 r.args))
def cmdCanRecover (d : Dev) (r : Request) : Dev :=
  command d r 0x0801 (fun d =>
    let ch := argOf r 0
    if 3 < ch then refuse d r 0x0801 0x12 2
    else if !(d.chan ch).laneOwn || (d.chan ch).bus ≠ 2 then refuse d r 0x0801 0x13 6
    else if (d.chan ch).job.isSome then refuse d r 0x0801 3 0
    else
      let (d, n) := accept d r 0x0801 0 []
      (canRecoverStart d ch).onCan ch (fun c => { c with job := some n }))

/-- PAIR_STATUS (R391). -/
def execPairStatus (r : Request) (s : State) : Host.Outcome State Fault Refusal := s.onDev (fun d => cmdPairStatus d r)
/-- PAIR_SWAP (R401, R344). -/
def execPairSwap (r : Request) (s : State) : Host.Outcome State Fault Refusal := s.onDev (fun d => cmdPairSwap d r)
/-- PAIR_RELAY (R401): the first MAILBOX frame goes out. -/
def execPairRelay (r : Request) (s : State) : Host.Outcome State Fault Refusal := s.onDev (fun d => cmdPairRelay d r)
/-- PAIR_RELAY_RETRY (R401): the partner discarded the frame; it goes again, once per network cycle and 16 times at most, and then the
command completes with ERR_BUSY. -/
def execPairRelayRetry (s : State) : Host.Outcome State Fault Refusal :=
  s.onDev (fun d =>
    match d.pair.relay with
    | none => d
    | some (n, ws, k) =>
      if k ≤ 16 then (d.onPair (fun p => { p with relay := some (n, ws, k + 1) })).handSvc (.mailbox 13 ws)
      else (d.onPair (fun p => { p with relay := none })).endJob n 3 0)
/-- CAN_RECOVER (R403). -/
def execCanRecover (r : Request) (s : State) : Host.Outcome State Fault Refusal := s.onDev (fun d => cmdCanRecover d r)

end Sys2Proof.Machine
end

