-- ==== Sys2Proof/Machine/ImagePlace.lean ====
section
/-! DEFINITION. What an image's entries read and write, and the checks of state, placement and schedule: 0x0B and 0x0E to 0x12 of
Table 4-9 (R80, R81, R86 to R90, R108, R123, R144, R160, R180, R184, R194, R241). Clocks are lane clocks from the bell at nominal rate. -/

namespace Sys2Proof.Machine
open Sys2Proof

/-! ### Reads and writes

A place is an interval (address, length): bytes of the lane memory space, and above it the pending event pair of a timebase channel and
the latched effective state of a unit. -/

abbrev Place := Nat × Nat
def placeSig (i : Nat) : Place := (sigAddr i, 8)
def placeChan (c : Nat) : Place := (2 ^ 33 + 8 * c, 8)
def placeLatch (u : Nat) : Place := (2 ^ 34 + 8 * u, 8)
def meets (a b : Place) : Bool := decide (a.1 < b.1 + b.2 ∧ b.1 < a.1 + a.2)
def anyMeets (l m : List Place) : Bool := l.any (fun a => m.any (meets a))
/-- The first k of the 15-bit indices of word i of a descriptor. -/
def idxs (g : Img) (x i k : Nat) : List Place := (List.range k).map (fun j => placeSig (idx15 (g.desc x i) 63 j))
def idxPl (g : Img) (x i j : Nat) : Place := placeSig (idx15 (g.desc x i) 63 j)
/-- The state block of a stage (R142). -/
def stageBlock (t : StageDesc) : Place := (t.addr, 8 + 8 * t.n)
/-- The block at a loop close's STATE_ADDR (R160). -/
def closeBlock (t : LoopDesc) : Place := (t.addr, 16 + 8 * t.sec)
/-- The channels of an event post (Table 9-8). -/
def postChans (g : Img) (e : Entry) : List Nat :=
  if e.cls = 0x22 then maskChans (g.desc e.operand 1) 24 20
  else if e.unit = 0x22 then maskChans (g.desc e.operand 1) 10 0 else maskChans (g.desc e.operand 1) 10 10
/-- The unit whose modulation a compare write follows: FCU0 when it runs paired and the channel is FCU1's. -/
def latchUnit (es : List Entry) (g : Img) (c : Nat) : Nat :=
  if unitOfCh c = 1 && es.any (fun e => e.cls == 0x12 && e.unit == 8 && (g.desc e.operand 1).getLsbD 3) then 0 else unitOfCh c

/-- What an entry reads at its dispatch. -/
def readsOf (g : Img) (e : Entry) : List Place :=
  let x := e.operand
  let w := fun (i : Nat) => g.desc x i
  let pair := (w 1).getLsbD 3
  match e.cls with
  | 0x03 => (stagingSigs g x).map placeSig
  | 0x08 => let t := stageOf g x; [placeSig t.inp, stageBlock t]
  | 0x09 =>
    let t := sigOpOf g x
    let u := opUses t.op
    placeSig t.a :: ((if u.1 then [placeSig t.b] else []) ++ (if u.2 then [placeSig t.c] else []) ++
      (if t.op = 0x0F ∨ t.op = 0x11 then [placeSig t.out] else []))
  | 0x0A => idxs g x 1 1
  | 0x0B => idxs g x 1 2
  | 0x0C =>
    let t := loopOf g x
    [placeSig t.y, placeSig t.out, closeBlock t] ++ (if t.trkEn then [placeSig t.trkVal, placeSig t.trkFlag] else []) ++
      (if t.fbEn then [placeSig t.fb] else [])
  | 0x10 => idxs g x 1 2 ++ (if (w 1).getLsbD 2 then [idxPl g x 1 2] else []) ++ [idxPl g x 1 3] ++
      (if pair then idxs g x 3 (if (w 1).getLsbD 2 then 3 else 2) else [])
  | 0x11 => idxs g x 1 3 ++ (if (w 1).getLsbD 2 then [idxPl g x 1 3] ++ idxs g x 2 2 else []) ++ (if pair then idxs g x 4 2 else [])
  | 0x12 => idxs g x 1 4 ++ idxs g x 2 4 ++ idxs g x 3 4 ++ (if pair then idxs g x 6 3 ++ idxs g x 7 3 ++ idxs g x 8 2 else [])
  | 0x13 =>
    let t := obsDescOf g x
    idxs g x 1 2 ++ (if t.ic = 0 then [] else [idxPl g x 1 2]) ++ [idxPl g x 1 3] ++ idxs g x 2 4 ++ idxs g x 3 2 ++ [(t.addr, 64)]
  | 0x20 =>
    let c := dw (w 1) 48 43
    let u := unitOfCh c
    idxs g x 1 1 ++ (if decide (32 ≤ c) then
        (match g.cfgRec (pidOf 0x0A0 (pcInst u)) with | some r => if valInt r.value < 0 then [] else [placeSig (valInt r.value).toNat] | none => []) ++
          (match g.cfgRec (pidOf 0x0A4 c) with | some r => if valInt r.value < 0 then [] else [placeSig (valInt r.value).toNat] | none => [])
      else [placeLatch (latchUnit g.allEntries g c)])
  | 0x21 => (postChans g e).map placeChan
  | 0x22 => (postChans g e).map placeChan
  | 0x28 => (rcIndices g x).map placeSig
  | 0x29 => (List.range (g.descCount x)).flatMap (fun i => idxs g x (i + 1) 2)
  | 0x30 => let t := payOf g x; t.elems.map (fun e => placeSig e.sig) ++ (if t.timed && !t.can then [placeSig t.act] else [])
  | 0x34 => idxs g x 1 1 ++ (match g.cfgRec (pidOf 0x0C3 0) with
      | some r => [placeSig (dw r.value 29 15), placeSig (dw r.value 14 0)]
      | none => [])
  | 0x35 => idxs g x 1 2
  | _ => []

/-- What an entry writes at its deadline. -/
def writesOf (g : Img) (e : Entry) : List Place :=
  let x := e.operand
  let w := fun (i : Nat) => g.desc x i
  let pair := (w 1).getLsbD 3
  match e.cls with
  | 0x08 => let t := stageOf g x; [placeSig t.out, stageBlock t]
  | 0x09 => let t := sigOpOf g x; placeSig t.out :: (if t.op = 0x0D then [placeSig t.c] else [])
  | 0x0A => [idxPl g x 1 1]
  | 0x0B => [idxPl g x 1 2]
  | 0x0C => let t := loopOf g x; [placeSig t.out, closeBlock t]
  | 0x10 => idxs g x 2 3 ++ (if pair then idxs g x 4 3 else [])
  | 0x11 => [idxPl g x 2 2, idxPl g x 2 3] ++ idxs g x 3 3 ++ (if pair then [idxPl g x 4 2, idxPl g x 4 3, idxPl g x 5 0] else [])
  | 0x12 => idxs g x 4 4 ++ idxs g x 5 3 ++ (if pair then [idxPl g x 8 2, idxPl g x 8 3] ++ idxs g x 9 3 else []) ++
      [placeLatch (e.unit - 8)]
  | 0x13 => let t := obsDescOf g x; [idxPl g x 3 2, idxPl g x 3 3] ++ idxs g x 4 4 ++ [(t.addr, 64)]
  | 0x18 => (List.range (g.descCount x)).map (fun i => placeSig (dw (w (i + 1)) 57 43))
  | 0x19 => idxs g x 1 2
  | 0x1A => [placeSig (dw (w 1) 61 47), placeSig (dw (w 1) 46 32), placeSig (dw (w 1) 31 17)]
  | 0x1B => [placeSig (dw (w 1) 61 47)]
  | 0x20 => [placeChan (dw (w 1) 48 43)]
  | 0x28 => (rcIndices g x).map placeSig
  | 0x29 => (List.range (g.descCount x)).map (fun i => idxPl g x (i + 1) 2)
  | 0x31 =>
    let t := payOf g x
    t.elems.map (fun e => placeSig e.sig) ++
      (if t.can then ([t.idSig, t.tsSig].filter (· != 0)).map placeSig else [])
  | 0x34 => [idxPl g x 1 1]
  | 0x35 => [placeChan 9, placeChan 19]
  | _ => []
/-- Classes whose operations change what R107 counts as configuration: pending mode, staged groups, bank-change latches, the latched
effective state, and last values and marks. -/
def writesConfig (cls : Nat) : Bool := [0x02, 0x03, 0x0C, 0x12, 0x28].contains cls

/-! ### The schedule of a mode -/

/-- An entry placed under R49 and R53 (R90). -/
structure Slot where
  e    : Entry
  slip : Nat
  disp : Nat
  cost : Nat
  rd   : List Place
  wr   : List Place
  deriving DecidableEq, Repr
def Slot.dead (s : Slot) : Nat := s.disp + s.cost
/-- An entry at its nominal dispatch clock. -/
def placeAt (g : Img) (x : Entry × Nat) : Slot :=
  { e := x.1, slip := x.2 - targetClk x.1.offset, disp := x.2, cost := cost g x.1, rd := readsOf g x.1, wr := writesOf g x.1 }
def Img.schedule (g : Img) (m : ModeRec) : List Slot := (nomClks 0 (g.entriesOf m)).map (placeAt g)
def Img.schedules (g : Img) : List (List Slot) := g.modes.map g.schedule
/-- 0.8 × (1 + ρ_G) as a fraction over 5,000,000 (R86). -/
def Img.rateNum (g : Img) : Nat := 4 * (1000100 + g.rateLimit)
/-- ⌈n × 0.8 × (1 + ρ_G)⌉. -/
def Img.guardUp (g : Img) (n : Nat) : Nat := ceilDiv (n * g.rateNum) 5000000
/-- OFFSET + n × 0.8 × (1 + ρ_G) ≤ limit, exactly. -/
def Img.by_ (g : Img) (offset n : Nat) (limit : Int) : Bool :=
  decide (((offset * 5000000 + n * g.rateNum : Nat) : Int) ≤ limit * 5000000)
/-- The gap of R87 after a producer. -/
def Img.gap (g : Img) (s : Slot) : Nat := g.guardUp (s.slip + s.cost + 1)
/-- The fast cycle of an entry. -/
def Img.fcOf (g : Img) (s : Slot) : Nat := s.e.offset / max 1 g.tf

/-- The same entries one network cycle later. -/
def Slot.later (s : Slot) (tn : Nat) : Slot :=
  { s with e := { s.e with offset := s.e.offset + tn }, disp := s.disp + 5 * tn / 4 }
/-- The entries of one mode followed across the bell by those of another (R90). -/
def Img.across (g : Img) (a b : List Slot) : List Slot := a ++ b.map (fun s => s.later g.tn)
/-- Every ordered pair of modes, the same mode twice included. -/
def Img.pairs (g : Img) : List (List Slot × List Slot) :=
  g.schedules.flatMap (fun a => g.schedules.map (fun b => (a, b)))
/-- A property of each entry against the entries before it. -/
def eachAfter (ok : List Slot → Slot → Bool) : List Slot → List Slot → Bool
  | _, [] => true
  | seen, s :: r => ok seen s && eachAfter ok (s :: seen) r

/-! ### State (check 0x0B) -/

def insideRanges (g : Img) (p : Place) : Bool :=
  decide (p.1 + p.2 ≤ g.ranges.foldl (fun x r => if r.1 ≤ x ∧ x < r.1 + r.2 then r.1 + r.2 else x) p.1)
def touchesRanges (g : Img) (p : Place) : Bool := g.ranges.any (meets p)
/-- Ranges sorted, apart, multiples of 8, each inside one region (R81, R481). -/
def okRanges : Nat → List (Nat × Nat) → Bool
  | _, [] => true
  | low, (a, n) :: r =>
    decide (low ≤ a ∧ a % 8 = 0 ∧ n % 8 = 0) && decide (a + n ≤ 0x400000 ∨ (0x400000 ≤ a ∧ a + n ≤ 0x440000)) && okRanges (a + n) r
def strictRise : List Nat → Bool
  | a :: b :: r => decide (a < b) && strictRise (b :: r)
  | _ => true
def isState (g : Img) (i : Nat) : Bool := match g.sig i with | some r => r.inState | none => false
/-- The signal words that a modulation writes and the next run may read (R176). -/
def modOuts (g : Img) (e : Entry) : List Place :=
  if e.cls = 0x12 then [idxPl g e.operand 4 3, idxPl g e.operand 5 0, idxPl g e.operand 5 1] ++
    (if (g.desc e.operand 1).getLsbD 3 then [idxPl g e.operand 9 1, idxPl g e.operand 9 2] else []) else []
/-- The signal of a place. -/
def sigAt (p : Place) : Option Nat := if 0x400000 ≤ p.1 && p.1 < 0x440000 then some ((p.1 - 0x400000) / 8) else none
/-- A signal word read with no write completed earlier in the reader's own fast cycle is read across a fast-cycle boundary. It must be
declared, and a modulation's outputs must be declared state (R80, R176). -/
def okAcross (g : Img) (outs : List Place) (seen : List Slot) (c : Slot) : Bool :=
  let f := 5 * g.tf / 4
  c.rd.all (fun p =>
    match sigAt p with
    | none => true
    | some i =>
      seen.any (fun s => s.wr.any (meets p) && decide (s.dead ≤ c.disp ∧ s.dead / max 1 f = c.disp / max 1 f)) ||
        ((g.sig i).isSome && (isState g i || !outs.any (meets p))))
/-- The cast volume of R107. -/
def Img.volume (g : Img) : Nat :=
  8 * g.entries.length + 8 * g.descs.length + (g.coefs.map (fun c => coefRecLen c.sections c.stages)).sum +
    (g.ranges.map (·.2)).sum + 16384
def check0B (bs : List Byte) (g : Img) : Bool :=
  let es := g.allEntries
  let outs := es.flatMap (modOuts g)
  let recs := recsAt (section_ bs 3) 0 16 ((dirAt bs 3).2 / 16)
  (dirAt bs 3).2 % 16 == 0 && strictRise (g.sigmap.map (·.index)) &&
    recs.all (fun r => fieldAt r 6 2 % 0x800 == 0 && decide (fieldAt r 8 2 < 0x8000) && zeroBytes r 10 2) &&
    g.sigmap.all (fun r => (!r.inState || insideRanges g (placeSig r.index)) && !(r.rollcall && r.kind == 0)) &&
    decide (4 + 8 * fieldAt (section_ bs 4) 0 4 ≤ (dirAt bs 4).2) && okRanges 0 g.ranges && decide ((g.ranges.map (·.2)).sum ≤ 512 * 1024) &&
    es.all (fun e =>
      match e.cls with
      | 0x08 => insideRanges g (stageBlock (stageOf g e.operand))
      | 0x0C => isState g (loopOf g e.operand).out
      | 0x13 => insideRanges g ((obsDescOf g e.operand).addr, 64)
      | 0x09 => (sigOpOf g e.operand).op != 0x0D || isState g (sigOpOf g e.operand).c
      | _ => true) &&
    g.schedules.all (eachAfter (okAcross g outs) []) &&
    decide (640 * g.volume ≤ 6000 * (2 * g.tn - g.tf)) && (!g.paired || decide (g.volume + 32 * 1024 ≤ 0x200000))

/-! ### Slips, collisions and dependencies (checks 0x0E to 0x10) -/

/-- Check 0x0E (R49, R51). -/
def check0E (g : Img) : Bool :=
  g.schedules.all (fun l => l.all (fun s => decide (s.slip ≤ 64 ∧ s.e.offset + g.guardUp (s.slip + 1) ≤ g.tn)))
/-- Check 0x0F (R54). -/
def check0F (g : Img) : Bool :=
  g.pairs.all (fun p => eachAfter (fun seen c => seen.all (fun s => s.e.unit != c.e.unit || decide (s.dead ≤ c.disp))) []
    (g.across p.1 p.2))

/-- R87 between a consumer and every producer before it. -/
def okGaps (g : Img) (seen : List Slot) (c : Slot) : Bool :=
  seen.all (fun p => !(p.e.unit == c.e.unit || anyMeets p.wr c.rd) || decide (p.e.offset + g.gap p ≤ c.e.offset))
/-- No two places of a list meet. -/
def disjointAll : List Place → Bool
  | [] => true
  | a :: r => r.all (fun b => !meets a b) && disjointAll r
/-- No two writes of one word in one lane clock (R139), by one entry or by two. -/
def okWrites (seen : List Slot) (c : Slot) : Bool := disjointAll c.wr && seen.all (fun p => p.dead != c.dead || !anyMeets p.wr c.wr)
/-- A roll-called word that anything but an exchange reads was last written by an exchange or a selection (R123, R480). -/
def okRolled (g : Img) (seen : List Slot) (c : Slot) : Bool :=
  c.e.cls == 0x28 || c.rd.all (fun p =>
    match sigAt p with
    | none => true
    | some i =>
      match g.sig i with
      | some r => !r.rollcall || (match seen.find? (fun s => s.wr.any (meets p)) with | some s => s.e.cls == 0x28 || s.e.cls == 0x29 | none => true)
      | none => true)
/-- A post's channels have each had a compare write since their previous post (R180). `first`: the channel may have been written in an
earlier cycle still. -/
def okFresh (g : Img) (seen : List Slot) (c : Slot) : Bool :=
  !(c.e.cls == 0x21 || c.e.cls == 0x22) || (postChans g c.e).all (fun ch =>
    match seen.find? (fun s => s.wr.any (meets (placeChan ch)) || (s.e.cls == c.e.cls && (postChans g s.e).contains ch)) with
    | some s => s.e.cls == 0x20 || s.e.cls == 0x35
    | none => true)
/-- The interval between consecutive dispatches of an observer descriptor is its RUN_DT (R194). -/
def okRunDt (g : Img) (seen : List Slot) (c : Slot) : Bool :=
  c.e.cls != 0x13 || (match seen.find? (fun s => s.e.cls == 0x13 && s.e.operand == c.e.operand) with
    | some s => s.e.offset + (obsDescOf g c.e.operand).dt == c.e.offset
    | none => true)
/-- Entries that write state, coefficients or configuration end 32 clocks before the bell (R108). -/
def okQuiet (g : Img) (s : Slot) : Bool :=
  !(writesConfig s.e.cls || s.wr.any (touchesRanges g)) || g.by_ s.e.offset (s.slip + s.cost + 32) g.tn
/-- In every fast cycle both halves of the park lock are posted or neither is (R184). -/
def okPark (g : Img) (l : List Slot) : Bool :=
  (List.range g.k).all (fun f =>
    let has := fun (ch : Nat) => l.any (fun s => s.e.cls == 0x21 && g.fcOf s == f && (postChans g s.e).contains ch)
    has 9 == has 19)

/-! ### Loops (R160) -/

def Img.stagesOf (g : Img) (loop : Nat) : Nat := match g.coefs.find? (fun c => c.loop == loop) with | some c => c.stages | none => 0
def loopOfEntry (g : Img) (e : Entry) : Option Nat :=
  if e.cls = 8 then some (stageOf g e.operand).loop else if e.cls = 12 then some (loopOf g e.operand).loop else none
/-- Between consecutive closes the stages run once each, in order. `run`: the stages since the last close, none before the first. -/
def okRuns (g : Img) (n : Nat) : Option (List Nat) → List Slot → Bool
  | _, [] => true
  | run, s :: r =>
    if s.e.cls = 12 then (match run with | some l => l == List.range n | none => true) && okRuns g n (some []) r
    else okRuns g n (run.map (· ++ [(stageOf g s.e.operand).stage])) r
/-- The pre-op: the last writer of stage 0's IN is dispatched no earlier than the deadline of the preceding close. -/
def okPreOp (g : Img) (own : List Slot) (seen : List Slot) (c : Slot) : Bool :=
  let t := stageOf g c.e.operand
  let p := placeSig t.inp
  !(c.e.cls == 8 && t.stage == 0) || !own.any (fun s => s.wr.any (meets p)) ||
    (match seen.find? (fun s => s.e.cls == 12 && (loopOf g s.e.operand).loop == t.loop), seen.find? (fun s => s.wr.any (meets p)) with
     | some k, some w => decide (k.e.offset + g.gap k ≤ w.e.offset)
     | _, _ => true)
/-- The fast cycle of each close of a loop in a mode. -/
def closesOf (g : Img) (loop : Nat) (l : List Slot) : List Nat :=
  (l.filter (fun s => s.e.cls == 12 && (loopOf g s.e.operand).loop == loop)).map g.fcOf
/-- Distances between successive members round a cycle of k. -/
def cyclicGaps (k : Nat) (l : List Nat) : List Nat :=
  match l with
  | [] => []
  | a :: r => ((l.zip (r ++ [a + k])).map (fun p => p.2 - p.1))
/-- A loop that some mode runs in some of its fast cycles only keeps one count of fast cycles between its runs in every mode; its stages
run once each between two closes. -/
def okLoops (g : Img) : Bool :=
  let loops := (g.allEntries.filterMap (loopOfEntry g)).eraseDups
  loops.all (fun loop =>
    let closes := (g.schedules.map (closesOf g loop)).filter (fun l => !l.isEmpty)
    let gaps := closes.flatMap (cyclicGaps g.k)
    (closes.all (fun l => (List.range g.k).all l.contains) || gaps.all (fun x => x == gaps.headD x)) &&
      g.pairs.all (fun p => okRuns g (g.stagesOf loop) none ((g.across p.1 p.2).filter (fun s => loopOfEntry g s.e == some loop))))
/-- Check 0x10. -/
def check10 (g : Img) : Bool :=
  g.schedules.all (fun l => l.all (okQuiet g) && okPark g l) && okLoops g &&
    g.pairs.all (fun p =>
      eachAfter (fun seen c => okGaps g seen c && okWrites seen c && okRolled g seen c && okFresh g seen c && okRunDt g seen c &&
        okPreOp g (if c.e.offset < g.tn then p.1 else p.2.map (fun s => s.later g.tn)) seen c) [] (g.across p.1 p.2))

/-! ### Fast cycles and posts (checks 0x11 and 0x12) -/

def countIn (g : Img) (l : List Slot) (cls f : Nat) : Nat := (l.filter (fun s => s.e.cls == cls && g.fcOf s == f)).length
/-- Check 0x11 (R43, R82, R351). -/
def check11 (g : Img) : Bool :=
  g.schedules.all (fun l => (List.range g.k).all (fun f =>
    decide (1 ≤ countIn g l 0x28 f) && countIn g l 0x38 f == 1 && countIn g l 0x34 f == 1))

/-- The start of the target period of a channel's pending events, by its last compare write before a post, in GT units from the bell
(R177, R181, R184). -/
def targetOf (g : Img) (seen : List Slot) (ch : Nat) : Option Int :=
  (seen.find? (fun s => s.wr.any (meets (placeChan ch)))).map (fun s =>
    let f : Int := (s.e.offset / max 1 g.tf * g.tf : Nat)
    if s.e.cls == 0x20 && (g.desc s.e.operand 1).getLsbD 42 then f + (g.tf / 2 : Nat) else f + (g.tf : Nat))
def leastInt : List Int → Option Int
  | [] => none
  | a :: r => some (r.foldl min a)
/-- The earliest target period of a post. -/
def postTarget (g : Img) (seen : List Slot) (c : Slot) : Option Int := leastInt ((postChans g c.e).filterMap (targetOf g seen))
/-- D of R88 in 5,000,000ths of a GT unit. -/
def doneAt (g : Img) (s : Slot) : Nat := s.e.offset * 5000000 + (s.slip + s.cost) * g.rateNum
/-- Events of a post on link k: two a channel. -/
def eventsOn (g : Img) (s : Slot) (k : Nat) : Nat :=
  if s.e.cls = 0x22 then 2 * ((postChans g s.e).filter (fun c => decide (20 + 12 * k ≤ c ∧ c < 32 + 12 * k))).length else 0
/-- EVENT frames that earlier posts of a mode have not finished when one is released (R241), oldest first as (release, end), in
5,000,000ths of a GT unit; a frame of n events takes 6 + 5·n characters of 25 ns = 16 GT units, and the wait without other
frames is 3.675 µs + 0.2 µs = 2,480 GT units. -/
def frameTime (n : Nat) : Nat := (6 + 5 * n) * 16 * 5000000
def linkFrames (g : Img) (k : Nat) (posts : List Slot) : List (Nat × Nat × Nat) :=
  posts.foldl (fun acc s =>
    let n := eventsOn g s k
    if n = 0 then acc
    else
      let r := doneAt g s + 1280 * 5000000
      let w := 2480 * 5000000 + ((acc.filter (fun a => decide (r < a.2.1))).map (·.2.2)).sum
      acc ++ [(r, r + w + frameTime n, frameTime n)]) []
/-- A gate post: 500 ns before its target period. An edge post: R241 on each link, and 3.5 µs. -/
def okGatePost (g : Img) (seen : List Slot) (c : Slot) : Bool :=
  match postTarget g seen c with
  | none => true
  | some p =>
    if c.e.cls = 0x21 then g.by_ c.e.offset (c.slip + c.cost) (p - 320)
    else if c.e.cls = 0x22 then
      let prev := (seen.filter (fun s => s.e.cls == 0x22)).reverse
      g.by_ c.e.offset (c.slip + c.cost) (p - 2240) &&
        [0, 1].all (fun k => eventsOn g c k == 0 || (match (linkFrames g k (prev ++ [c])).getLast? with
          | some a => decide ((a.2.1 : Int) ≤ (p - 1920) * 5000000)
          | none => true))
    else true
/-- The launch of a payload: its slot start, or its buffer entry (Table 5-1). -/
def payLaunch (g : Img) (net : Nat) (t : PayDesc) : Option Nat :=
  if t.can then some t.entry
  else match g.nets[net]? with
    | some n => (n.slots.find? (fun r => r.number == t.slot)).map (·.start)
    | none => none
/-- Check 0x12 in a mode, followed across the bell by itself so that every post has its compare writes before it (R88). -/
def check12In (g : Img) (m : ModeRec) (l : List Slot) : Bool :=
  eachAfter (fun seen c =>
    let cyc := c.e.offset / max 1 g.tn * g.tn
    if c.e.cls = 0x34 then g.by_ c.e.offset (c.slip + c.cost) (((g.fcOf c + 1) * g.tf : Nat) - 320)
    else if c.e.cls = 0x30 then
      (match payLaunch g m.net (payOf g c.e.operand) with
       | some x => g.by_ c.e.offset (c.slip + c.cost) (((x + cyc : Nat) : Int) - 1920)
       | none => true)
    else okGatePost g seen c) [] (g.across l l)
def check12 (g : Img) : Bool := g.modes.all (fun m => check12In g m (g.schedule m))

end Sys2Proof.Machine
end

