-- ==== Sys2Proof/Machine/ImageCheck.lean ====
section
/-! DEFINITION. The load checks of a timetable image in table order (Table 4-9, R89), with checks 0x0C (R83), 0x0D (R84, R182, R212) and
0x13 (R274, R275, R330) here and the others in ImageForm and ImagePlace. -/

namespace Sys2Proof.Machine
open Sys2Proof

/-- Check 0x0C. -/
def check0C (bs : List Byte) (g : Img) : Bool :=
  decide (((g.coefs.map (·.loop)).eraseDups).length ≤ 128 ∧ ((g.coefs.filter (fun c => c.bank == 0)).map (·.stages)).sum ≤ 1024 ∧
    (g.coefs.map (·.sections)).sum ≤ 8192 ∧ (dirAt bs 5).2 ≤ 256 * 1024)

/-! ### Configuration (check 0x0D) -/

/-- A group's own record, or one for each member (R84). -/
def hasGroup (g : Img) (p : Nat) : Bool := (g.cfgRec p).isSome || (groupMembers g p).all (fun q => (g.cfgRec q).isSome)
/-- The loops an image declares. -/
def Img.loops (g : Img) : List Nat := (g.coefs.map (·.loop) ++ g.allEntries.filterMap (loopOfEntry g)).eraseDups
/-- The signals that need a plausibility band: subjects of exchanges and OUTs of pair selections. -/
def Img.rolled (g : Img) : List Nat :=
  g.allEntries.flatMap (fun e => if e.cls = 0x28 then rcIndices g e.operand
    else if e.cls = 0x29 then (List.range (g.descCount e.operand)).map (fun i => idx15 (g.desc e.operand (i + 1)) 63 2) else [])
def initOf (g : Img) (i : Nat) : SigWord := match g.sig i with | some r => r.init | none => sigZero
def isHost (g : Img) (i : Nat) : Bool := match g.sig i with | some r => r.host | none => false
/-- R212, when the image carries the thresholds record. -/
def okThresholds (g : Img) : Bool :=
  match g.thrSigs with
  | [a, b, c, d] =>
    let v := dw (g.cfgWord (pidOf 0x0C2 0)) 29 15
    let lt := fun (x y : Nat) => dyLt (sigVal (initOf g x)) (sigVal (initOf g y))
    [a, b, c, d].all (isHost g) && lt a b && lt b c && lt c d && lt c v && lt v d && (g.cfgRec (pidOf 0x0C2 0)).isSome &&
      (initOf g v).st.valid && (match g.sig v with | some r => r.rollcall | none => false) && valInt (g.cfgWord (pidOf 0x012 v)) == 1
  | _ => true
/-- A group staging names the shadow of a whole group, or of a field of no group, that the image has and the timetable owns (R58, R61). -/
def okStagingOwner (g : Img) (e : Entry) : Bool :=
  let p := stagingGroup g e.operand
  e.cls != 0x03 || (!pidCopy p && decide (p < 2 ^ 31) && groupPid g p == p && instOk g (pidField p) (pidInst p) && pidField p != 0x001 &&
    !fieldHost g p && (match fieldInfo (pidField p) with | some i => i.kind == .commit || i.kind == .group | none => false))
def check0D (bs : List Byte) (g : Img) : Bool :=
  let recs := recsAt (section_ bs 6) 0 16 ((dirAt bs 6).2 / 16)
  (dirAt bs 6).2 % 16 == 0 && recs.all (fun r => decide (fieldAt r 4 1 ≤ 1) && zeroBytes r 5 3) && g.config.all (fun r => !pidCopy r.pid) &&
    distinct (g.config.map (·.pid)) &&
    g.config.all (fun r => (g.config.filter (fun q => groupPid g q.pid == groupPid g r.pid)).all (fun q => q.host == r.host)) &&
    g.loops.all (fun l => hasGroup g (pidOf 0x0F2 l)) && g.rolled.all (fun i => hasGroup g (pidOf 0x0F7 i)) &&
    g.allEntries.all (fun e => (writesOf g e).all (fun p => match sigAt p with | some i => !isHost g i | none => true)) &&
    g.config.all (fun r => (pidField r.pid != 0x038 && pidField r.pid != 0x0A1) || valInt r.value != 1 || decide (16000 ≤ g.tf)) &&
    okThresholds g &&
    g.allEntries.all (okStagingOwner g)

/-! ### Network tables (check 0x13) -/

/-- Bytes a frame occupies on the wire (R270). -/
def wireBytes (len : Nat) : Nat := max 72 (70 + len)
/-- The table's form (Tables 15-3, 15-4): bytes of the section, offset of the table, the table. -/
def okNetForm (tn : Nat) (sec : List Byte) (o : Nat) (t : NetTable) : Bool :=
  decide (o + 16 + 16 * fieldAt sec o 2 ≤ sec.length) && zeroBytes sec (o + 12) 4 && decide (128 ≤ t.window ∧ t.window ≤ 6400) &&
    decide (t.slots.length ≤ 256 ∧ t.recess ≤ tn) && rising (t.slots.map (·.start)) && distinct (t.slots.map (·.number)) &&
    (recsAt sec (o + 16) 16 t.slots.length).all (fun r => zeroBytes r 13 3) &&
    t.slots.all (fun r =>
      let stars := ((List.range 12).filter r.star).length
      decide (r.start < tn ∧ 640 ≤ r.len ∧ r.ports < 0x4000) && (r.kind == 1 || r.kind == 2) &&
        (if r.ring || r.pair then (r.ring != r.pair) && stars == 0 && decide (r.maxLen ≤ 1024)
        else decide (1 ≤ stars ∧ r.maxLen ≤ 256)))
/-- R275, points 1 to 4. -/
def okNetSlots (t : NetTable) : Bool :=
  t.slots.all (fun r =>
    decide (2 * t.window * 250 + (wireBytes r.maxLen + 12) * r.byteT ≤ r.len * 250 ∧ r.start + r.len ≤ t.recess) &&
      t.slots.all (fun q => r.number == q.number || r.ports &&& q.ports == 0 || decide (r.start + r.len ≤ q.start ∨ q.start + q.len ≤ r.start)) &&
      (decide (0x0F < r.txNode) || t.slots.any (fun q => q.txNode == r.txNode && q.ring)))
/-- R275, points 5 and 7, for an entry of a mode with this network table. A take's execution does not run over the slot's swap point. -/
def okNetEntry (g : Img) (net : Option NetTable) (s : Slot) : Bool :=
  if !(s.e.cls == 0x30 || s.e.cls == 0x31) then true
  else
    let t := payOf g s.e.operand
    if t.can then true
    else match net with
      | none => false
      | some n =>
        match n.slots.find? (fun r => r.number == t.slot) with
        | none => false
        | some r =>
          decide (t.len ≤ r.maxLen) &&
            (if s.e.cls = 0x30 then (r.kind == 2) == t.timed
            else
              let sw := r.swapIdx n g.tf g.k * g.tf
              let after := fun (x : Nat) => decide (x ≤ s.e.offset) || g.by_ s.e.offset (s.slip + s.cost) x
              after sw && after (sw + g.tn))
/-- The bytes that an entry writes into the cast volume, as the mirrors of R330 count them. -/
def mirrorBytes (g : Img) (s : Slot) : Nat := ((s.wr.filter (touchesRanges g)).map (fun p => p.2 + 66)).sum
/-- R330 for one table, and for the modes that use it. -/
def okPairTable (g : Img) (t : NetTable) : Bool :=
  let ps := t.slots.filter (·.pair)
  decide (20 * (ps.map (·.len)).sum ≤ g.tn) &&
    ps.all (fun r => (List.range (g.k + 2)).all (fun j =>
      decide (r.start + g.tf + r.len ≤ j * g.tf + 1280 ∨ j * g.tf + 1472 ≤ r.start + g.tf - t.window))) &&
    decide (2 * (t.pairDelay + 1472) ≤ g.tf)
def okPairMode (g : Img) (net : Option NetTable) (l : List Slot) : Bool :=
  let base := (valInt (g.cfgWord (pidOf 0x0B0 0))).toNat
  match net with
  | none => false
  | some t =>
    (List.range g.k).all (fun f => [base, base + 1].all (fun n =>
      l.any (fun s => s.e.cls == 0x30 && g.fcOf s == f && t.slots.any (fun r =>
        let y := payOf g s.e.operand
        !y.can && y.slot == r.number && r.ring && r.txNode == n &&
          decide (250 * (r.start + 15 * t.hop + t.window) + wireBytes r.maxLen * byteRing ≤ 250 * (f * g.tf) + 375 * g.tf))))) &&
      decide (20 * 512 * (l.map (mirrorBytes g)).sum ≤ 250 * g.tn)
/-- Check 0x13. -/
def check13 (bs : List Byte) (g : Img) : Bool :=
  let sec := section_ bs 7
  decide (present bs 7 = false ∨ 4 + 4 * fieldAt sec 0 4 ≤ sec.length) &&
    g.nets.zipIdx.all (fun x => okNetForm g.tn sec (fieldAt sec (4 + 4 * x.2) 4) x.1 && okNetSlots x.1) &&
    g.modes.all (fun m => (g.schedule m).all (okNetEntry g g.nets[m.net]?)) &&
    (!g.paired || (g.nets.all (okPairTable g) && g.modes.all (fun m => okPairMode g g.nets[m.net]? (g.schedule m))))

/-! ### The checks in order -/

/-- The detail of the first check that fails, 0 when none does. The checks are evaluated in order. -/
def firstFail : List (Nat × (Unit → Bool)) → Nat
  | [] => 0
  | (n, c) :: r => if c () then firstFail r else n
/-- The load checks (R89): floor, the anti-rollback version; fwVer, the firmware's version; crypt, what the cryptographic check 0x02
found (imageCrypt). KEY_SLOT is 0 or 1. -/
def imageDetail (floor fwVer : Nat) (crypt : Bool) (bs : List Byte) : Nat :=
  let g := imageOf bs
  firstFail [(0x01, fun _ => check01 bs), (0x02, fun _ => crypt && decide (imageKeySlot bs ≤ 1)),
    (0x03, fun _ => decide (floor ≤ g.secVersion)), (0x04, fun _ => check04 fwVer bs), (0x05, fun _ => check05 bs g),
    (0x06, fun _ => check06 bs g), (0x07, fun _ => check07 bs g), (0x08, fun _ => check08 g), (0x09, fun _ => check09 g),
    (0x0A, fun _ => check0A bs g), (0x0B, fun _ => check0B bs g), (0x0C, fun _ => check0C bs g), (0x0D, fun _ => check0D bs g),
    (0x0E, fun _ => check0E g), (0x0F, fun _ => check0F g), (0x10, fun _ => check10 g), (0x11, fun _ => check11 g),
    (0x12, fun _ => check12 g), (0x13, fun _ => check13 bs g)]

end Sys2Proof.Machine
end

