-- ==== Sys2Proof/Machine/Sha3.lean ====
section
/-! DEFINITION. SHA3-512, by which images, firmware and keys are checked (R85, R423): the manual names the function, FIPS 202 defines it.
PRESUMED: log entry 131. -/

namespace Sys2Proof.Machine
open Sys2Proof

/-- The state of the permutation: 25 words, word x + 5 y first by y. -/
abbrev Keccak := List DWord
def Keccak.at_ (a : Keccak) (x y : Nat) : DWord := a.getD (x % 5 + 5 * (y % 5)) 0
def keccakMap (f : Nat → Nat → DWord) : Keccak := (List.range 25).map (fun i => f (i % 5) (i / 5))
/-- The rotation of word (x, y), by x + 5 y. -/
def keccakRot (x y : Nat) : Nat :=
  [0, 1, 62, 28, 27, 36, 44, 6, 55, 20, 3, 10, 43, 25, 39, 41, 45, 15, 21, 8, 18, 2, 61, 56, 14].getD (x + 5 * y) 0
def keccakRc : List DWord :=
  [0x1, 0x8082, 0x800000000000808A, 0x8000000080008000, 0x808B, 0x80000001, 0x8000000080008081, 0x8000000000008009,
   0x8A, 0x88, 0x80008009, 0x8000000A] ++
  [0x8000808B, 0x800000000000008B, 0x8000000000008089, 0x8000000000008003, 0x8000000000008002, 0x8000000000000080, 0x800A,
   0x800000008000000A, 0x8000000080008081, 0x8000000000008080, 0x80000001, 0x8000000080008008]
/-- One round: theta, rho and pi, chi, iota. -/
def keccakRound (a : Keccak) (rc : DWord) : Keccak :=
  let c := (List.range 5).map (fun x => a.at_ x 0 ^^^ a.at_ x 1 ^^^ a.at_ x 2 ^^^ a.at_ x 3 ^^^ a.at_ x 4)
  let d := (List.range 5).map (fun x => c.getD ((x + 4) % 5) 0 ^^^ (c.getD ((x + 1) % 5) 0).rotateLeft 1)
  let a := keccakMap (fun x y => (a.at_ x y ^^^ d.getD x 0).rotateLeft (keccakRot x y))
  -- word (x, y) moves to (y, 2 x + 3 y), so that word (u, v) comes from (u + 3 v, u)
  let b := keccakMap (fun u v => a.at_ (u + 3 * v) u)
  let e := keccakMap (fun x y => b.at_ x y ^^^ (~~~(b.at_ (x + 1) y) &&& b.at_ (x + 2) y))
  e.set 0 (e.getD 0 0 ^^^ rc)
def keccakF (a : Keccak) : Keccak := keccakRc.foldl keccakRound a
/-- Nine words of a 72-byte block are absorbed. -/
def absorb (a : Keccak) (block : List Byte) : Keccak :=
  keccakF ((List.range 25).map (fun i =>
    a.getD i 0 ^^^ (if i < 9 then BitVec.ofNat 64 (leNat ((block.drop (8 * i)).take 8)) else 0)))
/-- The last block: the domain bits 01, then the padding. -/
def sha3Pad (r : List Byte) : List Byte :=
  let z := r ++ [0x06] ++ List.replicate (71 - r.length) 0
  z.set 71 (z.getD 71 0 ||| 0x80)
def sha3Blocks : Nat → Keccak → List Byte → Keccak
  | 0, a, _ => a
  | n + 1, a, bs => if bs.length < 72 then absorb a (sha3Pad bs) else sha3Blocks n (absorb a (bs.take 72)) (bs.drop 72)
/-- The 64 bytes of SHA3-512. -/
def sha3_512 (bs : List Byte) : List Byte :=
  ((sha3Blocks (bs.length / 72 + 1) (List.replicate 25 0) bs).take 8).flatMap (fun w => leBytes w.toNat 8)

end Sys2Proof.Machine
end

