-- ==== Sys2Proof/Machine/Flash.lean ====
section
/-! DEFINITION. The external flash and the identity engine (R92, R399, R421 to R425, R428 to R431): slot writes with their checks, slot
choice, RESTART, ATTEST, the debug commands and ROLLBACK_ADVANCE. What SHA3-512 and ML-DSA-87 find is an operand of the completion. -/

namespace Sys2Proof.Machine
open Sys2Proof

/-! ### Slots -/

/-- A part of a slot: its firmware or its image. -/
def flashPart (f : Flash) (slot : Nat) (fw : Bool) : List Byte :=
  if slot = 0 then (if fw then f.fwA else f.imgA) else (if fw then f.fwB else f.imgB)
def flashPut (f : Flash) (slot : Nat) (fw : Bool) (bs : List Byte) : Flash :=
  if slot = 0 then (if fw then { f with fwA := bs } else { f with imgA := bs })
  else (if fw then { f with fwB := bs } else { f with imgB := bs })
/-- A part is written, and whether it passed its checks. -/
def putSlot (d : Dev) (slot : Nat) (fw : Bool) (bs : List Byte) (ok : Bool) : Dev :=
  d.onBoot (fun b => { b with
    flash := flashPut b.flash slot fw bs
    valid := b.valid.filter (fun x => x != (slot, fw)) ++ (if ok then [(slot, fw)] else []) })
def Dev.partOk (d : Dev) (slot : Nat) (fw : Bool) : Bool := d.boot.valid.contains (slot, fw)

/-- A copy of the boot-control block (R422): its sequence number and preferred slot, when its CRC-32C is right. That the three stand next
to each other is a DESIGN CHOICE: log entry 190. -/
def bootCopy (bs : List Byte) : Option (Nat × Nat) :=
  if bs.length = 9 && fieldAt bs 4 1 < 2 && fieldAt bs 5 4 == (crc32c (bs.take 5)).toNat then some (fieldAt bs 0 4, fieldAt bs 4 1) else none
def bootBytes (seq slot : Nat) : List Byte :=
  let bs := leBytes seq 4 ++ leBytes slot 1
  bs ++ leBytes (crc32c bs).toNat 4
/-- The slot the boot-control block prefers: the valid copy with the higher sequence, else slot A (R422). -/
def preferred (f : Flash) : Nat :=
  match bootCopy f.bcb0, bootCopy f.bcb1 with
  | some (s0, p0), some (s1, p1) => if s0 < s1 then p1 else p0
  | some (_, p0), none => p0
  | none, some (_, p1) => p1
  | none, none => 0
/-- SLOT_SELECT writes the older copy with the sequence raised by one. -/
def selectSlot (f : Flash) (slot : Nat) : Flash :=
  match bootCopy f.bcb0, bootCopy f.bcb1 with
  | some (s0, _), some (s1, _) =>
    if s0 < s1 then { f with bcb0 := bootBytes (s1 + 1) slot } else { f with bcb1 := bootBytes (s0 + 1) slot }
  | some (s0, _), none => { f with bcb1 := bootBytes (s0 + 1) slot }
  | none, some (s1, _) => { f with bcb0 := bootBytes (s1 + 1) slot }
  | none, none => { f with bcb0 := bootBytes 1 slot }

/-- The cryptographic check of R85 on bytes that end with a signature block: DIGEST matches the bytes before the block, the hash of
PUBLIC_KEY is the fused one, which is not empty, and the signature verifies (`sigOk`: what the ML-DSA-87 engine finds). -/
def blockCrypt (fuse : BitVec 512) (sigOk : Bool) (bs : List Byte) : Bool :=
  let n := bs.length - sigSize
  let at_ := fun (o k : Nat) => (bs.drop (n + o)).take k
  sigOk && fuse != 0 && leNat (sha3_512 (at_ 72 2592)) == fuse.toNat && sha3_512 (bs.take n) == at_ 8 64
/-- Check 0x02 of Table 4-9 and of Table 23-5. -/
def imageCrypt (f : FuseSt) (sigOk : Bool) (bs : List Byte) : Bool :=
  blockCrypt (if imageKeySlot bs = 0 then f.cust0 else f.cust1) sigOk bs
def fwCrypt (f : FuseSt) (sigOk : Bool) (bs : List Byte) : Bool := blockCrypt f.rootHash sigOk bs

/-- The first check of Table 23-5 that fails, 0 when all pass. -/
def fwDetail (floor : Nat) (crypt : Bool) (bs : List Byte) : Nat :=
  let n := bs.length
  if n < 64 + sigSize || decide (14680064 < n) || fieldAt bs 0 4 ≠ 0x57464854 || fieldAt bs 0x0C 4 ≠ n ||
    fieldAt bs (n - sigSize) 4 ≠ 0x4E474953 then 1
  else if !crypt || fieldAt bs (n - sigSize + 4) 1 ≠ 0xFF then 2
  else if fieldAt bs 5 1 < floor then 3
  else if fieldAt bs 4 1 ≠ 0xB0 || fieldAt bs 0x0A 2 ≠ 0 || ((bs.drop 0x10).take 48).any (· != 0) then 4
  else 0
/-- A slot write runs (R92). -/
def Dev.writing (d : Dev) : Bool := d.jobRuns 0x0210 || d.jobRuns 0x0701

/-! ### Writes -/

/-- IMAGE_WRITE: the part holds the bytes written and is not valid until its checks have passed. -/
def cmdImageWrite (d : Dev) (r : Request) : Dev :=
  command d r 0x0210 (fun d =>
    let slot := argOf r 0
    let n := if r.args.length = 2 then argOf r 1 else fieldAt (d.bulkBytes 8 4) 0 4
    if 1 < slot then refuse d r 0x0210 0x12 2
    else if d.boot.imgSlot = some slot then refuse d r 0x0210 0x13 5
    else if d.writing || d.bulkBusy r.sender then refuse d r 0x0210 3 0
    else if n = 0 || 2097152 < n then refuse d r 0x0210 0x12 5
    else putSlot (accept (claimBulk d r.sender) r 0x0210 0 []).1 slot false (d.bulkBytes 0 n) false)
def cmdFwWrite (d : Dev) (r : Request) : Dev :=
  command d r 0x0701 (fun d =>
    let slot := argOf r 0
    let off := argOf r 1
    let n := argOf r 2
    let last := (argOf r 3).testBit 0
    let next := (d.mgmt.fwNext.find? (fun x => x.1 == slot)).map (·.2)
    if 1 < slot then refuse d r 0x0701 0x12 2
    else if d.boot.fwSlot = some slot then refuse d r 0x0701 0x13 5
    else if d.writing || d.bulkBusy r.sender then refuse d r 0x0701 3 0
    else if n = 0 || 2097152 < n || off % 4096 ≠ 0 || 14680064 < off + n || (off ≠ 0 && next ≠ some off) || (!last && n % 4096 ≠ 0) then
      refuse d r 0x0701 0x12 5
    else
      let old := (flashPart d.boot.flash slot true).take off
      let d := putSlot (accept (claimBulk d r.sender) r 0x0701 0 []).1 slot true (old ++ d.bulkBytes 0 n) false
      d.onMgmt (fun m => { m with
        fwNext := m.fwNext.filter (fun x => x.1 != slot) ++ (if last then [] else [(slot, off + n)]) }))
/-- The end of a slot write: the first failing check completes it with ERR_IMAGE and leaves the part without its signature block. -/
def slotWritten (d : Dev) (j : Job) (slot : Nat) (fw : Bool) (detail : Nat) : Dev :=
  if detail = 0 then (putSlot d slot fw (flashPart d.boot.flash slot fw) true).endJob j.num 0 0
  else (putSlot d slot fw [] false).endJob j.num 0x17 detail
def imageWriteEnd (d : Dev) (j : Job) (sigOk : Bool) : Dev :=
  let slot := argOf j.req 0
  slotWritten d j slot false (
    let bs := flashPart d.boot.flash slot false
    imageDetail d.imageFloor 0x0302 (imageCrypt d.boot.fuses sigOk bs) bs)
def fwWriteEnd (d : Dev) (j : Job) (sigOk : Bool) : Dev :=
  let slot := argOf j.req 0
  if (argOf j.req 3).testBit 0 then 
    slotWritten d j slot true (
      let bs := flashPart d.boot.flash slot true
      fwDetail d.boot.fwFloor (fwCrypt d.boot.fuses sigOk bs) bs)
  else d.endJob j.num 0 0

def cmdSlotStatus (d : Dev) (r : Request) : Dev :=
  command d r 0x0702 (fun d =>
    let words := fun (s : Nat) => (List.range 3).map (fun w =>
      Config.slotWord s w (fieldAt (flashPart d.boot.flash s true) 6 2) (d.partOk s true) (d.partOk s false) (d.boot.fallFw || d.boot.fallImg))
    okay d r 0x0702 (words 0 ++ words 1))
def cmdSlotSelect (d : Dev) (r : Request) : Dev :=
  command d r 0x0703 (fun d =>
    let slot := argOf r 0
    if 1 < slot then refuse d r 0x0703 0x12 2
    else okay (d.onBoot (fun b => { b with flash := selectSlot b.flash slot })) r 0x0703 [])
/-- The safe stop state is STOPPED or TRIPPED. -/
def Dev.stopDown (d : Dev) : Bool := decide (2 ≤ (d.lane d.lowLane).stop.state)
def cmdRestart (d : Dev) (r : Request) : Dev :=
  command d r 0x0704 (fun d =>
    if d.boot.released && d.isActive && !d.partnerReady && !d.stopDown then refuse d r 0x0704 0x13 7
    else (okay d r 0x0704 []).onMgmt (fun m => { m with restart := some (d.clk + msClk) }))

/-- IMAGE_WRITE (R399). -/
def execImageWrite (r : Request) (s : State) : Host.Outcome State Fault Refusal := s.onDev (fun d => cmdImageWrite d r)
/-- FW_WRITE (R399). -/
def execFwWrite (r : Request) (s : State) : Host.Outcome State Fault Refusal := s.onDev (fun d => cmdFwWrite d r)
/-- SLOT_STATUS (R391): kind, version and valid of each slot, whose coding no rule gives. -/
def execSlotStatus (r : Request) (s : State) : Host.Outcome State Fault Refusal := s.onDev (fun d => cmdSlotStatus d r)
/-- SLOT_SELECT (R422). -/
def execSlotSelect (r : Request) (s : State) : Host.Outcome State Fault Refusal := s.onDev (fun d => cmdSlotSelect d r)
/-- RESTART (R399). -/
def execRestart (r : Request) (s : State) : Host.Outcome State Fault Refusal := s.onDev (fun d => cmdRestart d r)

/-! ### Attestation -/

def Dev.keyLocked (d : Dev) : Bool := d.boot.scan || !d.boot.keyOk
def cmdAttest (d : Dev) (r : Request) : Dev :=
  command d r 0x0901 (fun d =>
    if d.bulkBusy r.sender || d.jobRuns 0x0901 then refuse d r 0x0901 3 0
    else if d.keyLocked then refuse d r 0x0901 0x18 0
    else (accept (claimBulk d r.sender) r 0x0901 0 []).1)
/-- n bytes, cut or filled with zeros. -/
def padTo (n : Nat) (bs : List Byte) : List Byte := bs.take n ++ List.replicate (n - bs.length) 0
/-- Bytes +0 to +223 of the report (Table 23-7). -/
def attestHead (d : Dev) (nonce : List Word) : List Byte :=
  let img := d.img
  leBytes 0x54535441 4 ++ leBytes 1 2 ++ leBytes 4920 2 ++ leBytes d.boot.fuses.serial.toNat 16 ++
    padTo 32 (nonce.flatMap (fun w => leBytes w.toNat 4)) ++ leBytes d.gt 8 ++ leBytes (winRead d 0).toNat 4 ++ leBytes (winRead d 4).toNat 4 ++
    leBytes d.imageId 8 ++ padTo 64 img.digest ++ padTo 64 d.boot.fwDigest ++ leBytes d.boot.keySlot 1 ++ leBytes d.imageSec 1 ++
    leBytes d.imageFloor 1 ++ leBytes d.boot.fwFloor 1 ++
    leBytes (d.boot.fwSlot.getD 0 + 2 * d.boot.imgSlot.getD 0 + flagN (d.boot.fallFw || d.boot.fallImg) 2) 1 ++
    leBytes (flagN d.degr 0 + flagN d.boot.debugOpen 1 + flagN d.boot.debugEver 2) 1 ++ leBytes d.pair.role.code 1 ++
    leBytes (laneMask d.liveLanes) 1 ++ leBytes (winRead d 0x10).toNat 4 ++ leBytes 0 4
/-- The report with its digest and the signature the engine gives, then the two certificates, each after its length. -/
def attestEnd (d : Dev) (j : Job) (sig : List Byte) : Dev :=
  if d.keyLocked then d.endJob j.num 0x18 0
  else
    let cert := fun (c : List Byte) => leBytes c.length 4 ++ c
    let head := attestHead d j.req.args
    let bs := head ++ sha3_512 head ++ padTo 4627 sig ++ leBytes 0 5 ++ cert d.boot.certDev ++ cert d.boot.certCa
    ((putBulk d 0 bs).onJob j.num (fun x => { x with res := [BitVec.ofNat 32 bs.length] })).endJob j.num 0 0
/-- ATTEST (R429). -/
def execAttest (r : Request) (s : State) : Host.Outcome State Fault Refusal := s.onDev (fun d => cmdAttest d r)

/-! ### Debug -/

def cmdDebugChallenge (d : Dev) (r : Request) (rnd : List Byte) : Dev :=
  command d r 0x0902 (fun d =>
    let c := padTo 32 rnd
    okay (d.onMgmt (fun m => { m with challenge := some (c, d.clk) })) r 0x0902 (wordsOf 8 c))
/-- The fused hash that KEY_SRC names. -/
def srcHash (f : FuseSt) (src : Nat) : BitVec 512 := if src = 0 then f.rootHash else if src = 1 then f.cust0 else f.cust1
/-- The response of Table 23-8: it answers the valid challenge and names this device and a fused key; an empty slot never matches. -/
def unlockOk (d : Dev) (bs : List Byte) : Bool :=
  let key := fieldAt bs 4 1
  let scope := fieldAt bs 5 1
  fieldAt bs 0 4 == 0x4B4C4E55 && decide (key ≤ 2 ∧ scope < 4) && fieldAt bs 6 6 == 0 && (!scope.testBit 1 || key == 0) &&
    fieldAt bs 44 16 == d.boot.fuses.serial.toNat && srcHash d.boot.fuses key != 0 &&
    leNat (sha3_512 ((bs.drop 60).take 2592)) == (srcHash d.boot.fuses key).toNat &&
    (match d.mgmt.challenge with | some (c, t) => (bs.drop 12).take 32 == c && decide (d.clk ≤ t + 60000 * msClk) | none => false)
/-- The job keeps whether the response fits, and its SCOPE. -/
def cmdDebugUnlock (d : Dev) (r : Request) : Dev :=
  command d r 0x0903 (fun d =>
    let used := d.onMgmt (fun m => { m with challenge := none })
    if d.bulkBusy r.sender || d.jobRuns 0x0903 then refuse used r 0x0903 3 0
    else if argOf r 0 ≠ 7279 then refuse used r 0x0903 0x12 5
    else
      let bs := d.bulkBytes 0 7279
      let ok := unlockOk d bs
      let d := claimBulk used r.sender
      if (fieldAt bs 5 1).testBit 1 && d.boot.released && !d.stopDown then refuse d r 0x0903 0x13 8
      else (accept d r 0x0903 0 [flagN ok 0, fieldAt bs 5 1]).1)
/-- An unlock with SCAN (R431): every lane out with cause 0x8, the keys cleared, the secret partition and the fuses locked. -/
def openScan (d : Dev) : Dev :=
  (lanesAll.foldl (fun d l => d.takeOut l 8 0 0) d).onBoot (fun b => { b with scan := true, keyOk := false })
def unlockEnd (d : Dev) (j : Job) (sigOk : Bool) : Dev :=
  if j.pids.getD 0 0 = 1 && sigOk then
    let d := if (j.pids.getD 1 0).testBit 1 then openScan d else d
    (globalDoor (d.onBoot (fun b => { b with debugOpen := true, debugEver := true }))).endJob j.num 0 0
  else d.endJob j.num 0x18 0
def cmdDebugLock (d : Dev) (r : Request) : Dev :=
  command d r 0x0904 (fun d => okay (globalDoor (d.onBoot (fun b => { b with debugOpen := false }))) r 0x0904 [])

/-- DEBUG_CHALLENGE (R430): 32 bytes from the TRNG; the new challenge replaces the old one. -/
def execDebugChallenge (r : Request) (rnd : List Byte) (s : State) : Host.Outcome State Fault Refusal :=
  s.onDev (fun d => cmdDebugChallenge d r rnd)
/-- CHALLENGE_EXPIRY (R430): 60 s after its issue. -/
def execChallengeExpiry (s : State) : Host.Outcome State Fault Refusal :=
  s.onDev (fun d =>
    match d.mgmt.challenge with
    | some (_, t) => (d.toClk (t + 60000 * msClk)).onMgmt (fun m => { m with challenge := none })
    | none => d)
/-- DEBUG_UNLOCK (R430, R431). -/
def execDebugUnlock (r : Request) (s : State) : Host.Outcome State Fault Refusal := s.onDev (fun d => cmdDebugUnlock d r)
/-- DEBUG_LOCK (R431). -/
def execDebugLock (r : Request) (s : State) : Host.Outcome State Fault Refusal := s.onDev (fun d => cmdDebugLock d r)

/-! ### Anti-rollback -/

/-- The anti-rollback record (TYPE 0x0062) is written to the calibration store. -/
def floorsRec (d : Dev) : Dev :=
  if d.scanned then
    let p : Post := { type := 0x62, cls := 1, source := 0, payload := leBytes d.boot.imgFloor 1 ++ leBytes d.boot.fwFloor 1 ++ leBytes 0 6 }
    writeRec d { post := p, rep := 0, cal := true }
  else d
/-- Set the ROLLBACK bits up to v (thermometer code, R423). -/
def burnRollback (d : Dev) (v : Nat) : Dev :=
  d.onBoot (fun b => { b with fuses := { b.fuses with rollback := b.fuses.rollback ||| BitVec.ofNat 64 (2 ^ v - 1) } })
def cmdRollbackAdvance (d : Dev) (r : Request) : Dev :=
  command d r 0x0905 (fun d =>
    let v := argOf r 0
    let other := 1 - d.boot.imgSlot.getD 0
    if d.writing || d.jobRuns 0x0905 then refuse d r 0x0905 3 0
    else if v ≤ d.imageFloor || d.imageSec < v || 63 < v then refuse d r 0x0905 0x12 3
    else if !d.partOk other false || fieldAt (flashPart d.boot.flash other false) 0x18 4 < v then refuse d r 0x0905 0x13 5
    else floorsRec ((accept d r 0x0905 0 []).1.onBoot (fun b => { b with imgFloor := v })))
/-- ROLLBACK_ADVANCE (R425): the MRAM record first; the fuses follow at its completion. -/
def execRollbackAdvance (r : Request) (s : State) : Host.Outcome State Fault Refusal := s.onDev (fun d => cmdRollbackAdvance d r)

end Sys2Proof.Machine
end

