-- ==== Sys2Proof/Machine/Power.lean ====
section
/-! DEFINITION. Power domains and reset (R402, R443 to R447, R450 to R452): what a reset keeps, a domain going down and coming back, and
PWR_SET. -/

namespace Sys2Proof.Machine
open Sys2Proof

/-! ### Reset -/

/-- A journal after a reset: what the MRAM holds stays; queued records, compactions and counts are lost (R409, R446). -/
def JournalSt.afterReset (j : JournalSt) : JournalSt :=
  { State.reset.dev.jr with main := { j.main with comp := none }, cal := { j.cal with comp := none }, badMram := j.badMram }
/-- A slot part whose write was cut off has no signature block (Table 23-9). -/
def cutWrites (d : Dev) : Flash :=
  (d.mgmt.jobs.filter (fun j => !j.done)).foldl (fun f j =>
    if j.code = 0x0210 then flashPut f (argOf j.req 0) false [] else if j.code = 0x0701 then flashPut f (argOf j.req 0) true [] else f) d.boot.flash
/-- The whole device is reset (R446). Fuses, flash and MRAM keep what they hold; CAUSE tells of the reset; every output is
high-impedance (R450). -/
def resetDev (d : Dev) (cause : Nat) : Dev :=
  let z := State.reset.dev
  { z with
    jr := d.jr.afterReset
    boot := { z.boot with fuses := d.boot.fuses, flash := cutWrites d, privKey := d.boot.privKey, certDev := d.boot.certDev, certCa := d.boot.certCa }
    pwr := { z.pwr with cause := cause }
    pair := { z.pair with pairId := d.pair.pairId }
    draws := d.draws }
/-- POR_N is released and the plinth stage begins; the board holds POR_N until every domain is good (R445). -/
def plinthBegins (d : Dev) (pairId : Bool) : Dev :=
  if d.boot.stage ≠ 0 then d
  else
    let sio := fun (i : Nat) (x : SioSt) => { x with phase := (Config.ssPhase (d.draws + i)).val, reqAt := d.clk }
    { d with
      boot := { d.boot with stage := 1, stageAt := d.clk }
      safe := { d.safe with a := sio 0 d.safe.a, b := sio 1 d.safe.b }
      draws := d.draws + 2
      pwr := { d.pwr with good := BitVec.ofNat 12 0xFFF, dropped := 0 }
      pair := { d.pair with pairId := pairId }
      edge := d.edge.map (fun x => { x with rxClk := d.clk }) }

/-- DEVICE_RESET (R446): POR_N asserted, or VAON below 2.9 V. -/
def execDeviceReset (vaon : Bool) (s : State) : Host.Outcome State Fault Refusal := s.onDev (fun d => resetDev d (if vaon then 3 else 1))
/-- RESTART_DELAY_EXPIRY (R399): 1 ms after the reply the device resets as by POR_N asserted and then released (R446). -/
def execRestartDelayExpiry (s : State) : Host.Outcome State Fault Refusal :=
  s.onDev (fun d =>
    match d.mgmt.restart with
    | some t => plinthBegins (resetDev (d.toClk t) 2) d.pair.pairId
    | none => d)
/-- POR_N_RELEASE (R419). -/
def execPorNRelease (pairId : Bool) (s : State) : Host.Outcome State Fault Refusal := s.onDev (fun d => plinthBegins d pairId)

/-! ### Domains -/

def setBit12 (w : BitVec 12) (i : Nat) (v : Bool) : BitVec 12 := if v then w ||| BitVec.ofNat 12 (2 ^ i) else w &&& ~~~ BitVec.ofNat 12 (2 ^ i)
/-- The lane of a lane domain. -/
def domLane (code : Nat) : Lane := laneOf (code - 1)
/-- What a lane, SIO, GD or EDGE domain without supply leaves (Table 25-2). A lane is found absent by the voters; an SIO group is
lost; a bank is latched VGD_UV and its bootstraps discharge; the frames of the links stop. -/
def dropUnit (d : Dev) (code cause : Nat) : Dev :=
  if decide (1 ≤ code ∧ code ≤ 3) then
    let l := domLane code
    let d := d.takeOut l cause 0 0
    d.onSeq l (fun q => if q.phase == .failed then q else { q with phase := .off })
  else if code = 7 || code = 8 then
    d.onSio (code == 8) (fun x => { x with
      lost := true, req := true, guard := false, ofault := true, pend := [], stoOff := true, pbApply := true, safeOk := false,
      pulseS := false, pulseP := false })
  else if code = 9 || code = 10 then
    let d := bankLatch d (code - 8)
    (bankHbs (code - 8)).foldl (fun d n => d.onHb n (fun h => { h with bsLow := true })) d
  else if code = 11 then
    { d with edge := d.edge.map (fun x => { x with evq := [], cmdq := [], hbDue := false, syncDue := false }) }
  else d
/-- A switched domain is opened: it ends in the same state as one that has gone down (R447). -/
def switchOff (d : Dev) (code : Nat) : Dev :=
  (dropUnit d code 8).onPwr (fun p => { p with good := setBit12 p.good code false, on := setBit12 p.on code false })
/-- PWR_SET jobs of other lanes when a lane domain goes down: they end with ERR_STATE 0x03 (Table 25-4). -/
def endLaneJobs (d : Dev) (code : Nat) : Dev :=
  let hit := d.pwr.jobs.filter (fun j => decide (1 ≤ j.1 ∧ j.1 ≤ 3) && j.1 != code)
  hit.foldl (fun d j => d.endJob j.2 0x13 3) (d.onPwr (fun p => { p with jobs := p.jobs.filter (fun j => !(decide (1 ≤ j.1 ∧ j.1 ≤ 3) && j.1 != code)) }))

/-- DOMAIN_DOWN (R447, Table 25-2): a supply below its range for more than 1 µs, without a command. -/
def execDomainDown (code : Nat) (s : State) : Host.Outcome State Fault Refusal :=
  s.onDev (fun d =>
    if 12 ≤ code || !d.pwr.good.getLsbD code then d
    else if code = 0 then resetDev d 3
    else
      let d := d.onPwr (fun p => { p with good := setBit12 p.good code false, dropped := setBit12 p.dropped code true })
      let d := d.fault 0x1C code 0 0 0
      if decide (4 ≤ code ∧ code ≤ 6) then loseHub d
      else
        let d := if code ≤ 3 then endLaneJobs d code else d
        noteDegraded (dropUnit d code 9))

/-- A lane domain is good again (R402): after release, with two lanes live and the lane not FAILED, the BIST of a rotation begins; else
the lane stays out until restart. -/
def laneBack (d : Dev) (code : Nat) : Dev :=
  let l := domLane code
  if d.boot.released && decide (2 ≤ d.liveCount) && d.phase l == .off then startBist (d.onSeq l (fun q => { q with phase := .out })) l else d
/-- DOMAIN_GOOD (R447, Table 25-2). A bank's latches clear: its supply is at 10 V or more (R231, Table 25-1); OFAULT stays until restart. -/
def execDomainGood (code : Nat) (s : State) : Host.Outcome State Fault Refusal :=
  s.onDev (fun d =>
    if 12 ≤ code || d.pwr.good.getLsbD code || d.boot.stage == 0 then d
    else
      let d := d.onPwr (fun p => { p with good := setBit12 p.good code true })
      if !d.pwr.on.getLsbD code then d
      else if decide (1 ≤ code ∧ code ≤ 3) then laneBack d code
      else if code = 7 || code = 8 then d.onSio (code == 8) (fun x => { x with lost := false, reqAt := d.clk })
      else
        let d := if code = 9 || code = 10 then bankUnlatch d (code - 8) else d
        let d := if code = 11 then { d with edge := d.edge.map (fun x => { x with syncDue := true, rxClk := d.clk }) } else d
        let mine := d.pwr.jobs.filter (fun j => j.1 == code)
        noteDegraded (mine.foldl (fun d j => d.endJob j.2 0 0) (d.onPwr (fun p => { p with jobs := p.jobs.filter (fun j => j.1 != code) }))))

/-! ### PWR_SET -/

/-- Units that must be off before a domain is switched off (R402). -/
def domUnits (code : Nat) : List Nat := if code = 9 then [2, 4, 6, 8] else if code = 10 then [3, 5, 7, 8] else [0, 1, 9, 10, 11]
/-- Switch a domain on; the job ends when the domain, or the lane, serves again. -/
def switchOn (d : Dev) (r : Request) (code : Nat) : Dev :=
  let (d, n) := accept d r 0x0A01 0 []
  d.onPwr (fun p => { p with on := setBit12 p.on code true, jobs := p.jobs ++ [(code, n)] })
def cmdPwrSet (d : Dev) (r : Request) : Dev :=
  command d r 0x0A01 (fun d =>
    let code := argOf r 0
    let on := argOf r 1 == 1
    if !([1, 2, 3, 9, 10, 11].contains code) then refuse d r 0x0A01 0x12 2
    else if 1 < argOf r 1 then refuse d r 0x0A01 0x12 3
    else if d.pwr.on.getLsbD code == on then acceptDone d r 0x0A01
    else if code ≤ 3 then
      if on then
        if !d.boot.released || d.liveCount < 2 || d.phase (domLane code) == .failed then refuse d r 0x0A01 0x13 3
        else switchOn d r code
      else if d.liveCount < 3 || d.vot.cast.isSome || d.vot.rot.isSome then refuse d r 0x0A01 0x13 3
      else acceptDone (switchOff d code) r 0x0A01
    else if on then switchOn d r code
    else if !(domUnits code).all d.unitOff then refuse d r 0x0A01 0x13 2
    else acceptDone (switchOff d code) r 0x0A01)
/-- PWR_SET (R402). -/
def execPwrSet (r : Request) (s : State) : Host.Outcome State Fault Refusal := s.onDev (fun d => cmdPwrSet d r)

/-- At a fast-cycle boundary: the jobs that switch a lane domain on end when the lane is live; when it failed, or fewer than two lanes
are live before its recomputation, they end with ERR_ABORTED 0x07, and a FAILED lane's domain is switched off again (R402). -/
def pwrJobs (d : Dev) : Dev :=
  d.pwr.jobs.foldl (fun d j =>
    if !(decide (1 ≤ j.1 ∧ j.1 ≤ 3)) then d
    else
      let l := domLane j.1
      let drop := fun (d : Dev) => d.onPwr (fun p => { p with jobs := p.jobs.filter (fun x => x.2 != j.2) })
      if d.isLive l then (drop d).endJob j.2 0 0
      else if d.phase l == .failed then switchOff ((drop d).endJob j.2 0x19 7) j.1
      else if d.liveCount < 2 then (drop d).endJob j.2 0x19 7
      else d) d

end Sys2Proof.Machine
end

