-- ==== Sys2Proof/Machine/Mailbox.lean ====
section
/-! DEFINITION. The management processor at its mailboxes: draining (R381, R382, R387, R390) and the end of long commands (R389). -/

namespace Sys2Proof.Machine
open Sys2Proof

/-! ### Completion -/

/-- Commands whose completion frees the transfer buffer (R392). -/
def bulkLong (code : Nat) : Bool := [0x0210, 0x0402, 0x0701, 0x0901, 0x0903].contains code
/-- The effect a command still owes when the outside says that its work is over. Jobs that other events end are left alone. -/
def finishJob (d : Dev) (j : Job) (e : JobEnd) : Dev :=
  match j.code with
  | 0x0210 => imageWriteEnd d j e.sigOk
  | 0x0402 => journalReadEnd d j
  | 0x0603 =>
    match d.pair.relay with
    | some (n, _, _) =>
      if n = j.num then
        (((d.onPair (fun p => { p with relay := none })).onJob n (fun x => { x with res := (e.measured.take 14).map (BitVec.ofNat 32) })).endJob n 0 0)
      else d
    | none => d
  | 0x0701 => fwWriteEnd d j e.sigOk
  | 0x0901 => attestEnd d j e.bytes
  | 0x0903 => unlockEnd d j e.sigOk
  | 0x0905 => (burnRollback d (argOf j.req 0)).endJob j.num 0 0
  | _ => d
/-- The completion reply of a job that is done: TAG, CODE and JOB as at its acceptance, and its GT or result words when it is OK, or
after failed diagnostics. -/
def completeJob (d : Dev) (j : Job) : Dev :=
  let gtWords := if [0x0103, 0x0105, 0x0202, 0x0602].contains j.code then twoWords j.due.toNat else []
  let res := if j.status = 0 then gtWords ++ j.res else if j.status = 0x1A then j.res else []
  let d := d.onJob j.num (fun x => { x with replied := true })
  let free := bulkLong j.code && (match d.mgmt.claim with | some c => c.1 == j.req.sender | none => false)
  let d := if free then d.onMgmt (fun m => { m with claim := none }) else d
  sendReply (countStatus d j.status) j.req.mbox (replyWords j.req j.code j.num j.status j.detail res)
def Dev.jobOf (d : Dev) (n : Nat) : Option Job := d.mgmt.jobs.find? (fun j => j.num == n)
/-- JOB_COMPLETION (R389): the job's remaining effect, then its completion reply, once. -/
def execJobCompletion (job : Nat) (e : JobEnd) (s : State) : Host.Outcome State Fault Refusal :=
  s.onDev (fun d =>
    if !d.hubUp then d
    else match d.jobOf job with
    | none => d
    | some j =>
      if j.replied then d
      else
        let d := if j.done then d else finishJob d j e
        match d.jobOf job with
        | some j => if j.done then completeJob d j else d
        | none => d)

/-! ### Draining -/

/-- The meaning of a command code (Table 21-4). Random bytes of a challenge come from the TRNG: open bytes when a drain runs it. -/
def runCode (d : Dev) (code : Nat) (r : Request) : Dev :=
  match code with
  | 0x0001 => cmdIdentify d r
  | 0x0002 => cmdStatus d r
  | 0x0003 => cmdCounterClear d r
  | 0x0004 => cmdJobStatus d r
  | 0x0010 => cmdBulkWrite d r
  | 0x0011 => cmdBulkRead d r
  | 0x0012 => cmdBulkRelease d r
  | 0x0101 => cmdParamStage d r
  | 0x0102 => cmdParamRead d r
  | 0x0103 => cmdCommit d r
  | 0x0104 => cmdDiscard d r
  | 0x0105 => cmdCalibrate d r
  | 0x0201 => cmdImageInfo d r
  | 0x0202 => cmdModeRequest d r
  | 0x0203 => cmdStarUnmute d r
  | 0x0204 => cmdNetSend d r
  | 0x0205 => cmdNetReceive d r
  | 0x0210 => cmdImageWrite d r
  | 0x0301 => cmdCoefStage d r
  | 0x0302 => cmdCoefRead d r
  | 0x0401 => cmdJournalInfo d r
  | 0x0402 => cmdJournalRead d r
  | 0x0403 => cmdJournalCompact d r
  | 0x0404 => cmdJournalAppend d r
  | 0x0501 => cmdRunTest d r
  | 0x0502 => cmdTestResults d r
  | 0x0503 => cmdSwitchClear d r
  | 0x0601 => cmdPairStatus d r
  | 0x0602 => cmdPairSwap d r
  | 0x0603 => cmdPairRelay d r
  | 0x0701 => cmdFwWrite d r
  | 0x0702 => cmdSlotStatus d r
  | 0x0703 => cmdSlotSelect d r
  | 0x0704 => cmdRestart d r
  | 0x0801 => cmdCanRecover d r
  | 0x0901 => cmdAttest d r
  | 0x0902 => { cmdDebugChallenge d r ((List.range 32).map (fun i => BitVec.ofNat 8 (Config.choice d.draws i))) with draws := d.draws + 1 }
  | 0x0903 => cmdDebugUnlock d r
  | 0x0904 => cmdDebugLock d r
  | 0x0905 => cmdRollbackAdvance d r
  | 0x0A01 => cmdPwrSet d r
  | 0x0A02 => cmdPwrStatus d r
  | _ => command d r code id
/-- The request in a mailbox: sender in W0[31:24], tag in [23:16], code in [15:0] (R387). -/
def requestOf (m : Nat) (b : InBox) : Request :=
  let w := (b.data.getD 0 0).toNat
  { mbox := m, sender := bits w 31 24, tag := bits w 23 16, args := (b.data.drop 1).take (b.len - 1) }
/-- The next FULL mailbox after the one drained last (R381). -/
def nextFull (d : Dev) : Option Nat := ((List.range 15).map (fun i => (d.host.rr + 1 + i) % 15)).find? (fun m => (d.inb m).full)
/-- MAILBOX_DRAIN (R381, R382): with fewer than two reply-queue entries free the drain is held back and counted. -/
def execMailboxDrain (s : State) : Host.Outcome State Fault Refusal :=
  s.onDev (fun d =>
    if !d.drains then d
    else match nextFull d with
    | none => d
    | some m =>
      if d.freeReplies < 2 then d.count (cMgmt 14) 1
      else
        let b := d.inb m
        let d := (d.onIn m (fun x => { x with full := false })).onHost (fun h => { h with rr := m })
        runCode d (bits (b.data.getD 0 0).toNat 15 0) (requestOf m b))

end Sys2Proof.Machine
end

