-- ==== Sys2Proof/Machine/Startup.lean ====
section
/-! DEFINITION. Start-up (R91, R419 to R428, R432, R437, R438, R445): plinth, hub BIST, fetch, verify, load, self-test, the drive dies'
analog self-test, and release. A stage that begins now ends after its longest time (Table 23-1). -/

namespace Sys2Proof.Machine
open Sys2Proof

/-- The next stage begins. -/
def toStage (d : Dev) (n : Nat) : Dev := globalDoor (d.onBoot (fun b => { b with stage := n, stageAt := d.clk }))
/-- The present stage has lasted n GCLK. -/
def stageEnd (d : Dev) (n : Nat) : Dev := d.toClk (d.boot.stageAt + n)

/-- PLINTH (R419, R435, R445): the fuse shadows are loaded; the BIST of every lane whose domain is good begins, and a lane without supply
fails it. An uncorrectable fuse field stops start-up. -/
def execPlinth (fuseBad : Bool) (s : State) : Host.Outcome State Fault Refusal :=
  s.onDev (fun d =>
    if d.boot.stage ≠ 1 then d
    else
      let d := stageEnd d (400 * usClk)
      if fuseBad then toStage d 0x81
      else toStage (lanesAll.foldl (fun d l => if d.domUp (1 + laneIdx l) then startBist d l else failLane d l 3 0 false) d) 2)

/-- HUB_BIST (R419, R432). -/
def execHubBist (ok : Bool) (s : State) : Host.Outcome State Fault Refusal :=
  s.onDev (fun d =>
    if d.boot.stage ≠ 2 then d
    else
      let d := stageEnd d (12 * msClk)
      let res := if ok then 1 else 3
      let d := ((d.onTest (fun t => { t with hubBist := res })).putTest 0x12 0 res 970 12000).testStatus
      toStage d (if ok then 3 else 0x82))

/-- GCLK for bytes over xSPI at 400 × 10^6 bytes/s. -/
def fetchClk (n : Nat) : Nat := n * 8 / 5
def slotLen (f : Flash) (slot : Nat) : Nat := (flashPart f slot true).length + (flashPart f slot false).length
/-- The newest live STATE record of a TYPE in the calibration store. -/
def stateOf (d : Dev) (t : Nat) : Option Rec := (liveState d.jr.cal.area.recs).find? (fun r => r.type == t)
/-- The floors of the anti-rollback record (R424). -/
def loadFloors (d : Dev) : Dev :=
  match stateOf d 0x62 with
  | some r => d.onBoot (fun b => { b with imgFloor := (r.payload.getD 0 0).toNat, fwFloor := (r.payload.getD 1 0).toNat })
  | none => d
/-- FETCH (R417, R419, R422): the preferred slot over xSPI and the journal scan of at most 20 ms in parallel. -/
def execFetch (f : Option Flash) (s : State) : Host.Outcome State Fault Refusal :=
  s.onDev (fun d =>
    if d.boot.stage ≠ 3 then d
    else
      let d := match f with | some x => d.onBoot (fun b => { b with flash := x }) | none => d
      let d := stageEnd d (max (20 * msClk) (fetchClk (slotLen d.boot.flash (preferred d.boot.flash))))
      toStage (loadFloors (scanJournal d)) 4)

/-! ### Verify -/

/-- The detail with which an image is refused at start-up: Table 4-9, or check 0x04 when it needs a newer firmware than the one chosen
(R421). -/
def startImage (floor fwVer : Nat) (crypt : Bool) (bs : List Byte) : Nat :=
  let x := imageDetail floor 0x0302 crypt bs
  if x ≠ 0 then x else if fwVer < fieldAt bs 0x0E 2 then 4 else 0
/-- A part comes from the other slot: its record and the time to fetch and verify it again. -/
def fallBack (d : Dev) (fw : Bool) (slot detail : Nat) : Dev :=
  (d.note 0x29 (if fw then 0 else 1) slot detail 0).onBoot (fun b => { b with
    fallFw := b.fallFw || fw, fallImg := b.fallImg || !fw,
    stageAt := b.stageAt + fetchClk (flashPart b.flash slot fw).length + 5 * msClk })
/-- The identity key goes into the engine's key registers (R428). Where its digest does not match, it is derived again from the seed and the
serial, and the partition is rewritten. Under R431 the partition is locked and the registers stay zero. -/
def loadKey (d : Dev) : Dev :=
  let k := d.boot.privKey
  if d.boot.scan then d
  else if k.length = 4960 && sha3_512 (k.take 4896) == k.drop 4896 then d.onBoot (fun b => { b with keyOk := true })
  else
    let xi := (sha3_512 (leBytes d.boot.fuses.seed.toNat 32 ++ leBytes d.boot.fuses.serial.toNat 16)).take 32
    let p := padTo 4896 (Config.identityKey xi)
    (d.note 0x2F 0 0 0 0).onBoot (fun b => { b with privKey := p ++ sha3_512 p, keyOk := true })
/-- VERIFY (R421, R423, R428): each part from the preferred slot, else from the other. -/
def execVerify (fwA imgA fwB imgB : Bool) (s : State) : Host.Outcome State Fault Refusal :=
  s.onDev (fun d =>
    if d.boot.stage ≠ 4 then d
    else
      let f := d.boot.flash
      let p := preferred f
      let q := 1 - p
      let fwD := fun (x : Nat) =>
        let bs := flashPart f x true
        fwDetail d.boot.fwFloor (fwCrypt d.boot.fuses (if x = 0 then fwA else fwB) bs) bs
      let sig := fun (x : Nat) => imageCrypt d.boot.fuses (if x = 0 then imgA else imgB) (flashPart f x false)
      let d := d.onBoot (fun b => { b with valid :=
        ([0, 1].filter (fun x => fwD x = 0)).map (fun x => (x, true)) ++
        ([0, 1].filter (fun x => imageDetail d.imageFloor 0x0302 (sig x) (flashPart f x false) = 0)).map (fun x => (x, false)) })
      let d := loadKey d
      let run := fun (d : Dev) (w : Nat) =>
        let bs := flashPart f w true
        let d := d.onBoot (fun b => { b with fwSlot := some w, fwDigest := (bs.drop (bs.length - sigSize + 8)).take 64 })
        let imD := fun (x : Nat) => startImage d.imageFloor (fieldAt bs 6 2) (sig x) (flashPart f x false)
        let take := fun (d : Dev) (x : Nat) => d.onBoot (fun b => { b with imgSlot := some x, keySlot := imageKeySlot (flashPart f x false) })
        if imD p = 0 then toStage (stageEnd (take d p) (5 * msClk)) 5
        else if imD q = 0 then
          let d := fallBack d false q (imD p)
          toStage (stageEnd (take d q) (5 * msClk)) 5
        else toStage (stageEnd d (5 * msClk)) 0x84
      if fwD p = 0 then run d p
      else if fwD q = 0 then run (fallBack d true q (fwD p)) q
      else toStage (stageEnd d (5 * msClk)) 0x83)

/-! ### Load -/

/-- The VALUE of a configuration record as it comes into force: rounded to the field's step; none when it is out of range, and the field
keeps its default (R5, R84). DESIGN CHOICE: log entry 107. -/
def imageValue (g : Img) (c : CfgRec) : Option DWord :=
  match fieldInfo (pidField c.pid) with
  | some x => checkValue (pidField c.pid) (pidInst c.pid) x c.value (valInt (g.cfgWord (pidOf 0x085 0)))
  | none => none
/-- The configuration records of a kind of field, with the values in force. -/
def initOfKind (g : Img) (k : FieldKind) : List CfgField :=
  (g.config.filter (fun c => match fieldInfo (pidField c.pid) with | some x => x.kind == k | none => false)).map (fun c =>
    { pid := c.pid, host := c.host, live := (imageValue g c).getD (cfgDefault c.pid), staged := none, at_ := 0, due := [] })
/-- The live configuration of the image, and every host set-point at its initial word (R84, R161). A record of a bank select with VALUE 1
makes bank 1 live, over R83's bank 0: DESIGN CHOICE, log entry 133. -/
def initCfg (g : Img) : List CfgField :=
  initOfKind g .commit ++ (g.sigmap.filter (·.host)).map (fun r =>
    { pid := pidOf 0x001 r.index, host := true, live := valOfSig { r.init with st := Status.ok }, staged := none, at_ := 0, due := [] })
/-- Inputs and ranges of the calibration table (R259, R393): D0 to D23 and the reference and zero with RANGE 0 and 1, S0 to S7 with 2 and
3. -/
def calPoints : List (Nat × Nat) :=
  (List.range 24).flatMap (fun i => [(i, 0), (i, 1)]) ++ (List.range 8).flatMap (fun i => [(24 + i, 2), (24 + i, 3)]) ++
    [(32, 0), (32, 1), (33, 0), (33, 1)]
/-- Calibration of lane l from the journal: field, value; and what has no record, as (0 ADC or 1 resolver, code). -/
def calOf (rs : List Rec) (l : Lane) : List (Nat × DWord) × List (Nat × Nat) :=
  let i0 := laneIdx l * 2 ^ 18
  let key := fun (t : Nat) (k : List Nat) => rs.find? (fun r => r.type == t && (r.payload.take k.length).map BitVec.toNat == k)
  let adc := calPoints.map (fun p =>
    let i := i0 + p.1 * 2 ^ 12 + p.2 * 2 ^ 10
    match key 0x60 [laneIdx l, p.1, p.2] with
    | some r => ([(pidOf 0x080 i, valOfInt (signedBits (fieldAt r.payload 4 2) 16)), (pidOf 0x081 i, valOfInt (signedBits (fieldAt r.payload 6 2) 16))], [])
    | none => (([], [(0, p.1 * 2 ^ 12 + p.2 * 2 ^ 10)]) : List (Nat × DWord) × List (Nat × Nat)))
  let rdc := (List.range 4).map (fun ch =>
    match key 0x63 [laneIdx l, ch] with
    | some r => ([(pidOf 0x089 (i0 + ch), BitVec.ofNat 64 (fieldAt r.payload 8 6)), (pidOf 0x08A (i0 + ch), valOfInt (signedBits (fieldAt r.payload 4 2) 16))], [])
    | none => (([], [(1, ch)]) : List (Nat × DWord) × List (Nat × Nat)))
  ((adc ++ rdc).flatMap (·.1), (adc ++ rdc).flatMap (·.2))
/-- The parameter of a calibration point that has no record: GC of an input and range, or RDC_AMP of a channel. -/
def calPid (l : Lane) (x : Nat × Nat) : Nat := pidOf (if x.1 = 0 then 0x080 else 0x089) (laneIdx l * 2 ^ 18 + x.2)
/-- Every point at its default. -/
def calNone : List (Nat × Nat) := calPoints.map (fun p => (0, p.1 * 2 ^ 12 + p.2 * 2 ^ 10)) ++ (List.range 4).map (fun ch => (1, ch))
/-- The calibration of a recast lane before its apply bell (R260): its own table from the journal while the hub serves it; else the one it
holds, or the defaults throughout when that one failed the parity check. A value still to be committed stays so. -/
def recastCal (d : Dev) (l : Lane) : Dev :=
  let c : List (Nat × DWord) × List (Nat × Nat) := if d.hubUp then calOf (liveState d.jr.cal.area.recs) l else ([], calNone)
  let held := d.lane l
  if !d.hubUp && !held.meas.calBad then d
  else
    let due := fun (p : Nat) => (held.field p).elim [] (·.due)
    let mk := fun (e : Nat × DWord) => ({ pid := e.1, host := true, live := e.2, staged := none, at_ := 0, due := due e.1 } : CfgField)
    let rest := (held.cfg.filter (fun f => isCal f.pid && !f.due.isEmpty && !c.1.any (fun e => e.1 == f.pid))).map (fun f =>
      { f with live := cfgDefault f.pid })
    d.onLane l (fun q => { q with
      cfg := c.1.map mk ++ rest ++ q.cfg.filter (fun f => !isCal f.pid)
      meas := { q.meas with calDef := c.2.map (calPid l), calBad := false } })
/-- A record of the load stage. The stage has time for thousands of record writes (R411), so that no post of its own finds the queue
full: the oldest record is written first where the queue would refuse (DEDUCED: log entry 115). -/
def loadNote (d : Dev) (type unit index code : Nat) : Dev :=
  let d := match d.jr.queue with
    | q :: rest => if 192 ≤ d.jr.queue.length then writeRec (d.onJr (fun j => { j with queue := rest })) q else d
    | [] => d
  d.note type unit index code 0
/-- What a lane's CRC-64 covers (R91): entry, descriptor and coefficient memory and the declared initial signal words, with the bytes that
arrived changed. -/
def loadBytes (g : Img) (hits : List (Nat × Byte)) : List Byte :=
  let bs := g.entries.flatMap (fun w => leBytes w.toNat 8) ++ g.descs.flatMap (fun w => leBytes w.toNat 8) ++
    g.coefs.flatMap coefRecord ++ g.sigmap.flatMap (fun r => leBytes (sigToNat r.init) 8)
  hits.foldl (fun l h => l.modify h.1 (· ^^^ h.2)) bs
/-- A lane that passed BIST receives the image and its calibration; its measured values and inputs stay. It computes the CRC-64 of what
it received (R91). -/
def loadLane (d : Dev) (g : Img) (hits : List LoadHit) (l : Lane) : Dev :=
  if d.phase l != .idle then d
  else
    let c := calOf (liveState d.jr.cal.area.recs) l
    let mk := fun (e : Nat × DWord) => ({ pid := e.1, host := true, live := e.2, staged := none, at_ := 0, due := [] } : CfgField)
    let crc := crc64 (loadBytes g ((hits.filter (fun h => h.l == l)).map (fun h => (h.at_, h.x))))
    let d := d.onLane l (fun q => { LaneSt.reset with
      seq := { q.seq with loadCrc := crc }
      mem := initMem g, cfg := c.1.map mk ++ initCfg g, coef := g.coefs, rdc := q.rdc, enc := q.enc
      meas := { q.meas.restart d.lclk with calDef := c.2.map (calPid l), calBad := false } })
    c.2.foldl (fun d x => loadNote d 0x2A (laneIdx l) x.1 x.2) d

/-- Lane-owned channels take bit timing, TX_ORDER, COLL_LIMIT and filters from the image (R313); reserved bits read as zero (R11). -/
def loadCan (g : Img) (ch : Nat) (c : CanSt) : CanSt :=
  let w := fun (f : Nat) => (BitVec.ofNat 32 (g.cfgWord (pidOf f ch)).toNat : Word)
  let filt := fun (i : Nat) =>
    let v := g.cfgWord (pidOf 0x0C7 (32 * ch + i))
    ((BitVec.ofNat 32 v.toNat, BitVec.ofNat 32 (v.toNat / 2 ^ 32)) : Word × Word)
  if canLaneOwned g ch then
    { c with laneOwn := true, nbt := w 0x0C4 &&& 0xFFFFFFFC, dbt := w 0x0C5 &&& 0xFFFFFF80, order := (w 0x0C6).getLsbD 28,
             collLim := bits (w 0x0C6).toNat 27 24, filts := (List.range 32).map filt }
  else { c with laneOwn := false }

/-- The next-release configuration comes into force: the image's records (R84), and over them those of the journal, which a host change
has written (R396). That the journal's wins is a DESIGN CHOICE: log entry 134. -/
def loadNext (d : Dev) (g : Img) : Dev :=
  let recs := (liveState d.jr.main.area.recs).filter (fun r => r.type == 0x50)
  let jr := recs.map (fun r =>
    ({ pid := fieldAt r.payload 0 4, host := true, live := BitVec.ofNat 64 (fieldAt r.payload 8 8), staged := none, at_ := 0, due := [] } : CfgField))
  d.onMgmt (fun m => { m with next := (initOfKind g .nextRelease).filter (fun c => !jr.any (fun x => x.pid == c.pid)) ++ jr })
/-- The operating counters of the journal; a start-up after a loss of power counts a power cycle. -/
def loadCounters (d : Dev) : Dev :=
  let up := if d.pwr.cause = 0 || d.pwr.cause = 3 then 1 else 0
  match stateOf d 0x61 with
  | some r =>
    let f := fieldAt r.payload
    (d.onMgmt (fun m => { m with opSec := f 0 8, cycles := f 8 4 + up, account := f 16 8 })).onVot (fun v => { v with rotCount := f 12 4 })
  | none => d.onMgmt (fun m => { m with cycles := up })
/-- The record and the fuses agree on the image floor: missing bits are set, a lower record is raised (R425, Table 23-9). -/
def alignFloors (d : Dev) : Dev :=
  let n := fuseCount d.boot.fuses.rollback
  if d.boot.imgFloor < n then floorsRec (d.onBoot (fun b => { b with imgFloor := n }))
  else if n < d.boot.imgFloor then burnRollback d d.boot.imgFloor
  else d
/-- LOAD (R91, R419): firmware starts; image, calibration and configuration reach the lanes; ring start-up begins; the self-test stage
begins with the MRAM check and the drive dies' analog self-tests. -/
def execLoad (hits : List LoadHit) (s : State) : Host.Outcome State Fault Refusal :=
  s.onDev (fun d =>
    match d.boot.imgSlot with
    | none => d
    | some x =>
      if d.boot.stage ≠ 5 || !d.test.bistRun.isEmpty then d
      else
        let g := imageOf (flashPart d.boot.flash x false)
        let d := stageEnd d (18 * msClk)
        let d := countersRec (loadCounters (alignFloors (loadNext d g)))
        let d := lanesAll.foldl (fun d l => loadLane d g hits l) (d.onBoot (fun b => { b with running := some g }))
        let d := { d with can := (List.range 4).map (fun i => loadCan g i (d.chan i)) }
        let d := d.onNet (fun n => { n with ring := if g.rateLimit = 0 then .standalone else .listen, since := d.clk })
        let d := d.onPair (fun p => { p with role := if g.paired then .init else .active })
        toStage d 6)

/-! ### Self-test -/

/-- The analog self-test of die 0 or 1 runs, since this GCLK: in the self-test stage, or for RUN_TEST. -/
def Dev.analogRuns (d : Dev) (die : Nat) : Option Nat :=
  let res := if die = 0 then d.test.dd.1 else d.test.dd.2
  if !d.domUp (9 + die) then none
  else match d.analogJob (die + 1) with
    | some j => some j.due.toNat
    | none => if d.boot.stage = 6 && res = 0 then some d.boot.stageAt else none
/-- What a failing item leaves (R438). Items 1 to 4: that switch; 5 to 7: every switch of the bank; 8 the excitation amplifier; 9 the LCI
of die 1; 10 an SS_REQ input comparator, 11 to 13 the read-back comparators of STO, PB_REL and SAFE_OK, of the die's safety group. -/
def analogItem (die : Nat) (d : Dev) (x : Nat × Side × Nat) : Dev :=
  let (hb, sd, item) := x
  let t := d.fineNow
  let latch := fun (d : Dev) (n : Nat) (sd : Side) => d.onHb n (·.onSw sd (·.latchOff t .diag))
  let d :=
    if item ≤ 4 then latch d hb sd
    else if item ≤ 7 then (bankHbs (die + 1)).foldl (fun d n => latch (latch d n .high) n .low) d
    else if item = 8 then d.onGd (fun g => { g with exc := insertNew g.exc die })
    else if item = 9 then (if die = 0 then d.onTest (fun t => { t with lciBad := true }) else d)
    else d.onSio (die == 1) (fun x => { x with ofault := true })
  if item ≤ 9 then d.fault 0x18 (die + 1) (if item ≤ 4 then hb else 0xFFFF) item 0
  else d.fault 0x17 die (if item = 10 then 3 else item - 11) 0 0
/-- The units whose power-up diagnostics follow a die's analog self-test; the park lock follows both dies (R420). -/
def queueDiags (d : Dev) (die : Nat) : Dev :=
  let other := if die = 0 then d.test.dd.2 else d.test.dd.1
  let us := (if die = 0 then [2, 4, 6] else [3, 5, 7]) ++ (if other = 0 then [] else [8])
  diagPump (d.onGd (fun g => { g with diagQ := g.diagQ ++ us }))
/-- ANALOG_SELF_TEST_DONE (R438): 2 ms after its start. -/
def execAnalogSelfTestDone (die : Nat) (bad : List (Nat × Side × Nat)) (s : State) : Host.Outcome State Fault Refusal :=
  s.onDev (fun d =>
    if 2 ≤ die then d
    else match d.analogRuns die with
    | none => d
    | some t =>
      let job := d.analogJob (die + 1)
      let d := bad.foldl (analogItem die) (d.toClk (t + 2 * msClk))
      let res := if bad.isEmpty then 1 else 3
      let word := res + min 255 bad.length * 256
      let d := d.onTest (fun x =>
        let dd := if die = 0 then (res, x.dd.2) else (x.dd.1, res)
        { x with dd := dd, ddFail := dd.1 == 3 || dd.2 == 3 })
      let d := noteDegraded d
      let d := (d.putTest 2 (die + 1) word 1000 2000).testStatus
      match job with
      | some j => (d.onJob j.num (fun x => { x with res := [BitVec.ofNat 32 word, 1000, 2000] })).endJob j.num 0 0
      | none => queueDiags d die)

/-- Every die with supply has ended its analog self-test and its diagnostics. -/
def Dev.diesDone (d : Dev) : Bool :=
  (d.test.dd.1 != 0 || !d.domUp 9) && (d.test.dd.2 != 0 || !d.domUp 10) && d.gd.diag.isEmpty && d.gd.diagQ.isEmpty
/-- Lanes that passed BIST and whose clocks run (R45), and of these the ones whose CRC-64 agrees (R91). -/
def Dev.passed (d : Dev) : List Lane := lanesAll.filter (fun l => d.phase l == .idle && !(d.lane l).seq.clkBad)
def crcShared (d : Dev) (ls : List Lane) (l : Lane) : Bool :=
  ls.any (fun m => m != l && (d.lane m).seq.loadCrc == (d.lane l).seq.loadCrc)
def Dev.agreed (d : Dev) : List Lane := d.passed.filter (crcShared d d.passed)
/-- SELF_TEST (R420, R439, Table 23-6): the MRAM check of 30 ms ends the stage; fewer than two lanes, or an unreadable identity area,
stop start-up. -/
def execSelfTest (corrected : Nat) (bad : List Nat) (s : State) : Host.Outcome State Fault Refusal :=
  s.onDev (fun d =>
    if d.boot.stage ≠ 6 || !d.diesDone then d
    else
      let d := mramWords (stageEnd d (30 * msClk)) corrected bad
      let res := if !bad.isEmpty then 3 else if 0 < corrected then 2 else 1
      let d := ((d.onTest (fun t => { t with mram := res })).putTest 3 0 (res + min 255 corrected * 256 + min 255 bad.length * 65536) 1000 30000).testStatus
      let d := d.onBoot (fun b => { b with selfDone := true })
      if bad.any (fun x => mramRow x == 0) then toStage d 0x86
      else if d.passed.length < 2 then toStage d 0x85
      else if d.agreed.length < 2 then toStage d 0x84
      else toStage d 7)

/-! ### Release -/

/-- The firmware floor rises to the lowest FW_SEC_VERSION of the valid firmware parts (R424). -/
def raiseFwFloor (d : Dev) : Dev :=
  let vs := ([0, 1].filter (fun x => d.partOk x true)).map (fun x => fieldAt (flashPart d.boot.flash x true) 5 1)
  match vs with
  | [] => d
  | v :: r =>
    let n := r.foldl min v
    if d.boot.fwFloor < n then floorsRec (d.onBoot (fun b => { b with fwFloor := n })) else d
end Sys2Proof.Machine
end

