-- ==== Sys2Proof/Machine/Boundary.lean ====
section
/-! DEFINITION. The fast-cycle boundary and the bell (R39, R41, R51, R58 to R67, R100, R109 to R112, R117, R118, R162, R174, R182, R225,
R228, R248, R281, R304, R327, R336, R353, R385, R396): everything that becomes live, is latched or is judged there. -/

namespace Sys2Proof.Machine
open Sys2Proof

/-! ### Shadows become live -/

/-- A field at GT b, `q` being the lane before. -/
def swapField (q : LaneSt) (g : Img) (bell : Bool) (b : Nat) (c : CfgField) : CfgField :=
  match q.newValue g bell b c with
  | none => c
  | some v => { c with live := v, due := c.due.filter (fun e => !decide (e.1.toNat ≤ b)), staged := if q.ttReady g bell c then none else c.staged }
/-- The staged members of a failing group are discarded. -/
def discardGroup (g : Img) (q : LaneSt) (grp : Nat) : LaneSt :=
  if pidField grp = 0x0F0 then
    { q with coefS := q.coefS.filter (fun c => c.host || c.due.isSome || pidOf 0x0F0 (2 * c.rcd.loop + c.rcd.bank) != grp) }
  else (groupMembers g grp).foldl (fun q p => match q.field p with | some c => if c.host then q else q.unstage p | none => q) q
def putCoef (q : LaneSt) (c : CoefRec) : LaneSt :=
  { q with coef := q.coef.filter (fun x => !(x.loop == c.loop && x.bank == c.bank)) ++ [c] }
/-- The fields of a lane that take a new value at GT b. -/
def LaneSt.newLive (q : LaneSt) (g : Img) (bell : Bool) (b : Nat) : List CfgField := q.cfg.filter (fun c => (q.newValue g bell b c).isSome)
/-- Every pending shadow of a lane becomes live in one swap (R60, R63). A bank select that names the other bank sets the loop's
bank-change latch (R162); a host set-point is written to its signal word with VALID set (R161); a new calibration replaces a default one
(R269). -/
def swapLane (g : Img) (bell : Bool) (b : Nat) (q : LaneSt) : LaneSt :=
  let q0 := q
  let new := q.newLive g bell b
  let val := fun (c : CfgField) => (q.newValue g bell b c).getD c.live
  let banks := (new.filter (fun c => pidField c.pid == 0x022 && val c != c.live)).map (fun c => pidInst c.pid)
  let pts := (new.filter (fun c => pidField c.pid == 0x001)).map (fun c => (pidInst c.pid, ({ valSig (val c) with st := Status.ok } : SigWord)))
  let q := (q.coefS.filter (setReady b)).foldl (fun q c => putCoef q c.rcd) q
  let q := { q with coefS := q.coefS.filter (fun c => !setReady b c), cfg := q.cfg.map (swapField q0 g bell b), bankL := banks.foldl insertNew q.bankL }
  let q := { q with meas := { q.meas with calDef := q.meas.calDef.filter (fun p => !new.any (fun c => c.pid == p)) } }
  q.setSigs pts
/-- The commit point of lane l: failing timetable groups are discarded, counted and recorded; the rest becomes live. -/
def commitLane (g : Img) (bell : Bool) (b : Nat) (d : Dev) (l : Lane) : Dev :=
  if !d.runs l then d
  else
    let bad := (d.lane l).badGroups g bell b
    let d := bad.foldl (fun d x =>
      ((d.onLane l (fun q => discardGroup g q x)).count (cLane l 9) 1).laneRec l 2 0x2D (laneIdx l) (pidField x) (pidInst x) 0) d
    d.onLane l (swapLane g bell b)
/-- Next-release fields with an assigned commit point are written to the journal there (R396, Table 22-8). -/
def commitNext (b : Nat) (d : Dev) : Dev :=
  let ready := fun (c : CfgField) => c.due.filter (fun e => e.1 != 0 && decide (e.1.toNat ≤ b))
  let recs := d.mgmt.next.filterMap (fun c => ((ready c).getLast?).map (fun e => (c.pid, e.2)))
  let d := recs.foldl (fun d e => d.stateRec 0x50 (leBytes e.1 4 ++ leBytes 0 4 ++ leBytes e.2.toNat 8)) d
  d.onMgmt (fun m => { m with next := m.next.map (fun c =>
    match (ready c).getLast? with
    | some e => { c with due := [(0, e.2)] ++ c.due.filter (fun x => !decide (x.1.toNat ≤ b)) }
    | none => c) })
/-- COMMIT and CALIBRATE jobs whose commit point has come complete (R396). -/
def endCommits (b : Nat) (d : Dev) : Dev :=
  (d.mgmt.jobs.filter (fun j => (j.code == 0x0103 || j.code == 0x0105) && !j.done && decide (j.due.toNat ≤ b))).foldl
    (fun d j => d.endJob j.num 0 0) d
/-- A drive die begins the waveform of an amplifier whose EXC_PERIOD, 2-of-3 of the lanes, became live at GT b (R188). -/
def beginExc (b : Nat) (d : Dev) (i : Nat) : Dev :=
  d.onGd (fun x => { x with excGt := modAt x.excGt i (fun _ => BitVec.ofNat 64 b), excPer := modAt x.excPer i (fun _ => (d.dieInt 0x050 i).toNat) })
/-- A channel whose RDC_PHASE became live at GT b keeps the one in force until the next zero crossing (R190); d0 is the device before. -/
def keepPhase (d0 : Dev) (b : Nat) (d : Dev) (l : Lane) : Dev :=
  (List.range 4).foldl (fun d ch =>
    if (d.lane l).cfgVal 0x08A (rdcInst l ch) = (d0.lane l).cfgVal 0x08A (rdcInst l ch) then d
    else d.onLane l (fun q => q.onRdc ch (fun r => { r with phOld := phaseIn d0 l ch (halfAt d0 ch b), phAt := some b }))) d
/-- Two of the lanes have a new value of a field at GT b. -/
def twoNew (d : Dev) (g : Img) (bell : Bool) (b p : Nat) : Bool :=
  decide (2 ≤ (lanesAll.filter (fun l =>
    d.runs l && ((d.lane l).newLive g bell b).any (fun c => c.pid == p) && !((d.lane l).badGroups g bell b).contains (groupPid g p))).length)
/-- New LCI settings of any lane restart the measurement of every channel (R267); d0 is the device before. -/
def restartLci (bell : Bool) (d0 d : Dev) (b : Nat) : Dev :=
  let new := lanesAll.any (fun l => [0x085, 0x086, 0x087, 0x088].any (fun f =>
    (d0.lane l).cfg.any (fun c => c.pid == pidOf f 0 && d0.runs l && ((d0.lane l).newValue d0.img bell b c).isSome)))
  if new then d.onLanes (fun q => { q with meas := q.meas.restart d.lclk }) else d
/-- All commit work at GT b. An excitation amplifier whose period becomes live begins its waveform there. -/
def commitAll (d : Dev) (bell : Bool) (b : Nat) : Dev :=
  let g := d.img
  let exc := [0, 1].filter (fun i => twoNew d g bell b (pidOf 0x050 i))
  let d := restartLci bell d (lanesAll.foldl (keepPhase d b) (keepDead d (lanesAll.foldl (commitLane g bell b) d) b)) b
  endCommits b (commitNext b (exc.foldl (beginExc b) d))

/-! ### Groups go silent -/

/-- What silence does at the outputs of a group (Table 5-1). -/
def silenceOut (d : Dev) (g : Group) : Dev :=
  match g with
  | .gate n => (hbsOf (unitOfHb n)).foldl (fun d n => (d.hbOff n).onHb n (fun h => { h with evq := [] })) d
  | .safetyA => d.onSio false (fun x => { x with stoOff := true, pbApply := true, safeOk := false, pend := [] })
  | .safetyB => d.onSio true (fun x => { x with stoOff := true, pbApply := true, safeOk := false, pend := [] })
  | _ => d
/-- A group enters its silent state: its record and its outputs. -/
def silence (d : Dev) (g : Group) (tag : BitVec 8) : Dev :=
  let u := groupUnit g
  let idx := match g with | .payload x => (payOf d.img x).slot | _ => if u < 8 then u else 0
  let d := d.onGroup g (fun x => { x with silent := true, held := some tag })
  silenceOut (d.fault 0x14 (silBit u) idx 0 tag.toNat) g
/-- One group of every unit (Table 5-1). -/
def unitGroups : List Group :=
  [.gate 0, .gate 3, .gate 6, .gate 9, .gate 10, .gate 13, .gate 16, .edge 0, .edge 6, .edge 12, .edge 16, .edge 23, .safetyA, .safetyB]
/-- Held groups go silent; with fewer than two lanes live after release every unit does (R30), but for a standby that is being cast
(R337). -/
def silenceHeld (d : Dev) : Dev :=
  let d := (d.vot.groups.filter (fun x => x.held.isSome && !x.silent && canSilence x.g)).foldl (fun d x => silence d x.g (x.held.getD 0)) d
  if d.boot.released && decide (d.liveCount < 2) && d.pair.role != .casting then
    unitGroups.foldl (fun d g => if d.unitSilent (groupUnit g) then d else silence d g 0) d
  else d

/-! ### What the drive dies and links deliver -/

/-- Latched switches as they are reported. -/
def latchedNow (d : Dev) : List (Nat × Side) :=
  (List.range 20).flatMap (fun n =>
    (if (d.hb n).hi.latch.isEmpty then [] else [(n, Side.high)]) ++ (if (d.hb n).lo.latch.isEmpty then [] else [(n, Side.low)]))
/-- The causes of the latches that stand, but the gate supply. -/
def causesNow (d : Dev) : List (Nat × Side × LatchCause) :=
  (List.range 20).flatMap (fun n => [Side.high, Side.low].flatMap (fun sd =>
    (((d.hb n).sw sd).latch.filter (· != .vgdUv)).map (fun c => (n, sd, c))))
/-- The record of a latch under each cause, or of a bank's gate supply once per bank (R228, Table 22-6). -/
def latchRecords (d : Dev) : Dev :=
  let d := (causesNow d).foldl (fun d x =>
    if d.gd.pCause.contains x then d else d.fault 0x11 x.1 (sideIdx x.2.1) (causeCode [x.2.2]) 0) d
  let d := if d.gd.vgdUv.1 && !d.gd.pVgd.1 then d.fault 0x11 0x101 0xFFFF 6 0 else d
  if d.gd.vgdUv.2 && !d.gd.pVgd.2 then d.fault 0x11 0x102 0xFFFF 6 0 else d
/-- A half-bridge at the boundary: BS_UV that it delivers for the first time starts its 1 ms (R225), also when VBS has recovered. -/
def HbSt.deliver (h : HbSt) (clk : Nat) (v : Byte) : HbSt :=
  { h with bsSeen := false, bsAt := if h.bsUv then some (h.bsAt.getD clk) else none, vbs := vbsQ h.bsLow v }
/-- The protection word (R174): latched switches, bootstrap and excitation reports. -/
def protectionWord (d : Dev) : Dev :=
  let d := latchRecords d
  let new := latchedNow d
  let bs := (List.range 20).filter (fun n => (d.hb n).bsUv || (d.hb n).bsSeen)
  let d := (List.range 20).foldl (fun d n => d.onHb n (·.deliver d.clk (Config.vbs d.draws n))) d
  let d := d.onLanes (fun q => (d.gd.exc.flatMap (fun a => [2 * a, 2 * a + 1])).foldl (fun q ch => q.onRdc ch RdcSt.faulty) q)
  { d with draws := d.draws + 1, gd := { d.gd with
      pLatch := new, pCause := causesNow d, pBsUv := bs, pExc := d.gd.exc, pVgd := d.gd.vgdUv } }
/-- New DESAT or UV bits of a remote write their records (R248). -/
def remoteRecords (d : Dev) (k : Nat) (old new : EdgeRet) : Dev :=
  (List.range 12).foldl (fun d c =>
    let bit := fun (r : EdgeRet) => flagN (r.desat.getLsbD (2 * c)) 0 + flagN (r.desat.getLsbD (2 * c + 1)) 1 + flagN (r.uv.getLsbD (2 * c)) 2 +
      flagN (r.uv.getLsbD (2 * c + 1)) 3
    if bit new &&& (15 - bit old) = 0 then d else d.fault 0x12 k c (bit new) 0) d
/-- The links' returns as latched at the boundary; a SYNC falls due on each (R238, R248, R263). -/
def edgeBoundary (d : Dev) : Dev :=
  [0, 1].foldl (fun d k =>
    let x := d.link k
    (remoteRecords d k x.latched x.now).onLink k (fun x => { x with latched := x.now, now := { x.now with fresh := false }, syncDue := true })) d
/-- A latch clear takes effect at its commit point and completes its command (R230). -/
def dueClears (d : Dev) (b : Nat) : Dev :=
  let due := d.gd.clears.filter (fun x => decide (x.2.1 ≤ b))
  due.foldl (fun d x => (clearLatches d x.1).endJob? x.2.2 0 0) (d.onGd (fun g => { g with clears := g.clears.filter (fun x => !decide (x.2.1 ≤ b)) }))

/-! ### Half periods -/

/-- PWM_HALF of an FCU, PC_HALF of a converter unit (unit codes of Table 5-1). -/
def halfOn (d : Dev) (u : Nat) : Bool := if u < 8 then d.cfgInt 0x038 u == 1 else if u ≤ 10 then d.cfgInt 0x0A1 (u - 8) == 1 else false
/-- The half period at T_F/2 after boundary b repeats the one at b, whether its events still wait or are done, until a run of its own
replaces it (R182). A repeat goes onto an edge link from 3.5 µs before, when no post for that period can come any more (Table 5-1):
DESIGN CHOICE, log entry 155. -/
def repeatHalves (d : Dev) (b : Nat) : Dev :=
  let n := 4 * d.tf
  let d := (List.range 20).foldl (fun d i =>
    if !halfOn d (unitOfHb i) || d.shut (.gate i) then d
    else d.onHb i (fun x => match x.half.shifted (8 * b) n with
      | some (e, f) => { x with evq := insertHb f (insertHb e x.evq), half := { x.half with repAt := 8 * b + n } }
      | none => x)) d
  [0, 1].foldl (fun d k => (List.range 12).foldl (fun d c =>
    if !halfOn d (unitOfEdge (12 * k + c)) || d.shut (.edge (12 * k + c)) then d
    else d.onLink k (fun x =>
      let h := x.halfOf c
      let due := some (8 * b + n - 17920)
      match h.shifted (8 * b) n with
      | some (e, f) => { x with evq := x.evq ++ [⟨e.t, false, c, e.leg, due⟩, ⟨f.t, true, c, f.leg, due⟩], half := putNat x.half c { h with repAt := 8 * b + n } }
      | none => x)) d) d

/-! ### The boundary -/

/-- Inbound banks swap at their slots' swap points (R281). -/
def swapBanks (d : Dev) (j : Nat) : Dev :=
  match d.netTable with
  | none => d
  | some t =>
    let due := fun (b : BankSt) => t.slots.any (fun r => r.number == b.key && r.swapIdx t d.tf d.k == j)
    d.onNet (fun n => { n with banks := n.banks.map (fun b =>
      if !due b then b
      else match b.filling with
        | some x => { b with read := x, filling := none, fresh := true }
        | none => { b with fresh := false }) })
/-- The test words of fast-cycle count c (R117): one of them has bit (c ÷ 4) mod 72 inverted, that of the lane Table 5-4 selects. -/
def testWords (c : Nat) : Tri (BitVec 72) :=
  let w := Config.testWord c
  let x := w ^^^ BitVec.ofNat 72 (2 ^ (c / 4 % 72))
  match c % 4 with
  | 0 => ⟨w, w, w⟩
  | 1 => ⟨x, w, w⟩
  | 2 => ⟨w, x, w⟩
  | _ => ⟨w, w, x⟩
/-- The verdict that three test words call for. -/
def testVerdict (a b c : BitVec 72) : TestVerdict :=
  if a = b ∧ b = c then .unanimous
  else if b = c then .odd .a
  else if a = c then .odd .b
  else if a = b then .odd .c
  else .differ
/-- Table 5-4. -/
def testExpected (c : Nat) : TestVerdict :=
  match c % 4 with
  | 0 => .unanimous
  | 1 => .odd .a
  | 2 => .odd .b
  | _ => .odd .c
/-- The verdict of a cell on the test words of the fast cycle. -/
def cellVerdict (t : Tri (BitVec 72)) (r : TestRead) : TestVerdict := r.given.getD (testVerdict (t.a ^^^ r.a) (t.b ^^^ r.b) (t.c ^^^ r.c))
/-- A cell's test verdict (R118): a wrong one is a voter fault, reported once, and at the frame voter a hub fault. -/
def selfTestCell (d : Dev) (r : TestRead) : Dev :=
  if cellVerdict d.vot.test r = testExpected d.time.fcCount then d
  else
    let d := d.count (cVote 6 0) 1
    if groupPlace r.g = .frame then loseHub (d.voterFault 23 0xFFFF 3 0)
    else if d.vot.cells.contains (r.g, r.cell) then d
    else (d.onVot (fun v => { v with cells := v.cells ++ [(r.g, r.cell)] })).voterFault (groupVoter r.g) (laneIdx r.cell) 3 0
def selfTestVotes (d : Dev) (reads : List TestRead) : Dev := reads.foldl selfTestCell d
/-- Every queue's reserved test entries take the words of the fast cycle that begins. -/
def injectTest (d : Dev) : Dev := d.onVot (fun v => { v with test := testWords d.time.fcCount })
/-- The lanes' own counts of the fast cycle start afresh. -/
def freshCycle (q : LaneSt) : LaneSt :=
  { q with
    rcs := { q.rcs with substN := 0, pairN := 0, marked := Tri.all [] }, tags := []
    fcu := (List.range q.fcu.length).map (fun i => let x := q.fcu.getD i FcuSt.reset; if 8 ≤ i then { x with clamped := false } else x) }
/-- The ports in the order of R336. -/
def digestPorts : List Nat := [0x22, 0x23, 0x24, 0x26, 0x27, 0x29]
def LaneSt.outputDigest (q : LaneSt) : BitVec 64 :=
  crc64 (digestPorts.flatMap (fun u => leBytes (~~~((lookupNat q.outCrc u).getD (BitVec.allOnes 64))).toNat 8))
/-- Each lane of a pair posts the output digest of the cycle that ends at b, to be released by b + 2 µs (R336). -/
def postDigests (d : Dev) (b : Nat) : Dev :=
  lanesAll.foldl (fun d l =>
    let w : VWord := { tag := 0, launch := BitVec.ofNat 32 (b + 1280), fine := 0, item := 0, value := 0, data := [(d.lane l).outputDigest] }
    let d := if d.paired then d.postWord l .outDigest w 0 0xFF else d
    d.onLane l (fun q => { q with outCrc := [] })) d
/-- Every voter place has each out indication by now (R102). -/
def outSettled (d : Dev) : Dev :=
  lanesAll.foldl (fun d l => if d.phase l == .out || d.phase l == .off then ((d.markOut .die1 l).markOut .die2 l).markOut .frame l else d) d

/-- The strobe of boundary j: the rate correction that holds from boundary 1 to boundary 1 of the next network cycle changes, in the hub
and in the replicas that follow it (R41); the part of the strobe's error that is common to the lanes is open (Table 2-5). -/
def strobe (d : Dev) (b j : Nat) : Dev :=
  if !d.hubUp then d.onLanes (fun q => { q with seq := { q.seq with noStrobe := q.seq.noStrobe + 1 } })
  else
    let err : Int := (Config.strobeCommon d.draws).val
    let rate := if j = 1 then d.time.nextRate.getD 0 else d.time.rate
    let by_ := rate - d.time.rate
    let d := d.onLanes (fun q => { q with seq := q.seq.hubRate (b * 2 ^ 32) by_ })
    { d.onTime (fun t => { t with rate := rate, nextRate := if j = 1 then none else t.nextRate, strobeErr := err - 13915694039 }) with
      draws := d.draws + 1 }
/-- The work of fast-cycle boundary j at GT b. -/
def boundaryWork (d : Dev) (reads : List TestRead) (b j : Nat) : Dev :=
  let bell := j == 0
  let d := verdictsDue (d.settledAt b)
  let d := selfTestVotes (outSettled d) reads
  let d := strobeLoss (strobe d b j) (b + d.tf)
  let d := silenceHeld d
  let d := probationBoundary d
  let d := commitAll d bell b
  let d := dueClears d b
  let d := protectionWord (edgeBoundary d)
  let d := d.onSafe (fun s => { s with input := BitVec.ofNat 32 d.safetyInput })
  let d := canBoundary (swapBanks d j) b
  let d := repeatHalves d b
  let d := pwrJobs d
  let d := (noteDegraded d).secondsPass (b / 640000000 - (b - d.tf) / 640000000)
  let d := (latchWords d).onLanes freshCycle
  let d := injectTest (d.onTime (fun t => { t with fcCount := t.fcCount + 1 }))
  let d := d.onVot (fun v => { v with
    liveFc := d.liveLanes, groups := v.groups.map (fun g =>
      staleWords d.time.fcCount { g with decided := g.decided.filter (fun e => decide (d.time.fcCount ≤ e.2.1 + 2)) }) })
  let d := postDigests d b
  (pairBoundary d b).onPair (fun p => { p with seen := false })
/-- Time reaches the next boundary and its work runs; a bell's own work stays due. -/
def toBoundary (d : Dev) (reads : List TestRead) : Dev :=
  let b := d.nextFc
  let j := d.time.fcIdx
  let d := boundaryWork (d.toGt b) reads b j
  d.onTime (fun t => { t with nextFc := BitVec.ofNat 64 (b + d.tf), fcIdx := (j + 1) % max 1 d.k, bellDue := j == 0 })

/-! ### The bell -/

/-- Entries still undispatched take their lane out with cause 0x4 (R51). -/
def overrun (d : Dev) (l : Lane) : Dev :=
  let q := (d.lane l).seq
  match d.boot.running with
  | none => d
  | some g =>
    match g.mode q.mode with
    | some m => if d.runs l && decide (q.ptr < m.count) then d.takeOut l 4 q.ptr (entryOf (g.entries.getD (m.start + q.ptr) 0)).unit else d
    | none => d
/-- The pointer returns to entry 0 (R50); lane clocks count from the bell at GT b on, and units that work across it stay busy. -/
def SeqSt.rewind (s : SeqSt) (b : Nat) : SeqSt := { s.fromBell b with ptr := 0, last := none }
/-- The status words show what the bell has changed: modes, casts, the role. -/
def bellWords (d : Dev) : Dev :=
  let d := lanesAll.foldl (fun d l =>
    (d.putWin (0x40 + 8 * laneIdx l) (seqWord (d.lane l).seq)).putWin (0x44 + 8 * laneIdx l) (seqPlace (d.lane l).seq)) d
  (((d.putWin 0x58 d.votingWord).putWin 0x5C d.silentMap).putWin 0x1E0 d.pairWord).putWin 0x1E4 d.pair.epoch.toNat
/-- A lane that a cast has put into probation takes its own calibration (R260), and its LCI channel restarts when the cast has brought it other
settings (R267); d0 is the device before. -/
def castApplied (d d0 : Dev) : Dev :=
  match d0.vot.cast with
  | some (t, _, _) =>
    if d.isProb t && !d0.isProb t then
      let d := recastCal d t
      if [0x085, 0x086, 0x087, 0x088].any (fun f => (d.lane t).cfgVal f 0 != (d0.lane t).cfgVal f 0) then
        d.onLane t (fun q => { q with meas := q.meas.restart d.lclk })
      else d
    else d
  | none => d
/-- The bell's work, after that of its boundary. `parity`: lanes whose sequencer's read at the bell fails its parity check (R105). -/
def bellWork (d : Dev) (parity : List Lane) : Dev :=
  let b := d.nextFc - d.tf
  let d := lanesAll.foldl overrun d
  let d := parity.foldl (fun d l => d.takeOut l 6 0 0) d
  let d := d.onLanes (fun q => { q with seq := q.seq.rewind b })
  let d := d.onTime (fun t => { t with bellDue := false, bellGt := BitVec.ofNat 64 b, cycle := t.cycle + 1 })
  let d := pairBell (castApplied (castBell (netBell d)) d)
  let d := (d.onVot (fun v => { v with liveFc := d.liveLanes })).onPair (fun p => { p with rankFirst := p.role == .active })
  let d := bellWords d
  if d.hubUp then d.onHost (fun h => { h with snap := h.cnt }) else d
/-- The first bell of a ring that has just started (R36, R306). -/
def firstBell (d : Dev) : Dev :=
  let d := d.toGt d.nextFc
  let b := d.nextFc
  let d := d.onLanes (fun q => { q with seq := q.seq.replicaFrom b })
  let d := netBell (d.onTime (fun t => { t with bellGt := BitVec.ofNat 64 b }))
  let d := d.onTime (fun t => { t with belled := true, nextFc := BitVec.ofNat 64 (b + d.tf), fcIdx := 1 % max 1 d.k })
  if d.hubUp then d.onHost (fun h => { h with snap := h.cnt }) else d
/-- Boundaries up to and with the next bell. -/
def toBell : Nat → Dev → Dev
  | 0, d => d
  | n + 1, d => if d.time.bellDue then d else toBell n (toBoundary d [])

/-- FAST_CYCLE_BOUNDARY (R60): a bell's work that is still due comes first. -/
def execFastCycleBoundary (reads : List TestRead) (s : State) : Host.Outcome State Fault Refusal :=
  s.onDev (fun d =>
    if !d.time.run || !d.time.belled then d
    else toBoundary (if d.time.bellDue then bellWork d [] else d) reads)
/-- BELL (R39): the bell whose boundary has come, or the next one with the boundaries before it. -/
def execBell (parity : List Lane) (s : State) : Host.Outcome State Fault Refusal :=
  s.onDev (fun d =>
    if !d.time.run then d
    else if !d.time.belled then firstBell d
    else bellWork (toBell (d.k + 1) d) parity)

/-! ### Release -/

/-- The lanes dispatch from this bell in INITIAL_MODE. The bell is a boundary, so the safety input word is latched (R353);
`first`: GT starts with it, and no FAST_CYCLE_BOUNDARY has latched the protection word of this boundary (R228). -/
def releaseNow (d : Dev) (first : Bool) : Dev :=
  let g := d.img
  let d := d.passed.foldl (fun d l => d.onSeq l (fun q => { q with phase := .live, mode := g.initialMode, pend := none, ptr := 0, last := none, busy := [], late := [] })) d
  let d := injectTest d
  let d := d.onBoot (fun b => { b with released := true })
  let d := toStage d 8
  let d := d.onPair (fun p => { p with relClk := d.clk, lastHb := d.clk, lastSwap := d.gt, rankFirst := p.role == .active })
  let edge := d.edge.map (fun x => { x with syncDue := true, hbNext := d.gt })
  let can := d.can.map (fun c => if c.laneOwn then { c with init := false } else c)
  let d := [0, 1].foldl (beginExc d.gt) (raiseFwFloor { d with edge := edge, can := can })
  let d := d.onLanes (fun q => { q with enc := q.enc.map (fun e => { e with zSeen := false }) })
  let odd := d.liveLanes.filter (fun l => !crcShared d d.liveLanes l)
  let d := odd.foldl (fun d l => d.takeOut l 6 0 0) d.liveChanged
  let d := d.onVot (fun v => { v with rotGt := BitVec.ofNat 64 d.gt, liveFc := d.liveLanes })
  let d := if first then protectionWord (edgeBoundary d) else d
  latchWords (noteDegraded (d.onSafe (fun s => { s with input := BitVec.ofNat 32 d.safetyInput })))
/-- RELEASE (R36, R426): a standalone device starts GT at 0 with its first bell, 2.0 ms after the self-test stage at most; a ring member is
released at a bell with RING_STATE MEMBER and SYNCED 1. -/
def execRelease (s : State) : Host.Outcome State Fault Refusal :=
  s.onDev (fun d =>
    if d.boot.stage ≠ 7 then d
    else if d.standalone then
      let d := (stageEnd d (2 * msClk)).onLanes (fun q => { q with seq := q.seq.replicaFrom 0 })
      releaseNow (d.onTime (fun t => { t with
        run := true, gt := 0, frac := 0, belled := true, bellGt := 0, cycle := 0, nextFc := BitVec.ofNat 64 d.tf, fcIdx := 1 % max 1 d.k,
        fcCount := 0 })) true
    else if d.net.ring == .member && d.net.synced && d.time.belled && decide (d.gt ≤ d.time.bellGt.toNat + 1) && !d.time.bellDue then
      releaseNow d false
    else d)

end Sys2Proof.Machine
end

