-- ==== Sys2Proof/Machine/Dispatch.lean ====
section
/-! DEFINITION. One arm per command: a direct call of its meaning. -/

namespace Sys2Proof.Machine
open Sys2Proof

def exec (i : Instr) (s : State) : Host.Outcome State Fault Refusal :=
  match i with
  | .fastCycleBoundary reads => Sys2Proof.Machine.execFastCycleBoundary reads s
  | .bell parity => Sys2Proof.Machine.execBell parity s
  | .strobeCapture l corr => Sys2Proof.Machine.execStrobeCapture l corr s
  | .laneClockFault l byAclk => Sys2Proof.Machine.execLaneClockFault l byAclk s
  | .hubClockFault => Sys2Proof.Machine.execHubClockFault s
  | .noHubStrobe => Sys2Proof.Machine.execNoHubStrobe s
  | .ringSyncLost => Sys2Proof.Machine.execRingSyncLost s
  | .serdesUnlock => Sys2Proof.Machine.execSerdesUnlock s
  | .aclkFault => Sys2Proof.Machine.execAclkFault s
  | .hubFault cause => Sys2Proof.Machine.execHubFault cause s
  | .missedDeadline l unit => Sys2Proof.Machine.execMissedDeadline l unit s
  | .lmcPostTimeout l => Sys2Proof.Machine.execLmcPostTimeout l s
  | .noOperation l p => Sys2Proof.Machine.execNoOperation l p s
  | .marker l p => Sys2Proof.Machine.execMarker l p s
  | .modeRequestEntry l p => Sys2Proof.Machine.execModeRequestEntry l p s
  | .groupStaging l p => Sys2Proof.Machine.execGroupStaging l p s
  | .stageEvaluation l p => Sys2Proof.Machine.execStageEvaluation l p s
  | .move l p => Sys2Proof.Machine.execMove l p s
  | .add l p => Sys2Proof.Machine.execAdd l p s
  | .sub l p => Sys2Proof.Machine.execSub l p s
  | .mul l p => Sys2Proof.Machine.execMul l p s
  | .mac l p => Sys2Proof.Machine.execMac l p s
  | .neg l p => Sys2Proof.Machine.execNeg l p s
  | .abs l p => Sys2Proof.Machine.execAbs l p s
  | .min l p => Sys2Proof.Machine.execMin l p s
  | .max l p => Sys2Proof.Machine.execMax l p s
  | .limit l p => Sys2Proof.Machine.execLimit l p s
  | .deadband l p => Sys2Proof.Machine.execDeadband l p s
  | .scale2 l p => Sys2Proof.Machine.execScale2 l p s
  | .sign l p => Sys2Proof.Machine.execSign l p s
  | .ratecmp l p => Sys2Proof.Machine.execRatecmp l p s
  | .cmp l p => Sys2Proof.Machine.execCmp l p s
  | .hyst l p => Sys2Proof.Machine.execHyst l p s
  | .sel l p => Sys2Proof.Machine.execSel l p s
  | .hold l p => Sys2Proof.Machine.execHold l p s
  | .and l p => Sys2Proof.Machine.execAnd l p s
  | .or l p => Sys2Proof.Machine.execOr l p s
  | .xor l p => Sys2Proof.Machine.execXor l p s
  | .not l p => Sys2Proof.Machine.execNot l p s
  | .lookup1d l p => Sys2Proof.Machine.execLookup1d l p s
  | .lookup2d l p => Sys2Proof.Machine.execLookup2d l p s
  | .loopClose l p => Sys2Proof.Machine.execLoopClose l p s
  | .forwardTransform l p => Sys2Proof.Machine.execForwardTransform l p s
  | .inverseTransform l p => Sys2Proof.Machine.execInverseTransform l p s
  | .modulation l p => Sys2Proof.Machine.execModulation l p s
  | .observerStep l p => Sys2Proof.Machine.execObserverStep l p s
  | .acqTimeout l fcu => Sys2Proof.Machine.execAcqTimeout l fcu s
  | .sampleAndConvert l p codes => Sys2Proof.Machine.execSampleAndConvert l p codes s
  | .resolverRead l p => Sys2Proof.Machine.execResolverRead l p s
  | .rdcUpdate l ch sinV cosV => Sys2Proof.Machine.execRdcUpdate l ch sinV cosV s
  | .encoderHallRead l p => Sys2Proof.Machine.execEncoderHallRead l p s
  | .encoderEdge l inp w0 w1 w2 held => Sys2Proof.Machine.execEncoderEdge l inp w0 w1 w2 held s
  | .encoderSpeedTimeout l inp => Sys2Proof.Machine.execEncoderSpeedTimeout l inp s
  | .discreteOrLciRead l p => Sys2Proof.Machine.execDiscreteOrLciRead l p s
  | .dinLevelAccepted l n level samples => Sys2Proof.Machine.execDinLevelAccepted l n level samples s
  | .lciMeasurement l code high period => Sys2Proof.Machine.execLciMeasurement l code high period s
  | .lciTimeout l level => Sys2Proof.Machine.execLciTimeout l level s
  | .pwmCompareWrite l p => Sys2Proof.Machine.execPwmCompareWrite l p s
  | .gateEventPost l p => Sys2Proof.Machine.execGateEventPost l p s
  | .edgeEventPost l p => Sys2Proof.Machine.execEdgeEventPost l p s
  | .parkLockCommand l p => Sys2Proof.Machine.execParkLockCommand l p s
  | .rollCallExchange f => Sys2Proof.Machine.execRollCallExchange f s
  | .pairRollCallSelection l p => Sys2Proof.Machine.execPairRollCallSelection l p s
  | .payloadPost l p => Sys2Proof.Machine.execPayloadPost l p s
  | .payloadTake l p => Sys2Proof.Machine.execPayloadTake l p s
  | .safetyDemandPost l p => Sys2Proof.Machine.execSafetyDemandPost l p s
  | .stateDigestSlice l p => Sys2Proof.Machine.execStateDigestSlice l p s
  | .votedWordArrival l g parityOk cell => Sys2Proof.Machine.execVotedWordArrival l g parityOk cell s
  | .alignmentWindowExpiry g tag cell => Sys2Proof.Machine.execAlignmentWindowExpiry g tag cell s
  | .releaseDeadlineExpiry g tag cell => Sys2Proof.Machine.execReleaseDeadlineExpiry g tag cell s
  | .outIndicationArrival l v => Sys2Proof.Machine.execOutIndicationArrival l v s
  | .gateEventExecution hb => Sys2Proof.Machine.execGateEventExecution hb s
  | .switchTurnOn hb vgs => Sys2Proof.Machine.execSwitchTurnOn hb vgs s
  | .gateStuck hb => Sys2Proof.Machine.execGateStuck hb s
  | .hardShortArmed hb sd => Sys2Proof.Machine.execHardShortArmed hb sd s
  | .blankingEnd hb sd => Sys2Proof.Machine.execBlankingEnd hb sd s
  | .hardShortTrip hb sd => Sys2Proof.Machine.execHardShortTrip hb sd s
  | .vdsTrip hb sd => Sys2Proof.Machine.execVdsTrip hb sd s
  | .bsUv hb => Sys2Proof.Machine.execBsUv hb s
  | .bsRecovered hb => Sys2Proof.Machine.execBsRecovered hb s
  | .bsFault hb => Sys2Proof.Machine.execBsFault hb s
  | .vgdUv bank mv => Sys2Proof.Machine.execVgdUv bank mv s
  | .vgdRecovered bank mv => Sys2Proof.Machine.execVgdRecovered bank mv s
  | .diagStepEnd unit nodes vdh => Sys2Proof.Machine.execDiagStepEnd unit nodes vdh s
  | .edgeHeartbeatDue => Sys2Proof.Machine.execEdgeHeartbeatDue s
  | .edgeLinkIdle link => Sys2Proof.Machine.execEdgeLinkIdle link s
  | .statusFrame link arrival codeErr bytes => Sys2Proof.Machine.execStatusFrame link arrival codeErr bytes s
  | .edgeRxDown link => Sys2Proof.Machine.execEdgeRxDown link s
  | .serialiserClockSwitch => Sys2Proof.Machine.execSerialiserClockSwitch s
  | .slotStart slot => Sys2Proof.Machine.execSlotStart slot s
  | .btnFrameReceived port f arrival => Sys2Proof.Machine.execBtnFrameReceived port f arrival s
  | .acceptanceWindowEnd slot => Sys2Proof.Machine.execAcceptanceWindowEnd slot s
  | .modeTimeout => Sys2Proof.Machine.execModeTimeout s
  | .ringLinkDown east => Sys2Proof.Machine.execRingLinkDown east s
  | .ringLinkUp east => Sys2Proof.Machine.execRingLinkUp east s
  | .recessStart port => Sys2Proof.Machine.execRecessStart port s
  | .unscheduledFrameReceived port dest bytes => Sys2Proof.Machine.execUnscheduledFrameReceived port dest bytes s
  | .starFrameArrival port btn node => Sys2Proof.Machine.execStarFrameArrival port btn node s
  | .invigilatorCut port => Sys2Proof.Machine.execInvigilatorCut port s
  | .listenWindowEnd => Sys2Proof.Machine.execListenWindowEnd s
  | .coldstartFrameReceived node dir => Sys2Proof.Machine.execColdstartFrameReceived node dir s
  | .memberSilenceTimeout => Sys2Proof.Machine.execMemberSilenceTimeout s
  | .ctrlInitWrite ch v => Sys2Proof.Machine.execCtrlInitWrite ch v s
  | .boRecover ch => Sys2Proof.Machine.execBoRecover ch s
  | .txcReq ch buf => Sys2Proof.Machine.execTxcReq ch buf s
  | .txcAbort ch buf => Sys2Proof.Machine.execTxcAbort ch buf s
  | .canStartOfFrame ch => Sys2Proof.Machine.execCanStartOfFrame ch s
  | .canAttemptEnd ch how tec rec => Sys2Proof.Machine.execCanAttemptEnd ch how tec rec s
  | .canRecoveryComplete ch again => Sys2Proof.Machine.execCanRecoveryComplete ch again s
  | .canFrameReceived ch f rec => Sys2Proof.Machine.execCanFrameReceived ch f rec s
  | .headObjectH0Read ch hp => Sys2Proof.Machine.execHeadObjectH0Read ch hp s
  | .headObjectReleaseRead ch hp => Sys2Proof.Machine.execHeadObjectReleaseRead ch hp s
  | .canBufferEntry desc => Sys2Proof.Machine.execCanBufferEntry desc s
  | .pairHeartbeatSend => Sys2Proof.Machine.execPairHeartbeatSend s
  | .pairHeartbeatReceived n hb img => Sys2Proof.Machine.execPairHeartbeatReceived n hb img s
  | .heartbeatDeadline => Sys2Proof.Machine.execHeartbeatDeadline s
  | .castRequest n ask => Sys2Proof.Machine.execCastRequest n ask s
  | .castFrameReceived n f => Sys2Proof.Machine.execCastFrameReceived n f s
  | .swapPropose n kind cycle => Sys2Proof.Machine.execSwapPropose n kind cycle s
  | .swapAccept n => Sys2Proof.Machine.execSwapAccept n s
  | .swapRefuse n => Sys2Proof.Machine.execSwapRefuse n s
  | .autoSwapExpiry => Sys2Proof.Machine.execAutoSwapExpiry s
  | .relayedMailbox n mbox words => Sys2Proof.Machine.execRelayedMailbox n mbox words s
  | .pairRelayRetry => Sys2Proof.Machine.execPairRelayRetry s
  | .initPartnerTimeout => Sys2Proof.Machine.execInitPartnerTimeout s
  | .castingTimeout => Sys2Proof.Machine.execCastingTimeout s
  | .detach => Sys2Proof.Machine.execDetach s
  | .pairLinkUp port1 => Sys2Proof.Machine.execPairLinkUp port1 s
  | .castSweepEnd src p cal => Sys2Proof.Machine.execCastSweepEnd src p cal s
  | .rotationStart => Sys2Proof.Machine.execRotationStart s
  | .laneBistDone l r => Sys2Proof.Machine.execLaneBistDone l r s
  | .ssReqAccepted grpB demand samples => Sys2Proof.Machine.execSsReqAccepted grpB demand samples s
  | .safetyOutputChange grpB => Sys2Proof.Machine.execSafetyOutputChange grpB s
  | .testPulseStart out => Sys2Proof.Machine.execTestPulseStart out s
  | .testPulseEnd out readBackOk => Sys2Proof.Machine.execTestPulseEnd out readBackOk s
  | .safeStopRun l p io => Sys2Proof.Machine.execSafeStopRun l p io s
  | .safeStopStopped l => Sys2Proof.Machine.execSafeStopStopped l s
  | .graceExpired l => Sys2Proof.Machine.execGraceExpired l s
  | .discrep l => Sys2Proof.Machine.execDiscrep l s
  | .dcLinkSupervision l p io => Sys2Proof.Machine.execDcLinkSupervision l p io s
  | .chopFault l => Sys2Proof.Machine.execChopFault l s
  | .prechargeTimeout l => Sys2Proof.Machine.execPrechargeTimeout l s
  | .hostWrite eth form addr data race => Sys2Proof.Machine.execHostWrite eth form addr data race s
  | .udpRequest g => Sys2Proof.Machine.execUdpRequest g s
  | .gtLoRead => Sys2Proof.Machine.execGtLoRead s
  | .inboundGo m sender len words => Sys2Proof.Machine.execInboundGo m sender len words s
  | .claimTimeout m => Sys2Proof.Machine.execClaimTimeout m s
  | .outboundAck m reader => Sys2Proof.Machine.execOutboundAck m reader s
  | .doorbellClear v again => Sys2Proof.Machine.execDoorbellClear v again s
  | .mailboxDrain => Sys2Proof.Machine.execMailboxDrain s
  | .doorbellRepeat => Sys2Proof.Machine.execDoorbellRepeat s
  | .eventExpiry => Sys2Proof.Machine.execEventExpiry s
  | .jobCompletion job e => Sys2Proof.Machine.execJobCompletion job e s
  | .stagingDelivered => Sys2Proof.Machine.execStagingDelivered s
  | .identify r => Sys2Proof.Machine.execIdentify r s
  | .status r => Sys2Proof.Machine.execStatus r s
  | .counterClear r => Sys2Proof.Machine.execCounterClear r s
  | .jobStatus r => Sys2Proof.Machine.execJobStatus r s
  | .bulkWrite r => Sys2Proof.Machine.execBulkWrite r s
  | .bulkRead r => Sys2Proof.Machine.execBulkRead r s
  | .bulkRelease r => Sys2Proof.Machine.execBulkRelease r s
  | .bulkClaimTimeout => Sys2Proof.Machine.execBulkClaimTimeout s
  | .paramStage r => Sys2Proof.Machine.execParamStage r s
  | .paramRead r => Sys2Proof.Machine.execParamRead r s
  | .commit r => Sys2Proof.Machine.execCommit r s
  | .discard r => Sys2Proof.Machine.execDiscard r s
  | .calibrate r => Sys2Proof.Machine.execCalibrate r s
  | .imageInfo r => Sys2Proof.Machine.execImageInfo r s
  | .modeRequest r => Sys2Proof.Machine.execModeRequest r s
  | .starUnmute r => Sys2Proof.Machine.execStarUnmute r s
  | .netSend r => Sys2Proof.Machine.execNetSend r s
  | .netReceive r => Sys2Proof.Machine.execNetReceive r s
  | .imageWrite r => Sys2Proof.Machine.execImageWrite r s
  | .coefStage r => Sys2Proof.Machine.execCoefStage r s
  | .coefRead r => Sys2Proof.Machine.execCoefRead r s
  | .journalInfo r => Sys2Proof.Machine.execJournalInfo r s
  | .journalRead r => Sys2Proof.Machine.execJournalRead r s
  | .journalCompact r => Sys2Proof.Machine.execJournalCompact r s
  | .journalAppend r => Sys2Proof.Machine.execJournalAppend r s
  | .runTest r => Sys2Proof.Machine.execRunTest r s
  | .testResults r => Sys2Proof.Machine.execTestResults r s
  | .switchClear r => Sys2Proof.Machine.execSwitchClear r s
  | .pairStatus r => Sys2Proof.Machine.execPairStatus r s
  | .pairSwap r => Sys2Proof.Machine.execPairSwap r s
  | .pairRelay r => Sys2Proof.Machine.execPairRelay r s
  | .fwWrite r => Sys2Proof.Machine.execFwWrite r s
  | .slotStatus r => Sys2Proof.Machine.execSlotStatus r s
  | .slotSelect r => Sys2Proof.Machine.execSlotSelect r s
  | .restart r => Sys2Proof.Machine.execRestart r s
  | .restartDelayExpiry => Sys2Proof.Machine.execRestartDelayExpiry s
  | .canRecover r => Sys2Proof.Machine.execCanRecover r s
  | .attest r => Sys2Proof.Machine.execAttest r s
  | .debugChallenge r rnd => Sys2Proof.Machine.execDebugChallenge r rnd s
  | .challengeExpiry => Sys2Proof.Machine.execChallengeExpiry s
  | .debugUnlock r => Sys2Proof.Machine.execDebugUnlock r s
  | .debugLock r => Sys2Proof.Machine.execDebugLock r s
  | .rollbackAdvance r => Sys2Proof.Machine.execRollbackAdvance r s
  | .pwrSet r => Sys2Proof.Machine.execPwrSet r s
  | .pwrStatus r => Sys2Proof.Machine.execPwrStatus r s
  | .journalPost q => Sys2Proof.Machine.execJournalPost q s
  | .recordWrite => Sys2Proof.Machine.execRecordWrite s
  | .compactionSlice cal => Sys2Proof.Machine.execCompactionSlice cal s
  | .retentionRefresh => Sys2Proof.Machine.execRetentionRefresh s
  | .mramCheckSlice corrected bad => Sys2Proof.Machine.execMramCheckSlice corrected bad s
  | .earlyWarning => Sys2Proof.Machine.execEarlyWarning s
  | .earlyWarningClear => Sys2Proof.Machine.execEarlyWarningClear s
  | .deviceReset vaon => Sys2Proof.Machine.execDeviceReset vaon s
  | .porNRelease pairId => Sys2Proof.Machine.execPorNRelease pairId s
  | .plinth fuseBad => Sys2Proof.Machine.execPlinth fuseBad s
  | .hubBist ok => Sys2Proof.Machine.execHubBist ok s
  | .fetch f => Sys2Proof.Machine.execFetch f s
  | .verify fwA imgA fwB imgB => Sys2Proof.Machine.execVerify fwA imgA fwB imgB s
  | .load hits => Sys2Proof.Machine.execLoad hits s
  | .selfTest corrected bad => Sys2Proof.Machine.execSelfTest corrected bad s
  | .release => Sys2Proof.Machine.execRelease s
  | .analogSelfTestDone die bad => Sys2Proof.Machine.execAnalogSelfTestDone die bad s
  | .domainDown code => Sys2Proof.Machine.execDomainDown code s
  | .domainGood code => Sys2Proof.Machine.execDomainGood code s
  | .temperatureRead t => Sys2Proof.Machine.execTemperatureRead t s
  | .outputReadbackMismatch grpB out => Sys2Proof.Machine.execOutputReadbackMismatch grpB out s
  | .excitationFault amp on => Sys2Proof.Machine.execExcitationFault amp on s
  | .canBusIntegrated ch => Sys2Proof.Machine.execCanBusIntegrated ch s
  | .canBusError ch rec => Sys2Proof.Machine.execCanBusError ch rec s
  | .laneMonitorCoreFault l => Sys2Proof.Machine.execLaneMonitorCoreFault l s

end Sys2Proof.Machine
end

