-- ==== Sys2Proof/Safety.lean ====
section
/-! DEFINITION. The terms the claims use: a command that completes with an effect, an entry that is ready to be dispatched, the
device as its operation finds it, and the canonical form of every byte memory. No command of this block stops, so a safe run is
one whose every step answers a next state. -/

namespace Sys2Proof.Machine
open Sys2Proof

/-- Command c completes on s: it answers a next state, leaves the queue of waiting commands alone, and P holds of the device. -/
def Does (c : Instr) (s : State) (P : Dev → Prop) : Prop :=
  ∃ t : State, exec c s = .next t ∧ t.pending = s.pending ∧ P t.dev

/-- Entry e of the running image g stands at lane l's pointer, the lane dispatches (live or in probation), the slip is at most 64
lane clocks (R49) and the entry's unit has finished its previous entry (R54). -/
def Dev.Ready (d : Dev) (l : Lane) (g : Img) (e : Entry) : Prop :=
  d.boot.running = some g ∧ d.entryAt l = some e ∧ d.runs l = true ∧
  d.dispatchAt l e.offset ≤ d.target l e.offset + 64 ∧
  (lookupNat (d.lane l).seq.busy e.unit).getD 0 ≤ d.dispatchAt l e.offset

/-- The device as the operation of a ready entry finds it: time has reached the lane's dispatch clock, what was complete by then is
visible, and lane l's pointer, last dispatch clock, unit deadline and slip have moved on (R49, R50, R53, R54). -/
def Dev.begun (d : Dev) (l : Lane) (g : Img) (e : Entry) : Dev :=
  let clk := d.dispatchAt l e.offset
  ((d.toLaneClk l clk).onLane l (fun q => q.settle false clk)).onSeq l (fun q =>
    { (q.dispatched e.unit clk (clk + cost g e)) with slip := clk - d.target l e.offset })

/-- Command c completes on a ready entry with the operation `body`: what that writes to lane memory is in progress until the entry's
deadline clock (R77), and everything else holds at once. -/
def Runs (c : Instr) (s : State) (l : Lane) (g : Img) (e : Entry) (body : Dev → Dev) : Prop :=
  exec c s = .next { s with dev := holdBack l e [] none (s.dev.begun l g e) (body (s.dev.begun l g e)) }
/-- Command c completes on a ready entry, and P holds of the device once its results are written, which they are at the entry's
deadline clock (R77). -/
def Ends (c : Instr) (s : State) (l : Lane) (g : Img) (e : Entry) (P : Dev → Prop) : Prop :=
  ∃ d : Dev, exec c s = .next { s with dev := holdBack l e [] none (s.dev.begun l g e) d } ∧ P d
/-- Command c writes exactly the signal words ws of lane l, in order, at the entry's deadline clock, and changes nothing else but what
the dispatch of e does. -/
def Writes (c : Instr) (s : State) (l : Lane) (g : Img) (e : Entry) (ws : List (Nat × SigWord)) : Prop :=
  Runs c s l g e (fun d => d.onLane l (fun q => q.setSigs ws))

/-- The timetable entries that a lane dispatches by itself, each with the test its entry must pass: its class (Table 4-5) or, in
class 0x09, its operation (Table 7-4). GROUP_STAGING and SAMPLE_AND_CONVERT carry further operands and ROLL_CALL_EXCHANGE is shared
by the lanes. -/
def entryCommands : List ((Img → Entry → Bool) × (Lane → Bool → Instr)) :=
   [(clsIs 0x00, .noOperation), (clsIs 0x01, .marker), (clsIs 0x02, .modeRequestEntry), (clsIs 0x08, .stageEvaluation),
    (opIs 0x00, .move), (opIs 0x01, .add), (opIs 0x02, .sub), (opIs 0x03, .mul), (opIs 0x04, .mac), (opIs 0x05, .neg),
    (opIs 0x06, .abs), (opIs 0x07, .min), (opIs 0x08, .max), (opIs 0x09, .limit), (opIs 0x0A, .deadband), (opIs 0x0B, .scale2),
    (opIs 0x0C, .sign), (opIs 0x0D, .ratecmp), (opIs 0x0E, .cmp), (opIs 0x0F, .hyst), (opIs 0x10, .sel), (opIs 0x11, .hold),
    (opIs 0x12, .and), (opIs 0x13, .or), (opIs 0x14, .xor), (opIs 0x15, .not), (clsIs 0x0A, .lookup1d), (clsIs 0x0B, .lookup2d),
    (clsIs 0x0C, .loopClose), (clsIs 0x10, .forwardTransform), (clsIs 0x11, .inverseTransform), (clsIs 0x12, .modulation),
    (clsIs 0x13, .observerStep), (clsIs 0x19, .resolverRead), (clsIs 0x1A, .encoderHallRead), (clsIs 0x1B, .discreteOrLciRead),
    (clsIs 0x20, .pwmCompareWrite), (clsIs 0x21, .gateEventPost), (clsIs 0x22, .edgeEventPost),
    (clsIs 0x29, .pairRollCallSelection), (clsIs 0x30, .payloadPost), (clsIs 0x31, .payloadTake),
    (clsIs 0x34, .safetyDemandPost), (clsIs 0x35, .parkLockCommand), (clsIs 0x38, .stateDigestSlice)]

/-- Every byte memory of the device has its canonical form: the memory space of each lane and the transfer buffer. -/
def Dev.memsWf (d : Dev) : Prop :=
  memWf d.lanes.a.mem = true ∧ memWf d.lanes.b.mem = true ∧ memWf d.lanes.c.mem = true ∧ memWf d.mgmt.bulk = true

/-- The parts of the device that no timetable operation of a lane writes but through a voter or a counter: drive dies, edge links,
network, CAN, pair, safety I/O, management, start-up, self-test and power. -/
def Dev.SameOutside (d d' : Dev) : Prop :=
  d'.gd = d.gd ∧ d'.edge = d.edge ∧ d'.net = d.net ∧ d'.can = d.can ∧ d'.pair = d.pair ∧ d'.safe = d.safe ∧
  d'.mgmt = d.mgmt ∧ d'.boot = d.boot ∧ d'.test = d.test ∧ d'.pwr = d.pwr

/-- Counter word a grew by one, saturating (R386). -/
def Dev.Grew (d d' : Dev) (a : Nat) : Prop :=
  lookupNat d'.host.cnt a = some (min (2 ^ 32 - 1) ((lookupNat d.host.cnt a).getD 0 + 1))
/-- Counter word a grew by one, saturating, and no other counter changed (R385, R386). -/
def Dev.Counted (d d' : Dev) (a : Nat) : Prop :=
  d.Grew d' a ∧
  ∀ b : Nat, b ≠ a → lookupNat d'.host.cnt b = lookupNat d.host.cnt b

/-- Everything but time, the network, the host window, the journal queue and the model's own counter of open values. -/
def Dev.SameCore (d d' : Dev) : Prop :=
  d'.lanes = d.lanes ∧ d'.vot = d.vot ∧ d'.gd = d.gd ∧ d'.edge = d.edge ∧ d'.can = d.can ∧ d'.pair = d.pair ∧ d'.safe = d.safe ∧
  d'.mgmt = d.mgmt ∧ d'.boot = d.boot ∧ d'.test = d.test ∧ d'.pwr = d.pwr

/-! ### Mailbox commands -/

/-- The device serves request r of a command code from a mailbox of the lanes or the host: it drains, the length fits, and the lanes
or the image that the command needs are there (R387, R390, R427). -/
def Dev.Serves (d : Dev) (r : Request) (code : Nat) : Prop :=
  d.drains = true ∧ r.mbox < 10 ∧ d.host.outb.length = 16 ∧ lenOk code r.args.length = true ∧
  (needsLanes code = true → d.boot.released = true) ∧ (needsImage code = true → d.boot.running.isSome = true)

/-- The device as the command of r finds it: a command of the holder of the transfer buffer keeps its claim (R392). -/
def Dev.touched (d : Dev) (r : Request) : Dev :=
  match d.mgmt.claim with
  | some c => if c.1 = r.sender then d.onMgmt (fun m => { m with claim := some (c.1, d.clk) }) else d
  | none => d

/-- A reply of words ws for mailbox m: it fills outbound m and rings its doorbell, or waits behind what fills or waits there (R382). -/
def Dev.Answered (d d' : Dev) (m : Nat) (ws : List Word) : Prop :=
  if ((d.outb m).full || d.host.replies.any (fun r => r.1 == m)) = true then
    d'.host.replies = d.host.replies ++ [(m, ws)] ∧ d'.outb m = d.outb m
  else
    d'.outb m = { data := ws ++ List.replicate (16 - ws.length) 0, len := ws.length, full := true } ∧
    d'.host.replies = d.host.replies ∧ d'.host.door.getLsbD m = true

/-- The reply ACCEPTED with a new JOB number, and the job that carries it (R389). -/
def Dev.Accepted (d d' : Dev) (r : Request) (code : Nat) : Prop :=
  d.Answered d' r.mbox (replyWords r code d.mgmt.nextJob 0x10 0 []) ∧
  ∃ j ∈ d'.mgmt.jobs, j.num = d.mgmt.nextJob ∧ j.code = code ∧ j.req = r

/-- Everything but the host window, the claim of the transfer buffer and what else a command alters of the management processor. -/
def Dev.Quiet (d d' : Dev) : Prop :=
  d'.lanes = d.lanes ∧ d'.vot = d.vot ∧ d'.gd = d.gd ∧ d'.edge = d.edge ∧ d'.net = d.net ∧ d'.can = d.can ∧ d'.pair = d.pair ∧
  d'.safe = d.safe ∧ d'.jr = d.jr ∧ d'.boot = d.boot ∧ d'.test = d.test ∧ d'.pwr = d.pwr ∧ d'.time = d.time

/-- The codes of Table 21-4 with their commands; DEBUG_CHALLENGE, which carries random bytes beside its request, is not listed. -/
def mailboxCodes : List (Nat × (Request → Instr)) :=
  [(0x0001, .identify), (0x0002, .status), (0x0003, .counterClear), (0x0004, .jobStatus), (0x0010, .bulkWrite), (0x0011, .bulkRead),
   (0x0012, .bulkRelease), (0x0101, .paramStage), (0x0102, .paramRead), (0x0103, .commit), (0x0104, .discard), (0x0105, .calibrate),
   (0x0201, .imageInfo), (0x0202, .modeRequest), (0x0203, .starUnmute), (0x0204, .netSend), (0x0205, .netReceive), (0x0210, .imageWrite),
   (0x0301, .coefStage), (0x0302, .coefRead), (0x0401, .journalInfo), (0x0402, .journalRead), (0x0403, .journalCompact),
   (0x0404, .journalAppend), (0x0501, .runTest), (0x0502, .testResults), (0x0503, .switchClear), (0x0601, .pairStatus), (0x0602, .pairSwap),
   (0x0603, .pairRelay), (0x0701, .fwWrite), (0x0702, .slotStatus), (0x0703, .slotSelect), (0x0704, .restart), (0x0801, .canRecover),
   (0x0901, .attest), (0x0903, .debugUnlock), (0x0904, .debugLock), (0x0905, .rollbackAdvance), (0x0A01, .pwrSet), (0x0A02, .pwrStatus)]

end Sys2Proof.Machine
end

