-- ==== Sys2Proof/Certificates/Slice0/Obligations.lean ====
section
/-! DEFINITION. The statements about the TH960 model. `Does c s P` says that command c completes on s with effect P, `Writes` that
it writes exactly the given signal words, `Ready` that a timetable entry is the next to be dispatched. -/

open Sys2Proof Sys2Proof.Machine

/-! ### The queue and the machine -/

/-- The front command of the queue takes effect on the state that keeps the rest of the queue; with no command waiting one GCLK
period passes (log entry 1, the model's choice). Every command completes on every state and leaves the queue alone, so that from every
state as many steps as commands wait answer a next state with an empty queue. -/
def Obligations.StepRunsFront : Prop :=
  ((∀ (c : Instr) (rest : List Instr) (s : State), s.pending = c :: rest → core.step s = exec c { s with pending := rest }) ∧
    (∀ s : State, s.pending = [] → core.step s = .next { s with dev := s.dev.pass 1 })) ∧
  (∀ (c : Instr) (s : State), ∃ d : Dev, exec c s = .next { s with dev := d }) ∧
  (∀ s : State, ∃ t : State, core.run s.pending.length s = .next t ∧ t.pending = [])

/-- Every byte memory keeps its canonical form (addresses strictly rising, no listed zero byte) across every step. -/
def Obligations.MemoriesStayCanonical : Prop :=
  ∀ s t : State, s.dev.memsWf → core.step s = .next t → t.dev.memsWf

/-- Reading back what was written: in a canonical memory a byte, and a signal word of a lane, read as last written, and every
byte outside the written ones reads as before. What an operation in progress writes is not visible before its deadline clock and is from
then on (R77): its bytes are the difference of memory before and after it. -/
def Obligations.MemoryReadAfterWrite : Prop :=
  (∀ (m : List Host.Cell) (x : Nat) (v : Byte), memWf m = true →
    memWf (memSet m x v) = true ∧ memGet (memSet m x v) x = v ∧ ∀ a : Nat, a ≠ x → memGet (memSet m x v) a = memGet m a) ∧
  (∀ (q : LaneSt) (i : Nat) (w : SigWord), memWf q.mem = true →
    memWf (q.setSig i w).mem = true ∧ (q.setSig i w).sig i = w ∧ (∀ j : Nat, j ≠ i → (q.setSig i w).sig j = q.sig j) ∧
    ∀ a : Nat, (a < sigAddr i ∨ sigAddr i + 6 ≤ a) → memGet (q.setSig i w).mem a = memGet q.mem a) ∧
  (∀ m n : List Host.Cell, memWf m = true → memWf n = true → memPut m (memDiff m n) = n) ∧
  (∀ (q : LaneSt) (w : Late) (n : Nat), q.seq.late = [w] → w.stage = [] → w.coef = none →
    (n < w.due → q.settle false n = q) ∧
    (w.due ≤ n → q.settle false n = { q with mem := memPut q.mem w.cells, seq := { q.seq with late := [] } }))

/-! ### Timetable entries -/

/-- R49, R54, R105, R106: an entry that starts more than 64 lane clocks late, finds its unit busy, or meets a parity failure is not
started. The lane goes out with cause 0x3, 0x2 or 0x6; entry index and unit are latched for the first two; of its signal words only those
change that operations complete by then have written, what was in progress is lost, and the other lanes stay. -/
def Obligations.EntryFaults : Prop :=
  ∀ k ∈ entryCommands, ∀ (s : State) (l : Lane) (g : Img) (e : Entry) (p : Bool),
    s.dev.boot.running = some g → s.dev.entryAt l = some e → s.dev.runs l = true → k.1 g e = true →
    let q0 := s.dev.lane l
    let q := q0.seq
    let clk := s.dev.dispatchAt l e.offset
    let late := s.dev.target l e.offset + 64
    let busy := (lookupNat q.busy e.unit).getD 0
    let out := fun (cause entry unit : Nat) => Does (k.2 l p) s (fun d =>
      d.phase l = .out ∧ (d.lane l).seq.cause = cause ∧ (d.lane l).seq.fEntry = entry ∧ (d.lane l).seq.fUnit = unit ∧
      (d.lane l).seq.outCount = satInc 255 q.outCount ∧
      (d.lane l).mem = (q0.settle false clk).mem ∧ (d.lane l).seq.late = [] ∧ ∀ m : Lane, m ≠ l → d.lane m = s.dev.lane m)
    (late < clk → out 3 q.ptr e.unit) ∧
    (clk ≤ late → clk < busy → out 2 q.ptr e.unit) ∧
    (clk ≤ late → busy ≤ clk → p = true → out 6 0 0)

/-- NO_OPERATION does nothing, MARKER writes its operand to the lane trace; a deadline miss takes the lane out with cause 0x1 and the
place of the operation that missed, of which nothing is written or stays posted (R56, Table 4-5). MODE_REQUEST_ENTRY: the lane's pending
mode becomes the requested mode of the image, and a mode the image lacks changes nothing (R66, R289). GROUP_STAGING: at its deadline clock each member
of the group that the timetable owns holds the staged value, converted from its signal, and its live value is unchanged; a staging that
completes in a swap clock is not seen by that commit point (R58, R60, R65, R77). The layout of its descriptor and the conversions are the
model's choice (log entries 35 and 132). -/
def Obligations.SequencerEntries : Prop :=
  (∀ (s : State) (l : Lane) (g : Img) (e : Entry), s.dev.Ready l g e →
      (e.cls = 0x00 → Runs (.noOperation l false) s l g e id) ∧
      (e.cls = 0x01 → Runs (.marker l false) s l g e (fun d =>
        d.onSeq l (fun q => { q with trace := q.trace ++ [BitVec.ofNat 32 e.operand] })))) ∧
  (∀ (s : State) (l : Lane) (u : Nat) (w : Late), s.dev.runs l = true → (s.dev.lane l).seq.late.find? (fun x => x.unit == u) = some w →
      Does (.missedDeadline l u) s (fun d =>
        d.phase l = .out ∧ (d.lane l).seq.cause = 1 ∧ (d.lane l).seq.fEntry = w.entry ∧ (d.lane l).seq.fUnit = u ∧
        (d.lane l).seq.fMode = (s.dev.lane l).seq.mode ∧ (d.lane l).seq.late = [] ∧ (∀ m : Lane, (d.lane m).mem = (s.dev.lane m).mem) ∧
        (∀ h : Group, w.groups = [h] → (d.group h).flight.get l = ((s.dev.group h).flight.get l).dropLast) ∧
        (∀ h : Group, h ∉ w.groups → (d.group h).flight = (s.dev.group h).flight))) ∧
  (∀ (s : State) (l : Lane) (g : Img) (e : Entry), s.dev.Ready l g e →
      let q := (s.dev.begun l g e).lane l
      (e.cls = 0x02 → (g.mode (e.operand % 8)).isSome = true → Ends (.modeRequestEntry l false) s l g e (fun d =>
        (d.lane l).seq.pend = some (e.operand % 8) ∧ (d.lane l).seq.mode = q.seq.mode ∧
        (d.lane l).mem = q.mem ∧ (d.lane l).cfg = q.cfg ∧ s.dev.gd = d.gd)) ∧
      (e.cls = 0x02 → (g.mode (e.operand % 8)).isSome = false → Runs (.modeRequestEntry l false) s l g e id) ∧
      (e.cls = 0x03 → let w := stagingOf g q e.operand
        exec (.groupStaging l false) s = .next { s with dev := holdBack l e w.1 w.2 (s.dev.begun l g e) (s.dev.begun l g e) }) ∧
      (e.cls = 0x03 → ∀ p i : Nat, stagingGroup g e.operand = p → fieldHost g p = false → pidField p ≠ 0x0F0 →
        groupMembers g p = [p] → stagingSigs g e.operand = [i] → stagingOf g q e.operand = ([(p, stagedValue p (q.sig i))], none))) ∧
  (∀ (q : LaneSt) (w : Late) (n p : Nat) (v : DWord), q.seq.late = [w] → w.cells = [] → w.coef = none → w.stage = [(p, v)] →
      (w.due ≤ n → (∃ c, (q.settle false n).field p = some c ∧ c.staged = some v) ∧ (q.settle false n).mem = q.mem ∧
        ∀ f j : Nat, (q.settle false n).cfgVal f j = q.cfgVal f j) ∧
      (n ≤ w.due → q.settle true n = q))

/-! ### Signal operations (Table 7-4) -/

/-- MOVE, MIN, MAX, SEL and HOLD copy a word; AND, OR, XOR and NOT work on MANT with EXP 31; the status of R137, HOLD keeping
its old word with STALE while A is not VALID. Only OUT is written. -/
def Obligations.SignalCopiesAndLogic : Prop :=
  ∀ (s : State) (l : Lane) (g : Img) (e : Entry), s.dev.Ready l g e → e.cls = 0x09 →
    let o := sigOpOf g e.operand
    let a := ((s.dev.begun l g e).lane l).sig o.a
    let b := ((s.dev.begun l g e).lane l).sig o.b
    let c := ((s.dev.begun l g e).lane l).sig o.c
    let old := ((s.dev.begun l g e).lane l).sig o.out
    (o.op = 0x00 → Writes (.move l false) s l g e [(o.out, a)]) ∧
    (o.op = 0x07 → Writes (.min l false) s l g e [(o.out, { (if sigLt b a then b else a) with st := stOf [a, b] })]) ∧
    (o.op = 0x08 → Writes (.max l false) s l g e [(o.out, { (if sigLt a b then b else a) with st := stOf [a, b] })]) ∧
    (o.op = 0x10 → Writes (.sel l false) s l g e
      [(o.out, if sigBit a o.fbit then { b with st := stJoin a.st b.st } else { c with st := stJoin a.st c.st })]) ∧
    (o.op = 0x11 → a.st.valid = true → Writes (.hold l false) s l g e [(o.out, a)]) ∧
    (o.op = 0x11 → a.st.valid = false → Writes (.hold l false) s l g e [(o.out, { old with st := { old.st with stale := true } })]) ∧
    (o.op = 0x12 → Writes (.and l false) s l g e [(o.out, ⟨a.mant &&& b.mant, 31, stOf [a, b]⟩)]) ∧
    (o.op = 0x13 → Writes (.or l false) s l g e [(o.out, ⟨a.mant ||| b.mant, 31, stOf [a, b]⟩)]) ∧
    (o.op = 0x14 → Writes (.xor l false) s l g e [(o.out, ⟨a.mant ^^^ b.mant, 31, stOf [a, b]⟩)]) ∧
    (o.op = 0x15 → Writes (.not l false) s l g e [(o.out, ⟨~~~a.mant, 31, stOf [a]⟩)])

/-- ADD, SUB, MUL, MAC, NEG, ABS, DEADBAND, SCALE2 and SIGN: the word of the operation's value after R136 with the status of R137;
operands whose exponents differ by at most 39 (or one of which is zero) add exactly; otherwise
the bits of an operand below the accumulator are cut by an arithmetic right shift (R150). -/
def Obligations.SignalArithmetic : Prop :=
  ∀ (s : State) (l : Lane) (g : Img) (e : Entry), s.dev.Ready l g e → e.cls = 0x09 →
    let o := sigOpOf g e.operand
    let a := ((s.dev.begun l g e).lane l).sig o.a
    let b := ((s.dev.begun l g e).lane l).sig o.b
    let c := ((s.dev.begun l g e).lane l).sig o.c
    let exact := fun (x y : Int) => (x ≤ y + 39 ∧ y ≤ x + 39) ∨ a.mant = 0 ∨ b.mant = 0
    let at_ := fun (v : Dy) (m : Int) => dyFloorAt v (70 - m)
    let m2 := max (sigExp a) (sigExp b)
    let m3 := max (sigExp a + sigExp b) (sigExp c)
    let prod := dyMul (sigVal a) (sigVal b)
    let fits := (sigExp c ≤ sigExp a + sigExp b + 8 ∧ sigExp a + sigExp b ≤ sigExp c + 39) ∨ a.mant = 0 ∨ b.mant = 0 ∨ c.mant = 0
    (o.op = 0x01 → exact (sigExp a) (sigExp b) → ∃ v : Dy, dyEq v (dyAdd (sigVal a) (sigVal b)) = true ∧
      Writes (.add l false) s l g e [(o.out, mkSig v (stOf [a, b]))]) ∧
    (o.op = 0x01 → a.mant ≠ 0 → b.mant ≠ 0 →
      Writes (.add l false) s l g e [(o.out, mkSig ⟨at_ (sigVal a) m2 + at_ (sigVal b) m2, m2 - 70⟩ (stOf [a, b]))]) ∧
    (o.op = 0x02 → exact (sigExp a) (sigExp b) → ∃ v : Dy, dyEq v (dySub (sigVal a) (sigVal b)) = true ∧
      Writes (.sub l false) s l g e [(o.out, mkSig v (stOf [a, b]))]) ∧
    (o.op = 0x02 → a.mant ≠ 0 → b.mant ≠ 0 →
      Writes (.sub l false) s l g e [(o.out, mkSig ⟨at_ (sigVal a) m2 - at_ (sigVal b) m2, m2 - 70⟩ (stOf [a, b]))]) ∧
    (o.op = 0x03 → ∃ v : Dy, dyEq v prod = true ∧ Writes (.mul l false) s l g e [(o.out, mkSig v (stOf [a, b]))]) ∧
    (o.op = 0x04 → fits → ∃ v : Dy, dyEq v (dyAdd prod (sigVal c)) = true ∧
      Writes (.mac l false) s l g e [(o.out, mkSig v (stOf [a, b, c]))]) ∧
    (o.op = 0x04 → a.mant ≠ 0 → b.mant ≠ 0 → c.mant ≠ 0 →
      Writes (.mac l false) s l g e [(o.out, mkSig ⟨at_ prod m3 + at_ (sigVal c) m3, m3 - 70⟩ (stOf [a, b, c]))]) ∧
    (o.op = 0x05 → Writes (.neg l false) s l g e [(o.out, mkSig (dyNeg (sigVal a)) (stOf [a]))]) ∧
    (o.op = 0x06 → Writes (.abs l false) s l g e [(o.out, mkSig (dyAbs (sigVal a)) (stOf [a]))]) ∧
    (o.op = 0x0A → dyLe (dyAbs (sigVal a)) (dyAbs (sigVal b)) = true →
      Writes (.deadband l false) s l g e [(o.out, ⟨0, 0, stOf [a, b]⟩)]) ∧
    (o.op = 0x0A → dyLe (dyAbs (sigVal a)) (dyAbs (sigVal b)) = false → exact (sigExp a) (sigExp b) →
      ∃ v : Dy, dyEq v (if 0 < sigMant a then dySub (sigVal a) (dyAbs (sigVal b)) else dyAdd (sigVal a) (dyAbs (sigVal b))) = true ∧
        Writes (.deadband l false) s l g e [(o.out, mkSig v (stOf [a, b]))]) ∧
    (o.op = 0x0A → dyLe (dyAbs (sigVal a)) (dyAbs (sigVal b)) = false → b.mant ≠ 0 →
      Writes (.deadband l false) s l g e [(o.out, mkSig ⟨at_ (sigVal a) m2 +
        (if 0 < sigMant a then -(at_ (dyAbs (sigVal b)) m2) else at_ (dyAbs (sigVal b)) m2), m2 - 70⟩ (stOf [a, b]))]) ∧
    (o.op = 0x0B → a.mant ≠ 0 → -128 ≤ sigExp a + o.imm → sigExp a + o.imm ≤ 127 →
      Writes (.scale2 l false) s l g e [(o.out, ⟨a.mant, BitVec.ofInt 8 (sigExp a + o.imm), stOf [a]⟩)]) ∧
    (o.op = 0x0B → (a.mant = 0 ∨ sigExp a + o.imm < -128) → Writes (.scale2 l false) s l g e [(o.out, ⟨0, 0, stOf [a]⟩)]) ∧
    (o.op = 0x0B → a.mant ≠ 0 → 127 < sigExp a + o.imm → Writes (.scale2 l false) s l g e
      [(o.out, ⟨if sigMant a < 0 then 0x80000000 else 0x7FFFFFFF, 127, { stOf [a] with limited := true }⟩)]) ∧
    (o.op = 0x0C → Writes (.sign l false) s l g e [(o.out, sigInt (sigMant a).sign (stOf [a]))])

/-- LIMIT, RATECMP, CMP and HYST. LIMIT gives A within B to C, else the limit it breaks with LIMITED; RATECMP writes its flag to
OUT and then a copy of A to C; CMP compares exactly; HYST sets above B, clears below C and keeps its word between. -/
def Obligations.SignalTests : Prop :=
  ∀ (s : State) (l : Lane) (g : Img) (e : Entry), s.dev.Ready l g e → e.cls = 0x09 →
    let o := sigOpOf g e.operand
    let a := ((s.dev.begun l g e).lane l).sig o.a
    let b := ((s.dev.begun l g e).lane l).sig o.b
    let c := ((s.dev.begun l g e).lane l).sig o.c
    let st3 := stOf [a, b, c]
    (o.op = 0x09 → sigLe b a = true → sigLe a c = true → Writes (.limit l false) s l g e [(o.out, { a with st := st3 })]) ∧
    (o.op = 0x09 → sigLe b c = true → sigLt a b = true →
      Writes (.limit l false) s l g e [(o.out, { b with st := { st3 with limited := true } })]) ∧
    (o.op = 0x09 → sigLe b c = true → sigLt c a = true →
      Writes (.limit l false) s l g e [(o.out, { c with st := { st3 with limited := true } })]) ∧
    (o.op = 0x09 → sigLt c b = true → Writes (.limit l false) s l g e [(o.out, { c with st := { st3 with limited := true } })]) ∧
    (o.op = 0x0D → Writes (.ratecmp l false) s l g e
      [(o.out, sigFlag (dyLt (sigVal b) (dyAbs (dySub (sigVal a) (sigVal c)))) st3), (o.c, a)]) ∧
    (o.op = 0x0E → Writes (.cmp l false) s l g e [(o.out, sigFlag
      (match o.cond with | 0 => sigEq a b | 1 => !sigEq a b | 2 => sigLt a b | 3 => sigLe a b | 4 => sigLt b a | 5 => sigLe b a
                         | _ => false) (stOf [a, b]))]) ∧
    (o.op = 0x0F → sigLt b a = true → Writes (.hyst l false) s l g e [(o.out, sigFlag true st3)]) ∧
    (o.op = 0x0F → sigLe a b = true → sigLt a c = true → Writes (.hyst l false) s l g e [(o.out, sigFlag false st3)]) ∧
    (o.op = 0x0F → sigLe a b = true → sigLe c a = true → Writes (.hyst l false) s l g e [(o.out, ((s.dev.begun l g e).lane l).sig o.out)])

/-- LOOKUP_1D and LOOKUP_2D (R152, R153). Below the first point the first value is given with LIMITED, above the last the last;
between two points the value is interpolated with the fraction f cut to 2^-24; a 2-D lookup interpolates two rows along x,
each rounded, and then along y. -/
def Obligations.Lookups : Prop :=
  ∀ (s : State) (l : Lane) (g : Img) (e : Entry), s.dev.Ready l g e →
    let x := e.operand
    let w1 := g.desc x 1
    let w2 := g.desc x 2
    let v := ((s.dev.begun l g e).lane l).sig (dw w1 63 49)
    let n := dw w1 33 25
    let u := dyScale (dySub (sigVal v) (sigVal (constSig w2))) (-(signedBits (dw w1 24 17) 8))
    let y := fun (i : Nat) (f : Int) =>
      (⟨tabVal g x 3 i * 2 ^ 24 + f * (tabVal g x 3 (i + 1) - tabVal g x 3 i), signedBits (dw w1 16 9) 8 - 55⟩ : Dy)
    (e.cls = 0x0A → dyLt u dyZero = true →
      Writes (.lookup1d l false) s l g e [(dw w1 48 34, mkSig (y 0 0) { v.st with limited := true })]) ∧
    (e.cls = 0x0A → dyLt u dyZero = false → dyLt (dyInt ((n : Int) - 1)) u = true →
      Writes (.lookup1d l false) s l g e [(dw w1 48 34, mkSig (y (n - 2) (2 ^ 24)) { v.st with limited := true })]) ∧
    (e.cls = 0x0A → dyLt u dyZero = false → dyLt (dyInt ((n : Int) - 1)) u = false →
      Writes (.lookup1d l false) s l g e [(dw w1 48 34,
        mkSig (y (min (dyFloor u).toNat (n - 2)) (dyFloorAt (dySub u (dyInt (min (dyFloor u).toNat (n - 2) : Nat))) 24)) v.st)]) ∧
    (e.cls = 0x0B → ∃ (ix iy : Nat) (fx fy : Int) (cx cy : Bool),
      lookAxis v (constSig (g.desc x 3)) (signedBits (dw w2 63 56) 8) (dw w1 18 13) = (ix, fx, cx) ∧
      lookAxis (((s.dev.begun l g e).lane l).sig (dw w1 48 34)) (constSig (g.desc x 4)) (signedBits (dw w2 55 48) 8) (dw w1 12 7) = (iy, fy, cy) ∧
      let nx := dw w1 18 13
      let row := fun (j : Nat) => dyRound ⟨tabVal g x 5 (j * nx + ix) * 2 ^ 24 +
        fx * (tabVal g x 5 (j * nx + ix + 1) - tabVal g x 5 (j * nx + ix)), -24⟩
      let st := stOf [v, ((s.dev.begun l g e).lane l).sig (dw w1 48 34)]
      Writes (.lookup2d l false) s l g e [(dw w1 33 19,
        mkSig ⟨row iy * 2 ^ 24 + fy * (row (iy + 1) - row iy), signedBits (dw w2 47 40) 8 - 55⟩
          { st with limited := st.limited || (cx || cy) })])

/-- R136, for the exact value v of a result. A zero result is the word zero. Otherwise there is an exponent e at which v in units of
2^(e-31) lies in normal form before rounding; the mantissa is v rounded at e with ties upward; a mantissa that rounding carries to
2^31, or to -2^30 at an exponent above -128, is written in normal form at the neighbouring exponent; above EXP 127 the word saturates
by sign with LIMITED, below EXP -128 the result is zero and no flag is set. Every result is in normal form (MANT and EXP zero, or
MANT[31] different from MANT[30]) but the one word MANT 0xC0000000 at EXP -128. -/
def Obligations.ResultsAreNormal : Prop :=
  ∀ (v : Dy) (st : Status),
    let w := mkSig v st
    let fits := fun (e : Int) =>
      (dyLe ⟨2 ^ 30, e - 31⟩ v = true ∧ dyLt v ⟨2 ^ 31, e - 31⟩ = true) ∨
      (dyLe ⟨-(2 ^ 31), e - 31⟩ v = true ∧ dyLt v ⟨-(2 ^ 30), e - 31⟩ = true)
    (dyIsZero v = true → w = ⟨0, 0, st⟩) ∧
    (dyIsZero v = false → ∃ e : Int, fits e) ∧
    (∀ e : Int, fits e →
      let m := dyRoundAt v (31 - e)
      let p : Int × Int := if m = 2 ^ 31 then (2 ^ 30, e + 1) else if m = -(2 ^ 30) ∧ e ≠ -128 then (-(2 ^ 31), e - 1) else (m, e)
      w = if 127 < p.2 then ⟨if m < 0 then 0x80000000 else 0x7FFFFFFF, 127, { st with limited := true }⟩
        else if p.2 < -128 then ⟨0, 0, st⟩ else ⟨BitVec.ofInt 32 p.1, BitVec.ofInt 8 p.2, st⟩) ∧
    ((w.mant = 0 ∧ w.exp = 0) ∨ w.mant.getLsbD 31 ≠ w.mant.getLsbD 30 ∨ (w.mant = 0xC0000000 ∧ w.exp = 0x80))

/-! ### Stages, loops, fields -/

/-- STAGE_EVALUATION (R145, R146): OUT holds the section chain's output at the stage's exponent as it stood, with the input's status
and LIMITED when any step clipped; the block holds the new exponent; no byte outside the block and OUT changes. R146: an evaluation moves the stage exponent by at most one and keeps it within EXP_MIN to EXP_MAX; the output and every section
state are 32-bit words; EXP_CEIL is raised only when the exponent already stood at EXP_MAX. -/
def Obligations.StageEvaluation : Prop :=
  (∀ (s : State) (l : Lane) (g : Img) (e : Entry), s.dev.Ready l g e → e.cls = 0x08 →
      let t := stageOf g e.operand
      let q := (s.dev.begun l g e).lane l
      let r := stageOf_eval q t
      let w := q.sig t.inp
      memWf q.mem = true → t.addr % 8 = 0 → (t.addr + 8 + 8 * t.n ≤ sigAddr t.out ∨ sigAddr t.out + 6 ≤ t.addr) →
      Ends (.stageEvaluation l false) s l g e (fun d =>
        (d.lane l).sig t.out = ⟨BitVec.ofInt 32 r.y, memGet q.mem t.addr, { w.st with limited := w.st.limited || r.sat }⟩ ∧
        memGet (d.lane l).mem t.addr = BitVec.ofInt 8 r.e ∧
        (∀ a : Nat, (a < t.addr ∨ t.addr + 8 + 8 * t.n ≤ a) → (a < sigAddr t.out ∨ sigAddr t.out + 6 ≤ a) →
          memGet (d.lane l).mem a = memGet q.mem a) ∧
        (d.lane l).cfg = q.cfg ∧ (∀ m : Lane, m ≠ l → d.lane m = s.dev.lane m) ∧ d.vot = s.dev.vot ∧ s.dev.SameOutside d)) ∧
  (∀ (c : CoefRec) (base : Nat) (w : SigWord) (gain e lo hi : Int) (st : List (Int × Int)), lo ≤ e → e ≤ hi → st ≠ [] →
      let r := stageEval c base w gain e lo hi st
      lo ≤ r.e ∧ r.e ≤ hi ∧ e - 1 ≤ r.e ∧ r.e ≤ e + 1 ∧ r.st.length = st.length ∧
      (-(2 ^ 31) ≤ r.y ∧ r.y < 2 ^ 31) ∧ (∀ p ∈ r.st, -(2 ^ 31) ≤ p.1 ∧ p.1 < 2 ^ 31 ∧ -(2 ^ 31) ≤ p.2 ∧ p.2 < 2 ^ 31) ∧
      (r.ceil = true → e = hi ∧ r.e = hi))

/-- LOOP_CLOSE (R157 to R159): the target is the tracking value while tracking, else the feedback that is LIMITED, else the held
output at a bank change that is bumpless, else Y; OUT is the target limited to LO and HI; when anything held OUT away from Y the
integrator moves by the difference. The bank-change latch of the loop is cleared (R162). -/
def Obligations.LoopClose : Prop :=
  ∀ (s : State) (l : Lane) (g : Img) (e : Entry), s.dev.Ready l g e → e.cls = 0x0C →
    let t := loopOf g e.operand
    let q := (s.dev.begun l g e).lane l
    let a := t.addr + 8 + 8 * t.sec
    let flag := q.sig t.trkFlag
    let val := q.sig t.trkVal
    let lo := q.cfgSig 0x021 t.loop
    let hi := q.cfgSig 0x020 t.loop
    let want := t.trkEn = true ∧ (flag.st.valid = false ∨ sigBit flag t.fbit = t.pol)
    let lim := fun (w : SigWord) => opLimit w lo hi
    let ends := fun (w : SigWord) => Ends (.loopClose l false) s l g e (fun d =>
      (∃ st : Status, (d.lane l).sig t.out = mkSig (sigVal (lim w)) st ∧ st.valid = (lim w).st.valid) ∧
      (t.intEn = true → signedBits (memWord (d.lane l).mem a) 32 =
        (clip32 (signedBits (memWord q.mem a) 32 +
          dyRound (dyScale (dySub (sigVal (lim w)) (sigVal (q.sig t.y))) (31 - (memGet q.mem t.addr).toInt)))).1) ∧
      (d.lane l).bankL = q.bankL.filter (fun b => b != t.loop) ∧
      (∀ x : Nat, (x < sigAddr t.out ∨ sigAddr t.out + 6 ≤ x) → (t.intEn = false ∨ x < a ∨ a + 4 ≤ x) →
        memGet (d.lane l).mem x = memGet q.mem x) ∧ s.dev.SameOutside d)
    memWf q.mem = true → t.addr % 8 = 0 → (a + 4 ≤ sigAddr t.out ∨ sigAddr t.out + 6 ≤ a) →
    (want → val.st.valid = true → ends val) ∧
    (¬(want ∧ val.st.valid = true) → t.fbEn = true → (q.sig t.fb).st.limited = true →
      ends { q.sig t.fb with st := { stOf [q.sig t.fb, q.sig t.y] with limited := true } }) ∧
    (¬(want ∧ val.st.valid = true) → (t.fbEn = false ∨ (q.sig t.fb).st.limited = false) →
      t.bankBl = true → q.bankL.contains t.loop = true →
      ends { q.sig t.out with st := stOf [q.sig t.out, q.sig t.y] }) ∧
    (¬(want ∧ val.st.valid = true) → (t.fbEn = false ∨ (q.sig t.fb).st.limited = false) →
      (t.bankBl = false ∨ q.bankL.contains t.loop = false) → ends (q.sig t.y))

/-- FORWARD_TRANSFORM and INVERSE_TRANSFORM of one three-phase set (R168, R169): d, q and zero component of the phase currents at the
angle, and with decoupling off the phase voltages of (d, q); every word carries the status of R137. A dispatch writes these words
only; in paired operation the words of `forwardOut` and `inverseOut`. -/
def Obligations.Transforms : Prop :=
  ∀ (s : State) (l : Lane) (g : Img) (e : Entry), s.dev.Ready l g e →
    let q := (s.dev.begun l g e).lane l
    let x := e.operand
    let w1 := g.desc x 1
    let w2 := g.desc x 2
    let w3 := g.desc x 3
    let a := q.sig (idx15 w1 63 0)
    let b := q.sig (idx15 w1 63 1)
    let c := q.sig (idx15 w1 63 2)
    let d := q.sig (idx15 w1 63 3)
    (e.cls = 0x10 → w1.getLsbD 3 = false → w1.getLsbD 2 = true →
      let st := stOf [a, b, c, d]
      let al := rd (dyMul (dySub (dySub (dyScale (sigVal a) 1) (sigVal b)) (sigVal c)) cThird)
      let be := rd (dyMul (dySub (sigVal b) (sigVal c)) cInvSqrt3)
      let sn : Dy := ⟨sin30 (dyFloorAt (sigVal d) 24), -30⟩
      let cs : Dy := ⟨cos30 (dyFloorAt (sigVal d) 24), -30⟩
      Writes (.forwardTransform l false) s l g e
        [(idx15 w2 63 0, mkSig (dyAdd (dyMul al cs) (dyMul be sn)) st), (idx15 w2 63 1, mkSig (dySub (dyMul be cs) (dyMul al sn)) st),
         (idx15 w2 63 2, mkSig (rd (dyMul (dyAdd (dyAdd (sigVal a) (sigVal b)) (sigVal c)) cThird)) st)]) ∧
    (e.cls = 0x10 → Writes (.forwardTransform l false) s l g e (forwardOut g x q)) ∧
    (e.cls = 0x11 → w1.getLsbD 3 = false → w1.getLsbD 2 = false →
      let st := stOf [a, b, c]
      let sn : Dy := ⟨sin30 (dyFloorAt (sigVal c) 24), -30⟩
      let cs : Dy := ⟨cos30 (dyFloorAt (sigVal c) 24), -30⟩
      let vd := rd (dyAdd (sigVal a) (sigVal sigZeroOk))
      let vq := rd (dyAdd (sigVal b) (sigVal sigZeroOk))
      let al := rd (dySub (dyMul vd cs) (dyMul vq sn))
      let be := rd (dyAdd (dyMul vd sn) (dyMul vq cs))
      Writes (.inverseTransform l false) s l g e
        [(idx15 w2 63 2, sigZeroOk), (idx15 w2 63 3, sigZeroOk), (idx15 w3 63 0, mkSig al st),
         (idx15 w3 63 1, mkSig (dyAdd (dyScale (dyNeg al) (-1)) (dyMul cSqrt3Half be)) st),
         (idx15 w3 63 2, mkSig (dySub (dyScale (dyNeg al) (-1)) (dyMul cSqrt3Half be)) st)]) ∧
    (e.cls = 0x11 → Writes (.inverseTransform l false) s l g e (inverseOut g x (e.unit - 8) q))

/-- MODULATION of any form: the words, the latched state and the counts that `modulate` gives, the state latched for FCU1 too in paired
operation (R183). Which effective state the FCU takes (Table 9-5: a reaction to latched legs first, then a silent unit, then STATE, then
VDC), and outside RUN the limited feedback words are zero with LIMITED and depth and maximum are zero (R174). In RUN a duty lies
between 0 and d_hi and below 1, whatever the voltages (R170 to R173). -/
def Obligations.Modulation : Prop :=
  (∀ (s : State) (l : Lane) (g : Img) (e : Entry), s.dev.Ready l g e → e.cls = 0x12 →
    let d0 := s.dev.begun l g e
    let q := d0.lane l
    let f := e.unit - 8
    let r := modulate d0 g e.operand f q (modCfg d0 q f (modPeriod d0 q f e.offset))
    f < q.fcu.length → 1 < q.fcu.length →
    Ends (.modulation l false) s l g e (fun d =>
      (d.lane l).fcuAt f = r.fcu ∧ (r.fcu.pair = true → (d.lane l).fcuAt 1 = r.fcu) ∧
      (∀ k : Nat, k ≠ f → (r.fcu.pair = false ∨ k ≠ 1) → (d.lane l).fcuAt k = q.fcuAt k) ∧
      (d.lane l).mem = (q.setSigs r.words).mem ∧ (∀ m : Lane, m ≠ l → d.lane m = s.dev.lane m) ∧
      d.vot = s.dev.vot ∧ s.dev.SameOutside d)) ∧
  (∀ (d : Dev) (g : Img) (x f : Nat) (q : LaneSt) (cfg : ModCfg),
    let pair := (g.desc x 1).getLsbD 3
    let silent := pair && (d.unitSilent 0 || d.unitSilent 1)
    let state := q.sig (idx15 (g.desc x 2) 63 3)
    let vdc := q.sig (idx15 (g.desc x 1) 63 3)
    let w4 := g.desc x 4
    let w5 := g.desc x 5
    let zeroL : SigWord := ⟨0, 0, { Status.ok with limited := true }⟩
    let out := [(idx15 w5 63 0, zeroL), (idx15 w5 63 1, zeroL)] ++
      (if pair then [(idx15 (g.desc x 9) 63 1, zeroL), (idx15 (g.desc x 9) 63 2, zeroL)] else []) ++
      [(idx15 w4 63 3, sigZeroOk), (idx15 w5 63 2, sigZeroOk)]
    let r := modulate d g x f q cfg
    let is := fun (eff row : Nat) => r.fcu.eff = eff ∧ r.fcu.row = row ∧ r.fcu.pair = pair ∧ (eff ≠ 0 → r.words = out)
    (d.react q f pair = some (1, 1) → is 1 1) ∧
    (d.react q f pair ≠ some (1, 1) → silent = true → is 1 2) ∧
    (∀ eff : Nat, eff ≠ 0 → d.react q f pair = some (3, eff) → silent = false → is eff 3) ∧
    (d.react q f pair = none → silent = false → carriesIn state 0 3 = none → is 1 4) ∧
    (∀ n : Nat, d.react q f pair = none → silent = false → carriesIn state 0 3 = some ((n : Int) + 1) → is (n + 1) 5) ∧
    (d.react q f pair = none → silent = false → carriesIn state 0 3 = some 0 → (vdc.st.valid = false ∨ dyLe (sigVal vdc) dyZero = true) → is 1 6) ∧
    (d.react q f pair = none → silent = false → carriesIn state 0 3 = some 0 → vdc.st.valid = true → dyLt dyZero (sigVal vdc) = true → is 0 7)) ∧
  (∀ (c : ModCfg) (vdc v v0 i dt : Dy), dyLe dyZero (dHi c) = true → dyLe (dHi c) dyOne = true →
    let r := dutyOf c vdc v v0 i dt
    0 ≤ r.k ∧ r.k ≤ 2 ^ 24)

/-- PWM_COMPARE_WRITE to a channel of an FCU (R178, Table 9-6): in RUN the pair lies h to either side of the middle of the target
period, a duty of 0 staying low and a duty of 1 staying high; in another state both events stand in the middle with that state's leg;
an invalid duty turns the leg off; in PROBE the pulse of R201. A write with PHASE 1 and no half periods changes nothing (R182). A
converter channel that runs places the pair with its shift, one that does not run or has an invalid duty is off (R205, R207). -/
def Obligations.CompareWrite : Prop :=
  ∀ (s : State) (l : Lane) (g : Img) (e : Entry), s.dev.Ready l g e → e.cls = 0x20 →
    let w1 := g.desc e.operand 1
    let ch := dw w1 48 43
    let q := (s.dev.begun l g e).lane l
    let duty := q.sig (dw w1 63 49)
    let u := unitOfCh ch
    let f := q.fcuMaster u
    let d0 := s.dev.begun l g e
    let phase := w1.getLsbD 42
    let per := if phase then d0.periodHalf else d0.periodNext q 0x038 f
    let n := per.fine
    let mid := 8 * per.start + n / 2
    let k := dyRoundAt (dyMax dyZero (dyMin dyOne (sigVal duty))) 24
    let h := (k * n + 2 ^ 24) / 2 ^ 25
    let gives := fun (ev : Ev × Ev) => Ends (.pwmCompareWrite l false) s l g e (fun d =>
      lookupNat (d.lane l).pwm ch = some ev ∧ (∀ c : Nat, c ≠ ch → lookupNat (d.lane l).pwm c = lookupNat q.pwm c) ∧
      (d.lane l).mem = q.mem ∧ (∀ m : Lane, m ≠ l → d.lane m = s.dev.lane m) ∧ d.vot = s.dev.vot ∧ s.dev.SameOutside d)
    (phase = true → (u < 8 ∨ 10 < u) → q.cfgInt 0x038 f ≠ 1 → Runs (.pwmCompareWrite l false) s l g e id) ∧
    (phase = true → 8 ≤ u → u ≤ 10 → q.cfgInt 0x0A1 (u - 8) ≠ 1 → Runs (.pwmCompareWrite l false) s l g e id) ∧
    ((phase = false ∨ q.cfgInt 0x038 f = 1) → (u < 8 ∨ 10 < u) →
      ((q.obsAt f).lol = .probe → gives (eventsProbe (8 * per.start) n)) ∧
      ((q.obsAt f).lol ≠ .probe → duty.st.valid = false → gives (⟨mid, 0, false⟩, ⟨mid, 0, false⟩)) ∧
      ((q.obsAt f).lol ≠ .probe → duty.st.valid = true → (q.fcuAt f).eff = 0 →
        gives (⟨((mid : Int) - h).toNat, if k = 0 then 1 else 2, false⟩, ⟨((mid : Int) + h).toNat, if k = 2 ^ 24 then 2 else 1, false⟩)) ∧
      ((q.obsAt f).lol ≠ .probe → duty.st.valid = true → (q.fcuAt f).eff = 1 → gives (⟨mid, 0, false⟩, ⟨mid, 0, false⟩)) ∧
      ((q.obsAt f).lol ≠ .probe → duty.st.valid = true → (q.fcuAt f).eff = 2 → gives (⟨mid, 1, false⟩, ⟨mid, 1, false⟩)) ∧
      ((q.obsAt f).lol ≠ .probe → duty.st.valid = true → (q.fcuAt f).eff = 3 → gives (⟨mid, 2, false⟩, ⟨mid, 2, false⟩))) ∧
    ((phase = false ∨ q.cfgInt 0x0A1 (u - 8) = 1) → 8 ≤ u → u ≤ 10 →
      let p := if phase then d0.periodHalf else d0.periodNext q 0x0A1 (u - 8)
      ((pcRuns d0 q u = false ∨ duty.st.valid = false) →
        gives (⟨8 * p.start + p.fine / 2, 0, false⟩, ⟨8 * p.start + p.fine / 2, 0, false⟩)) ∧
      (pcRuns d0 q u = true → duty.st.valid = true → gives (pcEvents q u ch p duty).1))

/-- GATE_EVENT_POST and EDGE_EVENT_POST (R179, R180, R95): each selected channel that holds a pending pair posts its two events, in
order, as words of Table 5-2 with launch, fine time, item and leg and consecutive TAGs; a channel without a pair and one that is not
selected post nothing. PARK_LOCK_COMMAND (Table 9-11, R184, R229): with no latched park-lock leg the command word 1, 2 or 3 with a VALID duty gives
RELEASE (HB9 pulses, HB19 low), ENGAGE (HB19 pulses, HB9 low) or BRAKE (both low); anything else is OFF, both legs off in the middle of
the next fast cycle. -/
def Obligations.EventPosts : Prop :=
  (∀ (s : State) (l : Lane) (g : Img) (e : Entry), s.dev.Ready l g e →
      let q := (s.dev.begun l g e).lane l
      let word := fun (ch tag : Nat) (ev : Ev) (second : Nat) =>
        ({ tag := BitVec.ofNat 8 (s.dev.time.fcCount % 4 * 64 + tag % 64), launch := BitVec.ofNat 32 (ev.t / 8), fine := BitVec.ofNat 3 ev.t,
           item := BitVec.ofNat 5 (if ch < 20 then itemOfHb ch else itemOfEdge (ch - 20)), value := BitVec.ofNat 24 (4 * second + ev.leg),
           data := [] } : VWord)
      let grp := fun (ch : Nat) => if ch < 20 then Group.gate ch else Group.edge (ch - 20)
      let posts := fun (c : Instr) (chans : List Nat) =>
        (∀ ch ∈ chans, ((s.dev.group (grp ch)).flight.get l).length ≤ 14) → Ends c s l g e (fun d =>
          (∀ ch ∈ chans, ∀ a b : Ev, lookupNat q.pwm ch = some (a, b) →
            (d.group (grp ch)).flight.get l = (s.dev.group (grp ch)).flight.get l ++
              [word ch (q.postCount (grp ch)) a 0, word ch (q.postCount (grp ch) + 1) b 1]) ∧
          (∀ ch : Nat, ch < 44 → (ch ∉ chans ∨ lookupNat q.pwm ch = none) → d.group (grp ch) = s.dev.group (grp ch)) ∧
          (d.lane l).mem = q.mem ∧ (d.lane l).pwm = q.pwm ∧ (∀ m : Lane, m ≠ l → d.lane m = s.dev.lane m) ∧ s.dev.SameOutside d)
      (e.cls = 0x21 → e.unit = 0x22 → posts (.gateEventPost l false) ((List.range 10).filter (fun i => (g.desc e.operand 1).getLsbD (40 + i)))) ∧
      (e.cls = 0x21 → e.unit = 0x23 → posts (.gateEventPost l false)
        (((List.range 10).filter (fun i => (g.desc e.operand 1).getLsbD (40 + i))).map (10 + ·))) ∧
      (e.cls = 0x22 → posts (.edgeEventPost l false)
        (((List.range 24).filter (fun i => (g.desc e.operand 1).getLsbD (40 + i))).map (20 + ·)))) ∧
  (∀ (s : State) (l : Lane) (g : Img) (e : Entry), s.dev.Ready l g e → e.cls = 0x35 →
      let w1 := g.desc e.operand 1
      let q := (s.dev.begun l g e).lane l
      let cmd := q.sig (dw w1 63 49)
      let duty := q.sig (dw w1 48 34)
      let latched := s.dev.gd.pLatch.any (fun x => x.1 == 9 || x.1 == 19)
      let at_ := fun (leg : Nat) => ((⟨8 * s.dev.nextFc + 4 * s.dev.tf, leg, false⟩, ⟨8 * s.dev.nextFc + 4 * s.dev.tf, leg, false⟩) : Ev × Ev)
      let pulse := eventsRun (8 * s.dev.nextFc) (8 * s.dev.tf) (parkDuty s.dev.tf duty) 0
      let ends := fun (c : Nat) (hb9 hb19 : Ev × Ev) => Ends (.parkLockCommand l false) s l g e (fun d =>
        (d.lane l).park = c ∧ lookupNat (d.lane l).pwm 9 = some hb9 ∧ lookupNat (d.lane l).pwm 19 = some hb19 ∧
        (∀ ch : Nat, ch ≠ 9 → ch ≠ 19 → lookupNat (d.lane l).pwm ch = lookupNat q.pwm ch) ∧ (d.lane l).mem = q.mem ∧
        (∀ m : Lane, m ≠ l → d.lane m = s.dev.lane m) ∧ d.vot = s.dev.vot ∧ s.dev.SameOutside d)
      (latched = true → ends 0 (at_ 0) (at_ 0)) ∧
      (latched = false → carriesIn cmd 1 3 = none → ends 0 (at_ 0) (at_ 0)) ∧
      (latched = false → carriesIn cmd 1 3 = some 1 → duty.st.valid = true → ends 1 pulse (at_ 1)) ∧
      (latched = false → carriesIn cmd 1 3 = some 2 → duty.st.valid = true → ends 2 (at_ 1) pulse) ∧
      (latched = false → carriesIn cmd 1 3 = some 1 ∨ carriesIn cmd 1 3 = some 2 → duty.st.valid = false → ends 0 (at_ 0) (at_ 0)) ∧
      (latched = false → carriesIn cmd 1 3 = some 3 → ends 3 (at_ 1) (at_ 1)))

/-! ### Position -/

/-- OBSERVER_STEP runs the unit's step on the state it held, at the valley its run samples (R201): the unit keeps the new state and the
step's words are written, the state block after them; another unit and another lane keep theirs. With LOL_EN clear the sequence stays
NORMAL, TQ_SCALE is 1 and STATE_OUT copies STATE_IN. The source is chosen as R197 says, and the sequence moves as Table 10-5 lists.
ACQ_TIMEOUT (R199, R202): a unit in PROBE goes to FAILED with that state's outputs, unless a row listed before holds, which the next run
takes; the other units stay. -/
def Obligations.ObserverStep : Prop :=
  ((∀ (s : State) (l : Lane) (g : Img) (e : Entry), s.dev.Ready l g e → e.cls = 0x13 →
      (∀ m : Lane, s.dev.hubQueueFull m = false) →
      let f := e.unit - 0x10
      let x := e.operand
      let d0 := s.dev.begun l g e
      let q := d0.lane l
      let per := modPeriod d0 q f e.offset
      let valley := if q.cfgInt 0x038 f = 1 ∧ d0.tf / 2 ≤ e.offset % d0.tf then d0.fcStart + d0.tf / 2 else d0.fcStart
      let r := obsRun g x f q (q.obsAt f) q.seq.mode e.offset d0.gt valley (per.start + per.fine / 8) per.fine
      f < q.obs.length →
      Ends (.observerStep l false) s l g e (fun d =>
        (d.lane l).obsAt f = r.o ∧ (∀ k : Nat, k ≠ f → (d.lane l).obsAt k = (s.dev.lane l).obsAt k) ∧
        (d.lane l).mem = laneWrite (q.setSigs r.words).mem (obsDescOf g x).addr (obsBytes r.o) ∧
        (∀ m : Lane, m ≠ l → d.lane m = s.dev.lane m) ∧ d.vot = s.dev.vot ∧ s.dev.SameOutside d) ∧
      ((obsDescOf g x).lolEn = false → r.o.lol = .normal ∧ r.o.tq = mkSig dyOne Status.ok ∧
        r.words.take 2 = [((obsDescOf g x).stateOut, q.sig (obsDescOf g x).stateIn), ((obsDescOf g x).tq, mkSig dyOne Status.ok)])) ∧
    (∀ (src : Nat) (sens locked : Bool), (chooseSource src sens locked = 0 ↔ src ≠ 2 ∧ sens = true) ∧
      (chooseSource src sens locked = 1 ↔ (src = 2 ∨ sens = false) ∧ src ≠ 1 ∧ locked = true)) ∧
    (∀ (o : ObsSt) (x : LolIn),
      (o.lol = .normal → x.zero = true → x.src = false → lolNext o x = .ramp) ∧
      (o.lol = .normal → (x.zero = false ∨ x.src = true) → lolNext o x = .normal) ∧
      (o.lol = .probe → x.zero = false → lolNext o x = .normal) ∧
      (o.lol = .probe → x.zero = true → (x.sens = true ∨ x.probed = true) → lolNext o x = .release) ∧
      (o.lol = .probe → x.zero = true → x.sens = false → x.probed = false → x.timeout = true → lolNext o x = .failed) ∧
      (o.lol = .failed → (x.zero = false ∨ x.wasNz = false) → lolNext o x = .failed) ∧
      (lolNext o x = .failed → o.lol = .failed ∨ o.lol = .probe))) ∧
  (∀ (s : State) (l : Lane) (f : Nat) (t : ObsDesc), f < 8 → f < (s.dev.lane l).obs.length → ((s.dev.lane l).obsAt f).lol = .probe →
      s.dev.runs l = true → s.dev.img.observer f = some t → (∀ m : Lane, s.dev.hubQueueFull m = false) →
      let q := s.dev.lane l
      let o := q.obsAt f
      let waits := carriesIn (q.sig t.stateIn) 0 3 = some 0 ∧ usable q t o = false
      (waits → Does (.acqTimeout l f) s (fun d =>
        (d.lane l).obsAt f = { o with lol := .failed, srcRuns := 0, tq := sigZeroOk } ∧
        (∀ k : Nat, k ≠ f → (d.lane l).obsAt k = q.obsAt k) ∧
        (d.lane l).mem = laneWrite (q.setSigs [(t.stateOut, sigInt 1 Status.ok), (t.tq, sigZeroOk), (t.blend, sigFlag true Status.ok)]).mem
          t.addr (obsBytes ((d.lane l).obsAt f)) ∧
        (∀ m : Lane, m ≠ l → d.lane m = s.dev.lane m) ∧ d.vot = s.dev.vot ∧ s.dev.SameOutside d)) ∧
      (¬ waits → Does (.acqTimeout l f) s (fun d => d.lanes = s.dev.lanes ∧ d.vot = s.dev.vot ∧ s.dev.SameOutside d)))

/-- RESOLVER_READ writes the angle of PP electrical periods plus ANG_OFF and PP times the speed, VALID unless the channel is faulty
(R191). RDC_UPDATE: at the channel's next sample pair an amplitude out of band or an excitation fault makes the channel faulty, and a
faulty channel clears only after 16 good updates; the pair joins the 256 that the averages take (R189, R190). Before release there is no
excitation and no update. -/
def Obligations.Resolvers : Prop :=
  (∀ (s : State) (l : Lane) (g : Img) (e : Entry), s.dev.Ready l g e → e.cls = 0x19 →
    let w1 := g.desc e.operand 1
    let q := (s.dev.begun l g e).lane l
    let r := q.rdcAt (e.unit - 0x1C)
    let pp := dw w1 33 30 + 1
    let off := q.cfgDy 0x055 (e.unit - 0x1C)
    let st : Status := ⟨!r.fault, false, false, false⟩
    let ang := BitVec.ofInt 32 ((2 * ((pp * r.theta.toNat : Nat) * (dyDen off : Int) + dyNum off * 2 ^ 32) * 2 ^ 32 +
      (2 ^ 32 * dyDen off : Nat)) / (2 * ((2 ^ 32 * dyDen off : Nat) : Int)))
    Writes (.resolverRead l false) s l g e
      [(dw w1 63 49, ⟨ang, 0xFF, st⟩), (dw w1 48 34, mkSig (dyMul (dyInt pp) (sigVal r.speed)) st)]) ∧
  (∀ (s : State) (l : Lane) (ch : Nat) (sinV cosV : Int), ch < 4 → ch < (s.dev.lane l).rdc.length → (s.dev.lane l).seq.phase ≠ .off →
    let q := s.dev.lane l
    (s.dev.boot.released = true → Does (.rdcUpdate l ch sinV cosV) s (fun d =>
      let a := q.rdcAt ch
      let b := (d.lane l).rdcAt ch
      ((ampBad q l ch sinV cosV = true ∨ s.dev.gd.pExc.contains (ch / 2) = true) → b.fault = true ∧ b.good = 0) ∧
      (a.fault = true → b.fault = false → 15 ≤ a.good) ∧ (a.good ≤ 16 → b.good ≤ a.good + 1) ∧
      (∃ x : Nat × Int, b.hist = (x :: a.hist).take 256) ∧ b.at_ = nextPair s.dev l ch ∧
      (∀ k : Nat, k ≠ ch → (d.lane l).rdcAt k = q.rdcAt k) ∧ (d.lane l).mem = q.mem ∧ (d.lane l).seq = q.seq ∧
      (∀ m : Lane, m ≠ l → d.lane m = s.dev.lane m) ∧ d.vot = s.dev.vot ∧ s.dev.SameOutside d)) ∧
    (s.dev.boot.released = false → exec (.rdcUpdate l ch sinV cosV) s = .next s))

/-- ENCODER_HALL_READ (R193): an input that is off gives words without VALID; in quadrature and Hall CNT is the count, VALID unless the
input is faulty, and in Hall while its wires show a sector, and SPD is 0 at standstill. The read remembers the count and edge it saw.
ENCODER_EDGE (R192): levels held for less than ENC_FILT change nothing; in quadrature a change of A alone or B alone counts one up or
down with A leading B upward, a change of both is a fault, and the first Z edge sets the count to zero; in Hall the codes 000 and 111 and
a jump of more than one sector from the sector that stood before are faults, and a code that names the first sector or the same one
again moves no count.
ENCODER_SPEED_TIMEOUT (R193): the input stands still. -/
def Obligations.EncoderRead : Prop :=
  (∀ (s : State) (l : Lane) (g : Img) (e : Entry), s.dev.Ready l g e → e.cls = 0x1A →
      let w1 := g.desc e.operand 1
      let q := (s.dev.begun l g e).lane l
      let inp := dw w1 63 62
      let n := q.encAt inp
      let mode := q.cfgInt 0x056 inp
      let oAng := dw w1 61 47
      let oCnt := dw w1 46 32
      let oSpd := dw w1 31 17
      memWf q.mem = true → oAng ≠ oCnt → oAng ≠ oSpd → oCnt ≠ oSpd → inp < q.enc.length →
      Ends (.encoderHallRead l false) s l g e (fun d =>
        ((d.lane l).sig oCnt).mant = BitVec.ofInt 32 n.cnt.toInt ∧ ((d.lane l).sig oCnt).exp = 31 ∧
        (mode ≠ 1 → mode ≠ 2 → ((d.lane l).sig oCnt).st.valid = false ∧ ((d.lane l).sig oAng).st.valid = false ∧
          ((d.lane l).sig oSpd).st.valid = false) ∧
        (mode = 1 → ((d.lane l).sig oCnt).st.valid = !n.fault ∧ ((d.lane l).sig oSpd).st.valid = !n.fault ∧
          ((d.lane l).sig oAng).st.valid = (!n.fault && n.zSeen)) ∧
        (mode = 2 → let ok := !n.fault && (hallSector n.w0 n.w1 n.w2).isSome
          ((d.lane l).sig oCnt).st.valid = ok ∧ ((d.lane l).sig oSpd).st.valid = ok ∧ ((d.lane l).sig oAng).st.valid = ok) ∧
        ((mode = 1 ∨ mode = 2) → n.still = true → ((d.lane l).sig oSpd).mant = 0) ∧
        ((d.lane l).encAt inp) = { n with readC := n.cnt, readT := n.edge } ∧
        (∀ j : Nat, j ≠ oAng → j ≠ oCnt → j ≠ oSpd → (d.lane l).sig j = q.sig j) ∧
        (∀ m : Lane, m ≠ l → d.lane m = s.dev.lane m) ∧ d.vot = s.dev.vot ∧ s.dev.SameOutside d)) ∧
  (∀ (s : State) (l : Lane) (inp : Nat), inp < (s.dev.lane l).enc.length →
      let q := s.dev.lane l
      let n := q.encAt inp
      let frame := fun (d : Dev) => (∀ k : Nat, k ≠ inp → (d.lane l).encAt k = q.encAt k) ∧ (d.lane l).mem = q.mem ∧
        (d.lane l).seq = q.seq ∧ (∀ m : Lane, m ≠ l → d.lane m = s.dev.lane m) ∧ d.vot = s.dev.vot ∧ s.dev.SameOutside d
      let passes := fun (held : Nat) => dyLt ⟨5 * (held : Int), -2⟩ (q.cfgDy 0x058 inp) = false
      (∀ (a b c : Bool) (held : Nat), ¬ passes held → exec (.encoderEdge l inp a b c held) s = .next s) ∧
      (∀ (a b : Bool) (held : Nat), passes held → q.cfgInt 0x056 inp = 1 → ((a != n.w0) != (b != n.w1)) = true →
        Does (.encoderEdge l inp a b n.w2 held) s (fun d =>
          ((d.lane l).encAt inp).cnt = (if a = n.w1 then n.cnt - 1 else n.cnt + 1) ∧
          ((d.lane l).encAt inp).w0 = a ∧ ((d.lane l).encAt inp).w1 = b ∧ ((d.lane l).encAt inp).edge = some s.dev.lclk ∧ frame d)) ∧
      (∀ held : Nat, passes held → q.cfgInt 0x056 inp = 1 → Does (.encoderEdge l inp (!n.w0) (!n.w1) n.w2 held) s (fun d =>
        ((d.lane l).encAt inp).fault = true ∧ ((d.lane l).encAt inp).cnt = n.cnt ∧ frame d)) ∧
      (∀ held : Nat, passes held → q.cfgInt 0x056 inp = 1 → n.zSeen = false → Does (.encoderEdge l inp n.w0 n.w1 (!n.w2) held) s (fun d =>
        ((d.lane l).encAt inp).cnt = 0 ∧ ((d.lane l).encAt inp).zSeen = true ∧ frame d)) ∧
      (∀ (u v w : Bool) (held : Nat), passes held → q.cfgInt 0x056 inp = 2 → ¬(u = n.w0 ∧ v = n.w1 ∧ w = n.w2) →
        Does (.encoderEdge l inp u v w held) s (fun d =>
        let m := (d.lane l).encAt inp
        (hallSector u v w = none → m.fault = true ∧ m.cnt = n.cnt ∧ m.sector = n.place) ∧
        (∀ k : Nat, hallSector u v w = some k → m.sector = some k ∧
          (n.place = none ∨ n.place = some k → m.cnt = n.cnt ∧ m.edge = n.edge ∧ (n.fault = false → m.fault = false)) ∧
          ∀ p : Nat, n.place = some p → k ≠ p →
            ((k + 6 - p) % 6 = 1 → m.cnt = n.cnt + 1) ∧ ((k + 6 - p) % 6 ≠ 1 → (p + 6 - k) % 6 = 1 → m.cnt = n.cnt - 1) ∧
            ((k + 6 - p) % 6 ≠ 1 → (p + 6 - k) % 6 ≠ 1 → m.fault = true)) ∧ frame d)) ∧
      Does (.encoderSpeedTimeout l inp) s (fun d => ((d.lane l).encAt inp).still = true ∧ ((d.lane l).encAt inp).cnt = n.cnt ∧
        (∀ t : Nat, n.edge = some t → (4 * t + 4) / 5 + 64000000 ≤ d.clk) ∧ frame d))

/-! ### Measurement -/

/-- SAMPLE_AND_CONVERT (R254 to R257): the conversions run in turn, each into its OUT. A single conversion delivers K times
(1 + GC·2^-20)·(q − OC/16)·LSB; it is VALID unless the code lies at a rail, the volts lie outside SENS_LO to SENS_HI, or the reference
is faulty, and LIMITED at a rail. -/
def Obligations.SampleAndConvert : Prop :=
  ∀ (s : State) (l : Lane) (g : Img) (e : Entry), s.dev.Ready l g e → e.cls = 0x18 →
    let adc := e.unit - 0x18
    let w := g.desc e.operand 1
    let q := (s.dev.begun l g e).lane l
    let input := inputOf adc (dw w 63 60)
    let range := dw w 59 58
    (∀ codes : List AdcSample, codes.length = g.descCount e.operand →
      Runs (.sampleAndConvert l false codes) s l g e (convertAll g e.operand l adc 0 codes)) ∧
    (∀ c : AdcSample, g.descCount e.operand = 1 → memWf q.mem = true → adc < 4 →
      let v := adcVolts range c.code (q.cfgInt 0x080 (calInst l input range)) (q.cfgInt 0x081 (calInst l input range))
      let rail := atRail range c.code
      let out := decide (input < 32) && (dyLt v (q.cfgDy 0x082 input) || dyLt (q.cfgDy 0x083 input) v)
      let ref := c.refBad || (q.meas.refFault.getLsbD adc && decide (q.meas.refGood.getD adc 0 + 1 < 1024))
      Ends (.sampleAndConvert l false [c]) s l g e (fun d =>
        (∃ st : Status, (d.lane l).sig (dw w 57 43) = mkSig (dyMul ⟨signedBits (dw w 34 3) 32, signedBits (dw w 42 35) 8 - 31⟩ v) st ∧
          st.valid = !(rail || out || ref) ∧ st.limited = rail) ∧
        (d.lane l).meas.refFault.getLsbD adc = ref ∧
        (∀ j : Nat, j ≠ dw w 57 43 → (d.lane l).sig j = q.sig j) ∧ (d.lane l).cfg = q.cfg ∧
        (∀ m : Lane, m ≠ l → d.lane m = s.dev.lane m) ∧ d.vot = s.dev.vot ∧ s.dev.SameOutside d))

/-- DISCRETE_OR_LCI_READ (Table 14-3): the 16 discrete inputs as an integer, the LCI value with VALID while its measurement holds and
its supplies are good, or an item of a remote's last STATUS, VALID unless its link is down and STALE unless it came in this fast cycle
(R263). DIN_LEVEL_ACCEPTED sets one bit of the lane's discrete inputs once the level has stood for DIN_FILT samples (R261).
LCI_MEASUREMENT (R266, Table 14-4): the value is the mean of the conversions in volts, the high time over the period, or the frequency,
over what ended in the last LCI_WIN; it is good only within LCI_LO to LCI_HI, in duty with a mean period of 90 µs to 11.1 ms, and in the
analog encoding once a whole window has passed (R267); a period with a pulse shorter than 1 µs, and any in mode off, changes nothing.
LCI_TIMEOUT: in duty the value is the level, in frequency 0; it is not good, and it is counted. -/
def Obligations.DiscreteRead : Prop :=
  (∀ (s : State) (l : Lane) (g : Img) (e : Entry), s.dev.Ready l g e → e.cls = 0x1B →
      let w1 := g.desc e.operand 1
      let sel := dw w1 63 62
      let out := dw w1 61 47
      let item := dw w1 46 43
      let m := ((s.dev.begun l g e).lane l).meas
      let k := s.dev.link (sel - 2)
      let st : Status := ⟨!k.rxDown, false, !k.latched.fresh, false⟩
      (sel = 0 → Writes (.discreteOrLciRead l false) s l g e [(out, sigInt m.din.toNat Status.ok)]) ∧
      (sel = 1 → Writes (.discreteOrLciRead l false) s l g e
        [(out, { m.lciVal with st := ⟨m.lciOk && s.dev.domUp 7 && s.dev.domUp 9 && !s.dev.test.lciBad, false, false, false⟩ })]) ∧
      (2 ≤ sel → item < 12 → Writes (.discreteOrLciRead l false) s l g e
        [(out, mkSig ⟨((k.latched.vph.getD item 0).toNat : Int), -5⟩ st)]) ∧
      (2 ≤ sel → item = 12 → Writes (.discreteOrLciRead l false) s l g e [(out, mkSig ⟨k.latched.temp.toInt, -4⟩ st)]) ∧
      (2 ≤ sel → 12 < item → Writes (.discreteOrLciRead l false) s l g e [(out, sigInt k.latched.samp st)])) ∧
  (∀ (s : State) (l : Lane),
      let q := s.dev.lane l
      let mode := q.cfgInt 0x085 0
      let within := fun (w : SigWord) => dyLe (q.cfgDy 0x086 0) (sigVal w) && dyLe (sigVal w) (q.cfgDy 0x087 0)
      let frame := fun (d : Dev) => (d.lane l).mem = q.mem ∧ (d.lane l).seq = q.seq ∧ (d.lane l).cfg = q.cfg ∧
        (∀ m : Lane, m ≠ l → d.lane m = s.dev.lane m) ∧ d.vot = s.dev.vot ∧ s.dev.SameOutside d
      (∀ (n samples : Nat) (level : Bool), n < 16 → q.seq.phase ≠ .off → dyLe (q.cfgDy 0x084 n) (dyInt samples) = true →
        Does (.dinLevelAccepted l n level samples) s (fun d =>
        (d.lane l).meas.din.getLsbD n = level ∧ (∀ k : Nat, k < 16 → k ≠ n → (d.lane l).meas.din.getLsbD k = q.meas.din.getLsbD k) ∧
        frame d)) ∧
      (∀ (n samples : Nat) (level : Bool), n < 16 → dyLe (q.cfgDy 0x084 n) (dyInt samples) = false →
        Does (.dinLevelAccepted l n level samples) s (fun d => (d.lane l).meas = q.meas ∧ frame d)) ∧
      (∀ (code : BitVec 12) (high period : Nat), mode = 1 → Does (.lciMeasurement l code high period) s (fun d =>
        let m := (d.lane l).meas
        m.lciHist = lciKeep q d.lclk ((d.lclk, code.toNat, 0) :: q.meas.lciHist) ∧
        m.lciVal = mkSigRat (5 * (m.lciHist.map (·.2.1)).sum : Nat) (4096 * m.lciHist.length) Status.clear ∧
        (m.lciOk = true ↔ within m.lciVal = true ∧ q.meas.lciFrom + lciWin q ≤ d.lclk) ∧ frame d)) ∧
      (∀ (code : BitVec 12) (high period : Nat), (mode = 2 ∨ mode = 3) → 800 ≤ high → high + 800 ≤ period →
        Does (.lciMeasurement l code high period) s (fun d =>
        let m := (d.lane l).meas
        let n := m.lciHist.length
        let sum := (m.lciHist.map (·.2.2)).sum
        m.lciHist = lciKeep q d.lclk ((d.lclk, high, period) :: q.meas.lciHist) ∧
        m.lciVal = (if mode = 2 then mkSigRat (m.lciHist.map (·.2.1)).sum (max 1 sum) Status.clear
          else mkSigRat ((n : Int) * 800000000) (max 1 sum) Status.clear) ∧
        (m.lciOk = true ↔ within m.lciVal = true ∧ (mode = 2 → 72000 * n ≤ sum ∧ sum ≤ 8880000 * n)) ∧ frame d)) ∧
      (∀ (code : BitVec 12) (high period : Nat), mode ≠ 1 → (mode ≠ 2 ∧ mode ≠ 3 ∨ high < 800 ∨ period < high + 800) →
        exec (.lciMeasurement l code high period) s = .next s) ∧
      (∀ level : Bool, (mode = 2 ∨ mode = 3) → Does (.lciTimeout l level) s (fun d =>
        (d.lane l).meas.lciVal = (if mode = 2 ∧ level = true then mkSig (dyInt 1) Status.clear else sigZero) ∧
        (d.lane l).meas.lciOk = false ∧
        lookupNat d.host.cnt (cLane l 10) = some (min (2 ^ 32 - 1) ((lookupNat s.dev.host.cnt (cLane l 10)).getD 0 + 1)) ∧ frame d)))

/-! ### Roll call -/

/-- The selection of R127, R128 and R131: with three or two agreeing candidates the word is the middle, the majority or the mean, with
the status of the lowest-indexed agreeing lane and the LIMITED, STALE and SUBST bits of all; with fewer the substitute is used and
SUBST is set. R129: a lane that agrees at an exchange is never newly marked; a candidate that does not agree is suspect, one that is no candidate
has failed; marks clear after 1,024 good exchanges in a row and not before. -/
def Obligations.RollCallSelection : Prop :=
  ((∀ (r : SigRec) (lo hi : Dy) (code : Int) (last a b c : SigWord), r.kind = 1 → sigLe a b = true → sigLe b c = true →
      let k := pick r lo hi code last [(.a, a), (.b, b), (.c, c)]
      let in_ := fun (v : SigWord) => inBand lo hi (dySub (sigVal v) (sigVal b))
      (in_ a = true → in_ b = true → k.subst = false ∧ k.out.mant = b.mant ∧ k.out.exp = b.exp ∧ k.out.st.valid = a.st.valid) ∧
      (in_ a = false → in_ b = true → in_ c = true → k.subst = false ∧ k.out.mant = b.mant ∧ k.agree = [.b, .c])) ∧
    (∀ (r : SigRec) (lo hi : Dy) (code : Int) (last a b c : SigWord), r.kind = 2 → a.mant = b.mant →
      let k := pick r lo hi code last [(.a, a), (.b, b), (.c, c)]
      k.subst = false ∧ k.out.mant = a.mant ∧ k.out.exp = r.init.exp) ∧
    (∀ (r : SigRec) (lo hi : Dy) (code : Int) (last : SigWord) (cand : List (Lane × SigWord)), cand.length < 2 →
      let k := pick r lo hi code last cand
      k.subst = true ∧ k.out.st.subst = true ∧ k.agree = [] ∧
      (code = 1 → k.out.mant = r.init.mant ∧ k.out.exp = r.init.exp) ∧ (code ≠ 1 → k.out.mant = last.mant ∧ k.out.st.stale = true))) ∧
  (∀ (sus fail : Bool) (good : Nat) (isC agrees : Bool),
      let r := markStep sus fail good isC agrees
      (agrees = true → r.2 = false ∧ (r.1.1 = true → sus = true) ∧ (r.1.2.1 = true → fail = true)) ∧
      (agrees = false → r.2 = true ∧ r.1.2.2 = 0 ∧ (isC = true → r.1.1 = true ∧ r.1.2.1 = fail) ∧ (isC = false → r.1.2.1 = true ∧ r.1.1 = sus)) ∧
      (agrees = true → (sus || fail) = true → good + 1 < 1024 → r.1 = (sus, fail, good + 1)) ∧
      (agrees = true → 1023 ≤ good → (sus || fail) = true → r.1 = (false, false, 0)))

/-- ROLL_CALL_EXCHANGE of one signal by three live lanes that dispatch the entry in turn, without a fault: every lane's operation in
progress writes, at its deadline clock, the word that the selection gives from the three lanes' words, and the drive dies, links and
network are untouched (R77, R124, R127). PAIR_ROLL_CALL_SELECTION of one signal: with the partner absent the own word with SUBST, else
within the band the first device's word, else the group's substitute (R133, R480); the last value that 0b00 takes is the group's (log
entry 151, the model's choice). -/
def Obligations.RollCallExchange : Prop :=
  (∀ (s : State) (g : Img) (e : Entry),
    let d1 := s.dev.begun .a g e
    let d2 := d1.begun .b g e
    let d3 := d2.begun .c g e
    s.dev.Ready .a g e → d1.Ready .b g e → d2.Ready .c g e → (∀ l : Lane, s.dev.entryAt l = some e ∧ s.dev.isLive l = true) →
    e.cls = 0x28 → s.dev.vot.liveFc = lanesAll → g.descCount e.operand = 1 → (∀ m : Lane, s.dev.hubQueueFull m = false) →
    (∀ l : Lane, (s.dev.lane l).seq.offMed = 0) →
    let i := rcIndex g e.operand 0
    let r := g.sigD i
    let cand := ([(Lane.a, (d3.lane .a).sig i), (Lane.b, (d3.lane .b).sig i), (Lane.c, (d3.lane .c).sig i)]).filter
      (fun v => isCand r v.2)
    Does (.rollCallExchange ⟨[], [], [], [], [], []⟩) s (fun d => ∀ y : Lane,
      let q := d3.lane y
      let k := pick r (q.cfgDy 0x010 i) (q.cfgDy 0x011 i) (q.cfgInt 0x012 i) (q.rcOf g i).last cand
      (∃ w : Late, (d.lane y).seq.late = q.seq.late ++ [w] ∧ w.unit = e.unit ∧ some w.due = lookupNat q.seq.busy e.unit ∧
        w.cells = memDiff q.mem (q.setSig i k.out).mem) ∧
      (d.lane y).mem = q.mem ∧ ((d.lane y).rcOf g i).last = k.last ∧ (d.lane y).cfg = q.cfg ∧ d.phase y = .live ∧ s.dev.SameOutside d)) ∧
  (∀ (s : State) (l : Lane) (g : Img) (e : Entry), s.dev.Ready l g e → e.cls = 0x29 → g.descCount e.operand = 1 →
    let w := g.desc e.operand 1
    let q := (s.dev.begun l g e).lane l
    let own := q.sig (dw w 63 49)
    let par := q.sig (dw w 48 34)
    let o := dw w 33 19
    let v1 := if s.dev.pair.rankFirst then own else par
    let v2 := if s.dev.pair.rankFirst then par else own
    let near := inBand (q.cfgDy 0x010 o) (q.cfgDy 0x011 o) (pairDiff (g.sigD o) v1 v2)
    memWf q.mem = true →
    let gives := fun (out : SigWord) (absent : Bool) => Ends (.pairRollCallSelection l false) s l g e (fun d =>
      (d.lane l).sig o = out ∧ (d.lane l).rcs.absent = absent ∧ (∀ j : Nat, j ≠ o → (d.lane l).sig j = q.sig j) ∧
      (d.lane l).cfg = q.cfg ∧ (∀ m : Lane, m ≠ l → d.lane m = s.dev.lane m) ∧ d.vot = s.dev.vot ∧ s.dev.SameOutside d)
    ((par.st.stale || !par.st.valid) = true → gives { own with st := { own.st with subst := true } } true) ∧
    ((par.st.stale || !par.st.valid) = false → near = true → gives v1 false) ∧
    ((par.st.stale || !par.st.valid) = false → near = false → q.cfgInt 0x012 o = 2 →
      gives { v2 with st := { v2.st with subst := true } } false) ∧
    ((par.st.stale || !par.st.valid) = false → near = false → q.cfgInt 0x012 o = 1 →
      gives { (g.sigD o).init with st := { (g.sigD o).init.st with subst := true } } false) ∧
    ((par.st.stale || !par.st.valid) = false → near = false → q.cfgInt 0x012 o ≠ 2 → q.cfgInt 0x012 o ≠ 1 →
      gives { (q.rcOf g o).last with st := { (q.rcOf g o).last.st with subst := true, stale := true } } false))

/-! ### Payloads, safety demand, digest -/

/-- PAYLOAD_POST (R283): with the hub serving the lane posts one unit whose payload bytes are those of its elements; a saturated element
is counted; with the hub lost nothing is posted (R18). The bytes of an element (R283): a number is rounded, saturated to its width and
sign, and stored most significant byte first; a signal word is stored whole. What a take reads from those bytes is the number that was
stored (R284). -/
def Obligations.PayloadPost : Prop :=
  (∀ (s : State) (l : Lane) (g : Img) (e : Entry), s.dev.Ready l g e → e.cls = 0x30 →
      let x := e.operand
      let t := payOf g x
      let d0 := s.dev.begun l g e
      let q := d0.lane l
      let fl := fun (d : Dev) => (d.group (.payload x)).flight.get l
      (d0.hubUp = true → s.dev.dcqFill l (.payload x) < 32 → Ends (.payloadPost l false) s l g e (fun d =>
        (∃ w : VWord, fl d = fl s.dev ++ [w] ∧ w.tag = tagOf d0.time.fcCount (q.postCount (.payload x)) ∧
          w.data = g.desc x 0 :: (if t.timed ∧ t.can = false then
            [(actTime d0.time.bellGt.toNat (q.sig t.act)).getD 0] else []) ++ packWords (t.len + 1) (postBytes t q)) ∧
        (d.lane l).seq.postSat = q.seq.postSat + postSats t q ∧ (d.lane l).mem = q.mem ∧
        (∀ h : Group, h ≠ .payload x → d.group h = s.dev.group h) ∧
        (∀ m : Lane, m ≠ l → d.lane m = s.dev.lane m) ∧ s.dev.SameOutside d)) ∧
      (d0.hubUp = false → Ends (.payloadPost l false) s l g e (fun d =>
        d.vot = s.dev.vot ∧ (d.lane l).seq.postSat = q.seq.postSat + postSats t q ∧ (d.lane l).mem = q.mem ∧ s.dev.SameOutside d))) ∧
  ((∀ (e : PayElem) (w : SigWord), e.width = 3 → e.byte = 0 → elemWord e (elemBytes e w).1 = w) ∧
    (∀ (e : PayElem) (w : SigWord), e.width < 3 → e.byte = 0 →
      let k := 8 * widthBytes e.width
      let lo : Int := if e.signed then -(2 ^ (k - 1)) else 0
      let hi : Int := if e.signed then 2 ^ (k - 1) - 1 else 2 ^ k - 1
      elemWord e (elemBytes e w).1 = mkSig (dyInt (max lo (min hi (dyRound (sigVal w))))) Status.ok ∧
      ((elemBytes e w).2 = true ↔ (dyRound (sigVal w) < lo ∨ hi < dyRound (sigVal w)))))

/-- PAYLOAD_TAKE of one slot element (R284): from a fresh bank the element's word and the stale count 0; from a stale bank the same bytes
with STALE, VALID only while fewer than MISS stale takes came in a row. With the hub lost, or no frame long enough,
the last word stays, with STALE (R18, R282). A CAN take reads the object's bytes when they are new (R327). -/
def Obligations.PayloadTake : Prop :=
  ∀ (s : State) (l : Lane) (g : Img) (e : Entry) (el : PayElem), s.dev.Ready l g e → e.cls = 0x31 →
    let x := e.operand
    let t := payOf g x
    let d0 := s.dev.begun l g e
    let q := d0.lane l
    let n := min 15 (((lookupNat q.takes x).map (·.1)).getD 0 + 1)
    let gives := fun (w : SigWord) (cnt : Nat) => Ends (.payloadTake l false) s l g e (fun d =>
      (d.lane l).sig el.sig = w ∧ (lookupNat (d.lane l).takes x).map (·.1) = some cnt ∧
      (∀ j : Nat, j ≠ el.sig → (d.lane l).sig j = q.sig j) ∧ (∀ m : Lane, m ≠ l → d.lane m = s.dev.lane m) ∧
      d.vot = s.dev.vot ∧ s.dev.SameOutside d)
    let bank := s.dev.net.banks.find? (fun b => b.key == t.slot)
    let stale := fun (w : SigWord) => ({ w with st := { w.st with stale := true, valid := w.st.valid && decide (n < t.miss) } } : SigWord)
    memWf q.mem = true → t.elems = [el] →
    (∀ b : BankSt, t.can = false → bank = some b → t.len ≤ b.read.length → d0.hubUp = true →
      (b.fresh = true → gives (elemWord el b.read) 0) ∧
      (b.fresh = false → gives (stale (elemWord el b.read)) n)) ∧
    (t.can = false → (d0.hubUp = false ∨ (bank = none ∧ 0 < t.len) ∨ ∃ b, bank = some b ∧ b.read.length < t.len) →
      gives (stale (q.sig el.sig)) n) ∧
    (∀ (r : CanRx) (o : CanObj), t.can = true → t.idSig = 0 → t.tsSig = 0 → d0.hubUp = true →
      (s.dev.chan t.chan).lanes.find? (fun r => r.obj == t.filt) = some r → r.read = some o → t.len ≤ o.bytes.length →
      (lookupNat q.takes x).map (·.2) ≠ some r.ver → gives (elemWord el o.bytes) 0)

/-- SAFETY_DEMAND_POST (R352): one word to each group for the next boundary, with STO_OFF in bit 0, PB_APPLY in bit 1 and SAFE_OK in bit 2,
the other bits zero and SAFE_OK zero for group B; the safe values when the demand word is not VALID. The demands are those of the demand
word, those of a safe stop block in STOPPED or TRIPPED and those of F4L, and SAFE_OK asks for RUN too (log entry 112, the model's reading
of R360 and R213). IN holds the safety input word as the lane holds it (R353). STATE_DIGEST_SLICE: three parts of the slice's CRC-64 go
to the digest voters of both drive dies (R82). -/
def Obligations.SafetyAndDigestPosts : Prop :=
  ∀ (s : State) (l : Lane) (g : Img) (e : Entry), s.dev.Ready l g e →
    let w1 := g.desc e.operand 1
    let d0 := s.dev.begun l g e
    let q := d0.lane l
    let dem := q.sig (dw w1 63 49)
    let fl := fun (d : Dev) (h : Group) => (d.group h).flight.get l
    let down := decide (2 ≤ q.stop.state)
    let sto := fun (i : Nat) => if dem.mant.getLsbD i || down || q.dcl.f4l then 1 else 0
    let brake := fun (i : Nat) => if dem.mant.getLsbD i || down then 2 else 0
    let ok := if dem.mant.getLsbD 4 && decide (q.stop.state = 0) then 4 else 0
    (e.cls = 0x34 → memWf q.mem = true → s.dev.dcqFill l .safetyA < 16 → s.dev.dcqFill l .safetyB < 16 →
      Ends (.safetyDemandPost l false) s l g e (fun d =>
        (fl d .safetyA).map (·.value) = (fl s.dev .safetyA).map (·.value) ++
          [if dem.st.valid then BitVec.ofNat 24 (sto 0 + brake 2 + ok) else 3] ∧
        (fl d .safetyB).map (·.value) = (fl s.dev .safetyB).map (·.value) ++
          [if dem.st.valid then BitVec.ofNat 24 (sto 1 + brake 3) else 3] ∧
        ((fl d .safetyA).getLast?).map (·.launch) = some (BitVec.ofNat 32 d0.nextFc) ∧
        (d.lane l).sig (dw w1 48 34) = sigInt d0.laneInput.toInt Status.ok ∧
        (∀ j : Nat, j ≠ dw w1 48 34 → (d.lane l).sig j = q.sig j) ∧
        (∀ m : Lane, m ≠ l → d.lane m = s.dev.lane m) ∧ s.dev.SameOutside d)) ∧
    (e.cls = 0x38 → (∀ k : Nat, k < 2 → s.dev.dcqFill l (.digest k) ≤ 13) → Ends (.stateDigestSlice l false) s l g e (fun d =>
      let c := (crc64 (sliceBytes q.mem g d0.fcStart)).toNat
      (∀ k : Nat, k < 2 → (fl d (.digest k)).map (·.value) = (fl s.dev (.digest k)).map (·.value) ++
        [BitVec.ofNat 24 (bits c 63 40), BitVec.ofNat 24 (bits c 39 16), BitVec.ofNat 24 (bits c 15 0)]) ∧
      (d.lane l).mem = q.mem ∧ (∀ m : Lane, m ≠ l → d.lane m = s.dev.lane m) ∧ s.dev.SameOutside d))

/-! ### Voters -/

/-- VOTED_WORD_ARRIVAL (R96, R99): the oldest word in flight enters the lane's alignment queue with its arrival time while a live lane's
word is still missing; a word whose TAG was already decided is counted late and dropped; a second word of one TAG marks the first; a word
that the queue has no room for waits in the DCQ. OUT_INDICATION_ARRIVAL (R102): the voters of a place treat a lane that is out as absent
from its indication on; with no word waiting there nothing else changes. A lane that is not out sends none. -/
def Obligations.VotedWordArrival : Prop :=
  (∀ (s : State) (l : Lane) (g : Group) (w : VWord) (rest : List VWord) (p : Bool) (cell : Option Lane),
      (s.dev.group g).flight.get l = w :: rest →
      let old := s.dev.group g
      let live := s.dev.liveFor g
      (∀ m : Lane, m ≠ l → old.queue.get m = []) →
      (old.queue.get l = [] → (∀ e ∈ old.decided, e.1 ≠ w.tag) → queueFits g [] w = true → (∃ m : Lane, m ≠ l ∧ s.dev.liveAt g m = true) →
        (∀ lead : Nat, groupLead g = some lead → s.dev.gt + lead ≤ gtAhead s.dev.gt w.launch) →
        Does (.votedWordArrival l g true cell) s (fun d =>
          (d.group g).queue.get l = [⟨w, true, s.dev.gt, false⟩] ∧ (d.group g).flight.get l = rest ∧
          (d.group g).decided = old.decided ∧ (∀ h : Group, h ≠ g → d.group h = s.dev.group h) ∧ d.lanes = s.dev.lanes ∧
          s.dev.SameOutside d)) ∧
      (old.queue.get l = [] → (∃ e ∈ old.decided, e.1 = w.tag) → queueFits g [] w = true → Does (.votedWordArrival l g p cell) s (fun d =>
        (d.group g).flight.get l = rest ∧ (∀ m : Lane, (d.group g).queue.get m = []) ∧
        lookupNat d.host.cnt (cVote (groupKind g) 3) =
          some (min (2 ^ 32 - 1) ((lookupNat s.dev.host.cnt (cVote (groupKind g) 3)).getD 0 + 1)) ∧
        d.lanes = s.dev.lanes ∧ s.dev.SameOutside d)) ∧
      (∀ q : QWord, old.queue.get l = [q] → q.w.tag = w.tag → (∀ e ∈ old.decided, e.1 ≠ w.tag) → queueFits g [q] w = true →
        (∃ m : Lane, m ≠ l ∧ s.dev.liveAt g m = true) → s.dev.gt ≤ old.forced live w.tag q.at_ →
        (∀ x : Nat, old.deadline live w.tag = some x → s.dev.gt ≤ x) → Does (.votedWordArrival l g p cell) s (fun d =>
          (d.group g).queue.get l = [{ q with dup := true }] ∧ (d.group g).flight.get l = rest ∧ d.vot.dups = s.dev.vot.dups + 1 ∧
          d.lanes = s.dev.lanes ∧ s.dev.SameOutside d)) ∧
      (old.first live w.tag = none → queueFits g (old.queue.get l) w = false → exec (.votedWordArrival l g p cell) s = .next s)) ∧
  (∀ (s : State) (l : Lane) (v : VoterPlace),
      ((s.dev.phase l = .out ∨ s.dev.phase l = .off) →
        (∀ g ∈ s.dev.vot.groups, groupPlace g.g = v → (s.dev.group g.g).queue = ⟨[], [], []⟩) →
        Does (.outIndicationArrival l v) s (fun d => (∀ g : Group, groupPlace g = v → d.liveAt g l = false) ∧
          d.vot.groups = s.dev.vot.groups ∧ d.lanes = s.dev.lanes ∧
          (∀ (g : Group) (m : Lane), (groupPlace g ≠ v ∨ m ≠ l) → d.liveAt g m = s.dev.liveAt g m) ∧ s.dev.SameOutside d)) ∧
      (s.dev.phase l ≠ .out → s.dev.phase l ≠ .off → exec (.outIndicationArrival l v) s = .next s))

/-- The verdict (R97, R98): at the end of the alignment window or at the release deadline, three equal good words of three live lanes
are released; two equal ones are released and the third lane goes out with cause 0x9; no two equal ones hold the group and raise the
device fault. The TAG leaves the queues and is recorded as decided. A released gate word waits at its half-bridge for the time of the
released word. The instant is that of `forced`; whose LAUNCH sets the deadline where lanes differ is the model's choice (log entry 124). -/
def Obligations.Verdict : Prop :=
  ∀ (s : State) (g : Group) (tag : Nat) (q : QWord) (c : Instr),
    let old := s.dev.group g
    let t := BitVec.ofNat 8 tag
    let at_ := old.forced lanesAll t q.at_
    let word := countedWord old t
    let fc := s.dev.time.fcCount
    let done := fun (d : Dev) (rel : Option VWord) =>
      (∀ l : Lane, (d.group g).word l t = none) ∧ (t, fc, rel) ∈ (d.group g).decided ∧ (∀ h : Group, h ≠ g → d.group h = s.dev.group h)
    (c = .alignmentWindowExpiry g tag none ∨ (c = .releaseDeadlineExpiry g tag none ∧ (groupLead g).isSome = true)) →
    old.first lanesAll t = some q → (∀ x : Nat, old.deadline lanesAll t = some x → q.at_ ≤ x) →
    (∀ (l : Lane) (x : QWord), x ∈ old.queue.get l → x.w.tag = t) → (∀ l : Lane, s.dev.isLive l = true ∧ s.dev.liveAt g l = true) →
    (∀ w : VWord, (∀ l : Lane, word l = some w) → Does c s (fun d => done d (some w) ∧ d.lanes = s.dev.lanes ∧
      (∀ n : Nat, g = .gate n → n < s.dev.gd.hb.length → s.dev.shut g = false → ∃ a b : List Ev,
        (d.hb n).evq = a ++ ⟨8 * gtAhead at_ w.launch + w.fine.toNat, w.value.toNat % 4, false⟩ :: b ∧
        ∀ e ∈ a ++ b, e ∈ (s.dev.hb n).evq) ∧ (s.dev.shut g = true → d.gd = s.dev.gd ∧ d.net = s.dev.net ∧ d.safe = s.dev.safe))) ∧
    (∀ (w : VWord) (x y z : Lane), x ≠ y → y ≠ z → x ≠ z → word x = some w → word y = some w → word z ≠ some w →
      (∀ p : QWord, old.word z t = some p → p.ok = true) → Does c s (fun d => (t, fc, some w) ∈ (d.group g).decided ∧
        d.phase z = .out ∧ (d.lane z).seq.cause = 9 ∧ d.lane x = s.dev.lane x ∧ d.lane y = s.dev.lane y)) ∧
    ((∀ (w : VWord) (x y : Lane), x ≠ y → word x = some w → word y ≠ some w) → Does c s (fun d => done d none ∧ d.lanes = s.dev.lanes ∧
      d.vot.devFault = true ∧ (canSilence g = true → (d.group g).held.isSome = true ∨ (d.group g).silent = true)))

/-! ### Gate drive -/

/-- GATE_EVENT_EXECUTION, SWITCH_TURN_ON, GATE_STUCK (R32, R219, R220, R224, R333). The earliest released event is executed when the second
of the three cells of its half-bridge realises its time, and is lost when fewer than two run. It turns off at once the switch it does not
command and places the commanded one behind the dead time; a device that is not active, a bank out of service, or leg 0 turns both off.
No event ever leaves both switches of a half-bridge on. A turn-on waits while the opposite gate is above 2.0 V; from 1 µs after the dead
time on it is barred and that switch is latched; a latched switch does not turn on, a high side without bootstrap is refused with BS_UV;
one that turns on takes the live protection settings. -/
def Obligations.GateEvents : Prop :=
  ∀ (s : State) (hb : Nat), hb < s.dev.gd.hb.length →
    let h := s.dev.hb hb
    let frame := fun (d : Dev) => d.lanes = s.dev.lanes ∧ d.vot = s.dev.vot ∧ d.edge = s.dev.edge ∧ d.net = s.dev.net ∧
      d.safe = s.dev.safe ∧ (∀ k : Nat, k ≠ hb → d.hb k = s.dev.hb k)
    let free := s.dev.isActive && s.dev.gdUp hb
    (∀ (e : Ev) (rest : List Ev), h.evq = e :: rest → s.dev.gd.diag = [] →
      (s.dev.realised e.t = none → Does (.gateEventExecution hb) s (fun d => d.hb hb = { h with evq := rest } ∧ frame d)) ∧
      (∀ r : Nat, s.dev.realised e.t = some r → Does (.gateEventExecution hb) s (fun d =>
        let t := r / 2 ^ 29
        let dt := s.dev.deadTimeAt hb t
        (d.hb hb).evq = rest ∧ ((h.hi.on && h.lo.on) = false → ((d.hb hb).hi.on && (d.hb hb).lo.on) = false) ∧
        (free = false ∨ (e.leg ≠ 1 ∧ e.leg ≠ 2) → (d.hb hb).hi.on = false ∧ (d.hb hb).lo.on = false ∧ (d.hb hb).pend = none) ∧
        (free = true → e.leg = 1 → (d.hb hb).hi.on = false ∧ (d.hb hb).lo = h.lo ∧
          (d.hb hb).pend = if h.lo.on || !h.lo.latch.isEmpty then none
            else some (.low, max t ((if h.hi.on then t else h.hi.offAt) + dt))) ∧
        (free = true → e.leg = 2 → (d.hb hb).lo.on = false ∧ (d.hb hb).hi = h.hi ∧
          (d.hb hb).pend = if h.hi.on || !h.hi.latch.isEmpty then none
            else some (.high, max t ((if h.lo.on then t else h.lo.offAt) + dt))) ∧ frame d))) ∧
    (∀ (sd : Side) (t vgs : Nat), h.pend = some (sd, t) →
      let now := (s.dev.toGt (ceilDiv t 8)).fineNow
      let can := (h.sw sd).latch = [] ∧ s.dev.gdUp hb = true
      let falls := vgs ≤ 2000 ∧ (h.hold = false ∨ now < h.stuckAt sd)
      let stuck := fun (d : Dev) => (d.hb hb).pend = none ∧ ((d.hb hb).sw (otherSide sd)).on = false ∧
        .gateStuck ∈ ((d.hb hb).sw (otherSide sd)).latch ∧ ((d.hb hb).sw sd) = h.sw sd ∧ frame d
      let turn := fun (P : HbSt → Prop) => Does (.switchTurnOn hb vgs) s (fun d =>
        (d.hb hb).sw (otherSide sd) = h.sw (otherSide sd) ∧ P (d.hb hb) ∧ frame d)
      (¬ can → turn (fun x => x.pend = none ∧ x.sw sd = h.sw sd)) ∧
      (can → (h.hold = true ∨ 2000 < vgs) → h.stuckAt sd ≤ now → Does (.switchTurnOn hb vgs) s stuck) ∧
      (can → 2000 < vgs → now < h.stuckAt sd → turn (fun x => x.pend = h.pend ∧ x.hold = true ∧ x.sw sd = h.sw sd)) ∧
      (can → falls → sd = .high → h.bsLow = true → turn (fun x => x.pend = none ∧ x.sw sd = h.sw sd ∧ x.bsUv = true)) ∧
      (can → falls → (sd = .low ∨ h.bsLow = false) → turn (fun x => x.pend = none ∧ (x.sw sd).on = true ∧ (x.sw sd).onAt = max t now ∧
        (x.sw sd).armed = false ∧ (x.sw sd).vth = (s.dev.dieInt 0x074 (2 * hb + sideIdx sd)).toNat ∧
        (x.sw sd).blank = (s.dev.dieInt 0x075 (2 * hb + sideIdx sd)).toNat)) ∧
      Does (.gateStuck hb) s stuck)

/-- The comparators and the bootstrap (R225 to R227): the hard-short comparator is armed 100 ns after turn-on and the VDS comparator
acts after BLANK + 1 steps of 250 ns; a trip turns the switch off at the SOFT current and latches it; BS_UV turns an on high side off
without a latch, and unless VBS recovers within 1 ms of its delivery the high side is latched. -/
def Obligations.SwitchProtection : Prop :=
  ∀ (s : State) (hb : Nat) (sd : Side), hb < s.dev.gd.hb.length →
    let h := s.dev.hb hb
    let w := h.sw sd
    let frame := fun (d : Dev) => d.lanes = s.dev.lanes ∧ d.vot = s.dev.vot ∧ d.edge = s.dev.edge ∧ d.net = s.dev.net ∧
      d.safe = s.dev.safe ∧ (∀ k : Nat, k ≠ hb → d.hb k = s.dev.hb k)
    let other := fun (d : Dev) => (d.hb hb).sw (otherSide sd) = h.sw (otherSide sd)
    (w.on = true → w.armed = false → Does (.hardShortArmed hb sd) s (fun d =>
      (d.hb hb).sw sd = { w with armed := true } ∧ other d ∧ frame d)) ∧
    (w.on = true → w.blanked = false → Does (.blankingEnd hb sd) s (fun d =>
      (d.hb hb).sw sd = { w with blanked := true } ∧ other d ∧ frame d)) ∧
    (w.on = true → w.armed = true → Does (.hardShortTrip hb sd) s (fun d =>
      ((d.hb hb).sw sd).on = false ∧ ((d.hb hb).sw sd).soft = true ∧ .hardShort ∈ ((d.hb hb).sw sd).latch ∧ other d ∧ frame d)) ∧
    (w.on = true → w.blanked = true → Does (.vdsTrip hb sd) s (fun d =>
      ((d.hb hb).sw sd).on = false ∧ ((d.hb hb).sw sd).soft = true ∧ .vds ∈ ((d.hb hb).sw sd).latch ∧ other d ∧ frame d)) ∧
    ((w.on = false ∨ w.armed = false) → exec (.hardShortTrip hb sd) s = .next s) ∧
    ((w.on = false ∨ w.blanked = false) → exec (.vdsTrip hb sd) s = .next s) ∧
    Does (.bsUv hb) s (fun d => (d.hb hb).bsLow = true ∧ (d.hb hb).hi.on = false ∧ (d.hb hb).hi.latch = h.hi.latch ∧
      (d.hb hb).lo = h.lo ∧ (h.hi.on = true → (d.hb hb).bsUv = true) ∧ frame d) ∧
    Does (.bsRecovered hb) s (fun d => (d.hb hb).bsLow = false ∧ (d.hb hb).bsUv = false ∧ (d.hb hb).hi = h.hi ∧ (d.hb hb).lo = h.lo ∧
      frame d) ∧
    (∀ t : Nat, h.bsAt = some t → h.bsUv = true → Does (.bsFault hb) s (fun d =>
      t + 640000 ≤ d.clk ∧ (d.hb hb).hi.on = false ∧ .bsFault ∈ (d.hb hb).hi.latch ∧ (d.hb hb).lo = h.lo ∧ frame d))

/-- The gate supplies and the diagnostics (R231, R232, R234): below 9.0 V every half-bridge of the bank is off and latched VGD_UV, above
9.5 V that latch alone is released, between nothing changes; a passing step leads to the next one 0.5 ms on, a node out of its limits
ends the sequence after S6 with that step's result, too low a V_DH ends it at once with NO_SUPPLY, and the end sets DIAG of the unit's
half-bridges and latches them unless it passed. -/
def Obligations.GateSupplyAndDiagnostics : Prop :=
  ∀ s : State,
    let frame := fun (d : Dev) => d.lanes = s.dev.lanes ∧ d.vot = s.dev.vot ∧ d.edge = s.dev.edge ∧ d.net = s.dev.net ∧
      d.safe = s.dev.safe ∧ d.boot = s.dev.boot
    (∀ bank mv : Nat, bank = 1 ∨ bank = 2 → s.dev.gd.hb.length = 20 →
      (mv < 9000 → Does (.vgdUv bank mv) s (fun d =>
        (∀ n : Nat, n < 20 → (n < 10 ↔ bank = 1) → (d.hb n).hi.on = false ∧ (d.hb n).lo.on = false ∧
          .vgdUv ∈ (d.hb n).hi.latch ∧ .vgdUv ∈ (d.hb n).lo.latch) ∧
        (∀ n : Nat, n < 20 → ¬(n < 10 ↔ bank = 1) → d.hb n = s.dev.hb n) ∧
        (if bank = 1 then d.gd.vgdUv.1 else d.gd.vgdUv.2) = true ∧ frame d)) ∧
      (9500 < mv → Does (.vgdRecovered bank mv) s (fun d =>
        (∀ n : Nat, n < 20 → (n < 10 ↔ bank = 1) → ∀ c : LatchCause,
          (c ∈ (d.hb n).hi.latch ↔ c ∈ (s.dev.hb n).hi.latch ∧ c ≠ .vgdUv) ∧ (c ∈ (d.hb n).lo.latch ↔ c ∈ (s.dev.hb n).lo.latch ∧ c ≠ .vgdUv)) ∧
        (∀ n : Nat, n < 20 → ¬(n < 10 ↔ bank = 1) → d.hb n = s.dev.hb n) ∧
        (if bank = 1 then d.gd.vgdUv.1 else d.gd.vgdUv.2) = false ∧ frame d)) ∧
      (9000 ≤ mv → mv ≤ 9500 → Does (.vgdUv bank mv) s (fun d => d.gd.hb = s.dev.gd.hb ∧ d.gd.vgdUv = s.dev.gd.vgdUv ∧ frame d) ∧
        Does (.vgdRecovered bank mv) s (fun d => d.gd.hb = s.dev.gd.hb ∧ d.gd.vgdUv = s.dev.gd.vgdUv ∧ frame d))) ∧
    (∀ (r : DiagRun) (nodes vdh : List Nat), s.dev.gd.diag = [r] → s.dev.gd.diagQ = [] → 2 ≤ r.unit → r.unit ≤ 8 →
      s.dev.gd.hb.length = 20 → nodes.length = 3 → vdh.length = 3 →
      ((∀ v ∈ vdh, 10000 ≤ v) → r.step = 1 → (∀ i : Nat, i < 3 → 10 * nodes.getD i 0 ≤ 8 * vdh.getD i 0) →
        Does (.diagStepEnd r.unit nodes vdh) s (fun d => (d.gd.diag.map (·.step)) = [2] ∧ (d.gd.diag.map (·.result)) = [0] ∧
          d.gd.hb = s.dev.gd.hb ∧ r.start + 320000 ≤ d.clk ∧ frame d)) ∧
      ((∀ v ∈ vdh, 10000 ≤ v) → r.step = 1 → 8 * vdh.getD 0 0 < 10 * nodes.getD 0 0 →
        Does (.diagStepEnd r.unit nodes vdh) s (fun d => (d.gd.diag.map (·.step)) = [6] ∧ (d.gd.diag.map (·.result)) = [2] ∧ frame d)) ∧
      (r.step = 1 → vdh.getD 0 0 < 10000 → Does (.diagStepEnd r.unit nodes vdh) s (fun d => d.gd.diag = [] ∧
        (∀ n ∈ hbsOfUnit r.unit, (d.hb n).diag = 6 ∧ .diag ∈ (d.hb n).hi.latch ∧ .diag ∈ (d.hb n).lo.latch) ∧ frame d)) ∧
      (r.step = 6 → r.result = 0 → Does (.diagStepEnd r.unit nodes vdh) s (fun d => d.gd.diag = [] ∧
        (∀ n ∈ hbsOfUnit r.unit, (d.hb n).diag = 1 ∧ (d.hb n).hi.latch = (s.dev.hb n).hi.latch ∧
          (d.hb n).lo.latch = (s.dev.hb n).lo.latch) ∧ frame d)) ∧
      (r.step = 6 → r.result ≠ 0 → r.result ≠ 1 → Does (.diagStepEnd r.unit nodes vdh) s (fun d => d.gd.diag = [] ∧
        (∀ n ∈ hbsOfUnit r.unit, (d.hb n).diag = r.result ∧ .diag ∈ (d.hb n).hi.latch ∧ .diag ∈ (d.hb n).lo.latch) ∧ frame d)))

/-! ### Edge links -/

/-- Frames leave an idle link in the order HEARTBEAT, SYNC, EVENT, COMMAND (R240), as the bytes of Table 13-1; at most 24 events in order
of TIME make one frame (R239). A HEARTBEAT falls due at each multiple of 3,200 GT units on both links, while GT runs and the links are
driven (R238, R250). -/
def Obligations.EdgeSending : Prop :=
  ∀ s : State,
    let others := fun (d : Dev) => d.lanes = s.dev.lanes ∧ d.vot = s.dev.vot ∧ d.gd = s.dev.gd ∧ d.net = s.dev.net ∧ d.safe = s.dev.safe
    ((s.dev.link 0).hbNext % 3200 = 0 → s.dev.time.run = true → s.dev.edgeHiZ = false → Does .edgeHeartbeatDue s (fun d =>
      (∀ x ∈ d.edge, x.hbDue = true ∧ x.hbNext % 3200 = 0 ∧ (s.dev.link 0).hbNext < x.hbNext ∧ s.dev.gt < x.hbNext) ∧
      d.edge.map (·.evq) = s.dev.edge.map (·.evq) ∧ others d)) ∧
    ((s.dev.time.run = false ∨ s.dev.edgeHiZ = true) → exec .edgeHeartbeatDue s = .next s) ∧
    (∀ k : Nat, k < s.dev.edge.length → s.dev.linkSends k = true →
      let x := s.dev.link k
      let es := x.ready (s.dev.pass (16 * x.guard)).fineNow
      let sends := fun (d : Dev) (f : EdgeFrame) => (d.link k).sent.head? = some f.wire ∧ (d.link k).guard = 0 ∧
        (∀ j : Nat, j ≠ k → d.link j = s.dev.link j) ∧ others d
      (x.hbDue = true → Does (.edgeLinkIdle k) s (fun d => (d.link k).hbDue = false ∧ (d.link k).hbSeq = (x.hbSeq + 1) % 256 ∧
        (d.link k).evq = x.evq ∧ sends d (.heartbeat (!s.dev.paired || s.dev.isActive) (s.dev.pair.role == .inStep) s.dev.pair.pairId x.hbSeq
          (s.dev.silentMask k)))) ∧
      (x.hbDue = false → x.syncDue = true → Does (.edgeLinkIdle k) s (fun d => (d.link k).syncDue = false ∧
        (d.link k).t1 = some d.fineNow ∧ (d.link k).sentDelay = x.delay ∧ sends d (.sync (BitVec.ofNat 32 d.gt) (d.fineNow % 8) x.delay))) ∧
      (x.hbDue = false → x.syncDue = false → es ≠ [] → Does (.edgeLinkIdle k) s (fun d =>
        sends d (.event (es.take 24)) ∧ (∀ e : EdgeEv, e ∈ (d.link k).evq ↔ e ∈ x.evq ∧ e ∉ es.take 24) ∧
        es.Pairwise (fun a b => a.t / 8 ≤ b.t / 8))) ∧
      (∀ (m : Nat) (r : List Nat), x.hbDue = false → x.syncDue = false → es = [] → x.cmdq = m :: r → Does (.edgeLinkIdle k) s (fun d =>
        sends d (.command m) ∧ (d.link k).cmdq = r)))

/-- STATUS_FRAME, EDGE_RX_DOWN, SERIALISER_CLOCK_SWITCH (R237, R244, R245, R249, R251): a good frame, of the right length and TYPE and
with its CRC-16, gives the returns and a delay measurement, DELAY is the average of eight; a bad one is only counted; four frames in a row
without SEL while ACTIVE report a remote that does not obey; a link whose reception has been down for 20 µs has no DELAY; a serialiser
that does not run on the lowest live lane's clock moves to it and owes 8 idles. -/
def Obligations.EdgeReceiving : Prop :=
  (∀ (s : State) (k : Nat), k < s.dev.edge.length →
    let x := s.dev.link k
    let others := fun (d : Dev) => d.lanes = s.dev.lanes ∧ d.vot = s.dev.vot ∧ d.gd = s.dev.gd ∧ d.net = s.dev.net ∧ d.safe = s.dev.safe
    (∀ (at_ : Nat) (bad : Bool) (l : List Byte), s.dev.edgeHiZ = false → statusOf bad l = none →
      Does (.statusFrame k at_ bad l) s (fun d => d.edge = s.dev.edge ∧ others d ∧
        lookupNat d.host.cnt (cLink k 0) = some (min (2 ^ 32 - 1) ((lookupNat s.dev.host.cnt (cLink k 0)).getD 0 + 1)))) ∧
    (∀ (at_ : Nat) (bad : Bool) (l : List Byte) (f : StatusFrame), s.dev.edgeHiZ = false → statusOf bad l = some f →
      Does (.statusFrame k at_ bad l) s (fun d =>
      (d.link k).now = ⟨f.desat, f.uv, f.sel, f.safe, f.temp, f.vph, f.samp, true⟩ ∧ (d.link k).rxUp = true ∧
      (d.link k).rxDown = false ∧ (d.link k).rxClk = d.clk ∧ (d.link k).latched = x.latched ∧
      (∀ t : Nat, x.t1 = some t → (d.link k).meas = (((at_ : Int) - t - f.turn + 1) / 2 :: x.meas).take 8) ∧
      ((d.link k).meas.length < 8 → (d.link k).delay = 0xFFFF) ∧
      ((f.sel = false ∧ s.dev.isActive = true) → (d.link k).unobeyed = x.unobeyed + 1) ∧
      ((f.sel = true ∨ s.dev.isActive = false) → (d.link k).unobeyed = 0) ∧ (d.link k).notObey = decide (4 ≤ (d.link k).unobeyed) ∧
      (∀ j : Nat, j ≠ k → d.link j = s.dev.link j) ∧ others d)) ∧
    (x.rxDown = false → s.dev.boot.stage ≠ 0 → Does (.edgeRxDown k) s (fun d => (d.link k).rxDown = true ∧ (d.link k).rxUp = false ∧
      (d.link k).delay = 0xFFFF ∧ (d.link k).meas = [] ∧ (d.link k).latched = x.latched ∧ x.rxClk + 12800 ≤ d.clk ∧
      (∀ j : Nat, j ≠ k → d.link j = s.dev.link j) ∧ others d)) ∧
    (s.dev.liveLanes ≠ [] → Does .serialiserClockSwitch s (fun d =>
      (x.txLane ≠ s.dev.lowLane → (d.link k).txLane = s.dev.lowLane ∧ (d.link k).guard = 8) ∧
      (x.txLane = s.dev.lowLane → d.link k = x) ∧ others d))) ∧
  (∀ (bad : Bool) (l : List Byte), (∃ f : StatusFrame, statusOf bad l = some f) ↔
    bad = false ∧ l.length = 45 ∧ beAt l 0 1 = 0x81 ∧ beAt l 43 2 = (crc16 (l.take 43)).toNat)

/-! ### The network -/

/-- SLOT_START (R276, R277, R287): the payload released for the slot's start leaves by the slot's ports as a valid frame of this node,
with the slot's next SEQ and TX_TIME the slot's start; a timed payload without ACT_TIME, or with one less than a network cycle ahead,
sends nothing and is counted; without a payload nothing is sent. -/
def Obligations.SlotSending : Prop :=
  ∀ (s : State) (slot : Nat) (r : SlotRec) (g : Img),
    let start := s.dev.time.bellGt.toNat + r.start
    let mine := fun (q : TxPay) => !(payOf g q.desc).can && (payOf g q.desc).slot == r.number && decide (q.launch.toNat = start)
    let seq := (lookupNat s.dev.net.txSeq r.number).getD 0
    s.dev.boot.running = some g → s.dev.slotRec slot = some r → s.dev.hubUp = true → r.txNode = s.dev.nodeId →
    (s.dev.net.txq.find? mine = none → Does (.slotStart slot) s (fun d =>
      d.net = s.dev.net ∧ d.host = s.dev.host ∧ s.dev.SameCore d)) ∧
    (∀ q : TxPay, s.dev.net.txq.find? mine = some q →
      (q.timed = true → q.act = none → Does (.slotStart slot) s (fun d =>
        d.net.lastTx = s.dev.net.lastTx ∧ d.net.txSeq = s.dev.net.txSeq ∧ s.dev.Counted d (cPort r.port0 4) ∧ s.dev.SameCore d)) ∧
      (∀ t : BitVec 64, q.timed = true → q.act = some t → t.toNat < start + s.dev.tn → Does (.slotStart slot) s (fun d =>
        d.net.lastTx = s.dev.net.lastTx ∧ d.net.txSeq = s.dev.net.txSeq ∧ s.dev.Counted d (cPort r.port0 5) ∧ s.dev.SameCore d)) ∧
      ((q.timed = false ∨ ∃ t : BitVec 64, q.act = some t ∧ start + s.dev.tn ≤ t.toNat) →
        r.ring = false → r.pair = false → r.portList ≠ [] →
        Does (.slotStart slot) s (fun d => (∀ p ∈ r.portList, ∃ f : BtnFrame, (p, f) ∈ d.net.lastTx ∧ f.payload = q.bytes ∧
          f.seq = seq ∧ f.slot = r.number ∧ f.nodeId = s.dev.nodeId ∧ f.txTime = BitVec.ofNat 64 start ∧ f.cycle = s.dev.time.cycle ∧
          f.type = (if q.timed then 2 else 1) ∧ f.e2eCrc = btnCrc f ∧ f.fcsOk = true) ∧
          (∀ x ∈ s.dev.net.lastTx, x.1 ∉ r.portList → x ∈ d.net.lastTx) ∧
          lookupNat d.net.txSeq r.number = some (seq + 1) ∧ (∀ x ∈ d.net.txq, mine x = false) ∧ d.host = s.dev.host ∧ s.dev.SameCore d)) ∧
      (q.timed = false → r.ring = true → s.dev.net.ring = .member → s.dev.net.sending = true →
        s.dev.net.east.up = true → s.dev.net.west.up = true → s.dev.net.east.wrapped = false → s.dev.net.west.wrapped = false →
        Does (.slotStart slot) s (fun d => ∃ f h : BtnFrame, d.net.lastTx =
            s.dev.net.lastTx.filter (fun x => !(x.1 == .ringE || x.1 == .ringW)) ++ [(.ringE, f), (.ringW, h)] ∧
          f.dir = false ∧ h.dir = true ∧ f.payload = q.bytes ∧ h.payload = q.bytes ∧ f.seq = seq ∧ h.seq = seq ∧
          f.txTime = BitVec.ofNat 64 start ∧ h.txTime = BitVec.ofNat 64 start ∧ f.e2eCrc = btnCrc f ∧ h.e2eCrc = btnCrc h ∧
          lookupNat d.net.txSeq r.number = some (seq + 1) ∧ s.dev.SameCore d)))

/-- BTN_FRAME_RECEIVED on a ring port (R272, R279, R294, R295, R297). A valid direct copy of another node's frame inside its window
fills the slot's bank and goes on by the other port; outside the window it is counted early or late, is a violation of its sender, is
neither taken nor forwarded, and the third violation in a row mutes the sender; a frame with a wrong CRC is never taken. The frame shows
the ring's own T_N (R38). -/
def Obligations.RingFrames : Prop :=
  ∀ (s : State) (east : Bool) (f : BtnFrame) (r : SlotRec) (a : BitVec 64),
    let port : Port := if east then .ringE else .ringW
    let arr : Int := a.toNat + 640
    let off : Int := s.dev.hops f.nodeId f.dir * s.dev.hopDelay
    let start : Int := s.dev.slotNear r arr off
    let old := (s.dev.net.mutes.find? (fun x => x.id == f.nodeId)).getD (GuardSt.reset f.nodeId)
    s.dev.hubUp = true → s.dev.offRing = false → s.dev.time.run = true → s.dev.slotRec f.slot = some r → r.ring = true →
    r.number < 256 → f.wrap = false → f.type = 1 →
    (∀ x, lookupNat s.dev.net.seenTx r.number = some x → f.cycle = x.1 + 1 → f.txTime - x.2 = BitVec.ofNat 64 s.dev.tn) →
    f.nodeId ≠ s.dev.nodeId →
    ((f.fcsOk = true ∧ f.e2eCrc = btnCrc f ∧ f.ver = 1 ∧ f.nodeId = r.txNode ∧ f.payload.length ≤ r.maxLen ∧ f.payload.length ≤ 1024) →
      ((arr - (start + off)).natAbs ≤ s.dev.window → s.dev.mutedRing f.nodeId = false → s.dev.net.ring = .member →
        f.req = false → f.nak = false → s.dev.net.req = none →
        (∀ x ∈ s.dev.net.rx, x.slot = r.number → ∀ y, x.last = some y → y.1 ≠ f.seq) →
        Does (.btnFrameReceived port f a) s (fun d =>
          (∃ b ∈ d.net.banks, b.key = r.number ∧ b.filling = some f.payload) ∧
          (∀ b ∈ s.dev.net.banks, b.key ≠ r.number → b ∈ d.net.banks) ∧
          (∃ x ∈ d.net.rx, x.slot = r.number ∧ x.last = some (f.seq, f.cycle, f.txTime)) ∧
          ((if east then s.dev.net.west else s.dev.net.east).up = true → (if east then s.dev.net.west else s.dev.net.east).wrapped = false →
            (if east then s.dev.net.east else s.dev.net.west).wrapped = false → ((if east then Port.ringW else Port.ringE), f) ∈ d.net.lastTx) ∧
          d.lanes = s.dev.lanes ∧ d.vot = s.dev.vot ∧ d.gd = s.dev.gd ∧ d.edge = s.dev.edge ∧ d.safe = s.dev.safe)) ∧
      (s.dev.window < (arr - (start + off)).natAbs →
        Does (.btnFrameReceived port f a) s (fun d => d.net.banks = s.dev.net.banks ∧ d.net.rx = s.dev.net.rx ∧
          d.net.lastTx = s.dev.net.lastTx ∧
          lookupNat d.host.cnt (cSlot r.number (if arr < start + off then 2 else 3)) = some (min (2 ^ 32 - 1)
            ((lookupNat s.dev.host.cnt (cSlot r.number (if arr < start + off then 2 else 3))).getD 0 + 1)) ∧
          (∃ x ∈ d.net.mutes, x.id = f.nodeId ∧ x.viol = old.viol + 1 ∧ x.muted = (old.muted || decide (3 ≤ old.viol + 1))) ∧
          s.dev.SameCore d))) ∧
    (f.fcsOk = false ∨ f.e2eCrc ≠ btnCrc f → Does (.btnFrameReceived port f a) s (fun d => d.net.banks = s.dev.net.banks ∧
      d.net.rx = s.dev.net.rx ∧ s.dev.Counted d (cSlot r.number 4) ∧ s.dev.SameCore d))

/-- BTN_FRAME_RECEIVED on a pair or star port, ACCEPTANCE_WINDOW_END (R272, R279, R280): a frame before or after its window is counted
and dropped, a second copy of one SEQ in one cycle changes no bank, and a slot that no copy reached is counted EMPTY, a ring or pair
slot that one copy reached ONE_COPY. -/
def Obligations.AcceptanceWindows : Prop :=
  ∀ (s : State) (slot : Nat) (r : SlotRec), s.dev.hubUp = true →
    (∀ (i : Nat) (f : BtnFrame) (a : BitVec 64), s.dev.slotRec f.slot = some r → r.star i = true → (s.dev.star i).muted = false →
      (f.type = 1 ∧ f.fcsOk = true ∧ f.e2eCrc = btnCrc f ∧ f.ver = 1 ∧ f.nodeId = r.txNode ∧ f.payload.length ≤ r.maxLen ∧
        f.payload.length ≤ 256) →
      let start : Int := s.dev.slotNear r a.toNat 0
      let w : Int := s.dev.window
      ((a.toNat : Int) < start - w → Does (.btnFrameReceived (.star i) f a) s (fun d => d.net.banks = s.dev.net.banks ∧
        d.net.rx = s.dev.net.rx ∧ s.dev.Counted d (cSlot r.number 2) ∧ s.dev.SameCore d)) ∧
      (start + w < (a.toNat : Int) → Does (.btnFrameReceived (.star i) f a) s (fun d => d.net.banks = s.dev.net.banks ∧
        d.net.rx = s.dev.net.rx ∧ s.dev.Counted d (cSlot r.number 3) ∧ s.dev.SameCore d)) ∧
      (start - w ≤ a.toNat → (a.toNat : Int) ≤ start + w →
        (∀ x ∈ s.dev.net.rx, x.slot = r.number → ∀ y, x.last = some y → y.1 ≠ f.seq) →
        Does (.btnFrameReceived (.star i) f a) s (fun d => (∃ b ∈ d.net.banks, b.key = r.number ∧ b.filling = some f.payload) ∧
          (∀ b ∈ s.dev.net.banks, b.key ≠ r.number → b ∈ d.net.banks) ∧ s.dev.SameCore d)) ∧
      (∀ x : SlotRx, start - w ≤ a.toNat → (a.toNat : Int) ≤ start + w → s.dev.net.rx.find? (fun x => x.slot == r.number) = some x →
        x.last.map (fun y => (y.1, y.2.1)) = some (f.seq, f.cycle) →
        Does (.btnFrameReceived (.star i) f a) s (fun d => d.net.banks = s.dev.net.banks ∧ d.host = s.dev.host ∧
          { x with copies := x.copies + 1 } ∈ d.net.rx ∧ s.dev.SameCore d))) ∧
    (∀ t : NetTable, s.dev.netTable = some t → s.dev.slotRec slot = some r → r.txNode ≠ s.dev.nodeId →
      let n := ((s.dev.net.rx.find? (fun x => x.slot == slot)).map (·.copies)).getD 0
      let reset := fun (d : Dev) => d.net.rx = s.dev.net.rx.map (fun x => if x.slot = slot then { x with copies := 0 } else x) ∧
        d.net.banks = s.dev.net.banks ∧ s.dev.SameCore d
      (n = 0 → Does (.acceptanceWindowEnd slot) s (fun d => s.dev.Counted d (cSlot slot 1) ∧ reset d)) ∧
      (n = 1 → r.ring || r.pair → Does (.acceptanceWindowEnd slot) s (fun d => s.dev.Counted d (cSlot slot 5) ∧ reset d)) ∧
      (2 ≤ n ∨ (n = 1 ∧ (r.ring || r.pair) = false) → Does (.acceptanceWindowEnd slot) s (fun d => d.host = s.dev.host ∧ reset d)))

/-- MODE_TIMEOUT (R291) and STAR_FRAME_ARRIVAL, INVIGILATOR_CUT (R300, R301): an own request not announced within 8 cycles ends, its
job with ERR_ABORTED 3, and no lane keeps a pending mode. The invigilator lets a right frame run through its open gate until its slot's
end and W; a wrong one, one outside every slot and the recess, and one cut there are violations, the third in a row a mute. -/
def Obligations.ModeTimeoutAndInvigilator : Prop :=
  ∀ s : State,
    (∀ r : ModeReq, s.dev.net.req = some r → s.dev.standalone = false →
      (r.own = true → r.switch = none → 8 ≤ r.age → Does .modeTimeout s (fun d => d.net.req = none ∧
        d.net.toutCnt = satInc 255 s.dev.net.toutCnt ∧ (∀ l : Lane, (d.lane l).seq.pend = none ∧ (d.lane l).mem = (s.dev.lane l).mem) ∧
        (∀ n : Nat, r.job = some n → ∀ j ∈ s.dev.mgmt.jobs, j.num = n → j.done = false →
          ∃ k ∈ d.mgmt.jobs, k.num = n ∧ k.done = true ∧ k.status = 0x19 ∧ k.detail = 3) ∧
        d.vot = s.dev.vot ∧ d.gd = s.dev.gd ∧ d.edge = s.dev.edge ∧ d.safe = s.dev.safe)) ∧
      ((r.own = false ∨ r.switch ≠ none ∨ r.age < 8) → exec .modeTimeout s = .next s)) ∧
    (∀ i : Nat, s.dev.hubUp = true → i < 12 → s.dev.net.stars.length = 12 →
      let t : Int := (s.dev.gt : Int) - s.dev.time.bellGt.toNat
      let g := s.dev.star i
      let violation := fun (d : Dev) => s.dev.Counted d (cPort (4 + i) 7) ∧
        d.star i = { g with viol := g.viol + 1, muted := g.muted || decide (3 ≤ g.viol + 1), frames := g.frames + 1, bad := true } ∧
        (∀ k : Nat, k ≠ i → d.star k = s.dev.star k) ∧ s.dev.SameCore d
      (∀ (r : SlotRec) (node : Nat), s.dev.openSlot i t = some r → node = r.txNode → g.muted = false →
        Does (.starFrameArrival i true node) s (fun d => (d.star i).viol = 0 ∧ (d.star i).muted = false ∧
          lookupNat d.net.starRun i = some (s.dev.time.bellGt.toNat + r.start + r.len + s.dev.window) ∧ d.host = s.dev.host ∧
          s.dev.SameCore d)) ∧
      (∀ (r : SlotRec) (btn : Bool) (node : Nat), s.dev.openSlot i t = some r → (btn = false ∨ node ≠ r.txNode) →
        Does (.starFrameArrival i btn node) s violation) ∧
      (∀ (btn : Bool) (node : Nat), s.dev.openSlot i t = none → s.dev.inRecess t = false →
        Does (.starFrameArrival i btn node) s violation) ∧
      (∀ (btn : Bool) (node : Nat), s.dev.openSlot i t = none → s.dev.inRecess t = true → exec (.starFrameArrival i btn node) s = .next s) ∧
      (∀ e : Nat, lookupNat s.dev.net.starRun i = some e →
        Does (.invigilatorCut i) s (fun d => violation d ∧ lookupNat d.net.starRun i = none)))

/-- RING_LINK_DOWN, RING_LINK_UP, RECESS_START, UNSCHEDULED_FRAME_RECEIVED (R285, R286, R298, R299). A port that loses its link is down;
a device without a GT wraps it at once. In a recess a port sends queued frames in order while they fit the time. A received frame is
queued for the host or for the other ring ports, dropped and counted where its bytes find no room or the frame no recess. -/
def Obligations.RingPortsAndRecess : Prop :=
  ∀ (s : State) (east : Bool),
    let side := fun (n : NetSt) (e : Bool) => if e then n.east else n.west
    let p := side s.dev.net east
    (Does (.ringLinkDown east) s (fun d => (side d.net east).up = false ∧ (side d.net east).down = true ∧ (side d.net east).clean = 0 ∧
      side d.net (!east) = side s.dev.net (!east) ∧ d.time = s.dev.time ∧ s.dev.SameCore d ∧
      ((s.dev.time.run = false ∧ s.dev.standalone = false ∧ p.wrapped = false) → (side d.net east).wrapped = true ∧ s.dev.Counted d (cNet 0)) ∧
      ((s.dev.time.run = true ∨ s.dev.standalone = true ∨ p.wrapped = true) → (side d.net east).wrapped = p.wrapped ∧ d.host = s.dev.host))) ∧
    (Does (.ringLinkUp east) s (fun d => (side d.net east).up = true ∧ (side d.net east).down = p.wrapped ∧
      (side d.net east).wrapped = p.wrapped ∧ (side d.net east).clean = 0 ∧ (side d.net east).part = true ∧
      side d.net (!east) = side s.dev.net (!east) ∧ d.time.serdesBad = false ∧ d.host = s.dev.host ∧ s.dev.SameCore d)) ∧
    (∀ q : Port, s.dev.hubUp = true → Does (.recessStart q) s (fun d => ∃ out : List (Port × List Byte),
      d.net.recTx = s.dev.net.recTx.filter (fun x => x.1 != q) ++ out ∧ (out.map (fun x => recessGt q x.2.length)).sum ≤ s.dev.recessLen ∧
      (∀ x ∈ out, x.1 = q ∧ ∃ r ∈ s.dev.net.recess, q ∈ r.ports ∧ r.bytes = x.2) ∧
      (∀ r ∈ d.net.recess, ∃ o ∈ s.dev.net.recess, r.bytes = o.bytes ∧ r.fwd = o.fwd ∧ ∀ x ∈ r.ports, x ∈ o.ports) ∧
      (∀ (r : RecFrame) (rest : List RecFrame), s.dev.net.recess = r :: rest → q ∈ r.ports →
        (recessGt q r.bytes.length ≤ s.dev.recessLen → ∃ o : List (Port × List Byte), out = (q, r.bytes) :: o) ∧
        (s.dev.recessLen < recessGt q r.bytes.length → out = [] ∧ d.net.recess = s.dev.net.recess)) ∧ s.dev.SameCore d)) ∧
    (∀ bytes : List Byte, s.dev.hubUp = true →
      let inP : Port := if east then .ringE else .ringW
      let outP : Port := if east then .ringW else .ringE
      let fits := decide (recessGt outP bytes.length ≤ s.dev.recessLen)
      (s.dev.net.roomFor false bytes.length = true → Does (.unscheduledFrameReceived inP .own bytes) s (fun d =>
        d.net = { s.dev.net with hostRx := s.dev.net.hostRx ++ [(inP, bytes)] } ∧ d.host = s.dev.host ∧ s.dev.SameCore d)) ∧
      (s.dev.net.roomFor false bytes.length = false → Does (.unscheduledFrameReceived inP .own bytes) s (fun d =>
        d.net = s.dev.net ∧ s.dev.Counted d (cPort (portIdx inP) 3) ∧ s.dev.SameCore d)) ∧
      (fits = true → s.dev.net.roomFor true bytes.length = true → Does (.unscheduledFrameReceived inP .other bytes) s (fun d =>
        d.net = { s.dev.net with recess := s.dev.net.recess ++ [⟨true, [outP], bytes, inP⟩] } ∧ d.host = s.dev.host ∧ s.dev.SameCore d)) ∧
      (fits = true → s.dev.net.roomFor true bytes.length = false → Does (.unscheduledFrameReceived inP .other bytes) s (fun d =>
        d.net = s.dev.net ∧ s.dev.Counted d (cPort (portIdx inP) 2) ∧ s.dev.SameCore d)) ∧
      (fits = false → Does (.unscheduledFrameReceived inP .other bytes) s (fun d =>
        d.net = s.dev.net ∧ s.dev.Counted d (cPort (portIdx outP) 1) ∧ s.dev.SameCore d)))

/-- LISTEN_WINDOW_END, COLDSTART_FRAME_RECEIVED, MEMBER_SILENCE_TIMEOUT, RING_SYNC_LOST (R305, R306, R45). A cold-start capable device
that heard nobody in its window starts the ring with GT zero; one that heard one node integrates on it; two starters back off. Silence
returns a member to LISTEN with its GT kept; a device that lost the ring's time runs on its own crystal and stops sending. -/
def Obligations.RingStart : Prop :=
  ∀ s : State,
    (∀ back : Bool, s.dev.hubUp = true → s.dev.net.ring = (if back then .backoff else .listen) →
      (s.dev.net.heard = [] → s.dev.coldCapable = true → s.dev.time.belled = false → Does .listenWindowEnd s (fun d =>
        d.net.ring = .coldstart ∧ d.time.run = true ∧ d.time.gt = 0 ∧ d.time.cycle = 0 ∧ d.time.bellGt = 0 ∧
        d.time.nextFc = BitVec.ofNat 64 s.dev.tn ∧ s.dev.net.since + s.dev.listenClk back ≤ d.time.clk ∧
        ((s.dev.net.east.up = true ∧ s.dev.net.east.wrapped = false) → ∃ f : BtnFrame, (Port.ringE, f) ∈ d.net.lastTx ∧ f.type = 3 ∧
          f.nodeId = s.dev.nodeId ∧ f.slot = 255 ∧ f.dir = false ∧ f.e2eCrc = btnCrc f) ∧
        ((s.dev.net.west.up = true ∧ s.dev.net.west.wrapped = false) → ∃ f : BtnFrame, (Port.ringW, f) ∈ d.net.lastTx ∧ f.type = 3 ∧
          f.nodeId = s.dev.nodeId ∧ f.slot = 255 ∧ f.dir = true ∧ f.e2eCrc = btnCrc f) ∧ s.dev.SameCore d)) ∧
      (s.dev.net.heard = [] → (s.dev.coldCapable = false ∨ s.dev.time.belled = true) → Does .listenWindowEnd s (fun d =>
        d.net = { s.dev.net with ring := .listen, since := d.clk, heard := [] } ∧ s.dev.SameCore d)) ∧
      (∀ (node : Nat) (dir : Bool) (t : Nat), s.dev.net.heard = [(node, dir, t)] → Does .listenWindowEnd s (fun d =>
        d.net = { s.dev.net with ring := .integrating, integ := some node, heard := [] } ∧ s.dev.SameCore d ∧
        (s.dev.time.belled = false → d.time.run = true ∧ d.time.gt = BitVec.ofNat 64 (s.dev.pathDelay node dir + (d.time.clk - t))))) ∧
      (∀ x y z, s.dev.net.heard = x :: y :: z → s.dev.coldCapable = true → Does .listenWindowEnd s (fun d =>
        d.net = { s.dev.net with ring := .backoff, since := d.clk, heard := [] } ∧ s.dev.Counted d (cNet 2) ∧ s.dev.SameCore d))) ∧
    (s.dev.net.ring ≠ .listen → s.dev.net.ring ≠ .backoff → exec .listenWindowEnd s = .next s) ∧
    (∀ (node : Nat) (dir : Bool),
      let side := fun (n : NetSt) (e : Bool) => if e then n.east else n.west
      let passes := fun (d : Dev) => s.dev.mutedRing node = false → (side s.dev.net dir).wrapped = false →
        (side s.dev.net (!dir)).up = true → (side s.dev.net (!dir)).wrapped = false →
        ∃ f : BtnFrame, ((if dir then Port.ringW else Port.ringE), f) ∈ d.net.lastTx ∧ f.type = 3 ∧ f.nodeId = node
      ((s.dev.hubUp = false ∨ s.dev.offRing = true) → exec (.coldstartFrameReceived node dir) s = .next s) ∧
      (s.dev.hubUp = true → s.dev.offRing = false →
        ((s.dev.standalone = true ∨ node = s.dev.nodeId) → Does (.coldstartFrameReceived node dir) s (fun d =>
          d.net.ring = s.dev.net.ring ∧ d.net.heard = s.dev.net.heard ∧ d.time = s.dev.time ∧ d.host = s.dev.host ∧ s.dev.SameCore d)) ∧
        (s.dev.standalone = false → node ≠ s.dev.nodeId →
          (s.dev.time.belled = true → Does (.coldstartFrameReceived node dir) s (fun d => d.net.ring = s.dev.net.ring ∧
            d.net.heard = s.dev.net.heard ∧ d.time = s.dev.time ∧ s.dev.Counted d (cNet 3) ∧ passes d ∧ s.dev.SameCore d)) ∧
          (s.dev.time.belled = false → (s.dev.net.ring = .listen ∨ s.dev.net.ring = .backoff) →
            Does (.coldstartFrameReceived node dir) s (fun d => d.net.ring = s.dev.net.ring ∧
              d.net.heard = s.dev.net.heard.filter (fun x => x.1 != node) ++ [(node, dir, s.dev.clk)] ∧ d.time = s.dev.time ∧ passes d ∧
              s.dev.SameCore d)) ∧
          (s.dev.time.belled = false → s.dev.net.ring = .coldstart → s.dev.gt < s.dev.tn →
            Does (.coldstartFrameReceived node dir) s (fun d => d.net.ring = .backoff ∧ d.net.since = s.dev.clk ∧ d.net.heard = [] ∧
              d.net.integ = none ∧ d.time = { s.dev.time with run := false } ∧ passes d ∧ s.dev.SameCore d))))) ∧
    (∀ t : Nat, s.dev.net.ring = .member → s.dev.net.heardAt = some t → Does .memberSilenceTimeout s (fun d =>
      d.net = { s.dev.net with ring := .listen, since := d.clk, heard := [], sending := false, synced := false, inBound := 0,
                               heardAt := none } ∧ t + 4 * s.dev.tn ≤ d.clk ∧ d.time.cycle = s.dev.time.cycle ∧ d.time.bellGt = s.dev.time.bellGt ∧
      d.host = s.dev.host ∧ s.dev.SameCore d)) ∧
    ((s.dev.net.ring ≠ .member ∨ s.dev.net.heardAt = none) → exec .memberSilenceTimeout s = .next s) ∧
    (s.dev.hubUp = true → s.dev.time.run = true → s.dev.standalone = false → s.dev.time.syncLost = false →
      Does .ringSyncLost s (fun d => d.time = { s.dev.time with syncLost := true, nextRate := some 0, carry := 0 } ∧
        d.net.sending = false ∧ d.net.synced = false ∧ d.host.door.getLsbD 26 = true ∧ s.dev.SameCore d))

/-! ### CAN FD -/

/-- CTRL_INIT_WRITE, BO_RECOVER, CAN_RECOVER, TXC_REQ, TXC_ABORT, CAN_RECOVERY_COMPLETE, CAN_BUS_INTEGRATED, CAN_BUS_ERROR (R310, R315 to
R317, R323, R403). CAN_RECOVER is refused unless its channel is lane-owned and in bus-off; its job ends when the channel is error active
again; a management-owned channel recovers by BO_RECOVER, which stays set when it is set again in that clock (R10). A host command to a lane-owned channel is ignored and counted twice. A channel leaves configuration only with settings in range,
and enters it by ending its waiting buffers ABORTED. -/
def Obligations.CanControl : Prop :=
  ∀ (s : State) (ch : Nat), s.dev.hubUp = true → ch < 4 → s.dev.can.length = 4 → (s.dev.chan ch).bufs.length = 3 →
    let c := s.dev.chan ch
    let frame := fun (d : Dev) => (∀ k : Nat, k ≠ ch → d.chan k = s.dev.chan k) ∧ d.lanes = s.dev.lanes ∧ d.vot = s.dev.vot ∧
      d.gd = s.dev.gd ∧ d.edge = s.dev.edge ∧ d.net = s.dev.net ∧ d.pair = s.dev.pair ∧ d.safe = s.dev.safe ∧ d.time = s.dev.time
    (c.laneOwn = true → ∀ (v : Word) (b : Nat) (x : Instr),
      (x = .ctrlInitWrite ch v ∨ x = .boRecover ch ∨ x = .txcReq ch b ∨ x = .txcAbort ch b) →
      Does x s (fun d => d.chan ch = c ∧
        lookupNat d.host.cnt (cMgmt 5) = some (min (2 ^ 32 - 1) ((lookupNat s.dev.host.cnt (cMgmt 5)).getD 0 + 1)) ∧
        lookupNat d.host.cnt (cCan ch 8) = some (min (2 ^ 32 - 1) ((lookupNat s.dev.host.cnt (cCan ch 8)).getD 0 + 1)) ∧ frame d)) ∧
    (c.laneOwn = false →
      (∀ v : Word, v.getLsbD 31 = false → v.getLsbD 30 = false → bits v.toNat 27 24 ≠ 0 → c.init = true →
        Does (.ctrlInitWrite ch v) s (fun d => d.chan ch = { c with
          listen := v.getLsbD 29, order := v.getLsbD 28, collLim := bits v.toNat 27 24, ie := bits v.toNat 23 20,
          init := !(nbtOk c.nbt && dbtOk c.nbt c.dbt),
          initReq := c.initReq && !(nbtOk c.nbt && dbtOk c.nbt c.dbt) } ∧ d.host = s.dev.host ∧ frame d)) ∧
      (∀ v : Word, v.getLsbD 31 = true → v.getLsbD 30 = false → c.init = false → c.sending = none →
        Does (.ctrlInitWrite ch v) s (fun d => (d.chan ch).init = true ∧ (d.chan ch).bus = (if c.bus = 2 then 2 else 3) ∧
          (d.chan ch).listen = c.listen ∧ (d.chan ch).order = c.order ∧ (d.chan ch).collLim = c.collLim ∧
          (∀ b : Nat, b < 3 → (d.chan ch).buf b = if (c.buf b).req then (c.buf b).finish 2 else c.buf b) ∧ frame d)) ∧
      (∀ v : Word, v.getLsbD 31 = true → v.getLsbD 30 = false → c.init = false → c.sending ≠ none →
        Does (.ctrlInitWrite ch v) s (fun d => (d.chan ch).init = true ∧ (d.chan ch).initReq = true ∧ (d.chan ch).bus = c.bus ∧
          (d.chan ch).sending = c.sending ∧ (d.chan ch).bufs = c.bufs ∧ frame d)) ∧
      (Does (.boRecover ch) s (fun d => d.chan ch = (if c.bus = 2 then { c with boRec := true } else c) ∧ d.host = s.dev.host ∧ frame d)) ∧
      (∀ b : Nat, b < 3 → Does (.txcReq ch b) s (fun d => d.host = s.dev.host ∧ frame d ∧
        (∀ k : Nat, k ≠ b → (d.chan ch).buf k = c.buf k) ∧ (d.chan ch).buf b =
          if (c.buf b).req then c.buf b else { c.buf b with req := true, abort := false, result := 0, coll := 0 })) ∧
      (∀ b : Nat, b < 3 → (c.buf b).req = true → Does (.txcAbort ch b) s (fun d => frame d ∧
        (∀ k : Nat, k ≠ b → (d.chan ch).buf k = c.buf k) ∧ (d.chan ch).buf b =
          if c.sending.map (·.1) = some b then { c.buf b with abort := true } else (c.buf b).finish 2)) ∧
      (∀ b : Nat, (c.buf b).req = false → exec (.txcAbort ch b) s = .next s)) ∧
    (∀ again : Bool, c.boRec = true → c.bus = 2 → Does (.canRecoveryComplete ch again) s (fun d => d.chan ch =
      { c with boRec := again && !c.laneOwn, tec := 0, rec_ := 0, job := none, bus := if c.init then 3 else 0 } ∧ frame d)) ∧
    (∀ again : Bool, (c.boRec = false ∨ c.bus ≠ 2) → exec (.canRecoveryComplete ch again) s = .next s) ∧
    (c.bus = 3 → c.init = false → Does (.canBusIntegrated ch) s (fun d => d.chan ch = { c with bus := 0 } ∧ frame d)) ∧
    ((c.bus ≠ 3 ∨ c.init = true) → exec (.canBusIntegrated ch) s = .next s) ∧
    (∀ rec : Nat, c.bus < 2 → c.tec < 256 → rec < 256 → Does (.canBusError ch rec) s (fun d =>
      d.chan ch = { c with rec_ := rec, bus := if 128 ≤ c.tec ∨ 128 ≤ rec then 1 else 0 } ∧ frame d)) ∧
    (∀ rec : Nat, 2 ≤ c.bus → exec (.canBusError ch rec) s = .next s) ∧
    (∀ r : Request, s.dev.Serves r 0x0801 → argOf r 0 = ch →
      ((c.laneOwn = false ∨ c.bus ≠ 2) → Does (.canRecover r) s (fun d => d.chan ch = c ∧
        s.dev.Answered d r.mbox (replyWords r 0x0801 0 0x13 6 []) ∧ s.dev.Quiet d)) ∧
      (c.laneOwn = true → c.bus = 2 → c.job = none → Does (.canRecover r) s (fun d =>
        d.chan ch = { c with boRec := true, job := some s.dev.mgmt.nextJob } ∧ s.dev.Accepted d r 0x0801 ∧ frame d))) ∧
    (∀ n : Nat, c.boRec = true → c.bus = 2 → c.init = false → c.job = some n → Does (.canRecoveryComplete ch false) s (fun d =>
      (d.chan ch).bus = 0 ∧ ∀ j ∈ s.dev.mgmt.jobs, j.num = n → j.done = false → ∃ k ∈ d.mgmt.jobs, k.num = n ∧ k.done = true ∧ k.status = 0))

/-- CAN_START_OF_FRAME, CAN_ATTEMPT_END, CAN_BUFFER_ENTRY (R316 to R318, R323, R326). The buffer with the lowest arbitration key, or the
lowest index, is sent, with ESI while the channel is error passive; its attempt ends SENT with its time stamp, ABORTED, COLLISIONS at the limit, or stays requested; bus-off ends
every requested buffer BUS_OFF. The frame the lanes voted for enters its buffer at its time, while it is sent it waits beside it. -/
def Obligations.CanSending : Prop :=
  ∀ (s : State) (ch : Nat), s.dev.hubUp = true → ch < 4 → s.dev.can.length = 4 → (s.dev.chan ch).bufs.length = 3 →
    let c := s.dev.chan ch
    let frame := fun (d : Dev) => (∀ k : Nat, k ≠ ch → d.chan k = s.dev.chan k) ∧ d.lanes = s.dev.lanes ∧ d.vot = s.dev.vot ∧
      d.gd = s.dev.gd ∧ d.edge = s.dev.edge ∧ d.pair = s.dev.pair ∧ d.safe = s.dev.safe
    (∀ k : Nat, k < 3 → (c.buf k).req = true → c.canSend = true → Does (.canStartOfFrame ch) s (fun d =>
      (∃ b : Nat, b < 3 ∧ (c.buf b).req = true ∧ d.chan ch =
          CanSt.onBuf { c with sending := some (b, BitVec.ofNat 32 s.dev.gt) } b (fun x => { x with obj := setEsi (c.bus == 1) x.obj }) ∧
        (c.order = false → arbKey (c.buf b).obj ≤ arbKey (c.buf k).obj) ∧ (c.order = true → b ≤ k)) ∧ d.host = s.dev.host ∧ frame d)) ∧
    (c.canSend = false → exec (.canStartOfFrame ch) s = .next s) ∧
    (∀ (b tec rec : Nat) (ts : Word) (how : CanEnd), b < 3 → c.sending = some (b, ts) →
      let x := c.buf b
      (busOf tec rec = c.bus → tec < 256 → rec < 256 → c.initReq = false → x.repl = none → x.req = true →
        (how = .success → Does (.canAttemptEnd ch how tec rec) s (fun d => (d.chan ch).sending = none ∧ (d.chan ch).tec = tec ∧
          (d.chan ch).rec_ = rec ∧ ((d.chan ch).buf b).result = 1 ∧ ((d.chan ch).buf b).req = false ∧
          ((d.chan ch).buf b).obj = { x.obj with ts := ts } ∧ (∀ k : Nat, k ≠ b → (d.chan ch).buf k = c.buf k) ∧ frame d)) ∧
        (how ≠ .success → x.abort = true → Does (.canAttemptEnd ch how tec rec) s (fun d => (d.chan ch).sending = none ∧
          ((d.chan ch).buf b).result = 2 ∧ ((d.chan ch).buf b).req = false ∧ ((d.chan ch).buf b).obj = x.obj ∧ frame d)) ∧
        (how = .collision → x.abort = false → c.collLim ≤ x.coll + 1 → Does (.canAttemptEnd ch how tec rec) s (fun d =>
          (d.chan ch).sending = none ∧ ((d.chan ch).buf b).result = 3 ∧ ((d.chan ch).buf b).req = false ∧
          s.dev.Counted d (cCan ch 3) ∧ frame d)) ∧
        (how = .collision → x.abort = false → x.coll + 1 < c.collLim → Does (.canAttemptEnd ch how tec rec) s (fun d =>
          (d.chan ch).sending = none ∧ (d.chan ch).buf b = { x with coll := x.coll + 1 } ∧ d.host = s.dev.host ∧ frame d)) ∧
        ((how = .lost ∨ how = .error) → x.abort = false → Does (.canAttemptEnd ch how tec rec) s (fun d =>
          (d.chan ch).sending = none ∧ (d.chan ch).buf b = { x with coll := 0 } ∧ d.host = s.dev.host ∧ frame d))) ∧
      (256 ≤ tec → c.bus < 2 → c.initReq = false → Does (.canAttemptEnd ch how tec rec) s (fun d => (d.chan ch).bus = 2 ∧
        (d.chan ch).sending = none ∧ (∀ k : Nat, k < 3 → ((d.chan ch).buf k).req = false ∧ ((d.chan ch).buf k).repl = none ∧
          ((c.buf k).req = true → ((d.chan ch).buf k).result = 4)) ∧ frame d))) ∧
    (c.sending = none → ∀ (how : CanEnd) (tec rec : Nat), exec (.canAttemptEnd ch how tec rec) s = .next s) ∧
    (∀ (desc : Nat) (g : Img) (p : TxPay), s.dev.boot.running = some g → s.dev.net.txq.find? (fun p => p.desc == desc) = some p →
      (payOf g desc).can = true → (payOf g desc).chan = ch → (payOf g desc).buf < 3 →
      let b := (payOf g desc).buf
      let o : CanObj := { h0 := BitVec.ofNat 32 (payOf g desc).h0, h1 := BitVec.ofNat 32 (payOf g desc).h1, ts := 0, data := p.bytes }
      let gone := fun (d : Dev) => p ∉ d.net.txq ∧ (∀ q ∈ s.dev.net.txq, q ≠ p → q ∈ d.net.txq) ∧ frame d ∧
        (∀ k : Nat, k ≠ b → (d.chan ch).buf k = c.buf k)
      (s.dev.isActive = false → Does (.canBufferEntry desc) s (fun d => d.chan ch = c ∧ gone d)) ∧
      (s.dev.isActive = true → c.bus = 2 → Does (.canBufferEntry desc) s (fun d => d.chan ch = c ∧
        s.dev.Counted d (cCan ch 7) ∧ gone d)) ∧
      (s.dev.isActive = true → c.bus ≠ 2 → Does (.canBufferEntry desc) s (fun d => d.host = s.dev.host ∧ gone d ∧
        (d.chan ch).buf b = if c.sending.map (·.1) = some b then { c.buf b with repl := some o } else { c.buf b with
          obj := o, req := true, abort := false, coll := 0, result := if (c.buf b).req then 5 else 0 })))

/-- CAN_FRAME_RECEIVED, HEAD_OBJECT_H0_READ, HEAD_OBJECT_RELEASE_READ (R319 to R321, R324, R327). A frame that matches the high-priority
filter fills the high-priority object or is lost when that is full; else the first enabled matching filter discards it or routes it to
the FIFO of 16 or, on a lane-owned channel, to that filter's lane object; a frame no filter accepts is counted. A protocol exception makes the channel integrate again (R310). -/
def Obligations.CanReceiving : Prop :=
  ∀ (s : State) (ch : Nat), s.dev.hubUp = true → ch < 4 → s.dev.can.length = 4 →
    let c := s.dev.chan ch
    let frame := fun (d : Dev) => (∀ k : Nat, k ≠ ch → d.chan k = s.dev.chan k) ∧ d.lanes = s.dev.lanes ∧ d.vot = s.dev.vot ∧
      d.gd = s.dev.gd ∧ d.edge = s.dev.edge ∧ d.net = s.dev.net ∧ d.pair = s.dev.pair ∧ d.safe = s.dev.safe
    (∀ (f : CanFrame) (rec : Nat), c.bus < 2 → f.fdf = true → f.res = true → Does (.canFrameReceived ch f rec) s (fun d =>
      d.chan ch = { c with bus := 3 } ∧ s.dev.Counted d (cCan ch 5) ∧ frame d)) ∧
    (∀ (f : CanFrame) (rec : Nat), c.bus < 2 → (f.fdf && f.res) = false → busOf c.tec rec = c.bus → c.tec < 256 → rec < 256 →
      let e := { c with rec_ := rec }
      let hit := fun (i : Nat) => filtMatch (c.filts.getD i (0, 0)) f
      let first := fun (i : Nat) => i < 32 ∧ hit i = true ∧ (∀ k : Nat, k < i → hit k = false) ∧
        (c.laneOwn = true ∨ filtMatch c.hpFilt f = false)
      (c.laneOwn = false → filtMatch c.hpFilt f = true → c.hp = none → Does (.canFrameReceived ch f rec) s (fun d =>
        d.chan ch = { e with hp := some (frameObj f 0x3F), hpLock := false } ∧ frame d)) ∧
      (c.laneOwn = false → filtMatch c.hpFilt f = true → c.hp ≠ none → Does (.canFrameReceived ch f rec) s (fun d =>
        d.chan ch = { e with hpLost := true } ∧ s.dev.Counted d (cCan ch 2) ∧ frame d)) ∧
      ((c.laneOwn = true ∨ filtMatch c.hpFilt f = false) → (∀ k : Nat, k < 32 → hit k = false) → Does (.canFrameReceived ch f rec) s (fun d =>
        d.chan ch = e ∧ s.dev.Counted d (cCan ch 0) ∧ frame d)) ∧
      (∀ i : Nat, first i →
        ((c.filts.getD i (0, 0)).1.getLsbD 30 = true → Does (.canFrameReceived ch f rec) s (fun d => d.chan ch = e ∧
          d.host = s.dev.host ∧ frame d)) ∧
        ((c.filts.getD i (0, 0)).1.getLsbD 30 = false → c.laneOwn = false → c.fifo.length < 16 → Does (.canFrameReceived ch f rec) s (fun d =>
          d.chan ch = { e with fifo := c.fifo ++ [frameObj f i] } ∧ frame d)) ∧
        ((c.filts.getD i (0, 0)).1.getLsbD 30 = false → c.laneOwn = false → 16 ≤ c.fifo.length → Does (.canFrameReceived ch f rec) s (fun d =>
          d.chan ch = { e with rxOvf := true } ∧ s.dev.Counted d (cCan ch 1) ∧ frame d)) ∧
        ((c.filts.getD i (0, 0)).1.getLsbD 30 = false → c.laneOwn = true → Does (.canFrameReceived ch f rec) s (fun d =>
          (∃ r ∈ (d.chan ch).lanes, r.obj = i ∧ r.filling = some (frameObj f i) ∧ r.endGt = s.dev.gt) ∧
          (∀ r ∈ c.lanes, r.obj ≠ i → r ∈ (d.chan ch).lanes) ∧ (d.chan ch).fifo = c.fifo ∧ (d.chan ch).hp = c.hp ∧ frame d)))) ∧
    (2 ≤ c.bus → ∀ (f : CanFrame) (rec : Nat), exec (.canFrameReceived ch f rec) s = .next s) ∧
    Does (.headObjectH0Read ch true) s (fun d => d.chan ch = { c with hpLock := c.hp.isSome } ∧ d.host = s.dev.host ∧ frame d) ∧
    Does (.headObjectH0Read ch false) s (fun d => d.chan ch = { c with fifoLock := !c.fifo.isEmpty } ∧ d.host = s.dev.host ∧ frame d) ∧
    Does (.headObjectReleaseRead ch true) s (fun d => d.chan ch = { c with hp := none, hpLock := false } ∧ d.host = s.dev.host ∧ frame d) ∧
    Does (.headObjectReleaseRead ch false) s (fun d => d.chan ch = { c with fifo := c.fifo.drop 1, fifoLock := false } ∧
      d.host = s.dev.host ∧ frame d)

/-! ### The pair -/

/-- Heartbeats and roles (R328, R332 to R334, R336, R342, R343). A HEARTBEAT carries the role, EPOCH and released digest of its boundary; a
received one is recorded, a standby adopts the active's EPOCH, two ACTIVE devices leave one ACTIVE; a later copy of a service frame and one
that is not valid change nothing; a device in INIT that hears nobody becomes ACTIVE, one that waits in CASTING in vain returns to INIT, and
one IN_STEP without digests is DETACHED. Every role change takes effect at the next fast-cycle boundary. -/
def Obligations.PairHeartbeats : Prop :=
  ∀ s : State,
    let p := s.dev.pair
    let b := s.dev.fcStart
    let frame := fun (d : Dev) => d.lanes = s.dev.lanes ∧ d.vot = s.dev.vot ∧ d.gd = s.dev.gd ∧ d.edge = s.dev.edge ∧ d.net = s.dev.net ∧
      d.can = s.dev.can ∧ d.safe = s.dev.safe ∧ d.boot = s.dev.boot
    let takes := fun (n : SvcIn) => s.dev.pairUp = true ∧ n.ok = true ∧ p.svcRx.getD 0 none ≠ some n.seq
    (∀ x : BitVec 64, s.dev.pairUp = true → p.hubRole ≠ .casting → s.dev.ownFor b = some x →
      Does .pairHeartbeatSend s (fun d => (∃ h : Heartbeat, d.pair.sentHb = some h ∧ h.state = p.hubRole.code ∧ h.tc = tcRole p.hubRole ∧
        h.pairId = p.pairId ∧ h.epoch = p.epoch ∧ h.fcGt = BitVec.ofNat 64 b ∧ h.digest = x ∧ h.live = laneMask s.dev.liveLanes ∧
        (∃ f ∈ d.pair.svcSent, f.body = .heartbeat h) ∧
        (h.handover = true → d.pair.next = some (.inStep, BitVec.ofNat 64 (b + 2 * s.dev.tf)))) ∧ d.pair.role = p.role ∧ frame d)) ∧
    (s.dev.pairUp = true → p.hubRole = .casting → Does .pairHeartbeatSend s (fun d => (∃ h : Heartbeat, d.pair.sentHb = some h ∧
      h.state = 2 ∧ h.tc = false ∧ h.digest = 0 ∧ h.handover = false) ∧ d.pair.role = p.role ∧ frame d)) ∧
    (p.hubRole ≠ .casting → s.dev.ownFor b = none → exec .pairHeartbeatSend s = .next s) ∧
    (∀ (n : SvcIn) (h : Heartbeat) (img : ImgMatch), p.svcRx.length = 4 → takes n → Does (.pairHeartbeatReceived n h img) s (fun d =>
      d.pair.partner = some h ∧ d.pair.seen = true ∧ d.pair.role = p.role ∧ d.pair.svcRx.getD 0 none = some n.seq ∧ frame d ∧
      (h.state = 1 → d.pair.lastHb = s.dev.clk ∧ (p.hubRole ≠ .active → d.pair.epoch = h.epoch)) ∧
      (h.state ≠ 1 → d.pair.lastHb = p.lastHb ∧ d.pair.epoch = p.epoch) ∧
      (p.hubRole = .init → h.state = 1 → img ≠ .other → d.pair.next = some (.casting, BitVec.ofNat 64 s.dev.nextFc) ∧
        d.pair.sentRole = some (4, 0, 0)) ∧
      (p.hubRole = .init → h.state = 1 → img = .other → d.pair.next = p.next ∧ d.pair.sentRole = some (4, 0, 0)) ∧
      (p.hubRole = .init → h.state = 0 → d.pair.next =
        if p.pairId then p.next else some (.active, BitVec.ofNat 64 s.dev.nextFc)) ∧
      (p.hubRole = .active → h.state = 1 → d.pair.dual = true ∧ ((p.epoch.toNat < h.epoch.toNat ∨ (h.epoch = p.epoch ∧ p.pairId = true)) →
        d.pair.next = some (.casting, BitVec.ofNat 64 s.dev.nextFc)) ∧
        ((h.epoch.toNat < p.epoch.toNat ∨ (h.epoch = p.epoch ∧ p.pairId = false)) → d.pair.next = p.next)) ∧
      ((p.hubRole = .inStep ∨ p.hubRole = .detached) → h.state = 1 → h.handover = true →
        d.pair.next = some (.active, BitVec.ofNat 64 (h.fcGt.toNat + 2 * s.dev.tf))))) ∧
    (∀ (n : SvcIn) (h : Heartbeat) (img : ImgMatch), ¬ takes n → exec (.pairHeartbeatReceived n h img) s = .next s) ∧
    (s.dev.paired = true → s.dev.boot.released = true → p.hubRole = .init → p.partner = none → Does .initPartnerTimeout s (fun d =>
      d.pair = { p with next := some (.active, BitVec.ofNat 64 s.dev.nextFc) } ∧
      p.relClk + (if p.pairId then 6 else 4) * s.dev.tn ≤ d.clk ∧ frame d)) ∧
    ((p.hubRole ≠ .init ∨ p.partner ≠ none) → exec .initPartnerTimeout s = .next s) ∧
    (s.dev.paired = true → p.hubRole = .casting → Does .castingTimeout s (fun d => d.pair = { p with
      next := some (.init, BitVec.ofNat 64 s.dev.nextFc), castIn := [], partner := none } ∧ p.lastHb + 2 * s.dev.tn ≤ d.clk ∧ frame d)) ∧
    (p.hubRole ≠ .casting → exec .castingTimeout s = .next s) ∧
    (s.dev.paired = true → p.hubRole = .inStep → Does .detach s (fun d =>
      d.pair = { p with next := some (.detached, BitVec.ofNat 64 s.dev.nextFc), noDig := max 2 p.noDig } ∧ frame d)) ∧
    (p.hubRole ≠ .inStep → exec .detach s = .next s) ∧
    (∀ port1 : Bool, s.dev.hubUp = true → Does (.pairLinkUp port1) s (fun d => (if port1 then d.pair.up1 else d.pair.up0) = true ∧
      d.time = { s.dev.time with serdesBad := false } ∧ frame d ∧
      ((s.dev.paired = true ∧ p.hubRole = .detached ∧ p.update = false) →
        d.pair.next = some (.casting, BitVec.ofNat 64 s.dev.nextFc) ∧ d.pair.sentRole = some (4, 0, 0)) ∧
      ((s.dev.paired = false ∨ p.hubRole ≠ .detached ∨ p.update = true) → d.pair.next = p.next ∧ d.pair.sentRole = p.sentRole)))

/-- HEARTBEAT_DEADLINE (R336, R340). Equal digests of one boundary bring a standby in PROBATION to IN_STEP at the second match; different
ones are counted, recorded and recast the standby; a standby without two digests is DETACHED; a takeover-capable standby that the active
has left silent on the pair link and on the ring becomes ACTIVE with EPOCH + 1, and one that has heard it does not. -/
def Obligations.HeartbeatDeadline : Prop :=
  ∀ s : State, s.dev.paired = true → s.dev.hubUp = true →
    let p := s.dev.pair
    let b := s.dev.fcStart
    let heard := match s.dev.hbFor b with | some h => h.state == 1 | none => false
    let ring := match p.ringTx with | some t => decide (b - s.dev.tf ≤ t.toNat) | none => false
    let frame := fun (d : Dev) => d.lanes = s.dev.lanes ∧ d.vot = s.dev.vot ∧ d.gd = s.dev.gd ∧ d.edge = s.dev.edge ∧ d.net = s.dev.net ∧
      d.can = s.dev.can ∧ d.safe = s.dev.safe ∧ d.pair.role = p.role
    (∀ (h : Heartbeat) (x : BitVec 64), p.next = none → s.dev.ownFor b = some x → s.dev.hbFor b = some h → h.state = 1 →
      (p.role = .probation ∨ p.role = .inStep) →
      (h.digest = x → Does .heartbeatDeadline s (fun d => d.pair.matches_ = p.matches_ + 1 ∧ d.pair.silent = 0 ∧ d.pair.noDig = 0 ∧
        d.pair.epoch = p.epoch ∧ d.host = s.dev.host ∧ frame d ∧
        d.pair.next = if p.role = .probation ∧ 1 ≤ p.matches_ then some (.inStep, BitVec.ofNat 64 s.dev.nextFc) else none)) ∧
      (h.digest ≠ x → p.disagree = [] → Does .heartbeatDeadline s (fun d => d.pair.mismatch = satInc 255 p.mismatch ∧
        d.pair.next = some (.casting, BitVec.ofNat 64 s.dev.nextFc) ∧ d.pair.sentRole = some (4, 0, 0) ∧
        d.pair.epoch = p.epoch ∧ s.dev.Counted d (cNet 10) ∧ frame d))) ∧
    (p.role = .detached → p.next = none → heard = false → s.dev.tcNow = true → 1 ≤ p.silent → ring = false → p.swap = none →
      Does .heartbeatDeadline s (fun d => d.pair.next = some (.active, BitVec.ofNat 64 s.dev.nextFc) ∧ d.pair.epoch = p.epoch + 1 ∧
        d.pair.takeovers = satInc 255 p.takeovers ∧ s.dev.Counted d (cNet 4) ∧ frame d)) ∧
    (p.role = .detached → p.next = none → (heard = true ∨ ring = true ∨ p.silent = 0 ∨ s.dev.tcNow = false) →
      Does .heartbeatDeadline s (fun d => d.pair.next = none ∧ d.pair.epoch = p.epoch ∧
        d.pair.silent = (if heard then 0 else p.silent + 1) ∧ frame d)) ∧
    (p.role = .inStep → p.next = none → s.dev.hbFor b = none → 1 ≤ p.noDig → (p.silent = 0 ∨ ring = true) →
      Does .heartbeatDeadline s (fun d => d.pair.next = some (.detached, BitVec.ofNat 64 s.dev.nextFc) ∧ d.pair.epoch = p.epoch ∧
        s.dev.Counted d (cNet 9) ∧ frame d))

/-- Casts, swaps and relays between the devices of a pair (R328, R335, R337, R338, R344, R345, R379, R401). Only an ACTIVE device answers a
cast request: a full cast for the same image, an update cast for the same state set, none otherwise, which is counted. A cast in progress
writes the state set of every lane, and a record of an incremental cast is staged. A standby accepts a swap in IN_STEP, or for an update in
DETACHED after an update cast, and refuses any other; a refused swap ends its job with 0x06. A later copy of a frame, and one that is not
valid, change nothing. -/
def Obligations.PairSwaps : Prop :=
  ∀ s : State,
    let p := s.dev.pair
    let frame := fun (d : Dev) => d.vot = s.dev.vot ∧ d.gd = s.dev.gd ∧ d.edge = s.dev.edge ∧ d.net = s.dev.net ∧ d.can = s.dev.can ∧
      d.safe = s.dev.safe ∧ d.pair.role = p.role ∧ d.pair.next = p.next ∧ d.pair.epoch = p.epoch
    let same := fun (d : Dev) => d.lanes = s.dev.lanes ∧ d.host = s.dev.host ∧ d.pair.castReq = p.castReq ∧ d.pair.swap = p.swap ∧
      d.pair.sentRole = p.sentRole ∧ d.pair.castIn = p.castIn ∧ frame d
    let takes := fun (type : Nat) (n : SvcIn) => s.dev.pairUp = true ∧ n.ok = true ∧ p.svcRx.getD (type - 1) none ≠ some n.seq
    let aborted := fun (d : Dev) (j : Nat) (st de : Nat) => ∀ k ∈ s.dev.mgmt.jobs, k.num = j → k.done = false →
      ∃ i ∈ d.mgmt.jobs, i.num = j ∧ i.done = true ∧ i.status = st ∧ i.detail = de
    (∀ n : SvcIn, (¬ takes 4 n → (∀ ask : CastAsk, exec (.castRequest n ask) s = .next s) ∧
        (∀ (kind : Nat) (c : BitVec 32), exec (.swapPropose n kind c) s = .next s) ∧ exec (.swapAccept n) s = .next s ∧
        exec (.swapRefuse n) s = .next s) ∧
      (¬ takes 2 n → ∀ f : CastFrame, exec (.castFrameReceived n f) s = .next s)) ∧
    (∀ (n : SvcIn) (ask : CastAsk) (g : Img), s.dev.boot.running = some g → takes 4 n →
      (p.hubRole = .active → p.castReq = none → p.castOut = none →
        (ask.digest = g.digest → Does (.castRequest n ask) s (fun d => d.pair.castReq = some false ∧ d.lanes = s.dev.lanes ∧ frame d)) ∧
        (ask.digest ≠ g.digest → ask.sameState = true → Does (.castRequest n ask) s (fun d => d.pair.castReq = some true ∧
          d.lanes = s.dev.lanes ∧ frame d)) ∧
        (ask.digest ≠ g.digest → ask.sameState = false → Does (.castRequest n ask) s (fun d => d.pair.castReq = none ∧
          s.dev.Counted d (cNet 7) ∧ d.lanes = s.dev.lanes ∧ frame d))) ∧
      ((p.hubRole ≠ .active ∨ p.castReq ≠ none ∨ p.castOut ≠ none) → Does (.castRequest n ask) s same)) ∧
    (∀ (n : SvcIn) (f : CastFrame) (g : Img), s.dev.boot.running = some g → takes 2 n →
      (p.hubRole = .casting → f.kind = 3 → Does (.castFrameReceived n f) s (fun d => f.src ∈ d.pair.castIn ∧
        (∀ l ∈ p.castIn, l ∈ d.pair.castIn) ∧ d.pair.castInGt = BitVec.ofNat 64 s.dev.gt ∧ d.lanes = s.dev.lanes ∧ frame d)) ∧
      (∀ (l : Lane) (b : Byte) (i a : Nat), p.hubRole = .casting → (f.kind = 1 ∨ f.kind = 2) → f.data = [b] → f.items = [] →
        f.offset = castBase g (s.dev.lane l) + i → stateAddr g.ranges i = some a → slotGap a = false → memWf (s.dev.lane l).mem = true →
        Does (.castFrameReceived n f) s (fun d => memGet (d.lane l).mem a = b ∧
          (∀ x : Nat, x ≠ a → memGet (d.lane l).mem x = memGet (s.dev.lane l).mem x) ∧ (d.lane l).seq = (s.dev.lane l).seq ∧
          (d.lane l).cfg = (s.dev.lane l).cfg ∧ d.pair.castIn = p.castIn ∧ frame d)) ∧
      ((p.hubRole = .probation ∨ p.hubRole = .inStep ∨ p.hubRole = .detached) → f.kind = 4 → f.commit = none →
        Does (.castFrameReceived n f) s (fun d => ∀ l : Lane, (∃ c : CfgField, (d.lane l).field f.pid = some c ∧ c.staged = some f.value) ∧
          (d.lane l).mem = (s.dev.lane l).mem ∧ (d.lane l).seq = (s.dev.lane l).seq ∧ frame d)) ∧
      ((p.hubRole = .init ∨ p.hubRole = .active ∨ p.hubRole = .faulty) → Does (.castFrameReceived n f) s same)) ∧
    (∀ (n : SvcIn) (kind : Nat) (c : BitVec 32), takes 4 n →
      let fit := (kind = 1 ∧ p.hubRole = .detached ∧ p.update = true) ∨ (kind ≠ 1 ∧ p.hubRole = .inStep)
      (fit → Does (.swapPropose n kind c) s (fun d => d.pair.swap = some (kind, c, true, none) ∧ d.pair.sentRole = some (2, kind, c) ∧
        d.lanes = s.dev.lanes ∧ frame d)) ∧
      (p.hubRole ≠ .active → ¬ fit → Does (.swapPropose n kind c) s (fun d => d.pair.swap = p.swap ∧ d.pair.sentRole = some (3, kind, c) ∧
        d.lanes = s.dev.lanes ∧ frame d)) ∧
      (p.hubRole = .active → Does (.swapPropose n kind c) s same)) ∧
    (∀ (n : SvcIn) (k : Nat) (c : BitVec 32) (a : Bool) (j : Option Nat), takes 4 n → p.swap = some (k, c, a, j) → p.role = .active →
      p.next = none →
      Does (.swapAccept n) s (fun d => d.pair.swap = some (k, c, true, j) ∧ d.pair.accGt = s.dev.gt ∧ d.lanes = s.dev.lanes ∧ frame d) ∧
      Does (.swapRefuse n) s (fun d => d.pair.swap = none ∧ s.dev.Counted d (cNet 6) ∧ d.lanes = s.dev.lanes ∧ frame d ∧
        (∀ m : Nat, j = some m → aborted d m 0x19 6))) ∧
    (∀ n : SvcIn, takes 4 n → (p.swap = none ∨ p.hubRole ≠ .active) → Does (.swapAccept n) s same ∧ Does (.swapRefuse n) s same) ∧
    (s.dev.pairUp = true → p.hubRole = .active → s.dev.partnerReady = true → p.swap = none →
      dyLt (dyInt 0) (sigVal (valSig (s.dev.nextVal 0x0B5))) = true → Does .autoSwapExpiry s (fun d => ∃ c : BitVec 32,
        d.pair.swap = some (0, c, false, none) ∧ d.pair.sentRole = some (1, 0, c) ∧ c = swapCycle d ∧ d.lanes = s.dev.lanes ∧ frame d)) ∧
    ((s.dev.partnerReady = false ∨ p.swap ≠ none) → exec .autoSwapExpiry s = .next s) ∧
    (∀ (n k : Nat) (ws : List Word), p.relay = some (n, ws, k) →
      (k ≤ 16 → Does .pairRelayRetry s (fun d => d.pair.relay = some (n, ws, k + 1) ∧ d.mgmt = s.dev.mgmt ∧ frame d)) ∧
      (16 < k → Does .pairRelayRetry s (fun d => d.pair = { p with relay := none } ∧ aborted d n 3 0 ∧ frame d))) ∧
    (p.relay = none → exec .pairRelayRetry s = .next s)

/-! ### Recovery of a lane -/

/-- CAST_SWEEP_END, ROTATION_START, LANE_BIST_DONE (R105, R109, R111, R119, R120, R260, R436, R437). A source's marker is recorded, with
whether the target's calibration table was found bad; one whose reads failed takes it out with cause 6; a rotation takes the next lane out
with cause 8 and starts its BIST; a BIST that ends well, or whose one failing cell a spare row repairs, leaves the lane waiting for its
cast, and one that fails makes it FAILED, with the memory and macro concerned. -/
def Obligations.LaneRecovery : Prop :=
  ∀ s : State,
    let outside := fun (d : Dev) => d.edge = s.dev.edge ∧ d.net = s.dev.net ∧ d.can = s.dev.can ∧ d.pair = s.dev.pair ∧ d.boot = s.dev.boot
    (∀ (src t : Lane) (marks : List Lane) (g : BitVec 64) (cal : Bool), s.dev.vot.cast = some (t, marks, g) → s.dev.isLive src = true →
      src ≠ t →
      Does (.castSweepEnd src false cal) s (fun d => (∃ m : List Lane, d.vot.cast = some (t, m, BitVec.ofNat 64 s.dev.gt) ∧ src ∈ m ∧
        ∀ x ∈ marks, x ∈ m) ∧ (d.lane t).meas.calBad = ((s.dev.lane t).meas.calBad || cal) ∧ (d.lane t).mem = (s.dev.lane t).mem ∧
        (d.lane t).seq = (s.dev.lane t).seq ∧ (∀ x : Lane, x ≠ t → d.lane x = s.dev.lane x) ∧ d.time = s.dev.time ∧ outside d) ∧
      Does (.castSweepEnd src true cal) s (fun d => d.phase src = .out ∧ (d.lane src).seq.cause = 6 ∧ d.vot.cast = none ∧
        (∀ x : Lane, x ≠ src → d.lane x = s.dev.lane x))) ∧
    (∀ (src : Lane) (q cal : Bool), s.dev.vot.cast = none → exec (.castSweepEnd src q cal) s = .next s) ∧
    (s.dev.boot.released = true → s.dev.liveCount = 3 → s.dev.vot.cast = none → s.dev.vot.rot = none → s.dev.paired = false →
      s.dev.hubUp = true → Does .rotationStart s (fun d => d.phase s.dev.vot.rotNext = .out ∧ (d.lane s.dev.vot.rotNext).seq.cause = 8 ∧
        d.vot.rot = some s.dev.vot.rotNext ∧ d.vot.rotBist = true ∧ d.vot.rotNext = nextLane s.dev.vot.rotNext ∧
        (∃ c : Nat, (s.dev.vot.rotNext, c) ∈ d.test.bistRun ∧ s.dev.clk ≤ c) ∧
        (∀ x : Lane, x ≠ s.dev.vot.rotNext → d.lane x = s.dev.lane x) ∧ outside d)) ∧
    ((s.dev.liveCount ≠ 3 ∨ s.dev.vot.cast ≠ none ∨ s.dev.vot.rot ≠ none) → exec .rotationStart s = .next s) ∧
    (∀ (l : Lane) (c : Nat), s.dev.test.bistRun.find? (fun x => x.1 == l) = some (l, c) →
      let frame := fun (d : Dev) => (∀ x ∈ d.test.bistRun, x.1 ≠ l) ∧ (∀ x : Lane, x ≠ l → d.lane x = s.dev.lane x) ∧
        (∀ x : Lane, x ≠ l → d.test.laneBist.get x = s.dev.test.laneBist.get x) ∧ c + 9920000 ≤ d.clk ∧ d.gd = s.dev.gd ∧
        d.safe = s.dev.safe ∧ outside d
      let fails := fun (d : Dev) (mem mac : Nat) (unrep : Bool) => d.test.laneBist.get l = 3 ∧ d.phase l = .failed ∧
        d.test.failMem.get l = mem ∧ d.test.failMac.get l = mac ∧ d.test.unrep.get l = unrep ∧ frame d
      Does (.laneBistDone l ⟨true, 0, [], []⟩) s (fun d => d.test.laneBist.get l = 1 ∧ d.lane l = s.dev.lane l ∧
        d.test.soft = s.dev.test.soft ∧ frame d) ∧
      (∀ (m r k : Nat), s.dev.fused l m = [] →
        Does (.laneBistDone l ⟨true, 0, [(m, r, k)], []⟩) s (fun d => d.test.laneBist.get l = 2 ∧ d.lane l = s.dev.lane l ∧
          d.test.soft = s.dev.test.soft ++ [(laneIdx l, m, 0, r)] ∧ frame d) ∧
        Does (.laneBistDone l ⟨true, 0, [(m, r, k)], [m]⟩) s (fun d => fails d 1 m true)) ∧
      Does (.laneBistDone l ⟨false, 0, [], []⟩) s (fun d => fails d 3 0 false) ∧
      (∀ (b : Bool) (k : Nat), k ≠ 0 → Does (.laneBistDone l ⟨b, k, [], []⟩) s (fun d => fails d k 0 true)) ∧
      (∀ (k : Nat) (cells : List (Nat × Nat × Nat)) (bad : List Nat), Does (.laneBistDone l ⟨false, k, cells, bad⟩) s (fun d =>
        d.test.laneBist.get l = 3 ∧ d.phase l = .failed ∧ frame d))) ∧
    (∀ (l : Lane) (r : BistResult), s.dev.test.bistRun.find? (fun x => x.1 == l) = none → exec (.laneBistDone l r) s = .next s)

/-! ### Safety I/O and the safe stop -/

/-- Safety requests, outputs and test pulses (R349, R350, R354, R356, R357). A level is accepted at its 50th sample. GUARD opens after 50 ms of unbroken demand; while it is
closed a released word keeps STO off; SAFE_OK belongs to group A alone; a test pulse holds its output low, and a read-back that does
not match raises OFAULT of that group, which is counted. The other group never changes. -/
def Obligations.SafetyIo : Prop :=
  ∀ (s : State) (grpB : Bool),
    let x := s.dev.sio grpB
    let k := sioIdx grpB
    let frame := fun (d : Dev) => d.sio (!grpB) = s.dev.sio (!grpB) ∧ d.lanes = s.dev.lanes ∧ d.vot = s.dev.vot ∧ d.gd = s.dev.gd ∧
      d.edge = s.dev.edge ∧ d.net = s.dev.net ∧ d.pair = s.dev.pair ∧ d.boot = s.dev.boot
    (∀ n : Nat, s.dev.sioUp grpB = true → 50 ≤ n →
      Does (.ssReqAccepted grpB true n) s (fun d => d.sio grpB = (if x.req then x else { x with req := true, reqAt := d.clk }) ∧
        s.dev.clk ≤ d.clk ∧ frame d) ∧
      Does (.ssReqAccepted grpB false n) s (fun d => d.sio grpB = { x with
        req := false, guard := x.guard || (x.req && decide (x.reqAt + 32000000 ≤ d.clk)) } ∧ s.dev.clk ≤ d.clk ∧ frame d)) ∧
    (∀ (b : Bool) (n : Nat), (s.dev.sioUp grpB = false ∨ n < 50) → exec (.ssReqAccepted grpB b n) s = .next s) ∧
    (∀ (g : BitVec 64) (v : BitVec 24) (rest : List (BitVec 64 × BitVec 24)), x.pend = (g, v) :: rest →
      (s.dev.sioUp grpB = true → Does (.safetyOutputChange grpB) s (fun d => (d.sio grpB).stoOff = (v.getLsbD 0 || !x.guard) ∧
        (d.sio grpB).pbApply = v.getLsbD 1 ∧ (d.sio grpB).safeOk = (v.getLsbD 2 && !grpB) ∧ (d.sio grpB).pend = rest ∧
        (d.sio grpB).guard = x.guard ∧ (d.sio grpB).req = x.req ∧ frame d ∧
        (x.guard = false → v.getLsbD 0 = false → s.dev.Counted d (cSafe k)) ∧
        ((x.guard = true ∨ v.getLsbD 0 = true) → d.host = s.dev.host))) ∧
      (s.dev.sioUp grpB = false → Does (.safetyOutputChange grpB) s (fun d => d.sio grpB = { x with pend := rest } ∧ frame d))) ∧
    (x.pend = [] → exec (.safetyOutputChange grpB) s = .next s) ∧
    (∀ o : Nat, o < 2 →
      let out := o + 2 * k
      (s.dev.time.run = true → s.dev.sioPin grpB o = true → Does (.testPulseStart out) s (fun d => d.sioPin grpB o = false ∧
        (∀ n : Nat, n ≠ o → d.sioPin grpB n = s.dev.sioPin grpB n) ∧ (d.sio grpB).ofault = x.ofault ∧ s.dev.Counted d (cSafe (2 + out)) ∧ frame d)) ∧
      (s.dev.sioPin grpB o = false → exec (.testPulseStart out) s = .next s) ∧
      ((if o = 1 then x.pulseP else x.pulseS) = true →
        Does (.testPulseEnd out true) s (fun d => (if o = 1 then (d.sio grpB).pulseP else (d.sio grpB).pulseS) = false ∧
          (d.sio grpB).ofault = x.ofault ∧ d.host = s.dev.host ∧ frame d) ∧
        Does (.testPulseEnd out false) s (fun d => (if o = 1 then (d.sio grpB).pulseP else (d.sio grpB).pulseS) = false ∧
          (d.sio grpB).ofault = true ∧ s.dev.Grew d (cSafe (6 + k)) ∧ frame d)) ∧
      (∀ b : Bool, (if o = 1 then x.pulseP else x.pulseS) = false → exec (.testPulseEnd out b) s = .next s)) ∧
    (∀ o : Nat, s.dev.sioUp grpB = true → (o < 2 ∨ (o = 2 ∧ grpB = false)) → Does (.outputReadbackMismatch grpB o) s (fun d =>
      d.sio grpB = { x with ofault := true } ∧ s.dev.Grew d (cSafe (6 + k)) ∧ frame d)) ∧
    (∀ o : Nat, (s.dev.sioUp grpB = false ∨ 3 ≤ o ∨ (o = 2 ∧ grpB = true)) → exec (.outputReadbackMismatch grpB o) s = .next s)

/-- The safe stop block (R105, R355, R359 to R363). With PAIRED its state, cause and v0 are first those of the pair roll call (`rolled`). A
demand in RUN starts a RAMP with cause 1 and set 1, or trips where no speed was ever read; a RAMP trips when the speed leaves the envelope
or is missing in a second run, stops 500 ms after standstill, and only a demand that is gone, a standstill and the acknowledge return it to
RUN; the demand bits follow the state alone. GRACE_EXPIRED and DISCREP bring their counts to the limit, DISCREP latching. A parity failure
takes the lane out. -/
def Obligations.SafeStop : Prop :=
  ∀ (s : State) (l : Lane) (g : Img), s.dev.boot.running = some g → s.dev.runs l = true → (∀ m : Lane, s.dev.hubQueueFull m = false) →
    let keeps := fun (d : Dev) => (∀ x : Lane, x ≠ l → d.lane x = s.dev.lane x) ∧ d.vot = s.dev.vot ∧ d.gd = s.dev.gd ∧ d.edge = s.dev.edge ∧
      d.net = s.dev.net ∧ d.safe = s.dev.safe ∧ (d.lane l).seq = (s.dev.lane l).seq ∧ (d.lane l).cfg = (s.dev.lane l).cfg
    (∀ io : Option StopIo,
      let d0 := s.dev.onLane l (fun q => { q with stop := { q.stop with io := io } })
      let q := d0.lane l
      let p := if g.paired then q.stop.rolled q s.dev.fcStart else q.stop
      let i := stopIn d0 g q s.dev.fcStart
      let good := i.v.st.valid && !i.v.st.stale
      let v := sigVal i.v
      let demand := i.word.getLsbD 0 || i.word.getLsbD 1
      let calm := i.word.toNat % 64 = 0 ∧ i.hubl = false ∧ ftLost i = false ∧ p.disc = false
      let inside := envelopeOk v (sigVal p.v0) (dyMin (q.cfgDy 0x091 p.pset) (q.cfgDy 0x090 p.pset)) (q.cfgDy 0x092 0) (i.now - p.gt0)
      let run := fun (P : StopSt → Prop) => Does (.safeStopRun l false io) s (fun d => P (d.lane l).stop ∧
        (d.lane l).stop.bits = stopBits (d.lane l).stop.state ∧ (d.lane l).stop.io = io ∧ keeps d)
      run (fun _ => True) ∧
      (demand = true → p.state = 0 → run (fun t => t.cause = 1 ∧ t.pset = 1 ∧ t.gt0 = s.dev.fcStart + s.dev.tf ∧
        t.state = if good || p.lastV.isSome then 1 else 3)) ∧
      (p.state = 0 → calm → run (fun t => t.state = 0 ∧ t.bits = 16 ∧ t.grace = 0)) ∧
      (p.state = 1 → good = true → inside = false → run (fun t => t.state = 3 ∧ t.viol = true)) ∧
      (p.state = 1 → good = true → inside = true → standstill v = false → run (fun t => t.state = 1 ∧ t.still = none ∧ t.viol = p.viol)) ∧
      (p.state = 1 → good = true → inside = true → standstill v = true →
        run (fun t => t.state = match p.still with | some b => if b + 320000000 ≤ i.now then 2 else 1 | none => 1)) ∧
      (p.state = 1 → good = false → run (fun t => t.state = (if p.inval then 3 else 1) ∧ t.inval = true)) ∧
      ((p.state = 2 ∨ p.state = 3) → (demand = true ∨ i.v.st.valid = false ∨ standstill v = false ∨ i.ack = false) →
        run (fun t => t.state = p.state)) ∧
      ((p.state = 2 ∨ p.state = 3) → calm → i.v.st.valid = true → standstill v = true → i.ack = true →
        run (fun t => t.state = 0 ∧ t.cause = 0)) ∧
      Does (.safeStopRun l true io) s (fun d => d.phase l = .out ∧ (d.lane l).seq.cause = 6 ∧ (d.lane l).stop = (s.dev.lane l).stop ∧
        ∀ x : Lane, x ≠ l → d.lane x = s.dev.lane x)) ∧
    (let q := s.dev.lane l
      let p := q.stop
      (∀ b : Nat, p.still = some b → p.state = 1 →
        let now := max s.dev.fcStart (b + 320000000)
        let r := if g.paired then p.rolled q now else p
        let i := stopIn (s.dev.toGt (b + 320000000)) g q now
        r.state = 1 → r.still = some b → i.v.st.valid = true → i.v.st.stale = false → standstill (sigVal i.v) = true →
        envelopeOk (sigVal i.v) (sigVal r.v0) (dyMin (q.cfgDy 0x091 r.pset) (q.cfgDy 0x090 r.pset)) (q.cfgDy 0x092 0) (now - r.gt0) = true →
        Does (.safeStopStopped l) s (fun d => (d.lane l).stop.state = 2 ∧ (d.lane l).stop.bits = 15 ∧ keeps d)) ∧
      ((p.still = none ∨ p.state ≠ 1) → exec (.safeStopStopped l) s = .next s) ∧
      (p.ftLost = true → Does (.graceExpired l) s (fun d =>
        d.lane l = { q with stop := { p with grace := max p.grace (graceRuns q s.dev.tf) } } ∧ keeps d)) ∧
      (p.ftLost = false → exec (.graceExpired l) s = .next s) ∧
      (s.dev.laneInput.getLsbD 0 ≠ s.dev.laneInput.getLsbD 1 → Does (.discrep l) s (fun d =>
        d.lane l = { q with stop := { p with disc := true, diffs := max p.diffs (runsOf 12800000 s.dev.tf) } } ∧ keeps d)) ∧
      (s.dev.laneInput.getLsbD 0 = s.dev.laneInput.getLsbD 1 → exec (.discrep l) s = .next s))

/-! ### The DC link -/

/-- DC_LINK_SUPERVISION, CHOP_FAULT, PRECHARGE_TIMEOUT (R105, R209 to R211, R213, R214). Each stage flag sets above its threshold, clears
below threshold minus DCL_HYST and holds between; F4L stays until F1 is clear and acknowledged; CHOP_FAULT latches and asks for friction
braking; the precharge moves on only by its conditions and fails at its time-outs; before it, PC0 may take no mode but OFF. STATUS tells
the flags. A host set-point that the image lacks, or that lies out of range, reads as its default (log entry 149, the model's choice). -/
def Obligations.DcLink : Prop :=
  ∀ (s : State) (l : Lane) (g : Img), s.dev.boot.running = some g → s.dev.runs l = true → (∀ m : Lane, s.dev.hubQueueFull m = false) →
    let q := s.dev.lane l
    let p := q.dcl
    let vdc := q.sig (dclSigs g).1
    let thr := fun (i : Nat) => q.sig (g.thrSigs.getD i 0)
    let keeps := fun (d : Dev) => (∀ x : Lane, x ≠ l → d.lane x = s.dev.lane x) ∧ d.vot = s.dev.vot ∧ d.gd = s.dev.gd ∧ d.edge = s.dev.edge ∧
      d.net = s.dev.net ∧ d.safe = s.dev.safe ∧ (d.lane l).seq = q.seq ∧ (d.lane l).stop = q.stop
    let stuck := decide (p.chopK ≤ p.chopN) && sigLt (opSub p.chopV p.vdc) (sigInt 1 Status.ok)
    let chopBad := chopRemote s.dev || s.dev.unitSilent 10 || stuck
    (∀ io : DclIo,
      let hyst := blockPoint q (some io.hyst) (some 2) (some 50) 10
      Does (.dcLinkSupervision l false io) s (fun d =>
      let t := (d.lane l).dcl
      let flag := fun (i : Nat) (old new : Bool) => (sigLt (thr i) vdc = true → new = true) ∧
        (sigLt (thr i) vdc = false → sigLt vdc (opSub (thr i) hyst) = true → new = false) ∧
        (sigLt (thr i) vdc = false → sigLt vdc (opSub (thr i) hyst) = false → new = old)
      flag 0 p.f1 t.f1 ∧ flag 1 p.f2 t.f2 ∧ flag 2 p.f3 t.f3 ∧ flag 3 p.f4 t.f4 ∧ (t.f4 = true → t.f4l = true) ∧
      (p.f4l = true → t.f1 = true → t.f4l = true) ∧ (p.chop = true → t.chop = true) ∧ (chopRemote s.dev = true → t.chop = true) ∧
      (t.f1 = true → t.blend = true) ∧ (t.chop = true → t.blend = true) ∧ t.vdc = vdc ∧ keeps d ∧
      t.chopN = (if sigEq (chopDuty q io vdc) (sigInt 1 Status.ok) then p.chopN + 1 else 0) ∧
      (p.pre = 0 → t.pre = if carriesIn (q.sig io.start) 1 1 == some 1 then 1 else 0) ∧
      (p.pre = 1 → t.pre = if (q.sig io.vBat).st.valid then 2 else 1) ∧
      (p.pre = 2 → dyLe (dySub (sigVal (q.sig io.vBat)) (q.cfgDy 0x0A6 0)) (sigVal vdc) = true → t.pre = 3) ∧
      (p.pre = 0 → io.req1 = none → l = s.dev.recLane → ∀ m : ConvMode, io.req0 = some m → m ≠ .off → s.dev.Counted d (cConv 0)) ∧
      (p.pre = 3 → 320000000 < s.dev.fcStart - p.preAt → t.pre = 7) ∧ (p.pre = 4 → t.pre = 4) ∧
      (memWf q.mem = true → (d.lane l).sig (dclSigs g).2 = sigInt (dclStatus t) (stOf [vdc]))) ∧
      Does (.dcLinkSupervision l true io) s (fun d => d.phase l = .out ∧ (d.lane l).seq.cause = 6 ∧ (d.lane l).dcl = p ∧
        ∀ x : Lane, x ≠ l → d.lane x = s.dev.lane x)) ∧
    (chopBad = true → Does (.chopFault l) s (fun d => (d.lane l).dcl = { p with chop := true, blend := true } ∧ keeps d)) ∧
    (chopBad = false → exec (.chopFault l) s = .next s) ∧
    ((p.pre = 2 ∨ p.pre = 3) → Does (.prechargeTimeout l) s (fun d => (d.lane l).dcl = { p with pre := 7, preAt := d.gt } ∧
      (l = s.dev.recLane → s.dev.Counted d (cConv 3)) ∧ (l ≠ s.dev.recLane → d.host = s.dev.host) ∧ keeps d)) ∧
    (p.pre ≠ 2 → p.pre ≠ 3 → exec (.prechargeTimeout l) s = .next s)

/-! ### Clocks and the hub -/

/-- Loss of a reference (R16, R18, R41 to R45, R69, R86, R188, R341, R446, R478; Table 2-6). A replica within its guard is corrected to
within its own part of hub GT, one beyond it and one without its clock is taken out with cause 7; a lost hub leaves the lanes, the drive
dies and the safety groups as they are and ends management, network and journal work; two boundaries without a strobe let the lanes
free-run; a lost serdes reference takes the ring and pair ports down; a lost ACLK is reported, and no lane is then judged against it. -/
def Obligations.Clocks : Prop :=
  ∀ (s : State) (l : Lane),
    let outside := fun (d : Dev) => d.gd = s.dev.gd ∧ d.edge = s.dev.edge ∧ d.safe = s.dev.safe ∧ d.boot = s.dev.boot
    (∀ x : Int, s.dev.hubUp = true → x.natAbs * 1000000 ≤ s.dev.guardPpm * 2 ^ 32 → Does (.strobeCapture l x) s (fun d =>
      ((d.lane l).seq.dev - s.dev.time.strobeErr).natAbs ≤ 4123168604 ∧ (d.lane l).seq.corr = x ∧ (d.lane l).seq.noStrobe = 0 ∧
      (d.lane l).seq.freeRun = false ∧ d.time = s.dev.time ∧ d.phase l = s.dev.phase l ∧
      (d.lane l).mem = (s.dev.lane l).mem ∧ (∀ m : Lane, m ≠ l → d.lane m = s.dev.lane m) ∧ d.vot = s.dev.vot ∧ d.net = s.dev.net ∧ outside d)) ∧
    (∀ x : Int, s.dev.hubUp = true → s.dev.guardPpm * 2 ^ 32 < x.natAbs * 1000000 → s.dev.runs l = true →
      Does (.strobeCapture l x) s (fun d => d.phase l = .out ∧ (d.lane l).seq.cause = 7 ∧
        (∀ m : Lane, m ≠ l → d.lane m = s.dev.lane m) ∧ d.boot = s.dev.boot)) ∧
    (∀ x : Int, s.dev.hubUp = false → exec (.strobeCapture l x) s = .next s) ∧
    (∀ a : Bool, (a = true → s.dev.time.aclkBad = false) →
      (s.dev.runs l = true → Does (.laneClockFault l a) s (fun d => d.phase l = .out ∧ (d.lane l).seq.cause = 7 ∧
        (d.lane l).seq.clkBad = true ∧ (∀ m : Lane, m ≠ l → d.lane m = s.dev.lane m) ∧ d.boot = s.dev.boot)) ∧
      (s.dev.runs l = false → Does (.laneClockFault l a) s (fun d => d.phase l = s.dev.phase l ∧ (d.lane l).seq.clkBad = true ∧
        (d.lane l).mem = (s.dev.lane l).mem ∧ (∀ m : Lane, m ≠ l → d.lane m = s.dev.lane m) ∧ d.vot = s.dev.vot ∧ outside d))) ∧
    (s.dev.time.aclkBad = true → exec (.laneClockFault l true) s = .next s) ∧
    (∀ (h : HubCause) (c : Instr), c = .hubFault h ∨ c = .hubClockFault → s.dev.hubUp = true → Does c s (fun d => d.pwr.hubLost = true ∧
      d.lanes = s.dev.lanes ∧ d.time = s.dev.time ∧ d.pair.role = s.dev.pair.role ∧ d.pair.partner = s.dev.pair.partner ∧
      d.pair.up0 = false ∧ d.pair.up1 = false ∧
      d.host.replies = [] ∧ d.host.events = [] ∧ d.mgmt.jobs = [] ∧ d.jr.queue = [] ∧ d.net.txq = [] ∧ d.net.sending = false ∧
      d.net.banks.map (fun b => (b.key, b.read)) = s.dev.net.banks.map (fun b => (b.key, b.read)) ∧ outside d)) ∧
    (∀ h : HubCause, s.dev.hubUp = false → exec (.hubFault h) s = .next s) ∧
    Does .noHubStrobe s (fun d => (∀ m : Lane, d.lane m = { s.dev.lane m with
        seq := { (s.dev.lane m).seq with noStrobe := max 2 (s.dev.lane m).seq.noStrobe, freeRun := true } }) ∧
      d.time = s.dev.time ∧ d.vot = s.dev.vot ∧ d.net = s.dev.net ∧ d.pair.next =
        (if (!lanesAll.all (fun m => (s.dev.lane m).seq.freeRun) &&
            s.dev.paired && s.dev.pair.role == .active && s.dev.partnerIs .inStep && s.dev.partnerFull) = true then
          some (.yielded, BitVec.ofNat 64 s.dev.nextFc) else s.dev.pair.next) ∧ outside d) ∧
    (s.dev.hubUp = true → Does .serdesUnlock s (fun d => d.time = { s.dev.time with serdesBad := true } ∧ d.net.east.up = false ∧
      d.net.west.up = false ∧ d.net.east.down = true ∧ d.net.west.down = true ∧ d.pair.up0 = false ∧ d.pair.up1 = false ∧
      d.lanes = s.dev.lanes ∧ d.vot = s.dev.vot ∧ d.can = s.dev.can ∧ outside d)) ∧
    (s.dev.hubUp = true → Does .aclkFault s (fun d => d.time = { s.dev.time with aclkBad := true } ∧ d.lanes = s.dev.lanes ∧
      d.vot = s.dev.vot ∧ d.net = s.dev.net ∧ d.pair = s.dev.pair ∧ outside d)) ∧
    (s.dev.hubUp = false → Does (.lmcPostTimeout l) s (fun d => (d.lane l).seq.lmcDrops =
        (s.dev.lane l).seq.lmcDrops + (if (s.dev.lane l).seq.lmcDown then 0 else 1) ∧ d.phase l = s.dev.phase l ∧
      (d.lane l).mem = (s.dev.lane l).mem ∧ (∀ m : Lane, m ≠ l → d.lane m = s.dev.lane m) ∧ d.vot = s.dev.vot ∧ outside d)) ∧
    (s.dev.hubUp = true → exec (.lmcPostTimeout l) s = .next s) ∧
    Does (.laneMonitorCoreFault l) s (fun d => d.lane l = { s.dev.lane l with seq := { (s.dev.lane l).seq with lmcDown := true } } ∧
      (∀ m : Lane, m ≠ l → (s.dev.lane m).seq.lmcDown = true → d.lane m = s.dev.lane m) ∧
      (∀ m : Lane, m ≠ l → (s.dev.lane m).seq.lmcDown = false → d.lane m = { s.dev.lane m with
        seq := { (s.dev.lane m).seq with lmcPeers := (s.dev.lane m).seq.lmcPeers.set l true } }) ∧
      d.vot = s.dev.vot ∧ d.host = s.dev.host ∧ outside d) ∧
    (∀ (t : List Int) (i : Nat), s.dev.hubUp = true → t.length = 6 → i < 6 → Does (.temperatureRead t) s (fun d => d.mgmt.temps = t ∧
      (t.getD i 0 < 1160 → i ∉ d.mgmt.hot) ∧ (1200 < t.getD i 0 → i ∈ d.mgmt.hot) ∧
      (1160 ≤ t.getD i 0 → t.getD i 0 ≤ 1200 → (i ∈ d.mgmt.hot ↔ i ∈ s.dev.mgmt.hot)) ∧ d.lanes = s.dev.lanes ∧ d.vot = s.dev.vot ∧
      d.net = s.dev.net ∧ outside d)) ∧
    (∀ k : Nat, k < 2 →
      Does (.excitationFault k true) s (fun d => k ∈ d.gd.exc ∧ (∀ x ∈ s.dev.gd.exc, x ∈ d.gd.exc) ∧ d.gd.hb = s.dev.gd.hb ∧
        d.lanes = s.dev.lanes ∧ d.vot = s.dev.vot ∧ d.net = s.dev.net ∧ d.safe = s.dev.safe) ∧
      Does (.excitationFault k false) s (fun d => k ∉ d.gd.exc ∧ (∀ x : Nat, x ≠ k → (x ∈ d.gd.exc ↔ x ∈ s.dev.gd.exc)) ∧
        d.gd.hb = s.dev.gd.hb ∧ d.lanes = s.dev.lanes ∧ d.vot = s.dev.vot ∧ d.net = s.dev.net ∧ d.safe = s.dev.safe)) ∧
    (∀ (k : Nat) (on : Bool), 2 ≤ k → exec (.excitationFault k on) s = .next s)

/-! ### The host window -/

/-- HOST_WRITE, UDP_REQUEST, GT_LO_READ, DOORBELL_CLEAR, DOORBELL_REPEAT, EVENT_EXPIRY (R10, R368 to R375, R380, R383). A malformed write is
only counted, a refused one has its outcome code and applies none of its words, a repeated datagram gets its stored answer and is not
executed again. A bit that an event sets in the clock in which a write clears it stays set. An event that waited 10 ms is dropped and counted. -/
def Obligations.HostWindow : Prop :=
  ∀ s : State, s.dev.winUp = true →
    let h := s.dev.host
    let alone : Race := ⟨0, [], []⟩
    let opened := 5 ≤ s.dev.boot.stage ∧ s.dev.boot.stage < 0x81
    let kept := fun (d : Dev) => d.host.inb = h.inb ∧ d.host.outb = h.outb ∧ d.host.door = h.door ∧ d.host.enable = h.enable ∧ s.dev.Quiet d
    (∀ (eth : Bool) (f : HostForm) (a : Nat) (ws : List Word), (f = .cut ∨ eth = true ∧ f = .opcode) → Does (.hostWrite eth f a ws alone) s (fun d =>
      s.dev.Counted d (cMgmt (if eth then 10 else 9)) ∧ kept d)) ∧
    (∀ (a : Nat) (ws : List Word), Does (.hostWrite false .opcode a ws alone) s (fun d =>
      s.dev.Counted d (cMgmt 3) ∧ d.host.spi % 128 = 4 ∧ kept d)) ∧
    (∀ (eth : Bool) (a : Nat) (ws : List Word) (c : Nat), writeCode s.dev (if eth then 2 else 1) (hostWords a ws) = c → c ≠ 0 →
      Does (.hostWrite eth .whole a ws alone) s (fun d => s.dev.Counted d (cMgmt (c - 1)) ∧ (eth = false → d.host.spi % 128 = c) ∧ kept d)) ∧
    (∀ v : Word, opened → Does (.hostWrite false .whole 0x2008 [v] alone) s (fun d =>
      d.host.enable = v ∧ d.host.door = h.door ∧ d.host.spi = (if h.door &&& v = 0 then 0 else 128) ∧ d.host.cnt = h.cnt ∧ s.dev.Quiet d)) ∧
    (∀ (v : Word) (r : Race), opened → Does (.hostWrite false .whole 0x2004 [v] r) s (fun d =>
      (∀ i : Nat, i < 27 → d.host.door.getLsbD i = (r.door.getLsbD i || (h.door.getLsbD i && !v.getLsbD i))) ∧
      (∀ ch ∈ r.rxOvf, ch < s.dev.can.length → (d.chan ch).rxOvf = true) ∧ (∀ ch ∈ r.hpLost, ch < s.dev.can.length → (d.chan ch).hpLost = true) ∧
      d.host.outb = h.outb ∧ d.host.enable = h.enable ∧ d.host.cnt = h.cnt ∧ d.lanes = s.dev.lanes)) ∧
    (∀ g : Datagram, datagramGood g = false → Does (.udpRequest g) s (fun d => s.dev.Counted d (cMgmt 10) ∧ d.host.answer = h.answer ∧
      d.host.udp = h.udp ∧ s.dev.Quiet d)) ∧
    (∀ (g : Datagram) (u : UdpResp), datagramGood g = true → h.udp.find? (fun u => u.port == g.port && u.seq == g.seq) = some u →
      Does (.udpRequest g) s (fun d => d.host.answer = some u ∧ s.dev.Counted d (cMgmt 11) ∧ d.host.udp = h.udp ∧ d.host.inb = h.inb ∧
        d.host.outb = h.outb ∧ s.dev.Quiet d)) ∧
    (∀ g : Datagram, datagramGood g = true → h.udp.find? (fun u => u.port == g.port && u.seq == g.seq) = none → g.op = 1 → g.count = 1 →
      0x20 ≤ g.addr → g.addr < 0x3000 → opened → Does (.udpRequest g) s (fun d =>
        d.host.answer = some ⟨g.port, g.seq, 0x81, g.addr, 0, s.dev.attn, [winRead s.dev g.addr]⟩ ∧ d.host.udp.head? = d.host.answer ∧
        d.host.cnt = h.cnt ∧ s.dev.Quiet d)) ∧
    exec .gtLoRead s = .next { s with dev := { s.dev with time := { s.dev.time with gtHi := BitVec.ofNat 32 (s.dev.gt / 2 ^ 32) } } } ∧
    (∀ v again : Word, Does (.doorbellClear v again) s (fun d => (∀ i : Nat, i < 27 →
      d.host.door.getLsbD i = (again.getLsbD i || (h.door.getLsbD i && !v.getLsbD i))) ∧ d.host.outb = h.outb ∧ d.host.cnt = h.cnt ∧
      d.host.enable = h.enable ∧ s.dev.Quiet d)) ∧
    (∀ (w : Word) (t : Nat), h.dgSent = some (w, t) → s.dev.attn = true → Does .doorbellRepeat s (fun d =>
      d.host.dgSent = some (h.door, d.clk) ∧ t + 6400000 ≤ d.clk ∧ d.host.door = h.door ∧ d.lanes = s.dev.lanes ∧ d.vot = s.dev.vot)) ∧
    ((h.dgSent = none ∨ s.dev.attn = false) → exec .doorbellRepeat s = .next s) ∧
    (∀ (t : Nat) (ws : List Word) (rest : List (Nat × List Word)), h.events = (t, ws) :: rest → Does .eventExpiry s (fun d =>
      d.host.events = rest ∧ s.dev.Counted d (cMgmt 15) ∧ d.host.door.getLsbD 25 = true ∧ t + 6400000 ≤ d.clk ∧ d.host.outb = h.outb ∧
      d.jr = s.dev.jr ∧ d.lanes = s.dev.lanes)) ∧
    (h.events = [] → exec .eventExpiry s = .next s)

/-! ### Mailboxes -/

/-- INBOUND_GO, CLAIM_TIMEOUT, OUTBOUND_ACK, RELAYED_MAILBOX, MAILBOX_DRAIN, JOB_COMPLETION, STAGING_DELIVERED, BULK_CLAIM_TIMEOUT (R34, R69,
R376 to R382, R389, R392, R395). GO makes a claimed or free mailbox FULL under its sender's ID, with the data words written before it; a lane
monitor core sends nothing while it has stopped or its queue to the hub is full. ACK frees an outbound mailbox for the reply that waits; a
drain runs the command of the next FULL mailbox while two reply entries are free; a job's completion is answered once. -/
def Obligations.Mailboxes : Prop :=
  ∀ s : State, s.dev.winUp = true → s.dev.host.inb.length = 16 → s.dev.host.outb.length = 16 →
    let h := s.dev.host
    let opened := 5 ≤ s.dev.boot.stage ∧ s.dev.boot.stage < 0x81
    (∀ (m sender len : Nat) (ws : List Word), m < 16 → 1 ≤ len → len ≤ 16 → ws.length ≤ 16 → opened → (s.dev.inb m).data.length = 16 →
      let b := s.dev.inb m
      let free := match b.claim with | some c => c.1 == sender | none => true
      let same := fun (d : Dev) => d.host.inb = h.inb ∧ d.host.outb = h.outb ∧ s.dev.Quiet d
      ((∀ l : Lane, senderLane sender = some l → (s.dev.lane l).seq.lmcDown = false ∧ s.dev.hubQueueFull l = false) →
        (s.dev.maySend m sender = true → free = true → b.full = false → Does (.inboundGo m sender len ws) s (fun d =>
          (d.inb m).full = true ∧ (d.inb m).len = len ∧ (d.inb m).sender = sender ∧ (d.inb m).claim = none ∧
          (∀ i : Nat, 0 < i → (d.inb m).data.getD i 0 = if i < ws.length then ws.getD i 0 else b.data.getD i 0) ∧
          (d.inb m).data.getD 0 0 = BitVec.ofNat 32 (sender * 2 ^ 24 + (ws.headD (b.data.getD 0 0)).toNat % 2 ^ 24) ∧
          (∀ k : Nat, k ≠ m → d.inb k = s.dev.inb k) ∧ d.host.cnt = h.cnt ∧ s.dev.Quiet d)) ∧
        (s.dev.maySend m sender = false → Does (.inboundGo m sender len ws) s (fun d => s.dev.Counted d (cMgmt 1) ∧ same d)) ∧
        (s.dev.maySend m sender = true → free = false → Does (.inboundGo m sender len ws) s (fun d => s.dev.Counted d (cMgmt 2) ∧ same d)) ∧
        (s.dev.maySend m sender = true → free = true → b.full = true → Does (.inboundGo m sender len ws) s (fun d =>
          s.dev.Counted d (cMgmt 0) ∧ same d))) ∧
      (∀ l : Lane, senderLane sender = some l →
        ((s.dev.lane l).seq.lmcDown = true → exec (.inboundGo m sender len ws) s = .next s) ∧
        ((s.dev.lane l).seq.lmcDown = false → s.dev.hubQueueFull l = true → s.dev.runs l = true → Does (.inboundGo m sender len ws) s (fun d =>
          d.phase l = .out ∧ (d.lane l).seq.cause = 5 ∧ d.host.inb = h.inb ∧ (∀ k : Lane, k ≠ l → d.lane k = s.dev.lane k))))) ∧
    (∀ (m c t : Nat), m < 16 → (s.dev.inb m).claim = some (c, t) → Does (.claimTimeout m) s (fun d =>
      d.inb m = { s.dev.inb m with claim := none } ∧ (∀ k : Nat, k ≠ m → d.inb k = s.dev.inb k) ∧ t + 640000 ≤ d.clk ∧
      s.dev.Counted d (cMgmt 12) ∧ d.lanes = s.dev.lanes)) ∧
    (∀ m : Nat, (s.dev.inb m).claim = none → exec (.claimTimeout m) s = .next s) ∧
    (∀ m reader : Nat, m < 15 → opened → (s.dev.outb m).full = true →
      let hub := m = 13 ∧ reader = 0x20
      ((outMask m).testBit (senderBit reader) = true → (∀ x ∈ h.replies, x.1 ≠ m) → Does (.outboundAck m reader) s (fun d =>
        d.outb m = { s.dev.outb m with full := false } ∧ (∀ k : Nat, k ≠ m → d.outb k = s.dev.outb k) ∧ d.host.replies = h.replies ∧
        (¬ hub → s.dev.Quiet d))) ∧
      (∀ ws : List Word, (outMask m).testBit (senderBit reader) = true → h.replies.find? (fun x => x.1 == m) = some (m, ws) →
        Does (.outboundAck m reader) s (fun d => (d.outb m).full = true ∧ (d.outb m).len = ws.length ∧ d.host.replies = h.replies.erase (m, ws) ∧
          d.host.door.getLsbD m = true ∧ (¬ hub → s.dev.Quiet d))) ∧
      (hub → s.dev.pairUp = false → Does (.outboundAck m reader) s (fun d => d.pair = { s.dev.pair with svcq := [] } ∧ d.lanes = s.dev.lanes)) ∧
      ((outMask m).testBit (senderBit reader) = false → Does (.outboundAck m reader) s (fun d => d.host.outb = h.outb ∧
        s.dev.Counted d (cMgmt 1) ∧ s.dev.Quiet d))) ∧
    (∀ (n : SvcIn) (ws : List Word), (s.dev.pairUp = false ∨ n.ok = false ∨ s.dev.pair.svcRx.getD 2 none = some n.seq) →
      ∀ mb : Nat, exec (.relayedMailbox n mb ws) s = .next s) ∧
    (∀ (n : SvcIn) (mb : Nat) (ws : List Word), s.dev.pairUp = true → n.ok = true → s.dev.pair.svcRx.getD 2 none ≠ some n.seq → ws ≠ [] → ws.length ≤ 16 →
      (mb = 13 → (s.dev.inb 13).full = false → (s.dev.inb 13).claim = none → Does (.relayedMailbox n mb ws) s (fun d => (d.inb 13).full = true ∧
        (d.inb 13).sender = 0x20 ∧ (d.inb 13).len = ws.length ∧ (∀ k : Nat, k ≠ 13 → d.inb k = s.dev.inb k) ∧ d.host.cnt = h.cnt ∧
        d.lanes = s.dev.lanes ∧ d.vot = s.dev.vot)) ∧
      (mb = 13 → ((s.dev.inb 13).full = true ∨ (s.dev.inb 13).claim ≠ none) → Does (.relayedMailbox n mb ws) s (fun d => d.host.inb = h.inb ∧
        s.dev.Counted d (cMgmt 13) ∧ d.lanes = s.dev.lanes ∧ d.vot = s.dev.vot)) ∧
      (mb ≠ 13 → Does (.relayedMailbox n mb ws) s (fun d => d.host.inb = h.inb ∧ s.dev.Counted d (cMgmt 1) ∧ d.lanes = s.dev.lanes ∧
        d.vot = s.dev.vot))) ∧
    (∀ m : Nat, s.dev.drains = true → nextFull s.dev = some m →
      (s.dev.freeReplies < 2 → Does .mailboxDrain s (fun d => d.host.inb = h.inb ∧ s.dev.Counted d (cMgmt 14) ∧ s.dev.Quiet d)) ∧
      (∀ x ∈ mailboxCodes, 2 ≤ s.dev.freeReplies → bits ((s.dev.inb m).data.getD 0 0).toNat 15 0 = x.1 →
        exec .mailboxDrain s = exec (x.2 (requestOf m (s.dev.inb m)))
          { s with dev := (s.dev.onIn m (fun y => { y with full := false })).onHost (fun y => { y with rr := m }) })) ∧
    (∀ (n : Nat) (j : Job) (e : JobEnd), s.dev.jobOf n = some j → j.num = n → j.req.mbox < 15 → j.done = true → j.status = 0 →
      (j.replied = false → Does (.jobCompletion n e) s (fun d => s.dev.Answered d j.req.mbox (replyWords j.req j.code n 0 j.detail
        ((if [0x0103, 0x0105, 0x0202, 0x0602].contains j.code then twoWords j.due.toNat else []) ++ j.res)) ∧
        (∀ k ∈ d.mgmt.jobs, k.num = n → k.replied = true) ∧ s.dev.Quiet d)) ∧
      (j.replied = true → exec (.jobCompletion n e) s = .next s)) ∧
    (∀ (r : Request) (p : Nat) (v : DWord) (rest : List (Request × List (Nat × DWord))), s.dev.mgmt.deliver = (r, [(p, v)]) :: rest →
      isNextRelease p = false → r.mbox < 16 → Does .stagingDelivered s (fun d => d.mgmt.deliver = rest ∧
        s.dev.Answered d r.mbox (replyWords r 0x0101 0 0 0 [BitVec.ofNat 32 (r.args.length / 3)]) ∧
        (∀ l : Lane, s.dev.runs l = true → (∃ c ∈ (d.lane l).cfg, c.pid = p ∧ c.staged = some v ∧ c.at_ = s.dev.gt) ∧
          (d.lane l).mem = (s.dev.lane l).mem ∧ (∀ q : Nat, q ≠ p → (d.lane l).field q = (s.dev.lane l).field q)) ∧
        (∀ l : Lane, s.dev.runs l = false → d.lane l = s.dev.lane l))) ∧
    (s.dev.mgmt.deliver = [] → exec .stagingDelivered s = .next s) ∧
    (∀ c t : Nat, s.dev.mgmt.claim = some (c, t) → Does .bulkClaimTimeout s (fun d => d.mgmt = { s.dev.mgmt with claim := none } ∧
      t + 6400000000 ≤ d.clk ∧ d.lanes = s.dev.lanes)) ∧
    (s.dev.mgmt.claim = none → exec .bulkClaimTimeout s = .next s)

/-- Commands that report (R83, R391 to R393, R440): each is answered OK with the words the table lists and changes nothing but its reply,
COEF_READ the transfer buffer too. A request of a wrong length, and one that needs released lanes before release, is refused with its
code whatever the command is, with no effect. -/
def Obligations.MailboxReports : Prop :=
  ∀ (s : State) (r : Request),
    let e := s.dev.touched r
    let readable := newestFirst (s.dev.jr.main.area.recs.filter (fun x => !x.bad))
    let gives := fun (c : Instr) (code : Nat) (res : List Word) => s.dev.Serves r code → Does c s (fun d =>
      s.dev.Answered d r.mbox (replyWords r code 0 0 0 res) ∧ d.mgmt = e.mgmt ∧ d.host.cnt = s.dev.host.cnt ∧ s.dev.Quiet d)
    gives (.identify r) 0x0001 (winWords e [0, 4] ++ twoWords s.dev.imageId ++ twoWords s.dev.boot.fuses.serial.toNat ++
      twoWords (s.dev.boot.fuses.serial.toNat / 2 ^ 64) ++ [BitVec.ofNat 32 s.dev.imageSec, BitVec.ofNat 32 s.dev.imageFloor]) ∧
    gives (.status r) 0x0002 (winWords e [0x10, 0x58, 0x1E0, 0x200] ++ twoWords s.dev.gt) ∧
    gives (.imageInfo r) 0x0201 (twoWords s.dev.imageId ++ [BitVec.ofNat 32 (s.dev.img.tfCode + s.dev.img.k * 2 ^ 8 +
      s.dev.img.modes.length * 2 ^ 16 + s.dev.modeCur * 2 ^ 24), BitVec.ofNat 32 (s.dev.boot.imgSlot.getD 0)]) ∧
    gives (.pwrStatus r) 0x0A02 [BitVec.ofNat 32 s.dev.pwr.on.toNat] ∧
    (∀ j : Job, s.dev.mgmt.jobs.find? (fun j => j.num == argOf r 0) = some j → gives (.jobStatus r) 0x0004
      (if j.done then [2, BitVec.ofNat 32 (j.detail % 256 * 256 + j.status)] else [1, 0])) ∧
    (s.dev.mgmt.jobs.find? (fun j => j.num == argOf r 0) = none → gives (.jobStatus r) 0x0004 [0, 0]) ∧
    (s.dev.bulkBusy r.sender = false → 1 ≤ argOf r 1 → argOf r 1 ≤ 14 → argOf r 0 % 4 = 0 → argOf r 0 + 4 * argOf r 1 ≤ bulkSize →
      gives (.bulkRead r) 0x0011 ((List.range (argOf r 1)).map (fun i => BitVec.ofNat 32 (leNat (memRead s.dev.mgmt.bulk (argOf r 0 + 4 * i) 4))))) ∧
    (∀ (x : FieldInfo) (c : CfgField), fieldInfo (pidField (argOf r 0 % 2 ^ 31)) = some x → x.kind = .commit →
      instOk s.dev.img (pidField (argOf r 0 % 2 ^ 31)) (pidInst (argOf r 0 % 2 ^ 31)) = true → isNextRelease (argOf r 0 % 2 ^ 31) = false →
      (s.dev.lane s.dev.lowLane).field (argOf r 0 % 2 ^ 31) = some c →
      let v := if pidCopy (argOf r 0) then c.live else match c.staged with
        | some w => w
        | none => match c.due.getLast? with | some w => w.2 | none => c.live
      gives (.paramRead r) 0x0102 (twoWords v.toNat ++ [BitVec.ofNat 32 (flagN (c.staged.isSome || c.due.any (fun w => w.1 != 0)) 0 +
        flagN (fieldHost s.dev.img (argOf r 0 % 2 ^ 31)) 1 + flagN (groupClsB (argOf r 0 % 2 ^ 31)) 2)])) ∧
    (∀ c : CoefRec, s.dev.Serves r 0x0302 → s.dev.bulkBusy r.sender = false →
      (s.dev.lane s.dev.lowLane).coefOf (bits (argOf r 0) 6 0) (bits (argOf r 0) 8 8) = some c → Does (.coefRead r) s (fun d =>
        s.dev.Answered d r.mbox (replyWords r 0x0302 0 0 0 [BitVec.ofNat 32 (coefRecord c).length]) ∧
        d.mgmt.bulk = memWrite s.dev.mgmt.bulk 0 (coefRecord c) ∧ d.mgmt.claim = some (r.sender, s.dev.clk) ∧ s.dev.Quiet d)) ∧
    gives (.journalInfo r) 0x0401 [BitVec.ofNat 32 (ceilDiv s.dev.jr.main.area.ptr 1024), BitVec.ofNat 32 (ceilDiv s.dev.jr.cal.area.ptr 1024),
      ((readable.getLast?).map (·.seq)).getD 0, ((readable.head?).map (·.seq)).getD 0] ∧
    (∀ x : Nat × Nat × Nat, testUnitOk (argOf r 0) (argOf r 1) = true →
      (s.dev.mgmt.tests.find? (fun y => y.1 == argOf r 0 && y.2.1 == argOf r 1)).map (fun y => y.2.2) = some x →
      gives (.testResults r) 0x0502 [BitVec.ofNat 32 x.1, BitVec.ofNat 32 x.2.1, BitVec.ofNat 32 x.2.2]) ∧
    (testUnitOk (argOf r 0) (argOf r 1) = true → s.dev.mgmt.tests.find? (fun y => y.1 == argOf r 0 && y.2.1 == argOf r 1) = none →
      gives (.testResults r) 0x0502 [0, BitVec.ofNat 32 (testCover (argOf r 0)), 0]) ∧
    (∀ h : Heartbeat, s.dev.pair.partner = some h →
      gives (.pairStatus r) 0x0601 (winWords e [0x1E0, 0x1E4] ++ wordsOf 6 (heartbeatBytes h))) ∧
    (s.dev.pair.partner = none → gives (.pairStatus r) 0x0601 (winWords e [0x1E0, 0x1E4] ++ List.replicate 6 0)) ∧
    (∃ ws : List Word, ws.length = 6 ∧ gives (.slotStatus r) 0x0702 ws) ∧
    (∀ x ∈ mailboxCodes, s.dev.drains = true → r.mbox < 10 → s.dev.host.outb.length = 16 →
      (lenOk x.1 r.args.length = false → Does (x.2 r) s (fun d => s.dev.Answered d r.mbox (replyWords r x.1 0 4 0 []) ∧
        s.dev.Counted d (cMgmt 3) ∧ d.mgmt = e.mgmt ∧ s.dev.Quiet d)) ∧
      (lenOk x.1 r.args.length = true → needsLanes x.1 = true → s.dev.boot.released = false → Does (x.2 r) s (fun d =>
        s.dev.Answered d r.mbox (replyWords r x.1 0 0x13 3 []) ∧ d.mgmt = e.mgmt ∧ s.dev.Quiet d)))

/-- Commands that set (R83, R161, R289, R301, R385, R391, R392, R395 to R398): what each writes when it is served, what it completes with
later, and the words with which it is refused. PARAM_STAGE checks every record before any is staged, COMMIT refuses an incomplete or
failing group, and the commit point is at least two fast cycles after the values reached the shadows. -/
def Obligations.MailboxSettings : Prop :=
  ∀ (s : State) (r : Request),
    let g := s.dev.img
    let q := s.dev.lane s.dev.lowLane
    let h := s.dev.host
    let gets := fun (c : Instr) (code st dt : Nat) => Does c s (fun d => s.dev.Answered d r.mbox (replyWords r code 0 st dt []) ∧ s.dev.Quiet d)
    let okay := fun (d : Dev) (code : Nat) => s.dev.Answered d r.mbox (replyWords r code 0 0 0 [])
    let free := s.dev.bulkBusy r.sender = false
    (s.dev.Serves r 0x0003 → Does (.counterClear r) s (fun d => okay d 0x0003 ∧ d.host.cnt = [] ∧ d.host.snap = [] ∧ d.jr.evDrop = 0 ∧
      d.jr.stDrop = 0 ∧ d.jr.merged = 0 ∧ d.jr.aged = 0 ∧ d.jr.queue = s.dev.jr.queue ∧ d.lanes = s.dev.lanes ∧ d.vot = s.dev.vot)) ∧
    (s.dev.Serves r 0x0010 →
      (free → argOf r 0 % 4 = 0 → argOf r 0 + 4 * (r.args.drop 1).length ≤ bulkSize → Does (.bulkWrite r) s (fun d => okay d 0x0010 ∧
        d.mgmt.bulk = memWrite s.dev.mgmt.bulk (argOf r 0) ((r.args.drop 1).flatMap (fun w => leBytes w.toNat 4)) ∧
        d.mgmt.claim = some (r.sender, s.dev.clk) ∧ s.dev.Quiet d)) ∧
      (¬ free → gets (.bulkWrite r) 0x0010 3 0) ∧
      (free → (argOf r 0 % 4 ≠ 0 ∨ bulkSize < argOf r 0 + 4 * (r.args.drop 1).length) → gets (.bulkWrite r) 0x0010 0x12 5)) ∧
    (s.dev.Serves r 0x0012 → (free → Does (.bulkRelease r) s (fun d => okay d 0x0012 ∧ d.mgmt.claim = none ∧
      d.mgmt.bulk = s.dev.mgmt.bulk ∧ s.dev.Quiet d)) ∧ (¬ free → gets (.bulkRelease r) 0x0012 3 0)) ∧
    (s.dev.Serves r 0x0101 →
      let chk := fun (x : Nat × DWord) => checkRecord g (s.dev.lciMode (stageRecs r.args)) x.1 x.2
      ((∀ x ∈ stageRecs r.args, (chk x).1 = 0) → s.dev.isActive = true → Does (.paramStage r) s (fun d =>
        d.mgmt.deliver = s.dev.mgmt.deliver ++ [(r, (stageRecs r.args).map (fun x => (x.1, (chk x).2.2)))] ∧ d.host = h ∧ s.dev.Quiet d)) ∧
      (∀ x : Nat × DWord, (stageRecs r.args).find? (fun x => (chk x).1 != 0) = some x → s.dev.isActive = true →
        Does (.paramStage r) s (fun d => s.dev.Answered d r.mbox (replyWords r 0x0101 0 (chk x).1 (chk x).2.1 []) ∧
          d.mgmt.deliver = s.dev.mgmt.deliver ∧ s.dev.Quiet d)) ∧
      (s.dev.isActive = false → gets (.paramStage r) 0x0101 0x13 1)) ∧
    (s.dev.Serves r 0x0103 →
      let named := s.dev.named g q r
      let st := fun (x : Nat) => s.dev.stagedOf g q x
      (∀ (p t : Nat) (v : DWord), s.dev.isActive = true → r.args = [0, BitVec.ofNat 32 p] → p < 2 ^ 31 → pidField p < 0x0F0 →
        groupPid g p = p → nameDetail g p = 0 → isNextRelease p = false → s.dev.stagedVal q p = some (v, t) →
        let pt := s.dev.pointAfter t (groupClsB p)
        Does (.commit r) s (fun d => s.dev.Accepted d r 0x0103 ∧ (∃ j ∈ d.mgmt.jobs, j.num = s.dev.mgmt.nextJob ∧ j.due = BitVec.ofNat 64 pt) ∧
          (∀ (l : Lane) (c : CfgField) (w : DWord), s.dev.runs l = true → (s.dev.lane l).field p = some c → c.staged = some w →
            (d.lane l).field p = some { c with staged := none, due := c.due ++ [(BitVec.ofNat 64 pt, w)] }) ∧
          (∀ l : Lane, (d.lane l).mem = (s.dev.lane l).mem) ∧ d.vot = s.dev.vot)) ∧
      (s.dev.isActive = true → namesBad g r = none → (∀ x ∈ named, (st x).2.1 = 0) → gets (.commit r) 0x0103 0x13 4) ∧
      (∀ x ∈ named, s.dev.isActive = true → namesBad g r = none → 0 < (st x).2.1 → (st x).2.1 ≠ (st x).1 → gets (.commit r) 0x0103 0x16 0) ∧
      (∀ (i ta tb : Nat) (a b : DWord), s.dev.isActive = true → r.args = [0, BitVec.ofNat 32 (pidOf 0x020 i)] → i < 2 ^ 20 → g.hasLoop i = true →
        s.dev.stagedVal q (pidOf 0x020 i) = some (a, ta) → s.dev.stagedVal q (pidOf 0x021 i) = some (b, tb) → valLt a b = true →
        Does (.commit r) s (fun d => s.dev.Answered d r.mbox (replyWords r 0x0103 0 0x12 4 []) ∧
          (∀ (l : Lane) (c : CfgField), s.dev.runs l = true → (d.lane l).field (pidOf 0x020 i) = some c → c.host = true → c.staged = none))) ∧
      (∀ (i : Nat) (c : CoefStage), s.dev.isActive = true → r.args = [0, BitVec.ofNat 32 (pidOf 0x0F0 i)] → i < 2 ^ 20 → g.hasLoop (i / 2) = true →
        stagedSet q i = some c → coefSetOk g q c.rcd = false →
        Does (.commit r) s (fun d => s.dev.Answered d r.mbox (replyWords r 0x0103 0 0x12 4 []) ∧
          (∀ l : Lane, s.dev.runs l = true → stagedSet (d.lane l) i = none))) ∧
      (s.dev.isActive = false → gets (.commit r) 0x0103 0x13 1)) ∧
    (∀ t : Nat, t + 2 * s.dev.tf ≤ s.dev.pointAfter t false) ∧
    (s.dev.Serves r 0x0104 → ∀ p : Nat, s.dev.isActive = true → r.args = [0, BitVec.ofNat 32 p] → p < 2 ^ 31 → pidField p < 0x0F0 →
      groupPid g p = p → nameDetail g p = 0 → Does (.discard r) s (fun d => okay d 0x0104 ∧
        (∀ (l : Lane) (c : CfgField), s.dev.runs l = true → (s.dev.lane l).field p = some c → c.host = true →
          (d.lane l).field p = some { c with staged := none }) ∧
        (∀ (l : Lane) (x : Nat), x ≠ p → (d.lane l).field x = (s.dev.lane l).field x) ∧
        d.mgmt.deliver = s.dev.mgmt.deliver.map (fun e => (e.1, e.2.filter (fun v => v.1 != p))))) ∧
    (s.dev.Serves r 0x0105 → ∀ a b : DWord, r.args.length = 3 → pidField (argOf r 0) = 0x080 → pidCopy (argOf r 0) = false →
      instOk g 0x080 (pidInst (argOf r 0)) = true → s.dev.runs (calLane (argOf r 0)) = true →
      (fieldInfo 0x080).bind (fun x => checkValue 0x080 (pidInst (argOf r 0)) x (calValues r true).1) = some a →
      (fieldInfo 0x081).bind (fun x => checkValue 0x081 (pidInst (argOf r 0)) x (calValues r true).2) = some b →
      s.dev.jr.queue.length < 224 → s.dev.jr.warn = false →
      let p := argOf r 0
      let i := pidInst p
      let pt := s.dev.pointAfter s.dev.gt false
      Does (.calibrate r) s (fun d => s.dev.Accepted d r 0x0105 ∧
        d.lane (calLane p) = calAssign (calAssign (s.dev.lane (calLane p)) p a pt) (pidOf 0x081 i) b pt ∧
        (∀ l : Lane, l ≠ calLane p → d.lane l = s.dev.lane l) ∧
        d.jr.queue = s.dev.jr.queue ++ [⟨⟨0x60, 1, 0, leBytes (bits i 19 18) 1 ++ leBytes (bits i 17 12) 1 ++ leBytes (bits i 11 10) 1 ++
          leBytes 0 1 ++ leBytes (dw a 15 0) 2 ++ leBytes (dw b 15 0) 2⟩, 0, true⟩])) ∧
    (s.dev.Serves r 0x0301 → free →
      let loop := bits (argOf r 0) 6 0
      let bank := bits (argOf r 0) 8 8
      let c := coefParse (s.dev.bulkBytes 0 (coefRecLen (leNat (((s.dev.bulkBytes 0 8).drop 4).take 2)) ((s.dev.bulkBytes 0 8).getD 3 0).toNat))
      let can := s.dev.isActive = true ∧ r.args.length = 1 ∧ g.hasLoop loop = true ∧ fieldHost g (pidOf 0x0F0 (2 * loop + bank)) = true
      (can → c.loop = loop → c.bank = bank → 1 ≤ c.stages → c.stages ≤ 8 → Does (.coefStage r) s (fun d => okay d 0x0301 ∧
        (∀ l : Lane, s.dev.runs l = true → (d.lane l).coefS.getLast? = some ⟨true, s.dev.gt, none, c⟩ ∧
          (d.lane l).coef = (s.dev.lane l).coef ∧ (d.lane l).cfg = (s.dev.lane l).cfg))) ∧
      (can → (c.loop ≠ loop ∨ c.bank ≠ bank ∨ c.stages = 0 ∨ 8 < c.stages) → gets (.coefStage r) 0x0301 0x12 3)) ∧
    (s.dev.Serves r 0x0202 →
      (s.dev.isActive = true → argOf r 0 ≤ 7 → s.dev.hasMode (argOf r 0) = true → Does (.modeRequest r) s (fun d => s.dev.Accepted d r 0x0202 ∧
        (∀ l : Lane, s.dev.runs l = true → (d.lane l).seq.pend = some (argOf r 0)) ∧
        (s.dev.standalone = true → ∃ x : ModeReq, d.net.req = some x ∧ x.mode = argOf r 0 ∧ x.own = true ∧ x.job = some s.dev.mgmt.nextJob) ∧
        (s.dev.standalone = false → s.dev.net.req = none → ∃ x : ModeReq, d.net.req = some x ∧ x.mode = argOf r 0 ∧
          x.seq = (s.dev.net.reqSeq + 1) % 256 ∧ x.job = some s.dev.mgmt.nextJob) ∧
        (∀ l : Lane, (d.lane l).mem = (s.dev.lane l).mem ∧ (d.lane l).seq.mode = (s.dev.lane l).seq.mode))) ∧
      (s.dev.isActive = true → argOf r 0 ≤ 7 → s.dev.hasMode (argOf r 0) = false → gets (.modeRequest r) 0x0202 0x12 2) ∧
      (s.dev.isActive = true → 7 < argOf r 0 → gets (.modeRequest r) 0x0202 0x12 3) ∧
      (s.dev.isActive = false → gets (.modeRequest r) 0x0202 0x13 1)) ∧
    (s.dev.Serves r 0x0203 → argOf r 0 < 4096 → Does (.starUnmute r) s (fun d => okay d 0x0203 ∧
      d.net = { s.dev.net with stars := s.dev.net.stars.map (fun x => if (argOf r 0).testBit x.id then { x with viol := 0, muted := false, clean := 0 } else x) } ∧
      d.lanes = s.dev.lanes ∧ d.vot = s.dev.vot)) ∧
    (s.dev.Serves r 0x0204 → free → 60 ≤ argOf r 0 → argOf r 0 ≤ 1514 → 0 < argOf r 1 → argOf r 1 < 8192 →
      (s.dev.net.roomFor false (argOf r 0) = true → (∀ p ∈ sendPorts (argOf r 1), recessGt p (argOf r 0) ≤ s.dev.recessLen) →
        Does (.netSend r) s (fun d => okay d 0x0204 ∧ d.net = { s.dev.net with
          recess := s.dev.net.recess ++ [⟨false, sendPorts (argOf r 1), s.dev.bulkBytes 0 (argOf r 0), .mgmt⟩] } ∧ d.lanes = s.dev.lanes)) ∧
      (s.dev.net.roomFor false (argOf r 0) = false → gets (.netSend r) 0x0204 3 0)) ∧
    (s.dev.Serves r 0x0205 → free →
      (s.dev.net.hostRx = [] → Does (.netReceive r) s (fun d => s.dev.Answered d r.mbox (replyWords r 0x0205 0 0 0 [0, 0]) ∧ s.dev.Quiet d)) ∧
      (∀ (p : Port) (bs : List Byte) (rest : List (Port × List Byte)), s.dev.net.hostRx = (p, bs) :: rest → Does (.netReceive r) s (fun d =>
        s.dev.Answered d r.mbox (replyWords r 0x0205 0 0 0 [BitVec.ofNat 32 bs.length, BitVec.ofNat 32 (portIdx p)]) ∧
        d.net = { s.dev.net with hostRx := rest } ∧ d.mgmt.bulk = memWrite s.dev.mgmt.bulk 0 bs ∧ d.lanes = s.dev.lanes)))

/-- Commands that test, write flash and journal, unlock and switch power (R230, R248, R399 to R402, R411 to R413, R422, R425, R429 to
R431): a long one is answered ACCEPTED with its JOB number and leaves its work under way, and each refusal the tables name is the reply. -/
def Obligations.MailboxJobs : Prop :=
  ∀ (s : State) (r : Request),
    let gets := fun (c : Instr) (code st dt : Nat) => Does c s (fun d => s.dev.Answered d r.mbox (replyWords r code 0 st dt []) ∧ s.dev.Quiet d)
    let okay := fun (d : Dev) (code : Nat) => s.dev.Answered d r.mbox (replyWords r code 0 0 0 [])
    let free := s.dev.bulkBusy r.sender = false
    let n := s.dev.mgmt.nextJob
    let f := s.dev.boot.flash
    (s.dev.Serves r 0x0501 →
      (∀ u : Nat, argOf r 0 = 1 → argOf r 1 = u → 2 ≤ u → u ≤ 8 → s.dev.unitBusy u = false →
        (s.dev.unitOff u = true → Does (.runTest r) s (fun d => s.dev.Accepted d r 0x0501 ∧
          d.gd = { s.dev.gd with diag := s.dev.gd.diag ++ [⟨u, 1, some n, false, s.dev.clk, 0, 0⟩] } ∧ d.lanes = s.dev.lanes)) ∧
        (s.dev.unitOff u = false → gets (.runTest r) 0x0501 0x13 2)) ∧
      (argOf r 0 = 2 → 1 ≤ argOf r 1 → argOf r 1 ≤ 2 → s.dev.analogJob (argOf r 1) = none → s.dev.boot.stage ≠ 6 →
        (dieUnits (argOf r 1)).any s.dev.unitBusy = false → (dieUnits (argOf r 1)).all s.dev.unitOff = true →
        Does (.runTest r) s (fun d => s.dev.Accepted d r 0x0501 ∧ s.dev.Quiet d)) ∧
      (argOf r 0 = 3 → argOf r 1 = 0 → s.dev.test.mramRun = none → Does (.runTest r) s (fun d => s.dev.Accepted d r 0x0501 ∧
        d.test = { s.dev.test with mramRun := some (0, s.dev.clk, 0, 0) } ∧ d.lanes = s.dev.lanes ∧ d.jr = s.dev.jr))) ∧
    (s.dev.Serves r 0x0503 → argOf r 0 ≤ 11 →
      (s.dev.unitOff (argOf r 0) = false → gets (.switchClear r) 0x0503 0x13 2) ∧
      (s.dev.unitOff (argOf r 0) = true → 2 ≤ argOf r 0 → argOf r 0 ≤ 8 → s.dev.unitBusy (argOf r 0) = false → Does (.switchClear r) s (fun d =>
        s.dev.Accepted d r 0x0503 ∧ d.gd = { s.dev.gd with diag := s.dev.gd.diag ++ [⟨argOf r 0, 1, some n, true, s.dev.clk, 0, 0⟩] } ∧
        d.edge = s.dev.edge)) ∧
      (s.dev.unitOff (argOf r 0) = true → (argOf r 0 < 2 ∨ 8 < argOf r 0) → s.dev.edge.length = 2 → Does (.switchClear r) s (fun d =>
        s.dev.Accepted d r 0x0503 ∧ d.gd = s.dev.gd ∧ (∀ k : Nat, k < 2 → (d.link k).cmdq =
          if linkMask (argOf r 0) k = 0 then (s.dev.link k).cmdq else (s.dev.link k).cmdq ++ [linkMask (argOf r 0) k])))) ∧
    (s.dev.Serves r 0x0602 →
      (argOf r 0 ≤ 1 → s.dev.isActive = true → s.dev.pair.swap = none → Does (.pairSwap r) s (fun d => s.dev.Accepted d r 0x0602 ∧
        (s.dev.pairUp = true → d.pair.sentRole = some (1, argOf r 0, swapCycle s.dev) ∧
          d.pair.role = s.dev.pair.role ∧ d.pair.swap = some (argOf r 0, swapCycle s.dev, false, some n) ∧ d.lanes = s.dev.lanes) ∧
        (s.dev.pairUp = false → d.pair = s.dev.pair ∧ ∃ j ∈ d.mgmt.jobs, j.num = n ∧ j.done = true ∧ j.status = 0x19 ∧ j.detail = 6))) ∧
      (argOf r 0 ≤ 1 → s.dev.isActive = false → gets (.pairSwap r) 0x0602 0x13 1) ∧ (1 < argOf r 0 → gets (.pairSwap r) 0x0602 0x12 3)) ∧
    (s.dev.Serves r 0x0603 →
      (s.dev.pair.relay = none → Does (.pairRelay r) s (fun d => s.dev.Accepted d r 0x0603 ∧ d.pair.relay = some (n, r.args, 1) ∧
        d.pair.role = s.dev.pair.role ∧ d.pair.swap = s.dev.pair.swap ∧ d.lanes = s.dev.lanes)) ∧
      (s.dev.pair.relay ≠ none → gets (.pairRelay r) 0x0603 3 0)) ∧
    (s.dev.Serves r 0x0210 → r.args.length = 2 → argOf r 0 ≤ 1 →
      (s.dev.boot.imgSlot ≠ some (argOf r 0) → s.dev.writing = false → free → 0 < argOf r 1 → argOf r 1 ≤ 2097152 → Does (.imageWrite r) s (fun d =>
        s.dev.Accepted d r 0x0210 ∧ flashPart d.boot.flash (argOf r 0) false = s.dev.bulkBytes 0 (argOf r 1) ∧ d.partOk (argOf r 0) false = false ∧
        (∀ (x : Nat) (w : Bool), x ≤ 1 → (x, w) ≠ (argOf r 0, false) → flashPart d.boot.flash x w = flashPart f x w ∧ d.partOk x w = s.dev.partOk x w))) ∧
      (s.dev.boot.imgSlot = some (argOf r 0) → gets (.imageWrite r) 0x0210 0x13 5)) ∧
    (s.dev.Serves r 0x0701 → argOf r 0 ≤ 1 →
      (s.dev.boot.fwSlot ≠ some (argOf r 0) → s.dev.writing = false → free → argOf r 1 = 0 → 0 < argOf r 2 → argOf r 2 ≤ 2097152 → argOf r 2 % 4096 = 0 →
        (argOf r 3).testBit 0 = false → Does (.fwWrite r) s (fun d => s.dev.Accepted d r 0x0701 ∧
          flashPart d.boot.flash (argOf r 0) true = s.dev.bulkBytes 0 (argOf r 2) ∧ d.partOk (argOf r 0) true = false ∧
          (argOf r 0, argOf r 2) ∈ d.mgmt.fwNext)) ∧
      (s.dev.boot.fwSlot = some (argOf r 0) → gets (.fwWrite r) 0x0701 0x13 5)) ∧
    (s.dev.Serves r 0x0703 → argOf r 0 ≤ 1 → (∀ x : Nat × Nat, bootCopy f.bcb0 = some x ∨ bootCopy f.bcb1 = some x → x.1 < 2 ^ 32 - 1) →
      Does (.slotSelect r) s (fun d => okay d 0x0703 ∧
      preferred d.boot.flash = argOf r 0 ∧ (∀ (x : Nat) (w : Bool), flashPart d.boot.flash x w = flashPart f x w) ∧
      d.boot.imgSlot = s.dev.boot.imgSlot ∧ d.lanes = s.dev.lanes)) ∧
    (s.dev.Serves r 0x0704 →
      let held := s.dev.boot.released && s.dev.isActive && !s.dev.partnerReady && !s.dev.stopDown
      (held = false → Does (.restart r) s (fun d => okay d 0x0704 ∧ d.mgmt.restart = some (s.dev.clk + 640000) ∧ s.dev.Quiet d)) ∧
      (held = true → gets (.restart r) 0x0704 0x13 7)) ∧
    (s.dev.Serves r 0x0901 → free → s.dev.jobRuns 0x0901 = false →
      (s.dev.keyLocked = false → Does (.attest r) s (fun d => s.dev.Accepted d r 0x0901 ∧ d.mgmt.claim = some (r.sender, s.dev.clk) ∧ s.dev.Quiet d)) ∧
      (s.dev.keyLocked = true → gets (.attest r) 0x0901 0x18 0)) ∧
    (∀ rnd : List Byte, s.dev.Serves r 0x0902 → rnd.length = 32 → Does (.debugChallenge r rnd) s (fun d =>
      s.dev.Answered d r.mbox (replyWords r 0x0902 0 0 0 (wordsOf 8 rnd)) ∧ d.mgmt.challenge = some (rnd, s.dev.clk) ∧ s.dev.Quiet d)) ∧
    (∀ (c : List Byte) (t : Nat), s.dev.mgmt.challenge = some (c, t) → Does .challengeExpiry s (fun d =>
      d.mgmt = { s.dev.mgmt with challenge := none } ∧ t + 60000 * 640000 ≤ d.clk ∧ d.lanes = s.dev.lanes ∧ d.boot = s.dev.boot)) ∧
    (s.dev.mgmt.challenge = none → exec .challengeExpiry s = .next s) ∧
    (s.dev.Serves r 0x0903 → free → s.dev.jobRuns 0x0903 = false → argOf r 0 = 7279 →
      let scan := (fieldAt (s.dev.bulkBytes 0 60) 5 1).testBit 1
      let live := s.dev.boot.released && !s.dev.stopDown
      ((scan && live) = false → Does (.debugUnlock r) s (fun d => s.dev.Accepted d r 0x0903 ∧ d.mgmt.challenge = none ∧
        s.dev.Quiet d)) ∧
      ((scan && live) = true → gets (.debugUnlock r) 0x0903 0x13 8)) ∧
    (s.dev.Serves r 0x0904 → Does (.debugLock r) s (fun d => okay d 0x0904 ∧ d.boot = { s.dev.boot with debugOpen := false } ∧ d.mgmt.jobs = s.dev.mgmt.jobs ∧
      d.lanes = s.dev.lanes ∧ d.vot = s.dev.vot ∧ d.jr = s.dev.jr)) ∧
    (s.dev.Serves r 0x0905 → s.dev.writing = false → s.dev.jobRuns 0x0905 = false →
      let other := 1 - s.dev.boot.imgSlot.getD 0
      let v := argOf r 0
      (s.dev.imageFloor < v → v ≤ s.dev.imageSec → v ≤ 63 → s.dev.partOk other false = true → v ≤ fieldAt (flashPart f other false) 0x18 4 →
        Does (.rollbackAdvance r) s (fun d => s.dev.Accepted d r 0x0905 ∧ d.boot = { s.dev.boot with imgFloor := v } ∧ d.lanes = s.dev.lanes)) ∧
      ((v ≤ s.dev.imageFloor ∨ s.dev.imageSec < v ∨ 63 < v) → gets (.rollbackAdvance r) 0x0905 0x12 3) ∧
      (s.dev.imageFloor < v → v ≤ s.dev.imageSec → v ≤ 63 → s.dev.partOk other false = false → gets (.rollbackAdvance r) 0x0905 0x13 5)) ∧
    (s.dev.Serves r 0x0A01 →
      (∀ c : Nat, c ∈ [1, 2, 3, 9, 10, 11] → argOf r 0 = c →
        (argOf r 1 = 1 → s.dev.pwr.on.getLsbD c = false → 9 ≤ c → Does (.pwrSet r) s (fun d => s.dev.Accepted d r 0x0A01 ∧
          d.pwr = { s.dev.pwr with on := setBit12 s.dev.pwr.on c true, jobs := s.dev.pwr.jobs ++ [(c, n)] } ∧ d.lanes = s.dev.lanes)) ∧
        (argOf r 1 = 0 → s.dev.pwr.on.getLsbD c = true → 9 ≤ c → (domUnits c).all s.dev.unitOff = false → gets (.pwrSet r) 0x0A01 0x13 2) ∧
        (argOf r 1 = 0 → s.dev.pwr.on.getLsbD c = true → 9 ≤ c → (domUnits c).all s.dev.unitOff = true → Does (.pwrSet r) s (fun d =>
          d.pwr.on.getLsbD c = false ∧ d.pwr.good.getLsbD c = false ∧
          (∀ i : Nat, i ≠ c → d.pwr.on.getLsbD i = s.dev.pwr.on.getLsbD i ∧ d.pwr.good.getLsbD i = s.dev.pwr.good.getLsbD i))) ∧
        (argOf r 1 = 0 → s.dev.pwr.on.getLsbD c = true → c ≤ 3 → s.dev.liveCount < 3 → gets (.pwrSet r) 0x0A01 0x13 3)) ∧
      (argOf r 0 ∉ [1, 2, 3, 9, 10, 11] → gets (.pwrSet r) 0x0A01 0x12 2)) ∧
    (s.dev.Serves r 0x0402 → free →
      (s.dev.jobRuns 0x0402 = false → Does (.journalRead r) s (fun d => s.dev.Accepted d r 0x0402 ∧ d.mgmt.claim = some (r.sender, s.dev.clk) ∧ s.dev.Quiet d)) ∧
      (s.dev.jobRuns 0x0402 = true → gets (.journalRead r) 0x0402 3 0)) ∧
    (s.dev.Serves r 0x0403 → s.dev.jr.main.comp = none → Does (.journalCompact r) s (fun d => s.dev.Accepted d r 0x0403 ∧
      (∃ c : CompSt, d.jr = { s.dev.jr with main := { s.dev.jr.main with comp := some c } } ∧ c.slice = 0 ∧ c.start = s.dev.clk ∧
        c.bound = s.dev.jr.nextSeq ∧ c.jobs = [n]) ∧ d.lanes = s.dev.lanes)) ∧
    (s.dev.Serves r 0x0404 →
      (0x8000 ≤ argOf r 0 → argOf r 0 ≤ 0xFFFF → s.dev.jr.queue.length < 192 → s.dev.jr.warn = false → Does (.journalAppend r) s (fun d =>
        s.dev.Answered d r.mbox (replyWords r 0x0404 0 0 0 [seqAhead s.dev.jr.nextSeq s.dev.jr.queue.length]) ∧
        d.jr = { s.dev.jr with queue := s.dev.jr.queue ++
          [⟨⟨argOf r 0, 2, r.sender, (r.args.drop 1).flatMap (fun w => leBytes w.toNat 4)⟩, 0, false⟩] } ∧ d.lanes = s.dev.lanes)) ∧
      ((argOf r 0 < 0x8000 ∨ 0xFFFF < argOf r 0) → gets (.journalAppend r) 0x0404 0x12 3) ∧
      (0x8000 ≤ argOf r 0 → argOf r 0 ≤ 0xFFFF → (192 ≤ s.dev.jr.queue.length ∨ s.dev.jr.warn = true) → Does (.journalAppend r) s (fun d =>
        s.dev.Answered d r.mbox (replyWords r 0x0404 0 3 0 []) ∧ d.jr = { s.dev.jr with evDrop := satInc 255 s.dev.jr.evDrop })))

/-! ### Journal -/

/-- JOURNAL_POST, RECORD_WRITE, COMPACTION_SLICE, RETENTION_REFRESH, MRAM_CHECK_SLICE, EARLY_WARNING, EARLY_WARNING_CLEAR (R407 to R416,
R439, R448): a FAULT post is queued or merged and never dropped, a STATE or EVENT post is dropped and counted when its share of the queue is
full; a written record takes the next SEQ and stands at the write pointer; the last slice of a compaction makes the other area active. -/
def Obligations.Journal : Prop :=
  ∀ s : State, s.dev.hubUp = true →
    let j := s.dev.jr
    let same := fun (d : Dev) => d.lanes = s.dev.lanes ∧ d.vot = s.dev.vot ∧ d.host = s.dev.host ∧ d.mgmt = s.dev.mgmt ∧ d.time = s.dev.time
    (∀ p : Post, p.payload.length ≤ 4072 →
      (((p.cls = 0 ∧ j.queue.length < 256) ∨ (p.cls = 1 ∧ j.queue.length < 224 ∧ j.warn = false) ∨
        (p.cls = 2 ∧ j.queue.length < 192 ∧ j.warn = false)) → Does (.journalPost p) s (fun d =>
        d.jr = { j with queue := j.queue ++ [⟨p, 0, recCal p.type⟩] } ∧ same d)) ∧
      (p.cls = 0 → 256 ≤ j.queue.length →
        (∀ (l1 l2 : List QRec) (x : QRec), let like := fun (y : QRec) => y.post.cls == 0 && y.post.type == p.type && y.post.source == p.source
          j.queue = l1 ++ x :: l2 → like x = true → l2.any like = false → Does (.journalPost p) s (fun d =>
            d.jr = { j with queue := l1 ++ { x with rep := satInc 0xFFFF x.rep } :: l2 } ∧ same d)) ∧
        (j.queue.any (fun y => y.post.cls == 0 && y.post.type == p.type && y.post.source == p.source) = false → Does (.journalPost p) s (fun d =>
          d.jr.merged = satInc 255 j.merged ∧ d.jr.queue.map (·.post) = j.queue.map (·.post) ∧ same d))) ∧
      (p.cls = 1 → (224 ≤ j.queue.length ∨ j.warn = true) → Does (.journalPost p) s (fun d =>
        d.jr = { j with stDrop := satInc 255 j.stDrop } ∧ same d)) ∧
      (p.cls = 2 → (192 ≤ j.queue.length ∨ j.warn = true) → Does (.journalPost p) s (fun d =>
        d.jr = { j with evDrop := satInc 255 j.evDrop } ∧ same d))) ∧
    (∀ (q : QRec) (rest : List QRec), j.queue = q :: rest → s.dev.scanned = true →
      let a := (j.store q.cal).area
      let n := footprint q.post.payload.length
      (a.fits q.cal q.post.cls n = true → Does .recordWrite s (fun d => d.jr.queue = rest ∧ d.jr.nextSeq = seqAfter j.nextSeq ∧
        (d.jr.store q.cal).area = { a with ptr := recStart a.ptr n + n, recs := a.recs ++
          [⟨recStart a.ptr n, q.post.type, q.post.cls, q.post.source, j.nextSeq, q.rep, q.post.payload, false⟩] } ∧
        (d.jr.store (!q.cal)).area = (j.store (!q.cal)).area ∧ d.lanes = s.dev.lanes ∧ d.vot = s.dev.vot ∧ d.mgmt = s.dev.mgmt)) ∧
      (a.fits q.cal q.post.cls n = false → q.post.cls = 2 → Does .recordWrite s (fun d => d.jr.queue = rest ∧ d.jr.evDrop = satInc 255 j.evDrop ∧
        d.jr.nextSeq = j.nextSeq ∧ (d.jr.store q.cal).area = a))) ∧
    (j.queue = [] → exec .recordWrite s = .next s) ∧
    (∀ (cal : Bool), ((j.store cal).comp = none → exec (.compactionSlice cal) s = .next s) ∧
      (∀ c : CompSt, (j.store cal).comp = some c → Does (.compactionSlice cal) s (fun d => c.start ≤ d.clk ∧
        (∀ x ∈ d.jr.queue, x.post.cls ≠ 0) ∧
        (1 < c.left → (d.jr.store cal).comp = some ⟨c.slice + 1, d.clk + 64000000, c.bound, c.left - 1, c.jobs⟩ ∧
          (d.jr.store cal).active = (j.store cal).active) ∧
        (c.left ≤ 1 → (d.jr.store cal).comp = none ∧ (d.jr.store cal).active = !(j.store cal).active ∧
          (d.jr.store cal).area.gen = some ((j.store cal).area.gen.getD 0 + 1) ∧
          (∃ x rest, (d.jr.store cal).area.recs = x :: rest ∧ x.type = 1 ∧ d.jr.nextSeq = seqAfter x.seq)) ∧
        d.lanes = s.dev.lanes ∧ d.vot = s.dev.vot))) ∧
    (s.dev.scanned = true → j.main.comp = none → j.cal.comp = none →
      (2 ^ 30 ≤ s.dev.mgmt.account → Does .retentionRefresh s (fun d => d.jr.main.comp.map (·.jobs) = some [0] ∧
        d.jr.cal.comp.map (·.jobs) = some [0] ∧ d.jr.main.area = j.main.area ∧ d.jr.cal.area = j.cal.area ∧ same d)) ∧
      (s.dev.mgmt.account < 2 ^ 30 → exec .retentionRefresh s = .next s)) ∧
    (∀ (cor : Nat) (bad : List Nat),
      (s.dev.test.mramRun = none → exec (.mramCheckSlice cor bad) s = .next s) ∧
      (∀ n t c u : Nat, s.dev.test.mramRun = some (n, t, c, u) →
        ((j.main.comp.isSome || j.cal.comp.isSome) = true → exec (.mramCheckSlice cor bad) s = .next s) ∧
        ((j.main.comp.isSome || j.cal.comp.isSome) = false → Does (.mramCheckSlice cor bad) s (fun d => t ≤ d.clk ∧
          d.test.corrected = min 65535 (s.dev.test.corrected + cor) ∧
          d.test.uncorr = s.dev.test.uncorr + (bad.filter (fun x => !j.badMram.contains x)).length ∧
          (n < 15 → d.test.mramRun = some (n + 1, d.clk + 6400000, c + cor, u + bad.length)) ∧
          (15 ≤ n → d.test.mramRun = none ∧ d.test.mram = if 0 < u + bad.length then 3 else if 0 < c + cor then 2 else 1) ∧
          d.lanes = s.dev.lanes ∧ d.vot = s.dev.vot)))) ∧
    (s.dev.scanned = true → Does .earlyWarning s (fun d => d.pwr = { s.dev.pwr with warn := true } ∧ d.jr.warn = true ∧ d.jr.main.comp = none ∧
      d.jr.cal.comp = none ∧ d.test.mramRun = none ∧ (∀ x ∈ d.jr.queue, x.post.cls ≠ 0 ∧ x.post.cls ≠ 1) ∧ d.lanes = s.dev.lanes ∧ d.vot = s.dev.vot)) ∧
    exec .earlyWarningClear s = .next { s with dev := { s.dev with pwr := { s.dev.pwr with warn := false }, jr := { j with warn := false } } }

/-! ### Start-up, power and reset -/

/-- PLINTH, HUB_BIST, FETCH, VERIFY, LOAD, ANALOG_SELF_TEST_DONE, SELF_TEST, RELEASE (R91, R417, R419 to R422, R426, R432, R435, R437 to R439):
each stage runs only in its own turn and leads to the next stage or to the error code of its failure; release puts every lane that passed
into INITIAL_MODE at GT 0 of a standalone device. -/
def Obligations.StartUp : Prop :=
  ∀ s : State,
    let b := s.dev.boot
    let f := b.flash
    let at_ := fun (d : Dev) (n len : Nat) => d.boot.stage = n ∧ d.boot.stageAt = d.clk ∧ b.stageAt + len ≤ d.clk
    (∀ bad : Bool, (b.stage ≠ 1 → exec (.plinth bad) s = .next s) ∧ (b.stage = 1 → Does (.plinth bad) s (fun d =>
      at_ d (if bad then 0x81 else 2) 256000 ∧ (bad = true → d.lanes = s.dev.lanes) ∧
      (bad = false → ∀ l : Lane, (s.dev.domUp (1 + laneIdx l) = true → d.lane l = s.dev.lane l ∧ ∃ t : Nat, (l, t) ∈ d.test.bistRun) ∧
        (s.dev.domUp (1 + laneIdx l) = false → d.phase l = .failed))))) ∧
    (∀ ok : Bool, (b.stage ≠ 2 → exec (.hubBist ok) s = .next s) ∧ (b.stage = 2 → Does (.hubBist ok) s (fun d =>
      at_ d (if ok then 3 else 0x82) 7680000 ∧ d.test.hubBist = (if ok then 1 else 3) ∧ d.lanes = s.dev.lanes))) ∧
    (∀ x : Option Flash, (b.stage ≠ 3 → exec (.fetch x) s = .next s) ∧ (b.stage = 3 → Does (.fetch x) s (fun d =>
      at_ d 4 12800000 ∧ d.boot.flash = x.getD f ∧ d.jr.main.comp = none ∧ d.jr.cal.comp = none ∧ d.scanned = true ∧ d.lanes = s.dev.lanes))) ∧
    (∀ fa ia fb ib : Bool,
      let p := preferred f
      let fw := fun (x : Nat) => fwDetail b.fwFloor (fwCrypt b.fuses (if x = 0 then fa else fb) (flashPart f x true)) (flashPart f x true)
      let im := fun (y x : Nat) => startImage s.dev.imageFloor (fieldAt (flashPart f y true) 6 2)
        (imageCrypt b.fuses (if x = 0 then ia else ib) (flashPart f x false)) (flashPart f x false)
      let key := fun (d : Dev) =>
        (b.scan = true → d.boot.privKey = b.privKey ∧ d.boot.keyOk = b.keyOk) ∧ (b.scan = false → d.boot.keyOk = true ∧
          (b.privKey.length = 4960 → sha3_512 (b.privKey.take 4896) = b.privKey.drop 4896 → d.boot.privKey = b.privKey))
      (b.stage ≠ 4 → exec (.verify fa ia fb ib) s = .next s) ∧
      (b.stage = 4 → fw p = 0 → im p p = 0 → Does (.verify fa ia fb ib) s (fun d => at_ d 5 3200000 ∧ d.boot.fwSlot = some p ∧
        d.boot.imgSlot = some p ∧ key d ∧ d.boot.fallFw = b.fallFw ∧ d.boot.fallImg = b.fallImg ∧ d.boot.flash = f ∧ d.lanes = s.dev.lanes)) ∧
      (b.stage = 4 → fw p = 0 → im p p ≠ 0 → im p (1 - p) = 0 → Does (.verify fa ia fb ib) s (fun d => at_ d 5 3200000 ∧ d.boot.fwSlot = some p ∧
        d.boot.imgSlot = some (1 - p) ∧ d.boot.fallImg = true ∧ key d)) ∧
      (b.stage = 4 → fw p = 0 → im p p ≠ 0 → im p (1 - p) ≠ 0 → Does (.verify fa ia fb ib) s (fun d => at_ d 0x84 3200000 ∧
        d.boot.imgSlot = b.imgSlot ∧ key d)) ∧
      (b.stage = 4 → fw p ≠ 0 → fw (1 - p) = 0 → im (1 - p) p = 0 → Does (.verify fa ia fb ib) s (fun d => at_ d 5 3200000 ∧
        d.boot.fwSlot = some (1 - p) ∧ d.boot.imgSlot = some p ∧ d.boot.fallFw = true ∧ key d)) ∧
      (b.stage = 4 → fw p ≠ 0 → fw (1 - p) ≠ 0 → Does (.verify fa ia fb ib) s (fun d => at_ d 0x83 3200000 ∧ d.boot.fwSlot = b.fwSlot ∧ key d))) ∧
    (∀ (x : Nat) (hits : List LoadHit), b.imgSlot = some x → b.stage = 5 → s.dev.test.bistRun = [] → Does (.load hits) s (fun d =>
      let g := imageOf (flashPart f x false)
      at_ d 6 11520000 ∧ d.boot.running = some g ∧ d.pair.role = (if g.paired then .init else .active) ∧
      (∀ l : Lane, s.dev.phase l = .idle → (d.lane l).mem = initMem g ∧ (d.lane l).coef = g.coefs ∧ d.phase l = .idle ∧
        (d.lane l).seq.loadCrc = crc64 (loadBytes g ((hits.filter (fun h => h.l == l)).map (fun h => (h.at_, h.x))))) ∧
      (∀ l : Lane, s.dev.phase l ≠ .idle → d.lane l = s.dev.lane l))) ∧
    (∀ hits : List LoadHit, (b.imgSlot = none ∨ b.stage ≠ 5 ∨ s.dev.test.bistRun ≠ []) → exec (.load hits) s = .next s) ∧
    (∀ (die : Nat) (bad : List (Nat × Side × Nat)),
      ((2 ≤ die ∨ s.dev.analogRuns die = none) → exec (.analogSelfTestDone die bad) s = .next s) ∧
      (∀ t : Nat, die < 2 → s.dev.analogRuns die = some t → Does (.analogSelfTestDone die bad) s (fun d => t + 1280000 ≤ d.clk ∧
        (if die = 0 then d.test.dd.1 else d.test.dd.2) = (if bad = [] then 1 else 3) ∧ (bad ≠ [] → d.test.ddFail = true) ∧ d.lanes = s.dev.lanes))) ∧
    (∀ (cor : Nat) (bad : List Nat),
      ((b.stage ≠ 6 ∨ s.dev.diesDone = false) → exec (.selfTest cor bad) s = .next s) ∧
      (b.stage = 6 → s.dev.diesDone = true → Does (.selfTest cor bad) s (fun d => b.stageAt + 19200000 ≤ d.clk ∧ d.boot.selfDone = true ∧
        d.test.mram = (if bad = [] then (if 0 < cor then 2 else 1) else 3) ∧ d.lanes = s.dev.lanes ∧
        d.boot.stage = (if bad.any (fun x => mramRow x == 0) = true then 0x86 else if s.dev.passed.length < 2 then 0x85
          else if s.dev.agreed.length < 2 then 0x84 else 7)))) ∧
    (b.stage ≠ 7 → exec .release s = .next s) ∧
    (b.stage = 7 → s.dev.standalone = true → (∀ l ∈ s.dev.passed, crcShared s.dev s.dev.passed l = true) → Does .release s (fun d => d.boot.stage = 8 ∧ d.boot.released = true ∧
      d.time.run = true ∧ d.time.gt = 0 ∧ d.time.bellGt = 0 ∧ d.time.cycle = 0 ∧ d.time.belled = true ∧ d.time.nextFc = BitVec.ofNat 64 s.dev.tf ∧
      (∀ l ∈ s.dev.passed, d.phase l = .live ∧ (d.lane l).seq.mode = s.dev.img.initialMode ∧ (d.lane l).seq.ptr = 0 ∧
        (d.lane l).mem = (s.dev.lane l).mem) ∧
      (∀ l : Lane, l ∉ s.dev.passed → s.dev.phase l ≠ .live → d.phase l = s.dev.phase l))) ∧
    (b.stage = 7 → s.dev.standalone = false → (s.dev.net.ring ≠ .member ∨ s.dev.net.synced = false ∨ s.dev.time.belled = false) →
      exec .release s = .next s)

/-- DEVICE_RESET, POR_N_RELEASE, RESTART_DELAY_EXPIRY, DOMAIN_DOWN, DOMAIN_GOOD (R399, R402, R419, R445 to R447): a reset keeps fuses, keys and
what the MRAM holds, and loses the rest; a domain that goes down is recorded, loses its GOOD bit and takes its unit with it. That GOOD reads
0xFFF from POR_N release is the model's choice (log entry 93). -/
def Obligations.Power : Prop :=
  ∀ s : State,
    let z := State.reset.dev
    let p := s.dev.pwr
    (∀ vaon : Bool, Does (.deviceReset vaon) s (fun d => d.lanes = z.lanes ∧ d.vot = z.vot ∧ d.gd = z.gd ∧ d.edge = z.edge ∧ d.safe = z.safe ∧
      d.net = z.net ∧ d.can = z.can ∧ d.host = z.host ∧ d.mgmt = z.mgmt ∧ d.time = z.time ∧ d.boot.stage = 0 ∧ d.boot.released = false ∧
      d.boot.fuses = s.dev.boot.fuses ∧ d.boot.privKey = s.dev.boot.privKey ∧ d.jr.main.a0 = s.dev.jr.main.a0 ∧ d.jr.main.a1 = s.dev.jr.main.a1 ∧
      d.jr.cal.a0 = s.dev.jr.cal.a0 ∧ d.jr.cal.a1 = s.dev.jr.cal.a1 ∧ d.jr.queue = [] ∧ d.pwr.cause = (if vaon then 3 else 1))) ∧
    (∀ id : Bool, (s.dev.boot.stage = 0 → Does (.porNRelease id) s (fun d =>
        d.boot = { s.dev.boot with stage := 1, stageAt := s.dev.clk } ∧ d.pwr = { p with good := 0xFFF, dropped := 0 } ∧
        d.pair = { s.dev.pair with pairId := id } ∧ d.lanes = s.dev.lanes ∧ d.gd = s.dev.gd ∧ d.time = s.dev.time ∧
        (∀ b : Bool, d.sio b = { s.dev.sio b with phase := (d.sio b).phase, reqAt := s.dev.clk }))) ∧
      (s.dev.boot.stage ≠ 0 → exec (.porNRelease id) s = .next s)) ∧
    (∀ t : Nat, s.dev.mgmt.restart = some t → Does .restartDelayExpiry s (fun d => d.boot.stage = 1 ∧ d.pwr.cause = 2 ∧ d.pwr.good = 0xFFF ∧
      d.lanes = z.lanes ∧ d.gd = z.gd ∧ d.mgmt = z.mgmt ∧ d.boot.fuses = s.dev.boot.fuses ∧ d.pair.pairId = s.dev.pair.pairId)) ∧
    (s.dev.mgmt.restart = none → exec .restartDelayExpiry s = .next s) ∧
    (∀ c : Nat, (12 ≤ c ∨ p.good.getLsbD c = false) → exec (.domainDown c) s = .next s) ∧
    (p.good.getLsbD 0 = true → Does (.domainDown 0) s (fun d => d.boot.stage = 0 ∧ d.pwr.cause = 3 ∧ d.lanes = z.lanes ∧ d.safe = z.safe)) ∧
    (∀ c : Nat, 1 ≤ c → c < 12 → p.good.getLsbD c = true → Does (.domainDown c) s (fun d =>
      (∀ i : Nat, i < 12 → d.pwr.good.getLsbD i = (p.good.getLsbD i && i != c) ∧ d.pwr.dropped.getLsbD i = (p.dropped.getLsbD i || i == c)) ∧
      d.pwr.on = p.on ∧ d.pwr.cause = p.cause ∧
      (c ≤ 3 → d.phase (domLane c) = (if s.dev.phase (domLane c) = .failed then .failed else .off) ∧
        (∀ l : Lane, l ≠ domLane c → d.lane l = s.dev.lane l)) ∧
      (4 ≤ c → c ≤ 6 → d.pwr.hubLost = true ∧ d.lanes = s.dev.lanes) ∧
      (c = 7 ∨ c = 8 → (d.sio (c == 8)).lost = true ∧ (d.sio (c == 8)).stoOff = true ∧ (d.sio (c == 8)).pbApply = true ∧
        (d.sio (c == 8)).safeOk = false ∧ d.sio (c == 7) = s.dev.sio (c == 7)) ∧
      (c = 9 → d.gd.vgdUv = (true, s.dev.gd.vgdUv.2)) ∧ (c = 10 → d.gd.vgdUv = (s.dev.gd.vgdUv.1, true)) ∧
      (c = 11 → ∀ x ∈ d.edge, x.evq = [] ∧ x.cmdq = []))) ∧
    (∀ c : Nat, (12 ≤ c ∨ p.good.getLsbD c = true ∨ s.dev.boot.stage = 0) → exec (.domainGood c) s = .next s) ∧
    (∀ c : Nat, c < 12 → p.good.getLsbD c = false → s.dev.boot.stage ≠ 0 → Does (.domainGood c) s (fun d =>
      (∀ i : Nat, i < 12 → d.pwr.good.getLsbD i = (p.good.getLsbD i || i == c)) ∧ d.pwr.on = p.on ∧
      (p.on.getLsbD c = false → d.lanes = s.dev.lanes ∧ d.gd = s.dev.gd ∧ d.safe = s.dev.safe ∧ d.edge = s.dev.edge) ∧
      (p.on.getLsbD c = true → (c = 7 ∨ c = 8) → (d.sio (c == 8)).lost = false ∧ (d.sio (c == 8)).ofault = (s.dev.sio (c == 8)).ofault) ∧
      (p.on.getLsbD c = true → 1 ≤ c → c ≤ 3 → s.dev.boot.released = true → 2 ≤ s.dev.liveCount → s.dev.phase (domLane c) = .off →
        d.phase (domLane c) = .out ∧ ∃ t : Nat, (domLane c, t) ∈ d.test.bistRun)))

/-- FAST_CYCLE_BOUNDARY and BELL (R39, R50, R51, R58 to R60, R63, R117, R347, R385): the boundary index counts up to the next bell, a bell opens
the next network cycle with every pointer at entry 0 and the counters' snapshot taken, and before GT runs neither does anything. What becomes
live at a boundary is the newest assigned value whose commit point has come, else a timetable-staged value of class F, or of class B at a bell,
once every member of its group is staged; an entry that is still undispatched at the bell takes its lane out with cause 0x4. The test words of a
fast cycle call for the verdict that Table 5-4 lists. -/
def Obligations.BoundaryAndBell : Prop :=
  ∀ s : State,
    let t := s.dev.time
    (∀ reads : List TestRead, (t.run = false ∨ t.belled = false → exec (.fastCycleBoundary reads) s = .next s) ∧
      (t.run = true → t.belled = true → Does (.fastCycleBoundary reads) s (fun d =>
        d.time.nextFc = BitVec.ofNat 64 (t.nextFc.toNat + d.tf) ∧ d.time.fcIdx = (t.fcIdx + 1) % max 1 d.k ∧ d.time.bellDue = (t.fcIdx == 0) ∧
        d.time.cycle = t.cycle + (if t.bellDue = true then 1 else 0) ∧ d.pair.seen = false))) ∧
    (∀ par : List Lane, (t.run = false → exec (.bell par) s = .next s) ∧
      (t.run = true → t.belled = false → Does (.bell par) s (fun d => d.time.belled = true ∧ d.time.nextFc = BitVec.ofNat 64 (t.nextFc.toNat + d.tf) ∧
        d.time.fcIdx = 1 % max 1 d.k ∧ (d.hubUp = true → d.host.snap = d.host.cnt))) ∧
      (t.run = true → t.belled = true → Does (.bell par) s (fun d => d.time.cycle = t.cycle + 1 ∧ d.time.bellDue = false ∧
        (t.bellDue = true → d.time.bellGt = BitVec.ofNat 64 (t.nextFc.toNat - s.dev.tf) ∧ d.time.nextFc = t.nextFc ∧ d.time.fcIdx = t.fcIdx) ∧
        (∀ l : Lane, (d.lane l).seq.ptr = 0) ∧ (d.hubUp = true → d.host.snap = d.host.cnt)))) ∧
    (∀ (q : LaneSt) (g : Img) (bell : Bool) (b : Nat) (c : CfgField),
      let due := c.due.filter (fun e => decide (e.1.toNat ≤ b))
      (∀ e, due.getLast? = some e → (swapField q g bell b c).live = e.2 ∧ ∀ x ∈ (swapField q g bell b c).due, b < x.1.toNat) ∧
      (∀ v : DWord, due = [] → q.ttReady g bell c = true → c.staged = some v → swapField q g bell b c = { c with live := v, staged := none }) ∧
      (due = [] → q.ttReady g bell c = false → swapField q g bell b c = c) ∧
      (q.ttReady g bell c = true → c.host = false ∧ c.staged.isSome = true ∧ (bell = true ∨ groupClsB (groupPid g c.pid) = false) ∧
        ∀ p ∈ groupMembers g (groupPid g c.pid), ∃ x : CfgField, q.field p = some x ∧ x.host = false ∧ x.staged.isSome = true)) ∧
    (∀ (l : Lane) (g : Img) (m : ModeRec), s.dev.boot.running = some g → g.mode (s.dev.lane l).seq.mode = some m → s.dev.runs l = true →
      (s.dev.lane l).seq.ptr < m.count → ((overrun s.dev l).lane l).seq.phase = .out ∧ ((overrun s.dev l).lane l).seq.cause = 4 ∧
        ((overrun s.dev l).lane l).seq.fEntry = (s.dev.lane l).seq.ptr ∧ (∀ k : Lane, k ≠ l → (overrun s.dev l).lane k = s.dev.lane k)) ∧
    (∀ l : Lane, (s.dev.runs l = false ∨ ∀ g m, s.dev.boot.running = some g → g.mode (s.dev.lane l).seq.mode = some m →
      m.count ≤ (s.dev.lane l).seq.ptr) → overrun s.dev l = s.dev) ∧
    (∀ c : Nat, testVerdict (testWords c).a (testWords c).b (testWords c).c = testExpected c)

/-- What reset leaves (R36, R177, R349, R354, R419, R420, R450 and the Reset columns): STAGE 0x00, nothing released, GT not running, every switch and
safety output off with demand accepted, no doorbell, counter or command. GOOD is 0x000 and ON 0xFFF by Table 25-5. After reset every byte memory has its canonical form. -/
def Obligations.ResetState : Prop :=
  (core.reset = State.reset ∧ State.reset.pending = [] ∧
    (let d := State.reset.dev
     d.boot.stage = 0 ∧ d.boot.released = false ∧ d.boot.running = none ∧ d.time.run = false ∧ d.time.belled = false ∧ d.time.gt = 0 ∧
     (∀ l : Lane, d.phase l = .idle ∧ (d.lane l).mem = [] ∧ ((d.lane l).fcu.all (fun x => x.eff == 1)) = true) ∧
     (∀ h ∈ d.gd.hb, h.hi.on = false ∧ h.lo.on = false ∧ h.evq = []) ∧
     (∀ b o, d.sioPin b o = false) ∧ (∀ b, (d.sio b).req = true ∧ (d.sio b).guard = false) ∧
     d.host.door = 0 ∧ d.host.enable = 0 ∧ d.host.cnt = [] ∧ d.host.snap = [] ∧ d.host.replies = [] ∧
     (∀ m : Nat, (d.inb m).full = false ∧ (d.outb m).full = false) ∧ d.mgmt.jobs = [] ∧ d.mgmt.claim = none ∧ d.jr.queue = [] ∧
     d.pwr.good = 0 ∧ d.pwr.on = 0xFFF ∧ d.pwr.cause = 0 ∧ d.hubUp = true ∧ d.liveLanes = [])) ∧
  (core.reset.dev.memsWf ∧ core.reset.pending = [])
end

