-- ==== Sys2Proof/Laws/Memory.lean ====
section
/-! SUPPORT. The laws of byte memory: every operation keeps the canonical form, a read after a write gives the value written, and
every other byte stays. The memories of the state after reset have the form. -/

namespace Sys2Proof.Machine
open Sys2Proof

theorem memWfFrom_le : ∀ (m : List Host.Cell) (n k : Nat), k ≤ n → memWfFrom n m = true → memWfFrom k m = true
  | [], _, _, _, _ => rfl
  | (a, b) :: r, n, k, h, w => by
    simp only [memWfFrom, Bool.and_eq_true, decide_eq_true_eq] at w ⊢
    exact ⟨⟨le_trans h w.1.1, w.1.2⟩, w.2⟩

theorem memSet_wfFrom : ∀ (m : List Host.Cell) (n x : Nat) (v : Byte), n ≤ x → memWfFrom n m = true → memWfFrom n (memSet m x v) = true
  | [], n, x, v, h, _ => by
    simp only [memSet]
    split_ifs with hv
    · rfl
    · simp only [memWfFrom, Bool.and_eq_true, decide_eq_true_eq]
      exact ⟨⟨h, by simpa using hv⟩, trivial⟩
  | (a, b) :: r, n, x, v, h, w => by
    have w' := w
    simp only [memWfFrom, Bool.and_eq_true, decide_eq_true_eq] at w
    obtain ⟨⟨h1, h2⟩, h3⟩ := w
    simp only [memSet]
    split_ifs with c1 c2 c3 c4
    · exact w'
    · simp only [memWfFrom, Bool.and_eq_true, decide_eq_true_eq]
      exact ⟨⟨h, by simpa using c2⟩, ⟨c1, h2⟩, h3⟩
    · exact memWfFrom_le r _ _ (by omega) h3
    · simp only [memWfFrom, Bool.and_eq_true, decide_eq_true_eq]
      exact ⟨⟨h, by simpa using c4⟩, by rw [c3]; exact h3⟩
    · simp only [memWfFrom, Bool.and_eq_true, decide_eq_true_eq]
      exact ⟨⟨h1, h2⟩, memSet_wfFrom r _ x v (by omega) h3⟩

/-- Writing a byte keeps the canonical form. -/
theorem memSet_wf (m : List Host.Cell) (x : Nat) (v : Byte) (h : memWf m = true) : memWf (memSet m x v) = true :=
  memSet_wfFrom m 0 x v (Nat.zero_le x) h

/-- Writing bytes keeps the canonical form. -/
theorem memWrite_wf : ∀ (bs : List Byte) (m : List Host.Cell) (x : Nat), memWf m = true → memWf (memWrite m x bs) = true
  | [], _, _, h => h
  | b :: r, m, x, h => memWrite_wf r _ _ (memSet_wf m x b h)

theorem memSetSig_wf (m : List Host.Cell) (i : Nat) (w : SigWord) (h : memWf m = true) : memWf (memSetSig m i w) = true :=
  memWrite_wf _ _ _ h
/-- Writing the lane memory space keeps the canonical form. -/
theorem laneSet_wf (m : List Host.Cell) (x : Nat) (v : Byte) (h : memWf m = true) : memWf (laneSet m x v) = true := by
  unfold laneSet; split_ifs
  · exact h
  · exact memSet_wf m x v h
theorem laneWrite_wf : ∀ (bs : List Byte) (m : List Host.Cell) (x : Nat), memWf m = true → memWf (laneWrite m x bs) = true
  | [], _, _, h => h
  | b :: r, m, x, h => laneWrite_wf r _ _ (laneSet_wf m x b h)
theorem memSetWord_wf (m : List Host.Cell) (x : Nat) (v : Int) (h : memWf m = true) : memWf (memSetWord m x v) = true :=
  laneWrite_wf _ _ _ h

/-- A byte below the first listed address reads as zero. -/
theorem memGet_below : ∀ (m : List Host.Cell) (n x : Nat), memWfFrom n m = true → x < n → memGet m x = 0
  | [], _, _, _, _ => rfl
  | (a, b) :: r, n, x, w, h => by
    simp only [memWfFrom, Bool.and_eq_true, decide_eq_true_eq] at w
    have h1 : x ≠ a := by omega
    have h2 : x < a := by omega
    simp [memGet, h1, h2]

/-- The byte written reads back. -/
theorem memGet_memSet : ∀ (m : List Host.Cell) (n x : Nat) (v : Byte), memWfFrom n m = true → memGet (memSet m x v) x = v
  | [], _, x, v, _ => by
    simp only [memSet]
    split_ifs with hv
    · exact hv.symm
    · simp [memGet]
  | (a, b) :: r, n, x, v, w => by
    simp only [memWfFrom, Bool.and_eq_true, decide_eq_true_eq] at w
    obtain ⟨⟨_, _⟩, h3⟩ := w
    simp only [memSet]
    split_ifs with c1 c2 c3 c4
    · rw [c2]; simp only [memGet]; rw [if_neg (by omega), if_pos c1]
    · simp [memGet]
    · rw [c4]; exact memGet_below r _ x h3 (by omega)
    · simp [memGet]
    · simp only [memGet]
      rw [if_neg c3, if_neg c1]
      exact memGet_memSet r _ x v h3

/-- Every other byte stays. -/
theorem memGet_memSet_ne : ∀ (m : List Host.Cell) (n x y : Nat) (v : Byte), memWfFrom n m = true → y ≠ x →
    memGet (memSet m x v) y = memGet m y
  | [], _, x, y, v, _, h => by
    simp only [memSet]
    split_ifs
    · rfl
    · simp [memGet, h]
  | (a, b) :: r, n, x, y, v, w, h => by
    have w' := w
    simp only [memWfFrom, Bool.and_eq_true, decide_eq_true_eq] at w
    obtain ⟨⟨_, _⟩, h3⟩ := w
    simp only [memSet]
    split_ifs with c1 c2 c3 c4
    · rfl
    · rw [memGet, if_neg h]
      by_cases hy : y < x
      · rw [if_pos hy]; simp only [memGet]; rw [if_neg (by omega), if_pos (by omega)]
      · rw [if_neg hy]
    · simp only [memGet]
      by_cases hy : y < a
      · rw [if_neg (by omega), if_pos hy]; exact memGet_below r _ y h3 (by omega)
      · rw [if_neg (by omega), if_neg hy]
    · subst c3
      simp only [memGet]
      rw [if_neg h, if_neg h]
    · simp only [memGet]
      by_cases hy : y = a
      · simp [hy]
      · rw [if_neg hy, if_neg hy]
        by_cases hl : y < a
        · simp [hl]
        · rw [if_neg hl, if_neg hl]; exact memGet_memSet_ne r _ x y v h3 h

/-- A byte outside the written ones stays. -/
theorem memGet_memWrite_ne : ∀ (bs : List Byte) (m : List Host.Cell) (x y : Nat), memWf m = true → (y < x ∨ x + bs.length ≤ y) →
    memGet (memWrite m x bs) y = memGet m y
  | [], _, _, _, _, _ => rfl
  | b :: r, m, x, y, w, h => by
    simp only [List.length_cons] at h
    simp only [memWrite]
    rw [memGet_memWrite_ne r _ _ y (memSet_wf m x b w) (by omega)]
    exact memGet_memSet_ne m 0 x y b w (by omega)

/-- Writing one or more signal words of a lane keeps the form of its memory. -/
theorem LaneSt.setSig_wf (q : LaneSt) (i : Nat) (w : SigWord) (h : memWf q.mem = true) : memWf (q.setSig i w).mem = true :=
  memSetSig_wf _ _ _ h
theorem LaneSt.setSigs_wf : ∀ (l : List (Nat × SigWord)) (q : LaneSt), memWf q.mem = true → memWf (q.setSigs l).mem = true
  | [], _, h => h
  | e :: r, q, h => LaneSt.setSigs_wf r (q.setSig e.1 e.2) (LaneSt.setSig_wf q e.1 e.2 h)
/-- The state words of a stage block. -/
theorem writeStates_wf : ∀ (l : List (Int × Int)) (m : List Host.Cell) (a j : Nat), memWf m = true → memWf (writeStates m a j l) = true
  | [], _, _, _, h => h
  | (_, _) :: r, _, a, j, h => writeStates_wf r _ a (j + 1) (memSetWord_wf _ _ _ (memSetWord_wf _ _ _ h))
/-- What a cast copies into the target. -/
theorem castRanges_wf (m0 m1 : List Host.Cell) (half : Nat) : ∀ (l : List (Nat × Nat)) (off : Nat) (m : List Host.Cell),
    memWf m = true → memWf (castRanges m0 m1 half off l m) = true
  | [], _, _, h => h
  | (_, _) :: r, _, _, h => castRanges_wf m0 m1 half r _ _ (memWrite_wf _ _ _ (memWrite_wf _ _ _ h))
theorem laneCells_wf : ∀ (l : List (Nat × Byte)) (m : List Host.Cell), memWf m = true →
    memWf (l.foldl (fun m e => laneSet m e.1 e.2) m) = true
  | [], _, h => h
  | _ :: r, _, h => laneCells_wf r _ (laneSet_wf _ _ _ h)
/-- An observer takes its state without touching memory. -/
theorem takeObs_mem (g : Img) (addrs : List Nat) (q : LaneSt) : (takeObs g addrs q).mem = q.mem := by
  unfold takeObs
  generalize List.range 8 = l
  induction l generalizing q with
  | nil => rfl
  | cons f r ih =>
    rw [List.foldl_cons, ih]
    split
    · split_ifs <;> rfl
    · rfl
theorem castWrite_wf (g : Img) (off : Nat) (data : List Byte) (q : LaneSt) (h : memWf q.mem = true) :
    memWf (castWrite g off data q).mem = true := by
  rw [castWrite, takeObs_mem]
  exact laneCells_wf _ _ h
theorem sigFold_wf : ∀ (l : List SigRec) (m : List Host.Cell), memWf m = true →
    memWf (l.foldl (fun m r => memSetSig m r.index r.init) m) = true
  | [], _, h => h
  | _ :: r, _, h => sigFold_wf r _ (memSetSig_wf _ _ _ h)
theorem stageFold_wf (g : Img) : ∀ (l : List Entry) (m : List Host.Cell), memWf m = true →
    memWf (l.foldl (fun m e => laneWrite m (stageOf g e.operand).addr (leBytes (toField (stageOf g e.operand).expInit 8) 1)) m) = true
  | [], _, h => h
  | _ :: r, _, h => stageFold_wf g r _ (laneWrite_wf _ _ _ h)
/-- A lane's memory after load. -/
theorem initMem_wf (g : Img) : memWf (initMem g) = true := by
  unfold initMem; exact stageFold_wf g _ _ (sigFold_wf _ _ rfl)
/-- The transfer buffer. -/
theorem putBulk_wf (d : Dev) (o : Nat) (bs : List Byte) (h : memWf d.mgmt.bulk = true) : memWf (putBulk d o bs).mgmt.bulk = true :=
  memWrite_wf _ _ _ h

/-- Every memory of the state after reset has its canonical form. -/
theorem reset_memsWf : State.reset.dev.memsWf := ⟨rfl, rfl, rfl, rfl⟩

end Sys2Proof.Machine
end

