-- ==== Sys2Proof/Laws/State.lean ====
section
/-! SUPPORT. One lemma per field and named update of the device: the update of one part leaves every other part alone. -/

namespace Sys2Proof.Machine
open Sys2Proof

/-! ### Lanes -/

@[simp] theorem Tri.get_set {α : Type} (t : Tri α) (l : Lane) (v : α) : (t.set l v).get l = v := by cases l <;> rfl
theorem Tri.get_set_ne {α : Type} (t : Tri α) (l m : Lane) (v : α) (h : m ≠ l) : (t.set l v).get m = t.get m := by
  cases l <;> cases m <;> first | rfl | exact absurd rfl h
@[simp] theorem Tri.get_map {α β : Type} (f : α → β) (t : Tri α) (l : Lane) : (t.map f).get l = f (t.get l) := by cases l <;> rfl
@[simp] theorem Dev.onLane_lane (d : Dev) (l : Lane) (f : LaneSt → LaneSt) : (d.onLane l f).lane l = f (d.lane l) := by
  simp [Dev.onLane, Dev.lane]
theorem Dev.onLane_lane_ne (d : Dev) (l m : Lane) (f : LaneSt → LaneSt) (h : m ≠ l) : (d.onLane l f).lane m = d.lane m := by
  simp [Dev.onLane, Dev.lane, Tri.get_set_ne _ _ _ _ h]
@[simp] theorem Dev.onLanes_lane (d : Dev) (l : Lane) (f : LaneSt → LaneSt) : (d.onLanes f).lane l = f (d.lane l) := by
  simp [Dev.onLanes, Dev.lane]
@[simp] theorem Dev.onSeq_lane (d : Dev) (l : Lane) (f : SeqSt → SeqSt) :
    (d.onSeq l f).lane l = { d.lane l with seq := f (d.lane l).seq } := by simp [Dev.onSeq]
theorem Dev.onSeq_lane_ne (d : Dev) (l m : Lane) (f : SeqSt → SeqSt) (h : m ≠ l) : (d.onSeq l f).lane m = d.lane m :=
  Dev.onLane_lane_ne d l m _ h

/-! ### Each update leaves the other parts alone -/

@[simp] theorem Dev.onTime_lanes (d : Dev) (f : TimeSt → TimeSt) : (d.onTime f).lanes = d.lanes := rfl
@[simp] theorem Dev.onTime_vot (d : Dev) (f : TimeSt → TimeSt) : (d.onTime f).vot = d.vot := rfl
@[simp] theorem Dev.onTime_gd (d : Dev) (f : TimeSt → TimeSt) : (d.onTime f).gd = d.gd := rfl
@[simp] theorem Dev.onTime_edge (d : Dev) (f : TimeSt → TimeSt) : (d.onTime f).edge = d.edge := rfl
@[simp] theorem Dev.onTime_net (d : Dev) (f : TimeSt → TimeSt) : (d.onTime f).net = d.net := rfl
@[simp] theorem Dev.onTime_can (d : Dev) (f : TimeSt → TimeSt) : (d.onTime f).can = d.can := rfl
@[simp] theorem Dev.onTime_pair (d : Dev) (f : TimeSt → TimeSt) : (d.onTime f).pair = d.pair := rfl
@[simp] theorem Dev.onTime_safe (d : Dev) (f : TimeSt → TimeSt) : (d.onTime f).safe = d.safe := rfl
@[simp] theorem Dev.onTime_host (d : Dev) (f : TimeSt → TimeSt) : (d.onTime f).host = d.host := rfl
@[simp] theorem Dev.onTime_mgmt (d : Dev) (f : TimeSt → TimeSt) : (d.onTime f).mgmt = d.mgmt := rfl
@[simp] theorem Dev.onTime_jr (d : Dev) (f : TimeSt → TimeSt) : (d.onTime f).jr = d.jr := rfl
@[simp] theorem Dev.onTime_boot (d : Dev) (f : TimeSt → TimeSt) : (d.onTime f).boot = d.boot := rfl
@[simp] theorem Dev.onTime_test (d : Dev) (f : TimeSt → TimeSt) : (d.onTime f).test = d.test := rfl
@[simp] theorem Dev.onTime_pwr (d : Dev) (f : TimeSt → TimeSt) : (d.onTime f).pwr = d.pwr := rfl
@[simp] theorem Dev.onTime_degr (d : Dev) (f : TimeSt → TimeSt) : (d.onTime f).degr = d.degr := rfl
@[simp] theorem Dev.onTime_draws (d : Dev) (f : TimeSt → TimeSt) : (d.onTime f).draws = d.draws := rfl
@[simp] theorem Dev.onVot_time (d : Dev) (f : VotSt → VotSt) : (d.onVot f).time = d.time := rfl
@[simp] theorem Dev.onVot_lanes (d : Dev) (f : VotSt → VotSt) : (d.onVot f).lanes = d.lanes := rfl
@[simp] theorem Dev.onVot_gd (d : Dev) (f : VotSt → VotSt) : (d.onVot f).gd = d.gd := rfl
@[simp] theorem Dev.onVot_edge (d : Dev) (f : VotSt → VotSt) : (d.onVot f).edge = d.edge := rfl
@[simp] theorem Dev.onVot_net (d : Dev) (f : VotSt → VotSt) : (d.onVot f).net = d.net := rfl
@[simp] theorem Dev.onVot_can (d : Dev) (f : VotSt → VotSt) : (d.onVot f).can = d.can := rfl
@[simp] theorem Dev.onVot_pair (d : Dev) (f : VotSt → VotSt) : (d.onVot f).pair = d.pair := rfl
@[simp] theorem Dev.onVot_safe (d : Dev) (f : VotSt → VotSt) : (d.onVot f).safe = d.safe := rfl
@[simp] theorem Dev.onVot_host (d : Dev) (f : VotSt → VotSt) : (d.onVot f).host = d.host := rfl
@[simp] theorem Dev.onVot_mgmt (d : Dev) (f : VotSt → VotSt) : (d.onVot f).mgmt = d.mgmt := rfl
@[simp] theorem Dev.onVot_jr (d : Dev) (f : VotSt → VotSt) : (d.onVot f).jr = d.jr := rfl
@[simp] theorem Dev.onVot_boot (d : Dev) (f : VotSt → VotSt) : (d.onVot f).boot = d.boot := rfl
@[simp] theorem Dev.onVot_test (d : Dev) (f : VotSt → VotSt) : (d.onVot f).test = d.test := rfl
@[simp] theorem Dev.onVot_pwr (d : Dev) (f : VotSt → VotSt) : (d.onVot f).pwr = d.pwr := rfl
@[simp] theorem Dev.onVot_degr (d : Dev) (f : VotSt → VotSt) : (d.onVot f).degr = d.degr := rfl
@[simp] theorem Dev.onVot_draws (d : Dev) (f : VotSt → VotSt) : (d.onVot f).draws = d.draws := rfl
@[simp] theorem Dev.onGd_time (d : Dev) (f : GdSt → GdSt) : (d.onGd f).time = d.time := rfl
@[simp] theorem Dev.onGd_lanes (d : Dev) (f : GdSt → GdSt) : (d.onGd f).lanes = d.lanes := rfl
@[simp] theorem Dev.onGd_vot (d : Dev) (f : GdSt → GdSt) : (d.onGd f).vot = d.vot := rfl
@[simp] theorem Dev.onGd_edge (d : Dev) (f : GdSt → GdSt) : (d.onGd f).edge = d.edge := rfl
@[simp] theorem Dev.onGd_net (d : Dev) (f : GdSt → GdSt) : (d.onGd f).net = d.net := rfl
@[simp] theorem Dev.onGd_can (d : Dev) (f : GdSt → GdSt) : (d.onGd f).can = d.can := rfl
@[simp] theorem Dev.onGd_pair (d : Dev) (f : GdSt → GdSt) : (d.onGd f).pair = d.pair := rfl
@[simp] theorem Dev.onGd_safe (d : Dev) (f : GdSt → GdSt) : (d.onGd f).safe = d.safe := rfl
@[simp] theorem Dev.onGd_host (d : Dev) (f : GdSt → GdSt) : (d.onGd f).host = d.host := rfl
@[simp] theorem Dev.onGd_mgmt (d : Dev) (f : GdSt → GdSt) : (d.onGd f).mgmt = d.mgmt := rfl
@[simp] theorem Dev.onGd_jr (d : Dev) (f : GdSt → GdSt) : (d.onGd f).jr = d.jr := rfl
@[simp] theorem Dev.onGd_boot (d : Dev) (f : GdSt → GdSt) : (d.onGd f).boot = d.boot := rfl
@[simp] theorem Dev.onGd_test (d : Dev) (f : GdSt → GdSt) : (d.onGd f).test = d.test := rfl
@[simp] theorem Dev.onGd_pwr (d : Dev) (f : GdSt → GdSt) : (d.onGd f).pwr = d.pwr := rfl
@[simp] theorem Dev.onGd_degr (d : Dev) (f : GdSt → GdSt) : (d.onGd f).degr = d.degr := rfl
@[simp] theorem Dev.onGd_draws (d : Dev) (f : GdSt → GdSt) : (d.onGd f).draws = d.draws := rfl
@[simp] theorem Dev.onNet_time (d : Dev) (f : NetSt → NetSt) : (d.onNet f).time = d.time := rfl
@[simp] theorem Dev.onNet_lanes (d : Dev) (f : NetSt → NetSt) : (d.onNet f).lanes = d.lanes := rfl
@[simp] theorem Dev.onNet_vot (d : Dev) (f : NetSt → NetSt) : (d.onNet f).vot = d.vot := rfl
@[simp] theorem Dev.onNet_gd (d : Dev) (f : NetSt → NetSt) : (d.onNet f).gd = d.gd := rfl
@[simp] theorem Dev.onNet_edge (d : Dev) (f : NetSt → NetSt) : (d.onNet f).edge = d.edge := rfl
@[simp] theorem Dev.onNet_can (d : Dev) (f : NetSt → NetSt) : (d.onNet f).can = d.can := rfl
@[simp] theorem Dev.onNet_pair (d : Dev) (f : NetSt → NetSt) : (d.onNet f).pair = d.pair := rfl
@[simp] theorem Dev.onNet_safe (d : Dev) (f : NetSt → NetSt) : (d.onNet f).safe = d.safe := rfl
@[simp] theorem Dev.onNet_host (d : Dev) (f : NetSt → NetSt) : (d.onNet f).host = d.host := rfl
@[simp] theorem Dev.onNet_mgmt (d : Dev) (f : NetSt → NetSt) : (d.onNet f).mgmt = d.mgmt := rfl
@[simp] theorem Dev.onNet_jr (d : Dev) (f : NetSt → NetSt) : (d.onNet f).jr = d.jr := rfl
@[simp] theorem Dev.onNet_boot (d : Dev) (f : NetSt → NetSt) : (d.onNet f).boot = d.boot := rfl
@[simp] theorem Dev.onNet_test (d : Dev) (f : NetSt → NetSt) : (d.onNet f).test = d.test := rfl
@[simp] theorem Dev.onNet_pwr (d : Dev) (f : NetSt → NetSt) : (d.onNet f).pwr = d.pwr := rfl
@[simp] theorem Dev.onNet_degr (d : Dev) (f : NetSt → NetSt) : (d.onNet f).degr = d.degr := rfl
@[simp] theorem Dev.onNet_draws (d : Dev) (f : NetSt → NetSt) : (d.onNet f).draws = d.draws := rfl
@[simp] theorem Dev.onPair_time (d : Dev) (f : PairSt → PairSt) : (d.onPair f).time = d.time := rfl
@[simp] theorem Dev.onPair_lanes (d : Dev) (f : PairSt → PairSt) : (d.onPair f).lanes = d.lanes := rfl
@[simp] theorem Dev.onPair_vot (d : Dev) (f : PairSt → PairSt) : (d.onPair f).vot = d.vot := rfl
@[simp] theorem Dev.onPair_gd (d : Dev) (f : PairSt → PairSt) : (d.onPair f).gd = d.gd := rfl
@[simp] theorem Dev.onPair_edge (d : Dev) (f : PairSt → PairSt) : (d.onPair f).edge = d.edge := rfl
@[simp] theorem Dev.onPair_net (d : Dev) (f : PairSt → PairSt) : (d.onPair f).net = d.net := rfl
@[simp] theorem Dev.onPair_can (d : Dev) (f : PairSt → PairSt) : (d.onPair f).can = d.can := rfl
@[simp] theorem Dev.onPair_safe (d : Dev) (f : PairSt → PairSt) : (d.onPair f).safe = d.safe := rfl
@[simp] theorem Dev.onPair_host (d : Dev) (f : PairSt → PairSt) : (d.onPair f).host = d.host := rfl
@[simp] theorem Dev.onPair_mgmt (d : Dev) (f : PairSt → PairSt) : (d.onPair f).mgmt = d.mgmt := rfl
@[simp] theorem Dev.onPair_jr (d : Dev) (f : PairSt → PairSt) : (d.onPair f).jr = d.jr := rfl
@[simp] theorem Dev.onPair_boot (d : Dev) (f : PairSt → PairSt) : (d.onPair f).boot = d.boot := rfl
@[simp] theorem Dev.onPair_test (d : Dev) (f : PairSt → PairSt) : (d.onPair f).test = d.test := rfl
@[simp] theorem Dev.onPair_pwr (d : Dev) (f : PairSt → PairSt) : (d.onPair f).pwr = d.pwr := rfl
@[simp] theorem Dev.onPair_degr (d : Dev) (f : PairSt → PairSt) : (d.onPair f).degr = d.degr := rfl
@[simp] theorem Dev.onPair_draws (d : Dev) (f : PairSt → PairSt) : (d.onPair f).draws = d.draws := rfl
@[simp] theorem Dev.onSafe_time (d : Dev) (f : SafetySt → SafetySt) : (d.onSafe f).time = d.time := rfl
@[simp] theorem Dev.onSafe_lanes (d : Dev) (f : SafetySt → SafetySt) : (d.onSafe f).lanes = d.lanes := rfl
@[simp] theorem Dev.onSafe_vot (d : Dev) (f : SafetySt → SafetySt) : (d.onSafe f).vot = d.vot := rfl
@[simp] theorem Dev.onSafe_gd (d : Dev) (f : SafetySt → SafetySt) : (d.onSafe f).gd = d.gd := rfl
@[simp] theorem Dev.onSafe_edge (d : Dev) (f : SafetySt → SafetySt) : (d.onSafe f).edge = d.edge := rfl
@[simp] theorem Dev.onSafe_net (d : Dev) (f : SafetySt → SafetySt) : (d.onSafe f).net = d.net := rfl
@[simp] theorem Dev.onSafe_can (d : Dev) (f : SafetySt → SafetySt) : (d.onSafe f).can = d.can := rfl
@[simp] theorem Dev.onSafe_pair (d : Dev) (f : SafetySt → SafetySt) : (d.onSafe f).pair = d.pair := rfl
@[simp] theorem Dev.onSafe_host (d : Dev) (f : SafetySt → SafetySt) : (d.onSafe f).host = d.host := rfl
@[simp] theorem Dev.onSafe_mgmt (d : Dev) (f : SafetySt → SafetySt) : (d.onSafe f).mgmt = d.mgmt := rfl
@[simp] theorem Dev.onSafe_jr (d : Dev) (f : SafetySt → SafetySt) : (d.onSafe f).jr = d.jr := rfl
@[simp] theorem Dev.onSafe_boot (d : Dev) (f : SafetySt → SafetySt) : (d.onSafe f).boot = d.boot := rfl
@[simp] theorem Dev.onSafe_test (d : Dev) (f : SafetySt → SafetySt) : (d.onSafe f).test = d.test := rfl
@[simp] theorem Dev.onSafe_pwr (d : Dev) (f : SafetySt → SafetySt) : (d.onSafe f).pwr = d.pwr := rfl
@[simp] theorem Dev.onSafe_degr (d : Dev) (f : SafetySt → SafetySt) : (d.onSafe f).degr = d.degr := rfl
@[simp] theorem Dev.onSafe_draws (d : Dev) (f : SafetySt → SafetySt) : (d.onSafe f).draws = d.draws := rfl
@[simp] theorem Dev.onHost_time (d : Dev) (f : HostSt → HostSt) : (d.onHost f).time = d.time := rfl
@[simp] theorem Dev.onHost_lanes (d : Dev) (f : HostSt → HostSt) : (d.onHost f).lanes = d.lanes := rfl
@[simp] theorem Dev.onHost_vot (d : Dev) (f : HostSt → HostSt) : (d.onHost f).vot = d.vot := rfl
@[simp] theorem Dev.onHost_gd (d : Dev) (f : HostSt → HostSt) : (d.onHost f).gd = d.gd := rfl
@[simp] theorem Dev.onHost_edge (d : Dev) (f : HostSt → HostSt) : (d.onHost f).edge = d.edge := rfl
@[simp] theorem Dev.onHost_net (d : Dev) (f : HostSt → HostSt) : (d.onHost f).net = d.net := rfl
@[simp] theorem Dev.onHost_can (d : Dev) (f : HostSt → HostSt) : (d.onHost f).can = d.can := rfl
@[simp] theorem Dev.onHost_pair (d : Dev) (f : HostSt → HostSt) : (d.onHost f).pair = d.pair := rfl
@[simp] theorem Dev.onHost_safe (d : Dev) (f : HostSt → HostSt) : (d.onHost f).safe = d.safe := rfl
@[simp] theorem Dev.onHost_mgmt (d : Dev) (f : HostSt → HostSt) : (d.onHost f).mgmt = d.mgmt := rfl
@[simp] theorem Dev.onHost_jr (d : Dev) (f : HostSt → HostSt) : (d.onHost f).jr = d.jr := rfl
@[simp] theorem Dev.onHost_boot (d : Dev) (f : HostSt → HostSt) : (d.onHost f).boot = d.boot := rfl
@[simp] theorem Dev.onHost_test (d : Dev) (f : HostSt → HostSt) : (d.onHost f).test = d.test := rfl
@[simp] theorem Dev.onHost_pwr (d : Dev) (f : HostSt → HostSt) : (d.onHost f).pwr = d.pwr := rfl
@[simp] theorem Dev.onHost_degr (d : Dev) (f : HostSt → HostSt) : (d.onHost f).degr = d.degr := rfl
@[simp] theorem Dev.onHost_draws (d : Dev) (f : HostSt → HostSt) : (d.onHost f).draws = d.draws := rfl
@[simp] theorem Dev.onMgmt_time (d : Dev) (f : MgmtSt → MgmtSt) : (d.onMgmt f).time = d.time := rfl
@[simp] theorem Dev.onMgmt_lanes (d : Dev) (f : MgmtSt → MgmtSt) : (d.onMgmt f).lanes = d.lanes := rfl
@[simp] theorem Dev.onMgmt_vot (d : Dev) (f : MgmtSt → MgmtSt) : (d.onMgmt f).vot = d.vot := rfl
@[simp] theorem Dev.onMgmt_gd (d : Dev) (f : MgmtSt → MgmtSt) : (d.onMgmt f).gd = d.gd := rfl
@[simp] theorem Dev.onMgmt_edge (d : Dev) (f : MgmtSt → MgmtSt) : (d.onMgmt f).edge = d.edge := rfl
@[simp] theorem Dev.onMgmt_net (d : Dev) (f : MgmtSt → MgmtSt) : (d.onMgmt f).net = d.net := rfl
@[simp] theorem Dev.onMgmt_can (d : Dev) (f : MgmtSt → MgmtSt) : (d.onMgmt f).can = d.can := rfl
@[simp] theorem Dev.onMgmt_pair (d : Dev) (f : MgmtSt → MgmtSt) : (d.onMgmt f).pair = d.pair := rfl
@[simp] theorem Dev.onMgmt_safe (d : Dev) (f : MgmtSt → MgmtSt) : (d.onMgmt f).safe = d.safe := rfl
@[simp] theorem Dev.onMgmt_host (d : Dev) (f : MgmtSt → MgmtSt) : (d.onMgmt f).host = d.host := rfl
@[simp] theorem Dev.onMgmt_jr (d : Dev) (f : MgmtSt → MgmtSt) : (d.onMgmt f).jr = d.jr := rfl
@[simp] theorem Dev.onMgmt_boot (d : Dev) (f : MgmtSt → MgmtSt) : (d.onMgmt f).boot = d.boot := rfl
@[simp] theorem Dev.onMgmt_test (d : Dev) (f : MgmtSt → MgmtSt) : (d.onMgmt f).test = d.test := rfl
@[simp] theorem Dev.onMgmt_pwr (d : Dev) (f : MgmtSt → MgmtSt) : (d.onMgmt f).pwr = d.pwr := rfl
@[simp] theorem Dev.onMgmt_degr (d : Dev) (f : MgmtSt → MgmtSt) : (d.onMgmt f).degr = d.degr := rfl
@[simp] theorem Dev.onMgmt_draws (d : Dev) (f : MgmtSt → MgmtSt) : (d.onMgmt f).draws = d.draws := rfl
@[simp] theorem Dev.onJr_time (d : Dev) (f : JournalSt → JournalSt) : (d.onJr f).time = d.time := rfl
@[simp] theorem Dev.onJr_lanes (d : Dev) (f : JournalSt → JournalSt) : (d.onJr f).lanes = d.lanes := rfl
@[simp] theorem Dev.onJr_vot (d : Dev) (f : JournalSt → JournalSt) : (d.onJr f).vot = d.vot := rfl
@[simp] theorem Dev.onJr_gd (d : Dev) (f : JournalSt → JournalSt) : (d.onJr f).gd = d.gd := rfl
@[simp] theorem Dev.onJr_edge (d : Dev) (f : JournalSt → JournalSt) : (d.onJr f).edge = d.edge := rfl
@[simp] theorem Dev.onJr_net (d : Dev) (f : JournalSt → JournalSt) : (d.onJr f).net = d.net := rfl
@[simp] theorem Dev.onJr_can (d : Dev) (f : JournalSt → JournalSt) : (d.onJr f).can = d.can := rfl
@[simp] theorem Dev.onJr_pair (d : Dev) (f : JournalSt → JournalSt) : (d.onJr f).pair = d.pair := rfl
@[simp] theorem Dev.onJr_safe (d : Dev) (f : JournalSt → JournalSt) : (d.onJr f).safe = d.safe := rfl
@[simp] theorem Dev.onJr_host (d : Dev) (f : JournalSt → JournalSt) : (d.onJr f).host = d.host := rfl
@[simp] theorem Dev.onJr_mgmt (d : Dev) (f : JournalSt → JournalSt) : (d.onJr f).mgmt = d.mgmt := rfl
@[simp] theorem Dev.onJr_boot (d : Dev) (f : JournalSt → JournalSt) : (d.onJr f).boot = d.boot := rfl
@[simp] theorem Dev.onJr_test (d : Dev) (f : JournalSt → JournalSt) : (d.onJr f).test = d.test := rfl
@[simp] theorem Dev.onJr_pwr (d : Dev) (f : JournalSt → JournalSt) : (d.onJr f).pwr = d.pwr := rfl
@[simp] theorem Dev.onJr_degr (d : Dev) (f : JournalSt → JournalSt) : (d.onJr f).degr = d.degr := rfl
@[simp] theorem Dev.onJr_draws (d : Dev) (f : JournalSt → JournalSt) : (d.onJr f).draws = d.draws := rfl
@[simp] theorem Dev.onBoot_time (d : Dev) (f : BootSt → BootSt) : (d.onBoot f).time = d.time := rfl
@[simp] theorem Dev.onBoot_lanes (d : Dev) (f : BootSt → BootSt) : (d.onBoot f).lanes = d.lanes := rfl
@[simp] theorem Dev.onBoot_vot (d : Dev) (f : BootSt → BootSt) : (d.onBoot f).vot = d.vot := rfl
@[simp] theorem Dev.onBoot_gd (d : Dev) (f : BootSt → BootSt) : (d.onBoot f).gd = d.gd := rfl
@[simp] theorem Dev.onBoot_edge (d : Dev) (f : BootSt → BootSt) : (d.onBoot f).edge = d.edge := rfl
@[simp] theorem Dev.onBoot_net (d : Dev) (f : BootSt → BootSt) : (d.onBoot f).net = d.net := rfl
@[simp] theorem Dev.onBoot_can (d : Dev) (f : BootSt → BootSt) : (d.onBoot f).can = d.can := rfl
@[simp] theorem Dev.onBoot_pair (d : Dev) (f : BootSt → BootSt) : (d.onBoot f).pair = d.pair := rfl
@[simp] theorem Dev.onBoot_safe (d : Dev) (f : BootSt → BootSt) : (d.onBoot f).safe = d.safe := rfl
@[simp] theorem Dev.onBoot_host (d : Dev) (f : BootSt → BootSt) : (d.onBoot f).host = d.host := rfl
@[simp] theorem Dev.onBoot_mgmt (d : Dev) (f : BootSt → BootSt) : (d.onBoot f).mgmt = d.mgmt := rfl
@[simp] theorem Dev.onBoot_jr (d : Dev) (f : BootSt → BootSt) : (d.onBoot f).jr = d.jr := rfl
@[simp] theorem Dev.onBoot_test (d : Dev) (f : BootSt → BootSt) : (d.onBoot f).test = d.test := rfl
@[simp] theorem Dev.onBoot_pwr (d : Dev) (f : BootSt → BootSt) : (d.onBoot f).pwr = d.pwr := rfl
@[simp] theorem Dev.onBoot_degr (d : Dev) (f : BootSt → BootSt) : (d.onBoot f).degr = d.degr := rfl
@[simp] theorem Dev.onBoot_draws (d : Dev) (f : BootSt → BootSt) : (d.onBoot f).draws = d.draws := rfl
@[simp] theorem Dev.onTest_time (d : Dev) (f : TestSt → TestSt) : (d.onTest f).time = d.time := rfl
@[simp] theorem Dev.onTest_lanes (d : Dev) (f : TestSt → TestSt) : (d.onTest f).lanes = d.lanes := rfl
@[simp] theorem Dev.onTest_vot (d : Dev) (f : TestSt → TestSt) : (d.onTest f).vot = d.vot := rfl
@[simp] theorem Dev.onTest_gd (d : Dev) (f : TestSt → TestSt) : (d.onTest f).gd = d.gd := rfl
@[simp] theorem Dev.onTest_edge (d : Dev) (f : TestSt → TestSt) : (d.onTest f).edge = d.edge := rfl
@[simp] theorem Dev.onTest_net (d : Dev) (f : TestSt → TestSt) : (d.onTest f).net = d.net := rfl
@[simp] theorem Dev.onTest_can (d : Dev) (f : TestSt → TestSt) : (d.onTest f).can = d.can := rfl
@[simp] theorem Dev.onTest_pair (d : Dev) (f : TestSt → TestSt) : (d.onTest f).pair = d.pair := rfl
@[simp] theorem Dev.onTest_safe (d : Dev) (f : TestSt → TestSt) : (d.onTest f).safe = d.safe := rfl
@[simp] theorem Dev.onTest_host (d : Dev) (f : TestSt → TestSt) : (d.onTest f).host = d.host := rfl
@[simp] theorem Dev.onTest_mgmt (d : Dev) (f : TestSt → TestSt) : (d.onTest f).mgmt = d.mgmt := rfl
@[simp] theorem Dev.onTest_jr (d : Dev) (f : TestSt → TestSt) : (d.onTest f).jr = d.jr := rfl
@[simp] theorem Dev.onTest_boot (d : Dev) (f : TestSt → TestSt) : (d.onTest f).boot = d.boot := rfl
@[simp] theorem Dev.onTest_pwr (d : Dev) (f : TestSt → TestSt) : (d.onTest f).pwr = d.pwr := rfl
@[simp] theorem Dev.onTest_degr (d : Dev) (f : TestSt → TestSt) : (d.onTest f).degr = d.degr := rfl
@[simp] theorem Dev.onTest_draws (d : Dev) (f : TestSt → TestSt) : (d.onTest f).draws = d.draws := rfl
@[simp] theorem Dev.onPwr_time (d : Dev) (f : PowerSt → PowerSt) : (d.onPwr f).time = d.time := rfl
@[simp] theorem Dev.onPwr_lanes (d : Dev) (f : PowerSt → PowerSt) : (d.onPwr f).lanes = d.lanes := rfl
@[simp] theorem Dev.onPwr_vot (d : Dev) (f : PowerSt → PowerSt) : (d.onPwr f).vot = d.vot := rfl
@[simp] theorem Dev.onPwr_gd (d : Dev) (f : PowerSt → PowerSt) : (d.onPwr f).gd = d.gd := rfl
@[simp] theorem Dev.onPwr_edge (d : Dev) (f : PowerSt → PowerSt) : (d.onPwr f).edge = d.edge := rfl
@[simp] theorem Dev.onPwr_net (d : Dev) (f : PowerSt → PowerSt) : (d.onPwr f).net = d.net := rfl
@[simp] theorem Dev.onPwr_can (d : Dev) (f : PowerSt → PowerSt) : (d.onPwr f).can = d.can := rfl
@[simp] theorem Dev.onPwr_pair (d : Dev) (f : PowerSt → PowerSt) : (d.onPwr f).pair = d.pair := rfl
@[simp] theorem Dev.onPwr_safe (d : Dev) (f : PowerSt → PowerSt) : (d.onPwr f).safe = d.safe := rfl
@[simp] theorem Dev.onPwr_host (d : Dev) (f : PowerSt → PowerSt) : (d.onPwr f).host = d.host := rfl
@[simp] theorem Dev.onPwr_mgmt (d : Dev) (f : PowerSt → PowerSt) : (d.onPwr f).mgmt = d.mgmt := rfl
@[simp] theorem Dev.onPwr_jr (d : Dev) (f : PowerSt → PowerSt) : (d.onPwr f).jr = d.jr := rfl
@[simp] theorem Dev.onPwr_boot (d : Dev) (f : PowerSt → PowerSt) : (d.onPwr f).boot = d.boot := rfl
@[simp] theorem Dev.onPwr_test (d : Dev) (f : PowerSt → PowerSt) : (d.onPwr f).test = d.test := rfl
@[simp] theorem Dev.onPwr_degr (d : Dev) (f : PowerSt → PowerSt) : (d.onPwr f).degr = d.degr := rfl
@[simp] theorem Dev.onPwr_draws (d : Dev) (f : PowerSt → PowerSt) : (d.onPwr f).draws = d.draws := rfl
@[simp] theorem Dev.onLane_time (d : Dev) (l : Lane) (f : LaneSt → LaneSt) : (d.onLane l f).time = d.time := rfl
@[simp] theorem Dev.onLane_vot (d : Dev) (l : Lane) (f : LaneSt → LaneSt) : (d.onLane l f).vot = d.vot := rfl
@[simp] theorem Dev.onLane_gd (d : Dev) (l : Lane) (f : LaneSt → LaneSt) : (d.onLane l f).gd = d.gd := rfl
@[simp] theorem Dev.onLane_edge (d : Dev) (l : Lane) (f : LaneSt → LaneSt) : (d.onLane l f).edge = d.edge := rfl
@[simp] theorem Dev.onLane_net (d : Dev) (l : Lane) (f : LaneSt → LaneSt) : (d.onLane l f).net = d.net := rfl
@[simp] theorem Dev.onLane_can (d : Dev) (l : Lane) (f : LaneSt → LaneSt) : (d.onLane l f).can = d.can := rfl
@[simp] theorem Dev.onLane_pair (d : Dev) (l : Lane) (f : LaneSt → LaneSt) : (d.onLane l f).pair = d.pair := rfl
@[simp] theorem Dev.onLane_safe (d : Dev) (l : Lane) (f : LaneSt → LaneSt) : (d.onLane l f).safe = d.safe := rfl
@[simp] theorem Dev.onLane_host (d : Dev) (l : Lane) (f : LaneSt → LaneSt) : (d.onLane l f).host = d.host := rfl
@[simp] theorem Dev.onLane_mgmt (d : Dev) (l : Lane) (f : LaneSt → LaneSt) : (d.onLane l f).mgmt = d.mgmt := rfl
@[simp] theorem Dev.onLane_jr (d : Dev) (l : Lane) (f : LaneSt → LaneSt) : (d.onLane l f).jr = d.jr := rfl
@[simp] theorem Dev.onLane_boot (d : Dev) (l : Lane) (f : LaneSt → LaneSt) : (d.onLane l f).boot = d.boot := rfl
@[simp] theorem Dev.onLane_test (d : Dev) (l : Lane) (f : LaneSt → LaneSt) : (d.onLane l f).test = d.test := rfl
@[simp] theorem Dev.onLane_pwr (d : Dev) (l : Lane) (f : LaneSt → LaneSt) : (d.onLane l f).pwr = d.pwr := rfl
@[simp] theorem Dev.onLane_degr (d : Dev) (l : Lane) (f : LaneSt → LaneSt) : (d.onLane l f).degr = d.degr := rfl
@[simp] theorem Dev.onLane_draws (d : Dev) (l : Lane) (f : LaneSt → LaneSt) : (d.onLane l f).draws = d.draws := rfl
@[simp] theorem Dev.onLanes_time (d : Dev) (f : LaneSt → LaneSt) : (d.onLanes f).time = d.time := rfl
@[simp] theorem Dev.onLanes_vot (d : Dev) (f : LaneSt → LaneSt) : (d.onLanes f).vot = d.vot := rfl
@[simp] theorem Dev.onLanes_gd (d : Dev) (f : LaneSt → LaneSt) : (d.onLanes f).gd = d.gd := rfl
@[simp] theorem Dev.onLanes_edge (d : Dev) (f : LaneSt → LaneSt) : (d.onLanes f).edge = d.edge := rfl
@[simp] theorem Dev.onLanes_net (d : Dev) (f : LaneSt → LaneSt) : (d.onLanes f).net = d.net := rfl
@[simp] theorem Dev.onLanes_can (d : Dev) (f : LaneSt → LaneSt) : (d.onLanes f).can = d.can := rfl
@[simp] theorem Dev.onLanes_pair (d : Dev) (f : LaneSt → LaneSt) : (d.onLanes f).pair = d.pair := rfl
@[simp] theorem Dev.onLanes_safe (d : Dev) (f : LaneSt → LaneSt) : (d.onLanes f).safe = d.safe := rfl
@[simp] theorem Dev.onLanes_host (d : Dev) (f : LaneSt → LaneSt) : (d.onLanes f).host = d.host := rfl
@[simp] theorem Dev.onLanes_mgmt (d : Dev) (f : LaneSt → LaneSt) : (d.onLanes f).mgmt = d.mgmt := rfl
@[simp] theorem Dev.onLanes_jr (d : Dev) (f : LaneSt → LaneSt) : (d.onLanes f).jr = d.jr := rfl
@[simp] theorem Dev.onLanes_boot (d : Dev) (f : LaneSt → LaneSt) : (d.onLanes f).boot = d.boot := rfl
@[simp] theorem Dev.onLanes_test (d : Dev) (f : LaneSt → LaneSt) : (d.onLanes f).test = d.test := rfl
@[simp] theorem Dev.onLanes_pwr (d : Dev) (f : LaneSt → LaneSt) : (d.onLanes f).pwr = d.pwr := rfl
@[simp] theorem Dev.onLanes_degr (d : Dev) (f : LaneSt → LaneSt) : (d.onLanes f).degr = d.degr := rfl
@[simp] theorem Dev.onLanes_draws (d : Dev) (f : LaneSt → LaneSt) : (d.onLanes f).draws = d.draws := rfl
@[simp] theorem Dev.onSeq_time (d : Dev) (l : Lane) (f : SeqSt → SeqSt) : (d.onSeq l f).time = d.time := rfl
@[simp] theorem Dev.onSeq_vot (d : Dev) (l : Lane) (f : SeqSt → SeqSt) : (d.onSeq l f).vot = d.vot := rfl
@[simp] theorem Dev.onSeq_gd (d : Dev) (l : Lane) (f : SeqSt → SeqSt) : (d.onSeq l f).gd = d.gd := rfl
@[simp] theorem Dev.onSeq_edge (d : Dev) (l : Lane) (f : SeqSt → SeqSt) : (d.onSeq l f).edge = d.edge := rfl
@[simp] theorem Dev.onSeq_net (d : Dev) (l : Lane) (f : SeqSt → SeqSt) : (d.onSeq l f).net = d.net := rfl
@[simp] theorem Dev.onSeq_can (d : Dev) (l : Lane) (f : SeqSt → SeqSt) : (d.onSeq l f).can = d.can := rfl
@[simp] theorem Dev.onSeq_pair (d : Dev) (l : Lane) (f : SeqSt → SeqSt) : (d.onSeq l f).pair = d.pair := rfl
@[simp] theorem Dev.onSeq_safe (d : Dev) (l : Lane) (f : SeqSt → SeqSt) : (d.onSeq l f).safe = d.safe := rfl
@[simp] theorem Dev.onSeq_host (d : Dev) (l : Lane) (f : SeqSt → SeqSt) : (d.onSeq l f).host = d.host := rfl
@[simp] theorem Dev.onSeq_mgmt (d : Dev) (l : Lane) (f : SeqSt → SeqSt) : (d.onSeq l f).mgmt = d.mgmt := rfl
@[simp] theorem Dev.onSeq_jr (d : Dev) (l : Lane) (f : SeqSt → SeqSt) : (d.onSeq l f).jr = d.jr := rfl
@[simp] theorem Dev.onSeq_boot (d : Dev) (l : Lane) (f : SeqSt → SeqSt) : (d.onSeq l f).boot = d.boot := rfl
@[simp] theorem Dev.onSeq_test (d : Dev) (l : Lane) (f : SeqSt → SeqSt) : (d.onSeq l f).test = d.test := rfl
@[simp] theorem Dev.onSeq_pwr (d : Dev) (l : Lane) (f : SeqSt → SeqSt) : (d.onSeq l f).pwr = d.pwr := rfl
@[simp] theorem Dev.onSeq_degr (d : Dev) (l : Lane) (f : SeqSt → SeqSt) : (d.onSeq l f).degr = d.degr := rfl
@[simp] theorem Dev.onSeq_draws (d : Dev) (l : Lane) (f : SeqSt → SeqSt) : (d.onSeq l f).draws = d.draws := rfl
@[simp] theorem Dev.onLink_time (d : Dev) (i : Nat) (f : LinkSt → LinkSt) : (d.onLink i f).time = d.time := rfl
@[simp] theorem Dev.onLink_lanes (d : Dev) (i : Nat) (f : LinkSt → LinkSt) : (d.onLink i f).lanes = d.lanes := rfl
@[simp] theorem Dev.onLink_vot (d : Dev) (i : Nat) (f : LinkSt → LinkSt) : (d.onLink i f).vot = d.vot := rfl
@[simp] theorem Dev.onLink_gd (d : Dev) (i : Nat) (f : LinkSt → LinkSt) : (d.onLink i f).gd = d.gd := rfl
@[simp] theorem Dev.onLink_net (d : Dev) (i : Nat) (f : LinkSt → LinkSt) : (d.onLink i f).net = d.net := rfl
@[simp] theorem Dev.onLink_can (d : Dev) (i : Nat) (f : LinkSt → LinkSt) : (d.onLink i f).can = d.can := rfl
@[simp] theorem Dev.onLink_pair (d : Dev) (i : Nat) (f : LinkSt → LinkSt) : (d.onLink i f).pair = d.pair := rfl
@[simp] theorem Dev.onLink_safe (d : Dev) (i : Nat) (f : LinkSt → LinkSt) : (d.onLink i f).safe = d.safe := rfl
@[simp] theorem Dev.onLink_host (d : Dev) (i : Nat) (f : LinkSt → LinkSt) : (d.onLink i f).host = d.host := rfl
@[simp] theorem Dev.onLink_mgmt (d : Dev) (i : Nat) (f : LinkSt → LinkSt) : (d.onLink i f).mgmt = d.mgmt := rfl
@[simp] theorem Dev.onLink_jr (d : Dev) (i : Nat) (f : LinkSt → LinkSt) : (d.onLink i f).jr = d.jr := rfl
@[simp] theorem Dev.onLink_boot (d : Dev) (i : Nat) (f : LinkSt → LinkSt) : (d.onLink i f).boot = d.boot := rfl
@[simp] theorem Dev.onLink_test (d : Dev) (i : Nat) (f : LinkSt → LinkSt) : (d.onLink i f).test = d.test := rfl
@[simp] theorem Dev.onLink_pwr (d : Dev) (i : Nat) (f : LinkSt → LinkSt) : (d.onLink i f).pwr = d.pwr := rfl
@[simp] theorem Dev.onLink_degr (d : Dev) (i : Nat) (f : LinkSt → LinkSt) : (d.onLink i f).degr = d.degr := rfl
@[simp] theorem Dev.onLink_draws (d : Dev) (i : Nat) (f : LinkSt → LinkSt) : (d.onLink i f).draws = d.draws := rfl
@[simp] theorem Dev.onCan_time (d : Dev) (i : Nat) (f : CanSt → CanSt) : (d.onCan i f).time = d.time := rfl
@[simp] theorem Dev.onCan_lanes (d : Dev) (i : Nat) (f : CanSt → CanSt) : (d.onCan i f).lanes = d.lanes := rfl
@[simp] theorem Dev.onCan_vot (d : Dev) (i : Nat) (f : CanSt → CanSt) : (d.onCan i f).vot = d.vot := rfl
@[simp] theorem Dev.onCan_gd (d : Dev) (i : Nat) (f : CanSt → CanSt) : (d.onCan i f).gd = d.gd := rfl
@[simp] theorem Dev.onCan_edge (d : Dev) (i : Nat) (f : CanSt → CanSt) : (d.onCan i f).edge = d.edge := rfl
@[simp] theorem Dev.onCan_net (d : Dev) (i : Nat) (f : CanSt → CanSt) : (d.onCan i f).net = d.net := rfl
@[simp] theorem Dev.onCan_pair (d : Dev) (i : Nat) (f : CanSt → CanSt) : (d.onCan i f).pair = d.pair := rfl
@[simp] theorem Dev.onCan_safe (d : Dev) (i : Nat) (f : CanSt → CanSt) : (d.onCan i f).safe = d.safe := rfl
@[simp] theorem Dev.onCan_host (d : Dev) (i : Nat) (f : CanSt → CanSt) : (d.onCan i f).host = d.host := rfl
@[simp] theorem Dev.onCan_mgmt (d : Dev) (i : Nat) (f : CanSt → CanSt) : (d.onCan i f).mgmt = d.mgmt := rfl
@[simp] theorem Dev.onCan_jr (d : Dev) (i : Nat) (f : CanSt → CanSt) : (d.onCan i f).jr = d.jr := rfl
@[simp] theorem Dev.onCan_boot (d : Dev) (i : Nat) (f : CanSt → CanSt) : (d.onCan i f).boot = d.boot := rfl
@[simp] theorem Dev.onCan_test (d : Dev) (i : Nat) (f : CanSt → CanSt) : (d.onCan i f).test = d.test := rfl
@[simp] theorem Dev.onCan_pwr (d : Dev) (i : Nat) (f : CanSt → CanSt) : (d.onCan i f).pwr = d.pwr := rfl
@[simp] theorem Dev.onCan_degr (d : Dev) (i : Nat) (f : CanSt → CanSt) : (d.onCan i f).degr = d.degr := rfl
@[simp] theorem Dev.onCan_draws (d : Dev) (i : Nat) (f : CanSt → CanSt) : (d.onCan i f).draws = d.draws := rfl
@[simp] theorem Dev.onHb_time (d : Dev) (n : Nat) (f : HbSt → HbSt) : (d.onHb n f).time = d.time := rfl
@[simp] theorem Dev.onHb_lanes (d : Dev) (n : Nat) (f : HbSt → HbSt) : (d.onHb n f).lanes = d.lanes := rfl
@[simp] theorem Dev.onHb_vot (d : Dev) (n : Nat) (f : HbSt → HbSt) : (d.onHb n f).vot = d.vot := rfl
@[simp] theorem Dev.onHb_edge (d : Dev) (n : Nat) (f : HbSt → HbSt) : (d.onHb n f).edge = d.edge := rfl
@[simp] theorem Dev.onHb_net (d : Dev) (n : Nat) (f : HbSt → HbSt) : (d.onHb n f).net = d.net := rfl
@[simp] theorem Dev.onHb_can (d : Dev) (n : Nat) (f : HbSt → HbSt) : (d.onHb n f).can = d.can := rfl
@[simp] theorem Dev.onHb_pair (d : Dev) (n : Nat) (f : HbSt → HbSt) : (d.onHb n f).pair = d.pair := rfl
@[simp] theorem Dev.onHb_safe (d : Dev) (n : Nat) (f : HbSt → HbSt) : (d.onHb n f).safe = d.safe := rfl
@[simp] theorem Dev.onHb_host (d : Dev) (n : Nat) (f : HbSt → HbSt) : (d.onHb n f).host = d.host := rfl
@[simp] theorem Dev.onHb_mgmt (d : Dev) (n : Nat) (f : HbSt → HbSt) : (d.onHb n f).mgmt = d.mgmt := rfl
@[simp] theorem Dev.onHb_jr (d : Dev) (n : Nat) (f : HbSt → HbSt) : (d.onHb n f).jr = d.jr := rfl
@[simp] theorem Dev.onHb_boot (d : Dev) (n : Nat) (f : HbSt → HbSt) : (d.onHb n f).boot = d.boot := rfl
@[simp] theorem Dev.onHb_test (d : Dev) (n : Nat) (f : HbSt → HbSt) : (d.onHb n f).test = d.test := rfl
@[simp] theorem Dev.onHb_pwr (d : Dev) (n : Nat) (f : HbSt → HbSt) : (d.onHb n f).pwr = d.pwr := rfl
@[simp] theorem Dev.onHb_degr (d : Dev) (n : Nat) (f : HbSt → HbSt) : (d.onHb n f).degr = d.degr := rfl
@[simp] theorem Dev.onHb_draws (d : Dev) (n : Nat) (f : HbSt → HbSt) : (d.onHb n f).draws = d.draws := rfl
@[simp] theorem Dev.pass_lanes (d : Dev) (n : Nat) : (d.pass n).lanes = d.lanes := rfl
@[simp] theorem Dev.pass_vot (d : Dev) (n : Nat) : (d.pass n).vot = d.vot := rfl
@[simp] theorem Dev.pass_gd (d : Dev) (n : Nat) : (d.pass n).gd = d.gd := rfl
@[simp] theorem Dev.pass_edge (d : Dev) (n : Nat) : (d.pass n).edge = d.edge := rfl
@[simp] theorem Dev.pass_net (d : Dev) (n : Nat) : (d.pass n).net = d.net := rfl
@[simp] theorem Dev.pass_can (d : Dev) (n : Nat) : (d.pass n).can = d.can := rfl
@[simp] theorem Dev.pass_pair (d : Dev) (n : Nat) : (d.pass n).pair = d.pair := rfl
@[simp] theorem Dev.pass_safe (d : Dev) (n : Nat) : (d.pass n).safe = d.safe := rfl
@[simp] theorem Dev.pass_host (d : Dev) (n : Nat) : (d.pass n).host = d.host := rfl
@[simp] theorem Dev.pass_mgmt (d : Dev) (n : Nat) : (d.pass n).mgmt = d.mgmt := rfl
@[simp] theorem Dev.pass_jr (d : Dev) (n : Nat) : (d.pass n).jr = d.jr := rfl
@[simp] theorem Dev.pass_boot (d : Dev) (n : Nat) : (d.pass n).boot = d.boot := rfl
@[simp] theorem Dev.pass_test (d : Dev) (n : Nat) : (d.pass n).test = d.test := rfl
@[simp] theorem Dev.pass_pwr (d : Dev) (n : Nat) : (d.pass n).pwr = d.pwr := rfl
@[simp] theorem Dev.pass_degr (d : Dev) (n : Nat) : (d.pass n).degr = d.degr := rfl
@[simp] theorem Dev.pass_draws (d : Dev) (n : Nat) : (d.pass n).draws = d.draws := rfl
@[simp] theorem Dev.toClk_lanes (d : Dev) (c : Nat) : (d.toClk c).lanes = d.lanes := rfl
@[simp] theorem Dev.toClk_vot (d : Dev) (c : Nat) : (d.toClk c).vot = d.vot := rfl
@[simp] theorem Dev.toClk_gd (d : Dev) (c : Nat) : (d.toClk c).gd = d.gd := rfl
@[simp] theorem Dev.toClk_edge (d : Dev) (c : Nat) : (d.toClk c).edge = d.edge := rfl
@[simp] theorem Dev.toClk_net (d : Dev) (c : Nat) : (d.toClk c).net = d.net := rfl
@[simp] theorem Dev.toClk_can (d : Dev) (c : Nat) : (d.toClk c).can = d.can := rfl
@[simp] theorem Dev.toClk_pair (d : Dev) (c : Nat) : (d.toClk c).pair = d.pair := rfl
@[simp] theorem Dev.toClk_safe (d : Dev) (c : Nat) : (d.toClk c).safe = d.safe := rfl
@[simp] theorem Dev.toClk_host (d : Dev) (c : Nat) : (d.toClk c).host = d.host := rfl
@[simp] theorem Dev.toClk_mgmt (d : Dev) (c : Nat) : (d.toClk c).mgmt = d.mgmt := rfl
@[simp] theorem Dev.toClk_jr (d : Dev) (c : Nat) : (d.toClk c).jr = d.jr := rfl
@[simp] theorem Dev.toClk_boot (d : Dev) (c : Nat) : (d.toClk c).boot = d.boot := rfl
@[simp] theorem Dev.toClk_test (d : Dev) (c : Nat) : (d.toClk c).test = d.test := rfl
@[simp] theorem Dev.toClk_pwr (d : Dev) (c : Nat) : (d.toClk c).pwr = d.pwr := rfl
@[simp] theorem Dev.toClk_degr (d : Dev) (c : Nat) : (d.toClk c).degr = d.degr := rfl
@[simp] theorem Dev.toClk_draws (d : Dev) (c : Nat) : (d.toClk c).draws = d.draws := rfl
@[simp] theorem Dev.toRaw_lanes (d : Dev) (r : Nat) : (d.toRaw r).lanes = d.lanes := rfl
@[simp] theorem Dev.toLaneClk_lanes (d : Dev) (l : Lane) (n : Nat) : (d.toLaneClk l n).lanes = d.lanes := rfl
@[simp] theorem Dev.toGt_lanes (d : Dev) (g : Nat) : (d.toGt g).lanes = d.lanes := rfl
@[simp] theorem Dev.toRaw_vot (d : Dev) (r : Nat) : (d.toRaw r).vot = d.vot := rfl
@[simp] theorem Dev.toLaneClk_vot (d : Dev) (l : Lane) (n : Nat) : (d.toLaneClk l n).vot = d.vot := rfl
@[simp] theorem Dev.toGt_vot (d : Dev) (g : Nat) : (d.toGt g).vot = d.vot := rfl
@[simp] theorem Dev.toRaw_gd (d : Dev) (r : Nat) : (d.toRaw r).gd = d.gd := rfl
@[simp] theorem Dev.toLaneClk_gd (d : Dev) (l : Lane) (n : Nat) : (d.toLaneClk l n).gd = d.gd := rfl
@[simp] theorem Dev.toGt_gd (d : Dev) (g : Nat) : (d.toGt g).gd = d.gd := rfl
@[simp] theorem Dev.toRaw_edge (d : Dev) (r : Nat) : (d.toRaw r).edge = d.edge := rfl
@[simp] theorem Dev.toLaneClk_edge (d : Dev) (l : Lane) (n : Nat) : (d.toLaneClk l n).edge = d.edge := rfl
@[simp] theorem Dev.toGt_edge (d : Dev) (g : Nat) : (d.toGt g).edge = d.edge := rfl
@[simp] theorem Dev.toRaw_net (d : Dev) (r : Nat) : (d.toRaw r).net = d.net := rfl
@[simp] theorem Dev.toLaneClk_net (d : Dev) (l : Lane) (n : Nat) : (d.toLaneClk l n).net = d.net := rfl
@[simp] theorem Dev.toGt_net (d : Dev) (g : Nat) : (d.toGt g).net = d.net := rfl
@[simp] theorem Dev.toRaw_can (d : Dev) (r : Nat) : (d.toRaw r).can = d.can := rfl
@[simp] theorem Dev.toLaneClk_can (d : Dev) (l : Lane) (n : Nat) : (d.toLaneClk l n).can = d.can := rfl
@[simp] theorem Dev.toGt_can (d : Dev) (g : Nat) : (d.toGt g).can = d.can := rfl
@[simp] theorem Dev.toRaw_pair (d : Dev) (r : Nat) : (d.toRaw r).pair = d.pair := rfl
@[simp] theorem Dev.toLaneClk_pair (d : Dev) (l : Lane) (n : Nat) : (d.toLaneClk l n).pair = d.pair := rfl
@[simp] theorem Dev.toGt_pair (d : Dev) (g : Nat) : (d.toGt g).pair = d.pair := rfl
@[simp] theorem Dev.toRaw_safe (d : Dev) (r : Nat) : (d.toRaw r).safe = d.safe := rfl
@[simp] theorem Dev.toLaneClk_safe (d : Dev) (l : Lane) (n : Nat) : (d.toLaneClk l n).safe = d.safe := rfl
@[simp] theorem Dev.toGt_safe (d : Dev) (g : Nat) : (d.toGt g).safe = d.safe := rfl
@[simp] theorem Dev.toRaw_host (d : Dev) (r : Nat) : (d.toRaw r).host = d.host := rfl
@[simp] theorem Dev.toLaneClk_host (d : Dev) (l : Lane) (n : Nat) : (d.toLaneClk l n).host = d.host := rfl
@[simp] theorem Dev.toGt_host (d : Dev) (g : Nat) : (d.toGt g).host = d.host := rfl
@[simp] theorem Dev.toRaw_mgmt (d : Dev) (r : Nat) : (d.toRaw r).mgmt = d.mgmt := rfl
@[simp] theorem Dev.toLaneClk_mgmt (d : Dev) (l : Lane) (n : Nat) : (d.toLaneClk l n).mgmt = d.mgmt := rfl
@[simp] theorem Dev.toGt_mgmt (d : Dev) (g : Nat) : (d.toGt g).mgmt = d.mgmt := rfl
@[simp] theorem Dev.toRaw_jr (d : Dev) (r : Nat) : (d.toRaw r).jr = d.jr := rfl
@[simp] theorem Dev.toLaneClk_jr (d : Dev) (l : Lane) (n : Nat) : (d.toLaneClk l n).jr = d.jr := rfl
@[simp] theorem Dev.toGt_jr (d : Dev) (g : Nat) : (d.toGt g).jr = d.jr := rfl
@[simp] theorem Dev.toRaw_boot (d : Dev) (r : Nat) : (d.toRaw r).boot = d.boot := rfl
@[simp] theorem Dev.toLaneClk_boot (d : Dev) (l : Lane) (n : Nat) : (d.toLaneClk l n).boot = d.boot := rfl
@[simp] theorem Dev.toGt_boot (d : Dev) (g : Nat) : (d.toGt g).boot = d.boot := rfl
@[simp] theorem Dev.toRaw_test (d : Dev) (r : Nat) : (d.toRaw r).test = d.test := rfl
@[simp] theorem Dev.toLaneClk_test (d : Dev) (l : Lane) (n : Nat) : (d.toLaneClk l n).test = d.test := rfl
@[simp] theorem Dev.toGt_test (d : Dev) (g : Nat) : (d.toGt g).test = d.test := rfl
@[simp] theorem Dev.toRaw_pwr (d : Dev) (r : Nat) : (d.toRaw r).pwr = d.pwr := rfl
@[simp] theorem Dev.toLaneClk_pwr (d : Dev) (l : Lane) (n : Nat) : (d.toLaneClk l n).pwr = d.pwr := rfl
@[simp] theorem Dev.toGt_pwr (d : Dev) (g : Nat) : (d.toGt g).pwr = d.pwr := rfl
@[simp] theorem Dev.toRaw_degr (d : Dev) (r : Nat) : (d.toRaw r).degr = d.degr := rfl
@[simp] theorem Dev.toLaneClk_degr (d : Dev) (l : Lane) (n : Nat) : (d.toLaneClk l n).degr = d.degr := rfl
@[simp] theorem Dev.toGt_degr (d : Dev) (g : Nat) : (d.toGt g).degr = d.degr := rfl
@[simp] theorem Dev.toRaw_draws (d : Dev) (r : Nat) : (d.toRaw r).draws = d.draws := rfl
@[simp] theorem Dev.toLaneClk_draws (d : Dev) (l : Lane) (n : Nat) : (d.toLaneClk l n).draws = d.draws := rfl
@[simp] theorem Dev.toGt_draws (d : Dev) (g : Nat) : (d.toGt g).draws = d.draws := rfl

/-! ### Time passing moves the clock and GT alone -/

@[simp] theorem TimeSt.pass_run (t : TimeSt) (n : Nat) : (t.pass n).run = t.run := by unfold TimeSt.pass; dsimp only; split_ifs <;> rfl
@[simp] theorem TimeSt.toRaw_run (t : TimeSt) (r : Nat) : (t.toRaw r).run = t.run := by unfold TimeSt.toRaw; split_ifs <;> simp
@[simp] theorem TimeSt.toGt_run (t : TimeSt) (g : Nat) : (t.toGt g).run = t.run := by simp [TimeSt.toGt]
@[simp] theorem TimeSt.toClk_run (t : TimeSt) (c : Nat) : (t.toClk c).run = t.run := by unfold TimeSt.toClk; simp
@[simp] theorem TimeSt.pass_rate (t : TimeSt) (n : Nat) : (t.pass n).rate = t.rate := by unfold TimeSt.pass; dsimp only; split_ifs <;> rfl
@[simp] theorem TimeSt.toRaw_rate (t : TimeSt) (r : Nat) : (t.toRaw r).rate = t.rate := by unfold TimeSt.toRaw; split_ifs <;> simp
@[simp] theorem TimeSt.toGt_rate (t : TimeSt) (g : Nat) : (t.toGt g).rate = t.rate := by simp [TimeSt.toGt]
@[simp] theorem TimeSt.toClk_rate (t : TimeSt) (c : Nat) : (t.toClk c).rate = t.rate := by unfold TimeSt.toClk; simp
@[simp] theorem TimeSt.pass_nextRate (t : TimeSt) (n : Nat) : (t.pass n).nextRate = t.nextRate := by unfold TimeSt.pass; dsimp only; split_ifs <;> rfl
@[simp] theorem TimeSt.toRaw_nextRate (t : TimeSt) (r : Nat) : (t.toRaw r).nextRate = t.nextRate := by unfold TimeSt.toRaw; split_ifs <;> simp
@[simp] theorem TimeSt.toGt_nextRate (t : TimeSt) (g : Nat) : (t.toGt g).nextRate = t.nextRate := by simp [TimeSt.toGt]
@[simp] theorem TimeSt.toClk_nextRate (t : TimeSt) (c : Nat) : (t.toClk c).nextRate = t.nextRate := by unfold TimeSt.toClk; simp
@[simp] theorem TimeSt.pass_carry (t : TimeSt) (n : Nat) : (t.pass n).carry = t.carry := by unfold TimeSt.pass; dsimp only; split_ifs <;> rfl
@[simp] theorem TimeSt.toRaw_carry (t : TimeSt) (r : Nat) : (t.toRaw r).carry = t.carry := by unfold TimeSt.toRaw; split_ifs <;> simp
@[simp] theorem TimeSt.toGt_carry (t : TimeSt) (g : Nat) : (t.toGt g).carry = t.carry := by simp [TimeSt.toGt]
@[simp] theorem TimeSt.toClk_carry (t : TimeSt) (c : Nat) : (t.toClk c).carry = t.carry := by unfold TimeSt.toClk; simp
@[simp] theorem TimeSt.pass_nextFc (t : TimeSt) (n : Nat) : (t.pass n).nextFc = t.nextFc := by unfold TimeSt.pass; dsimp only; split_ifs <;> rfl
@[simp] theorem TimeSt.toRaw_nextFc (t : TimeSt) (r : Nat) : (t.toRaw r).nextFc = t.nextFc := by unfold TimeSt.toRaw; split_ifs <;> simp
@[simp] theorem TimeSt.toGt_nextFc (t : TimeSt) (g : Nat) : (t.toGt g).nextFc = t.nextFc := by simp [TimeSt.toGt]
@[simp] theorem TimeSt.toClk_nextFc (t : TimeSt) (c : Nat) : (t.toClk c).nextFc = t.nextFc := by unfold TimeSt.toClk; simp
@[simp] theorem TimeSt.pass_fcIdx (t : TimeSt) (n : Nat) : (t.pass n).fcIdx = t.fcIdx := by unfold TimeSt.pass; dsimp only; split_ifs <;> rfl
@[simp] theorem TimeSt.toRaw_fcIdx (t : TimeSt) (r : Nat) : (t.toRaw r).fcIdx = t.fcIdx := by unfold TimeSt.toRaw; split_ifs <;> simp
@[simp] theorem TimeSt.toGt_fcIdx (t : TimeSt) (g : Nat) : (t.toGt g).fcIdx = t.fcIdx := by simp [TimeSt.toGt]
@[simp] theorem TimeSt.toClk_fcIdx (t : TimeSt) (c : Nat) : (t.toClk c).fcIdx = t.fcIdx := by unfold TimeSt.toClk; simp
@[simp] theorem TimeSt.pass_belled (t : TimeSt) (n : Nat) : (t.pass n).belled = t.belled := by unfold TimeSt.pass; dsimp only; split_ifs <;> rfl
@[simp] theorem TimeSt.toRaw_belled (t : TimeSt) (r : Nat) : (t.toRaw r).belled = t.belled := by unfold TimeSt.toRaw; split_ifs <;> simp
@[simp] theorem TimeSt.toGt_belled (t : TimeSt) (g : Nat) : (t.toGt g).belled = t.belled := by simp [TimeSt.toGt]
@[simp] theorem TimeSt.toClk_belled (t : TimeSt) (c : Nat) : (t.toClk c).belled = t.belled := by unfold TimeSt.toClk; simp
@[simp] theorem TimeSt.pass_bellDue (t : TimeSt) (n : Nat) : (t.pass n).bellDue = t.bellDue := by unfold TimeSt.pass; dsimp only; split_ifs <;> rfl
@[simp] theorem TimeSt.toRaw_bellDue (t : TimeSt) (r : Nat) : (t.toRaw r).bellDue = t.bellDue := by unfold TimeSt.toRaw; split_ifs <;> simp
@[simp] theorem TimeSt.toGt_bellDue (t : TimeSt) (g : Nat) : (t.toGt g).bellDue = t.bellDue := by simp [TimeSt.toGt]
@[simp] theorem TimeSt.toClk_bellDue (t : TimeSt) (c : Nat) : (t.toClk c).bellDue = t.bellDue := by unfold TimeSt.toClk; simp
@[simp] theorem TimeSt.pass_cycle (t : TimeSt) (n : Nat) : (t.pass n).cycle = t.cycle := by unfold TimeSt.pass; dsimp only; split_ifs <;> rfl
@[simp] theorem TimeSt.toRaw_cycle (t : TimeSt) (r : Nat) : (t.toRaw r).cycle = t.cycle := by unfold TimeSt.toRaw; split_ifs <;> simp
@[simp] theorem TimeSt.toGt_cycle (t : TimeSt) (g : Nat) : (t.toGt g).cycle = t.cycle := by simp [TimeSt.toGt]
@[simp] theorem TimeSt.toClk_cycle (t : TimeSt) (c : Nat) : (t.toClk c).cycle = t.cycle := by unfold TimeSt.toClk; simp
@[simp] theorem TimeSt.pass_bellGt (t : TimeSt) (n : Nat) : (t.pass n).bellGt = t.bellGt := by unfold TimeSt.pass; dsimp only; split_ifs <;> rfl
@[simp] theorem TimeSt.toRaw_bellGt (t : TimeSt) (r : Nat) : (t.toRaw r).bellGt = t.bellGt := by unfold TimeSt.toRaw; split_ifs <;> simp
@[simp] theorem TimeSt.toGt_bellGt (t : TimeSt) (g : Nat) : (t.toGt g).bellGt = t.bellGt := by simp [TimeSt.toGt]
@[simp] theorem TimeSt.toClk_bellGt (t : TimeSt) (c : Nat) : (t.toClk c).bellGt = t.bellGt := by unfold TimeSt.toClk; simp
@[simp] theorem TimeSt.pass_fcCount (t : TimeSt) (n : Nat) : (t.pass n).fcCount = t.fcCount := by unfold TimeSt.pass; dsimp only; split_ifs <;> rfl
@[simp] theorem TimeSt.toRaw_fcCount (t : TimeSt) (r : Nat) : (t.toRaw r).fcCount = t.fcCount := by unfold TimeSt.toRaw; split_ifs <;> simp
@[simp] theorem TimeSt.toGt_fcCount (t : TimeSt) (g : Nat) : (t.toGt g).fcCount = t.fcCount := by simp [TimeSt.toGt]
@[simp] theorem TimeSt.toClk_fcCount (t : TimeSt) (c : Nat) : (t.toClk c).fcCount = t.fcCount := by unfold TimeSt.toClk; simp
@[simp] theorem TimeSt.pass_gtHi (t : TimeSt) (n : Nat) : (t.pass n).gtHi = t.gtHi := by unfold TimeSt.pass; dsimp only; split_ifs <;> rfl
@[simp] theorem TimeSt.toRaw_gtHi (t : TimeSt) (r : Nat) : (t.toRaw r).gtHi = t.gtHi := by unfold TimeSt.toRaw; split_ifs <;> simp
@[simp] theorem TimeSt.toGt_gtHi (t : TimeSt) (g : Nat) : (t.toGt g).gtHi = t.gtHi := by simp [TimeSt.toGt]
@[simp] theorem TimeSt.toClk_gtHi (t : TimeSt) (c : Nat) : (t.toClk c).gtHi = t.gtHi := by unfold TimeSt.toClk; simp
@[simp] theorem TimeSt.pass_syncLost (t : TimeSt) (n : Nat) : (t.pass n).syncLost = t.syncLost := by unfold TimeSt.pass; dsimp only; split_ifs <;> rfl
@[simp] theorem TimeSt.toRaw_syncLost (t : TimeSt) (r : Nat) : (t.toRaw r).syncLost = t.syncLost := by unfold TimeSt.toRaw; split_ifs <;> simp
@[simp] theorem TimeSt.toGt_syncLost (t : TimeSt) (g : Nat) : (t.toGt g).syncLost = t.syncLost := by simp [TimeSt.toGt]
@[simp] theorem TimeSt.toClk_syncLost (t : TimeSt) (c : Nat) : (t.toClk c).syncLost = t.syncLost := by unfold TimeSt.toClk; simp
@[simp] theorem TimeSt.pass_aclkBad (t : TimeSt) (n : Nat) : (t.pass n).aclkBad = t.aclkBad := by unfold TimeSt.pass; dsimp only; split_ifs <;> rfl
@[simp] theorem TimeSt.toRaw_aclkBad (t : TimeSt) (r : Nat) : (t.toRaw r).aclkBad = t.aclkBad := by unfold TimeSt.toRaw; split_ifs <;> simp
@[simp] theorem TimeSt.toGt_aclkBad (t : TimeSt) (g : Nat) : (t.toGt g).aclkBad = t.aclkBad := by simp [TimeSt.toGt]
@[simp] theorem TimeSt.toClk_aclkBad (t : TimeSt) (c : Nat) : (t.toClk c).aclkBad = t.aclkBad := by unfold TimeSt.toClk; simp
@[simp] theorem TimeSt.pass_serdesBad (t : TimeSt) (n : Nat) : (t.pass n).serdesBad = t.serdesBad := by unfold TimeSt.pass; dsimp only; split_ifs <;> rfl
@[simp] theorem TimeSt.toRaw_serdesBad (t : TimeSt) (r : Nat) : (t.toRaw r).serdesBad = t.serdesBad := by unfold TimeSt.toRaw; split_ifs <;> simp
@[simp] theorem TimeSt.toGt_serdesBad (t : TimeSt) (g : Nat) : (t.toGt g).serdesBad = t.serdesBad := by simp [TimeSt.toGt]
@[simp] theorem TimeSt.toClk_serdesBad (t : TimeSt) (c : Nat) : (t.toClk c).serdesBad = t.serdesBad := by unfold TimeSt.toClk; simp

end Sys2Proof.Machine
end

