-- ==== Sys2Proof/Laws/Ops.lean ====
section
/-! SUPPORT. What each shared operation can do: counters, latched words, doorbells and events touch the host window alone; journal
posts the journal alone; taking a lane out touches that lane's sequencer and what follows from it; and the dispatch of a ready entry. -/

namespace Sys2Proof.Machine
open Sys2Proof

/-! ### Frames -/

@[simp] theorem Dev.count_time (d : Dev) (a n : Nat) : (d.count a n).time = d.time := rfl
@[simp] theorem Dev.count_lanes (d : Dev) (a n : Nat) : (d.count a n).lanes = d.lanes := rfl
@[simp] theorem Dev.count_vot (d : Dev) (a n : Nat) : (d.count a n).vot = d.vot := rfl
@[simp] theorem Dev.count_gd (d : Dev) (a n : Nat) : (d.count a n).gd = d.gd := rfl
@[simp] theorem Dev.count_edge (d : Dev) (a n : Nat) : (d.count a n).edge = d.edge := rfl
@[simp] theorem Dev.count_net (d : Dev) (a n : Nat) : (d.count a n).net = d.net := rfl
@[simp] theorem Dev.count_can (d : Dev) (a n : Nat) : (d.count a n).can = d.can := rfl
@[simp] theorem Dev.count_pair (d : Dev) (a n : Nat) : (d.count a n).pair = d.pair := rfl
@[simp] theorem Dev.count_safe (d : Dev) (a n : Nat) : (d.count a n).safe = d.safe := rfl
@[simp] theorem Dev.count_mgmt (d : Dev) (a n : Nat) : (d.count a n).mgmt = d.mgmt := rfl
@[simp] theorem Dev.count_jr (d : Dev) (a n : Nat) : (d.count a n).jr = d.jr := rfl
@[simp] theorem Dev.count_boot (d : Dev) (a n : Nat) : (d.count a n).boot = d.boot := rfl
@[simp] theorem Dev.count_test (d : Dev) (a n : Nat) : (d.count a n).test = d.test := rfl
@[simp] theorem Dev.count_pwr (d : Dev) (a n : Nat) : (d.count a n).pwr = d.pwr := rfl
@[simp] theorem Dev.count_degr (d : Dev) (a n : Nat) : (d.count a n).degr = d.degr := rfl
@[simp] theorem Dev.count_draws (d : Dev) (a n : Nat) : (d.count a n).draws = d.draws := rfl
@[simp] theorem Dev.putWin_time (d : Dev) (a w : Nat) : (d.putWin a w).time = d.time := rfl
@[simp] theorem Dev.putWin_lanes (d : Dev) (a w : Nat) : (d.putWin a w).lanes = d.lanes := rfl
@[simp] theorem Dev.putWin_vot (d : Dev) (a w : Nat) : (d.putWin a w).vot = d.vot := rfl
@[simp] theorem Dev.putWin_gd (d : Dev) (a w : Nat) : (d.putWin a w).gd = d.gd := rfl
@[simp] theorem Dev.putWin_edge (d : Dev) (a w : Nat) : (d.putWin a w).edge = d.edge := rfl
@[simp] theorem Dev.putWin_net (d : Dev) (a w : Nat) : (d.putWin a w).net = d.net := rfl
@[simp] theorem Dev.putWin_can (d : Dev) (a w : Nat) : (d.putWin a w).can = d.can := rfl
@[simp] theorem Dev.putWin_pair (d : Dev) (a w : Nat) : (d.putWin a w).pair = d.pair := rfl
@[simp] theorem Dev.putWin_safe (d : Dev) (a w : Nat) : (d.putWin a w).safe = d.safe := rfl
@[simp] theorem Dev.putWin_mgmt (d : Dev) (a w : Nat) : (d.putWin a w).mgmt = d.mgmt := rfl
@[simp] theorem Dev.putWin_jr (d : Dev) (a w : Nat) : (d.putWin a w).jr = d.jr := rfl
@[simp] theorem Dev.putWin_boot (d : Dev) (a w : Nat) : (d.putWin a w).boot = d.boot := rfl
@[simp] theorem Dev.putWin_test (d : Dev) (a w : Nat) : (d.putWin a w).test = d.test := rfl
@[simp] theorem Dev.putWin_pwr (d : Dev) (a w : Nat) : (d.putWin a w).pwr = d.pwr := rfl
@[simp] theorem Dev.putWin_degr (d : Dev) (a w : Nat) : (d.putWin a w).degr = d.degr := rfl
@[simp] theorem Dev.putWin_draws (d : Dev) (a w : Nat) : (d.putWin a w).draws = d.draws := rfl
@[simp] theorem Dev.ring_time (d : Dev) (b : Nat) : (d.ring b).time = d.time := rfl
@[simp] theorem Dev.ring_lanes (d : Dev) (b : Nat) : (d.ring b).lanes = d.lanes := rfl
@[simp] theorem Dev.ring_vot (d : Dev) (b : Nat) : (d.ring b).vot = d.vot := rfl
@[simp] theorem Dev.ring_gd (d : Dev) (b : Nat) : (d.ring b).gd = d.gd := rfl
@[simp] theorem Dev.ring_edge (d : Dev) (b : Nat) : (d.ring b).edge = d.edge := rfl
@[simp] theorem Dev.ring_net (d : Dev) (b : Nat) : (d.ring b).net = d.net := rfl
@[simp] theorem Dev.ring_can (d : Dev) (b : Nat) : (d.ring b).can = d.can := rfl
@[simp] theorem Dev.ring_pair (d : Dev) (b : Nat) : (d.ring b).pair = d.pair := rfl
@[simp] theorem Dev.ring_safe (d : Dev) (b : Nat) : (d.ring b).safe = d.safe := rfl
@[simp] theorem Dev.ring_mgmt (d : Dev) (b : Nat) : (d.ring b).mgmt = d.mgmt := rfl
@[simp] theorem Dev.ring_jr (d : Dev) (b : Nat) : (d.ring b).jr = d.jr := rfl
@[simp] theorem Dev.ring_boot (d : Dev) (b : Nat) : (d.ring b).boot = d.boot := rfl
@[simp] theorem Dev.ring_test (d : Dev) (b : Nat) : (d.ring b).test = d.test := rfl
@[simp] theorem Dev.ring_pwr (d : Dev) (b : Nat) : (d.ring b).pwr = d.pwr := rfl
@[simp] theorem Dev.ring_degr (d : Dev) (b : Nat) : (d.ring b).degr = d.degr := rfl
@[simp] theorem Dev.ring_draws (d : Dev) (b : Nat) : (d.ring b).draws = d.draws := rfl
@[simp] theorem Dev.fillOut_time (d : Dev) (m : Nat) (ws : List Word) : (d.fillOut m ws).time = d.time := rfl
@[simp] theorem Dev.fillOut_lanes (d : Dev) (m : Nat) (ws : List Word) : (d.fillOut m ws).lanes = d.lanes := rfl
@[simp] theorem Dev.fillOut_vot (d : Dev) (m : Nat) (ws : List Word) : (d.fillOut m ws).vot = d.vot := rfl
@[simp] theorem Dev.fillOut_gd (d : Dev) (m : Nat) (ws : List Word) : (d.fillOut m ws).gd = d.gd := rfl
@[simp] theorem Dev.fillOut_edge (d : Dev) (m : Nat) (ws : List Word) : (d.fillOut m ws).edge = d.edge := rfl
@[simp] theorem Dev.fillOut_net (d : Dev) (m : Nat) (ws : List Word) : (d.fillOut m ws).net = d.net := rfl
@[simp] theorem Dev.fillOut_can (d : Dev) (m : Nat) (ws : List Word) : (d.fillOut m ws).can = d.can := rfl
@[simp] theorem Dev.fillOut_pair (d : Dev) (m : Nat) (ws : List Word) : (d.fillOut m ws).pair = d.pair := rfl
@[simp] theorem Dev.fillOut_safe (d : Dev) (m : Nat) (ws : List Word) : (d.fillOut m ws).safe = d.safe := rfl
@[simp] theorem Dev.fillOut_mgmt (d : Dev) (m : Nat) (ws : List Word) : (d.fillOut m ws).mgmt = d.mgmt := rfl
@[simp] theorem Dev.fillOut_jr (d : Dev) (m : Nat) (ws : List Word) : (d.fillOut m ws).jr = d.jr := rfl
@[simp] theorem Dev.fillOut_boot (d : Dev) (m : Nat) (ws : List Word) : (d.fillOut m ws).boot = d.boot := rfl
@[simp] theorem Dev.fillOut_test (d : Dev) (m : Nat) (ws : List Word) : (d.fillOut m ws).test = d.test := rfl
@[simp] theorem Dev.fillOut_pwr (d : Dev) (m : Nat) (ws : List Word) : (d.fillOut m ws).pwr = d.pwr := rfl
@[simp] theorem Dev.fillOut_degr (d : Dev) (m : Nat) (ws : List Word) : (d.fillOut m ws).degr = d.degr := rfl
@[simp] theorem Dev.fillOut_draws (d : Dev) (m : Nat) (ws : List Word) : (d.fillOut m ws).draws = d.draws := rfl
@[simp] theorem Dev.countIf_time (d : Dev) (b : Bool) (a : Nat) : (d.countIf b a).time = d.time := by unfold Dev.countIf; split <;> rfl
@[simp] theorem Dev.countIf_lanes (d : Dev) (b : Bool) (a : Nat) : (d.countIf b a).lanes = d.lanes := by unfold Dev.countIf; split <;> rfl
@[simp] theorem Dev.countIf_vot (d : Dev) (b : Bool) (a : Nat) : (d.countIf b a).vot = d.vot := by unfold Dev.countIf; split <;> rfl
@[simp] theorem Dev.countIf_gd (d : Dev) (b : Bool) (a : Nat) : (d.countIf b a).gd = d.gd := by unfold Dev.countIf; split <;> rfl
@[simp] theorem Dev.countIf_edge (d : Dev) (b : Bool) (a : Nat) : (d.countIf b a).edge = d.edge := by unfold Dev.countIf; split <;> rfl
@[simp] theorem Dev.countIf_net (d : Dev) (b : Bool) (a : Nat) : (d.countIf b a).net = d.net := by unfold Dev.countIf; split <;> rfl
@[simp] theorem Dev.countIf_can (d : Dev) (b : Bool) (a : Nat) : (d.countIf b a).can = d.can := by unfold Dev.countIf; split <;> rfl
@[simp] theorem Dev.countIf_pair (d : Dev) (b : Bool) (a : Nat) : (d.countIf b a).pair = d.pair := by unfold Dev.countIf; split <;> rfl
@[simp] theorem Dev.countIf_safe (d : Dev) (b : Bool) (a : Nat) : (d.countIf b a).safe = d.safe := by unfold Dev.countIf; split <;> rfl
@[simp] theorem Dev.countIf_mgmt (d : Dev) (b : Bool) (a : Nat) : (d.countIf b a).mgmt = d.mgmt := by unfold Dev.countIf; split <;> rfl
@[simp] theorem Dev.countIf_jr (d : Dev) (b : Bool) (a : Nat) : (d.countIf b a).jr = d.jr := by unfold Dev.countIf; split <;> rfl
@[simp] theorem Dev.countIf_boot (d : Dev) (b : Bool) (a : Nat) : (d.countIf b a).boot = d.boot := by unfold Dev.countIf; split <;> rfl
@[simp] theorem Dev.countIf_test (d : Dev) (b : Bool) (a : Nat) : (d.countIf b a).test = d.test := by unfold Dev.countIf; split <;> rfl
@[simp] theorem Dev.countIf_pwr (d : Dev) (b : Bool) (a : Nat) : (d.countIf b a).pwr = d.pwr := by unfold Dev.countIf; split <;> rfl
@[simp] theorem Dev.countIf_degr (d : Dev) (b : Bool) (a : Nat) : (d.countIf b a).degr = d.degr := by unfold Dev.countIf; split <;> rfl
@[simp] theorem Dev.countIf_draws (d : Dev) (b : Bool) (a : Nat) : (d.countIf b a).draws = d.draws := by unfold Dev.countIf; split <;> rfl
@[simp] theorem Dev.event_time (d : Dev) (c : Nat) (v : Word) : (d.event c v).time = d.time := by unfold Dev.event; dsimp only; split <;> [rfl; split <;> rfl]
@[simp] theorem Dev.event_lanes (d : Dev) (c : Nat) (v : Word) : (d.event c v).lanes = d.lanes := by unfold Dev.event; dsimp only; split <;> [rfl; split <;> rfl]
@[simp] theorem Dev.event_vot (d : Dev) (c : Nat) (v : Word) : (d.event c v).vot = d.vot := by unfold Dev.event; dsimp only; split <;> [rfl; split <;> rfl]
@[simp] theorem Dev.event_gd (d : Dev) (c : Nat) (v : Word) : (d.event c v).gd = d.gd := by unfold Dev.event; dsimp only; split <;> [rfl; split <;> rfl]
@[simp] theorem Dev.event_edge (d : Dev) (c : Nat) (v : Word) : (d.event c v).edge = d.edge := by unfold Dev.event; dsimp only; split <;> [rfl; split <;> rfl]
@[simp] theorem Dev.event_net (d : Dev) (c : Nat) (v : Word) : (d.event c v).net = d.net := by unfold Dev.event; dsimp only; split <;> [rfl; split <;> rfl]
@[simp] theorem Dev.event_can (d : Dev) (c : Nat) (v : Word) : (d.event c v).can = d.can := by unfold Dev.event; dsimp only; split <;> [rfl; split <;> rfl]
@[simp] theorem Dev.event_pair (d : Dev) (c : Nat) (v : Word) : (d.event c v).pair = d.pair := by unfold Dev.event; dsimp only; split <;> [rfl; split <;> rfl]
@[simp] theorem Dev.event_safe (d : Dev) (c : Nat) (v : Word) : (d.event c v).safe = d.safe := by unfold Dev.event; dsimp only; split <;> [rfl; split <;> rfl]
@[simp] theorem Dev.event_mgmt (d : Dev) (c : Nat) (v : Word) : (d.event c v).mgmt = d.mgmt := by unfold Dev.event; dsimp only; split <;> [rfl; split <;> rfl]
@[simp] theorem Dev.event_jr (d : Dev) (c : Nat) (v : Word) : (d.event c v).jr = d.jr := by unfold Dev.event; dsimp only; split <;> [rfl; split <;> rfl]
@[simp] theorem Dev.event_boot (d : Dev) (c : Nat) (v : Word) : (d.event c v).boot = d.boot := by unfold Dev.event; dsimp only; split <;> [rfl; split <;> rfl]
@[simp] theorem Dev.event_test (d : Dev) (c : Nat) (v : Word) : (d.event c v).test = d.test := by unfold Dev.event; dsimp only; split <;> [rfl; split <;> rfl]
@[simp] theorem Dev.event_pwr (d : Dev) (c : Nat) (v : Word) : (d.event c v).pwr = d.pwr := by unfold Dev.event; dsimp only; split <;> [rfl; split <;> rfl]
@[simp] theorem Dev.event_degr (d : Dev) (c : Nat) (v : Word) : (d.event c v).degr = d.degr := by unfold Dev.event; dsimp only; split <;> [rfl; split <;> rfl]
@[simp] theorem Dev.event_draws (d : Dev) (c : Nat) (v : Word) : (d.event c v).draws = d.draws := by unfold Dev.event; dsimp only; split <;> [rfl; split <;> rfl]
@[simp] theorem Dev.post_time (d : Dev) (p : Post) : (d.post p).time = d.time := by unfold Dev.post; dsimp only; split_ifs <;> rfl
@[simp] theorem Dev.post_lanes (d : Dev) (p : Post) : (d.post p).lanes = d.lanes := by unfold Dev.post; dsimp only; split_ifs <;> rfl
@[simp] theorem Dev.post_vot (d : Dev) (p : Post) : (d.post p).vot = d.vot := by unfold Dev.post; dsimp only; split_ifs <;> rfl
@[simp] theorem Dev.post_gd (d : Dev) (p : Post) : (d.post p).gd = d.gd := by unfold Dev.post; dsimp only; split_ifs <;> rfl
@[simp] theorem Dev.post_edge (d : Dev) (p : Post) : (d.post p).edge = d.edge := by unfold Dev.post; dsimp only; split_ifs <;> rfl
@[simp] theorem Dev.post_net (d : Dev) (p : Post) : (d.post p).net = d.net := by unfold Dev.post; dsimp only; split_ifs <;> rfl
@[simp] theorem Dev.post_can (d : Dev) (p : Post) : (d.post p).can = d.can := by unfold Dev.post; dsimp only; split_ifs <;> rfl
@[simp] theorem Dev.post_pair (d : Dev) (p : Post) : (d.post p).pair = d.pair := by unfold Dev.post; dsimp only; split_ifs <;> rfl
@[simp] theorem Dev.post_safe (d : Dev) (p : Post) : (d.post p).safe = d.safe := by unfold Dev.post; dsimp only; split_ifs <;> rfl
@[simp] theorem Dev.post_host (d : Dev) (p : Post) : (d.post p).host = d.host := by unfold Dev.post; dsimp only; split_ifs <;> rfl
@[simp] theorem Dev.post_mgmt (d : Dev) (p : Post) : (d.post p).mgmt = d.mgmt := by unfold Dev.post; dsimp only; split_ifs <;> rfl
@[simp] theorem Dev.post_boot (d : Dev) (p : Post) : (d.post p).boot = d.boot := by unfold Dev.post; dsimp only; split_ifs <;> rfl
@[simp] theorem Dev.post_test (d : Dev) (p : Post) : (d.post p).test = d.test := by unfold Dev.post; dsimp only; split_ifs <;> rfl
@[simp] theorem Dev.post_pwr (d : Dev) (p : Post) : (d.post p).pwr = d.pwr := by unfold Dev.post; dsimp only; split_ifs <;> rfl
@[simp] theorem Dev.post_degr (d : Dev) (p : Post) : (d.post p).degr = d.degr := by unfold Dev.post; dsimp only; split_ifs <;> rfl
@[simp] theorem Dev.post_draws (d : Dev) (p : Post) : (d.post p).draws = d.draws := by unfold Dev.post; dsimp only; split_ifs <;> rfl
@[simp] theorem Dev.fault_time (d : Dev) (t u i c v : Nat) : (d.fault t u i c v).time = d.time := by unfold Dev.fault; split <;> simp
@[simp] theorem Dev.fault_lanes (d : Dev) (t u i c v : Nat) : (d.fault t u i c v).lanes = d.lanes := by unfold Dev.fault; split <;> simp
@[simp] theorem Dev.fault_vot (d : Dev) (t u i c v : Nat) : (d.fault t u i c v).vot = d.vot := by unfold Dev.fault; split <;> simp
@[simp] theorem Dev.fault_gd (d : Dev) (t u i c v : Nat) : (d.fault t u i c v).gd = d.gd := by unfold Dev.fault; split <;> simp
@[simp] theorem Dev.fault_edge (d : Dev) (t u i c v : Nat) : (d.fault t u i c v).edge = d.edge := by unfold Dev.fault; split <;> simp
@[simp] theorem Dev.fault_net (d : Dev) (t u i c v : Nat) : (d.fault t u i c v).net = d.net := by unfold Dev.fault; split <;> simp
@[simp] theorem Dev.fault_can (d : Dev) (t u i c v : Nat) : (d.fault t u i c v).can = d.can := by unfold Dev.fault; split <;> simp
@[simp] theorem Dev.fault_pair (d : Dev) (t u i c v : Nat) : (d.fault t u i c v).pair = d.pair := by unfold Dev.fault; split <;> simp
@[simp] theorem Dev.fault_safe (d : Dev) (t u i c v : Nat) : (d.fault t u i c v).safe = d.safe := by unfold Dev.fault; split <;> simp
@[simp] theorem Dev.fault_host (d : Dev) (t u i c v : Nat) : (d.fault t u i c v).host = d.host := by unfold Dev.fault; split <;> simp
@[simp] theorem Dev.fault_mgmt (d : Dev) (t u i c v : Nat) : (d.fault t u i c v).mgmt = d.mgmt := by unfold Dev.fault; split <;> simp
@[simp] theorem Dev.fault_boot (d : Dev) (t u i c v : Nat) : (d.fault t u i c v).boot = d.boot := by unfold Dev.fault; split <;> simp
@[simp] theorem Dev.fault_test (d : Dev) (t u i c v : Nat) : (d.fault t u i c v).test = d.test := by unfold Dev.fault; split <;> simp
@[simp] theorem Dev.fault_pwr (d : Dev) (t u i c v : Nat) : (d.fault t u i c v).pwr = d.pwr := by unfold Dev.fault; split <;> simp
@[simp] theorem Dev.fault_degr (d : Dev) (t u i c v : Nat) : (d.fault t u i c v).degr = d.degr := by unfold Dev.fault; split <;> simp
@[simp] theorem Dev.fault_draws (d : Dev) (t u i c v : Nat) : (d.fault t u i c v).draws = d.draws := by unfold Dev.fault; split <;> simp
@[simp] theorem Dev.note_time (d : Dev) (t u i c v : Nat) : (d.note t u i c v).time = d.time := by unfold Dev.note; split <;> simp
@[simp] theorem Dev.note_lanes (d : Dev) (t u i c v : Nat) : (d.note t u i c v).lanes = d.lanes := by unfold Dev.note; split <;> simp
@[simp] theorem Dev.note_vot (d : Dev) (t u i c v : Nat) : (d.note t u i c v).vot = d.vot := by unfold Dev.note; split <;> simp
@[simp] theorem Dev.note_gd (d : Dev) (t u i c v : Nat) : (d.note t u i c v).gd = d.gd := by unfold Dev.note; split <;> simp
@[simp] theorem Dev.note_edge (d : Dev) (t u i c v : Nat) : (d.note t u i c v).edge = d.edge := by unfold Dev.note; split <;> simp
@[simp] theorem Dev.note_net (d : Dev) (t u i c v : Nat) : (d.note t u i c v).net = d.net := by unfold Dev.note; split <;> simp
@[simp] theorem Dev.note_can (d : Dev) (t u i c v : Nat) : (d.note t u i c v).can = d.can := by unfold Dev.note; split <;> simp
@[simp] theorem Dev.note_pair (d : Dev) (t u i c v : Nat) : (d.note t u i c v).pair = d.pair := by unfold Dev.note; split <;> simp
@[simp] theorem Dev.note_safe (d : Dev) (t u i c v : Nat) : (d.note t u i c v).safe = d.safe := by unfold Dev.note; split <;> simp
@[simp] theorem Dev.note_host (d : Dev) (t u i c v : Nat) : (d.note t u i c v).host = d.host := by unfold Dev.note; split <;> simp
@[simp] theorem Dev.note_mgmt (d : Dev) (t u i c v : Nat) : (d.note t u i c v).mgmt = d.mgmt := by unfold Dev.note; split <;> simp
@[simp] theorem Dev.note_boot (d : Dev) (t u i c v : Nat) : (d.note t u i c v).boot = d.boot := by unfold Dev.note; split <;> simp
@[simp] theorem Dev.note_test (d : Dev) (t u i c v : Nat) : (d.note t u i c v).test = d.test := by unfold Dev.note; split <;> simp
@[simp] theorem Dev.note_pwr (d : Dev) (t u i c v : Nat) : (d.note t u i c v).pwr = d.pwr := by unfold Dev.note; split <;> simp
@[simp] theorem Dev.note_degr (d : Dev) (t u i c v : Nat) : (d.note t u i c v).degr = d.degr := by unfold Dev.note; split <;> simp
@[simp] theorem Dev.note_draws (d : Dev) (t u i c v : Nat) : (d.note t u i c v).draws = d.draws := by unfold Dev.note; split <;> simp
@[simp] theorem Dev.postLane_time (d : Dev) (n : Nat) (l : Lane) (k t u i c v : Nat) : (d.postLane n l k t u i c v).time = d.time := by unfold Dev.postLane; split_ifs <;> simp
@[simp] theorem Dev.postLane_lanes (d : Dev) (n : Nat) (l : Lane) (k t u i c v : Nat) : (d.postLane n l k t u i c v).lanes = d.lanes := by unfold Dev.postLane; split_ifs <;> simp
@[simp] theorem Dev.postLane_vot (d : Dev) (n : Nat) (l : Lane) (k t u i c v : Nat) : (d.postLane n l k t u i c v).vot = d.vot := by unfold Dev.postLane; split_ifs <;> simp
@[simp] theorem Dev.postLane_gd (d : Dev) (n : Nat) (l : Lane) (k t u i c v : Nat) : (d.postLane n l k t u i c v).gd = d.gd := by unfold Dev.postLane; split_ifs <;> simp
@[simp] theorem Dev.postLane_edge (d : Dev) (n : Nat) (l : Lane) (k t u i c v : Nat) : (d.postLane n l k t u i c v).edge = d.edge := by unfold Dev.postLane; split_ifs <;> simp
@[simp] theorem Dev.postLane_net (d : Dev) (n : Nat) (l : Lane) (k t u i c v : Nat) : (d.postLane n l k t u i c v).net = d.net := by unfold Dev.postLane; split_ifs <;> simp
@[simp] theorem Dev.postLane_can (d : Dev) (n : Nat) (l : Lane) (k t u i c v : Nat) : (d.postLane n l k t u i c v).can = d.can := by unfold Dev.postLane; split_ifs <;> simp
@[simp] theorem Dev.postLane_pair (d : Dev) (n : Nat) (l : Lane) (k t u i c v : Nat) : (d.postLane n l k t u i c v).pair = d.pair := by unfold Dev.postLane; split_ifs <;> simp
@[simp] theorem Dev.postLane_safe (d : Dev) (n : Nat) (l : Lane) (k t u i c v : Nat) : (d.postLane n l k t u i c v).safe = d.safe := by unfold Dev.postLane; split_ifs <;> simp
@[simp] theorem Dev.postLane_host (d : Dev) (n : Nat) (l : Lane) (k t u i c v : Nat) : (d.postLane n l k t u i c v).host = d.host := by unfold Dev.postLane; split_ifs <;> simp
@[simp] theorem Dev.postLane_mgmt (d : Dev) (n : Nat) (l : Lane) (k t u i c v : Nat) : (d.postLane n l k t u i c v).mgmt = d.mgmt := by unfold Dev.postLane; split_ifs <;> simp
@[simp] theorem Dev.postLane_boot (d : Dev) (n : Nat) (l : Lane) (k t u i c v : Nat) : (d.postLane n l k t u i c v).boot = d.boot := by unfold Dev.postLane; split_ifs <;> simp
@[simp] theorem Dev.postLane_test (d : Dev) (n : Nat) (l : Lane) (k t u i c v : Nat) : (d.postLane n l k t u i c v).test = d.test := by unfold Dev.postLane; split_ifs <;> simp
@[simp] theorem Dev.postLane_pwr (d : Dev) (n : Nat) (l : Lane) (k t u i c v : Nat) : (d.postLane n l k t u i c v).pwr = d.pwr := by unfold Dev.postLane; split_ifs <;> simp
@[simp] theorem Dev.postLane_degr (d : Dev) (n : Nat) (l : Lane) (k t u i c v : Nat) : (d.postLane n l k t u i c v).degr = d.degr := by unfold Dev.postLane; split_ifs <;> simp
@[simp] theorem Dev.postLane_draws (d : Dev) (n : Nat) (l : Lane) (k t u i c v : Nat) : (d.postLane n l k t u i c v).draws = d.draws := by unfold Dev.postLane; split_ifs <;> simp
@[simp] theorem globalDoor_time (d : Dev) : (globalDoor d).time = d.time := by unfold globalDoor; split <;> simp
@[simp] theorem globalDoor_lanes (d : Dev) : (globalDoor d).lanes = d.lanes := by unfold globalDoor; split <;> simp
@[simp] theorem globalDoor_vot (d : Dev) : (globalDoor d).vot = d.vot := by unfold globalDoor; split <;> simp
@[simp] theorem globalDoor_gd (d : Dev) : (globalDoor d).gd = d.gd := by unfold globalDoor; split <;> simp
@[simp] theorem globalDoor_edge (d : Dev) : (globalDoor d).edge = d.edge := by unfold globalDoor; split <;> simp
@[simp] theorem globalDoor_net (d : Dev) : (globalDoor d).net = d.net := by unfold globalDoor; split <;> simp
@[simp] theorem globalDoor_can (d : Dev) : (globalDoor d).can = d.can := by unfold globalDoor; split <;> simp
@[simp] theorem globalDoor_pair (d : Dev) : (globalDoor d).pair = d.pair := by unfold globalDoor; split <;> simp
@[simp] theorem globalDoor_safe (d : Dev) : (globalDoor d).safe = d.safe := by unfold globalDoor; split <;> simp
@[simp] theorem globalDoor_mgmt (d : Dev) : (globalDoor d).mgmt = d.mgmt := by unfold globalDoor; split <;> simp
@[simp] theorem globalDoor_boot (d : Dev) : (globalDoor d).boot = d.boot := by unfold globalDoor; split <;> simp
@[simp] theorem globalDoor_test (d : Dev) : (globalDoor d).test = d.test := by unfold globalDoor; split <;> simp
@[simp] theorem globalDoor_pwr (d : Dev) : (globalDoor d).pwr = d.pwr := by unfold globalDoor; split <;> simp
@[simp] theorem globalDoor_draws (d : Dev) : (globalDoor d).draws = d.draws := by unfold globalDoor; split <;> simp
@[simp] theorem globalDoor_degr (d : Dev) : (globalDoor d).degr = d.degr := by unfold globalDoor; split <;> simp
@[simp] theorem globalDoor_jr (d : Dev) : (globalDoor d).jr = d.jr := by unfold globalDoor; split <;> simp
@[simp] theorem noteDegraded_time (d : Dev) : (noteDegraded d).time = d.time := by unfold noteDegraded; dsimp only; split <;> simp
@[simp] theorem noteDegraded_lanes (d : Dev) : (noteDegraded d).lanes = d.lanes := by unfold noteDegraded; dsimp only; split <;> simp
@[simp] theorem noteDegraded_vot (d : Dev) : (noteDegraded d).vot = d.vot := by unfold noteDegraded; dsimp only; split <;> simp
@[simp] theorem noteDegraded_gd (d : Dev) : (noteDegraded d).gd = d.gd := by unfold noteDegraded; dsimp only; split <;> simp
@[simp] theorem noteDegraded_edge (d : Dev) : (noteDegraded d).edge = d.edge := by unfold noteDegraded; dsimp only; split <;> simp
@[simp] theorem noteDegraded_net (d : Dev) : (noteDegraded d).net = d.net := by unfold noteDegraded; dsimp only; split <;> simp
@[simp] theorem noteDegraded_can (d : Dev) : (noteDegraded d).can = d.can := by unfold noteDegraded; dsimp only; split <;> simp
@[simp] theorem noteDegraded_pair (d : Dev) : (noteDegraded d).pair = d.pair := by unfold noteDegraded; dsimp only; split <;> simp
@[simp] theorem noteDegraded_safe (d : Dev) : (noteDegraded d).safe = d.safe := by unfold noteDegraded; dsimp only; split <;> simp
@[simp] theorem noteDegraded_mgmt (d : Dev) : (noteDegraded d).mgmt = d.mgmt := by unfold noteDegraded; dsimp only; split <;> simp
@[simp] theorem noteDegraded_boot (d : Dev) : (noteDegraded d).boot = d.boot := by unfold noteDegraded; dsimp only; split <;> simp
@[simp] theorem noteDegraded_test (d : Dev) : (noteDegraded d).test = d.test := by unfold noteDegraded; dsimp only; split <;> simp
@[simp] theorem noteDegraded_pwr (d : Dev) : (noteDegraded d).pwr = d.pwr := by unfold noteDegraded; dsimp only; split <;> simp
@[simp] theorem noteDegraded_draws (d : Dev) : (noteDegraded d).draws = d.draws := by unfold noteDegraded; dsimp only; split <;> simp
/-- After it the DEGRADED that is shown is the one that holds. -/
theorem noteDegraded_degr (d : Dev) : (noteDegraded d).degr = d.degraded := by unfold noteDegraded; dsimp only; split <;> simp_all
@[simp] theorem Dev.liveChanged_time (d : Dev) : (d.liveChanged).time = d.time := by unfold Dev.liveChanged; simp
@[simp] theorem Dev.liveChanged_lanes (d : Dev) : (d.liveChanged).lanes = d.lanes := by unfold Dev.liveChanged; simp
@[simp] theorem Dev.liveChanged_vot (d : Dev) : (d.liveChanged).vot = d.vot := by unfold Dev.liveChanged; simp
@[simp] theorem Dev.liveChanged_gd (d : Dev) : (d.liveChanged).gd = d.gd := by unfold Dev.liveChanged; simp
@[simp] theorem Dev.liveChanged_edge (d : Dev) : (d.liveChanged).edge = d.edge := by unfold Dev.liveChanged; simp
@[simp] theorem Dev.liveChanged_net (d : Dev) : (d.liveChanged).net = d.net := by unfold Dev.liveChanged; simp
@[simp] theorem Dev.liveChanged_can (d : Dev) : (d.liveChanged).can = d.can := by unfold Dev.liveChanged; simp
@[simp] theorem Dev.liveChanged_pair (d : Dev) : (d.liveChanged).pair = d.pair := by unfold Dev.liveChanged; simp
@[simp] theorem Dev.liveChanged_safe (d : Dev) : (d.liveChanged).safe = d.safe := by unfold Dev.liveChanged; simp
@[simp] theorem Dev.liveChanged_mgmt (d : Dev) : (d.liveChanged).mgmt = d.mgmt := by unfold Dev.liveChanged; simp
@[simp] theorem Dev.liveChanged_boot (d : Dev) : (d.liveChanged).boot = d.boot := by unfold Dev.liveChanged; simp
@[simp] theorem Dev.liveChanged_test (d : Dev) : (d.liveChanged).test = d.test := by unfold Dev.liveChanged; simp
@[simp] theorem Dev.liveChanged_pwr (d : Dev) : (d.liveChanged).pwr = d.pwr := by unfold Dev.liveChanged; simp
@[simp] theorem Dev.liveChanged_draws (d : Dev) : (d.liveChanged).draws = d.draws := by unfold Dev.liveChanged; simp
@[simp] theorem Dev.holdAll_time (d : Dev) : (d.holdAll).time = d.time := by unfold Dev.holdAll; split <;> rfl
@[simp] theorem Dev.holdAll_lanes (d : Dev) : (d.holdAll).lanes = d.lanes := by unfold Dev.holdAll; split <;> rfl
@[simp] theorem Dev.holdAll_can (d : Dev) : (d.holdAll).can = d.can := by unfold Dev.holdAll; split <;> rfl
@[simp] theorem Dev.holdAll_pair (d : Dev) : (d.holdAll).pair = d.pair := by unfold Dev.holdAll; split <;> rfl
@[simp] theorem Dev.holdAll_host (d : Dev) : (d.holdAll).host = d.host := by unfold Dev.holdAll; split <;> rfl
@[simp] theorem Dev.holdAll_mgmt (d : Dev) : (d.holdAll).mgmt = d.mgmt := by unfold Dev.holdAll; split <;> rfl
@[simp] theorem Dev.holdAll_jr (d : Dev) : (d.holdAll).jr = d.jr := by unfold Dev.holdAll; split <;> rfl
@[simp] theorem Dev.holdAll_boot (d : Dev) : (d.holdAll).boot = d.boot := by unfold Dev.holdAll; split <;> rfl
@[simp] theorem Dev.holdAll_test (d : Dev) : (d.holdAll).test = d.test := by unfold Dev.holdAll; split <;> rfl
@[simp] theorem Dev.holdAll_pwr (d : Dev) : (d.holdAll).pwr = d.pwr := by unfold Dev.holdAll; split <;> rfl
@[simp] theorem Dev.holdAll_degr (d : Dev) : (d.holdAll).degr = d.degr := by unfold Dev.holdAll; split <;> rfl
@[simp] theorem Dev.holdAll_draws (d : Dev) : (d.holdAll).draws = d.draws := by unfold Dev.holdAll; split <;> rfl
@[simp] theorem Dev.takeOut_time (d : Dev) (l : Lane) (c e u : Nat) : (d.takeOut l c e u).time = d.time := by unfold Dev.takeOut; dsimp only; split_ifs <;> simp
@[simp] theorem Dev.takeOut_can (d : Dev) (l : Lane) (c e u : Nat) : (d.takeOut l c e u).can = d.can := by unfold Dev.takeOut; dsimp only; split_ifs <;> simp
@[simp] theorem Dev.takeOut_pair (d : Dev) (l : Lane) (c e u : Nat) : (d.takeOut l c e u).pair = d.pair := by unfold Dev.takeOut; dsimp only; split_ifs <;> simp
@[simp] theorem Dev.takeOut_mgmt (d : Dev) (l : Lane) (c e u : Nat) : (d.takeOut l c e u).mgmt = d.mgmt := by unfold Dev.takeOut; dsimp only; split_ifs <;> simp
@[simp] theorem Dev.takeOut_boot (d : Dev) (l : Lane) (c e u : Nat) : (d.takeOut l c e u).boot = d.boot := by unfold Dev.takeOut; dsimp only; split_ifs <;> simp
@[simp] theorem Dev.takeOut_test (d : Dev) (l : Lane) (c e u : Nat) : (d.takeOut l c e u).test = d.test := by unfold Dev.takeOut; dsimp only; split_ifs <;> simp
@[simp] theorem Dev.takeOut_pwr (d : Dev) (l : Lane) (c e u : Nat) : (d.takeOut l c e u).pwr = d.pwr := by unfold Dev.takeOut; dsimp only; split_ifs <;> simp
@[simp] theorem Dev.takeOut_draws (d : Dev) (l : Lane) (c e u : Nat) : (d.takeOut l c e u).draws = d.draws := by unfold Dev.takeOut; dsimp only; split_ifs <;> simp
@[simp] theorem Dev.laneRecAt_time (d : Dev) (n : Nat) (l : Lane) (k t u i c v : Nat) : (d.laneRecAt n l k t u i c v).time = d.time := by unfold Dev.laneRecAt; split <;> simp
@[simp] theorem Dev.laneRecAt_can (d : Dev) (n : Nat) (l : Lane) (k t u i c v : Nat) : (d.laneRecAt n l k t u i c v).can = d.can := by unfold Dev.laneRecAt; split <;> simp
@[simp] theorem Dev.laneRecAt_pair (d : Dev) (n : Nat) (l : Lane) (k t u i c v : Nat) : (d.laneRecAt n l k t u i c v).pair = d.pair := by unfold Dev.laneRecAt; split <;> simp
@[simp] theorem Dev.laneRecAt_mgmt (d : Dev) (n : Nat) (l : Lane) (k t u i c v : Nat) : (d.laneRecAt n l k t u i c v).mgmt = d.mgmt := by unfold Dev.laneRecAt; split <;> simp
@[simp] theorem Dev.laneRecAt_boot (d : Dev) (n : Nat) (l : Lane) (k t u i c v : Nat) : (d.laneRecAt n l k t u i c v).boot = d.boot := by unfold Dev.laneRecAt; split <;> simp
@[simp] theorem Dev.laneRecAt_test (d : Dev) (n : Nat) (l : Lane) (k t u i c v : Nat) : (d.laneRecAt n l k t u i c v).test = d.test := by unfold Dev.laneRecAt; split <;> simp
@[simp] theorem Dev.laneRecAt_pwr (d : Dev) (n : Nat) (l : Lane) (k t u i c v : Nat) : (d.laneRecAt n l k t u i c v).pwr = d.pwr := by unfold Dev.laneRecAt; split <;> simp
@[simp] theorem Dev.laneRecAt_draws (d : Dev) (n : Nat) (l : Lane) (k t u i c v : Nat) : (d.laneRecAt n l k t u i c v).draws = d.draws := by unfold Dev.laneRecAt; split <;> simp
@[simp] theorem Dev.laneRec_time (d : Dev) (l : Lane) (k t u i c v : Nat) : (d.laneRec l k t u i c v).time = d.time := Dev.laneRecAt_time ..
@[simp] theorem Dev.laneRec_can (d : Dev) (l : Lane) (k t u i c v : Nat) : (d.laneRec l k t u i c v).can = d.can := Dev.laneRecAt_can ..
@[simp] theorem Dev.laneRec_pair (d : Dev) (l : Lane) (k t u i c v : Nat) : (d.laneRec l k t u i c v).pair = d.pair := Dev.laneRecAt_pair ..
@[simp] theorem Dev.laneRec_mgmt (d : Dev) (l : Lane) (k t u i c v : Nat) : (d.laneRec l k t u i c v).mgmt = d.mgmt := Dev.laneRecAt_mgmt ..
@[simp] theorem Dev.laneRec_boot (d : Dev) (l : Lane) (k t u i c v : Nat) : (d.laneRec l k t u i c v).boot = d.boot := Dev.laneRecAt_boot ..
@[simp] theorem Dev.laneRec_test (d : Dev) (l : Lane) (k t u i c v : Nat) : (d.laneRec l k t u i c v).test = d.test := Dev.laneRecAt_test ..
@[simp] theorem Dev.laneRec_pwr (d : Dev) (l : Lane) (k t u i c v : Nat) : (d.laneRec l k t u i c v).pwr = d.pwr := Dev.laneRecAt_pwr ..
@[simp] theorem Dev.laneRec_draws (d : Dev) (l : Lane) (k t u i c v : Nat) : (d.laneRec l k t u i c v).draws = d.draws := Dev.laneRecAt_draws ..
@[simp] theorem Dev.endJob_time (d : Dev) (n s e : Nat) : (d.endJob n s e).time = d.time := rfl
@[simp] theorem Dev.endJob_lanes (d : Dev) (n s e : Nat) : (d.endJob n s e).lanes = d.lanes := rfl
@[simp] theorem Dev.endJob_vot (d : Dev) (n s e : Nat) : (d.endJob n s e).vot = d.vot := rfl
@[simp] theorem Dev.endJob_gd (d : Dev) (n s e : Nat) : (d.endJob n s e).gd = d.gd := rfl
@[simp] theorem Dev.endJob_edge (d : Dev) (n s e : Nat) : (d.endJob n s e).edge = d.edge := rfl
@[simp] theorem Dev.endJob_net (d : Dev) (n s e : Nat) : (d.endJob n s e).net = d.net := rfl
@[simp] theorem Dev.endJob_can (d : Dev) (n s e : Nat) : (d.endJob n s e).can = d.can := rfl
@[simp] theorem Dev.endJob_pair (d : Dev) (n s e : Nat) : (d.endJob n s e).pair = d.pair := rfl
@[simp] theorem Dev.endJob_safe (d : Dev) (n s e : Nat) : (d.endJob n s e).safe = d.safe := rfl
@[simp] theorem Dev.endJob_host (d : Dev) (n s e : Nat) : (d.endJob n s e).host = d.host := rfl
@[simp] theorem Dev.endJob_jr (d : Dev) (n s e : Nat) : (d.endJob n s e).jr = d.jr := rfl
@[simp] theorem Dev.endJob_boot (d : Dev) (n s e : Nat) : (d.endJob n s e).boot = d.boot := rfl
@[simp] theorem Dev.endJob_test (d : Dev) (n s e : Nat) : (d.endJob n s e).test = d.test := rfl
@[simp] theorem Dev.endJob_pwr (d : Dev) (n s e : Nat) : (d.endJob n s e).pwr = d.pwr := rfl
@[simp] theorem Dev.endJob_degr (d : Dev) (n s e : Nat) : (d.endJob n s e).degr = d.degr := rfl
@[simp] theorem Dev.endJob_draws (d : Dev) (n s e : Nat) : (d.endJob n s e).draws = d.draws := rfl

/-! ### Taking a lane out -/

/-- A lane that does not run is left alone. -/
theorem Dev.takeOut_idle (d : Dev) (l : Lane) (c e u : Nat) (h : d.runs l = false) : d.takeOut l c e u = d := by
  unfold Dev.takeOut; simp [h]
/-- The lane that goes out keeps everything but its sequencer. -/
theorem Dev.takeOut_lane (d : Dev) (l : Lane) (c e u : Nat) (h : d.runs l = true) :
    (d.takeOut l c e u).lane l = { d.lane l with seq := { (d.lane l).seq.goOut c e u with outGt := d.gt } } := by
  have k : (d.onSeq l (fun s => { s.goOut c e u with outGt := d.gt })).lanes.get l =
      { d.lane l with seq := { (d.lane l).seq.goOut c e u with outGt := d.gt } } := Dev.onSeq_lane d l _
  unfold Dev.takeOut; dsimp only; simp only [h, if_true]
  split_ifs <;> simp [Dev.lane, k]
/-- The other lanes keep everything. -/
theorem Dev.takeOut_lane_ne (d : Dev) (l m : Lane) (c e u : Nat) (h : m ≠ l) : (d.takeOut l c e u).lane m = d.lane m := by
  have k : (d.onSeq l (fun s => { s.goOut c e u with outGt := d.gt })).lanes.get m = d.lanes.get m := Dev.onSeq_lane_ne d l m _ h
  unfold Dev.takeOut; dsimp only
  split_ifs <;> simp [Dev.lane, k]
/-- No byte of any lane's memory changes. -/
theorem Dev.takeOut_mem (d : Dev) (l m : Lane) (c e u : Nat) : ((d.takeOut l c e u).lane m).mem = (d.lane m).mem := by
  by_cases h : m = l
  · subst h
    cases r : d.runs m
    · rw [Dev.takeOut_idle _ _ _ _ _ r]
    · rw [Dev.takeOut_lane _ _ _ _ _ r]
  · rw [Dev.takeOut_lane_ne _ _ _ _ _ _ h]

/-! ### Dispatch -/

/-- A ready entry that its command accepts runs its operation on the begun device; what it writes to memory waits for its deadline. -/
theorem dispatchStaging_ready (d : Dev) (l : Lane) (g : Img) (e : Entry) (ok : Img → Entry → Bool)
    (st : Img → Entry → Dev → List (Nat × DWord) × Option CoefRec) (body : Img → Entry → Dev → Dev)
    (h : d.Ready l g e) (hk : ok g e = true) :
    dispatchStaging d l false ok st body =
      holdBack l e (st g e (d.begun l g e)).1 (st g e (d.begun l g e)).2 (d.begun l g e) (body g e (d.begun l g e)) := by
  obtain ⟨h1, h2, h3, h4, h5⟩ := h
  have a : ¬ (d.dispatchAt l e.offset - d.target l e.offset > 64) := by omega
  have b : ¬ (d.dispatchAt l e.offset < (lookupNat (d.lane l).seq.busy e.unit).getD 0) := by omega
  have k : startEntry d l false e g = (d.begun l g e, true) := by
    simp only [startEntry, Dev.begun, a, b, if_false, decide_false, Bool.false_eq_true]
  simp only [dispatchStaging, h1, h2, h3, hk, k, Bool.and_self, if_true]
theorem dispatch_ready (d : Dev) (l : Lane) (g : Img) (e : Entry) (ok : Img → Entry → Bool) (body : Img → Entry → Dev → Dev)
    (h : d.Ready l g e) (hk : ok g e = true) :
    dispatch d l false ok body = holdBack l e [] none (d.begun l g e) (body g e (d.begun l g e)) :=
  dispatchStaging_ready d l g e ok _ body h hk
theorem onDev_dispatch_ready (s : State) (l : Lane) (g : Img) (e : Entry) (ok : Img → Entry → Bool)
    (body : Img → Entry → Dev → Dev) (h : s.dev.Ready l g e) (hk : ok g e = true) :
    s.onDev (fun d => dispatch d l false ok body) =
      .next { s with dev := holdBack l e [] none (s.dev.begun l g e) (body g e (s.dev.begun l g e)) } := by
  simp only [State.onDev]; rw [dispatch_ready _ l g e _ _ h hk]
/-- What is in progress changes memory and the list of operations in progress alone, in its own lane. -/
theorem holdBack_lane (l : Lane) (e : Entry) (st : List (Nat × DWord)) (c : Option CoefRec) (d0 d1 : Dev) :
    ∃ w : List Late, (holdBack l e st c d0 d1).lane l =
      { d1.lane l with mem := (d0.lane l).mem, seq := { (d1.lane l).seq with late := w } } := by
  simp only [holdBack, Dev.onLane_lane]
  split
  · exact ⟨_, rfl⟩
  · exact ⟨_, rfl⟩
theorem holdBack_lane_ne (l m : Lane) (e : Entry) (st : List (Nat × DWord)) (c : Option CoefRec) (d0 d1 : Dev) (h : m ≠ l) :
    (holdBack l e st c d0 d1).lane m = d1.lane m := Dev.onLane_lane_ne _ _ _ _ h
/-- The dispatch moves the sequencer on and lets what is complete by then be seen; the rest of the lane stays. -/
theorem begun_lane (d : Dev) (l : Lane) (g : Img) (e : Entry) :
    (d.begun l g e).lane l =
      let q := (d.lane l).settle false (d.dispatchAt l e.offset)
      { q with seq := { q.seq.dispatched e.unit (d.dispatchAt l e.offset) (d.dispatchAt l e.offset + cost g e) with
        slip := d.dispatchAt l e.offset - d.target l e.offset } } := by
  simp only [Dev.begun, Dev.onSeq_lane, Dev.onLane_lane]; rfl
theorem begun_lane_ne (d : Dev) (l m : Lane) (g : Img) (e : Entry) (h : m ≠ l) : (d.begun l g e).lane m = d.lane m := by
  simp only [Dev.begun, Dev.onSeq_lane_ne _ _ _ _ h, Dev.onLane_lane_ne _ _ _ _ h]; rfl

@[simp] theorem begun_nextFc (d : Dev) (l : Lane) (g : Img) (e : Entry) : (d.begun l g e).nextFc = d.nextFc := by
  simp [Dev.begun, Dev.nextFc, Dev.toLaneClk, Dev.toRaw, Dev.onTime, Dev.onSeq, Dev.onLane]
@[simp] theorem begun_tf (d : Dev) (l : Lane) (g : Img) (e : Entry) : (d.begun l g e).tf = d.tf := rfl
/-- A dispatch touches time and its lane alone. -/
theorem begun_outside (d : Dev) (l : Lane) (g : Img) (e : Entry) : d.SameOutside (d.begun l g e) :=
  ⟨rfl, rfl, rfl, rfl, rfl, rfl, rfl, rfl, rfl, rfl⟩
@[simp] theorem begun_vot (d : Dev) (l : Lane) (g : Img) (e : Entry) : (d.begun l g e).vot = d.vot := rfl

end Sys2Proof.Machine
end

