-- ==== Sys2Proof/WellFormed.lean ====
section
/-! DEFINITION. Well-formed commands: every index an operand names exists in the TH960 (the ranges of the Readers chapter and
of the unit tables). A meaning is total on ill-formed commands too: one whose subject does not exist changes nothing. -/

namespace Sys2Proof
namespace WellFormed

/-- Half-bridges HB0 to HB19. -/
def hbOk (hb : Nat) : Bool := decide (hb < 20)
/-- Edge links 0 and 1. -/
def linkOk (k : Nat) : Bool := decide (k < 2)
/-- CAN channels 0 to 3, TX buffers 0 to 2. -/
def canOk (ch : Nat) : Bool := decide (ch < 4)
def bufOk (b : Nat) : Bool := decide (b < 3)
/-- Encoder inputs and resolver channels 0 to 3; observers of FCU 0 to 7. -/
def inputOk (i : Nat) : Bool := decide (i < 4)
def fcuOk (f : Nat) : Bool := decide (f < 8)
/-- Star ports 0 to 11. -/
def starOk (i : Nat) : Bool := decide (i < 12)
/-- Slot numbers 0 to 255. -/
def slotOk (n : Nat) : Bool := decide (n < 256)
/-- Mailboxes 0 to 15 and senders 0 to 15. -/
def boxOk (m : Nat) : Bool := decide (m < 16)
/-- TAGs 0 to 255. -/
def tagOk (t : Nat) : Bool := decide (t < 256)
/-- Discrete inputs 0 to 15. -/
def dinOk (n : Nat) : Bool := decide (n < 16)
/-- Gate supply banks 1 and 2. -/
def bankOk (b : Nat) : Bool := decide (1 ≤ b ∧ b ≤ 2)
def portOk : Port → Bool
  | .star i => starOk i
  | _ => true
def groupOk : Group → Bool
  | .gate hb => hbOk hb
  | .edge ch => decide (ch < 24)
  | .digest die => decide (die < 2)
  | _ => true
/-- A drained command: 4 to 16 words in all, so at most 15 arguments. -/
def reqOk (r : Request) : Bool := boxOk r.mbox && boxOk r.sender && decide (r.tag < 256) && decide (r.args.length ≤ 15)
/-- Domain codes of Table 25-1. -/
def domOk (c : Nat) : Bool := decide (c < 12)

end WellFormed

open WellFormed in
/-- Every index of the command exists. -/
def Instr.wf : Instr → Bool
  | .fastCycleBoundary reads => reads.all (fun r => groupOk r.g)
  | .acqTimeout _ f => fcuOk f
  | .rdcUpdate _ ch _ _ => inputOk ch
  | .encoderEdge _ i _ _ _ _ => inputOk i
  | .encoderSpeedTimeout _ i => inputOk i
  | .dinLevelAccepted _ n _ _ => dinOk n
  | .votedWordArrival _ g _ _ => groupOk g
  | .alignmentWindowExpiry g t _ => groupOk g && tagOk t
  | .releaseDeadlineExpiry g t _ => groupOk g && tagOk t
  | .gateEventExecution hb => hbOk hb
  | .switchTurnOn hb _ => hbOk hb
  | .gateStuck hb => hbOk hb
  | .hardShortArmed hb _ => hbOk hb
  | .blankingEnd hb _ => hbOk hb
  | .hardShortTrip hb _ => hbOk hb
  | .vdsTrip hb _ => hbOk hb
  | .bsUv hb => hbOk hb
  | .bsRecovered hb => hbOk hb
  | .bsFault hb => hbOk hb
  | .vgdUv b _ => bankOk b
  | .vgdRecovered b _ => bankOk b
  | .diagStepEnd u _ _ => decide (u < 11)
  | .edgeLinkIdle k => linkOk k
  | .statusFrame k _ _ _ => linkOk k
  | .edgeRxDown k => linkOk k
  | .slotStart n => slotOk n
  | .btnFrameReceived p _ _ => portOk p
  | .acceptanceWindowEnd n => slotOk n
  | .recessStart p => portOk p
  | .unscheduledFrameReceived p _ _ => portOk p
  | .starFrameArrival i _ _ => starOk i
  | .invigilatorCut i => starOk i
  | .ctrlInitWrite ch _ => canOk ch
  | .boRecover ch => canOk ch
  | .txcReq ch b => canOk ch && bufOk b
  | .txcAbort ch b => canOk ch && bufOk b
  | .canStartOfFrame ch => canOk ch
  | .canAttemptEnd ch _ _ _ => canOk ch
  | .canRecoveryComplete ch _ => canOk ch
  | .canFrameReceived ch _ _ => canOk ch
  | .headObjectH0Read ch _ => canOk ch
  | .headObjectReleaseRead ch _ => canOk ch
  | .canBusIntegrated ch => canOk ch
  | .canBusError ch _ => canOk ch
  | .relayedMailbox _ m _ => boxOk m
  | .testPulseStart o => decide (o < 4)
  | .testPulseEnd o _ => decide (o < 4)
  | .outputReadbackMismatch _ o => decide (o < 3)
  | .excitationFault a _ => decide (a < 2)
  | .inboundGo m s n ws => boxOk m && boxOk s && decide (n ≤ 16) && decide (ws.length ≤ 16)
  | .claimTimeout m => boxOk m
  | .outboundAck m _ => boxOk m
  | .identify r => reqOk r
  | .status r => reqOk r
  | .counterClear r => reqOk r
  | .jobStatus r => reqOk r
  | .bulkWrite r => reqOk r
  | .bulkRead r => reqOk r
  | .bulkRelease r => reqOk r
  | .paramStage r => reqOk r
  | .paramRead r => reqOk r
  | .commit r => reqOk r
  | .discard r => reqOk r
  | .calibrate r => reqOk r
  | .imageInfo r => reqOk r
  | .modeRequest r => reqOk r
  | .starUnmute r => reqOk r
  | .netSend r => reqOk r
  | .netReceive r => reqOk r
  | .imageWrite r => reqOk r
  | .coefStage r => reqOk r
  | .coefRead r => reqOk r
  | .journalInfo r => reqOk r
  | .journalRead r => reqOk r
  | .journalCompact r => reqOk r
  | .journalAppend r => reqOk r
  | .runTest r => reqOk r
  | .testResults r => reqOk r
  | .switchClear r => reqOk r
  | .pairStatus r => reqOk r
  | .pairSwap r => reqOk r
  | .pairRelay r => reqOk r
  | .fwWrite r => reqOk r
  | .slotStatus r => reqOk r
  | .slotSelect r => reqOk r
  | .restart r => reqOk r
  | .canRecover r => reqOk r
  | .attest r => reqOk r
  | .debugChallenge r rnd => reqOk r && decide (rnd.length = 32)
  | .debugUnlock r => reqOk r
  | .debugLock r => reqOk r
  | .rollbackAdvance r => reqOk r
  | .pwrSet r => reqOk r
  | .pwrStatus r => reqOk r
  | .journalPost q => decide (q.type < 0x10000 ∧ q.cls < 3)
  | .analogSelfTestDone d _ => decide (d < 2)
  | .domainDown c => domOk c
  | .domainGood c => domOk c
  | .temperatureRead t => decide (t.length = 6)
  | _ => true

end Sys2Proof
end

