-- ==== Sys2Proof/Tests/Slice0.lean ====
section
/-! SUPPORT. Small tests: ill-formed commands are refused, a few results worked out by hand from the spec's tables, and for the statements
a concrete state and operands that meet their hypotheses. -/

namespace Sys2Proof.Tests
open Sys2Proof Sys2Proof.Machine

/-! ### States -/

/-- A timetable entry at offset 0. -/
def ent (cls unit operand : Nat) : DWord := BitVec.ofNat 64 (cls * 2 ^ 38 + unit * 2 ^ 32 + operand)
/-- An image with one mode and one entry. -/
def img (e : DWord) (ds : List DWord) : Img :=
  { size := 0, tfCode := 2, k := 10, initialMode := 0, rateLimit := 0, paired := false, secVersion := 0, imageId := 0, digest := [],
    modes := [⟨0, 1, 0, 0⟩], entries := [e], descs := ds, sigmap := [], ranges := [], coefs := [], config := [], nets := [] }
/-- A released standalone device that runs an image, three lanes live, every domain good. -/
def dev (g : Img) : Dev :=
  let z := Dev.reset
  { z with
    boot := { z.boot with running := some g, stage := 8, released := true }
    pwr := { z.pwr with good := 0xFFF }
    time := { z.time with run := true, belled := true, nextFc := 16000, fcIdx := 1 }
    pair := { z.pair with role := .active }
    lanes := Tri.all { LaneSt.reset with seq := { SeqSt.reset with phase := .live } } }
def at_ (d : Dev) : State := { dev := d, pending := [] }
/-- Signal words of every lane. -/
def withSigs (d : Dev) (l : List (Nat × SigWord)) : Dev := d.onLanes (fun q => q.setSigs l)
/-- A waiting entry of a class with its descriptor words, and signal words 0, 1, 2 … of every lane. -/
def rdy (e : DWord) (ds : List DWord) (ws : List SigWord) : Dev :=
  withSigs (dev (img e ds)) ((List.range ws.length).zip ws)
/-- The integer n as a signal word, and one that is not VALID. -/
def num (n : Int) : SigWord := sigInt n Status.ok
def dead : SigWord := { num 1 with st := Status.clear }
/-- A host-owned field with its live value and what is staged. -/
def field (p : Nat) (live : DWord) (staged : Option DWord) : CfgField := { pid := p, host := true, live := live, staged := staged, at_ := 5, due := [] }
/-- A lane in which one field of one instance holds an integer. -/
def holds (q : LaneSt) (f i : Nat) (v : Int) : LaneSt := { q with cfg := [field (pidOf f i) (valOfInt v) none] }

/-! ### Ill-formed commands -/

/-- One ill-formed command for each check of WellFormed. -/
theorem test_wf : ([.hardShortTrip 20 .low, .edgeRxDown 2, .canStartOfFrame 4, .txcReq 0 3, .rdcUpdate .a 4 0 0, .acqTimeout .a 8,
    .invigilatorCut 12, .slotStart 256, .claimTimeout 16, .alignmentWindowExpiry (.gate 0) 256 none, .dinLevelAccepted .a 16 true 50,
    .vgdUv 3 0, .votedWordArrival .a (.edge 24) false none, .identify ⟨16, 0, 0, []⟩, .domainDown 12] : List Instr).all (fun i => !i.wf) = true := by
  decide
/-- Their neighbours inside the ranges are well formed. -/
theorem test_wf_ok : ([.hardShortTrip 19 .low, .edgeRxDown 1, .canStartOfFrame 3, .txcReq 0 2, .rdcUpdate .a 3 0 0, .acqTimeout .a 7,
    .invigilatorCut 11, .slotStart 255, .claimTimeout 15, .alignmentWindowExpiry (.gate 19) 255 none, .dinLevelAccepted .a 15 true 50,
    .vgdUv 2 0, .votedWordArrival .a (.edge 23) false none, .identify ⟨15, 15, 255, []⟩, .domainDown 11] : List Instr).all Instr.wf = true := by
  decide

/-! ### Hypotheses of the statements: queue, memory, sequencer -/

theorem wit_step : ∃ s : State, s.pending = [.bell [], .noHubStrobe] ∧ State.reset.pending = [] := ⟨{ State.reset with pending := [.bell [], .noHubStrobe] }, rfl, rfl⟩
theorem wit_memory : State.reset.dev.memsWf ∧ (∃ t, core.step State.reset = .next t) ∧ memWf [(3, 1)] = true ∧
    memWf (memSet [(3, 1)] 3 0) = true ∧ memWf (LaneSt.reset.setSig 0 (num 1)).mem = true := by
  refine ⟨⟨rfl, rfl, rfl, rfl⟩, ⟨_, rfl⟩, ?_, ?_, ?_⟩ <;> decide
/-- The results of one operation: signal word 0 is 1 from lane clock 40 on, or a field is staged. -/
def work (stage : List (Nat × DWord)) : Late :=
  ⟨8, 3, 40, if stage.isEmpty then memDiff [] (LaneSt.reset.setSig 0 (num 1)).mem else [], stage, none, [.payload 0]⟩
theorem wit_memoryLate :
    let q := { LaneSt.reset with seq := { LaneSt.reset.seq with late := [work []] } }
    q.seq.late = [work []] ∧ (work []).stage = [] ∧ (work []).coef = none ∧ (39 : Nat) < (work []).due ∧ (work []).due ≤ 40 ∧
    (q.settle false 39).sig 0 = sigZero ∧ (q.settle false 40).sig 0 = num 1 := by
  decide
/-- An entry 65 clocks late, one 64 clocks late that meets a busy unit, and one that meets a parity failure. -/
theorem wit_entryFaults :
    let g := img (ent 0 4 0) []
    let e := entryOf (ent 0 4 0)
    let late := fun (n m : Nat) => (dev g).onSeq .a (fun q => { q with last := some n, busy := [(4, m)] })
    clsIs 0 g e = true ∧ (∀ n ∈ [63, 64], ∀ m ∈ [64, 65], (late n m).boot.running = some g ∧ (late n m).entryAt .a = some e ∧ (late n m).runs .a = true) ∧
    (late 64 0).target .a e.offset + 64 < (late 64 0).dispatchAt .a e.offset ∧
    (late 63 0).dispatchAt .a e.offset ≤ (late 63 0).target .a e.offset + 64 ∧
    (late 63 65).dispatchAt .a e.offset < (lookupNat ((late 63 65).lane .a).seq.busy e.unit).getD 0 ∧
    (lookupNat ((late 63 64).lane .a).seq.busy e.unit).getD 0 ≤ (late 63 64).dispatchAt .a e.offset := by
  decide
theorem wit_sequencer : (∀ c ∈ [0, 1, 2, 3], (dev (img (ent c 4 0) [])).Ready .a (img (ent c 4 0) []) (entryOf (ent c 4 0)) ∧
      (entryOf (ent c 4 0)).cls = c) ∧
    ((img 0 []).mode ((entryOf (ent 2 4 0)).operand % 8)).isSome = true ∧ ((img 0 []).mode ((entryOf (ent 2 4 7)).operand % 8)).isSome = false := by
  unfold Dev.Ready
  decide
/-- The descriptor of a staging of field 0x030, instance 0, from signal 2. -/
def stagingDesc : List DWord := [0x0000000100000000, BitVec.ofNat 64 (pidOf 0x030 0 * 2 ^ 32), BitVec.ofNat 64 (2 * 2 ^ 49)]
theorem wit_staging :
    let g := { img (ent 3 4 0) stagingDesc with config := [⟨pidOf 0x030 0, false, 0⟩] }
    let d := (dev g).onSeq .a (fun q => { q with late := [work []] })
    let q := { LaneSt.reset with seq := { LaneSt.reset.seq with late := [work [(pidOf 0x030 0, 5)]] } }
    stagingGroup g 0 = pidOf 0x030 0 ∧ fieldHost g (pidOf 0x030 0) = false ∧ pidField (pidOf 0x030 0) ≠ 0x0F0 ∧
    groupMembers g (pidOf 0x030 0) = [pidOf 0x030 0] ∧ stagingSigs g 0 = [2] ∧
    d.runs .a = true ∧ (d.lane .a).seq.late.find? (fun x => x.unit == 8) = some (work []) ∧ (work []).groups = [.payload 0] ∧
    q.seq.late = [work [(pidOf 0x030 0, 5)]] ∧ (work [(pidOf 0x030 0, 5)]).cells = [] ∧ (work [(pidOf 0x030 0, 5)]).due ≤ 40 := by
  decide

/-! ### Signal operations -/

/-- A signal operation descriptor: OUT 0, A 1, B 2, C 3. -/
def opDesc (op imm : Nat) : List DWord :=
  [0, BitVec.ofNat 64 (op * 2 ^ 58 + 0 * 2 ^ 43 + 1 * 2 ^ 28 + 2 * 2 ^ 13), BitVec.ofNat 64 (3 * 2 ^ 49 + imm * 2 ^ 32)]
theorem wit_signalOps : ∀ op ∈ List.range 0x16, (rdy (ent 9 8 0) (opDesc op 0) []).Ready .a (img (ent 9 8 0) (opDesc op 0)) (entryOf (ent 9 8 0)) ∧
    (entryOf (ent 9 8 0)).cls = 9 ∧ (sigOpOf (img (ent 9 8 0) (opDesc op 0)) 0).op = op := by
  unfold Dev.Ready
  decide
/-- The words that the clauses tell apart. -/
theorem wit_signalWords :
    (num 1).st.valid = true ∧ dead.st.valid = false ∧ (sigExp (num 1) ≤ sigExp (num 2) + 39 ∧ sigExp (num 2) ≤ sigExp (num 1) + 39) ∧
    (num 1).mant ≠ 0 ∧ (num 0).mant = 0 ∧ dyLe (dyAbs (sigVal (num 2))) (dyAbs (sigVal (num 2))) = true ∧
    dyLe (dyAbs (sigVal (num 3))) (dyAbs (sigVal (num 2))) = false ∧
    sigExp ⟨0x40000000, 120, Status.ok⟩ + 7 ≤ 127 ∧ 127 < sigExp ⟨0x40000000, 120, Status.ok⟩ + 8 ∧
    sigExp ⟨0x40000000, 0x80, Status.ok⟩ + -1 < -128 ∧ -128 ≤ sigExp ⟨0x40000000, 0x80, Status.ok⟩ + 0 ∧
    sigLe (num 2) (num 2) = true ∧ sigLt (num 1) (num 2) = true ∧ sigLt (num 3) (num 2) = false ∧ sigLe (num 2) (num 3) = true := by
  decide
/-- Signal word 0 of lane A after a command and the deadline of its operation. -/
def result (c : Instr) (d : Dev) : SigWord :=
  match exec c (at_ d) with
  | .next t => ((t.dev.lane .a).settle false 100).sig 0
  | _ => dead
/-- 3 + 4 = 7, 7 in normal form: MANT 0x7000_0000, EXP 3 (R136, R151). -/
theorem test_add : result (.add .a false) (rdy (ent 9 8 0) (opDesc 1 0) [num 0, num 3, num 4]) = ⟨0x70000000, 3, Status.ok⟩ := by
  decide
/-- −5 limited to −2 to 4: −2 with LIMITED (R151). -/
theorem test_limit : result (.limit .a false) (rdy (ent 9 8 0) (opDesc 9 0) [num 0, num (-5), num (-2), num 4]) =
    { num (-2) with st := { Status.ok with limited := true } } := by
  decide
/-! ### Lookups, stages, loops, fields -/

/-- Values at each branch of R136: zero, inside the range, carried up by rounding, carried down to -2^30, saturated, too small; the words
are worked out by hand. -/
theorem wit_rounding : dyIsZero ⟨0, 7⟩ = true ∧ dyIsZero ⟨3, 0⟩ = false ∧
    (dyLe ⟨2 ^ 30, 2 - 31⟩ ⟨3, 0⟩ = true ∧ dyLt ⟨3, 0⟩ ⟨2 ^ 31, 2 - 31⟩ = true ∧ mkSig ⟨3, 0⟩ Status.ok = ⟨0x60000000, 2, Status.ok⟩) ∧
    (dyRoundAt ⟨2 ^ 33 - 1, 0⟩ (31 - 33) = 2 ^ 31 ∧ mkSig ⟨2 ^ 33 - 1, 0⟩ Status.ok = ⟨0x40000000, 34, Status.ok⟩) ∧
    (dyRoundAt ⟨-(2 ^ 32) - 1, 0⟩ (31 - 33) = -(2 ^ 30) ∧ mkSig ⟨-(2 ^ 32) - 1, 0⟩ Status.ok = ⟨0x80000000, 32, Status.ok⟩) ∧
    mkSig ⟨-(2 ^ 32) - 1, -161⟩ Status.ok = ⟨0xC0000000, 0x80, Status.ok⟩ ∧
    mkSig ⟨1, 127⟩ Status.ok = ⟨0x7FFFFFFF, 127, { Status.ok with limited := true }⟩ ∧
    mkSig ⟨1, -140⟩ Status.ok = ⟨0, 0, Status.ok⟩ := by decide +kernel

/-- LOOKUP_1D: X at 0, OUT at 1, two points 0 and 1 in the scale of X, values 0 and 2^30 as EXP 1 fractions. -/
def lutDesc : List DWord := [0, BitVec.ofNat 64 (0 * 2 ^ 49 + 1 * 2 ^ 34 + 2 * 2 ^ 25), 0, 0x4000000000000000]
theorem wit_lookups : (∀ v ∈ [num (-1), num 0, num 1, num 2],
      (rdy (ent 10 8 0) lutDesc [v]).Ready .a (img (ent 10 8 0) lutDesc) (entryOf (ent 10 8 0)) ∧ (entryOf (ent 10 8 0)).cls = 0x0A ∧
      ((rdy (ent 10 8 0) lutDesc [v]).lane .a).sig 0 = v) ∧
    dw ((img 0 lutDesc).desc 0 1) 33 25 = 2 ∧ dyLt (sigVal (num (-1))) dyZero = true ∧ dyLt (sigVal (num 0)) dyZero = false ∧
    dyLt (dyInt 1) (sigVal (num 1)) = false ∧ dyLt (dyInt 1) (sigVal (num 2)) = true ∧
    (rdy (ent 11 8 0) lutDesc []).Ready .a (img (ent 11 8 0) lutDesc) (entryOf (ent 11 8 0)) ∧ (entryOf (ent 11 8 0)).cls = 0x0B := by
  unfold Dev.Ready
  decide
/-- Classes of the stage, loop and field operations: ready entries. -/
theorem wit_fieldEntries : ∀ c ∈ [0x08, 0x0C, 0x10, 0x11, 0x12, 0x20, 0x21, 0x22, 0x35],
    (rdy (ent c 8 0) [0, 0, 0, 0x100000000, 0, 0] []).Ready .a (img (ent c 8 0) [0, 0, 0, 0x100000000, 0, 0]) (entryOf (ent c 8 0)) ∧
    (entryOf (ent c 8 0)).cls = c := by
  unfold Dev.Ready
  decide
/-- A stage of one section whose block at 0x10 ends below the signal memory; a loop that tracks, one whose feedback is limited, one with a
bumpless bank change, and one that only limits. -/
theorem wit_stageLoop :
    let g := img (ent 8 8 0) [0x0000000100000000, 0, 0x0000001000000000]
    (stageOf g 0).n = 1 ∧ (stageOf g 0).addr % 8 = 0 ∧ (stageOf g 0).addr + 8 + 8 * (stageOf g 0).n ≤ sigAddr (stageOf g 0).out ∧
    memWf (LaneSt.reset).mem = true ∧
    (let t := loopOf (img (ent 12 8 0) [0, 0, BitVec.ofNat 64 (2 ^ 49 + 2 ^ 43 + 2 * 2 ^ 28 + 2 ^ 27 + 2 ^ 26 + 2 ^ 25 + 2 ^ 24), 0]) 0
     t.trkEn = true ∧ t.fbEn = true ∧ t.intEn = true ∧ t.bankBl = true ∧ t.pol = true ∧ t.trkFlag = 1 ∧ t.fb = 2 ∧
     sigBit dead t.fbit = sigBit (num 1) t.fbit ∧ t.addr % 8 = 0 ∧ t.addr + 8 + 8 * t.sec + 4 ≤ sigAddr t.out) ∧
    dead.st.valid = false ∧ ({ num 1 with st := { Status.ok with limited := true } } : SigWord).st.limited = true ∧
    ({ LaneSt.reset with bankL := [0] } : LaneSt).bankL.contains 0 = true := by
  decide
theorem wit_stageBounds : ∃ (e lo hi : Int) (st : List (Int × Int)), lo ≤ e ∧ e ≤ hi ∧ st ≠ [] := ⟨-3, -3, 4, [(0, 0)], by decide⟩
/-- Two-level transforms: one three-phase set, no decoupling. -/
theorem wit_transforms : (4 : DWord).getLsbD 3 = false ∧ (4 : DWord).getLsbD 2 = true ∧ (0 : DWord).getLsbD 2 = false := by decide
/-- The cases of Table 9-5, FCU2: two latched legs, one latched leg with each reaction, none; STATE not VALID, 2 and 0; VDC 0 and 1. -/
theorem wit_modulation :
    let d := dev (img (ent 0x12 10 0) [0, 0, 0, 0, 0, 0])
    let q := d.lane .a
    let lat := fun (n : Nat) => { d with gd := { d.gd with pLatch := ((hbsOf 2).take n).map (fun h => (h, Side.high)) } }
    let re := fun (v : Int) => holds q 0x076 2 v
    let mute := { d with vot := { d.vot with groups := [⟨.edge 0, Tri.all [], Tri.all [], [], [], none, true⟩] } }
    let c := modCfg d q 2 (modPeriod d q 2 0)
    (entryOf (ent 0x12 10 0)).unit - 8 < q.fcu.length ∧ 1 < q.fcu.length ∧ ((img 0 [0, 0]).desc 0 1).getLsbD 3 = false ∧
    ((img 0 [0, 8]).desc 0 1).getLsbD 3 = true ∧ mute.unitSilent 0 = true ∧ d.react q 0 true = none ∧ d.unitSilent 0 = false ∧ d.unitSilent 1 = false ∧
    dyLe dyZero (dHi c) = true ∧ dyLe (dHi c) dyOne = true ∧
    d.react q 2 false = none ∧ (lat 2).react q 2 false = some (1, 1) ∧ (lat 1).react (re 1) 2 false = some (3, 1) ∧
    (lat 1).react (re 2) 2 false = some (3, 2) ∧
    carriesIn dead 0 3 = none ∧ carriesIn (num 3) 0 3 = some 3 ∧ carriesIn (num 1) 0 3 = some 1 ∧ carriesIn (num 0) 0 3 = some 0 ∧
    dyLe (sigVal (num 0)) dyZero = true ∧ dyLt dyZero (sigVal (num 1)) = true := by
  decide
/-- Compare writes: both phases of a channel of FCU2 and of a converter, every effective state, duty 0, 1 and not VALID, PROBE. -/
theorem wit_compare :
    let q := (dev (img 0 [])).lane .a
    let half := fun (f u : Nat) => holds q f u 1
    let eff := fun (n : Nat) => q.onFcu 2 (fun x => { x with eff := n })
    let run := (holds q 0x0A0 0 1).setSig 1 (num 0)
    let ch := fun (c p : Nat) => dw (BitVec.ofNat 64 (c * 2 ^ 43 + p * 2 ^ 42)) 48 43
    unitOfCh (ch 0 0) = 2 ∧ unitOfCh (ch 32 1) = 8 ∧ unitOfCh (ch 43 0) = 10 ∧ (BitVec.ofNat 64 (2 ^ 42) : DWord).getLsbD 42 = true ∧
    q.cfgInt 0x038 2 ≠ 1 ∧ (half 0x038 2).cfgInt 0x038 2 = 1 ∧ q.cfgInt 0x0A1 0 ≠ 1 ∧ (half 0x0A1 0).cfgInt 0x0A1 0 = 1 ∧
    (q.obsAt 2).lol ≠ .probe ∧ ({ ObsSt.reset with lol := .probe } : ObsSt).lol = .probe ∧ (∀ n ∈ [0, 1, 2, 3], ((eff n).fcuAt 2).eff = n) ∧
    q.fcuMaster 2 = 2 ∧ pcRuns (dev (img 0 [])) q 8 = false ∧ pcRuns (dev (img 0 [])) run 8 = true ∧
    dyRoundAt (dyMax dyZero (dyMin dyOne (sigVal (num 1)))) 24 = 2 ^ 24 ∧ dyRoundAt (dyMax dyZero (dyMin dyOne (sigVal (num (-1))))) 24 = 0 := by
  decide
theorem wit_posts :
    let d := dev (img 0 [])
    (∀ ch ∈ [0, 19], ((d.group (.gate ch)).flight.get .a).length ≤ 14) ∧ ((d.group (.edge 23)).flight.get .a).length ≤ 14 ∧
    (entryOf (ent 0x21 0x22 0)).unit = 0x22 ∧ (entryOf (ent 0x21 0x23 0)).unit = 0x23 ∧ (BitVec.ofNat 64 (2 ^ 49) : DWord).getLsbD (40 + 9) = true ∧
    lookupNat [(9, ((⟨0, 1, false⟩, ⟨8, 0, false⟩) : Ev × Ev))] 9 = some (⟨0, 1, false⟩, ⟨8, 0, false⟩) ∧
    d.gd.pLatch.any (fun x => x.1 == 9 || x.1 == 19) = false ∧ [((19 : Nat), Side.low)].any (fun x => x.1 == 9 || x.1 == 19) = true ∧
    (∀ n ∈ [1, 2, 3], carriesIn (num n) 1 3 = some n) ∧ carriesIn (num 4) 1 3 = none := by
  decide

/-! ### Position and measurement -/

theorem wit_positionEntries : ∀ x ∈ [(0x13, 0x10), (0x19, 0x1C), (0x1A, 0x1C), (0x18, 0x18), (0x1B, 0x20)],
    (dev (img (ent x.1 x.2 0) [0, 0, 0])).Ready .a (img (ent x.1 x.2 0) [0, 0, 0]) (entryOf (ent x.1 x.2 0)) ∧ (entryOf (ent x.1 x.2 0)).cls = x.1 ∧
    (entryOf (ent x.1 x.2 0)).unit = x.2 := by
  unfold Dev.Ready
  decide
theorem wit_observer :
    let g := img (ent 0x13 0x17 0) [0, 0, 0, 0x0002000000000000, 0, 0, 0]
    let idle := (dev g).onLane .a (fun q => { q with obs := q.obs.set 7 { ObsSt.reset with lol := .probe } })
    let d := withSigs idle [(0, num 0)]
    let q := d.lane .a
    let t := obsDescOf g 0
    (∀ l ∈ lanesAll, d.hubQueueFull l = false) ∧ 7 < q.obs.length ∧ (q.obsAt 7).lol = .probe ∧ d.runs .a = true ∧ t.lolEn = false ∧
    d.img.observer 7 = some t ∧ carriesIn (q.sig t.stateIn) 0 3 = some 0 ∧ usable q t (q.obsAt 7) = false ∧
    carriesIn ((idle.lane .a).sig t.stateIn) 0 3 = none ∧
    ({ ObsSt.reset with lol := .failed } : ObsSt).lol = .failed ∧ ObsSt.reset.lol = .normal := by
  decide
theorem wit_resolver :
    let d := dev (img 0 [])
    let q := d.lane .a
    3 < q.rdc.length ∧ q.seq.phase ≠ .off ∧ d.boot.released = true ∧ Dev.reset.boot.released = false ∧ ampBad q .a 3 0 0 = true ∧
    ({ d with gd := { d.gd with pExc := [1] } } : Dev).gd.pExc.contains (3 / 2) = true ∧
    ({ RdcSt.reset with fault := true, good := 15 } : RdcSt).fault = true := by
  decide
/-- Three different signals, an encoder input in quadrature, in Hall and off, at standstill and with its first Z edge to come. -/
theorem wit_encoder :
    let w : DWord := BitVec.ofNat 64 (3 * 2 ^ 62 + 0 * 2 ^ 47 + 1 * 2 ^ 32 + 2 * 2 ^ 17)
    let q := (dev (img 0 [])).lane .a
    let mode := fun (v : Int) => holds q 0x056 3 v
    dw w 63 62 = 3 ∧ 3 < q.enc.length ∧ dw w 61 47 ≠ dw w 46 32 ∧ dw w 61 47 ≠ dw w 31 17 ∧ dw w 46 32 ≠ dw w 31 17 ∧
    memWf q.mem = true ∧ (mode 0).cfgInt 0x056 3 = 0 ∧ (mode 1).cfgInt 0x056 3 = 1 ∧ (mode 2).cfgInt 0x056 3 = 2 ∧
    EncSt.reset.zSeen = false ∧ ({ EncSt.reset with still := true } : EncSt).still = true ∧
    dyLt ⟨5 * (1 : Int), -2⟩ (q.cfgDy 0x058 3) = true ∧ dyLt ⟨5 * (1000000 : Int), -2⟩ (q.cfgDy 0x058 3) = false ∧
    hallSector false false false = none ∧ (hallSector true false false).isSome = true := by
  decide
theorem wit_sample :
    (img 0 [0x0000000100000000]).descCount 0 = 1 ∧ (entryOf (ent 0x18 0x1B 0)).unit - 0x18 = 3 ∧ memWf LaneSt.reset.mem = true := by decide
theorem wit_discrete :
    let w := fun (sel item : Nat) => (BitVec.ofNat 64 (sel * 2 ^ 62 + item * 2 ^ 43) : DWord)
    let q := (dev (img 0 [])).lane .a
    let lci := fun (v : Int) => holds q 0x085 0 v
    dw (w 0 0) 63 62 = 0 ∧ dw (w 1 0) 63 62 = 1 ∧ dw (w 3 11) 63 62 = 3 ∧ dw (w 3 11) 46 43 = 11 ∧ dw (w 2 12) 46 43 = 12 ∧ dw (w 2 13) 46 43 = 13 ∧
    q.seq.phase ≠ .off ∧ (lci 1).cfgInt 0x085 0 = 1 ∧ (lci 2).cfgInt 0x085 0 = 2 ∧ (lci 3).cfgInt 0x085 0 = 3 ∧ q.cfgInt 0x085 0 = 0 ∧
    dyLe (q.cfgDy 0x084 15) (dyInt 4000) = true ∧ dyLe (q.cfgDy 0x084 15) (dyInt 0) = false := by
  decide

/-! ### Roll call -/

/-- Three words in order, within the band of the middle and outside it; two equal discrete words; fewer than two candidates. -/
theorem wit_rollCallPick :
    sigLe (num 1) (num 2) = true ∧ sigLe (num 2) (num 9) = true ∧
    inBand (sigVal (num (-1))) (sigVal (num 1)) (dySub (sigVal (num 1)) (sigVal (num 2))) = true ∧
    inBand (sigVal (num (-1))) (sigVal (num 1)) (dySub (sigVal (num 9)) (sigVal (num 2))) = false ∧
    ([] : List (Lane × SigWord)).length < 2 := by
  decide
theorem wit_rollCall :
    let g := img (ent 0x28 8 0) [0x0000000100000000, 0]
    let e := entryOf (ent 0x28 8 0)
    let d := { dev g with vot := { (dev g).vot with liveFc := lanesAll } }
    let d1 := d.begun .a g e
    let d2 := d1.begun .b g e
    d.Ready .a g e ∧ d1.Ready .b g e ∧ d2.Ready .c g e ∧
    (∀ l ∈ lanesAll, d.entryAt l = some e ∧ d.isLive l = true ∧ (d.lane l).seq.offMed = 0 ∧ d.hubQueueFull l = false) ∧
    e.cls = 0x28 ∧ d.vot.liveFc = lanesAll ∧ g.descCount 0 = 1 := by
  unfold Dev.Ready
  decide
/-- The partner's word is stale or not VALID; within the band of the own word and outside it, with each substitute code. -/
theorem wit_pairRollCall :
    let g := { img (ent 0x29 8 0) [0x0000000100000000, 0x0002000000000000] with sigmap := List.replicate 2 ⟨sigZero, 1, true, false, false, 0, 0⟩ }
    let d := fun (v : Int) (code : Int) => (withSigs (dev g) [(0, num v), (1, num 1)]).onLanes (fun q =>
      { q with cfg := [field (pidOf 0x010 0) (valOfSig (num (-1))) none, field (pidOf 0x011 0) (valOfSig (num 1)) none, field (pidOf 0x012 0) (valOfInt code) none] })
    let near := fun (x : Dev) => inBand ((x.lane .a).cfgDy 0x010 0) ((x.lane .a).cfgDy 0x011 0)
      (pairDiff (g.sigD 0) ((x.lane .a).sig 1) ((x.lane .a).sig 0))
    (dev g).Ready .a g (entryOf (ent 0x29 8 0)) ∧ (entryOf (ent 0x29 8 0)).cls = 0x29 ∧ g.descCount 0 = 1 ∧ dead.st.valid = false ∧
    near (d 2 0) = true ∧ near (d 3 0) = false ∧ (∀ code ∈ [0, 1, 2], ((d 3 code).lane .a).cfgInt 0x012 0 = code) ∧
    memWf ((d 3 0).lane .a).mem = true := by
  unfold Dev.Ready
  decide +kernel
/-! ### Payloads, safety demand, digest, voters -/

theorem wit_payload :
    (∀ c ∈ [0x30, 0x31, 0x34, 0x38], (dev (img (ent c 8 0) [0, 0, 0, 0])).Ready .a (img (ent c 8 0) [0, 0, 0, 0]) (entryOf (ent c 8 0)) ∧
      (entryOf (ent c 8 0)).cls = c) ∧
    (let d := dev (img 0 [])
     d.hubUp = true ∧ { d with pwr := { d.pwr with hubLost := true } }.hubUp = false ∧ d.dcqFill .a (.payload 0) < 32 ∧
     d.dcqFill .a .safetyA < 16 ∧ d.dcqFill .a .safetyB < 16 ∧ (∀ k ∈ [0, 1], d.dcqFill .a (.digest k) ≤ 13)) := by
  unfold Dev.Ready
  decide
theorem wit_elements : ∃ a b : PayElem, a.width = 3 ∧ a.byte = 0 ∧ b.width < 3 ∧ b.byte = 0 ∧ b.signed = true :=
  ⟨⟨0, 0, 3, false⟩, ⟨0, 0, 2, true⟩, by decide⟩
/-- Takes: a fresh, a stale and no bank; the hub lost; a lane object newly read. -/
theorem wit_payloadTake :
    let g := img (ent 0x31 8 0) [0x0000000200000000, BitVec.ofNat 64 (1 * 2 ^ 46), BitVec.ofNat 64 (5 * 2 ^ 17)]
    let c := img (ent 0x31 8 0) [0x0000000200000000, BitVec.ofNat 64 (1 * 2 ^ 62 + 1 * 2 ^ 46), 0, BitVec.ofNat 64 (5 * 2 ^ 17)]
    let d := fun (fr : Bool) (n : Nat) => ({ dev g with net := { (dev g).net with banks := [⟨0, none, List.replicate n 0, fr⟩] } } : Dev)
    (payOf g 0).elems = [⟨5, 0, 0, false⟩] ∧ (payOf g 0).can = false ∧ memWf ((dev g).lane .a).mem = true ∧
    ((d true 2).net.banks.find? (fun b => b.key == (payOf g 0).slot)) = some ⟨0, none, [0, 0], true⟩ ∧ (payOf g 0).len ≤ [(0 : Byte), 0].length ∧
    ((d false 1).net.banks.find? (fun b => b.key == (payOf g 0).slot)) = some ⟨0, none, [0], false⟩ ∧ [(0 : Byte)].length < (payOf g 0).len ∧
    ((dev g).net.banks.find? (fun b => b.key == (payOf g 0).slot)) = none ∧ 0 < (payOf g 0).len ∧
    (payOf c 0).can = true ∧ (payOf c 0).idSig = 0 ∧ (payOf c 0).tsSig = 0 ∧ (payOf c 0).elems = [⟨5, 0, 0, false⟩] ∧
    (([⟨0, none, 0, some ⟨0, 0, 0, [1, 2]⟩, 1⟩] : List CanRx).find? (fun r => r.obj == (payOf c 0).filt)).isSome = true ∧
    (lookupNat ((dev g).lane .a).takes 0).map (·.2) ≠ some 1 := by
  decide
/-- A word of TAG 3 for the gate group of HB0, and the group that holds it for some lanes and in flight from others. -/
def wrd (v : Nat) : VWord := { tag := 3, launch := 5000, fine := 0, item := 0, value := BitVec.ofNat 24 v, data := [] }
def grp (fl : Tri (List VWord)) (q : Tri (List VWord)) (dec : List (BitVec 8 × Nat × Option VWord)) : Dev :=
  let d := dev (img 0 [])
  { d with vot := { d.vot with groups := [{ g := .gate 0, flight := fl, queue := q.map (fun l => l.map (fun w => ⟨w, true, 0, false⟩)), decided := dec, named := [],
                                            held := none, silent := false }] } }
theorem wit_arrival :
    let g := Group.gate 0
    let q : QWord := ⟨wrd 1, true, 0, false⟩
    let d := grp ⟨[wrd 1], [], []⟩ ⟨[], [], []⟩ []
    let late := grp ⟨[wrd 1], [], []⟩ ⟨[], [], []⟩ [(3, 0, none)]
    let twice := grp ⟨[wrd 1], [], []⟩ ⟨[wrd 1], [], []⟩ []
    (∀ x ∈ [d, late, twice], (x.group g).flight.get .a = [wrd 1] ∧ (x.group g).queue.get .b = [] ∧ (x.group g).queue.get .c = []) ∧
    (d.group g).queue.get .a = [] ∧ (d.group g).decided = [] ∧ queueFits g [] (wrd 1) = true ∧ d.liveAt g .b = true ∧ groupLead g = some 320 ∧
    d.gt + 320 ≤ gtAhead d.gt (wrd 1).launch ∧ (late.group g).queue.get .a = [] ∧ (late.group g).decided.any (fun e => e.1 == 3) = true ∧
    (twice.group g).queue.get .a = [q] ∧ queueFits g [q] (wrd 1) = true ∧ twice.liveAt g .b = true ∧
    twice.gt ≤ (twice.group g).forced (twice.liveFor g) 3 0 ∧ (twice.group g).deadline (twice.liveFor g) 3 = some 4680 ∧ twice.gt ≤ 4680 ∧
    (d.group g).first (d.liveFor g) 3 = none ∧ queueFits g (List.replicate 16 q) (wrd 1) = false := by
  decide
theorem wit_outIndication :
    let d := dev (img 0 [])
    let out := d.onSeq .b (fun q => { q with phase := .out })
    let off := d.onSeq .b (fun q => { q with phase := .off })
    out.phase .b = .out ∧ off.phase .b = .off ∧ out.vot.groups = [] ∧ d.phase .b ≠ .out ∧ d.phase .b ≠ .off := by
  decide
/-- Three equal words, two and one, and three that differ. -/
theorem wit_verdict :
    let g := Group.gate 0
    let same := grp ⟨[], [], []⟩ ⟨[wrd 1], [wrd 1], [wrd 1]⟩ []
    let two := grp ⟨[], [], []⟩ ⟨[wrd 1], [wrd 2], [wrd 1]⟩ []
    let none_ := grp ⟨[], [], []⟩ ⟨[wrd 1], [wrd 2], []⟩ []
    let q : QWord := ⟨wrd 1, true, 0, false⟩
    (∀ d ∈ [same, two, none_], (d.group g).first lanesAll 3 = some q ∧ (d.group g).deadline lanesAll 3 = some 4680 ∧
      (∀ l ∈ lanesAll, d.isLive l = true ∧ d.liveAt g l = true)) ∧
    (∀ l ∈ lanesAll, countedWord (same.group g) 3 l = some (wrd 1)) ∧ same.shut g = false ∧ 0 < same.gd.hb.length ∧
    ({ same with vot := { same.vot with dead := true } } : Dev).shut g = true ∧
    countedWord (two.group g) 3 .a = some (wrd 1) ∧ countedWord (two.group g) 3 .c = some (wrd 1) ∧
    countedWord (two.group g) 3 .b = some (wrd 2) ∧ countedWord (none_.group g) 3 .b = some (wrd 2) ∧
    countedWord (none_.group g) 3 .c = none ∧ canSilence g = true := by
  decide
/-- Two equal words of three are released, the third lane goes out with cause 0x9 (R98). -/
theorem test_verdict : (match exec (.alignmentWindowExpiry (.gate 0) 3 none) (at_ (grp ⟨[], [], []⟩ ⟨[wrd 1], [wrd 2], [wrd 1]⟩ [])) with
    | .next t => (t.dev.phase .b, (t.dev.lane .b).seq.cause, (t.dev.hb 0).evq.length) | _ => (.live, 0, 0)) = (.out, 9, 1) := by
  decide
/-! ### Gate drive and edge links -/

/-- HB19 of a device with its gate supplies, changed by f. -/
def hbDev (f : HbSt → HbSt) : Dev := (dev (img 0 [])).onHb 19 f
def onSw (on armed blanked : Bool) (latch : List LatchCause) : Switch := { Switch.reset with on := on, armed := armed, blanked := blanked, latch := latch }
/-- Events of each leg, a pending turn-on of a switch that may turn on, is latched, or lacks its bootstrap. -/
theorem wit_gate :
    let d := hbDev (fun h => { h with evq := [⟨800, 1, false⟩], pend := some (.high, 900), hi := onSw false false false [], bsLow := false })
    19 < d.gd.hb.length ∧ (d.hb 19).evq = [⟨800, 1, false⟩] ∧ d.gd.diag = [] ∧ (d.isActive && d.gdUp 19) = true ∧
    ({ d with pair := { d.pair with role := .init } }.isActive && d.gdUp 19) = false ∧ (d.hb 19).pend = some (.high, 900) ∧
    ((d.hb 19).sw .high).latch = [] ∧ (d.hb 19).bsLow = false ∧ HbSt.reset.bsLow = true ∧ (onSw false false false [.vds]).latch ≠ [] ∧
    { d with pwr := { d.pwr with good := 0 } }.gdUp 19 = false ∧
    d.realised 800 = some (800 * 2 ^ 29) ∧ { d with pwr := { d.pwr with good := 0xFF3 } }.realised 800 = none := by
  decide
/-- A held turn-on of HB19's high side whose opposite switch went off 1 ms ago, and one whose opposite switch went off just now. -/
theorem wit_interlock :
    let d := fun (off : Nat) (bs : Bool) => { hbDev (fun h => { h with pend := some (.high, 900), hold := true, lo := { h.lo with offAt := off }, bsLow := bs }) with
      time := { (dev (img 0 [])).time with gt := 1000 } }
    let now := fun (x : Dev) => (x.toGt (ceilDiv 900 8)).fineNow
    (∀ x ∈ [d 0 true, d 8000 true, d 8000 false], (x.hb 19).pend = some (.high, 900) ∧ ((x.hb 19).sw .high).latch = [] ∧ x.gdUp 19 = true ∧ (x.hb 19).hold = true) ∧
    ((d 0 true).hb 19).stuckAt .high ≤ now (d 0 true) ∧ now (d 8000 true) < ((d 8000 true).hb 19).stuckAt .high ∧
    ((d 8000 true).hb 19).bsLow = true ∧ ((d 8000 false).hb 19).bsLow = false ∧ (2000 : Nat) ≤ 2000 ∧ (2000 : Nat) < 2001 := by
  decide
theorem wit_protection :
    let d := hbDev (fun h => { h with hi := onSw true true true [], bsAt := some 0, bsUv := true })
    ((d.hb 19).sw .high).on = true ∧ ((d.hb 19).sw .high).armed = true ∧ ((d.hb 19).sw .high).blanked = true ∧ (d.hb 19).bsAt = some 0 ∧
    (d.hb 19).bsUv = true ∧ (onSw true false false []).armed = false ∧ (onSw true false false []).blanked = false ∧ Switch.reset.on = false := by
  decide
/-- Supplies at 8,999, 9,000, 9,500 and 9,501 mV; diagnostics that pass at the limit, fail, lack supply, and end. -/
theorem wit_supply :
    let d := fun (st res : Nat) => ({ dev (img 0 []) with gd := { GdSt.reset with diag := [⟨2, st, none, false, 0, res, 0⟩] } } : Dev)
    (d 1 0).gd.hb.length = 20 ∧ (d 1 0).gd.diag = [⟨2, 1, none, false, 0, 0, 0⟩] ∧ (d 6 2).gd.diag = [⟨2, 6, none, false, 0, 2, 0⟩] ∧ (d 1 0).gd.diagQ = [] ∧
    8999 < 9000 ∧ 9000 ≤ 9000 ∧ 9500 ≤ 9500 ∧ 9500 < 9501 ∧ (∀ v ∈ [10000, 10000, 10000], 10000 ≤ v) ∧
    (∀ i < 3, 10 * [8000, 8000, 0].getD i 0 ≤ 8 * [10000, 10000, 10000].getD i 0) ∧ 8 * [10000].getD 0 0 < 10 * [8001].getD 0 0 ∧
    [9999, 0, 0].getD 0 0 < 10000 := by
  decide
/-- 8.9 V on bank 2 latches HB19 and leaves HB0 (R231). -/
theorem test_vgdUv : (match exec (.vgdUv 2 8900) (at_ (hbDev (fun h => { h with hi := onSw true false false [] }))) with
    | .next t => ((t.dev.hb 19).hi.on, (t.dev.hb 19).hi.latch, (t.dev.hb 0).hi.latch) | _ => (true, [], [])) = (false, [.vgdUv], []) := by
  decide
/-- A link whose turn it is to send each frame, and one that hears a remote without SEL. -/
theorem wit_edge :
    let d := dev (img 0 [])
    let x := LinkSt.reset
    let e : EdgeEv := { t := 8, ev := false, ch := 0, leg := 1, rep := none }
    d.time.run = true ∧ d.edgeHiZ = false ∧ Dev.reset.time.run = false ∧ Dev.reset.edgeHiZ = true ∧ ({ x with evq := [e] } : LinkSt).ready 0 = [e] ∧ x.ready 0 = [] ∧
    ({ x with txLane := .b } : LinkSt).txLane ≠ d.lowLane ∧ x.txLane = d.lowLane ∧ d.boot.stage ≠ 0 ∧
    (d.link 0).hbNext % 3200 = 0 ∧ d.edge.length = 2 ∧ d.linkSends 1 = true ∧ d.domUp 11 = true ∧ d.liveLanes ≠ [] ∧
    ({ x with hbDue := true } : LinkSt).hbDue = true ∧ x.hbDue = false ∧ x.syncDue = false ∧ ({ x with syncDue := true } : LinkSt).syncDue = true ∧
    x.evq = [] ∧ ({ x with cmdq := [4095] } : LinkSt).cmdq = [4095] ∧ x.rxDown = false ∧ d.isActive = true ∧ d.isLive x.txLane = true ∧
    ({ x with t1 := some 8 } : LinkSt).t1 = some 8 := by
  decide
/-- A STATUS frame of zeros with or without SEL and its CRC, one of another length, and one with a code error. -/
def statusBytes (sel : Bool) : List Byte :=
  let l : List Byte := 0x81 :: (if sel then 0x80 else 0) :: List.replicate 41 0
  let c := (crc16 l).toNat
  l ++ [BitVec.ofNat 8 (c / 256), BitVec.ofNat 8 c]
theorem wit_statusFrames : (∀ b ∈ [true, false], (statusOf false (statusBytes b)).map (·.sel) = some b) ∧
    statusOf true (statusBytes true) = none ∧ statusOf false (0 :: statusBytes true) = none ∧
    statusOf false ((statusBytes true).take 44 ++ [0]) = none := by
  decide +kernel

/-! ### The network -/

/-- A ring member whose table has one slot: number 3 of node TX on the given ports, from 1,000 for 400 GT units; W 64, hop 100, recess from
100,000. -/
def netDev (ports tx : Nat) : Dev :=
  let g := { img 0 [] with rateLimit := 1, nets := [⟨64, 100, 0, 100000, [⟨1000, 400, ports, 3, tx, 64, 1⟩]⟩] }
  let d := dev g
  { d with net := { d.net with ring := .member, sending := true, synced := true } }
def netSlot (ports tx : Nat) : SlotRec := ⟨1000, 400, ports, 3, tx, 64, 1⟩
def pay (timed : Bool) (act : Option (BitVec 64)) : TxPay := ⟨0, 1000, timed, act, [7]⟩
theorem wit_slotSend :
    let d := netDev 4 0
    let g := { img 0 [0x0000000100000000, BitVec.ofNat 64 (3 * 2 ^ 54)] with rateLimit := 1 }
    let mine := fun (q : TxPay) => !(payOf g q.desc).can && (payOf g q.desc).slot == 3 && decide (q.launch.toNat = d.time.bellGt.toNat + 1000)
    d.boot.running.isSome = true ∧ d.slotRec 3 = some (netSlot 4 0) ∧ d.hubUp = true ∧ (netSlot 4 0).txNode = d.nodeId ∧
    (netSlot 4 0).ring = false ∧ (netSlot 4 0).pair = false ∧ (netSlot 4 0).portList = [.star 0] ∧ (netSlot 1 0).ring = true ∧ d.net.txq = [] ∧
    (∀ q ∈ [pay false none, pay true none, pay true (some 160999), pay true (some 161000)], mine q = true) ∧
    (160999 : BitVec 64).toNat < 1000 + d.tn ∧ 1000 + d.tn ≤ (161000 : BitVec 64).toNat ∧
    d.net.ring = .member ∧ d.net.sending = true ∧ d.net.east.up = true ∧ d.net.west.wrapped = false := by
  decide
/-- A direct copy from node 5, sealed. -/
def frame (node : Nat) : BtnFrame :=
  btnSeal { ver := 1, type := 1, nodeId := node, slot := 3, dir := false, wrap := false, active := true, cycle := 0, modeCur := 0, req := false, switch := false,
            nak := false, reqMode := 0, reqNode := 0, reqSeq := 0, switchCycle := 0, txTime := 1000, actTime := 0, payload := [1, 2], seq := 9,
            e2eCrc := 0, fcsOk := true }
theorem wit_ringFrame :
    let d := netDev 1 5
    let f := frame 5
    let off : Int := d.hops f.nodeId f.dir * d.hopDelay
    d.time.run = true ∧ d.slotRec f.slot = some (netSlot 1 5) ∧ (netSlot 1 5).ring = true ∧ f.nodeId ≠ d.nodeId ∧ f.type = 1 ∧ f.wrap = false ∧
    d.hubUp = true ∧ d.offRing = false ∧ f.ver = 1 ∧ f.req = false ∧ f.nak = false ∧ d.net.seenTx = [] ∧ d.net.west.up = true ∧ d.net.west.wrapped = false ∧
    f.fcsOk = true ∧ f.e2eCrc = btnCrc f ∧ f.nodeId = (netSlot 1 5).txNode ∧ f.payload.length ≤ 64 ∧ d.mutedRing 5 = false ∧ d.net.ring = .member ∧
    d.net.req = none ∧ d.net.rx = [] ∧
    (∀ x ∈ [(360 : Int), 424], ((x + off + 640) - (d.slotNear (netSlot 1 5) (x + off + 640) off + off)).natAbs ≤ d.window) ∧
    (∀ x ∈ [(295 : Int), 425], d.window < ((x + off + 640) - (d.slotNear (netSlot 1 5) (x + off + 640) off + off)).natAbs) ∧
    { f with fcsOk := false }.fcsOk = false := by
  decide +kernel
theorem wit_window :
    let d := netDev 4 5
    let f := frame 5
    let start := d.slotNear (netSlot 4 5)
    d.slotRec f.slot = some (netSlot 4 5) ∧ (netSlot 4 5).star 0 = true ∧ (d.star 0).muted = false ∧ f.payload.length ≤ 256 ∧ (netSlot 4 5).txNode ≠ d.nodeId ∧
    d.netTable.isSome = true ∧ (935 : Int) < start 935 0 - d.window ∧ start 1065 0 + d.window < (1065 : Int) ∧
    start 936 0 - d.window ≤ (936 : Int) ∧ (1064 : Int) ≤ start 1064 0 + d.window ∧ ((netSlot 1 5).ring || (netSlot 1 5).pair) = true ∧
    ([⟨3, some (9, 0, 1000), 1⟩] : List SlotRx).find? (fun x => x.slot == 3) = some ⟨3, some (f.seq, f.cycle, 1000), 1⟩ := by
  decide +kernel
theorem wit_modeTimeout :
    let d := { netDev 4 5 with net := { (netDev 4 5).net with req := some ⟨1, 0, 1, true, 8, some 1, none, false⟩ } }
    d.net.req = some ⟨1, 0, 1, true, 8, some 1, none, false⟩ ∧ d.standalone = false ∧ (7 : Nat) < 8 := by decide
/-- The gate of star port 0 at the slot's start less W, one unit before it, and in the recess. -/
theorem wit_invigilator :
    let d := netDev 4 5
    d.net.stars.length = 12 ∧ d.openSlot 0 936 = some (netSlot 4 5) ∧ d.openSlot 0 935 = none ∧ d.inRecess 935 = false ∧ d.openSlot 0 100000 = none ∧
    d.inRecess 100000 = true ∧ (d.star 0).muted = false ∧ lookupNat [(0, 1464)] 0 = some 1464 ∧ (11 : Nat) < 12 := by
  decide
/-- A recess with one frame that fits, one that does not; a port without a GT; queues with and without room. -/
theorem wit_ringPorts :
    let d := netDev 1 5
    let off := { d with time := { d.time with run := false } }
    let q := { d with net := { d.net with recess := [⟨false, [.ringE], [1, 2], .mgmt⟩] } }
    let full := { d.net with hostRx := [(.mgmt, List.replicate 16384 0)] }
    off.time.run = false ∧ off.standalone = false ∧ off.net.east.wrapped = false ∧ d.time.run = true ∧ d.hubUp = true ∧
    q.net.recess = [⟨false, [.ringE], [1, 2], .mgmt⟩] ∧ recessGt .ringE 2 ≤ d.recessLen ∧ recessGt .ringE 60000 > d.recessLen ∧
    recessGt .ringW 1514 ≤ d.recessLen ∧ d.net.roomFor false 1514 = true ∧ full.roomFor false 1 = false ∧ d.net.roomFor true 65536 = true ∧
    d.net.roomFor true 65537 = false := by
  decide +kernel
theorem wit_ringStart :
    let d := netDev 1 5
    let st := fun (r : RingState) (h : List (Nat × Bool × Nat)) (b : Bool) =>
      ({ d with net := { d.net with ring := r, heard := h }, time := { d.time with belled := b } } : Dev)
    let cold := { st .listen [] false with mgmt := { d.mgmt with next := [⟨pidOf 0x0B2 0, true, valOfInt 1, none, 0, []⟩] } }
    cold.net.ring = .listen ∧ cold.net.heard = [] ∧ cold.coldCapable = true ∧ cold.time.belled = false ∧ cold.net.east.up = true ∧
    d.coldCapable = false ∧ (st .backoff [(5, true, 0)] true).net.heard = [(5, true, 0)] ∧ d.net.ring ≠ .listen ∧ d.net.ring ≠ .backoff ∧
    d.standalone = false ∧ 5 ≠ d.nodeId ∧ d.offRing = false ∧ d.mutedRing 5 = false ∧ (st .listen [] true).time.belled = true ∧
    (st .coldstart [] false).net.ring = .coldstart ∧ ({ d with net := { d.net with heardAt := some 5 } } : Dev).net.heardAt = some 5 ∧ d.net.heardAt = none ∧
    (dev (img 0 [])).standalone = true ∧ (st .coldstart [] false).gt < d.tn ∧ d.net.ring = .member ∧
    d.time.syncLost = false := by
  decide

/-! ### CAN FD -/

def canDev (f : CanSt → CanSt) : Dev := (dev (img 0 [])).onCan 3 f
def cbuf (abort : Bool) (coll : Nat) : CanBuf := { CanBuf.reset with req := true, abort := abort, coll := coll }
theorem wit_canControl :
    let d := canDev (fun c => { c with init := false, bus := 0 })
    let off := canDev (fun c => { c with laneOwn := true, bus := 2, boRec := true, init := false, job := some 1 })
    d.hubUp = true ∧ d.can.length = 4 ∧ (d.chan 3).bufs.length = 3 ∧ (d.chan 3).laneOwn = false ∧ (d.chan 3).init = false ∧ CanSt.reset.init = true ∧
    (0x0F000000 : Word).getLsbD 31 = false ∧ bits (0x0F000000 : Word).toNat 27 24 ≠ 0 ∧ (0x80000000 : Word).getLsbD 31 = true ∧
    (0x80000000 : Word).getLsbD 30 = false ∧ (d.chan 3).sending = none ∧ ({ CanSt.reset with sending := some (0, 0) } : CanSt).sending ≠ none ∧
    ((d.chan 3).buf 2).req = false ∧ (cbuf false 0).req = true ∧ (off.chan 3).boRec = true ∧ (off.chan 3).bus = 2 ∧ (off.chan 3).job = some 1 ∧
    (off.chan 3).laneOwn = true ∧ CanSt.reset.bus = 3 ∧ (d.chan 3).tec < 256 ∧ (d.chan 3).bus < 2 := by
  decide
theorem wit_canRecover :
    let d := canDev (fun c => { c with laneOwn := true, bus := 2 })
    d.Serves ⟨0, 1, 7, [3]⟩ 0x0801 ∧ argOf ⟨0, 1, 7, [3]⟩ 0 = 3 ∧ (d.chan 3).laneOwn = true ∧ (d.chan 3).bus = 2 ∧ (d.chan 3).job = none := by
  unfold Dev.Serves
  decide
theorem wit_canSending :
    let d := canDev (fun c => { c with init := false, bus := 0, bufs := [CanBuf.reset, cbuf false 0, cbuf true 2], sending := some (2, 100) })
    let c := d.chan 3
    (({ c with sending := none } : CanSt).canSend = true) ∧ CanSt.reset.canSend = false ∧ (c.buf 1).req = true ∧ c.sending = some (2, 100) ∧
    busOf 127 127 = c.bus ∧ (127 : Nat) < 256 ∧ c.initReq = false ∧ (c.buf 2).repl = none ∧ (c.buf 2).abort = true ∧ (c.buf 1).abort = false ∧
    c.collLim ≤ (c.buf 2).coll + 1 ∧ (c.buf 1).coll + 1 < c.collLim ∧ c.bus < 2 ∧ CanSt.reset.sending = none ∧ d.isActive = true := by
  decide
theorem wit_canEntry :
    let g := img 0 [0x0000000200000000, BitVec.ofNat 64 (1 * 2 ^ 62 + 3 * 2 ^ 60 + 2 * 2 ^ 58), 0]
    let d := { dev g with net := { (dev g).net with txq := [pay false none] } }
    (payOf g 0).can = true ∧ (payOf g 0).chan = 3 ∧ (payOf g 0).buf = 2 ∧ d.net.txq.find? (fun p => p.desc == 0) = some (pay false none) := by
  decide
def canFrame : CanFrame := { ide := false, rtr := false, fdf := false, id := 5, dlc := 0, brs := false, esi := false, data := [], sof := 0, res := false }
/-- A filter that takes (or, with bit 30, discards) the frame of identifier 5. -/
def filt5 (discard : Bool) : Word × Word := (BitVec.ofNat 32 (2 ^ 31 + (if discard then 2 ^ 30 else 0) + 5), 0x1FFFFFFF)
def fils (l : List (Word × Word)) : List (Word × Word) := l ++ List.replicate (32 - l.length) (0, 0)
theorem wit_canReceiving :
    let base := fun (c : CanSt) => { c with bus := 0, filts := fils [(0, 0), filt5 false, filt5 true] }
    let d := canDev base
    let hpd := canDev (fun c => { base c with hpFilt := filt5 false })
    let lost := canDev (fun c => { base c with hpFilt := filt5 false, hp := some (frameObj canFrame 1) })
    let none_ := canDev (fun c => { base c with filts := fils [] })
    let disc := canDev (fun c => { base c with filts := fils [filt5 true] })
    let full := canDev (fun c => { base c with fifo := List.replicate 16 (frameObj canFrame 1) })
    let lane := canDev (fun c => { base c with laneOwn := true })
    let hits := fun (d : Dev) (i : Nat) => filtMatch ((d.chan 3).filts.getD i (0, 0)) canFrame
    d.hubUp = true ∧ d.can.length = 4 ∧ (d.chan 3).bus < 2 ∧ busOf (d.chan 3).tec 0 = (d.chan 3).bus ∧ (d.chan 3).tec < 256 ∧
    (hpd.chan 3).laneOwn = false ∧ filtMatch (hpd.chan 3).hpFilt canFrame = true ∧ (hpd.chan 3).hp = none ∧ (lost.chan 3).hp ≠ none ∧
    filtMatch (d.chan 3).hpFilt canFrame = false ∧ (∀ k : Fin 32, hits none_ k.val = false) ∧ hits d 1 = true ∧ hits d 0 = false ∧
    ((d.chan 3).filts.getD 1 (0, 0)).1.getLsbD 30 = false ∧ (d.chan 3).fifo.length < 16 ∧ 16 ≤ (full.chan 3).fifo.length ∧ hits full 1 = true ∧
    hits disc 0 = true ∧ ((disc.chan 3).filts.getD 0 (0, 0)).1.getLsbD 30 = true ∧ (lane.chan 3).laneOwn = true ∧ hits lane 1 = true ∧
    2 ≤ CanSt.reset.bus ∧ { canFrame with fdf := true, res := true }.fdf = true ∧ (canFrame.fdf && canFrame.res) = false := by
  decide +kernel

/-! ### The pair -/

/-- A released device of a pair with its pair port up. -/
def pairDev (f : PairSt → PairSt) : Dev :=
  let z := dev { img 0 [] with paired := true }
  { z with pair := f { z.pair with up0 := true } }
def hbeat (state : Nat) (digest : BitVec 64) : Heartbeat := ⟨state, false, true, false, false, true, 7, 1, 0, digest⟩
theorem wit_heartbeats :
    let d := pairDev (fun p => { p with ownDig := some (0, 9) })
    let casting := pairDev (fun p => { p with role := .casting })
    let init := pairDev (fun p => { p with role := .init })
    let step := pairDev (fun p => { p with role := .inStep })
    let alone := pairDev (fun p => { p with role := .detached, up0 := false })
    d.pair.svcRx.length = 4 ∧ d.pair.svcRx.getD 0 none ≠ some 7 ∧ ({ d.pair with svcRx := some 7 :: d.pair.svcRx.drop 1 } : PairSt).svcRx.getD 0 none = some 7 ∧
    d.pairUp = true ∧ d.pair.hubRole = .active ∧ d.ownFor d.fcStart = some 9 ∧ casting.pairUp = true ∧ casting.pair.hubRole = .casting ∧
    casting.ownFor casting.fcStart = none ∧ init.pair.hubRole = .init ∧ init.pair.partner = none ∧ init.paired = true ∧
    init.boot.released = true ∧ step.pair.hubRole = .inStep ∧ step.paired = true ∧ step.ownFor step.fcStart = none ∧ alone.pairUp = false ∧
    alone.hubUp = true ∧ alone.pair.hubRole = .detached ∧ alone.pair.update = false ∧ (hbeat 1 9).state = 1 ∧ (hbeat 0 9).state = 0 ∧
    d.pair.epoch.toNat < (hbeat 1 9).epoch.toNat ∧ ({ hbeat 1 9 with handover := true } : Heartbeat).handover = true ∧ d.paired = true := by
  decide
theorem wit_deadline :
    let mk := fun (r : Role) (f : PairSt → PairSt) => pairDev (fun p => f { p with role := r, ownDig := some (0, 9), partner := some (hbeat 1 9) })
    let prob := mk .probation id
    let step := mk .inStep id
    let differ := mk .inStep (fun p => { p with partner := some (hbeat 1 8) })
    let gone0 := mk .detached (fun p => { p with partner := none, silent := 1, tcAt := some 0 })
    let gone := { gone0 with time := { gone0.time with nextFc := 64000 } }
    let heard := mk .detached id
    let nodig := mk .inStep (fun p => { p with partner := none, noDig := 1 })
    prob.paired = true ∧ prob.hubUp = true ∧ prob.pair.next = none ∧ prob.ownFor prob.fcStart = some 9 ∧
    prob.hbFor prob.fcStart = some (hbeat 1 9) ∧ prob.pair.role = .probation ∧ step.pair.role = .inStep ∧
    differ.hbFor differ.fcStart = some (hbeat 1 8) ∧ (hbeat 1 8).digest ≠ 9 ∧ differ.pair.disagree = [] ∧ gone.pair.role = .detached ∧
    gone.hbFor gone.fcStart = none ∧ gone.tcNow = true ∧ 1 ≤ gone.pair.silent ∧ gone.pair.ringTx = none ∧ gone.pair.swap = none ∧
    heard.pair.role = .detached ∧ heard.hbFor heard.fcStart = some (hbeat 1 9) ∧ heard.pair.silent = 0 ∧ nodig.hbFor nodig.fcStart = none ∧
    1 ≤ nodig.pair.noDig ∧ nodig.pair.silent = 0 := by
  decide
theorem wit_swaps :
    let d := pairDev (fun p => { p with partner := some (hbeat 3 0) })
    let g := { img 0 [] with paired := true, ranges := [(256, 4)] }
    let c := { pairDev (fun p => { p with role := .casting }) with boot := (dev g).boot }
    let upd := pairDev (fun p => { p with role := .detached, update := true })
    let step := pairDev (fun p => { p with role := .inStep })
    let sw := pairDev (fun p => { p with swap := some (0, 7, false, some 1) })
    let rel := pairDev (fun p => { p with relay := some (1, [0], 16) })
    let auto := { d with mgmt := { d.mgmt with next := [⟨pidOf 0x0B5 0, true, valOfSig (sigInt 1 Status.clear), none, 0, []⟩] } }
    d.boot.running = some { img 0 [] with paired := true } ∧ d.pairUp = true ∧ d.pair.hubRole = .active ∧ d.pair.castReq = none ∧
    d.pair.castOut = none ∧ (⟨[], false⟩ : CastAsk).digest = (img 0 []).digest ∧ (⟨[1], true⟩ : CastAsk).digest ≠ (img 0 []).digest ∧
    c.boot.running = some g ∧ c.pairUp = true ∧ c.pair.hubRole = .casting ∧ stateAddr g.ranges 2 = some 258 ∧ slotGap 258 = false ∧
    d.pair.svcRx.getD 1 none ≠ some 7 ∧ d.pair.svcRx.getD 3 none ≠ some 7 ∧ step.pair.hubRole = .inStep ∧ (⟨[1], false⟩ : CastAsk).sameState = false ∧
       memWf (c.lane .a).mem = true ∧ upd.pair.hubRole = .detached ∧ upd.pair.update = true ∧ step.pair.hubRole = .inStep ∧
    step.pairUp = true ∧ sw.pair.swap = some (0, 7, false, some 1) ∧ sw.pairUp = true ∧ sw.pair.hubRole = .active ∧ d.pair.swap = none ∧
    rel.pair.relay = some (1, [0], 16) ∧ d.pair.relay = none ∧ auto.partnerReady = true ∧ auto.pairUp = true ∧
    dyLt (dyInt 0) (sigVal (valSig (auto.nextVal 0x0B5))) = true ∧ step.partnerReady = false := by
  decide +kernel

/-! ### Recovery, safety -/

theorem wit_recovery :
    let d := dev (img 0 [])
    let cast := { d with vot := { d.vot with cast := some (.b, [], 0) } }
    let bist := { d with test := { d.test with bistRun := [(.c, 5)] } }
    cast.vot.cast = some (.b, [], 0) ∧ cast.isLive .a = true ∧ Lane.a ≠ .b ∧ d.vot.cast = none ∧ d.boot.released = true ∧ d.liveCount = 3 ∧
    d.vot.rot = none ∧ d.paired = false ∧ d.hubUp = true ∧ bist.test.bistRun.find? (fun x => x.1 == .c) = some (.c, 5) ∧
    bist.fused .c 0 = [] ∧ d.test.bistRun.find? (fun x => x.1 == .c) = none ∧ cast.vot.cast ≠ none := by
  decide
def sioDev (f : SioSt → SioSt) : Dev := (dev (img 0 [])).onSio true f
theorem wit_safetyIo :
    let d := sioDev id
    let p := sioDev (fun x => { x with pend := [(0, 6)] })
    let hi := sioDev (fun x => { x with guard := true, stoOff := false, pbApply := false })
    let pulse := sioDev (fun x => { x with pulseS := true, pulseP := true })
    (50 : Nat) ≤ 50 ∧ d.sioUp true = true ∧ Dev.reset.sioUp true = false ∧ (p.sio true).pend = [(0, 6)] ∧ (p.sio true).guard = false ∧
    (6 : BitVec 24).getLsbD 0 = false ∧ (d.sio true).pend = [] ∧ d.time.run = true ∧ d.sioUp false = true ∧
    (hi.sio true).guard = true ∧ (pulse.sio true).pulseS = true ∧ (pulse.sio true).pulseP = true ∧ (d.sio true).pulseS = false ∧
    ((hi.sioPin true 0 = true ∧ d.sioPin true 0 = false) ∨ (d.sioPin true 0 = true ∧ hi.sioPin true 0 = false)) := by
  decide
/-- A safe stop block that reads its speed at signal 2 and its acknowledge at signal 3, in a state of the block, with a speed and a word of
the safety demand. -/
def stopImg : Img := { img 0 [] with config := [⟨pidOf 0x0C3 0, false, BitVec.ofNat 64 (3 * 2 ^ 15 + 2)⟩] }
def stopDev (f : StopSt → StopSt) (v ack : SigWord) (word : BitVec 8) : Dev :=
  let z := withSigs (dev stopImg) [(2, v), (3, ack)]
  let z := z.onLane .a (fun q => { q with stop := f q.stop })
  { z with safe := { z.safe with input := word.setWidth 32 } }
theorem wit_stop :
    let one := sigInt 1 Status.ok
    let zero := sigInt 0 Status.ok
    let fast := sigInt 100 Status.ok
    let i := fun (d : Dev) => stopIn d stopImg (d.lane .a) d.fcStart
    let ramp := fun (x : SigWord) => stopDev (fun p => { p with state := 1, v0 := fast, still := some 0, ftLost := true }) x one 0
    let quiet := stopDev id zero one 0
    quiet.boot.running = some stopImg ∧ quiet.runs .a = true ∧ (stopDev id zero one 1).safe.input.getLsbD 0 = true ∧ (quiet.lane .a).stop.state = 0 ∧
    (i quiet).word.toNat % 64 = 0 ∧ (i quiet).hubl = false ∧ ftLost (i quiet) = false ∧ (quiet.lane .a).stop.disc = false ∧
    ((ramp fast).lane .a).stop.state = 1 := by
  decide +kernel
theorem wit_stopRamp :
    let one := sigInt 1 Status.ok
    let zero := sigInt 0 Status.ok
    let fast := sigInt 100 Status.ok
    let i := fun (d : Dev) => stopIn d stopImg (d.lane .a) d.fcStart
    let env := fun (d : Dev) (t : Nat) =>
      let q := d.lane .a
      envelopeOk (sigVal (i d).v) (sigVal q.stop.v0) (dyMin (q.cfgDy 0x091 q.stop.pset) (q.cfgDy 0x090 q.stop.pset)) (q.cfgDy 0x092 0) (t - q.stop.gt0)
    let ramp := fun (x v0 : SigWord) => stopDev (fun p => { p with state := 1, v0 := v0, still := some 0, ftLost := true }) x one 0
    let good := fun (d : Dev) => (i d).v.st.valid && !(i d).v.st.stale
    let held := stopDev (fun p => { p with state := 3 }) zero one 0
    let rolls := stopDev (fun p => { p with state := 2 }) fast one 0
    good (ramp fast fast) = true ∧ env (ramp fast zero) (ramp fast zero).fcStart = false ∧ env (ramp fast fast) (ramp fast fast).fcStart = true ∧
    standstill (sigVal (i (ramp fast fast)).v) = false ∧ env (ramp zero fast) (ramp zero fast).fcStart = true ∧
    standstill (sigVal (i (ramp zero fast)).v) = true ∧ good (ramp (sigInt 0 Status.clear) fast) = false ∧
    env (ramp zero fast) (max (ramp zero fast).fcStart 320000000) = true ∧ ((ramp zero fast).lane .a).stop.still = some 0 ∧
    (held.lane .a).stop.state = 3 ∧ (i held).word.toNat % 64 = 0 ∧ (i held).hubl = false ∧ ftLost (i held) = false ∧ (i held).v.st.valid = true ∧
    standstill (sigVal (i held).v) = true ∧ (i held).ack = true ∧ (rolls.lane .a).stop.state = 2 ∧ standstill (sigVal (i rolls).v) = false ∧
    ((ramp zero fast).lane .a).stop.ftLost = true ∧ (held.lane .a).stop.ftLost = false ∧
    (stopDev id zero one 1).laneInput.getLsbD 0 ≠ (stopDev id zero one 1).laneInput.getLsbD 1 ∧
    held.laneInput.getLsbD 0 = held.laneInput.getLsbD 1 := by
  decide +kernel

/-- The DC link block reads VDC at signal 1, its thresholds at signals 4 to 7 and HYST at 8; STATUS goes to signal 9. -/
def dclImg : Img := { img 0 [] with config := [⟨pidOf 0x0C1 0, false, BitVec.ofNat 64 (4 * 2 ^ 45 + 5 * 2 ^ 30 + 6 * 2 ^ 15 + 7)⟩,
  ⟨pidOf 0x0C2 0, false, BitVec.ofNat 64 (1 * 2 ^ 15 + 9)⟩] }
def dclDev (vdc : Int) (f : DclSt → DclSt) : Dev :=
  (withSigs (dev dclImg) [(1, sigInt vdc Status.ok), (4, sigInt 100 Status.ok), (5, sigInt 100 Status.ok), (6, sigInt 100 Status.ok),
    (7, sigInt 100 Status.ok), (8, sigInt 10 Status.ok), (10, sigInt 50 Status.ok)]).onLane .a (fun q => { q with dcl := f q.dcl })
theorem wit_dcLink :
    let thr := fun (d : Dev) (i : Nat) => (d.lane .a).sig (dclImg.thrSigs.getD i 0)
    let vdc := fun (d : Dev) => (d.lane .a).sig (dclSigs dclImg).1
    let low := fun (d : Dev) => sigLt (vdc d) (opSub (thr d 0) ((d.lane .a).sig 8))
    let over_ := dclDev 101 id
    let mid := dclDev 95 id
    let under := dclDev 50 (fun p => { p with pre := 2 })
    let third := dclDev 50 (fun p => { p with pre := 3, f4l := true, chop := true })
    let late := { third with time := { third.time with nextFc := 400000000 } }
    let full := ((dclDev 95 (fun p => { p with chopN := 4, chopK := 4 })).lane .a).dcl
    (decide (full.chopK ≤ full.chopN) && sigLt (opSub full.chopV full.vdc) (sigInt 1 Status.ok)) = true ∧
    over_.boot.running = some dclImg ∧ over_.runs .a = true ∧ sigLt (thr over_ 0) (vdc over_) = true ∧ sigLt (thr mid 0) (vdc mid) = false ∧
    low mid = false ∧ low under = true ∧ (over_.lane .a).dcl.pre = 0 ∧ (under.lane .a).dcl.pre = 2 ∧
    dyLe (dySub (sigVal ((under.lane .a).sig 10)) ((under.lane .a).cfgDy 0x0A6 0)) (sigVal (vdc under)) = true ∧ (third.lane .a).dcl.pre = 3 ∧
    320000000 < late.fcStart - (late.lane .a).dcl.preAt ∧ memWf (over_.lane .a).mem = true ∧ (dclSigs dclImg).2 < 32768 ∧
    ((over_.lane .a).fcu.getD 10 FcuSt.reset).depth ≠ 0xFFFF ∧ chopRemote over_ = false ∧
    over_.unitSilent 10 = false ∧ over_.recLane = .a ∧ Lane.b ≠ over_.recLane := by
  decide +kernel

/-- Table 11-4: without precharge PC0 may not boost, and PC1 may not charge with open contactors; both requests are counted. -/
theorem test_modeRefused :
    let io : DclIo := { hyst := 8, ack := 11, idLoss := 11, chopOn := none, chopBand := none, chopChk := none, duty := 15, prech := 16, boostI := 17,
                        vBat := 10, closed := 11, start := 11, decel := 11, regen := 11, blend := 12, regOut := 13, fricOut := 14, fcus := [],
                        req0 := some .boost, req1 := some .charge }
    (match exec (.dcLinkSupervision .a false io) (at_ (dclDev 50 id)) with | .next t => t.dev.host.cnt | _ => []) = [(0x8D80, 1), (0x8D84, 1)] ∧
    (dclDev 50 id).recLane = .a ∧ ((dclDev 50 id).lane .a).dcl.pre = 0 := by
  decide +kernel

/-! ### Clocks, window, mailboxes -/

theorem wit_clocks :
    let d := dev (img 0 [])
    let off := { d with pwr := { d.pwr with hubLost := true } }
    let aclk := { d with time := { d.time with aclkBad := true } }
    let t : List Int := [1159, 1160, 1200, 1201, 0, 0]
    d.hubUp = true ∧ (0 : Int).natAbs * 1000000 ≤ d.guardPpm * 2 ^ 32 ∧ d.guardPpm * 2 ^ 32 < (2 ^ 32 : Int).natAbs * 1000000 ∧
    d.runs .a = true ∧ off.hubUp = false ∧ Dev.reset.runs .a = false ∧ d.time.aclkBad = false ∧ aclk.time.aclkBad = true ∧
    (d.lane .b).seq.lmcDown = false ∧ ((d.onSeq .b (fun q => { q with lmcDown := true })).lane .b).seq.lmcDown = true ∧
    t.length = 6 ∧ t.getD 0 0 < 1160 ∧ 1160 ≤ t.getD 1 0 ∧ t.getD 2 0 ≤ 1200 ∧ 1200 < t.getD 3 0 ∧ (1 : Nat) < 2 ∧ 2 ≤ (2 : Nat) := by
  decide
def gram (op addr : Nat) (port : Nat) : Datagram :=
  { peerOk := true, port := port, ver := 1, op := op, seq := 7, addr := addr, count := 1, formOk := true, data := [0] }
theorem wit_window2 :
    let d := dev (img 0 [])
    let h := fun (f : HostSt → HostSt) => ({ d with host := f d.host } : Dev)
    let again : UdpResp := ⟨9, 7, 0x81, 0x20, 0, false, [0]⟩
    let race : Race := ⟨1, [3], [3]⟩
    d.winUp = true ∧ writeCode d 1 (hostWords 0x12C0 [0]) = 2 ∧ writeCode d 2 (hostWords 0x11 [0]) = 4 ∧ 5 ≤ d.boot.stage ∧ d.boot.stage < 0x81 ∧
    d.can.length = 4 ∧ race.door.getLsbD 0 = true ∧ (3 : Nat) ∈ race.rxOvf ∧ (3 : Nat) ∈ race.hpLost ∧
    datagramGood (gram 3 0x20 9) = false ∧ datagramGood (gram 1 0x20 9) = true ∧
    (h (fun x => { x with udp := [again] })).host.udp.find? (fun u => u.port == (gram 1 0x20 9).port && u.seq == (gram 1 0x20 9).seq) = some again ∧
    d.host.udp.find? (fun u => u.port == (gram 1 0x20 9).port && u.seq == (gram 1 0x20 9).seq) = none ∧
    (h (fun x => { x with dgSent := some (0, 5), door := 1, enable := 1 })).attn = true ∧ d.host.dgSent = none ∧
    (h (fun x => { x with events := [(3, [0])] })).host.events = [(3, [0])] ∧ d.host.events = [] := by
  decide
def inDev (m : Nat) (f : InBox → InBox) : Dev := (dev (img 0 [])).onIn m f
def req (code n : Nat) : List Word := BitVec.ofNat 32 code :: List.replicate n 0
theorem wit_mailboxes :
    let d := dev (img 0 [])
    let full := inDev 3 (fun b => { b with full := true, data := BitVec.ofNat 32 1 :: b.data.drop 1, len := 1 })
    let claimed := inDev 3 (fun b => { b with claim := some (2, 5) })
    let out := d.onOut 3 (fun b => { b with full := true })
    let wait := { out with host := { out.host with replies := [(3, [1])] } }
    let jam := { full with host := { full.host with replies := List.replicate 32 (3, [1]) } }
    let relay := inDev 13 (fun b => { b with full := true })
    let lane := d.onSeq .a (fun q => { q with lmcDown := true })
    let busy := d.onVot (fun v => { v with groups := [⟨.outDigest, ⟨List.replicate 32 (wrd 1), [], []⟩, Tri.all [], [], [], none, false⟩] })
    senderLane 0x11 = some .a ∧ senderLane 1 = none ∧ (d.lane .a).seq.lmcDown = false ∧ (lane.lane .a).seq.lmcDown = true ∧ d.hubQueueFull .a = false ∧
    busy.hubQueueFull .a = true ∧ busy.runs .a = true ∧ (d.inb 3).data.length = 16 ∧ d.pairUp = false ∧ (pairDev id).pairUp = true ∧
    (pairDev id).pair.svcRx.getD 2 none ≠ some 7 ∧ (outMask 13).testBit (senderBit 0x20) = true ∧
    d.winUp = true ∧ d.host.inb.length = 16 ∧ d.host.outb.length = 16 ∧ d.maySend 3 1 = true ∧ d.maySend 3 0x30 = false ∧ (d.inb 3).full = false ∧
    (d.inb 3).claim = none ∧ (full.inb 3).full = true ∧ (claimed.inb 3).claim = some (2, 5) ∧ (d.inb 3).data ≠ [] ∧ (out.outb 3).full = true ∧
    (outMask 3).testBit (senderBit 1) = true ∧ (outMask 3).testBit (senderBit 0x10) = false ∧ (∀ x ∈ out.host.replies, x.1 ≠ 3) ∧
    wait.host.replies.find? (fun x => x.1 == 3) = some (3, [1]) ∧ (d.inb 13).full = false ∧ (d.inb 13).claim = none ∧ (relay.inb 13).full = true ∧
    full.drains = true ∧ nextFull full = some 3 ∧ 2 ≤ full.freeReplies ∧ jam.freeReplies < 2 ∧ nextFull jam = some 3 ∧
    bits ((full.inb 3).data.getD 0 0).toNat 15 0 = 1 := by
  decide
theorem wit_jobs :
    let d := dev (img 0 [])
    let j : Job := { num := 1, code := 0x0103, req := ⟨3, 1, 7, []⟩, due := 0, pids := [], done := true, replied := false, status := 0, detail := 0, res := [] }
    let jd := { d with mgmt := { d.mgmt with jobs := [j], deliver := [(⟨3, 1, 7, req 0 2⟩, [(pidOf 0x001 5, 9)])], claim := some (1, 5) } }
    let again := { d with mgmt := { d.mgmt with jobs := [{ j with replied := true }] } }
    jd.jobOf 1 = some j ∧ j.num = 1 ∧ j.req.mbox < 15 ∧ j.done = true ∧ j.status = 0 ∧ j.replied = false ∧
    (again.jobOf 1 = some { j with replied := true }) ∧ jd.mgmt.deliver = [(⟨3, 1, 7, req 0 2⟩, [(pidOf 0x001 5, 9)])] ∧
    isNextRelease (pidOf 0x001 5) = false ∧ jd.mgmt.claim = some (1, 5) ∧ d.mgmt.deliver = [] ∧ d.mgmt.claim = none ∧ jd.winUp = true ∧
    jd.host.inb.length = 16 ∧ jd.host.outb.length = 16 := by
  decide
/-! ### Mailbox commands -/

def asks (n : Nat) (a : List Nat) : Request := ⟨3, 1, n, a.map (BitVec.ofNat 32)⟩
def loopImg : Img :=
  { img 0 [] with
    coefs := [⟨3, 0, 1, 1, [0, 0, 0, 0xC0000000, 0], [0]⟩]
    sigmap := [⟨sigZero, 0, false, true, false, 5, 0⟩] }
def cfg (p : Nat) (staged : Option DWord) : CfgField := { pid := p, host := true, live := 0, staged := staged, at_ := 5, due := [] }
def loopDev (l : List CfgField) : Dev := (dev loopImg).onLanes (fun q => { q with cfg := l, coef := loopImg.coefs })
def jobOne : Job :=
  { num := 1, code := 0x0103, req := ⟨3, 1, 7, []⟩, due := 0, pids := [], done := false, replied := false, status := 0, detail := 0, res := [] }
theorem wit_reports :
    let d := loopDev [cfg (pidOf 0x001 5) none]
    let j := { d with mgmt := { d.mgmt with jobs := [jobOne] } }
    let p := { d with pair := { d.pair with partner := some (hbeat 1 9) } }
    let t := { d with mgmt := { d.mgmt with tests := [(1, 2, 3, 4, 5)] } }
    (∀ x ∈ [(0x0001, 0), (0x0002, 0), (0x0201, 0), (0x0A02, 0), (0x0004, 1), (0x0011, 2), (0x0102, 1), (0x0302, 1), (0x0401, 0), (0x0502, 2), (0x0601, 0),
      (0x0702, 0)], d.drains = true ∧ lenOk x.1 x.2 = true) ∧ needsLanes 0x0102 = false ∧ d.boot.released = true ∧ d.boot.running.isSome = true ∧
    d.host.outb.length = 16 ∧ (asks 7 []).mbox < 10 ∧ j.mgmt.jobs.find? (fun j => j.num == 1) = some jobOne ∧
    d.mgmt.jobs.find? (fun j => j.num == 1) = none ∧ d.bulkBusy 1 = false ∧ instOk d.img (pidField (pidOf 0x001 5)) (pidInst (pidOf 0x001 5)) = true ∧
    isNextRelease (pidOf 0x001 5) = false ∧ (d.lane d.lowLane).field (pidOf 0x001 5) = some (cfg (pidOf 0x001 5) none) ∧
    ((d.lane d.lowLane).coefOf 3 0).isSome = true ∧ testUnitOk 1 2 = true ∧
    (t.mgmt.tests.find? (fun y => y.1 == 1 && y.2.1 == 2)).map (fun y => y.2.2) = some (3, 4, 5) ∧ p.pair.partner = some (hbeat 1 9) ∧
    d.pair.partner = none ∧ lenOk 0x0101 2 = false ∧ lenOk 0x0101 3 = true ∧ needsLanes 0x0101 = true ∧ (dev loopImg).drains = true ∧
    ({ d with boot := { d.boot with released := false } } : Dev).boot.released = false := by
  decide
theorem wit_stage :
    let d := loopDev []
    let p := pidOf 0x001 5
    let ok := asks 7 [p, 0, 0]
    let bad := asks 7 [pidOf 0x001 6, 0, 0]
    d.Serves ok 0x0101 ∧ d.isActive = true ∧ (∀ x ∈ stageRecs ok.args, (checkRecord loopImg (d.lciMode (stageRecs ok.args)) x.1 x.2).1 = 0) ∧
    (stageRecs bad.args).find? (fun x => (checkRecord loopImg (d.lciMode (stageRecs bad.args)) x.1 x.2).1 != 0) = some (pidOf 0x001 6, 0) ∧
    ({ d with pair := { d.pair with role := .init } } : Dev).isActive = false ∧ d.Serves (asks 7 []) 0x0003 ∧ d.Serves (asks 7 [4, 9]) 0x0010 ∧
    argOf (asks 7 [4, 9]) 0 % 4 = 0 ∧ argOf (asks 7 [4, 9]) 0 + 4 * ((asks 7 [4, 9]).args.drop 1).length ≤ bulkSize ∧ d.bulkBusy 1 = false ∧
    ({ d with mgmt := { d.mgmt with claim := some (2, 0) } } : Dev).bulkBusy 1 = true ∧ argOf (asks 7 [5, 9]) 0 % 4 ≠ 0 ∧ d.Serves (asks 7 []) 0x0012 := by
  unfold Dev.Serves
  decide
theorem wit_commit :
    let p := pidOf 0x001 5
    let d := loopDev [cfg p (some 9)]
    let r := asks 7 [0, p]
    let e := loopDev []
    let half := loopDev [cfg (pidOf 0x020 3) (some 9)]
    let lo := valOfSig (sigInt 1 Status.ok)
    let hi := valOfSig (sigInt 2 Status.ok)
    let both := loopDev [cfg (pidOf 0x020 3) (some lo), cfg (pidOf 0x021 3) (some hi)]
    let rl := asks 7 [0, pidOf 0x020 3]
    d.Serves r 0x0103 ∧ r.args = [0, BitVec.ofNat 32 p] ∧ p < 2 ^ 31 ∧ pidField p < 0x0F0 ∧ groupPid loopImg p = p ∧ nameDetail loopImg p = 0 ∧
    isNextRelease p = false ∧ d.stagedVal (d.lane d.lowLane) p = some (9, 5) ∧ namesBad loopImg r = none ∧
    (∀ x ∈ e.named loopImg (e.lane e.lowLane) r, (e.stagedOf loopImg (e.lane e.lowLane) x).2.1 = 0) ∧ namesBad loopImg rl = none ∧
    (∃ x ∈ half.named loopImg (half.lane half.lowLane) rl, 0 < (half.stagedOf loopImg (half.lane half.lowLane) x).2.1 ∧
      (half.stagedOf loopImg (half.lane half.lowLane) x).2.1 ≠ (half.stagedOf loopImg (half.lane half.lowLane) x).1) ∧
    rl.args = [0, BitVec.ofNat 32 (pidOf 0x020 3)] ∧ loopImg.hasLoop 3 = true ∧
    both.stagedVal (both.lane both.lowLane) (pidOf 0x020 3) = some (lo, 5) ∧ both.stagedVal (both.lane both.lowLane) (pidOf 0x021 3) = some (hi, 5) ∧
    valLt lo hi = true ∧ d.Serves r 0x0104 := by
  unfold Dev.Serves
  decide +kernel
theorem wit_commit_set :
    let c : CoefStage := ⟨true, 5, none, ⟨3, 0, 1, 1, [1, 0, 0, 0xC0000000, 0], [1]⟩⟩
    let z := loopDev []
    let d := z.onLanes (fun q => { q with coefS := [c] })
    let r := asks 7 [0, pidOf 0x0F0 6]
    d.Serves r 0x0103 ∧ d.isActive = true ∧ r.args = [0, BitVec.ofNat 32 (pidOf 0x0F0 6)] ∧ loopImg.hasLoop 3 = true ∧
    stagedSet (d.lane d.lowLane) 6 = some c ∧ coefSetOk loopImg (d.lane d.lowLane) c.rcd = false := by
  unfold Dev.Serves
  decide +kernel
theorem wit_calibrate :
    let d := loopDev []
    let p := pidOf 0x080 0
    let r := asks 7 [p, 0, 0]
    d.Serves r 0x0105 ∧ r.args.length = 3 ∧ pidField (argOf r 0) = 0x080 ∧ pidCopy (argOf r 0) = false ∧ instOk loopImg 0x080 (pidInst (argOf r 0)) = true ∧
    d.runs (calLane (argOf r 0)) = true ∧ d.isActive = true ∧
    ((fieldInfo 0x080).bind (fun x => checkValue 0x080 (pidInst (argOf r 0)) x (calValues r true).1)).isSome = true ∧
    ((fieldInfo 0x081).bind (fun x => checkValue 0x081 (pidInst (argOf r 0)) x (calValues r true).2)).isSome = true ∧
    d.jr.queue.length < 224 ∧ d.jr.warn = false := by
  unfold Dev.Serves
  decide +kernel
theorem wit_settings :
    let set : CoefRec := ⟨3, 1, 1, 1, [1, 0, 0, 0xC0000000, 0], [1]⟩
    let z := loopDev []
    let d := { z with mgmt := { z.mgmt with bulk := memWrite [] 0 (coefRecord set) } }
    let r := asks 7 [3 + 256]
    let c := coefParse (d.bulkBytes 0 (coefRecLen (leNat (((d.bulkBytes 0 8).drop 4).take 2)) ((d.bulkBytes 0 8).getD 3 0).toNat))
    d.Serves r 0x0301 ∧ d.bulkBusy 1 = false ∧ c = set ∧ bits (argOf r 0) 6 0 = 3 ∧ bits (argOf r 0) 8 8 = 1 ∧ loopImg.hasLoop 3 = true ∧
    fieldHost loopImg (pidOf 0x0F0 7) = true ∧ 1 ≤ c.stages ∧ c.stages ≤ 8 ∧
    bits (argOf (asks 7 [4 + 256]) 0) 6 0 ≠ c.loop ∧ d.Serves (asks 7 [0]) 0x0202 ∧ d.hasMode 0 = true ∧ d.hasMode 1 = false ∧ d.standalone = true ∧
    (netDev 1 5).standalone = false ∧ (netDev 1 5).net.req = none ∧ d.Serves (asks 7 [4095]) 0x0203 ∧ d.Serves (asks 7 [60, 1]) 0x0204 ∧
    d.net.roomFor false 60 = true ∧ (∀ p ∈ sendPorts 8191, recessGt p 1514 ≤ d.recessLen) ∧ d.Serves (asks 7 []) 0x0205 ∧ d.net.hostRx = [] := by
  unfold Dev.Serves
  decide +kernel
/-! ### A firmware and an image that pass their checks -/

def words64 (l : List Nat) : List Byte := l.flatMap (fun n => leBytes n 8)
/-- 64 bytes of header and nothing but the signature block (Table 4-8, Table 23-4). -/
def fwBytes : List Byte :=
  leBytes 0x57464854 4 ++ leBytes 0x030200B0 8 ++ leBytes (64 + sigSize) 4 ++ leBytes 0 48 ++ leBytes 0xFF4E474953 5 ++ leBytes 0 7291
/-- Two fast cycles of 100 µs with one exchange, one digest post and one safety post each; signal 1 is roll-called. -/
def imgBytes : List Byte :=
  let entry := fun (off cls unit operand : Nat) => off * 2 ^ 44 + cls * 2 ^ 38 + unit * 2 ^ 32 + operand
  let cfg := fun (field value : Nat) => leBytes (pidOf field 1) 4 ++ leBytes 1 4 ++ leBytes value 8
  let sections := [(256, 16), (272, 48), (320, 32), (352, 16), (368, 4), (0, 0), (376, 48)]
  leBytes 0x36394854 4 ++ leBytes 3 2 ++ leBytes 0x100 2 ++ leBytes (424 + sigSize) 4 ++ leBytes 0xB0 1 ++ leBytes 3 1 ++ leBytes 0x0302 2 ++
    leBytes 5 1 ++ leBytes 2 1 ++ leBytes 1 1 ++ leBytes 0 (1 + 1 + 1 + 2 + 4 + 4) ++ words64 [7, 0, 0, 0] ++
    sections.flatMap (fun x => leBytes x.1 4 ++ leBytes x.2 4) ++ leBytes 0 (8 * 7 + 80) ++
    leBytes 0 4 ++ leBytes 6 4 ++ leBytes 0xFFFF 2 ++ leBytes 0 6 ++
    words64 [entry 100 0x28 0x25 0, entry 2000 0x38 0x29 0, entry 4000 0x34 0x27 2, entry 64100 0x28 0x25 0, entry 66000 0x38 0x29 0,
      entry 68000 0x34 0x27 2] ++
    words64 [0xA002000100000000, 0x0002000000000000, 0xD002000000000000, 0x0002000400000000] ++ leBytes 1 6 ++ leBytes 0x4800 2 ++ leBytes 1 2 ++ leBytes 0 2 ++ leBytes 1 4 ++ leBytes 0 8 ++
    cfg 0x010 0x80 ++ cfg 0x011 0x80 ++ cfg 0x012 0 ++
    leBytes 0x4E474953 4 ++ leBytes 0 7292

theorem test_firmware : fwDetail 0 true fwBytes = 0 ∧ fwDetail 0 false fwBytes = 2 ∧ fwDetail 0 true (fwBytes.drop 1) = 1 := by
  decide +kernel
theorem test_image : imageDetail 0 0x0302 true imgBytes = 0 := by
  decide +kernel
theorem test_imageRefused : imageDetail 1 0x0302 true imgBytes = 3 ∧ imageDetail 0 0x0302 false imgBytes = 2 ∧
    imageDetail 0 0x0301 true imgBytes = 4 := by
  decide +kernel
theorem wit_tests :
    let d := loopDev []
    let on := d.onLanes (fun q => { q with fcu := q.fcu.map (fun f => { f with eff := 2 }) })
    d.Serves (asks 7 [1, 2]) 0x0501 ∧ d.unitBusy 2 = false ∧ d.unitOff 2 = true ∧ on.unitOff 2 = false ∧ d.analogJob 1 = none ∧ d.boot.stage ≠ 6 ∧
    (dieUnits 1).all d.unitOff = true ∧ d.test.mramRun = none ∧ d.Serves (asks 7 [11]) 0x0503 ∧ argOf (asks 7 [11]) 0 ≤ 11 ∧ on.unitOff 11 = false ∧
    d.unitOff 11 = true ∧ d.edge.length = 2 ∧ d.unitOff 0 = true ∧ on.unitOff 2 = false ∧ d.Serves (asks 7 [0]) 0x0602 ∧ d.isActive = true ∧ d.pair.swap = none ∧
    d.pairUp = false ∧ (pairDev id).pairUp = true ∧ d.Serves (asks 7 [2]) 0x0603 ∧ d.pair.relay = none ∧
    ({ d.pair with relay := some (1, [], 1) } : PairSt).relay ≠ none := by
  unfold Dev.Serves
  decide +kernel
theorem wit_slots :
    let d := loopDev []
    let at1 := { d with boot := { d.boot with imgSlot := some 1, fwSlot := some 1 } }
    let w := asks 7 [1, 8]
    let fw := asks 7 [1, 0, 4096, 0]
    d.Serves w 0x0210 ∧ w.args.length = 2 ∧ argOf w 0 ≤ 1 ∧ d.boot.imgSlot ≠ some (argOf w 0) ∧ d.writing = false ∧ d.bulkBusy 1 = false ∧
    0 < argOf w 1 ∧ argOf w 1 ≤ 2097152 ∧ at1.boot.imgSlot = some (argOf w 0) ∧ d.Serves fw 0x0701 ∧ d.boot.fwSlot ≠ some 1 ∧ argOf fw 1 = 0 ∧
    argOf fw 2 % 4096 = 0 ∧ (argOf fw 3).testBit 0 = false ∧ at1.boot.fwSlot = some 1 ∧ d.Serves (asks 7 [1]) 0x0703 ∧
    bootCopy d.boot.flash.bcb0 = none ∧ bootCopy d.boot.flash.bcb1 = none ∧ bootCopy (bootBytes 7 1) = some (7, 1) ∧ 7 < 2 ^ 32 - 1 ∧ d.Serves (asks 7 []) 0x0704 ∧
    (d.boot.released && d.isActive && !d.partnerReady && !d.stopDown) = true ∧
    ({ d with boot := { d.boot with released := false } } : Dev).boot.released = false := by
  unfold Dev.Serves
  decide +kernel
theorem wit_keys :
    let d := loopDev []
    let open_ := { d with boot := { d.boot with keyOk := true } }
    let scan := { d with mgmt := { d.mgmt with bulk := memWrite [] 0 [0, 0, 0, 0, 0, 2] } }
    let asked := { d with mgmt := { d.mgmt with challenge := some ([], 0) } }
    d.Serves (asks 7 [0, 0, 0, 0, 0, 0, 0, 0]) 0x0901 ∧ d.jobRuns 0x0901 = false ∧ open_.keyLocked = false ∧ d.keyLocked = true ∧
    d.Serves (asks 7 []) 0x0902 ∧ (List.replicate 32 (0 : Byte)).length = 32 ∧ asked.mgmt.challenge = some ([], 0) ∧ d.mgmt.challenge = none ∧
    d.Serves (asks 7 [7279]) 0x0903 ∧ d.jobRuns 0x0903 = false ∧ argOf (asks 7 [7279]) 0 = 7279 ∧
    (fieldAt (scan.bulkBytes 0 60) 5 1).testBit 1 = true ∧ (scan.boot.released && !scan.stopDown) = true ∧
    (fieldAt (d.bulkBytes 0 60) 5 1).testBit 1 = false ∧ d.Serves (asks 7 []) 0x0904 := by
  unfold Dev.Serves
  decide +kernel
theorem wit_rollback :
    let z := dev { loopImg with secVersion := 2 }
    let fl := { z.boot.flash with imgB := List.replicate 24 0 ++ [2, 0, 0, 0] }
    let d := { z with boot := { z.boot with imgSlot := some 0, flash := fl, valid := [(1, false)] } }
    let bad := { d with boot := { d.boot with valid := [] } }
    d.Serves (asks 7 [1]) 0x0905 ∧ d.writing = false ∧ d.jobRuns 0x0905 = false ∧ d.imageFloor < 1 ∧ 1 ≤ d.imageSec ∧ d.partOk 1 false = true ∧
    1 ≤ fieldAt (flashPart d.boot.flash 1 false) 0x18 4 ∧ bad.partOk 1 false = false ∧ d.imageSec < 3 := by
  unfold Dev.Serves
  decide +kernel
theorem wit_power :
    let d := loopDev []
    let off := { d with pwr := { d.pwr with on := 0 } }
    let on := d.onLanes (fun q => { q with fcu := q.fcu.map (fun f => { f with eff := 2 }) })
    let two := d.onLane .c (fun q => { q with seq := { q.seq with phase := .out } })
    d.Serves (asks 7 [9, 1]) 0x0A01 ∧ off.Serves (asks 7 [9, 1]) 0x0A01 ∧ (∀ c ∈ [1, 2, 3, 9, 10, 11], off.pwr.on.getLsbD c = false ∧ d.pwr.on.getLsbD c = true) ∧
    (∀ c ∈ [9, 10, 11], (domUnits c).all d.unitOff = true ∧ (domUnits c).all on.unitOff = false) ∧ two.liveCount < 3 ∧
    argOf (asks 7 [4, 0]) 0 ∉ [1, 2, 3, 9, 10, 11] := by
  unfold Dev.Serves
  decide
theorem wit_journalCommands :
    let d := loopDev []
    let busy := { d with mgmt := { d.mgmt with jobs := [{ jobOne with code := 0x0402 }] } }
    let r := asks 7 [0x8000, 1]
    d.Serves (asks 7 [0, 1]) 0x0402 ∧ d.jobRuns 0x0402 = false ∧ busy.jobRuns 0x0402 = true ∧ busy.Serves (asks 7 [0, 1]) 0x0402 ∧ d.bulkBusy 1 = false ∧
    d.Serves (asks 7 []) 0x0403 ∧ d.jr.main.comp = none ∧ d.Serves r 0x0404 ∧ 0x8000 ≤ argOf r 0 ∧ argOf r 0 ≤ 0xFFFF ∧ argOf (asks 7 [1]) 0 < 0x8000 ∧
    d.jr.queue.length < 192 ∧ d.jr.warn = false := by
  unfold Dev.Serves
  decide

/-! ### Journal, start-up, boundaries -/

/-- A scanned journal with a queue. -/
def jrDev (q : List QRec) (f : JournalSt → JournalSt) : Dev :=
  let d := dev (img 0 [])
  let z : StoreSt := { d.jr.main with a0 := { d.jr.main.a0 with gen := some 1 }, a1 := { d.jr.main.a1 with gen := some 0 } }
  { d with jr := f { d.jr with main := z, cal := z, queue := q } }
def qrec (cls : Nat) : QRec := ⟨⟨0x20, cls, 1, []⟩, 0, false⟩
def brimArea (s : StoreSt) : StoreSt :=
  { s with a0 := { s.a0 with ptr := areaCap false 2 }, a1 := { s.a1 with ptr := areaCap false 2 } }
theorem wit_journal :
    let d := jrDev [qrec 0] id
    let full := jrDev (qrec 0 :: List.replicate 255 (qrec 2)) id
    let none_ := jrDev (List.replicate 256 (qrec 2)) id
    let warn := jrDev [] (fun j => { j with warn := true })
    let brim := jrDev [qrec 2] (fun j => { j with main := brimArea j.main })
    let c : CompSt := ⟨1, 5, 0, 2, []⟩
    let comp := jrDev [] (fun j => { j with main := { j.main with comp := some c }, cal := { j.cal with comp := some { c with left := 1 } } })
    let aged := { d with mgmt := { d.mgmt with account := 2 ^ 30 } }
    let mram := { d with test := { d.test with mramRun := some (15, 0, 0, 0) } }
    let like := fun (y : QRec) => y.post.cls == 0 && y.post.type == 0x20 && y.post.source == 1
    d.hubUp = true ∧ d.jr.queue.length < 192 ∧ d.jr.warn = false ∧ full.jr.queue = [] ++ qrec 0 :: List.replicate 255 (qrec 2) ∧
    256 ≤ full.jr.queue.length ∧ like (qrec 0) = true ∧ (List.replicate 255 (qrec 2)).any like = false ∧ none_.jr.queue.any like = false ∧
    warn.jr.warn = true ∧ d.scanned = true ∧ (d.jr.store false).area.fits false 0 (footprint 0) = true ∧
    (brim.jr.store false).area.fits false 2 (footprint 0) = false ∧ brim.scanned = true ∧ (d.jr.store false).comp = none ∧ (comp.jr.store false).comp = some c ∧
    (1 < c.left) ∧ ((comp.jr.store true).comp.map (·.left) = some 1) ∧ 2 ^ 30 ≤ aged.mgmt.account ∧ d.mgmt.account < 2 ^ 30 ∧
    mram.test.mramRun = some (15, 0, 0, 0) ∧ (mram.jr.main.comp.isSome || mram.jr.cal.comp.isSome) = false ∧
    (comp.jr.main.comp.isSome || comp.jr.cal.comp.isSome) = true ∧ d.test.mramRun = none := by
  decide +kernel
/-- A device in a stage of start-up with this flash. -/
def bootDev (stage : Nat) (f : Flash) : Dev :=
  let z := Dev.reset
  { z with boot := { z.boot with stage := stage, flash := f, imgSlot := some 0 }, pwr := { z.pwr with good := 0xFFF },
           test := { z.test with dd := (0, 1) } }
def flash (fa ia fb ib : List Byte) : Flash := { Flash.erased with fwA := fa, imgA := ia, fwB := fb, imgB := ib }
/-- `imgBytes` and `fwBytes` stand for any image and firmware that pass: their checks are test_image and test_firmware. -/
theorem wit_verify :
    let f := flash fwBytes [] fwBytes []
    let e := flash [] [] [] []
    flashPart (flash fwBytes imgBytes [] []) 0 false = imgBytes ∧ flashPart (flash fwBytes [] [] imgBytes) 1 false = imgBytes ∧
    flashPart f 0 true = fwBytes ∧ preferred f = 0 ∧ fieldAt fwBytes 6 2 = 0x0302 ∧ fieldAt imgBytes 0x0E 2 = 0x0302 ∧
    startImage 0 0x0302 true (flashPart f 0 false) ≠ 0 ∧ startImage 0 0x0302 true (flashPart f 1 false) ≠ 0 ∧
    fwDetail 0 true (flashPart e 0 true) ≠ 0 ∧ fwDetail 0 true (flashPart e 1 true) ≠ 0 := by
  refine ⟨rfl, rfl, rfl, rfl, ?_, ?_, ?_, ?_, ?_, ?_⟩ <;> decide +kernel
theorem wit_startUp :
    let b := fun n => bootDev n Flash.erased
    let run := dev (img 0 [])
    let r7 := { run with boot := { run.boot with stage := 7 } }
    (b 1).boot.stage = 1 ∧ (b 1).domUp 1 = true ∧ Dev.reset.domUp 1 = false ∧ (b 2).boot.stage = 2 ∧ (b 3).boot.stage = 3 ∧ (b 5).boot.imgSlot = some 0 ∧
    (b 5).test.bistRun = [] ∧ (b 5).phase .a = .idle ∧ run.phase .a ≠ .idle ∧ ({ (b 6).test with bistRun := [(.a, 0)] } : TestSt).bistRun ≠ [] ∧
    (b 6).analogRuns 0 = some 0 ∧ (b 6).analogRuns 1 = none ∧
    ({ b 6 with test := { (b 6).test with dd := (1, 1) } } : Dev).diesDone = true ∧ (b 6).passed.length = 3 ∧ (b 6).agreed.length = 3 ∧
    r7.boot.stage = 7 ∧ r7.standalone = true ∧ (b 6).passed ≠ [] ∧ (∀ l ∈ (b 6).passed, crcShared (b 6) (b 6).passed l = true) ∧
    (b 2).domUp 3 = true ∧ (dev { img 0 [] with nets := [⟨64, 100, 0, 100000, []⟩], rateLimit := 1 }).standalone = false := by
  decide
theorem wit_domains :
    let d := dev (img 0 [])
    let w := { d with mgmt := { d.mgmt with restart := some 5 } }
    let down := { d with pwr := { d.pwr with good := 0x001 } }
    let lane := down.onLane .a (fun q => { q with seq := { q.seq with phase := .off } })
    let off := { down with pwr := { down.pwr with on := 1 } }
    Dev.reset.boot.stage = 0 ∧ w.mgmt.restart = some 5 ∧ d.mgmt.restart = none ∧ (∀ c : Fin 12, d.pwr.good.getLsbD c.val = true) ∧
    down.pwr.good.getLsbD 1 = false ∧ down.boot.stage ≠ 0 ∧ down.pwr.on.getLsbD 1 = true ∧ off.pwr.on.getLsbD 1 = false ∧ lane.boot.released = true ∧
    2 ≤ lane.liveCount ∧ lane.phase (domLane 1) = .off ∧ d.phase (domLane 1) ≠ .failed := by
  decide
theorem wit_boundary :
    let d := dev (img 0 [])
    let due := { d with time := { d.time with bellDue := true } }
    let first := { d with time := { d.time with belled := false } }
    let c : CfgField := { cfg (pidOf 0x030 0) (some 9) with host := false }
    let q := { (d.lane .a) with cfg := [c] }
    d.time.run = true ∧ d.time.belled = true ∧ d.time.bellDue = false ∧ due.time.bellDue = true ∧ first.time.belled = false ∧ Dev.reset.time.run = false ∧
    ({ c with due := [(3, 4)] } : CfgField).due.filter (fun e => decide (e.1.toNat ≤ 5)) = [(3, 4)] ∧ c.staged = some 9 ∧ c.host = false ∧
    c.due.filter (fun e => decide (e.1.toNat ≤ 5)) = [] ∧ q.ttReady (img 0 []) true c = true ∧ (d.lane .a).ttReady (img 0 []) true c = false ∧
       d.boot.running = some (img 0 []) ∧ (img 0 []).mode (d.lane .a).seq.mode = some ⟨0, 1, 0, 0⟩ ∧ d.runs .a = true ∧ (d.lane .a).seq.ptr < 1 ∧
    Dev.reset.runs .a = false := by
  decide
/-- FIPS 202: the SHA3-512 digest of the empty message begins a6 9f 73 cc a2 3a 9a c5 (log entry 131). -/
theorem test_sha3 : (sha3_512 []).take 8 = [0xA6, 0x9F, 0x73, 0xCC, 0xA2, 0x3A, 0x9A, 0xC5] := by
  decide +kernel

/-! ### The manual's worked examples -/

/-- Example 7-1: a saturated evaluation, and the one after it. -/
theorem test_stage :
    let c : CoefRec := ⟨0, 0, 1, 1, [0x20000000, 0, 0, 0xE0000000, 0], [0]⟩
    let x : SigWord := ⟨0x60000000, 1, Status.ok⟩
    stageEval c 0 x 0 0 0 4 [(0x30000000, 0)] = ⟨0x7FFFFFFF, true, 1, [(0x20000000, 0)], false⟩ ∧
    stageEval c 0 x 0 1 0 4 [(0x20000000, 0)] = ⟨0x50000000, false, 1, [(0x28000000, 0)], false⟩ := by
  decide
/-- Example 7-3: 37 km/h interpolates, 130 km/h clamps at the last value. -/
theorem test_lookup :
    let ys : List Nat := [0x40000000, 0x40000000, 0x60000000, 0x50000000, 0x40000000, 0x40000000, 0x40000000, 0x40000000, 0x7F000000, 0]
    let g := img 0 ([0, BitVec.ofNat 64 (9 * 2 ^ 25 + 4 * 2 ^ 17), 0] ++
      (List.range 5).map (fun i => BitVec.ofNat 64 (ys.getD (2 * i + 1) 0 * 2 ^ 32 + ys.getD (2 * i) 0)))
    lookup1 g 0 ⟨0x4A000000, 6, Status.ok⟩ = ⟨0x5B000000, 0, Status.ok⟩ ∧
    lookup1 g 0 (num 130) = ⟨0x7F000000, 0, { Status.ok with limited := true }⟩ := by
  decide
/-- Example 6-1, in hundredths of a bar: C is out of band; then only A agrees and the last value stands, substituted and stale. -/
theorem test_pick :
    let r : SigRec := ⟨sigZero, 1, false, false, true, 0, 0⟩
    let k := pick r (dyInt (-25)) (dyInt 25) 0 (num 0) [(.a, num 1240), (.b, num 1243), (.c, num 1390)]
    k = ⟨num 1243, num 1243, false, [.a, .b]⟩ ∧
    pick r (dyInt (-25)) (dyInt 25) 0 k.last [(.a, num 1270), (.b, num 1243), (.c, num 1395)] =
      ⟨{ num 1243 with st := ⟨true, false, true, true⟩ }, num 1243, true, [.a]⟩ := by
  decide
/-- Example 24-1: row 17 and column 55; with a sixth cell there is no cover. -/
theorem test_cover :
    let cells := [(17, 300), (17, 301), (512, 55), (613, 55), (714, 55)]
    bestCover cells 1 true = some ([17], some 55) ∧ bestCover ((800, 9) :: cells) 1 true = none := by
  decide
/-- Example 21-1: the identifiers, the codes in range, and the commit point. -/
theorem test_commitPoint :
    let d := dev (img 0 [])
    [0x070, 0x071, 0x072, 0x073, 0x0F3].map (fun f => pidOf f 3) = [0x07000003, 0x07100003, 0x07200003, 0x07300003, 0x0F300003] ∧
    [(0x070, 0x3C), (0x071, 7), (0x072, 7), (0x073, 3)].all (fun x => checkRecord (img 0 []) 0 (pidOf x.1 3) x.2 == (0, 0, x.2)) = true ∧
    d.tf = 16000 ∧ ({ d with time := { d.time with nextFc := 64000 } } : Dev).pointAfter 48000 false = 80000 := by
  decide

end Sys2Proof.Tests
end

section
/-! SUPPORT. R136 on exact numbers: what the model's dyadic arithmetic, its choice of EXP and its rounding mean as rational numbers. -/

namespace Sys2Proof.Machine
open Sys2Proof

/-! ### Exact numbers as rational numbers -/

/-- The number that n × 2^e stands for. -/
def Dy.val (x : Dy) : ℚ := x.n * 2 ^ x.e

theorem shl_cast (n : Int) {k : Int} (h : 0 ≤ k) : (shl n k : ℚ) = n * 2 ^ k := by
  lift k to ℕ using h
  simp [shl]
@[simp] theorem dyAdd_val (x y : Dy) : (dyAdd x y).val = x.val + y.val := by
  have shifted (n a m : Int) (h : m ≤ a) : (shl n (a - m) : ℚ) * 2 ^ m = n * 2 ^ a := by
    rw [shl_cast n (by omega), mul_assoc, ← zpow_add₀ two_ne_zero, sub_add_cancel]
  simp only [dyAdd, Dy.val, Int.cast_add, add_mul, shifted _ _ _ (min_le_left ..), shifted _ _ _ (min_le_right ..)]
@[simp] theorem dyNeg_val (x : Dy) : (dyNeg x).val = -x.val := by simp [dyNeg, Dy.val]
@[simp] theorem dySub_val (x y : Dy) : (dySub x y).val = x.val - y.val := by simp [dySub, sub_eq_add_neg]
@[simp] theorem dyScale_val (x : Dy) (k : Int) : (dyScale x k).val = x.val * 2 ^ k := by
  simp [dyScale, Dy.val, zpow_add₀, mul_assoc]
theorem Dy.val_eq_zero_iff (x : Dy) : x.val = 0 ↔ x.n = 0 := by
  have unit : (2 : ℚ) ^ x.e ≠ 0 := by positivity
  simp [Dy.val, unit]
theorem Dy.val_neg_iff (x : Dy) : x.val < 0 ↔ x.n < 0 := by
  have unit : (0 : ℚ) < 2 ^ x.e := by positivity
  simp [Dy.val, mul_neg_iff, unit, unit.not_gt]
theorem Dy.val_nonpos_iff (x : Dy) : x.val ≤ 0 ↔ x.n ≤ 0 := by
  rw [le_iff_lt_or_eq, Dy.val_neg_iff, Dy.val_eq_zero_iff, ← le_iff_lt_or_eq]
theorem dyLt_iff (x y : Dy) : dyLt x y = true ↔ x.val < y.val := by
  rw [dyLt, decide_eq_true_iff, ← Dy.val_neg_iff, dySub_val, sub_neg]
theorem dyLe_iff (x y : Dy) : dyLe x y = true ↔ x.val ≤ y.val := by
  rw [dyLe, decide_eq_true_iff, ← Dy.val_nonpos_iff, dySub_val, sub_nonpos]

theorem two_zpow_split (k : Int) : (2 : ℚ) ^ k = 2 ^ k.toNat / 2 ^ (-k).toNat := by
  rw [← zpow_natCast_sub_natCast₀ two_ne_zero, Int.toNat_sub_toNat_neg]
theorem dyNum_eq_zero_iff (x : Dy) : dyNum x = 0 ↔ dyIsZero x = true := by simp [dyNum, shl, dyIsZero]
theorem dyDen_pos (x : Dy) : 0 < dyDen x := Nat.two_pow_pos _
theorem dyNum_div_dyDen (x : Dy) : (dyNum x : ℚ) / dyDen x = x.val := by
  simp [dyNum, dyDen, shl, Dy.val, two_zpow_split x.e, mul_div_assoc]
theorem dyFloor_eq (x : Dy) : dyFloor x = ⌊x.val⌋ := by
  rw [dyFloor, ← Rat.floor_intCast_div_natCast, dyNum_div_dyDen]
/-- Rounding to nearest with ties upward (R136 step 3) is Mathlib's `round`. -/
theorem dyRoundAt_eq (x : Dy) (k : Int) : dyRoundAt x k = round (x.val * 2 ^ k) := by
  have half : Dy.val ⟨1, -1⟩ = 1 / 2 := by norm_num [Dy.val]
  rw [dyRoundAt, dyRound, dyFloor_eq, dyAdd_val, dyScale_val, half, round_eq]

/-! ### The exponent of a result (R136 step 2) -/

/-- With exponent e the mantissa of q before rounding lies in normal form. -/
def NormalAt (q : ℚ) (e : Int) : Prop := (2 ^ (e - 1) ≤ q ∧ q < 2 ^ e) ∨ (-2 ^ e ≤ q ∧ q < -2 ^ (e - 1))

theorem exp_le_of_zpow_lt {a b : Int} (h : (2 : ℚ) ^ (a - 1) < 2 ^ b) : a ≤ b := by
  have := (zpow_lt_zpow_iff_right₀ (one_lt_two (α := ℚ))).1 h
  omega
theorem NormalAt.exp_le {q : ℚ} {a b : Int} (ha : NormalAt q a) (hb : NormalAt q b) : a ≤ b := by
  have pos (e : Int) : (0 : ℚ) < 2 ^ e := by positivity
  apply exp_le_of_zpow_lt
  obtain ⟨la, ua⟩ | ⟨la, ua⟩ := ha <;> obtain ⟨lb, ub⟩ | ⟨lb, ub⟩ := hb
  · exact la.trans_lt ub
  · linarith [pos (a - 1), pos (b - 1)]
  · linarith [pos (a - 1), pos (b - 1)]
  · exact neg_lt_neg_iff.1 (lb.trans_lt ua)
/-- The exponent is determined by the number. -/
theorem NormalAt.unique {q : ℚ} {a b : Int} (ha : NormalAt q a) (hb : NormalAt q b) : a = b :=
  le_antisymm (ha.exp_le hb) (hb.exp_le ha)

theorem two_pow_bitLen_le {n : Nat} (h : n ≠ 0) : (2 : ℚ) ^ ((bitLen n : Int) - 1) ≤ n := by
  simpa [bitLen, h] using (mod_cast Nat.log2_self_le h : (2 : ℚ) ^ n.log2 ≤ n)
theorem lt_two_pow_bitLen (n : Nat) : (n : ℚ) < 2 ^ (bitLen n : Int) := by
  rcases eq_or_ne n 0 with rfl | h
  · simp [bitLen]
  · rw [zpow_natCast, bitLen, if_neg h]
    exact_mod_cast Nat.lt_log2_self

/-- A quotient lies between the powers of two that the bit lengths of its terms give. -/
theorem quotient_bounds {num den : Nat} (hn : num ≠ 0) (hd : den ≠ 0) :
    (2 : ℚ) ^ ((bitLen num : Int) - bitLen den - 1) < num / den ∧
      (num : ℚ) / den < 2 ^ ((bitLen num : Int) - bitLen den - 1 + 2) := by
  have den_pos : (0 : ℚ) < den := by positivity
  have two : (2 : ℚ) ≠ 0 := two_ne_zero
  constructor
  · rw [lt_div_iff₀ den_pos]
    calc (2 : ℚ) ^ ((bitLen num : Int) - bitLen den - 1) * den
        < 2 ^ ((bitLen num : Int) - bitLen den - 1) * 2 ^ (bitLen den : Int) := by gcongr; exact lt_two_pow_bitLen den
      _ = 2 ^ ((bitLen num : Int) - 1) := by rw [← zpow_add₀ two]; congr 1; ring
      _ ≤ num := two_pow_bitLen_le hn
  · rw [div_lt_iff₀ den_pos]
    calc (num : ℚ) < 2 ^ (bitLen num : Int) := lt_two_pow_bitLen num
      _ = 2 ^ ((bitLen num : Int) - bitLen den - 1 + 2) * 2 ^ ((bitLen den : Int) - 1) := by rw [← zpow_add₀ two]; congr 1; ring
      _ ≤ 2 ^ ((bitLen num : Int) - bitLen den - 1 + 2) * den := by gcongr; exact two_pow_bitLen_le hd

theorem cross_le_iff (num : Nat) {den : Nat} (hd : den ≠ 0) (e : Int) :
    num * 2 ^ (-e).toNat ≤ den * 2 ^ e.toNat ↔ (num : ℚ) / den ≤ 2 ^ e := by
  rw [two_zpow_split, div_le_div_iff₀ (by positivity) (by positivity), mul_comm den]
  norm_cast
theorem cross_lt_iff (num : Nat) {den : Nat} (hd : den ≠ 0) (e : Int) :
    num * 2 ^ (-e).toNat < den * 2 ^ e.toNat ↔ (num : ℚ) / den < 2 ^ e := by
  rw [two_zpow_split, div_lt_div_iff₀ (by positivity) (by positivity), mul_comm den]
  norm_cast

theorem normExp_of_pos {num den : Nat} (hn : num ≠ 0) (hd : den ≠ 0) :
    (2 : ℚ) ^ (normExp false num den - 1) ≤ num / den ∧ (num : ℚ) / den < 2 ^ normExp false num den := by
  have next (k : Int) : k + 2 - 1 = k + 1 := by ring
  obtain ⟨lower, upper⟩ := quotient_bounds hn hd
  simp only [normExp, cross_lt_iff num hd, Bool.false_eq_true, if_false, decide_eq_true_eq]
  split_ifs with at0 at1
  · exact absurd at0 lower.not_gt
  · exact ⟨by simpa using lower.le, at1⟩
  · exact ⟨by rw [next]; exact not_lt.1 at1, upper⟩
theorem normExp_of_neg {num den : Nat} (hn : num ≠ 0) (hd : den ≠ 0) :
    (2 : ℚ) ^ (normExp true num den - 1) < num / den ∧ (num : ℚ) / den ≤ 2 ^ normExp true num den := by
  have next (k : Int) : k + 2 - 1 = k + 1 := by ring
  obtain ⟨lower, upper⟩ := quotient_bounds hn hd
  simp only [normExp, cross_le_iff num hd, if_true, decide_eq_true_eq]
  split_ifs with at0 at1
  · exact absurd at0 lower.not_ge
  · exact ⟨by simpa using lower, at1⟩
  · exact ⟨by rw [next]; exact not_le.1 at1, upper.le⟩
/-- The exponent chosen from the exact result puts it in normal form before rounding. -/
theorem normExp_normalAt {num : Int} {den : Nat} (hn : num ≠ 0) (hd : den ≠ 0) :
    NormalAt ((num : ℚ) / den) (normExp (decide (num < 0)) num.natAbs den) := by
  have mag : num.natAbs ≠ 0 := Int.natAbs_ne_zero.2 hn
  rcases hn.lt_or_gt with neg | pos
  · obtain ⟨lower, upper⟩ := normExp_of_neg mag hd
    rw [Nat.cast_natAbs, abs_of_neg neg, Int.cast_neg, neg_div] at lower upper
    simp only [neg, decide_true]
    exact .inr ⟨neg_le.1 upper, lt_neg.1 lower⟩
  · rw [decide_eq_false (not_lt.2 pos.le)]
    simpa [NormalAt, abs_of_pos pos] using Or.inl (normExp_of_pos mag hd)

/-! ### The mantissa of a result (R136 steps 3 to 6) -/

/-- One half-LSB added, then floored: `round` of the quotient. -/
theorem halfUp_div (n : Int) {d : Nat} (hd : d ≠ 0) : (2 * n + d) / (2 * (d : Int)) = round ((n : ℚ) / d) := by
  have split : (n : ℚ) / d + 1 / 2 = ((2 * n + d : Int) : ℚ) / ((2 * d : Nat) : ℚ) := by push_cast; field_simp
  rw [round_eq, split, Rat.floor_intCast_div_natCast]
  norm_cast

theorem roundRat_eq {num : Int} {den : Nat} {e : Int} (hn : num ≠ 0) (hd : den ≠ 0) (h : NormalAt ((num : ℚ) / den) e) :
    roundRat num den = normFinish (round ((num : ℚ) / den * 2 ^ (31 - e))) e := by
  have scaled : ((num * 2 ^ (31 - e).toNat : Int) : ℚ) / ((den * 2 ^ (-(31 - e)).toNat : Nat) : ℚ) = num / den * 2 ^ (31 - e) := by
    rw [two_zpow_split (31 - e)]; push_cast; ring
  have chosen : normExp (decide (num < 0)) num.natAbs den = e := (normExp_normalAt hn hd).unique h
  rw [roundRat, if_neg hn, chosen, ← scaled, ← halfUp_div _ (by positivity)]
  push_cast
  rfl

theorem NormalAt.ne_zero {q : ℚ} {e : Int} (h : NormalAt q e) : q ≠ 0 := by
  have pos : (0 : ℚ) < 2 ^ (e - 1) := by positivity
  rintro rfl
  obtain ⟨l, -⟩ | ⟨-, u⟩ := h <;> linarith

theorem roundDy_eq {v : Dy} {e : Int} (h : NormalAt v.val e) : roundDy v = normFinish (dyRoundAt v (31 - e)) e := by
  rw [← dyNum_div_dyDen] at h
  have num_ne : dyNum v ≠ 0 := fun z => h.ne_zero (by simp [z])
  rw [roundDy, roundRat_eq num_ne (dyDen_pos v).ne' h, dyNum_div_dyDen, dyRoundAt_eq]

/-- What rounding can make of a mantissa that lies in normal form before it. -/
def Rounded (m : Int) : Prop := (2 ^ 30 ≤ m ∧ m ≤ 2 ^ 31) ∨ (-(2 ^ 31) ≤ m ∧ m ≤ -(2 ^ 30))

theorem NormalAt.rounded {q : ℚ} {e : Int} (h : NormalAt q e) : Rounded (round (q * 2 ^ (31 - e))) := by
  have unit : (0 : ℚ) < 2 ^ (31 - e) := by positivity
  have top : (2 : ℚ) ^ e * 2 ^ (31 - e) = 2 ^ 31 := by rw [← zpow_add₀ two_ne_zero, add_sub_cancel]; norm_num
  have half : (2 : ℚ) ^ (e - 1) * 2 ^ (31 - e) = 2 ^ 30 := by
    rw [← zpow_add₀ two_ne_zero, show e - 1 + (31 - e) = 30 by ring]; norm_num
  rw [round_eq]
  obtain ⟨l, u⟩ | ⟨l, u⟩ := h <;> [left; right]
  all_goals
    have l' := mul_le_mul_of_nonneg_right l unit.le
    have u' := mul_lt_mul_of_pos_right u unit
    simp only [neg_mul, top, half] at l' u'
    refine ⟨Int.le_floor.2 ?_, Int.lt_add_one_iff.1 (Int.floor_lt.2 ?_)⟩ <;> push_cast <;> linarith

/-- R136 step 4: mantissa and exponent after a carry out of range, or out of normal form. -/
def carried (m e : Int) : Int × Int :=
  if m = 2 ^ 31 then (2 ^ 30, e + 1) else if m = -(2 ^ 30) ∧ e ≠ -128 then (-(2 ^ 31), e - 1) else (m, e)

/-- The word of a rounded mantissa m at exponent e: step 4, then R136 steps 5 and 6 on the exponent that it leaves. -/
def roundedWord (m e : Int) (st : Status) : SigWord :=
  if 127 < (carried m e).2 then ⟨if m < 0 then 0x80000000 else 0x7FFFFFFF, 127, { st with limited := true }⟩
  else if (carried m e).2 < -128 then ⟨0, 0, st⟩
  else ⟨BitVec.ofInt 32 (carried m e).1, BitVec.ofInt 8 (carried m e).2, st⟩

theorem normFinish_eq {m : Int} (e : Int) (h : Rounded m) :
    normFinish m e =
      if 127 < (carried m e).2 then (if m < 0 then 0x80000000 else 0x7FFFFFFF, 127, true)
      else if (carried m e).2 < -128 then (0, 0, false)
      else (BitVec.ofInt 32 (carried m e).1, BitVec.ofInt 8 (carried m e).2, false) := by
  unfold Rounded at h
  by_cases up : m = 2 ^ 31
  · simp [normFinish, carried, up]
  · have below : ¬ m ≥ 2 ^ 31 := by omega
    by_cases down : m = -(2 ^ 30) ∧ e ≠ -128
    · obtain ⟨rfl, low⟩ := down
      simp [normFinish, carried, low]
    · simp only [normFinish, carried, up, below, down, if_false]
      rfl

theorem NormalAt.rounded_mant {v : Dy} {e : Int} (h : NormalAt v.val e) : Rounded (dyRoundAt v (31 - e)) := by
  rw [dyRoundAt_eq]
  exact h.rounded

theorem mkSig_zero {v : Dy} (st : Status) (h : dyIsZero v = true) : mkSig v st = ⟨0, 0, st⟩ := by
  simp [mkSig, roundDy, roundRat, (dyNum_eq_zero_iff v).2 h]
theorem mkSig_eq {v : Dy} {e : Int} (st : Status) (h : NormalAt v.val e) :
    mkSig v st = roundedWord (dyRoundAt v (31 - e)) e st := by
  rw [mkSig, roundDy_eq h, normFinish_eq e h.rounded_mant, roundedWord]
  split_ifs <;> simp

theorem exists_normalAt {v : Dy} (h : dyIsZero v = false) : ∃ e : Int, NormalAt v.val e := by
  have num_ne : dyNum v ≠ 0 := mt (dyNum_eq_zero_iff v).1 (Bool.eq_false_iff.1 h)
  exact ⟨_, dyNum_div_dyDen v ▸ normExp_normalAt num_ne (dyDen_pos v).ne'⟩

/-- The bounds of the binade of e, written in units of 2^(e − 31). -/
theorem normalAt_iff (v : Dy) (e : Int) : NormalAt v.val e ↔
    (dyLe ⟨2 ^ 30, e - 31⟩ v = true ∧ dyLt v ⟨2 ^ 31, e - 31⟩ = true) ∨
    (dyLe ⟨-(2 ^ 31), e - 31⟩ v = true ∧ dyLt v ⟨-(2 ^ 30), e - 31⟩ = true) := by
  have half : (2 : ℚ) ^ 30 * 2 ^ (e - 31) = 2 ^ (e - 1) := by
    rw [← zpow_natCast, ← zpow_add₀ two_ne_zero]; congr 1; push_cast; ring
  have top : (2 : ℚ) ^ 31 * 2 ^ (e - 31) = 2 ^ e := by
    rw [← zpow_natCast, ← zpow_add₀ two_ne_zero]; congr 1; push_cast; ring
  simp only [dyLe_iff, dyLt_iff, Dy.val, Int.cast_neg, Int.cast_pow, Int.cast_ofNat, neg_mul, half, top, NormalAt]

/-! ### Normal form -/

/-- What R136 lets a result word be: in normal form, or the one word at EXP −128. -/
def NormalForm (w : SigWord) : Prop :=
  (w.mant = 0 ∧ w.exp = 0) ∨ w.mant.getLsbD 31 ≠ w.mant.getLsbD 30 ∨ (w.mant = 0xC0000000 ∧ w.exp = 0x80)

theorem signBits_differ {w : BitVec 32} (lo : 2 ^ 30 ≤ w.toNat) (hi : w.toNat < 3 * 2 ^ 30) : w.getLsbD 31 ≠ w.getLsbD 30 := by
  simp only [BitVec.getLsbD, Nat.testBit_eq_decide_div_mod_eq, ne_eq, decide_eq_decide]
  omega
theorem signBits_ofInt {m : Int} (h : (2 ^ 30 ≤ m ∧ m < 2 ^ 31) ∨ (-(2 ^ 31) ≤ m ∧ m < -(2 ^ 30))) :
    (BitVec.ofInt 32 m).getLsbD 31 ≠ (BitVec.ofInt 32 m).getLsbD 30 := by
  apply signBits_differ <;> rw [BitVec.toNat_ofInt] <;> omega

/-- Step 4 leaves a mantissa in normal form, or −2^30 at EXP −128. -/
theorem carried_normal {m : Int} (e : Int) (h : Rounded m) :
    ((2 ^ 30 ≤ (carried m e).1 ∧ (carried m e).1 < 2 ^ 31) ∨ (-(2 ^ 31) ≤ (carried m e).1 ∧ (carried m e).1 < -(2 ^ 30))) ∨
    carried m e = (-(2 ^ 30), -128) := by
  unfold Rounded at h
  unfold carried
  split_ifs with up down
  · left; omega
  · left; omega
  · rw [Prod.mk.injEq]; omega

theorem roundedWord_normalForm {m : Int} (e : Int) (st : Status) (h : Rounded m) : NormalForm (roundedWord m e st) := by
  unfold roundedWord
  split_ifs with above neg below
  · exact .inr (.inl (signBits_differ (w := 0x80000000) (by decide) (by decide)))
  · exact .inr (.inl (signBits_differ (w := 0x7FFFFFFF) (by decide) (by decide)))
  · exact .inl ⟨rfl, rfl⟩
  · obtain inside | least := carried_normal e h
    · exact .inr (.inl (signBits_ofInt inside))
    · rw [least]
      exact .inr (.inr ⟨rfl, rfl⟩)

theorem mkSig_normalForm (v : Dy) (st : Status) : NormalForm (mkSig v st) := by
  cases zero : dyIsZero v with
  | true => exact .inl (by simp [mkSig_zero st zero])
  | false =>
    obtain ⟨e, h⟩ := exists_normalAt zero
    exact mkSig_eq st h ▸ roundedWord_normalForm e st h.rounded_mant

/-- Settles O10: the exact value has one exponent at which it is in normal form, the model's bit lengths find it, and its half-up
quotient is `round` there. -/
theorem resultsAreNormal : Obligations.ResultsAreNormal := by
  intro v st w fits
  have fits_iff (e : Int) : fits e ↔ NormalAt v.val e := (normalAt_iff v e).symm
  refine ⟨mkSig_zero st, fun nonzero => ?_, fun e h => mkSig_eq st ((fits_iff e).1 h), mkSig_normalForm v st⟩
  obtain ⟨e, h⟩ := exists_normalAt nonzero
  exact ⟨e, (fits_iff e).2 h⟩

end Sys2Proof.Machine
end

section
/-! SUPPORT. The lookups of R152 and R153: what each case of an axis gives, and the one word that a lookup writes. -/

namespace Sys2Proof.Machine
open Sys2Proof

@[simp] theorem stOf_singleton (w : SigWord) : stOf [w] = w.st := by simp [stOf, stJoin, Status.ok]
@[simp] theorem stLim_false (s : Status) : stLim s false = s := by simp [stLim]
@[simp] theorem stLim_true (s : Status) : stLim s true = { s with limited := true } := by simp [stLim]

/-- Only what a lane update makes of the lane that it finds matters. -/
theorem Dev.onLane_congr {d : Dev} {l : Lane} {f f' : LaneSt → LaneSt} (h : f (d.lane l) = f' (d.lane l)) :
    d.onLane l f = d.onLane l f' :=
  congrArg (fun q => { d with lanes := d.lanes.set l q }) h

/-! ### An axis: below, above and between its points -/

/-- The place of x on an axis that begins at xmin with spacing 2^p, in points. -/
def axisPlace (x xmin : SigWord) (p : Int) : Dy := dyScale (dySub (sigVal x) (sigVal xmin)) (-p)

theorem exists_lookAxis_eq (x xmin : SigWord) (p : Int) (n : Nat) :
    ∃ (i : Nat) (f : Int) (c : Bool), lookAxis x xmin p n = (i, f, c) := ⟨_, _, _, rfl⟩

section
variable {x xmin : SigWord} {p : Int} {n : Nat}

theorem lookAxis_below (below : dyLt (axisPlace x xmin p) dyZero = true) : lookAxis x xmin p n = (0, 0, true) :=
  if_pos below
theorem lookAxis_above (notBelow : dyLt (axisPlace x xmin p) dyZero = false) (above : dyLt (dyInt (n - 1)) (axisPlace x xmin p) = true) :
    lookAxis x xmin p n = (n - 2, 2 ^ 24, true) :=
  (if_neg (Bool.eq_false_iff.1 notBelow)).trans (if_pos above)
theorem lookAxis_between (notBelow : dyLt (axisPlace x xmin p) dyZero = false)
    (notAbove : dyLt (dyInt (n - 1)) (axisPlace x xmin p) = false) :
    lookAxis x xmin p n = (min (dyFloor (axisPlace x xmin p)).toNat (n - 2),
      dyFloorAt (dySub (axisPlace x xmin p) (dyInt (min (dyFloor (axisPlace x xmin p)).toNat (n - 2) : Nat))) 24, false) :=
  (if_neg (Bool.eq_false_iff.1 notBelow)).trans (if_neg (Bool.eq_false_iff.1 notAbove))

end

/-! ### The words that the lookups write -/

/-- A 1-D lookup interpolates at the place and with the clamp flag that its axis gives. -/
theorem lookup1_of_axis {g : Img} {x : Nat} {v : SigWord} {i : Nat} {f : Int} {c : Bool}
    (axis : lookAxis v (constSig (g.desc x 2)) (signedBits (dw (g.desc x 1) 24 17) 8) (dw (g.desc x 1) 33 25) = (i, f, c)) :
    lookup1 g x v =
      mkSig ⟨lookMix (tabVal g x 3 i) (tabVal g x 3 (i + 1)) f, signedBits (dw (g.desc x 1) 16 9) 8 - 55⟩ (stLim v.st c) := by
  simp only [lookup1, axis, stOf_singleton]

/-- Row j of a 2-D table of nx columns, interpolated along x and rounded to a mantissa (R153 steps 1 and 2). -/
def rowMant (g : Img) (x nx ix : Nat) (fx : Int) (j : Nat) : Int :=
  dyRound ⟨lookMix (tabVal g x 5 (j * nx + ix)) (tabVal g x 5 (j * nx + ix + 1)) fx, -24⟩

/-- A 2-D lookup interpolates along y between the rounded rows that the y axis names, at the place that the x axis gives. -/
theorem lookup2_of_axes {g : Img} {x : Nat} {vx vy : SigWord} {ix iy : Nat} {fx fy : Int} {cx cy : Bool}
    (xAxis : lookAxis vx (constSig (g.desc x 3)) (signedBits (dw (g.desc x 2) 63 56) 8) (dw (g.desc x 1) 18 13) = (ix, fx, cx))
    (yAxis : lookAxis vy (constSig (g.desc x 4)) (signedBits (dw (g.desc x 2) 55 48) 8) (dw (g.desc x 1) 12 7) = (iy, fy, cy)) :
    lookup2 g x vx vy =
      mkSig ⟨lookMix (rowMant g x (dw (g.desc x 1) 18 13) ix fx iy) (rowMant g x (dw (g.desc x 1) 18 13) ix fx (iy + 1)) fy,
        signedBits (dw (g.desc x 2) 47 40) 8 - 55⟩ (stLim (stOf [vx, vy]) (cx || cy)) := by
  simp only [lookup2, xAxis, yAxis, rowMant]

section
variable {s : State} {l : Lane} {g : Img} {e : Entry} (ready : s.dev.Ready l g e)
include ready

/-- A ready entry whose operation computes one signal word from lane l writes that word alone. -/
theorem writes_of_setSig {c : Instr} {ok : Img → Entry → Bool} {out : Img → Entry → Nat} {f : Img → Entry → LaneSt → SigWord}
    (accepted : ok g e = true)
    (meaning : exec c s = s.onDev (fun d => dispatch d l false ok (fun g e d => d.onLane l (fun q => q.setSig (out g e) (f g e q))))) :
    Writes c s l g e [(out g e, f g e ((s.dev.begun l g e).lane l))] := by
  have written : (s.dev.begun l g e).onLane l (fun q => q.setSigs [(out g e, f g e ((s.dev.begun l g e).lane l))]) =
      (s.dev.begun l g e).onLane l (fun q => q.setSig (out g e) (f g e q)) := Dev.onLane_congr rfl
  rw [Writes, Runs, meaning, onDev_dispatch_ready s l g e ok _ ready accepted, written]

theorem lookup1d_writes (cls : e.cls = 0x0A) : Writes (.lookup1d l false) s l g e
    [(dw (g.desc e.operand 1) 48 34,
      lookup1 g e.operand (((s.dev.begun l g e).lane l).sig (dw (g.desc e.operand 1) 63 49)))] :=
  writes_of_setSig ready (ok := clsIs 0x0A) (out := fun g e => dw (g.desc e.operand 1) 48 34)
    (f := fun g e q => lookup1 g e.operand (q.sig (dw (g.desc e.operand 1) 63 49))) (beq_iff_eq.2 cls) rfl
theorem lookup2d_writes (cls : e.cls = 0x0B) : Writes (.lookup2d l false) s l g e
    [(dw (g.desc e.operand 1) 33 19,
      lookup2 g e.operand (((s.dev.begun l g e).lane l).sig (dw (g.desc e.operand 1) 63 49))
        (((s.dev.begun l g e).lane l).sig (dw (g.desc e.operand 1) 48 34)))] :=
  writes_of_setSig ready (ok := clsIs 0x0B) (out := fun g e => dw (g.desc e.operand 1) 33 19)
    (f := fun g e q => lookup2 g e.operand (q.sig (dw (g.desc e.operand 1) 63 49)) (q.sig (dw (g.desc e.operand 1) 48 34)))
    (beq_iff_eq.2 cls) rfl

/-- The word of a 1-D lookup from what its axis gives. -/
theorem lookup1d_writes_of_axis (cls : e.cls = 0x0A) {i : Nat} {f : Int} {c : Bool}
    (axis : lookAxis (((s.dev.begun l g e).lane l).sig (dw (g.desc e.operand 1) 63 49)) (constSig (g.desc e.operand 2))
      (signedBits (dw (g.desc e.operand 1) 24 17) 8) (dw (g.desc e.operand 1) 33 25) = (i, f, c)) :
    Writes (.lookup1d l false) s l g e [(dw (g.desc e.operand 1) 48 34,
      mkSig ⟨lookMix (tabVal g e.operand 3 i) (tabVal g e.operand 3 (i + 1)) f, signedBits (dw (g.desc e.operand 1) 16 9) 8 - 55⟩
        (stLim (((s.dev.begun l g e).lane l).sig (dw (g.desc e.operand 1) 63 49)).st c))] :=
  lookup1_of_axis axis ▸ lookup1d_writes ready cls
/-- The word of a 2-D lookup from what its axes give. -/
theorem lookup2d_writes_of_axes (cls : e.cls = 0x0B) {ix iy : Nat} {fx fy : Int} {cx cy : Bool}
    (xAxis : lookAxis (((s.dev.begun l g e).lane l).sig (dw (g.desc e.operand 1) 63 49)) (constSig (g.desc e.operand 3))
      (signedBits (dw (g.desc e.operand 2) 63 56) 8) (dw (g.desc e.operand 1) 18 13) = (ix, fx, cx))
    (yAxis : lookAxis (((s.dev.begun l g e).lane l).sig (dw (g.desc e.operand 1) 48 34)) (constSig (g.desc e.operand 4))
      (signedBits (dw (g.desc e.operand 2) 55 48) 8) (dw (g.desc e.operand 1) 12 7) = (iy, fy, cy)) :
    Writes (.lookup2d l false) s l g e [(dw (g.desc e.operand 1) 33 19,
      mkSig ⟨lookMix (rowMant g e.operand (dw (g.desc e.operand 1) 18 13) ix fx iy)
          (rowMant g e.operand (dw (g.desc e.operand 1) 18 13) ix fx (iy + 1)) fy,
        signedBits (dw (g.desc e.operand 2) 47 40) 8 - 55⟩
        (stLim (stOf [((s.dev.begun l g e).lane l).sig (dw (g.desc e.operand 1) 63 49),
          ((s.dev.begun l g e).lane l).sig (dw (g.desc e.operand 1) 48 34)]) (cx || cy)))] :=
  lookup2_of_axes xAxis yAxis ▸ lookup2d_writes ready cls

end

/-- Settles O9: a ready lookup writes the one word that the model's `lookup1` or `lookup2` computes, and each case of its axis gives the
word of that clause. -/
theorem lookups : Obligations.Lookups := by
  intro s l g e ready x w1 w2 v n u y
  refine ⟨fun cls below => ?_, fun cls notBelow above => ?_, fun cls notBelow notAbove => ?_, fun cls => ?_⟩
  · exact stLim_true v.st ▸ lookup1d_writes_of_axis ready cls (lookAxis_below below)
  · exact stLim_true v.st ▸ lookup1d_writes_of_axis ready cls (lookAxis_above notBelow above)
  · exact stLim_false v.st ▸ lookup1d_writes_of_axis ready cls (lookAxis_between notBelow notAbove)
  · obtain ⟨ix, fx, cx, xAxis⟩ := exists_lookAxis_eq v (constSig (g.desc x 3)) (signedBits (dw w2 63 56) 8) (dw w1 18 13)
    obtain ⟨iy, fy, cy, yAxis⟩ := exists_lookAxis_eq (((s.dev.begun l g e).lane l).sig (dw w1 48 34)) (constSig (g.desc x 4))
      (signedBits (dw w2 55 48) 8) (dw w1 12 7)
    exact ⟨ix, iy, fx, fy, cx, cy, xAxis, yAxis, lookup2d_writes_of_axes ready cls xAxis yAxis⟩

end Sys2Proof.Machine
end

section
/-! SUPPORT. A signal word reads back as it was written, and a write leaves the other signal words of the lane alone (R8, Table 4-11,
Table 7-1). -/

namespace Sys2Proof.Machine
open Sys2Proof

/-! ### Bytes -/

theorem length_leBytes (n k : Nat) : (leBytes n k).length = k := by
  induction k generalizing n with
  | zero => rfl
  | succ k ih => simp [leBytes, ih]

theorem leNat_leBytes (k n : Nat) : leNat (leBytes n k) = n % 256 ^ k := by
  induction k generalizing n with
  | zero => simp [leBytes, leNat, Nat.mod_one]
  | succ k ih => rw [leBytes, leNat, ih, BitVec.toNat_ofNat, pow_succ' 256 k, Nat.mod_mul]

/-- The bytes written read back. -/
theorem memRead_memWrite {m : List Host.Cell} (wf : memWf m = true) (x : Nat) (bs : List Byte) :
    memRead (memWrite m x bs) x bs.length = bs := by
  induction bs generalizing m x with
  | nil => rfl
  | cons b r ih =>
    have first : memGet (memWrite (memSet m x b) (x + 1) r) x = b := by
      rw [memGet_memWrite_ne r _ _ _ (memSet_wf m x b wf) (by omega), memGet_memSet m 0 x b wf]
    rw [List.length_cons, memRead, memWrite, first, ih (memSet_wf m x b wf)]

/-- Bytes outside the written ones read as before. -/
theorem memRead_memWrite_disjoint {m : List Host.Cell} (wf : memWf m = true) {x y n : Nat} {bs : List Byte}
    (apart : y + n ≤ x ∨ x + bs.length ≤ y) : memRead (memWrite m x bs) y n = memRead m y n := by
  induction n generalizing y with
  | zero => rfl
  | succ n ih => rw [memRead, memRead, memGet_memWrite_ne bs m x y wf (by omega), ih (by omega)]

/-! ### Signal words -/

/-- Bits [3:0] of a signal word as a number. -/
def statusNat (st : Status) : Nat :=
  (if st.subst then 8 else 0) + (if st.stale then 4 else 0) + (if st.limited then 2 else 0) + (if st.valid then 1 else 0)

theorem statusNat_lt : ∀ st : Status, statusNat st < 16 := by
  rintro ⟨_ | _, _ | _, _ | _, _ | _⟩ <;> decide
theorem status_of_statusNat : ∀ st : Status, (⟨(statusNat st).testBit 0, (statusNat st).testBit 1, (statusNat st).testBit 2,
    (statusNat st).testBit 3⟩ : Status) = st := by
  rintro ⟨_ | _, _ | _, _ | _, _ | _⟩ <;> decide

theorem sigToNat_eq (w : SigWord) : sigToNat w = w.mant.toNat * 2 ^ 16 + w.exp.toNat * 2 ^ 8 + statusNat w.st := by
  simp only [sigToNat, statusNat, add_assoc]

theorem sigToNat_lt (w : SigWord) : sigToNat w < 256 ^ 6 := by
  have := w.mant.isLt
  have := w.exp.isLt
  have := statusNat_lt w.st
  rw [sigToNat_eq]
  omega

theorem sigOfNat_sigToNat (w : SigWord) : sigOfNat (sigToNat w) = w := by
  have := w.exp.isLt
  have := statusNat_lt w.st
  have mant : sigToNat w / 2 ^ 16 = w.mant.toNat := by rw [sigToNat_eq]; omega
  have exp : sigToNat w / 2 ^ 8 % 2 ^ 8 = w.exp.toNat := by rw [sigToNat_eq]; omega
  have low : sigToNat w % 2 ^ 4 = statusNat w.st := by rw [sigToNat_eq]; omega
  have flag (i : Nat) (inside : i < 4) : (sigToNat w).testBit i = (statusNat w.st).testBit i := by
    rw [← low, Nat.testBit_mod_two_pow, decide_eq_true inside, Bool.true_and]
  have expWord : BitVec.ofNat 8 (sigToNat w / 2 ^ 8) = w.exp := BitVec.eq_of_toNat_eq (by rw [BitVec.toNat_ofNat, exp])
  rw [sigOfNat, mant, BitVec.ofNat_toNat, BitVec.setWidth_eq, expWord, flag 0 (by omega), flag 1 (by omega), flag 2 (by omega),
    flag 3 (by omega), status_of_statusNat]

theorem memSig_memSetSig {m : List Host.Cell} (wf : memWf m = true) (i : Nat) (w : SigWord) : memSig (memSetSig m i w) i = w := by
  have bytes := memRead_memWrite wf (sigAddr i) (leBytes (sigToNat w) 6)
  rw [length_leBytes] at bytes
  rw [memSig, memSetSig, bytes, leNat_leBytes, Nat.mod_eq_of_lt (sigToNat_lt w), sigOfNat_sigToNat]

theorem memSig_memSetSig_ne {m : List Host.Cell} (wf : memWf m = true) {i j : Nat} (w : SigWord) (other : j ≠ i) :
    memSig (memSetSig m i w) j = memSig m j := by
  have apart : sigAddr j + 6 ≤ sigAddr i ∨ sigAddr i + (leBytes (sigToNat w) 6).length ≤ sigAddr j := by
    rw [length_leBytes]; unfold sigAddr; omega
  rw [memSig, memSetSig, memRead_memWrite_disjoint wf apart, memSig]

theorem LaneSt.sig_setSig {q : LaneSt} (wf : memWf q.mem = true) (i : Nat) (w : SigWord) : (q.setSig i w).sig i = w :=
  memSig_memSetSig wf i w
theorem LaneSt.sig_setSig_ne {q : LaneSt} (wf : memWf q.mem = true) {i j : Nat} (w : SigWord) (other : j ≠ i) :
    (q.setSig i w).sig j = q.sig j :=
  memSig_memSetSig_ne wf w other

end Sys2Proof.Machine
end

section
/-! SUPPORT. What accepted posts do (R34, R95): the words join the groups' flights in order, and memory, sequencer, the other lanes and
all that lies outside the lanes and voters stay. -/

namespace Sys2Proof.Machine
open Sys2Proof

/-! ### The phase of a lane through a dispatch -/

@[simp] theorem LaneSt.stage_seq (q : LaneSt) (p : Nat) (host : Bool) (v : DWord) : (q.stage p host v).seq = q.seq := by
  unfold LaneSt.stage LaneSt.onField
  split_ifs <;> rfl

theorem LaneSt.stages_seq (vs : List (Nat × DWord)) (q : LaneSt) : (vs.foldl (fun q v => q.stage v.1 false v.2) q).seq = q.seq := by
  induction vs generalizing q with
  | nil => rfl
  | cons v r ih => rw [List.foldl_cons, ih, LaneSt.stage_seq]

theorem LaneSt.complete_seq (q : LaneSt) (e : Late) : (q.complete e).seq = q.seq := by
  unfold LaneSt.complete
  cases e.coef with
  | none => exact LaneSt.stages_seq ..
  | some c => exact LaneSt.stages_seq ..

theorem LaneSt.settle_phase (q : LaneSt) (swap : Bool) (n : Nat) : (q.settle swap n).seq.phase = q.seq.phase := by
  have completed (es : List Late) (q : LaneSt) : (es.foldl LaneSt.complete q).seq = q.seq := by
    induction es generalizing q with
    | nil => rfl
    | cons e r ih => rw [List.foldl_cons, ih, LaneSt.complete_seq]
  rw [LaneSt.settle, completed]

theorem Dev.runs_congr {d d' : Dev} {l : Lane} (phase : (d'.lane l).seq.phase = (d.lane l).seq.phase) : d'.runs l = d.runs l := by
  simp only [Dev.runs, Dev.isLive, Dev.isProb, Dev.phase, phase]

@[simp] theorem begun_runs (d : Dev) (l : Lane) (g : Img) (e : Entry) : (d.begun l g e).runs l = d.runs l :=
  Dev.runs_congr (by rw [begun_lane]; exact LaneSt.settle_phase ..)

/-! ### Groups -/

section
variable (d : Dev) {g : Group} {f : GroupSt → GroupSt} (keeps : ∀ x, (f x).g = x.g)
include keeps

theorem find?_group_map (h : Group) (gs : List GroupSt) : (gs.map (fun x => if x.g == g then f x else x)).find? (fun x => x.g == h) =
    (gs.find? (fun x => x.g == h)).map (fun x => if h = g then f x else x) := by
  induction gs with
  | nil => rfl
  | cons x r ih =>
    have name : (if x.g == g then f x else x).g = x.g := by split_ifs <;> simp [keeps]
    rw [List.map_cons, List.find?_cons, List.find?_cons, name, ih]
    by_cases found : x.g = h
    · simp [found]
    · rw [beq_false_of_ne found]

@[simp] theorem Dev.onGroup_group : (d.onGroup g f).group g = f (d.group g) := by
  unfold Dev.onGroup Dev.onVot Dev.group
  dsimp only
  cases found : d.vot.groups.find? (fun x => x.g == g) with
  | some x =>
    have known : d.vot.groups.any (fun x => x.g == g) = true :=
      List.any_eq_true.2 ⟨x, List.mem_of_find?_eq_some found, List.find?_some (p := fun x : GroupSt => x.g == g) found⟩
    rw [if_pos known, find?_group_map keeps, found]
    simp
  | none =>
    have new : d.vot.groups.any (fun x => x.g == g) = false := by simpa using found
    simp [new, found, keeps, GroupSt.new]

theorem Dev.onGroup_group_ne {h : Group} (other : h ≠ g) : (d.onGroup g f).group h = d.group h := by
  unfold Dev.onGroup Dev.onVot Dev.group
  dsimp only
  split_ifs with known
  · rw [find?_group_map keeps]
    simp [other]
  · simp [keeps, GroupSt.new, other.symm]

end

/-! ### Posts -/

@[simp] theorem Dev.onGroup_lane (d : Dev) (g : Group) (f : GroupSt → GroupSt) (l : Lane) : (d.onGroup g f).lane l = d.lane l := rfl
@[simp] theorem Dev.onLane_group (d : Dev) (l : Lane) (f : LaneSt → LaneSt) (g : Group) : (d.onLane l f).group g = d.group g := rfl
@[simp] theorem Dev.onGroup_liveFc (d : Dev) (g : Group) (f : GroupSt → GroupSt) : (d.onGroup g f).vot.liveFc = d.vot.liveFc := by
  unfold Dev.onGroup Dev.onVot
  dsimp only
  split_ifs <;> rfl

theorem Dev.dcqFill_of_direct (d : Dev) (l : Lane) {g : Group} (direct : groupPlace g ≠ .frame) :
    d.dcqFill l g = ((d.group g).flight.get l).length := by
  unfold Dev.dcqFill
  split
  · contradiction
  · rfl
theorem groupDcq_depth_of_direct {g : Group} (direct : groupPlace g ≠ .frame) : (groupDcq g).depth = 16 := by
  unfold groupDcq
  split
  · contradiction
  · rfl

/-- A word without the TAG that its post fills in. -/
def VWord.untagged (w : VWord) : VWord := { w with tag := 0 }

/-- From d to d' lane l has posted the words ps, in order, each to its group; the lane's memory and sequencer, the other
lanes, the live lanes at the boundary and what lies outside have stayed. -/
structure Dev.Posted (l : Lane) (ps : List (Group × VWord)) (d d' : Dev) : Prop where
  flight : ∀ g : Group, ((d'.group g).flight.get l).map VWord.untagged =
    ((d.group g).flight.get l).map VWord.untagged ++ (ps.filter (fun p => p.1 == g)).map (fun p => p.2.untagged)
  mem : (d'.lane l).mem = (d.lane l).mem
  seq : (d'.lane l).seq = (d.lane l).seq
  others : ∀ m : Lane, m ≠ l → d'.lane m = d.lane m
  liveFc : d'.vot.liveFc = d.vot.liveFc
  outside : d.SameOutside d'

/-- The posts of a list, in order. -/
def Dev.postAll (d : Dev) (l : Lane) (entry unit : Nat) (ps : List (Group × VWord)) : Dev :=
  ps.foldl (fun d p => d.postWord l p.1 p.2 entry unit) d

section
variable {l : Lane} {ps rs : List (Group × VWord)} {d d' d'' : Dev}

theorem Dev.SameOutside.refl (d : Dev) : d.SameOutside d := ⟨rfl, rfl, rfl, rfl, rfl, rfl, rfl, rfl, rfl, rfl⟩
theorem Dev.SameOutside.trans (h : d.SameOutside d') (h' : d'.SameOutside d'') : d.SameOutside d'' := by
  simp_all [Dev.SameOutside]

theorem Dev.Posted.nil (d : Dev) : Dev.Posted l [] d d :=
  ⟨by simp, rfl, rfl, fun _ _ => rfl, rfl, .refl d⟩
theorem Dev.Posted.append (h : Dev.Posted l ps d d') (h' : Dev.Posted l rs d' d'') : Dev.Posted l (ps ++ rs) d d'' where
  flight g := by rw [h'.flight, h.flight, List.filter_append, List.map_append, List.append_assoc]
  mem := h'.mem.trans h.mem
  seq := h'.seq.trans h.seq
  others m other := (h'.others m other).trans (h.others m other)
  liveFc := h'.liveFc.trans h.liveFc
  outside := h.outside.trans h'.outside

/-- A queue holds as many words more as were posted to its group. -/
theorem Dev.Posted.fill (h : Dev.Posted l ps d d') {g : Group} (direct : groupPlace g ≠ .frame) :
    d'.dcqFill l g = d.dcqFill l g + (ps.filter (fun p => p.1 == g)).length := by
  rw [Dev.dcqFill_of_direct _ _ direct, Dev.dcqFill_of_direct _ _ direct]
  simpa using congrArg List.length (h.flight g)
theorem Dev.Posted.runs (h : Dev.Posted l ps d d') : d'.runs l = d.runs l := Dev.runs_congr (congrArg _ h.seq)
theorem Dev.Posted.hubLoss (h : Dev.Posted l ps d d') : d'.hubLoss = d.hubLoss := by
  have strobes (m : Lane) : (d'.lane m).seq.noStrobe = (d.lane m).seq.noStrobe := by
    by_cases own : m = l
    · rw [own, h.seq]
    · rw [h.others m own]
  simp only [Dev.hubLoss, strobes]
/-- The safety input word that a lane holds does not depend on its posts. -/
theorem Dev.Posted.laneInput (h : Dev.Posted l ps d d') : d'.laneInput = d.laneInput := by
  obtain ⟨gd, -, -, -, -, safe, -⟩ := h.outside
  simp only [Dev.laneInput, h.hubLoss, h.liveFc, gd, safe]

/-- A running lane whose queue has room posts the word (R34). -/
theorem postWord_posted {g : Group} (w : VWord) (entry unit : Nat) (runs : d.runs l = true) (direct : groupPlace g ≠ .frame)
    (room : d.dcqFill l g < 16) : Dev.Posted l [(g, w)] d (d.postWord l g w entry unit) := by
  have accepts : ¬ (groupDcq g).depth ≤ d.dcqFill l g := by rw [groupDcq_depth_of_direct direct]; omega
  simp only [Dev.postWord, runs, accepts, Bool.not_true, Bool.false_eq_true, if_false]
  refine ⟨fun h => ?_, ?_, ?_, fun m other => ?_, ?_, ?_⟩
  · by_cases same : h = g
    · subst same
      simp [VWord.untagged]
    · rw [Dev.onGroup_group_ne _ (by intro _; rfl) same]
      simp [Ne.symm same]
  · simp [LaneSt.addCrc, LaneSt.countPost]
  · simp [LaneSt.addCrc, LaneSt.countPost]
  · simp [Dev.onLane_lane_ne _ _ _ _ other]
  · simp
  · exact Dev.SameOutside.refl d

/-- Posts that all their queues have room for are all accepted. -/
theorem postAll_posted (entry unit : Nat) (runs : d.runs l = true) (direct : ∀ p ∈ ps, groupPlace p.1 ≠ .frame)
    (room : ∀ p ∈ ps, d.dcqFill l p.1 + (ps.filter (fun r => r.1 == p.1)).length ≤ 16) :
    Dev.Posted l ps d (d.postAll l entry unit ps) := by
  induction ps generalizing d with
  | nil => exact .nil d
  | cons p r ih =>
    have firstRoom : d.dcqFill l p.1 < 16 := by
      have : d.dcqFill l p.1 + ((r.filter (fun x => x.1 == p.1)).length + 1) ≤ 16 := by simpa using room p List.mem_cons_self
      omega
    have first := postWord_posted p.2 entry unit runs (direct p List.mem_cons_self) firstRoom
    refine first.append (ih (first.runs.trans runs) (fun x hx => direct x (List.mem_cons_of_mem _ hx)) fun x hx => ?_)
    rw [first.fill (direct x (List.mem_cons_of_mem _ hx)), add_assoc, ← List.length_append, ← List.filter_append]
    exact room x (List.mem_cons_of_mem _ hx)

/-- The VALUEs in flight after posts. -/
theorem Dev.Posted.values (h : Dev.Posted l ps d d') (g : Group) : ((d'.group g).flight.get l).map (·.value) =
    ((d.group g).flight.get l).map (·.value) ++ (ps.filter (fun p => p.1 == g)).map (·.2.value) := by
  simpa [Function.comp_def, VWord.untagged] using congrArg (List.map VWord.value) (h.flight g)
/-- The LAUNCH fields in flight after posts. -/
theorem Dev.Posted.launches (h : Dev.Posted l ps d d') (g : Group) : ((d'.group g).flight.get l).map (·.launch) =
    ((d.group g).flight.get l).map (·.launch) ++ (ps.filter (fun p => p.1 == g)).map (·.2.launch) := by
  simpa [Function.comp_def, VWord.untagged] using congrArg (List.map VWord.launch) (h.flight g)

end

end Sys2Proof.Machine
end

section
/-! SUPPORT. The safety demand words and the digest words (R82, R352, R360, R213). -/

namespace Sys2Proof.Machine
open Sys2Proof

/-! ### The bits of a demand word -/

theorem stopBits_below {state i : Nat} (low : i < 4) : (BitVec.ofNat 32 (stopBits state)).getLsbD i = decide (2 ≤ state) := by
  rcases state with _ | _ | state
  · revert i; decide
  · revert i; decide
  · have all : ∀ i < 4, (15#32).getLsbD i = true := by decide
    simp [stopBits, all i low]
theorem stopBits_safeOk (state : Nat) : (BitVec.ofNat 32 (stopBits state)).getLsbD 4 = decide (state = 0) := by
  rcases state with _ | _ | state
  · decide
  · decide
  · simp [stopBits]

theorem flag_getLsbD (c : Bool) (m : BitVec 32) (i : Nat) : (if c then m else 0#32).getLsbD i = (c && m.getLsbD i) := by
  cases c <;> simp

section
variable (q : LaneSt) (w : SigWord)

theorem demandBits_getLsbD (i : Nat) : (demandBits q w).getLsbD i =
    ((w.mant.getLsbD i || (BitVec.ofNat 32 (stopBits q.stop.state)).getLsbD i) && (15#32).getLsbD i ||
      w.mant.getLsbD i && (BitVec.ofNat 32 (stopBits q.stop.state)).getLsbD i && (16#32).getLsbD i ||
      q.dcl.f4l && (3#32).getLsbD i) := by
  simp only [demandBits, BitVec.getLsbD_or, BitVec.getLsbD_and, BitVec.ofNat_eq_ofNat, flag_getLsbD]

/-- STO_A and STO_B: the demand word, the safe stop block or F4L asks for the output off. -/
theorem demandBits_sto {i : Nat} (sto : i < 2) :
    (demandBits q w).getLsbD i = (w.mant.getLsbD i || decide (2 ≤ q.stop.state) || q.dcl.f4l) := by
  have masks : ∀ i < 2, (15#32).getLsbD i = true ∧ (16#32).getLsbD i = false ∧ (3#32).getLsbD i = true := by decide
  simp [demandBits_getLsbD, stopBits_below (show i < 4 by omega), masks i sto]
/-- PB_A and PB_B: the demand word or the safe stop block asks for the brake. -/
theorem demandBits_brake {i : Nat} (low : i < 4) (brake : 2 ≤ i) :
    (demandBits q w).getLsbD i = (w.mant.getLsbD i || decide (2 ≤ q.stop.state)) := by
  have masks : ∀ i < 4, 2 ≤ i → (15#32).getLsbD i = true ∧ (16#32).getLsbD i = false ∧ (3#32).getLsbD i = false := by decide
  simp [demandBits_getLsbD, stopBits_below low, masks i low brake]
/-- SAFE_OK: the demand word asks for it and the safe stop block is in RUN. -/
theorem demandBits_safeOk : (demandBits q w).getLsbD 4 = (w.mant.getLsbD 4 && decide (q.stop.state = 0)) := by
  rw [demandBits_getLsbD, stopBits_safeOk]
  simp

/-- VALUE for group A. -/
theorem demandValue_groupA : BitVec.ofNat 24 (demandValue q w false) = if w.st.valid then BitVec.ofNat 24
    ((if w.mant.getLsbD 0 || decide (2 ≤ q.stop.state) || q.dcl.f4l then 1 else 0) +
      (if w.mant.getLsbD 2 || decide (2 ≤ q.stop.state) then 2 else 0) +
      (if w.mant.getLsbD 4 && decide (q.stop.state = 0) then 4 else 0)) else 3 := by
  simp only [demandValue, demandBits_sto q w (show 0 < 2 by decide), demandBits_brake q w (show 2 < 4 by decide) (by decide),
    demandBits_safeOk]
  cases w.st.valid <;> rfl
/-- VALUE for group B. -/
theorem demandValue_groupB : BitVec.ofNat 24 (demandValue q w true) = if w.st.valid then BitVec.ofNat 24
    ((if w.mant.getLsbD 1 || decide (2 ≤ q.stop.state) || q.dcl.f4l then 1 else 0) +
      (if w.mant.getLsbD 3 || decide (2 ≤ q.stop.state) then 2 else 0)) else 3 := by
  simp only [demandValue, demandBits_sto q w (show 1 < 2 by decide), demandBits_brake q w (show 3 < 4 by decide) (by decide)]
  cases w.st.valid <;> rfl

end

/-! ### The two operations as posts -/

/-- The demand word of a safety demand entry, in the lane that dispatches it. -/
def demandWord (l : Lane) (g : Img) (e : Entry) (d : Dev) : SigWord := (d.lane l).sig (dw (g.desc e.operand 1) 63 49)

/-- The words of a safety demand post. -/
def demandPosts (l : Lane) (g : Img) (e : Entry) (d : Dev) : List (Group × VWord) :=
  [(.safetyA, wordAt (8 * d.nextFc) 0 (demandValue (d.lane l) (demandWord l g e d) false)),
    (.safetyB, wordAt (8 * d.nextFc) 0 (demandValue (d.lane l) (demandWord l g e d) true))]
/-- The words of a state digest with CRC c: its three parts, to each drive die. -/
def digestPosts (c : Nat) : List (Group × VWord) :=
  [0, 1].flatMap (fun die => [bits c 63 40, bits c 39 16, bits c 15 0].map (fun v => (.digest die, wordAt 0 0 v)))

/-- IN takes the safety input word as the lane holds it. -/
def Dev.putInput (l : Lane) (g : Img) (e : Entry) (d : Dev) : Dev :=
  d.onLane l (fun q => q.setSig (dw (g.desc e.operand 1) 48 34) (sigInt d.laneInput.toInt Status.ok))

theorem exec_safetyDemandPost (l : Lane) (p : Bool) (s : State) : exec (.safetyDemandPost l p) s =
    s.onDev (fun d => dispatch d l p (clsIs 0x34) (fun g e d =>
      (d.postAll l ((d.lane l).seq.ptr - 1) e.unit (demandPosts l g e d)).putInput l g e)) := rfl
theorem exec_stateDigestSlice (l : Lane) (p : Bool) (s : State) : exec (.stateDigestSlice l p) s =
    s.onDev (fun d => dispatch d l p (clsIs 0x38) (fun g e d =>
      d.postAll l ((d.lane l).seq.ptr - 1) e.unit (digestPosts (crc64 (sliceBytes (d.lane l).mem g d.fcStart)).toNat))) := rfl

theorem wordAt_launch (t item value : Nat) : (wordAt (8 * t) item value).launch = BitVec.ofNat 32 t := by
  rw [wordAt, Nat.mul_div_cancel_left t (by decide)]

section
variable {s : State} {l : Lane} {g : Img} {e : Entry} (ready : s.dev.Ready l g e)
include ready

/-- A ready entry ends in what its operation makes of the begun device. -/
theorem ends_of_dispatch {c : Instr} {ok : Img → Entry → Bool} {body : Img → Entry → Dev → Dev} {P : Dev → Prop}
    (accepted : ok g e = true) (meaning : exec c s = s.onDev (fun d => dispatch d l false ok body))
    (result : P (body g e (s.dev.begun l g e))) : Ends c s l g e P :=
  ⟨_, meaning.trans (onDev_dispatch_ready s l g e ok body ready accepted), result⟩

/-- A ready entry posts all words that their queues have room for. -/
theorem begun_postAll_posted {ps : List (Group × VWord)} (entry unit : Nat) (direct : ∀ p ∈ ps, groupPlace p.1 ≠ .frame)
    (room : ∀ p ∈ ps, s.dev.dcqFill l p.1 + (ps.filter (fun r => r.1 == p.1)).length ≤ 16) :
    Dev.Posted l ps (s.dev.begun l g e) ((s.dev.begun l g e).postAll l entry unit ps) := by
  obtain ⟨-, -, runs, -⟩ := ready
  exact postAll_posted _ _ ((begun_runs ..).trans runs) direct room

theorem demandPosts_posted (entry unit : Nat) (roomA : s.dev.dcqFill l .safetyA < 16) (roomB : s.dev.dcqFill l .safetyB < 16) :
    Dev.Posted l (demandPosts l g e (s.dev.begun l g e)) (s.dev.begun l g e)
      ((s.dev.begun l g e).postAll l entry unit (demandPosts l g e (s.dev.begun l g e))) := by
  apply begun_postAll_posted ready entry unit
  · simp [demandPosts, groupPlace]
  · simpa [demandPosts] using And.intro roomA roomB

theorem digestPosts_posted (entry unit : Nat) (c : Nat) (room : ∀ k < 2, s.dev.dcqFill l (.digest k) ≤ 13) :
    Dev.Posted l (digestPosts c) (s.dev.begun l g e) ((s.dev.begun l g e).postAll l entry unit (digestPosts c)) := by
  apply begun_postAll_posted ready entry unit
  · simp [digestPosts, groupPlace]
  · simpa [digestPosts] using And.intro (room 0 (by decide)) (room 1 (by decide))

end

section
variable {l : Lane} {g : Img} {e : Entry} {ps : List (Group × VWord)} {d d' : Dev} (posted : Dev.Posted l ps d d')
include posted

/-- After posts IN holds the input word that the lane held before them. -/
theorem Dev.Posted.putInput_sig (wf : memWf (d.lane l).mem = true) :
    ((d'.putInput l g e).lane l).sig (dw (g.desc e.operand 1) 48 34) = sigInt d.laneInput.toInt Status.ok := by
  rw [Dev.putInput, Dev.onLane_lane, LaneSt.sig_setSig (posted.mem ▸ wf), posted.laneInput]
theorem Dev.Posted.putInput_sig_ne (wf : memWf (d.lane l).mem = true) {j : Nat} (other : j ≠ dw (g.desc e.operand 1) 48 34) :
    ((d'.putInput l g e).lane l).sig j = (d.lane l).sig j := by
  rw [Dev.putInput, Dev.onLane_lane, LaneSt.sig_setSig_ne (posted.mem ▸ wf) _ other, LaneSt.sig, posted.mem, LaneSt.sig]

end

/-- Settles O26: the safety demand post and the digest slice are accepted posts of a ready entry; the demand words are read bit by bit,
and IN is written from an input word that the posts leave alone. -/
theorem safetyAndDigestPosts : Obligations.SafetyAndDigestPosts := by
  intro s l g e ready w1 d0 q dem fl down sto brake ok
  refine ⟨fun cls wf roomA roomB => ?_, fun cls room => ?_⟩
  · have posted := demandPosts_posted ready (q.seq.ptr - 1) e.unit roomA roomB
    refine ends_of_dispatch ready (beq_iff_eq.2 cls) (exec_safetyDemandPost l false s)
      ⟨?_, ?_, ?_, posted.putInput_sig wf, fun j other => posted.putInput_sig_ne wf other, fun m other => ?_, ?_⟩
    · refine (posted.values .safetyA).trans (congrArg (_ ++ ·) ?_)
      exact congrArg (fun v => [v]) (demandValue_groupA q dem)
    · refine (posted.values .safetyB).trans (congrArg (_ ++ ·) ?_)
      exact congrArg (fun v => [v]) (demandValue_groupB q dem)
    · rw [← List.getLast?_map]
      exact (congrArg List.getLast? (posted.launches .safetyA)).trans (List.getLast?_concat.trans (congrArg some (wordAt_launch ..)))
    · rw [Dev.putInput, Dev.onLane_lane_ne _ _ _ _ other, posted.others m other, begun_lane_ne _ _ _ _ _ other]
    · exact (begun_outside ..).trans posted.outside
  · have posted := digestPosts_posted ready (q.seq.ptr - 1) e.unit (crc64 (sliceBytes q.mem g d0.fcStart)).toNat room
    refine ends_of_dispatch ready (beq_iff_eq.2 cls) (exec_stateDigestSlice l false s)
      ⟨fun k low => ?_, posted.mem, fun m other => ?_, (begun_outside ..).trans posted.outside⟩
    · refine (posted.values (.digest k)).trans (congrArg (_ ++ ·) ?_)
      interval_cases k <;> rfl
    · rw [posted.others m other, begun_lane_ne _ _ _ _ _ other]

end Sys2Proof.Machine
end

section
/-! SUPPORT. How a mailbox command is served and answered (R382, R387, R389, R390, R427), and what a counter reads (R385, R386). -/

namespace Sys2Proof.Machine
open Sys2Proof

/-! ### Counters -/

theorem lookupNat_putNat {α : Type} (l : List (Nat × α)) (k : Nat) (v : α) : lookupNat (putNat l k v) k = some v := by
  induction l with
  | nil => simp [putNat, lookupNat]
  | cons e r ih =>
    rw [putNat]
    split_ifs with here
    · simp [lookupNat]
    · simpa [lookupNat, List.find?_cons, here] using ih
theorem lookupNat_putNat_ne {α : Type} (l : List (Nat × α)) {k j : Nat} (v : α) (other : j ≠ k) :
    lookupNat (putNat l k v) j = lookupNat l j := by
  induction l with
  | nil => simp [putNat, lookupNat, other.symm]
  | cons e r ih =>
    rw [putNat]
    split_ifs with here
    · simp [lookupNat, here, other.symm]
    · simp only [lookupNat, List.find?_cons] at ih ⊢
      split <;> simp [ih]

theorem Dev.count_grew (d : Dev) (a : Nat) : d.Grew (d.count a 1) a := lookupNat_putNat ..
theorem Dev.count_lookup_ne (d : Dev) {a b : Nat} (n : Nat) (other : b ≠ a) :
    lookupNat (d.count a n).host.cnt b = lookupNat d.host.cnt b := lookupNat_putNat_ne _ _ other

/-! ### Lists -/

theorem modAt_getD {α : Type} {l : List α} {i : Nat} (inside : i < l.length) (f : α → α) (x : α) :
    (modAt l i f).getD i x = f (l.getD i x) := by
  simp [modAt, inside]
theorem modAt_getD_ne {α : Type} (l : List α) {i j : Nat} (f : α → α) (x : α) (other : j ≠ i) :
    (modAt l i f).getD j x = l.getD j x := by
  simp [modAt, other.symm]

/-! ### Answers -/

section
variable {c : Instr} {s : State} {P Q : Dev → Prop}

theorem Does.imp (done : Does c s P) (weaker : ∀ d, P d → Q d) : Does c s Q := by
  obtain ⟨t, step, queue, holds⟩ := done
  exact ⟨t, step, queue, weaker _ holds⟩

end

section
variable (d : Dev) (r : Request)

/-- A command touches nothing but the claim of the transfer buffer before it acts (R392). -/
theorem Dev.touched_eq : ∃ x, d.touched r = d.onMgmt (fun m => { m with claim := x }) := by
  unfold Dev.touched
  split
  · split_ifs
    · exact ⟨_, rfl⟩
    · exact ⟨d.mgmt.claim, rfl⟩
  · exact ⟨d.mgmt.claim, rfl⟩

@[simp] theorem Dev.touched_can : (d.touched r).can = d.can := by
  obtain ⟨x, eq⟩ := d.touched_eq r
  rw [eq, Dev.onMgmt_can]
@[simp] theorem Dev.touched_chan (i : Nat) : (d.touched r).chan i = d.chan i := by rw [Dev.chan, Dev.touched_can, Dev.chan]
@[simp] theorem Dev.touched_host : (d.touched r).host = d.host := by
  obtain ⟨x, eq⟩ := d.touched_eq r
  rw [eq, Dev.onMgmt_host]
@[simp] theorem Dev.touched_nextJob : (d.touched r).mgmt.nextJob = d.mgmt.nextJob := by
  obtain ⟨x, eq⟩ := d.touched_eq r
  rw [eq]; rfl
theorem Dev.touched_quiet : d.Quiet (d.touched r) := by
  obtain ⟨x, eq⟩ := d.touched_eq r
  rw [eq]
  exact ⟨rfl, rfl, rfl, rfl, rfl, rfl, rfl, rfl, rfl, rfl, rfl, rfl, rfl⟩

end

section
variable {d d' : Dev} {r : Request} {code : Nat}

/-- A served request reaches the body of its command. -/
theorem command_serves (serves : d.Serves r code) (body : Dev → Dev) : command d r code body = body (d.touched r) := by
  obtain ⟨drains, mbox, -, len, lanes, image⟩ := serves
  have known : (codeLen code).isNone = false := by
    cases h : codeLen code with
    | none => simp [lenOk, h] at len
    | some p => rfl
  have lanesThere : (needsLanes code && !d.boot.released) = false := by cases h : needsLanes code <;> simp_all
  have imageThere : (needsImage code && d.boot.running.isNone) = false := by cases h : needsImage code <;> simp_all
  have boot : (d.touched r).boot = d.boot := by
    obtain ⟨x, eq⟩ := d.touched_eq r
    rw [eq, Dev.onMgmt_boot]
  have inside : ¬ (10 ≤ r.mbox ∧ r.mbox ≤ 12) ∧ ¬ 15 ≤ r.mbox ∧ r.mbox ≠ 14 ∧ r.mbox ≠ 13 := by omega
  obtain ⟨notInternal, notOut, notDebug, notRelay⟩ := inside
  simp only [command, drains, notInternal, notOut, notDebug, notRelay, known, len, Bool.not_true, decide_false, Bool.or_self,
    Bool.false_eq_true, if_false, Bool.false_and]
  change (if (needsLanes code && !(d.touched r).boot.released) = true then _ else
    if (needsImage code && (d.touched r).boot.running.isNone) = true then _ else body (d.touched r)) = _
  simp only [boot, lanesThere, imageThere, Bool.false_eq_true, if_false]

/-- A reply alters the host window alone. -/
theorem sendReply_eq (d : Dev) (m : Nat) (ws : List Word) : ∃ f, sendReply d m ws = d.onHost f := by
  unfold sendReply
  split_ifs
  · exact ⟨_, rfl⟩
  · exact ⟨fun _ => (d.fillOut m ws).host, rfl⟩

theorem Dev.Quiet.chan (quiet : d.Quiet d') (i : Nat) : d'.chan i = d.chan i := by
  obtain ⟨-, -, -, -, -, can, -⟩ := quiet
  rw [Dev.chan, can, Dev.chan]
theorem Dev.Quiet.sendReply (quiet : d.Quiet d') (m : Nat) (ws : List Word) : d.Quiet (sendReply d' m ws) := by
  obtain ⟨f, eq⟩ := sendReply_eq d' m ws
  rw [eq]
  exact quiet

/-- The reply goes where R382 sends it. -/
theorem sendReply_answered {m : Nat} (ws : List Word) (host : d'.host = d.host) (sixteen : d.host.outb.length = 16) (inside : m < 16) :
    d.Answered (sendReply d' m ws) m ws := by
  unfold Dev.Answered Machine.sendReply Dev.outb
  rw [host]
  split_ifs
  · simp [Dev.onHost, host]
  · refine ⟨modAt_getD (by rw [host]; omega) _ _, ?_, ?_⟩
    · change d'.host.replies = _
      rw [host]
    · have bell : (BitVec.ofNat 32 (2 ^ m)).getLsbD m = true := by
        rw [BitVec.getLsbD_ofNat, Nat.testBit_two_pow_self, decide_eq_true (by omega), Bool.and_self]
      change (_ ||| BitVec.ofNat 32 (2 ^ m)).getLsbD m = true
      rw [BitVec.getLsbD_or, bell, Bool.or_true]

/-- A long command joins the jobs as the newest of the 32 that are kept (R389); the rest of what changes is the host window. -/
theorem accept_eq (d : Dev) (r : Request) (code due : Nat) (pids : List Nat) :
    ∃ (j : Job) (next : Nat) (f : HostSt → HostSt), j.num = d.mgmt.nextJob ∧ j.code = code ∧ j.req = r ∧
      (accept d r code due pids).1 =
        (d.onMgmt (fun m => { m with jobs := (m.jobs ++ [j]).drop (m.jobs.length + 1 - 32), nextJob := next })).onHost f :=
  ⟨_, _, _, rfl, rfl, rfl, (sendReply_eq _ _ _).choose_spec⟩

/-- The reply ACCEPTED and the job it names. -/
theorem accept_accepted (code due : Nat) (pids : List Nat) (host : d'.host = d.host) (next : d'.mgmt.nextJob = d.mgmt.nextJob)
    (sixteen : d.host.outb.length = 16) (inside : r.mbox < 16) : d.Accepted (accept d' r code due pids).1 r code := by
  obtain ⟨j, n, f, num, jobCode, req, eq⟩ := accept_eq d' r code due pids
  refine ⟨?_, j, ?_, num.trans next, jobCode, req⟩
  · rw [← next]
    exact sendReply_answered _ host sixteen inside
  · rw [eq, Dev.onHost_mgmt, Dev.onMgmt, List.drop_append_of_le_length (by omega)]
    exact List.mem_append_right _ List.mem_cons_self

/-- An ended job is kept with its STATUS. -/
theorem Dev.endJob_job (d : Dev) {j : Job} (kept : j ∈ d.mgmt.jobs) (runs : j.done = false) (status detail : Nat) :
    ∃ k ∈ (d.endJob j.num status detail).mgmt.jobs, k.num = j.num ∧ k.done = true ∧ k.status = status :=
  ⟨_, List.mem_map_of_mem kept, by simp [runs]⟩

end

end Sys2Proof.Machine
end

section
/-! SUPPORT. What an operation makes of one CAN channel: the channel becomes a new one, and the other channels and the rest of the hub
and the lanes stay (R310, R315 to R317, R323). -/

namespace Sys2Proof.Machine
open Sys2Proof

/-! ### The buffers of a channel -/

/-- A buffer with REQ ends with result r, another stays. -/
def CanBuf.endIfReq (x : CanBuf) (r : Nat) : CanBuf := if x.req then x.finish r else x
/-- A buffer once REQ is written: it waits, unless it does already (R316). -/
def CanBuf.request (x : CanBuf) : CanBuf := if x.req then x else { x with req := true, abort := false, result := 0, coll := 0 }
/-- The channel once ABORT of a requested buffer is written: the one being sent waits for its attempt, another ends at once (R317). -/
def CanSt.abortBuf (c : CanSt) (b : Nat) : CanSt :=
  c.onBuf b (fun x => if c.sending.map (·.1) = some b then { x with abort := true } else x.finish 2)
/-- The channel with all its requested buffers ended with result r. -/
def CanSt.endBufs (c : CanSt) (r : Nat) : CanSt := [0, 1, 2].foldl (fun c b => c.onBuf b (·.endIfReq r)) c
/-- The channel as it is off the bus (R315, R323). -/
def CanSt.offBus (c : CanSt) : CanSt := { c with initReq := false, sending := none, bus := if c.bus = 2 then 2 else 3 }
/-- The channel once its recovery has begun, if it is in bus-off (R323). -/
def CanSt.recovering (c : CanSt) : CanSt := if c.bus = 2 then { c with boRec := true } else c
/-- The channel after recovery from bus-off (R323, R10). -/
def CanSt.recovered (c : CanSt) (again : Bool) : CanSt :=
  { c with boRec := again && !c.laneOwn, tec := 0, rec_ := 0, job := none, bus := if c.init then 3 else 0 }
/-- The channel once a write of CTRL has set INIT (R315). -/
def CanSt.inConfig (c : CanSt) (v : Word) : CanSt := { c with ie := bits v.toNat 23 20, init := true }

section
variable {c : CanSt} {b : Nat} {f : CanBuf → CanBuf}

theorem CanSt.onBuf_buf (inside : b < c.bufs.length) : (c.onBuf b f).buf b = f (c.buf b) := modAt_getD inside ..
theorem CanSt.onBuf_buf_ne {k : Nat} (other : k ≠ b) : (c.onBuf b f).buf k = c.buf k := modAt_getD_ne _ _ _ other
theorem CanSt.onBuf_length : (c.onBuf b f).bufs.length = c.bufs.length := List.length_modify ..
/-- Only what a change makes of the buffer counts. -/
theorem CanSt.onBuf_congr {g : CanBuf → CanBuf} (same : f (c.buf b) = g (c.buf b)) : c.onBuf b f = c.onBuf b g := by
  refine congrArg (fun bufs => { c with bufs }) (List.ext_getElem? fun i => ?_)
  rw [modAt, modAt, List.getElem?_modify, List.getElem?_modify]
  split_ifs with here
  · subst here
    cases entry : c.bufs[b]? with
    | none => rfl
    | some x =>
      have value : c.buf b = x := by simp [CanSt.buf, List.getD, entry]
      rw [value] at same
      exact congrArg some same
  · rfl
theorem CanSt.onBuf_id : c.onBuf b id = c := by rw [CanSt.onBuf, modAt, List.modify_id]

theorem CanSt.endBufs_buf (three : c.bufs.length = 3) (r : Nat) (inside : b < 3) : (c.endBufs r).buf b = (c.buf b).endIfReq r := by
  have unwrap (x : CanSt) (i : Nat) (len : x.bufs.length = 3) (low : i < 3) :
      ∀ k, (x.onBuf i (·.endIfReq r)).buf k = if k = i then (x.buf k).endIfReq r else x.buf k := by
    intro k
    split_ifs with here
    · rw [here, CanSt.onBuf_buf (len ▸ low)]
    · exact CanSt.onBuf_buf_ne here
  interval_cases b <;> simp [CanSt.endBufs, unwrap, CanSt.onBuf_length, three]

end

/-! ### One channel changes -/

/-- Channel ch of d has become c, and time, lanes, voters, drive dies, links, network, pair, safety I/O and the other channels stayed. -/
structure Dev.ChanBecomes (d : Dev) (ch : Nat) (c : CanSt) (d' : Dev) : Prop where
  can : d'.can = d.can.set ch c
  lanes : d'.lanes = d.lanes
  vot : d'.vot = d.vot
  gd : d'.gd = d.gd
  edge : d'.edge = d.edge
  net : d'.net = d.net
  pair : d'.pair = d.pair
  safe : d'.safe = d.safe
  time : d'.time = d.time

namespace Dev.ChanBecomes
variable {d d' : Dev} {ch : Nat} {c : CanSt}

theorem start (d : Dev) (ch : Nat) : d.ChanBecomes ch (d.chan ch) d := by
  refine ⟨?_, rfl, rfl, rfl, rfl, rfl, rfl, rfl, rfl⟩
  refine List.ext_getElem? fun i => ?_
  rw [List.getElem?_set]
  split_ifs with here inside
  · rw [← here, Dev.chan, List.getD_eq_getElem _ _ inside, List.getElem?_eq_getElem inside]
  · rw [← here, List.getElem?_eq_none (by omega)]
  · rfl

theorem chan (h : d.ChanBecomes ch c d') (inside : ch < d.can.length) : d'.chan ch = c := by
  simp [Dev.chan, h.can, inside]
theorem chan_ne (h : d.ChanBecomes ch c d') (k : Nat) (other : k ≠ ch) : d'.chan k = d.chan k := by
  simp [Dev.chan, h.can, other.symm]

variable (h : d.ChanBecomes ch c d')
include h

theorem onCan (f : CanSt → CanSt) : d.ChanBecomes ch (f c) (d'.onCan ch f) := by
  obtain ⟨can, lanes, vot, gd, edge, net, pair, safe, time⟩ := h
  refine ⟨?_, lanes, vot, gd, edge, net, pair, safe, time⟩
  change modAt d'.can ch f = _
  refine List.ext_getElem? fun i => ?_
  rw [can, modAt, List.getElem?_modify, List.getElem?_set, List.getElem?_set]
  split_ifs <;> simp
theorem putHost (x : HostSt) : d.ChanBecomes ch c { d' with host := x } :=
  ⟨h.can, h.lanes, h.vot, h.gd, h.edge, h.net, h.pair, h.safe, h.time⟩
theorem putMgmt (x : MgmtSt) : d.ChanBecomes ch c { d' with mgmt := x } :=
  ⟨h.can, h.lanes, h.vot, h.gd, h.edge, h.net, h.pair, h.safe, h.time⟩
theorem noteDegraded : d.ChanBecomes ch c (noteDegraded d') := by
  obtain ⟨can, lanes, vot, gd, edge, net, pair, safe, time⟩ := h
  constructor <;> simpa
theorem count (a n : Nat) : d.ChanBecomes ch c (d'.count a n) := h.putHost _
theorem canIgnored : d.ChanBecomes ch c (canIgnored d' ch) := (h.count _ _).count _ _
theorem canBell (i ie : Nat) : d.ChanBecomes ch c (canBell d' i ie) := by
  unfold Machine.canBell
  dsimp only
  split_ifs
  · exact h.putHost _
  · exact h.putHost _
  · exact h
theorem endJob? (n : Option Nat) (status detail : Nat) : d.ChanBecomes ch c (d'.endJob? n status detail) := by
  cases n with
  | none => exact h
  | some n => exact h.putMgmt _

theorem touched (r : Request) : d.ChanBecomes ch c (d'.touched r) := by
  obtain ⟨x, eq⟩ := d'.touched_eq r
  rw [eq]
  exact h.putMgmt _
theorem accept (r : Request) (code due : Nat) (pids : List Nat) : d.ChanBecomes ch c (accept d' r code due pids).1 := by
  obtain ⟨j, next, f, -, -, -, eq⟩ := accept_eq d' r code due pids
  rw [eq]
  exact (h.putMgmt _).putHost _

omit h in
/-- A device and its channel change by the same test. -/
theorem ite {p : Prop} [Decidable p] {c' : CanSt} {e e' : Dev} (yes : d.ChanBecomes ch c e) (no : d.ChanBecomes ch c' e') :
    d.ChanBecomes ch (if p then c else c') (if p then e else e') := by
  split_ifs
  · exact yes
  · exact no
theorem canIgnoredIf (b : Bool) : d.ChanBecomes ch c (if b then Machine.canIgnored d' ch else d') := by
  cases b with
  | true => exact h.canIgnored
  | false => exact h

end Dev.ChanBecomes

section
variable {d d' : Dev} {ch : Nat} {c : CanSt}

@[simp] theorem canBell_mgmt (d : Dev) (ch ie : Nat) : (canBell d ch ie).mgmt = d.mgmt := by
  unfold canBell
  dsimp only
  split_ifs <;> rfl

theorem canRecoverStart_becomes (h : d.ChanBecomes ch c d') : d.ChanBecomes ch c.recovering (canRecoverStart d' ch) :=
  h.onCan CanSt.recovering

variable (inside : ch < d.can.length)
include inside

theorem endAll_becomes (h : d.ChanBecomes ch c d') (r : Nat) : d.ChanBecomes ch (c.endBufs r) (endAll d' ch r) := by
  have ends (bs : List Nat) : ∀ {c d'}, d.ChanBecomes ch c d' →
      d.ChanBecomes ch (bs.foldl (fun c b => c.onBuf b (·.endIfReq r)) c) (bs.foldl (fun d b =>
        if ((d.chan ch).buf b).req then canBell (d.onCan ch (·.onBuf b (·.finish r))) ch 1 else d) d') := by
    induction bs with
    | nil => exact id
    | cons b bs ih =>
      intro c d' h
      refine ih ?_
      dsimp only
      rw [h.chan inside]
      split_ifs with req
      · have same : c.onBuf b (·.endIfReq r) = c.onBuf b (·.finish r) := CanSt.onBuf_congr (if_pos req)
        rw [same]
        exact (h.onCan (·.onBuf b (·.finish r))).canBell ..
      · have same : c.onBuf b (·.endIfReq r) = c := (CanSt.onBuf_congr (if_neg req)).trans CanSt.onBuf_id
        rwa [same]
  exact ends [0, 1, 2] h

theorem canOffBus_becomes (h : d.ChanBecomes ch c d') : d.ChanBecomes ch (c.offBus.endBufs 2) (canOffBus d' ch) :=
  endAll_becomes inside (h.onCan CanSt.offBus) 2

end

/-! ### The commands -/

section
variable (ch b : Nat) (s : State)

theorem exec_ctrlInitWrite (v : Word) : exec (.ctrlInitWrite ch v) s = s.onDev (fun d => onChan d ch (fun d => ctrlWrite d ch v)) := rfl
theorem exec_boRecover : exec (.boRecover ch) s =
    s.onDev (fun d => onChan d ch (fun d => if (d.chan ch).laneOwn then canIgnored d ch else canRecoverStart d ch)) := rfl
theorem exec_txcReq : exec (.txcReq ch b) s =
    s.onDev (fun d => onChan d ch (fun d => if (d.chan ch).laneOwn then canIgnored d ch else txReq d ch b)) := rfl
theorem exec_txcAbort : exec (.txcAbort ch b) s =
    s.onDev (fun d => onChan d ch (fun d => if (d.chan ch).laneOwn then canIgnored d ch else txAbort d ch b)) := rfl
theorem exec_canRecoveryComplete (again : Bool) : exec (.canRecoveryComplete ch again) s = s.onDev (fun d => onChan d ch (fun d =>
    if (d.chan ch).boRec && (d.chan ch).bus == 2 then
      noteDegraded (canBell ((d.onCan ch (·.recovered again)).endJob? (d.chan ch).job 0 0) ch 0)
    else d)) := rfl
theorem exec_canBusIntegrated : exec (.canBusIntegrated ch) s = s.onDev (fun d => onChan d ch (fun d =>
    if (d.chan ch).bus == 3 && !(d.chan ch).init then canBell (d.onCan ch (fun c => { c with bus := 0 })) ch 0 else d)) := rfl
theorem exec_canBusError (rec : Nat) : exec (.canBusError ch rec) s = s.onDev (fun d => onChan d ch (fun d =>
    if (d.chan ch).bus < 2 then canErrors d ch (d.chan ch).tec rec else d)) := rfl
theorem exec_canRecover (r : Request) : exec (.canRecover r) s = s.onDev (fun d => cmdCanRecover d r) := rfl

end

/-- A channel of the serving hub completes with what its operation makes of the device. -/
theorem does_of_onChan {s : State} {ch : Nat} {x : Instr} {f : Dev → Dev} {P : Dev → Prop} (up : s.dev.hubUp = true) (low : ch < 4)
    (meaning : exec x s = s.onDev (fun d => onChan d ch f)) (result : P (f s.dev)) : Does x s P := by
  have runs : onChan s.dev ch f = f s.dev := by simp [onChan, up, low]
  refine ⟨_, meaning, rfl, ?_⟩
  rwa [← runs] at result
/-- An operation that leaves the device leaves the state. -/
theorem exec_of_idle {s : State} {ch : Nat} {x : Instr} {f : Dev → Dev} (meaning : exec x s = s.onDev (fun d => onChan d ch f))
    (idle : f s.dev = s.dev) : exec x s = .next s := by
  have stays : onChan s.dev ch f = s.dev := by unfold onChan; split_ifs <;> simp [idle]
  rw [meaning, State.onDev, stays]

section
variable {d : Dev} {ch : Nat}

/-- Both counters of an ignored write grow: they are different words (Table 20-12). -/
theorem canIgnored_grew (d : Dev) (ch : Nat) : d.Grew (canIgnored d ch) (cMgmt 5) ∧ d.Grew (canIgnored d ch) (cCan ch 8) := by
  have apart : cMgmt 5 ≠ cCan ch 8 := by unfold cMgmt cCan; omega
  refine ⟨?_, ?_⟩
  · exact (Dev.count_lookup_ne _ 1 apart).trans (d.count_grew _)
  · have second := (d.count (cMgmt 5) 1).count_grew (cCan ch 8)
    rwa [Dev.Grew, Dev.count_lookup_ne _ 1 apart.symm] at second

/-! ### Writes of CTRL -/

theorem ctrlWrite_laneOwn (v : Word) (own : (d.chan ch).laneOwn = true) : ctrlWrite d ch v = canIgnored d ch := if_pos own

/-- A write with INIT 0 in configuration takes the new settings, and leaves configuration when the bit timings are in range (R315). -/
theorem ctrlWrite_leaves {v : Word} (own : (d.chan ch).laneOwn = false) (init : (d.chan ch).init = true) (leave : v.getLsbD 31 = false)
    (noRec : v.getLsbD 30 = false) (limit : bits v.toNat 27 24 ≠ 0) :
    let c := d.chan ch
    d.ChanBecomes ch { c with
      listen := v.getLsbD 29, order := v.getLsbD 28, collLim := bits v.toNat 27 24, ie := bits v.toNat 23 20,
      init := !(nbtOk c.nbt && dbtOk c.nbt c.dbt), initReq := c.initReq && !(nbtOk c.nbt && dbtOk c.nbt c.dbt) } (ctrlWrite d ch v) ∧
    (ctrlWrite d ch v).host = d.host := by
  intro c
  have set := ((Dev.ChanBecomes.start d ch).onCan (fun c => { c with ie := bits v.toNat 23 20 })).onCan (fun c => { c with
    listen := v.getLsbD 29, order := v.getLsbD 28, collLim := bits v.toNat 27 24 })
  simp only [ctrlWrite, own, init, leave, noRec, limit, if_false, if_true, Bool.false_eq_true, Bool.true_and]
  cases range : nbtOk c.nbt && dbtOk c.nbt c.dbt with
  | true =>
    refine ⟨?_, by simp⟩
    have left := set.onCan (fun c => { c with init := false, initReq := false })
    simpa [c, range] using left
  | false =>
    refine ⟨?_, by simp⟩
    simpa [c, range, init] using set

/-- A write with INIT 1 to a channel on the bus: it is in configuration, and off the bus at once or when the frame it sends ends (R315). -/
theorem ctrlWrite_enters {v : Word} (own : (d.chan ch).laneOwn = false) (init : (d.chan ch).init = false) (enter : v.getLsbD 31 = true)
    (noRec : v.getLsbD 30 = false) (inside : ch < d.can.length) :
    d.ChanBecomes ch (if (d.chan ch).sending.isSome then { (d.chan ch).inConfig v with initReq := true }
      else ((d.chan ch).inConfig v).offBus.endBufs 2) (ctrlWrite d ch v) := by
  have enabled := (Dev.ChanBecomes.start d ch).onCan (fun c => { c with ie := bits v.toNat 23 20 })
  have config := (enabled.canIgnoredIf (v.getLsbD 29 != (d.chan ch).listen || v.getLsbD 28 != (d.chan ch).order ||
    bits v.toNat 27 24 != (d.chan ch).collLim)).onCan (fun c => { c with init := true })
  simp only [ctrlWrite, own, init, enter, noRec, if_false, if_true, Bool.false_eq_true]
  exact .ite (config.onCan (fun c => { c with initReq := true })) (canOffBus_becomes inside config)

/-! ### The error counters -/

/-- Counters below 256 make a channel error active or error passive (R310). -/
theorem canErrors_becomes {rec : Nat} (tec : (d.chan ch).tec < 256) (low : rec < 256) :
    let c := d.chan ch
    d.ChanBecomes ch { c with rec_ := rec, bus := if 128 ≤ c.tec ∨ 128 ≤ rec then 1 else 0 } (canErrors d ch c.tec rec) := by
  intro c
  change c.tec < 256 at tec
  have state : busOf c.tec rec = if 128 ≤ c.tec ∨ 128 ≤ rec then 1 else 0 := by
    rw [busOf, if_neg (by omega)]
    simp
  have notOff : busOf c.tec rec ≠ 2 := by rw [state]; split_ifs <;> decide
  have tecStays : min 255 c.tec = c.tec := by omega
  have recStays : min 255 rec = rec := by omega
  have counted := (Dev.ChanBecomes.start d ch).onCan (fun x => { x with tec := c.tec, rec_ := rec, bus := busOf c.tec rec })
  rw [← state]
  simp only [canErrors, tecStays, recStays, notOff, if_false]
  split_ifs
  · exact counted
  · exact counted.canBell ..

/-! ### Requests of a buffer -/

theorem txReq_becomes (d : Dev) (ch b : Nat) : d.ChanBecomes ch ((d.chan ch).onBuf b (·.request)) (txReq d ch b) :=
  (Dev.ChanBecomes.start d ch).onCan (·.onBuf b (·.request))

theorem txAbort_becomes {b : Nat} (req : ((d.chan ch).buf b).req = true) : d.ChanBecomes ch ((d.chan ch).abortBuf b) (txAbort d ch b) := by
  have start := Dev.ChanBecomes.start d ch
  simp only [txAbort, req, Bool.not_true, Bool.false_eq_true, if_false, beq_iff_eq, CanSt.abortBuf]
  split_ifs
  · exact start.onCan (·.onBuf b (fun x => { x with abort := true }))
  · exact (start.onCan (·.onBuf b (·.finish 2))).canBell ..

/-! ### The mailbox command -/

/-- What CAN_RECOVER does with a channel of the device, 0 to 3 (R403). -/
theorem cmdCanRecover_serves {r : Request} (serves : d.Serves r 0x0801) (arg : argOf r 0 = ch) (low : ch < 4) :
    cmdCanRecover d r =
      if (d.chan ch).laneOwn = false ∨ (d.chan ch).bus ≠ 2 then refuse (d.touched r) r 0x0801 0x13 6
      else if (d.chan ch).job.isSome then refuse (d.touched r) r 0x0801 3 0
      else (canRecoverStart (accept (d.touched r) r 0x0801 0 []).1 ch).onCan ch (fun c => { c with job := some d.mgmt.nextJob }) := by
  have known : ¬ 3 < ch := by omega
  have number : (accept (d.touched r) r 0x0801 0 []).2 = d.mgmt.nextJob := d.touched_nextJob r
  rw [cmdCanRecover, command_serves serves]
  simp [arg, known, number]

/-- A refusal with ERR_STATE, which no counter of R371 counts, is the reply alone. -/
theorem refuse_state {r : Request} (serves : d.Serves r 0x0801) (detail : Nat) :
    d.Answered (refuse (d.touched r) r 0x0801 0x13 detail) r.mbox (replyWords r 0x0801 0 0x13 detail []) ∧
      d.Quiet (refuse (d.touched r) r 0x0801 0x13 detail) := by
  obtain ⟨-, mbox, sixteen, -⟩ := serves
  have uncounted : refuse (d.touched r) r 0x0801 0x13 detail = sendReply (d.touched r) r.mbox (replyWords r 0x0801 0 0x13 detail []) := rfl
  rw [uncounted]
  exact ⟨sendReply_answered _ (d.touched_host r) sixteen (by omega), (d.touched_quiet r).sendReply ..⟩

/-- The accepted recovery: its channel recovers under the new job. -/
theorem cmdCanRecover_accepted {r : Request} (serves : d.Serves r 0x0801) (arg : argOf r 0 = ch) (low : ch < 4)
    (own : (d.chan ch).laneOwn = true) (off : (d.chan ch).bus = 2) (free : (d.chan ch).job = none) :
    d.ChanBecomes ch { d.chan ch with boRec := true, job := some d.mgmt.nextJob } (cmdCanRecover d r) ∧
      d.Accepted (cmdCanRecover d r) r 0x0801 := by
  rw [cmdCanRecover_serves serves arg low, if_neg (by simp [own, off]), if_neg (by simp [free])]
  obtain ⟨-, mbox, sixteen, -⟩ := serves
  constructor
  · have changed := (canRecoverStart_becomes (((Dev.ChanBecomes.start d ch).touched r).accept r 0x0801 0 [])).onCan
      (fun c => { c with job := some d.mgmt.nextJob })
    rwa [CanSt.recovering, if_pos off] at changed
  · exact accept_accepted (d' := d.touched r) 0x0801 0 [] (d.touched_host r) (d.touched_nextJob r) sixteen (by omega)

end

/-! ### The commands on one channel -/

section
variable {s : State} {ch : Nat} (up : s.dev.hubUp = true) (low : ch < 4)
include up low

/-- A host command to a lane-owned channel is ignored and counted (R315 to R317). -/
theorem does_canIgnored (own : (s.dev.chan ch).laneOwn = true) {v : Word} {b : Nat} {x : Instr}
    (host : x = .ctrlInitWrite ch v ∨ x = .boRecover ch ∨ x = .txcReq ch b ∨ x = .txcAbort ch b) :
    Does x s (· = canIgnored s.dev ch) := by
  rcases host with rfl | rfl | rfl | rfl
  · exact does_of_onChan up low (exec_ctrlInitWrite ..) (ctrlWrite_laneOwn v own)
  · exact does_of_onChan up low (exec_boRecover ..) (if_pos own)
  · exact does_of_onChan up low (exec_txcReq ..) (if_pos own)
  · exact does_of_onChan up low (exec_txcAbort ..) (if_pos own)

/-- A host command to a management-owned channel does its work. -/
theorem does_of_managed (managed : (s.dev.chan ch).laneOwn = false) {x : Instr} {f : Dev → Dev} {P : Dev → Prop}
    (meaning : exec x s = s.onDev (fun d => onChan d ch (fun d => if (d.chan ch).laneOwn then canIgnored d ch else f d)))
    (result : P (f s.dev)) : Does x s P := by
  refine does_of_onChan up low meaning ?_
  rwa [managed, if_neg Bool.false_ne_true]

theorem boRecover_becomes (managed : (s.dev.chan ch).laneOwn = false) : Does (.boRecover ch) s (fun d =>
    s.dev.ChanBecomes ch (s.dev.chan ch).recovering d ∧ d.host = s.dev.host) :=
  does_of_managed up low managed (exec_boRecover ..) ⟨canRecoverStart_becomes (.start ..), rfl⟩

theorem txcReq_becomes (managed : (s.dev.chan ch).laneOwn = false) (b : Nat) : Does (.txcReq ch b) s (fun d =>
    s.dev.ChanBecomes ch ((s.dev.chan ch).onBuf b (·.request)) d ∧ d.host = s.dev.host) :=
  does_of_managed up low managed (exec_txcReq ..) ⟨txReq_becomes .., rfl⟩

theorem txcAbort_becomes (managed : (s.dev.chan ch).laneOwn = false) {b : Nat} (req : ((s.dev.chan ch).buf b).req = true) :
    Does (.txcAbort ch b) s (s.dev.ChanBecomes ch ((s.dev.chan ch).abortBuf b)) :=
  does_of_managed up low managed (exec_txcAbort ..) (txAbort_becomes req)

/-- The end of recovery (R323): the channel is error active or integrates, and its job, if one waits, has ended. -/
theorem canRecoveryComplete_becomes (again : Bool) (recovers : (s.dev.chan ch).boRec = true) (off : (s.dev.chan ch).bus = 2) :
    Does (.canRecoveryComplete ch again) s (fun d => s.dev.ChanBecomes ch ((s.dev.chan ch).recovered again) d ∧
      d.mgmt = (s.dev.endJob? (s.dev.chan ch).job 0 0).mgmt) := by
  have runs : ((s.dev.chan ch).boRec && (s.dev.chan ch).bus == 2) = true := by simp [recovers, off]
  refine does_of_onChan up low (exec_canRecoveryComplete ..) ?_
  rw [if_pos runs]
  refine ⟨((((Dev.ChanBecomes.start s.dev ch).onCan (·.recovered again)).endJob? ..).canBell ..).noteDegraded, ?_⟩
  rw [noteDegraded_mgmt, canBell_mgmt]
  cases (s.dev.chan ch).job <;> rfl

theorem canBusIntegrated_becomes (bus : (s.dev.chan ch).bus = 3) (init : (s.dev.chan ch).init = false) :
    Does (.canBusIntegrated ch) s (s.dev.ChanBecomes ch { s.dev.chan ch with bus := 0 }) := by
  refine does_of_onChan up low (exec_canBusIntegrated ..) ?_
  rw [if_pos (by simp [bus, init])]
  exact ((Dev.ChanBecomes.start s.dev ch).onCan (fun c => { c with bus := 0 })).canBell ..

end

/-- Settles O40: each command is an operation on one channel; what it makes of that channel is a `ChanBecomes` fact, from which the rest
of the hub and the lanes follow. -/
theorem canControl : Obligations.CanControl := by
  intro s ch up low four three c frame
  have inside : ch < s.dev.can.length := by omega
  have framed {c' : CanSt} {d : Dev} (h : s.dev.ChanBecomes ch c' d) : frame d :=
    ⟨h.chan_ne, h.lanes, h.vot, h.gd, h.edge, h.net, h.pair, h.safe, h.time⟩
  refine ⟨fun own v b x host => ?_, fun managed => ⟨fun v leave noRec limit init => ?_, fun v enter noRec init idle => ?_,
    fun v enter noRec init sends => ?_, ?_, fun b buffer => ?_, fun b buffer req => ?_, fun b free => ?_⟩,
    fun again recovers off => ?_, fun again idle => ?_, fun bus init => ?_, fun idle => ?_, fun rec bus tec small => ?_,
    fun rec off => ?_, fun r serves arg => ⟨fun wrong => ?_, fun own off free => ?_⟩, fun n recovers off init job => ?_⟩
  -- a host command to a lane-owned channel
  · obtain ⟨mgmt, chan⟩ := canIgnored_grew s.dev ch
    refine (does_canIgnored up low own host).imp fun d eq => ?_
    rw [eq]
    exact ⟨rfl, mgmt, chan, framed (Dev.ChanBecomes.start s.dev ch).canIgnored⟩
  -- CTRL_INIT_WRITE out of configuration
  · refine does_of_onChan up low (exec_ctrlInitWrite ..) ?_
    obtain ⟨left, host⟩ := ctrlWrite_leaves managed init leave noRec limit
    exact ⟨left.chan inside, host, framed left⟩
  -- CTRL_INIT_WRITE into configuration, of an idle channel and of one that sends
  · refine does_of_onChan up low (exec_ctrlInitWrite ..) ?_
    have entered := ctrlWrite_enters managed init enter noRec inside
    rw [if_neg (by simp [idle, c])] at entered
    rw [entered.chan inside]
    exact ⟨rfl, rfl, rfl, rfl, rfl, fun b buffer => CanSt.endBufs_buf three 2 buffer, framed entered⟩
  · refine does_of_onChan up low (exec_ctrlInitWrite ..) ?_
    have entered := ctrlWrite_enters managed init enter noRec inside
    rw [if_pos (Option.isSome_iff_ne_none.2 sends)] at entered
    rw [entered.chan inside]
    exact ⟨rfl, rfl, rfl, rfl, rfl, framed entered⟩
  -- BO_RECOVER
  · exact (boRecover_becomes up low managed).imp fun d ⟨h, host⟩ => ⟨h.chan inside, host, framed h⟩
  -- TXC_REQ
  · refine (txcReq_becomes up low managed b).imp fun d ⟨h, host⟩ => ⟨host, framed h, ?_⟩
    rw [h.chan inside]
    exact ⟨fun k other => CanSt.onBuf_buf_ne other, CanSt.onBuf_buf (three ▸ buffer)⟩
  -- TXC_ABORT
  · refine (txcAbort_becomes up low managed req).imp fun d h => ⟨framed h, ?_⟩
    rw [h.chan inside]
    exact ⟨fun k other => CanSt.onBuf_buf_ne other, CanSt.onBuf_buf (three ▸ buffer)⟩
  · exact exec_of_idle (exec_txcAbort ..) ((if_neg (by simp [managed, c])).trans (if_pos (by simp [free, c])))
  -- CAN_RECOVERY_COMPLETE
  · exact (canRecoveryComplete_becomes up low again recovers off).imp fun d ⟨h, _⟩ => ⟨h.chan inside, framed h⟩
  · exact exec_of_idle (exec_canRecoveryComplete ..) (if_neg (by rcases idle with h | h <;> simp [h, c]))
  -- CAN_BUS_INTEGRATED
  · exact (canBusIntegrated_becomes up low bus init).imp fun d h => ⟨h.chan inside, framed h⟩
  · exact exec_of_idle (exec_canBusIntegrated ..) (if_neg (by rcases idle with h | h <;> simp [h, c]))
  -- CAN_BUS_ERROR
  · refine does_of_onChan up low (exec_canBusError ..) ?_
    have counted := canErrors_becomes tec small
    rw [if_pos bus]
    exact ⟨counted.chan inside, framed counted⟩
  · exact exec_of_idle (exec_canBusError ..) (if_neg (by simp only [c] at off; omega))
  -- CAN_RECOVER refused, then accepted
  · have refused := cmdCanRecover_serves serves arg low
    rw [if_pos wrong] at refused
    obtain ⟨answered, quiet⟩ := refuse_state serves 6
    rw [← refused] at answered quiet
    exact ⟨_, exec_canRecover .., rfl, quiet.chan ch, answered, quiet⟩
  · obtain ⟨h, accepted⟩ := cmdCanRecover_accepted serves arg low own off free
    exact ⟨_, exec_canRecover .., rfl, h.chan inside, accepted, framed h⟩
  -- the job of CAN_RECOVER ends with the recovery
  · refine (canRecoveryComplete_becomes up low false recovers off).imp fun d ⟨h, mgmt⟩ => ⟨?_, fun j kept num runs => ?_⟩
    · rw [h.chan inside]
      exact if_neg (by simp [init, c])
    · rw [mgmt, job, ← num]
      exact s.dev.endJob_job kept runs 0 0

end Sys2Proof.Machine
end

section
/-! SUPPORT. What the update of a part makes of that part, and what a command answers whose meaning is an update of the device. -/

namespace Sys2Proof.Machine
open Sys2Proof

@[simp] theorem Dev.onTime_time (d : Dev) (f : TimeSt → TimeSt) : (d.onTime f).time = f d.time := rfl
@[simp] theorem Dev.onVot_vot (d : Dev) (f : VotSt → VotSt) : (d.onVot f).vot = f d.vot := rfl
@[simp] theorem Dev.onGd_gd (d : Dev) (f : GdSt → GdSt) : (d.onGd f).gd = f d.gd := rfl
@[simp] theorem Dev.onNet_net (d : Dev) (f : NetSt → NetSt) : (d.onNet f).net = f d.net := rfl
@[simp] theorem Dev.onPair_pair (d : Dev) (f : PairSt → PairSt) : (d.onPair f).pair = f d.pair := rfl
@[simp] theorem Dev.onSafe_safe (d : Dev) (f : SafetySt → SafetySt) : (d.onSafe f).safe = f d.safe := rfl
@[simp] theorem Dev.onHost_host (d : Dev) (f : HostSt → HostSt) : (d.onHost f).host = f d.host := rfl
@[simp] theorem Dev.onMgmt_mgmt (d : Dev) (f : MgmtSt → MgmtSt) : (d.onMgmt f).mgmt = f d.mgmt := rfl
@[simp] theorem Dev.onJr_jr (d : Dev) (f : JournalSt → JournalSt) : (d.onJr f).jr = f d.jr := rfl
@[simp] theorem Dev.onBoot_boot (d : Dev) (f : BootSt → BootSt) : (d.onBoot f).boot = f d.boot := rfl
@[simp] theorem Dev.onTest_test (d : Dev) (f : TestSt → TestSt) : (d.onTest f).test = f d.test := rfl
@[simp] theorem Dev.onPwr_pwr (d : Dev) (f : PowerSt → PowerSt) : (d.onPwr f).pwr = f d.pwr := rfl
@[simp] theorem Dev.onLink_edge (d : Dev) (i : Nat) (f : LinkSt → LinkSt) : (d.onLink i f).edge = modAt d.edge i f := rfl
@[simp] theorem Dev.onCan_can (d : Dev) (i : Nat) (f : CanSt → CanSt) : (d.onCan i f).can = modAt d.can i f := rfl

/-- Time moves on to a GCLK, never back. -/
theorem Dev.toClk_clk (d : Dev) (c : Nat) : (d.toClk c).clk = max d.clk c := by
  have pass (n : Nat) : (d.time.pass n).clk = d.time.clk + n := by unfold TimeSt.pass; split_ifs <;> rfl
  rw [Dev.clk, Dev.toClk, Dev.onTime_time, TimeSt.toClk, pass, ← Dev.clk]
  omega

/-- A command that always answers a next state. -/
theorem does_of_onDev {s : State} {c : Instr} {f : Dev → Dev} {P : Dev → Prop} (meaning : exec c s = s.onDev f) (result : P (f s.dev)) :
    Does c s P := ⟨_, meaning, rfl, result⟩
/-- A command that leaves the device leaves the state. -/
theorem next_of_onDev {s : State} {c : Instr} {f : Dev → Dev} (meaning : exec c s = s.onDev f) (idle : f s.dev = s.dev) :
    exec c s = .next s := by
  rw [meaning, State.onDev, idle]

end Sys2Proof.Machine
end

section
/-! SUPPORT. The queue and reset: every command completes and leaves the queue alone, so a step takes one command from it. -/

namespace Sys2Proof.Machine
open Sys2Proof

/-- No arm of the dispatch stops the device or touches the queue. -/
theorem exec_next (c : Instr) (s : State) : ∃ d : Dev, exec c s = .next { s with dev := d } := by
  cases c
  case hubFault cause => cases cause <;> exact ⟨_, rfl⟩
  all_goals exact ⟨_, rfl⟩

theorem step_of_cons {s : State} {c : Instr} {rest : List Instr} (waits : s.pending = c :: rest) :
    step s = exec c { s with pending := rest } := by
  rw [step, waits]
theorem step_of_nil {s : State} (idle : s.pending = []) : step s = .next { s with dev := s.dev.pass 1 } := by
  rw [step, idle]

/-- As many steps as commands wait empty the queue. -/
theorem run_pending (n : Nat) (s : State) (count : s.pending.length = n) :
    ∃ t : State, core.run n s = .next t ∧ t.pending = [] := by
  induction n generalizing s with
  | zero => exact ⟨s, rfl, List.length_eq_zero_iff.1 count⟩
  | succ n ih =>
    obtain ⟨c, rest, waits⟩ := List.exists_cons_of_length_eq_add_one count
    obtain ⟨d, done⟩ := exec_next c { s with pending := rest }
    obtain ⟨t, runs, empty⟩ := ih { dev := d, pending := rest } (by simpa [waits] using count)
    refine ⟨t, ?_, empty⟩
    have first : core.step s = .next { dev := d, pending := rest } := (step_of_cons waits).trans done
    simpa only [Host.Core.run, first] using runs

/-- Settles O1: the dispatch answers a next state for each command, and the rest is the definition of a step. -/
theorem stepRunsFront : Obligations.StepRunsFront :=
  ⟨⟨fun _ _ _ => step_of_cons, fun _ => step_of_nil⟩, exec_next, fun s => run_pending _ s rfl⟩

/-- A list of one value reads as that value everywhere, the default being the same. -/
theorem getD_replicate_self {α : Type} (n : Nat) (x : α) (m : Nat) : (List.replicate n x).getD m x = x := by
  rw [List.getD_eq_getElem?_getD, List.getElem?_replicate]
  split_ifs <;> rfl

/-- Settles O60: each clause reads a field of the reset state. -/
theorem resetState : Obligations.ResetState := by
  refine ⟨⟨rfl, rfl, rfl, rfl, rfl, rfl, rfl, rfl, fun l => ?_, by decide, ?_, ?_, rfl, rfl, rfl, rfl, rfl, ?_, rfl, rfl, rfl, rfl, rfl,
    rfl, rfl, rfl⟩, reset_memsWf, rfl⟩
  · cases l <;> exact ⟨rfl, rfl, by decide⟩
  · intro b o
    have undriven : State.reset.dev.drives (7 + sioIdx b) = false := by cases b <;> decide
    exact (congrArg (· && _) undriven).trans (Bool.false_and _)
  · intro b
    cases b <;> exact ⟨rfl, rfl⟩
  · exact fun m => ⟨congrArg InBox.full (getD_replicate_self 16 InBox.reset m),
      congrArg OutBox.full (getD_replicate_self 16 OutBox.reset m)⟩

end Sys2Proof.Machine
end

section
/-! SUPPORT. What an operation in progress will write is the difference of memory before and after it (R77): putting the difference
turns the one memory into the other. -/

namespace Sys2Proof.Machine
open Sys2Proof

/-! ### Canonical memories are determined by what they read -/

theorem memGet_cons_self {a : Nat} {b : Byte} {m : List Host.Cell} : memGet ((a, b) :: m) a = b := if_pos rfl
theorem memGet_cons_lt {a x : Nat} {b : Byte} {m : List Host.Cell} (below : x < a) : memGet ((a, b) :: m) x = 0 :=
  (if_neg below.ne).trans (if_pos below)
theorem memGet_cons_gt {a x : Nat} {b : Byte} {m : List Host.Cell} (above : a < x) : memGet ((a, b) :: m) x = memGet m x :=
  (if_neg above.ne').trans (if_neg above.not_gt)

theorem memWfFrom_cons {n a : Nat} {b : Byte} {m : List Host.Cell} :
    memWfFrom n ((a, b) :: m) = true ↔ n ≤ a ∧ b ≠ 0 ∧ memWfFrom (a + 1) m = true := by
  simp [memWfFrom, and_assoc]

theorem memWf_ext {lo : Nat} {m n : List Host.Cell} (wfM : memWfFrom lo m = true) (wfN : memWfFrom lo n = true)
    (same : ∀ x, memGet m x = memGet n x) : m = n := by
  induction m generalizing lo n with
  | nil =>
    cases n with
    | nil => rfl
    | cons e n =>
      obtain ⟨-, nonzero, -⟩ := memWfFrom_cons.1 wfN
      exact absurd ((same e.1).trans memGet_cons_self).symm nonzero
  | cons e m ih =>
    obtain ⟨a, v⟩ := e
    obtain ⟨-, nonzero, restM⟩ := memWfFrom_cons.1 wfM
    cases n with
    | nil => exact absurd (memGet_cons_self.symm.trans (same a)) nonzero
    | cons e n =>
      obtain ⟨b, w⟩ := e
      obtain ⟨-, nonzero', restN⟩ := memWfFrom_cons.1 wfN
      obtain lt | rfl | gt := lt_trichotomy a b
      · exact absurd (memGet_cons_self.symm.trans ((same a).trans (memGet_cons_lt lt))) nonzero
      · have head : v = w := memGet_cons_self.symm.trans ((same a).trans memGet_cons_self)
        subst head
        rw [ih restM restN fun x => ?_]
        obtain low | high := le_or_gt x a
        · rw [memGet_below m _ x restM (by omega), memGet_below n _ x restN (by omega)]
        · rw [← memGet_cons_gt (b := v) high, same, memGet_cons_gt high]
      · exact absurd (memGet_cons_self.symm.trans ((same b).symm.trans (memGet_cons_lt gt))) nonzero'

/-! ### Putting a difference -/

/-- Putting the cells D into M gives what n reads from address lo on, and leaves M below. -/
def PutsTo (M D : List Host.Cell) (lo : Nat) (n : List Host.Cell) : Prop :=
  ∀ x, memGet (memPut M D) x = if lo ≤ x then memGet n x else memGet M x

section
variable {M D m n n' : List Host.Cell} {lo c : Nat} {v : Byte}

theorem PutsTo.cons (wf : memWf M = true) (low : lo ≤ c) (before : ∀ x, lo ≤ x → x < c → memGet M x = memGet n x)
    (at_ : memGet n c = v) (above : ∀ x, c < x → memGet n x = memGet n' x) (rest : PutsTo (memSet M c v) D (c + 1) n') :
    PutsTo M ((c, v) :: D) lo n := by
  intro x
  have put : memGet (memPut M ((c, v) :: D)) x = if c + 1 ≤ x then memGet n' x else memGet (memSet M c v) x := rest x
  rw [put]
  obtain lt | rfl | gt := lt_trichotomy x c
  · rw [if_neg (by omega), memGet_memSet_ne M 0 c x v wf lt.ne]
    split_ifs with inside
    · exact before x inside lt
    · rfl
  · rw [if_neg (by omega), if_pos low, memGet_memSet M 0 x v wf, at_]
  · rw [if_pos (by omega), if_pos (by omega), above x gt]
theorem PutsTo.skip (low : lo ≤ c) (upTo : ∀ x, lo ≤ x → x ≤ c → memGet M x = memGet n x)
    (above : ∀ x, c < x → memGet n x = memGet n' x) (rest : PutsTo M D (c + 1) n') : PutsTo M D lo n := by
  intro x
  rw [rest x]
  by_cases high : c < x
  · rw [if_pos (by omega), if_pos (by omega), above x high]
  · rw [if_neg (by omega)]
    split_ifs with inside
    · exact upTo x inside (by omega)
    · rfl

end

theorem memDiffFuel_nil_left {k : Nat} (fuel : 0 < k) (n : List Host.Cell) : memDiffFuel k [] n = n := by
  obtain ⟨k, rfl⟩ := Nat.exists_eq_add_of_lt fuel
  cases n <;> simp [memDiffFuel]
theorem memDiffFuel_nil_right {k : Nat} (fuel : 0 < k) (m : List Host.Cell) : memDiffFuel k m [] = m.map (fun e => (e.1, 0)) := by
  obtain ⟨k, rfl⟩ := Nat.exists_eq_add_of_lt fuel
  cases m <;> simp [memDiffFuel]

/-- Where M reads as a memory from lo on, M with that memory's first cell overwritten reads as its rest above the cell. -/
theorem memGet_memSet_rest {lo a x : Nat} {v : Byte} {M r : List Host.Cell} (w : Byte) (wf : memWf M = true) (la : lo ≤ a)
    (reads : ∀ x, lo ≤ x → memGet M x = memGet ((a, v) :: r) x) (above : a + 1 ≤ x) : memGet (memSet M a w) x = memGet r x := by
  rw [memGet_memSet_ne M 0 a x w wf (by omega), reads x (by omega), memGet_cons_gt (by omega)]

/-- The difference of m and n puts n into a memory that reads as m from lo on. -/
theorem putsTo_memDiffFuel {k lo : Nat} {M m n : List Host.Cell} (fuel : m.length + n.length < k) (wf : memWf M = true)
    (wfM : memWfFrom lo m = true) (wfN : memWfFrom lo n = true) (agree : ∀ x, lo ≤ x → memGet M x = memGet m x) :
    PutsTo M (memDiffFuel k m n) lo n := by
  induction k generalizing lo M m n with
  | zero => omega
  | succ k ih =>
    match m, n with
    | [], [] =>
      intro x
      simp only [memDiffFuel, memPut, List.foldl_nil]
      split_ifs with inside
      · exact agree x inside
      · rfl
    | [], (b, y) :: n =>
      obtain ⟨lb, -, restN⟩ := memWfFrom_cons.1 wfN
      have fuel' : n.length + 1 < k + 1 := by simpa using fuel
      have tail := ih (M := memSet M b y) (m := []) (n := n) (lo := b + 1) (by simpa using fuel') (memSet_wf M b y wf) rfl restN
        (fun x hx => by rw [memGet_memSet_ne M 0 b x y wf (by omega), agree x (by omega)])
      rw [memDiffFuel_nil_left (by omega)] at tail ⊢
      exact .cons wf lb (fun x hx lt => (agree x hx).trans (memGet_cons_lt lt).symm) memGet_cons_self (fun x gt => memGet_cons_gt gt) tail
    | (a, x) :: m, [] =>
      obtain ⟨la, -, restM⟩ := memWfFrom_cons.1 wfM
      have fuel' : m.length + 1 < k + 1 := by simpa using fuel
      have tail := ih (M := memSet M a 0) (m := m) (n := []) (lo := a + 1) (by simpa using fuel') (memSet_wf M a 0 wf) restM rfl
        (fun z hz => memGet_memSet_rest 0 wf la agree hz)
      rw [memDiffFuel_nil_right (by omega)] at tail ⊢
      exact .cons wf la (fun z hz lt => (agree z hz).trans (memGet_cons_lt lt)) rfl (fun _ _ => rfl) tail
    | (a, x) :: m, (b, y) :: n =>
      obtain ⟨la, -, restM⟩ := memWfFrom_cons.1 wfM
      obtain ⟨lb, -, restN⟩ := memWfFrom_cons.1 wfN
      have fuel' : m.length + 1 + (n.length + 1) < k + 1 := by simpa using fuel
      rw [memDiffFuel]
      split_ifs with ab ba same
      · refine .cons wf la (fun z hz lt => ?_) (memGet_cons_lt ab) (fun _ _ => rfl)
          (ih (by simp; omega) (memSet_wf M a 0 wf) restM (memWfFrom_cons.2 ⟨ab, (memWfFrom_cons.1 wfN).2⟩) fun z hz => memGet_memSet_rest 0 wf la agree hz)
        rw [agree z hz, memGet_cons_lt lt, memGet_cons_lt (by omega)]
      · refine .cons wf lb (fun z hz lt => ?_) memGet_cons_self (fun z gt => memGet_cons_gt gt)
          (ih (by simp; omega) (memSet_wf M b y wf) (memWfFrom_cons.2 ⟨ba, (memWfFrom_cons.1 wfM).2⟩) restN fun z hz => ?_)
        · rw [agree z hz, memGet_cons_lt (by omega), memGet_cons_lt lt]
        · rw [memGet_memSet_ne M 0 b z y wf (by omega), agree z (by omega)]
      · obtain rfl : a = b := by omega
        subst same
        refine .skip (c := a) la (fun z hz le => ?_) (fun z gt => memGet_cons_gt gt)
          (ih (by omega) wf restM restN fun z hz => ?_)
        · obtain rfl | lt := le.eq_or_lt
          · rw [agree z hz, memGet_cons_self, memGet_cons_self]
          · rw [agree z hz, memGet_cons_lt lt, memGet_cons_lt lt]
        · rw [agree z (by omega), memGet_cons_gt (by omega)]
      · obtain rfl : a = b := by omega
        exact .cons wf la (fun z hz lt => by rw [agree z hz, memGet_cons_lt lt, memGet_cons_lt lt]) memGet_cons_self
          (fun z gt => memGet_cons_gt gt)
          (ih (by omega) (memSet_wf M a y wf) restM restN fun z hz => memGet_memSet_rest y wf la agree hz)

theorem memPut_wf {m : List Host.Cell} (cs : List Host.Cell) (wf : memWf m = true) : memWf (memPut m cs) = true := by
  induction cs generalizing m with
  | nil => exact wf
  | cons c r ih => exact ih (memSet_wf m c.1 c.2 wf)

theorem memPut_memDiff {m n : List Host.Cell} (wfM : memWf m = true) (wfN : memWf n = true) : memPut m (memDiff m n) = n := by
  refine memWf_ext (lo := 0) (memPut_wf _ wfM) wfN fun x => ?_
  have puts := putsTo_memDiffFuel (lo := 0) (Nat.lt_succ_self _) wfM wfM wfN (fun _ _ => rfl) x
  rwa [if_pos (Nat.zero_le x)] at puts

/-! ### Completion -/

section
variable {q : LaneSt} {w : Late} {n : Nat} (one : q.seq.late = [w])
include one

/-- Before its deadline clock an operation in progress leaves nothing to see (R77). -/
theorem LaneSt.settle_of_pending {swap : Bool} (pending : w.doneBy swap n = false) : q.settle swap n = q := by
  rw [LaneSt.settle, one, List.filter_singleton, List.filter_singleton, pending, ← one]
  rfl
/-- From its deadline clock on it has left its results. -/
theorem LaneSt.settle_of_done {swap : Bool} (done : w.doneBy swap n = true) :
    q.settle swap n = { q with seq := { q.seq with late := [] } }.complete w := by
  rw [LaneSt.settle, one, List.filter_singleton, List.filter_singleton, done]
  rfl

end

/-- An operation that only writes memory completes by putting its bytes. -/
theorem LaneSt.complete_cells {q : LaneSt} {w : Late} (stage : w.stage = []) (coef : w.coef = none) :
    q.complete w = { q with mem := memPut q.mem w.cells } := by
  rw [LaneSt.complete, stage, coef]
  rfl
theorem Late.doneBy_false (n : Nat) (w : Late) : w.doneBy false n = decide (w.due ≤ n) := by
  simp [Late.doneBy]

/-- Settles O3: the laws of byte memory, and the difference that a completion puts. -/
theorem memoryReadAfterWrite : Obligations.MemoryReadAfterWrite := by
  refine ⟨fun m x v wf => ⟨memSet_wf m x v wf, memGet_memSet m 0 x v wf, fun a other => memGet_memSet_ne m 0 x a v wf other⟩,
    fun q i w wf => ⟨q.setSig_wf i w wf, LaneSt.sig_setSig wf i w, fun j other => LaneSt.sig_setSig_ne wf w other, fun a outside => ?_⟩,
    fun m n => memPut_memDiff, fun q w n one stage coef => ⟨fun before => ?_, fun from_ => ?_⟩⟩
  · exact memGet_memWrite_ne _ _ _ _ wf (by rwa [length_leBytes])
  · exact LaneSt.settle_of_pending one (by rw [Late.doneBy_false, decide_eq_false (by omega)])
  · rw [LaneSt.settle_of_done one (by rw [Late.doneBy_false, decide_eq_true from_]), LaneSt.complete_cells stage coef]

end Sys2Proof.Machine
end

section
/-! SUPPORT. The signal operation unit (R137, R150, Table 7-4): each operation writes its one word, and the accumulator's sum is exact
where no term reaches below bit 0. -/

namespace Sys2Proof.Machine
open Sys2Proof

/-! ### Exact numbers -/

@[simp] theorem dyMul_val (x y : Dy) : (dyMul x y).val = x.val * y.val := by
  simp only [dyMul, Dy.val, Int.cast_mul, zpow_add₀ (two_ne_zero' ℚ)]
  ring
@[simp] theorem dyAbs_val (x : Dy) : (dyAbs x).val = |x.val| := by
  have unit : (0 : ℚ) < 2 ^ x.e := by positivity
  simp [dyAbs, Dy.val, abs_mul, abs_of_pos unit]
theorem dyEq_iff (x y : Dy) : dyEq x y = true ↔ x.val = y.val := by
  rw [dyEq, decide_eq_true_iff, ← Dy.val_eq_zero_iff, dySub_val, sub_eq_zero]

theorem sigMant_eq_zero_iff (w : SigWord) : sigMant w = 0 ↔ w.mant = 0 := by
  rw [sigMant, ← BitVec.toInt_inj]
  rfl
theorem sigLe_iff (x y : SigWord) : sigLe x y = true ↔ (sigVal x).val ≤ (sigVal y).val := dyLe_iff ..
theorem sigLt_iff (x y : SigWord) : sigLt x y = true ↔ (sigVal x).val < (sigVal y).val := dyLt_iff ..
theorem sigLt_eq_false_iff (x y : SigWord) : sigLt x y = false ↔ (sigVal y).val ≤ (sigVal x).val := by
  rw [← not_lt, ← sigLt_iff, Bool.not_eq_true]
/-- A number of non-negative exponent is its own floor. -/
theorem dyFloor_exact {n k : Int} (whole : 0 ≤ k) : (dyFloor ⟨n, k⟩ : ℚ) = n * 2 ^ k := by
  lift k to ℕ using whole
  have : (Dy.val ⟨n, k⟩) = ((n * 2 ^ k : Int) : ℚ) := by simp [Dy.val]
  rw [dyFloor_eq, this, Int.floor_intCast]
  simp

/-! ### The accumulator of R150 -/

/-- The number that a term stands for. -/
def Term.val (t : Term) : ℚ := (if t.neg then -1 else 1) * (t.n * 2 ^ t.w)

/-- Terms of which none reaches below the accumulator add exactly. -/
theorem sumTerms_val {ts : List Term} (exact_ : ∀ t ∈ ts, ∀ m, maxExp ts = some m → t.n = 0 ∨ m - 70 ≤ t.w)
    (zero : maxExp ts = none → ∀ t ∈ ts, t.n = 0) : (sumTerms ts).val = (ts.map Term.val).sum := by
  unfold sumTerms
  split
  case h_1 none_ =>
    have zeros : ∀ x ∈ ts.map Term.val, x = 0 := by simp +contextual [Term.val, zero none_]
    rw [List.sum_eq_zero zeros]
    simp [Dy.val]
  case h_2 m some_ =>
    have term (t : Term) (mem : t ∈ ts) : ((let v := dyFloor ⟨t.n, t.w - (m - 70)⟩; if t.neg then -v else v : Int) : ℚ) * 2 ^ (m - 70) = t.val := by
      have floor : (dyFloor ⟨t.n, t.w - (m - 70)⟩ : ℚ) * 2 ^ (m - 70) = t.n * 2 ^ t.w := by
        obtain zero | above := exact_ t mem m some_
        · simp [zero, dyFloor, dyNum, shl]
        · rw [dyFloor_exact (by omega), mul_assoc, ← zpow_add₀ two_ne_zero, sub_add_cancel]
      dsimp only [Term.val]
      split_ifs <;> push_cast <;> linarith
    simp only [Dy.val, accSum, ← List.map_congr_left term, Int.cast_list_sum, List.map_map, ← List.sum_map_mul_right]
    rfl

theorem maxExp_pair {t u : Term} (ht : t.n ≠ 0) (hu : u.n ≠ 0) : maxExp [t, u] = some (max t.e u.e) := by simp [maxExp, ht, hu]

/-- Two terms add exactly when neither reaches below the accumulator, or one of them is zero. -/
theorem sumTerms_pair_val {t u : Term} (ht : t.e - 70 ≤ t.w) (hu : u.e - 70 ≤ u.w)
    (near : (t.e - 70 ≤ u.w ∧ u.e - 70 ≤ t.w) ∨ t.n = 0 ∨ u.n = 0) : (sumTerms [t, u]).val = t.val + u.val := by
  rw [sumTerms_val]
  · simp
  · intro x mem m top
    by_cases zt : t.n = 0 <;> by_cases zu : u.n = 0 <;> simp [maxExp, zt, zu] at top mem near
    · rcases mem with rfl | rfl <;> omega
    · rcases mem with rfl | rfl <;> omega
    · rcases mem with rfl | rfl <;> omega
  · intro none_ x mem
    by_cases zt : t.n = 0 <;> by_cases zu : u.n = 0 <;> simp [maxExp, zt, zu] at none_ mem
    rcases mem with rfl | rfl <;> assumption

/-- The sum of two terms that are not zero, each cut at the accumulator of the larger exponent. -/
theorem sumTerms_pair {t u : Term} (ht : t.n ≠ 0) (hu : u.n ≠ 0) : sumTerms [t, u] =
    ⟨(let v := dyFloorAt ⟨t.n, t.w⟩ (70 - max t.e u.e); if t.neg then -v else v) +
      (let v := dyFloorAt ⟨u.n, u.w⟩ (70 - max t.e u.e); if u.neg then -v else v), max t.e u.e - 70⟩ := by
  have place (w m : Int) : w - (m - 70) = w + (70 - m) := by ring
  simp [sumTerms, maxExp_pair ht hu, accSum, dyFloorAt, dyScale, place]

section
variable (a b : SigWord)

theorem termOf_val (neg : Bool) : (termOf a neg).val = (if neg then -1 else 1) * (sigVal a).val := rfl
theorem termAbs_val (neg : Bool) : (termAbs a neg).val = (if neg then -1 else 1) * |(sigVal a).val| := by
  rw [← dyAbs_val]; rfl
theorem termMul_val : (termMul a b).val = (sigVal a).val * (sigVal b).val := by
  have place : sigExp a + sigExp b - 62 = (sigExp a - 31) + (sigExp b - 31) := by ring
  rw [← dyMul_val, Term.val, termMul, place]
  exact one_mul _

end

/-! ### One operation, one word -/

/-- A ready entry of class 0x09 whose descriptor carries the OP writes its OUT with the operation's word. -/
theorem sigOp_writes {s : State} {l : Lane} {g : Img} {e : Entry} (ready : s.dev.Ready l g e) (cls : e.cls = 0x09) {c : Instr} {op : Nat}
    {f : SigOp → LaneSt → SigWord} (isOp : (sigOpOf g e.operand).op = op) (meaning : exec c s = s.onDev (fun d => sigOp d l false op f)) :
    Writes c s l g e [((sigOpOf g e.operand).out, f (sigOpOf g e.operand) ((s.dev.begun l g e).lane l))] :=
  writes_of_setSig ready (ok := opIs op) (out := fun g e => (sigOpOf g e.operand).out) (f := fun g e q => f (sigOpOf g e.operand) q)
    (by rw [opIs, cls, isOp, beq_self_eq_true, beq_self_eq_true, Bool.and_self]) meaning

/-- Settles O6: each operation writes the word that its `op` function gives. -/
theorem signalCopiesAndLogic : Obligations.SignalCopiesAndLogic := by
  intro s l g e ready cls o a b c old
  refine ⟨fun op => ?_, fun op => ?_, fun op => ?_, fun op => ?_, fun op valid => ?_, fun op invalid => ?_, fun op => ?_, fun op => ?_,
    fun op => ?_, fun op => ?_⟩
  · exact sigOp_writes (f := fun o q => q.sig o.a) ready cls op rfl
  · exact sigOp_writes (f := fun o q => opMin (q.sig o.a) (q.sig o.b)) ready cls op rfl
  · exact sigOp_writes (f := fun o q => opMax (q.sig o.a) (q.sig o.b)) ready cls op rfl
  · have word : opSel o.fbit a b c = if sigBit a o.fbit then { b with st := stJoin a.st b.st } else { c with st := stJoin a.st c.st } := by
      dsimp only [opSel]
      split_ifs <;> rfl
    exact word ▸ sigOp_writes (f := fun o q => opSel o.fbit (q.sig o.a) (q.sig o.b) (q.sig o.c)) ready cls op rfl
  · have word : opHold a old = a := if_pos valid
    have writes := sigOp_writes (c := .hold l false) (f := fun o q => opHold (q.sig o.a) (q.sig o.out)) ready cls op rfl
    rwa [word] at writes
  · have word : opHold a old = { old with st := { old.st with stale := true } } := if_neg (Bool.eq_false_iff.1 invalid)
    exact word ▸ sigOp_writes (f := fun o q => opHold (q.sig o.a) (q.sig o.out)) ready cls op rfl
  · exact sigOp_writes (f := fun o q => opLogic (· &&& ·) (q.sig o.a) (q.sig o.b)) ready cls op rfl
  · exact sigOp_writes (f := fun o q => opLogic (· ||| ·) (q.sig o.a) (q.sig o.b)) ready cls op rfl
  · exact sigOp_writes (f := fun o q => opLogic (· ^^^ ·) (q.sig o.a) (q.sig o.b)) ready cls op rfl
  · exact sigOp_writes (f := fun o q => opNot (q.sig o.a)) ready cls op rfl

/-! ### Sums of operands (R150) -/

section
variable {a b c : SigWord} {neg : Bool}

theorem termOf_n_ne (h : a.mant ≠ 0) : (termOf a neg).n ≠ 0 := mt (sigMant_eq_zero_iff a).1 h
theorem termAbs_n_ne (h : a.mant ≠ 0) : (termAbs a neg).n ≠ 0 := by
  simpa [termAbs] using mt (sigMant_eq_zero_iff a).1 h
theorem termMul_n_ne (ha : a.mant ≠ 0) (hb : b.mant ≠ 0) : (termMul a b).n ≠ 0 :=
  mul_ne_zero (mt (sigMant_eq_zero_iff a).1 ha) (mt (sigMant_eq_zero_iff b).1 hb)

/-- The operands of a sum are near enough to add exactly: EXP differs by at most 39, or one is zero. -/
def NearExp (a b : SigWord) : Prop :=
  (sigExp a ≤ sigExp b + 39 ∧ sigExp b ≤ sigExp a + 39) ∨ a.mant = 0 ∨ b.mant = 0

theorem NearExp.sum_val (near : NearExp a b) {t : Term} (exp : t.e = sigExp b) (weight : t.w = sigExp b - 31)
    (zero : b.mant = 0 → t.n = 0) : (sumTerms [termOf a neg, t]).val = (termOf a neg).val + t.val := by
  refine sumTerms_pair_val (by simp only [termOf]; omega) (by omega) ?_
  obtain ⟨below, above⟩ | za | zb := near
  · exact .inl (by simp only [termOf]; omega)
  · exact .inr (.inl ((sigMant_eq_zero_iff a).2 za))
  · exact .inr (.inr (zero zb))
theorem NearExp.opAdd_val (near : NearExp a b) : dyEq (sumTerms [termOf a false, termOf b false]) (dyAdd (sigVal a) (sigVal b)) = true := by
  rw [dyEq_iff, near.sum_val rfl rfl (sigMant_eq_zero_iff b).2, dyAdd_val, termOf_val, termOf_val]
  simp
theorem NearExp.opSub_val (near : NearExp a b) : dyEq (sumTerms [termOf a false, termOf b true]) (dySub (sigVal a) (sigVal b)) = true := by
  rw [dyEq_iff, near.sum_val rfl rfl (sigMant_eq_zero_iff b).2, dySub_val, termOf_val, termOf_val]
  simp
  ring
theorem NearExp.deadband_val (near : NearExp a b) : dyEq (sumTerms [termOf a false, termAbs b (decide (0 < sigMant a))])
    (if 0 < sigMant a then dySub (sigVal a) (dyAbs (sigVal b)) else dyAdd (sigVal a) (dyAbs (sigVal b))) = true := by
  have zero (h : b.mant = 0) : (termAbs b (decide (0 < sigMant a))).n = 0 := by simp [termAbs, (sigMant_eq_zero_iff b).2 h]
  rw [dyEq_iff, near.sum_val rfl rfl zero, termOf_val, termAbs_val]
  by_cases pos : 0 < sigMant a
  · simp [pos, sub_eq_add_neg]
  · simp [pos]
theorem opMul_val : dyEq (sumTerms [termMul a b]) (dyMul (sigVal a) (sigVal b)) = true := by
  rw [dyEq_iff, sumTerms_val, dyMul_val]
  · simp [termMul_val]
  · intro t mem m top
    obtain rfl := List.mem_singleton.1 mem
    by_cases zero : (termMul a b).n = 0
    · exact .inl zero
    · simp only [maxExp, zero, if_false, Option.some.injEq] at top
      simp only [termMul] at top ⊢
      omega
  · simp [maxExp]
/-- A product and an addend are near enough to add exactly. -/
theorem opMac_val (near : (sigExp c ≤ sigExp a + sigExp b + 8 ∧ sigExp a + sigExp b ≤ sigExp c + 39) ∨ a.mant = 0 ∨ b.mant = 0 ∨ c.mant = 0) :
    dyEq (sumTerms [termMul a b, termOf c false]) (dyAdd (dyMul (sigVal a) (sigVal b)) (sigVal c)) = true := by
  rw [dyEq_iff, sumTerms_pair_val (by simp only [termMul]; omega) (by simp only [termOf]; omega), dyAdd_val, dyMul_val, termMul_val, termOf_val]
  · simp
  · simp only [← sigMant_eq_zero_iff] at near
    simp only [termMul, termOf, mul_eq_zero, or_assoc]
    omega

end

/-! ### Arithmetic and tests -/

section
variable {a b c : SigWord}

theorem opAdd_cut (ha : a.mant ≠ 0) (hb : b.mant ≠ 0) : opAdd a b =
    mkSig ⟨dyFloorAt (sigVal a) (70 - max (sigExp a) (sigExp b)) + dyFloorAt (sigVal b) (70 - max (sigExp a) (sigExp b)),
      max (sigExp a) (sigExp b) - 70⟩ (stOf [a, b]) := by
  rw [opAdd, sumTerms_pair (termOf_n_ne ha) (termOf_n_ne hb)]
  rfl
theorem opSub_cut (ha : a.mant ≠ 0) (hb : b.mant ≠ 0) : opSub a b =
    mkSig ⟨dyFloorAt (sigVal a) (70 - max (sigExp a) (sigExp b)) - dyFloorAt (sigVal b) (70 - max (sigExp a) (sigExp b)),
      max (sigExp a) (sigExp b) - 70⟩ (stOf [a, b]) := by
  rw [opSub, sumTerms_pair (termOf_n_ne ha) (termOf_n_ne hb)]
  rfl
theorem opMac_cut (ha : a.mant ≠ 0) (hb : b.mant ≠ 0) (hc : c.mant ≠ 0) : opMac a b c =
    mkSig ⟨dyFloorAt (dyMul (sigVal a) (sigVal b)) (70 - max (sigExp a + sigExp b) (sigExp c)) +
      dyFloorAt (sigVal c) (70 - max (sigExp a + sigExp b) (sigExp c)), max (sigExp a + sigExp b) (sigExp c) - 70⟩ (stOf [a, b, c]) := by
  have place : sigExp a + sigExp b - 62 = (sigExp a - 31) + (sigExp b - 31) := by ring
  rw [opMac, sumTerms_pair (termMul_n_ne ha hb) (termOf_n_ne hc), termMul, place]
  rfl
/-- The operand that the deadband takes from A is nearer zero than A, so A is not zero. -/
theorem mant_ne_zero_of_outside (outside : dyLe (dyAbs (sigVal a)) (dyAbs (sigVal b)) = false) : a.mant ≠ 0 := by
  intro zero
  have val : (sigVal a).val = 0 := by rw [Dy.val_eq_zero_iff]; exact (sigMant_eq_zero_iff a).2 zero
  have : dyLe (dyAbs (sigVal a)) (dyAbs (sigVal b)) = true := by
    rw [dyLe_iff, dyAbs_val, dyAbs_val, val, abs_zero]
    exact abs_nonneg _
  exact absurd this (Bool.eq_false_iff.1 outside)
theorem opDeadband_outside (outside : dyLe (dyAbs (sigVal a)) (dyAbs (sigVal b)) = false) :
    opDeadband a b = mkSig (sumTerms [termOf a false, termAbs b (decide (0 < sigMant a))]) (stOf [a, b]) :=
  if_neg (Bool.eq_false_iff.1 outside)
theorem opDeadband_cut (outside : dyLe (dyAbs (sigVal a)) (dyAbs (sigVal b)) = false) (hb : b.mant ≠ 0) : opDeadband a b =
    mkSig ⟨dyFloorAt (sigVal a) (70 - max (sigExp a) (sigExp b)) +
      (if 0 < sigMant a then -(dyFloorAt (dyAbs (sigVal b)) (70 - max (sigExp a) (sigExp b)))
        else dyFloorAt (dyAbs (sigVal b)) (70 - max (sigExp a) (sigExp b))), max (sigExp a) (sigExp b) - 70⟩ (stOf [a, b]) := by
  rw [opDeadband_outside outside, sumTerms_pair (termOf_n_ne (mant_ne_zero_of_outside outside)) (termAbs_n_ne hb)]
  by_cases pos : 0 < sigMant a <;> simp only [termAbs, pos, decide_true, decide_false, if_true, if_false] <;> rfl

variable {imm : Int}

theorem opScale2_inside (ha : a.mant ≠ 0) (low : -128 ≤ sigExp a + imm) (high : sigExp a + imm ≤ 127) :
    opScale2 a imm = ⟨a.mant, BitVec.ofInt 8 (sigExp a + imm), stOf [a]⟩ :=
  (if_neg ha).trans ((if_neg (by omega)).trans (if_neg (by omega)))
theorem opScale2_zero (small : a.mant = 0 ∨ sigExp a + imm < -128) : opScale2 a imm = ⟨0, 0, stOf [a]⟩ := by
  by_cases ha : a.mant = 0
  · exact if_pos ha
  · have low := small.resolve_left ha
    exact (if_neg ha).trans ((if_neg (by omega)).trans (if_pos low))
theorem opScale2_above (ha : a.mant ≠ 0) (above : 127 < sigExp a + imm) : opScale2 a imm =
    ⟨if sigMant a < 0 then 0x80000000 else 0x7FFFFFFF, 127, { stOf [a] with limited := true }⟩ :=
  (if_neg ha).trans ((if_pos above).trans (by rw [stLim_true]; rfl))

end

/-- Settles O7: each operation writes its word, and the sum of R150 is exact where its terms are near enough. -/
theorem signalArithmetic : Obligations.SignalArithmetic := by
  intro s l g e ready cls o a b c exact_ at_ m2 m3 prod fits
  have add (op : o.op = 0x01) := sigOp_writes (c := .add l false) (f := fun o q => opAdd (q.sig o.a) (q.sig o.b)) ready cls op rfl
  have sub (op : o.op = 0x02) := sigOp_writes (c := .sub l false) (f := fun o q => opSub (q.sig o.a) (q.sig o.b)) ready cls op rfl
  have mac (op : o.op = 0x04) := sigOp_writes (c := .mac l false) (f := fun o q => opMac (q.sig o.a) (q.sig o.b) (q.sig o.c)) ready cls op rfl
  have deadband (op : o.op = 0x0A) :=
    sigOp_writes (c := .deadband l false) (f := fun o q => opDeadband (q.sig o.a) (q.sig o.b)) ready cls op rfl
  have scale2 (op : o.op = 0x0B) := sigOp_writes (c := .scale2 l false) (f := fun o q => opScale2 (q.sig o.a) o.imm) ready cls op rfl
  refine ⟨fun op near => ⟨_, NearExp.opAdd_val near, add op⟩, fun op ha hb => ?_, fun op near => ⟨_, NearExp.opSub_val near, sub op⟩,
    fun op ha hb => ?_, fun op => ⟨_, opMul_val, ?_⟩, fun op near => ⟨_, opMac_val near, mac op⟩, fun op ha hb hc => ?_, fun op => ?_,
    fun op => ?_, fun op inside => ?_, fun op outside near => ⟨_, NearExp.deadband_val near, ?_⟩, fun op outside hb => ?_,
    fun op ha low high => ?_, fun op small => ?_, fun op ha above => ?_, fun op => ?_⟩
  · exact opAdd_cut ha hb ▸ add op
  · exact opSub_cut ha hb ▸ sub op
  · exact sigOp_writes (f := fun o q => opMul (q.sig o.a) (q.sig o.b)) ready cls op rfl
  · exact opMac_cut ha hb hc ▸ mac op
  · exact sigOp_writes (f := fun o q => opNeg (q.sig o.a)) ready cls op rfl
  · exact sigOp_writes (f := fun o q => opAbs (q.sig o.a)) ready cls op rfl
  · have word : opDeadband a b = ⟨0, 0, stOf [a, b]⟩ := if_pos inside
    exact word ▸ deadband op
  · exact opDeadband_outside outside ▸ deadband op
  · exact opDeadband_cut outside hb ▸ deadband op
  · exact opScale2_inside ha low high ▸ scale2 op
  · exact opScale2_zero small ▸ scale2 op
  · exact opScale2_above ha above ▸ scale2 op
  · exact sigOp_writes (f := fun o q => opSign (q.sig o.a)) ready cls op rfl

section
variable {a b c old : SigWord}

theorem opLimit_inside (above : sigLe b a = true) (below : sigLe a c = true) : opLimit a b c = { a with st := stOf [a, b, c] } := by
  rw [sigLe_iff] at above below
  have order := (sigLt_eq_false_iff c b).2 (above.trans below)
  simp [opLimit, order, (sigLt_eq_false_iff a b).2 above, (sigLt_eq_false_iff c a).2 below, sigWith]
theorem opLimit_below (order : sigLe b c = true) (below : sigLt a b = true) :
    opLimit a b c = { b with st := { stOf [a, b, c] with limited := true } } := by
  simp [opLimit, (sigLt_eq_false_iff c b).2 ((sigLe_iff b c).1 order), below, sigWith]
theorem opLimit_above (order : sigLe b c = true) (above : sigLt c a = true) :
    opLimit a b c = { c with st := { stOf [a, b, c] with limited := true } } := by
  have notBelow := (sigLt_eq_false_iff a b).2 (((sigLe_iff b c).1 order).trans ((sigLt_iff c a).1 above).le)
  simp [opLimit, (sigLt_eq_false_iff c b).2 ((sigLe_iff b c).1 order), notBelow, above, sigWith]
theorem opLimit_crossed (crossed : sigLt c b = true) : opLimit a b c = { c with st := { stOf [a, b, c] with limited := true } } := by
  simp [opLimit, crossed, sigWith]

theorem opHyst_above (above : sigLt b a = true) : opHyst a b c old = sigFlag true (stOf [a, b, c]) := if_pos above
theorem opHyst_below (notAbove : sigLe a b = true) (below : sigLt a c = true) : opHyst a b c old = sigFlag false (stOf [a, b, c]) := by
  simp [opHyst, (sigLt_eq_false_iff b a).2 ((sigLe_iff a b).1 notAbove), below]
theorem opHyst_between (notAbove : sigLe a b = true) (notBelow : sigLe c a = true) : opHyst a b c old = old := by
  simp [opHyst, (sigLt_eq_false_iff b a).2 ((sigLe_iff a b).1 notAbove), (sigLt_eq_false_iff a c).2 ((sigLe_iff c a).1 notBelow)]

end

/-- RATECMP writes its flag and then the copy of A. -/
theorem ratecmp_writes {s : State} {l : Lane} {g : Img} {e : Entry} (ready : s.dev.Ready l g e) (cls : e.cls = 0x09)
    (op : (sigOpOf g e.operand).op = 0x0D) :
    let o := sigOpOf g e.operand
    let q := (s.dev.begun l g e).lane l
    Writes (.ratecmp l false) s l g e [(o.out, opRatecmp (q.sig o.a) (q.sig o.b) (q.sig o.c)), (o.c, q.sig o.a)] := by
  intro o q
  have accepted : opIs 0x0D g e = true := by rw [opIs, cls, op]; rfl
  have written : (s.dev.begun l g e).onLane l (fun q => q.setSigs
        [(o.out, opRatecmp (((s.dev.begun l g e).lane l).sig o.a) (((s.dev.begun l g e).lane l).sig o.b) (((s.dev.begun l g e).lane l).sig o.c)),
          (o.c, ((s.dev.begun l g e).lane l).sig o.a)]) =
      (s.dev.begun l g e).onLane l (fun q => (q.setSig o.out (opRatecmp (q.sig o.a) (q.sig o.b) (q.sig o.c))).setSig o.c (q.sig o.a)) :=
    Dev.onLane_congr rfl
  have meaning : exec (.ratecmp l false) s = s.onDev (fun d => dispatch d l false (opIs 0x0D) (fun g e d =>
      let o := sigOpOf g e.operand
      d.onLane l (fun q => (q.setSig o.out (opRatecmp (q.sig o.a) (q.sig o.b) (q.sig o.c))).setSig o.c (q.sig o.a)))) := rfl
  rw [Writes, Runs, meaning, onDev_dispatch_ready s l g e _ _ ready accepted, written]

/-- Settles O8: each test writes its word, which the order of the operands chooses. -/
theorem signalTests : Obligations.SignalTests := by
  intro s l g e ready cls o a b c st3
  have limit (op : o.op = 0x09) :=
    sigOp_writes (c := .limit l false) (f := fun o q => opLimit (q.sig o.a) (q.sig o.b) (q.sig o.c)) ready cls op rfl
  have hyst (op : o.op = 0x0F) :=
    sigOp_writes (c := .hyst l false) (f := fun o q => opHyst (q.sig o.a) (q.sig o.b) (q.sig o.c) (q.sig o.out)) ready cls op rfl
  refine ⟨fun op above below => ?_, fun op order below => ?_, fun op order above => ?_, fun op crossed => ?_, fun op => ?_, fun op => ?_,
    fun op above => ?_, fun op notAbove below => ?_, fun op notAbove notBelow => ?_⟩
  · exact opLimit_inside above below ▸ limit op
  · exact opLimit_below order below ▸ limit op
  · exact opLimit_above order above ▸ limit op
  · exact opLimit_crossed crossed ▸ limit op
  · exact ratecmp_writes ready cls op
  · exact sigOp_writes (f := fun o q => opCmp o.cond (q.sig o.a) (q.sig o.b)) ready cls op rfl
  · exact opHyst_above above ▸ hyst op
  · exact opHyst_below notAbove below ▸ hyst op
  · have word : opHyst a b c (((s.dev.begun l g e).lane l).sig o.out) = _ := opHyst_between notAbove notBelow
    have writes := hyst op
    rwa [word] at writes

end Sys2Proof.Machine
end

section
/-! SUPPORT. A timetable entry that is not started (R49, R54, R105, R106): each entry command is a dispatch, and a dispatch that faults
takes its lane out. -/

namespace Sys2Proof.Machine
open Sys2Proof

/-- Command c dispatches the entries that `ok` accepts, with some operation. -/
def Dispatches (ok : Img → Entry → Bool) (c : Lane → Bool → Instr) : Prop :=
  ∀ (l : Lane) (p : Bool), ∃ body : Img → Entry → Dev → Dev, ∀ s : State, exec (c l p) s = s.onDev (fun d => dispatch d l p ok body)

theorem entryCommands_dispatch : ∀ k ∈ entryCommands, Dispatches k.1 k.2 := by
  simp only [entryCommands, List.mem_cons, List.not_mem_nil, or_false, forall_eq_or_imp, forall_eq]
  repeat' apply And.intro
  all_goals exact fun _ _ => ⟨_, fun _ => rfl⟩

/-- Completing operations alters of the sequencer the list of what is in progress alone. -/
theorem LaneSt.settle_seq (q : LaneSt) (swap : Bool) (n : Nat) :
    (q.settle swap n).seq = { q.seq with late := q.seq.late.filter (fun e => !e.doneBy swap n) } := by
  have completed (es : List Late) (q : LaneSt) : (es.foldl LaneSt.complete q).seq = q.seq := by
    induction es generalizing q with
    | nil => rfl
    | cons e r ih => rw [List.foldl_cons, ih, LaneSt.complete_seq]
  rw [LaneSt.settle, completed]

/-- The device when lane l's dispatch clock n has come: what is complete by then is visible. -/
def Dev.atClk (d : Dev) (l : Lane) (n : Nat) : Dev := (d.toLaneClk l n).onLane l (fun q => q.settle false n)

theorem Dev.atClk_lane (d : Dev) (l : Lane) (n : Nat) : (d.atClk l n).lane l = (d.lane l).settle false n := Dev.onLane_lane ..
theorem Dev.atClk_lane_ne (d : Dev) {l m : Lane} (n : Nat) (other : m ≠ l) : (d.atClk l n).lane m = d.lane m :=
  Dev.onLane_lane_ne _ _ _ _ other
theorem Dev.atClk_runs (d : Dev) (l : Lane) (n : Nat) : (d.atClk l n).runs l = d.runs l :=
  Dev.runs_congr (by rw [Dev.atClk_lane]; exact LaneSt.settle_phase ..)

section
variable {d : Dev} {l : Lane} {g : Img} {e : Entry} {p : Bool} {ok : Img → Entry → Bool} {body : Img → Entry → Dev → Dev}
  (image : d.boot.running = some g) (entry : d.entryAt l = some e) (runs : d.runs l = true) (accepted : ok g e = true)
include image entry runs accepted

/-- A dispatch whose start faults leaves what the start leaves. -/
theorem dispatch_of_fault {d' : Dev} (fault : startEntry d l p e g = (d', false)) : dispatch d l p ok body = d' := by
  simp only [dispatch, dispatchStaging, image, entry, runs, accepted, Bool.and_self, if_true, fault]

/-- R49: later than 64 lane clocks behind its target the entry is not started. -/
theorem dispatch_late (late : d.target l e.offset + 64 < d.dispatchAt l e.offset) :
    dispatch d l p ok body = (d.atClk l (d.dispatchAt l e.offset)).takeOut l 3 (d.lane l).seq.ptr e.unit :=
  dispatch_of_fault image entry runs accepted (if_pos (by omega))
/-- R54: an entry that finds its unit busy is not started. -/
theorem dispatch_busy (intime : d.dispatchAt l e.offset ≤ d.target l e.offset + 64)
    (busy : d.dispatchAt l e.offset < (lookupNat (d.lane l).seq.busy e.unit).getD 0) :
    dispatch d l p ok body = (d.atClk l (d.dispatchAt l e.offset)).takeOut l 2 (d.lane l).seq.ptr e.unit :=
  dispatch_of_fault image entry runs accepted ((if_neg (by omega)).trans (if_pos (decide_eq_true busy)))
/-- R105: a parity failure in a read keeps the entry from being started. -/
theorem dispatch_parity (intime : d.dispatchAt l e.offset ≤ d.target l e.offset + 64)
    (free : (lookupNat (d.lane l).seq.busy e.unit).getD 0 ≤ d.dispatchAt l e.offset) (parity : p = true) :
    dispatch d l p ok body = (d.atClk l (d.dispatchAt l e.offset)).takeOut l 6 (d.lane l).seq.ptr e.unit := by
  have notBusy : ¬ decide (d.dispatchAt l e.offset < (lookupNat (d.lane l).seq.busy e.unit).getD 0) = true := by
    simpa using free
  exact dispatch_of_fault image entry runs accepted ((if_neg (by omega)).trans ((if_neg notBusy).trans (if_pos parity)))

end

/-- A lane that an entry takes out at clock n: cause, place and count latched, results complete by n visible, the rest lost. -/
theorem takeOut_atClk (d : Dev) {l : Lane} (runs : d.runs l = true) (n cause entry unit : Nat) :
    let d' := (d.atClk l n).takeOut l cause entry unit
    d'.phase l = .out ∧ (d'.lane l).seq.cause = cause ∧
      (d'.lane l).seq.fEntry = (if 1 ≤ cause ∧ cause ≤ 4 then entry else 0) ∧
      (d'.lane l).seq.fUnit = (if 1 ≤ cause ∧ cause ≤ 4 then unit else 0) ∧
      (d'.lane l).seq.outCount = satInc 255 (d.lane l).seq.outCount ∧ (d'.lane l).mem = ((d.lane l).settle false n).mem ∧
      (d'.lane l).seq.late = [] ∧ ∀ m : Lane, m ≠ l → d'.lane m = d.lane m := by
  have out := Dev.takeOut_lane (d.atClk l n) l cause entry unit ((d.atClk_runs l n).trans runs)
  rw [Dev.atClk_lane] at out
  simp only [Dev.phase, out, SeqSt.goOut, LaneSt.settle_seq, decide_eq_true_eq, true_and]
  exact fun m other => (Dev.takeOut_lane_ne _ _ _ _ _ _ other).trans (d.atClk_lane_ne n other)

/-- Settles O4: every entry command is a dispatch, and a dispatch that faults takes its lane out at the dispatch clock. -/
theorem entryFaults : Obligations.EntryFaults := by
  intro k mem s l g e p image entry runs accepted q0 q clk late busy out
  obtain ⟨body, meaning⟩ := entryCommands_dispatch k mem l p
  have ends {d : Dev} (eq : dispatch s.dev l p k.1 body = d) : exec (k.2 l p) s = .next { s with dev := d } :=
    eq ▸ meaning s
  refine ⟨fun isLate => ⟨_, ends (dispatch_late image entry runs accepted isLate), rfl, ?_⟩,
    fun intime isBusy => ⟨_, ends (dispatch_busy image entry runs accepted intime isBusy), rfl, ?_⟩,
    fun intime free parity => ⟨_, ends (dispatch_parity image entry runs accepted intime free parity), rfl, ?_⟩⟩
  · exact takeOut_atClk s.dev runs clk 3 q.ptr e.unit
  · exact takeOut_atClk s.dev runs clk 2 q.ptr e.unit
  · exact takeOut_atClk s.dev runs clk 6 q.ptr e.unit

end Sys2Proof.Machine
end

section
/-! SUPPORT. What an operation makes of its own lane: the lane becomes a new one, and the other lanes, the voters and all that lies outside
the lanes and voters stay. -/

namespace Sys2Proof.Machine
open Sys2Proof

theorem Ends.imp {c : Instr} {s : State} {l : Lane} {g : Img} {e : Entry} {P Q : Dev → Prop} (ends : Ends c s l g e P)
    (weaker : ∀ d, P d → Q d) : Ends c s l g e Q := by
  obtain ⟨d, done, holds⟩ := ends
  exact ⟨d, done, weaker d holds⟩

/-- From d to d' lane l becomes q, and the other lanes, the voters and what lies outside stay. -/
structure Dev.LaneBecomes (d : Dev) (l : Lane) (q : LaneSt) (d' : Dev) : Prop where
  lane : d'.lane l = q
  others : ∀ m : Lane, m ≠ l → d'.lane m = d.lane m
  vot : d'.vot = d.vot
  outside : d.SameOutside d'

namespace Dev.LaneBecomes
variable {d d' : Dev} {l : Lane} {q : LaneSt} (h : d.LaneBecomes l q d')

theorem refl (d : Dev) (l : Lane) : d.LaneBecomes l (d.lane l) d := ⟨rfl, fun _ _ => rfl, rfl, .refl d⟩
theorem begun (d : Dev) (l : Lane) (g : Img) (e : Entry) : d.LaneBecomes l ((d.begun l g e).lane l) (d.begun l g e) :=
  ⟨rfl, fun _ other => begun_lane_ne _ _ _ _ _ other, rfl, begun_outside ..⟩

include h

theorem onLane (f : LaneSt → LaneSt) : d.LaneBecomes l (f q) (d'.onLane l f) :=
  ⟨(Dev.onLane_lane ..).trans (congrArg f h.lane), fun m other => (Dev.onLane_lane_ne _ _ _ _ other).trans (h.others m other), h.vot, h.outside⟩
/-- The same with the new lane named apart. -/
theorem onLane_eq {q' : LaneSt} {f : LaneSt → LaneSt} (eq : f q = q') : d.LaneBecomes l q' (d'.onLane l f) := eq ▸ h.onLane f
theorem onSeq (f : SeqSt → SeqSt) : d.LaneBecomes l { q with seq := f q.seq } (d'.onSeq l f) :=
  h.onLane (fun q => { q with seq := f q.seq })
theorem onTime (f : TimeSt → TimeSt) : d.LaneBecomes l q (d'.onTime f) := ⟨h.lane, h.others, h.vot, h.outside⟩
theorem onHost (f : HostSt → HostSt) : d.LaneBecomes l q (d'.onHost f) := ⟨h.lane, h.others, h.vot, h.outside⟩
theorem onJr (f : JournalSt → JournalSt) : d.LaneBecomes l q (d'.onJr f) := ⟨h.lane, h.others, h.vot, h.outside⟩
theorem putHost (x : HostSt) : d.LaneBecomes l q { d' with host := x } := ⟨h.lane, h.others, h.vot, h.outside⟩
theorem count (a n : Nat) : d.LaneBecomes l q (d'.count a n) := h.putHost _
theorem toClk (n : Nat) : d.LaneBecomes l q (d'.toClk n) := h.onTime _
theorem toGt (n : Nat) : d.LaneBecomes l q (d'.toGt n) := h.onTime _
theorem putTime (x : TimeSt) : d.LaneBecomes l q { d' with time := x } := ⟨h.lane, h.others, h.vot, h.outside⟩
theorem toLaneClk (m : Lane) (n : Nat) : d.LaneBecomes l q (d'.toLaneClk m n) := h.putTime (d'.toLaneClk m n).time
theorem ite {p : Prop} [Decidable p] {q' : LaneSt} {e : Dev} (h' : d.LaneBecomes l q' e) :
    d.LaneBecomes l (if p then q else q') (if p then d' else e) := by
  split_ifs
  · exact h
  · exact h'
/-- An update that is made only in one case and leaves the lane alone. -/
theorem iteSelf {p : Prop} [Decidable p] {e : Dev} (h' : d.LaneBecomes l q e) : d.LaneBecomes l q (if p then d' else e) := by
  split_ifs
  · exact h
  · exact h'
theorem countLow (m : Lane) (a n : Nat) : d.LaneBecomes l q (d'.countLow m a n) := (h.count a n).iteSelf h

end Dev.LaneBecomes

/-- A ready entry whose operation makes q of its lane. -/
theorem ends_of_laneBecomes {s : State} {l : Lane} {g : Img} {e : Entry} (ready : s.dev.Ready l g e) {c : Instr} {ok : Img → Entry → Bool}
    {body : Img → Entry → Dev → Dev} {q : LaneSt} (accepted : ok g e = true)
    (meaning : exec c s = s.onDev (fun d => dispatch d l false ok body)) (becomes : s.dev.LaneBecomes l q (body g e (s.dev.begun l g e))) :
    Ends c s l g e (s.dev.LaneBecomes l q) :=
  ends_of_dispatch ready accepted meaning becomes

end Sys2Proof.Machine
end

section
/-! SUPPORT. Operations that write no signal word: what a ready entry runs, the lane-out of a missed deadline (R56), mode requests (R66)
and the staging of fields (R60, R62). -/

namespace Sys2Proof.Machine
open Sys2Proof

/-! ### A ready entry -/

section
variable {s : State} {l : Lane} {g : Img} {e : Entry} (ready : s.dev.Ready l g e)
include ready

/-- A ready entry runs its operation, which only counts as the begun device shows it. -/
theorem runs_of_dispatch {c : Instr} {ok : Img → Entry → Bool} {body : Img → Entry → Dev → Dev} {f : Dev → Dev}
    (accepted : ok g e = true) (meaning : exec c s = s.onDev (fun d => dispatch d l false ok body))
    (same : body g e (s.dev.begun l g e) = f (s.dev.begun l g e)) : Runs c s l g e f := by
  rw [Runs, meaning, onDev_dispatch_ready s l g e ok body ready accepted, same]
/-- A ready entry whose operation writes a list of words writes these. -/
theorem writes_of_dispatch {c : Instr} {ok : Img → Entry → Bool} {body : Img → Entry → Dev → Dev} {ws : List (Nat × SigWord)}
    (accepted : ok g e = true) (meaning : exec c s = s.onDev (fun d => dispatch d l false ok body))
    (same : body g e (s.dev.begun l g e) = (s.dev.begun l g e).onLane l (fun q => q.setSigs ws)) : Writes c s l g e ws :=
  runs_of_dispatch ready accepted meaning same

end

/-! ### The groups through a lane-out -/

/-- What a map of the groups keeps of each, it keeps of the group of a name. -/
theorem group_of_map {α : Type} (p : GroupSt → α) {f : GroupSt → GroupSt} (keeps : ∀ x, (f x).g = x.g ∧ p (f x) = p x)
    (gs : List GroupSt) (h : Group) :
    p (((gs.map f).find? (fun x => x.g == h)).getD (GroupSt.new h)) = p ((gs.find? (fun x => x.g == h)).getD (GroupSt.new h)) := by
  have name : (fun x : GroupSt => x.g == h) ∘ f = fun x => x.g == h := funext fun x => by simp [(keeps x).1]
  rw [List.find?_map, name]
  cases gs.find? (fun x => x.g == h) with
  | none => rfl
  | some x => exact (keeps x).2
theorem Dev.group_congr {d d' : Dev} (same : d'.vot.groups = d.vot.groups) (h : Group) : d'.group h = d.group h := by
  rw [Dev.group, same, Dev.group]

section
variable {α : Type} {p : GroupSt → α} (kept : ∀ (x : GroupSt) (v : Option (BitVec 8)), p { x with held := v } = p x)
include kept

theorem Dev.holdAll_group (d : Dev) (h : Group) : p (d.holdAll.group h) = p (d.group h) := by
  unfold Dev.holdAll
  split_ifs
  · exact group_of_map p (f := fun g => { g with held := some (g.held.getD 0) }) (fun x => ⟨rfl, kept x _⟩) d.vot.groups h
  · rfl
/-- A lane-out can hold a group, and leaves the rest of it. -/
theorem Dev.takeOut_group (d : Dev) (l : Lane) (cause entry unit : Nat) (h : Group) :
    p ((d.takeOut l cause entry unit).group h) = p (d.group h) := by
  unfold Dev.takeOut
  dsimp only
  by_cases runs : d.runs l = true
  · rw [if_pos runs]
    by_cases live : d.isLive l = true
    · rw [if_pos live, Dev.holdAll_group kept]
      exact congrArg p (Dev.group_congr (by simp) h)
    · rw [if_neg live]
      exact congrArg p (Dev.group_congr (by simp) h)
  · rw [if_neg runs]

end

theorem Dev.takeOut_flight (d : Dev) (l : Lane) (cause entry unit : Nat) (h : Group) :
    ((d.takeOut l cause entry unit).group h).flight = (d.group h).flight := Dev.takeOut_group (p := GroupSt.flight) (fun _ _ => rfl) ..

/-! ### A missed deadline -/

/-- Lane l takes its last posts to these groups back. -/
def Dev.unpostAll (d : Dev) (l : Lane) (gs : List Group) : Dev := gs.foldl (unpost l) d

@[simp] theorem Dev.unpostAll_lanes (d : Dev) (l : Lane) (gs : List Group) : (d.unpostAll l gs).lanes = d.lanes := by
  induction gs generalizing d with
  | nil => rfl
  | cons g r ih => exact ih _
@[simp] theorem Dev.unpostAll_time (d : Dev) (l : Lane) (gs : List Group) : (d.unpostAll l gs).time = d.time := by
  induction gs generalizing d with
  | nil => rfl
  | cons g r ih => exact ih _
theorem unpost_group (d : Dev) (l : Lane) (h : Group) :
    ((unpost l d h).group h).flight = (d.group h).flight.set l ((d.group h).flight.get l).dropLast := by
  rw [unpost, Dev.onGroup_group d (by exact fun _ => rfl)]
theorem Dev.unpostAll_group_ne (d : Dev) (l : Lane) {gs : List Group} {h : Group} (other : h ∉ gs) :
    (d.unpostAll l gs).group h = d.group h := by
  induction gs generalizing d with
  | nil => rfl
  | cons g r ih =>
    obtain ⟨hg, hr⟩ := not_or.1 (mt List.mem_cons.2 other)
    exact (ih _ hr).trans (Dev.onGroup_group_ne d (by exact fun _ => rfl) hg)

/-- The device at the deadline clock of the operation w in progress on lane l, with what it has posted taken back. -/
def Dev.missed (d : Dev) (l : Lane) (w : Late) : Dev := (d.toLaneClk l w.due).unpostAll l w.groups

theorem Dev.missed_lane (d : Dev) (l m : Lane) (w : Late) : (d.missed l w).lane m = d.lane m := by
  simp [Dev.missed, Dev.lane]
theorem exec_missedDeadline {s : State} {l : Lane} {u : Nat} {w : Late} (runs : s.dev.runs l = true)
    (found : (s.dev.lane l).seq.late.find? (fun x => x.unit == u) = some w) :
    exec (.missedDeadline l u) s = .next { s with dev := (s.dev.missed l w).takeOut l 1 w.entry w.unit } := by
  simp only [exec, execMissedDeadline, State.onDev, found, runs, if_true]
  rfl

/-! ### Mode requests -/

@[simp] theorem Dev.endJob?_lanes (d : Dev) (n : Option Nat) (s e : Nat) : (d.endJob? n s e).lanes = d.lanes := by cases n <;> rfl
@[simp] theorem Dev.endJob?_gd (d : Dev) (n : Option Nat) (s e : Nat) : (d.endJob? n s e).gd = d.gd := by cases n <;> rfl

theorem Dev.requestMode_lanes (d : Dev) (m : Nat) (job : Option Nat) : (d.requestMode m job).lanes = d.lanes := by
  unfold Dev.requestMode
  dsimp only
  split_ifs
  · simp
  · rfl
  · split <;> simp
  · simp
theorem Dev.requestMode_gd (d : Dev) (m : Nat) (job : Option Nat) : (d.requestMode m job).gd = d.gd := by
  unfold Dev.requestMode
  dsimp only
  split_ifs
  · simp
  · rfl
  · split <;> simp
  · simp

/-- The operation of MODE_REQUEST_ENTRY. -/
def Dev.requestEntry (d : Dev) (l : Lane) (g : Img) (e : Entry) : Dev :=
  if (g.mode (e.operand % 8)).isNone then d
  else if l = (d.onSeq l (fun s => { s with pend := some (e.operand % 8) })).lowLane &&
      !(d.onSeq l (fun s => { s with pend := some (e.operand % 8) })).entryRepeats (e.operand % 8) then
    (d.onSeq l (fun s => { s with pend := some (e.operand % 8) })).requestMode (e.operand % 8) none
  else d.onSeq l (fun s => { s with pend := some (e.operand % 8) })

theorem exec_modeRequestEntry (l : Lane) (p : Bool) (s : State) : exec (.modeRequestEntry l p) s =
    s.onDev (fun d => dispatch d l p (clsIs 0x02) (fun g e d => d.requestEntry l g e)) := rfl

/-! ### Staging -/

section
variable {q : LaneSt} {p : Nat} {host : Bool} {f : CfgField → CfgField}

/-- The record of a field that has none yet. -/
def CfgField.fresh (p : Nat) (host : Bool) : CfgField :=
  { pid := p, host := host, live := cfgDefault p, staged := none, at_ := 0, due := [] }

theorem LaneSt.onField_of_some (known : (q.field p).isSome = true) :
    q.onField p host f = { q with cfg := q.cfg.map (fun c => if c.pid == p then f c else c) } := if_pos known
theorem LaneSt.onField_of_none (new : q.field p = none) :
    q.onField p host f = { q with cfg := q.cfg ++ [f (.fresh p host)] } :=
  if_neg (by simp [new])

variable (keeps : ∀ c, (f c).pid = c.pid)
include keeps

/-- The field that was changed, and no other. -/
theorem LaneSt.onField_field (k : Nat) : (q.onField p host f).field k =
    if k = p then some (f ((q.field p).getD (.fresh p host))) else q.field k := by
  cases known : q.field p with
  | some c =>
    have pid : c.pid = p := by simpa using List.find?_some known
    have name : (fun c : CfgField => c.pid == k) ∘ (fun c => if c.pid == p then f c else c) = fun c => c.pid == k :=
      funext fun c => by dsimp only [Function.comp]; split_ifs <;> simp [keeps]
    rw [LaneSt.onField_of_some (by simp [known]), LaneSt.field]
    dsimp only
    rw [List.find?_map, name]
    split_ifs with same
    · subst same
      rw [← LaneSt.field, known]
      simp [pid]
    · rw [LaneSt.field]
      cases other : q.cfg.find? (fun c => c.pid == k) with
      | none => rfl
      | some x =>
        have xk : x.pid = k := by simpa using List.find?_some other
        simp [xk, same]
  | none =>
    rw [LaneSt.onField_of_none known, LaneSt.field, List.find?_append]
    split_ifs with same
    · subst same
      rw [← LaneSt.field, known]
      simp [keeps, CfgField.fresh]
    · rw [← LaneSt.field]
      simp [keeps, CfgField.fresh, Ne.symm same]

/-- A change that leaves the live value leaves what the lane reads. -/
theorem LaneSt.onField_cfgVal (live : ∀ c, (f c).live = c.live) (field inst : Nat) :
    (q.onField p host f).cfgVal field inst = q.cfgVal field inst := by
  rw [LaneSt.cfgVal, LaneSt.onField_field keeps, LaneSt.cfgVal]
  split_ifs with same
  · rw [same]
    cases q.field p with
    | some c => exact live c
    | none => exact live _
  · rfl

end

@[simp] theorem LaneSt.onField_mem (q : LaneSt) (p : Nat) (host : Bool) (f : CfgField → CfgField) : (q.onField p host f).mem = q.mem := by
  unfold LaneSt.onField
  split_ifs <;> rfl
theorem LaneSt.stage_field (q : LaneSt) (p : Nat) (host : Bool) (v : DWord) :
    ∃ c, (q.stage p host v).field p = some c ∧ c.staged = some v :=
  ⟨_, (LaneSt.onField_field (by exact fun _ => rfl) p).trans (if_pos rfl), rfl⟩
/-- A staging that writes no memory completes by staging its value. -/
theorem LaneSt.complete_stage {q : LaneSt} {w : Late} {p : Nat} {v : DWord} (cells : w.cells = []) (coef : w.coef = none)
    (stage : w.stage = [(p, v)]) : q.complete w = q.stage p false v := by
  rw [LaneSt.complete, stage, coef, cells]
  rfl

/-- Settles O5: what each entry runs, the lane-out of a missed deadline, and the completion of a staging. -/
theorem sequencerEntries : Obligations.SequencerEntries := by
  refine ⟨fun s l g e ready => ⟨fun cls => ?_, fun cls => ?_⟩, fun s l u w runs found => ?_, fun s l g e ready => ?_,
    fun q w n p v one cells coef stage => ⟨fun done => ?_, fun before => ?_⟩⟩
  · exact runs_of_dispatch ready (beq_iff_eq.2 cls) (s := s) (body := fun _ _ d => d) rfl rfl
  · exact runs_of_dispatch ready (beq_iff_eq.2 cls) (s := s) (ok := clsIs 0x01)
      (body := fun _ e d => d.onSeq l (fun q => { q with trace := q.trace ++ [BitVec.ofNat 32 e.operand] })) rfl rfl
  · obtain rfl : w.unit = u := by simpa using List.find?_some found
    have out := Dev.takeOut_lane (s.dev.missed l w) l 1 w.entry w.unit ((Dev.runs_congr (by rw [Dev.missed_lane])).trans runs)
    rw [Dev.missed_lane] at out
    refine ⟨_, exec_missedDeadline runs found, rfl, ?_⟩
    simp only [Dev.phase, out, SeqSt.goOut, true_and, le_refl, Nat.one_le_ofNat, and_self, decide_true, if_true]
    refine ⟨fun m => ?_, fun h only => ?_, fun h other => ?_⟩
    · rw [Dev.takeOut_mem, Dev.missed_lane]
    · rw [Dev.takeOut_flight, Dev.missed, Dev.unpostAll, only, List.foldl_cons, List.foldl_nil, unpost_group, Tri.get_set]
      rfl
    · rw [Dev.takeOut_flight, Dev.missed, Dev.unpostAll_group_ne _ _ other]
      rfl
  · intro q
    refine ⟨fun cls has => ?_, fun cls lacks => ?_, fun cls => ?_, fun cls p i grp own notSet members sigs => ?_⟩
    · refine ends_of_dispatch ready (beq_iff_eq.2 cls) (exec_modeRequestEntry l false s) ?_
      rw [Dev.requestEntry, if_neg (by rw [Option.isNone_eq_false_iff.2 has]; exact Bool.false_ne_true)]
      have pended : ((s.dev.begun l g e).onSeq l (fun s => { s with pend := some (e.operand % 8) })).lane l =
        { q with seq := { q.seq with pend := some (e.operand % 8) } } := Dev.onSeq_lane ..
      split_ifs
      · simp only [Dev.lane, Dev.requestMode_lanes, Dev.requestMode_gd]
        rw [← Dev.lane, pended]
        exact ⟨rfl, rfl, rfl, rfl, rfl⟩
      · rw [pended]
        exact ⟨rfl, rfl, rfl, rfl, rfl⟩
    · exact runs_of_dispatch ready (beq_iff_eq.2 cls) (exec_modeRequestEntry l false s) (if_pos (by simpa using lacks))
    · exact congrArg (fun d => Host.Outcome.next { s with dev := d }) (dispatchStaging_ready s.dev l g e (clsIs 0x03) _ _ ready (beq_iff_eq.2 cls))
    · simp [stagingOf, grp, own, notSet, members, sigs]
  · have completes : w.doneBy false n = true := by rw [Late.doneBy_false, decide_eq_true done]
    rw [LaneSt.settle_of_done one completes, LaneSt.complete_stage cells coef stage]
    exact ⟨LaneSt.stage_field .., LaneSt.onField_mem .., LaneSt.onField_cfgVal (fun _ => rfl) (fun _ => rfl)⟩
  · refine LaneSt.settle_of_pending one ?_
    have stages : w.stages = true := by simp [Late.stages, stage]
    rw [Late.doneBy, stages, Bool.and_self, if_pos rfl, decide_eq_false (by omega)]

end Sys2Proof.Machine
end

section
/-! SUPPORT. Words of lane SRAM, and the loop close of R157 to R159: its target, its limits and the shift of its integrator. -/

namespace Sys2Proof.Machine
open Sys2Proof

/-! ### 32-bit words of lane SRAM -/

theorem laneWrite_eq_memWrite {bs : List Byte} {m : List Host.Cell} {x : Nat} (inside : x % 8 + bs.length ≤ 6) :
    laneWrite m x bs = memWrite m x bs := by
  induction bs generalizing m x with
  | nil => rfl
  | cons b r ih =>
    simp only [List.length_cons] at inside
    have kept : slotGap x = false := by
      rw [slotGap, decide_eq_false (p := 6 ≤ x % 8) (by omega), Bool.and_false]
    simp only [laneWrite, memWrite, laneSet, kept]
    exact ih (by omega)

section
variable {m : List Host.Cell} {x : Nat} (wf : memWf m = true) (aligned : x % 8 ≤ 2)
include aligned

theorem memSetWord_eq (v : Int) : memSetWord m x v = memWrite m x (leBytes (toField v 32) 4) :=
  laneWrite_eq_memWrite (by rw [length_leBytes]; omega)

include wf

theorem memWord_memSetWord (v : Int) : memWord (memSetWord m x v) x = toField v 32 := by
  have bytes := memRead_memWrite wf x (leBytes (toField v 32) 4)
  have small : toField v 32 < 256 ^ 4 := by
    rw [toField]
    have : v % 2 ^ 32 < 2 ^ 32 := Int.emod_lt_of_pos _ (by decide)
    omega
  rw [length_leBytes] at bytes
  rw [memWord, memSetWord_eq aligned, bytes, leNat_leBytes, Nat.mod_eq_of_lt small]
theorem memGet_memSetWord_ne (v : Int) {y : Nat} (outside : y < x ∨ x + 4 ≤ y) : memGet (memSetWord m x v) y = memGet m y := by
  rw [memSetWord_eq aligned, memGet_memWrite_ne _ _ _ _ wf (by rwa [length_leBytes])]

end

theorem memGet_memSetSig_ne {m : List Host.Cell} (wf : memWf m = true) (i : Nat) (w : SigWord) {y : Nat}
    (outside : y < sigAddr i ∨ sigAddr i + 6 ≤ y) : memGet (memSetSig m i w) y = memGet m y :=
  memGet_memWrite_ne _ _ _ _ wf (by rwa [length_leBytes])
theorem memWord_memSetSig {m : List Host.Cell} (wf : memWf m = true) (i : Nat) (w : SigWord) {x : Nat}
    (apart : x + 4 ≤ sigAddr i ∨ sigAddr i + 6 ≤ x) : memWord (memSetSig m i w) x = memWord m x := by
  rw [memWord, memSetSig, memRead_memWrite_disjoint wf (by rwa [length_leBytes]), memWord]

/-! ### 32-bit values -/

/-- A value that 32 bits hold. -/
def Fits32 (v : Int) : Prop := -(2 ^ 31) ≤ v ∧ v < 2 ^ 31

theorem signedBits_toField {v : Int} (fits : Fits32 v) : signedBits (toField v 32) 32 = v := by
  obtain ⟨low, high⟩ := fits
  unfold signedBits toField
  split_ifs <;> omega
theorem clip32_fits (v : Int) : Fits32 (clip32 v).1 := by
  unfold clip32 Fits32
  split_ifs <;> dsimp only <;> omega
theorem clip32_of_fits {v : Int} (fits : Fits32 v) : (clip32 v).1 = v := by
  obtain ⟨low, high⟩ := fits
  unfold clip32
  rw [if_neg (by omega), if_neg (by omega)]
theorem leNat_lt (bs : List Byte) : leNat bs < 256 ^ bs.length := by
  induction bs with
  | nil => decide
  | cons b r ih =>
    have := b.isLt
    rw [leNat, List.length_cons, pow_succ]
    omega
theorem length_memRead (m : List Host.Cell) (x n : Nat) : (memRead m x n).length = n := by
  induction n generalizing x with
  | zero => rfl
  | succ n ih => rw [memRead, List.length_cons, ih]
theorem memWord_fits (m : List Host.Cell) (x : Nat) : Fits32 (signedBits (memWord m x) 32) := by
  have small : memWord m x < 256 ^ 4 := length_memRead m x 4 ▸ leNat_lt (memRead m x 4)
  unfold signedBits Fits32
  split_ifs <;> omega

/-! ### The result of a loop close -/

section
variable (w lo hi : SigWord) (st : Status)

/-- The limited value does not depend on the status. -/
theorem sigVal_opLimit_status : sigVal (opLimit { w with st := st } lo hi) = sigVal (opLimit w lo hi) := by
  have below : sigLt { w with st := st } lo = sigLt w lo := rfl
  have above : sigLt hi { w with st := st } = sigLt hi w := rfl
  dsimp only [opLimit]
  rw [below, above]
  split_ifs <;> rfl
theorem opLimit_valid : (opLimit w lo hi).st.valid = (w.st.valid && (lo.st.valid && hi.st.valid)) := by
  dsimp only [opLimit]
  split_ifs <;> simp [sigWith, stLim, stOf, stJoin, Status.ok]

end

/-- The loop close r limits the target w and moves the integrator by what that changes of Y. -/
def LoopOut.Reaches (r : LoopOut) (intEn : Bool) (y w lo hi : SigWord) (e s1 : Int) : Prop :=
  let lim := sigVal (opLimit w lo hi)
  (∃ st : Status, r.out = mkSig lim st ∧ st.valid = (opLimit w lo hi).st.valid) ∧
  (intEn = true → r.s1 = (clip32 (s1 + dyRound (dyScale (dySub lim (sigVal y)) (31 - e)))).1)

section
variable {t : LoopDesc} {y val flag fb old lo hi : SigWord} {chg : Bool} {e s1 : Int} (fits : Fits32 s1)
  (loOk : lo.st = Status.ok) (hiOk : hi.st = Status.ok)

/-- The tracking value is wanted (R157). -/
def LoopDesc.Wants (t : LoopDesc) (flag : SigWord) : Prop := t.trkEn = true ∧ (flag.st.valid = false ∨ sigBit flag t.fbit = t.pol)

theorem LoopDesc.wants_iff (t : LoopDesc) (flag : SigWord) :
    (t.trkEn && (!flag.st.valid || sigBit flag t.fbit == t.pol)) = true ↔ t.Wants flag := by
  simp [LoopDesc.Wants]

include fits in
/-- A difference of zero shifts nothing. -/
theorem clip32_zero_shift {x : Dy} (zero : dyIsZero x = true) : (clip32 (s1 + dyRound (dyScale x (31 - e)))).1 = s1 := by
  have none_ : dyRound (dyScale x (31 - e)) = 0 := by
    have val : (dyScale x (31 - e)).val = 0 := by
      rw [Dy.val_eq_zero_iff]; exact of_decide_eq_true zero
    have half : Dy.val ⟨1, -1⟩ = 1 / 2 := by norm_num [Dy.val]
    rw [dyRound, dyFloor_eq, dyAdd_val, val, half]
    norm_num
  rw [none_, add_zero, clip32_of_fits fits]

include fits loOk hiOk in
/-- What limiting a target with any status that keeps its VALID makes of OUT and of the integrator. -/
theorem reaches_of_target {r : LoopOut} {w : SigWord} {st : Status} (valid : st.valid = w.st.valid)
    (out : r.out = mkSig (sigVal (opLimit { w with st := st } { lo with st := Status.ok } { hi with st := Status.ok }))
      (opLimit { w with st := st } { lo with st := Status.ok } { hi with st := Status.ok }).st)
    (shift : r.s1 = if t.intEn && !(dyIsZero (dySub
        (sigVal (opLimit { w with st := st } { lo with st := Status.ok } { hi with st := Status.ok })) (sigVal y))) then
        (clip32 (s1 + dyRound (dyScale (dySub
          (sigVal (opLimit { w with st := st } { lo with st := Status.ok } { hi with st := Status.ok })) (sigVal y)) (31 - e)))).1
      else s1) : r.Reaches t.intEn y w lo hi e s1 := by
  have loSame : { lo with st := Status.ok } = lo := by rw [← loOk]
  have hiSame : { hi with st := Status.ok } = hi := by rw [← hiOk]
  rw [loSame, hiSame, sigVal_opLimit_status] at out shift
  refine ⟨⟨_, out, ?_⟩, fun en => ?_⟩
  · rw [opLimit_valid, opLimit_valid, valid]
  · rw [shift, en, Bool.true_and]
    split_ifs with moved
    · rfl
    · exact (clip32_zero_shift fits (by simpa using moved)).symm

include fits loOk hiOk

/-- R157: the tracking value while tracking. -/
theorem loopClose_tracks (want : t.Wants flag) (valid : val.st.valid = true) :
    (loopClose t y val flag fb old lo hi chg e s1).Reaches t.intEn y val lo hi e s1 := by
  have wants := (t.wants_iff flag).2 want
  refine reaches_of_target fits loOk hiOk (st := if true && !flag.st.valid then { stLim (stOf [val]) false with stale := true }
    else stLim (stOf [val]) false) ?_ ?_ ?_
  · split_ifs <;> simp
  · simp [loopClose, wants, valid]
  · simp [loopClose, wants, valid]

variable (noTrack : ¬(t.Wants flag ∧ val.st.valid = true))
include noTrack

omit fits loOk hiOk in
theorem not_tracking : ((t.trkEn && (!flag.st.valid || sigBit flag t.fbit == t.pol)) && val.st.valid) = false := by
  rwa [← Bool.not_eq_true, Bool.and_eq_true, t.wants_iff]

/-- R157: the feedback that is LIMITED. -/
theorem loopClose_feedback (fbEn : t.fbEn = true) (limited : fb.st.limited = true) :
    (loopClose t y val flag fb old lo hi chg e s1).Reaches t.intEn y
      { fb with st := { stOf [fb, y] with limited := true } } lo hi e s1 := by
  have trk := not_tracking noTrack
  refine reaches_of_target fits loOk hiOk (st := stLim (stOf [fb, y]) true) rfl ?_ ?_
  · simp [loopClose, trk, fbEn, limited]
  · simp [loopClose, trk, fbEn, limited]

variable (noFb : t.fbEn = false ∨ fb.st.limited = false)
include noFb

omit fits loOk hiOk noTrack in
theorem no_feedback : (t.fbEn && fb.st.limited) = false := by
  rcases noFb with h | h <;> simp [h]

/-- R157: the held output at a bumpless bank change. -/
theorem loopClose_bank (bumpless : t.bankBl = true) (changed : chg = true) :
    (loopClose t y val flag fb old lo hi chg e s1).Reaches t.intEn y { old with st := stOf [old, y] } lo hi e s1 := by
  have trk := not_tracking noTrack
  have fbk := no_feedback noFb
  refine reaches_of_target fits loOk hiOk (st := stLim (stOf [old, y]) false) (by simp) ?_ ?_
  · simp [loopClose, trk, fbk, bumpless, changed]
  · simp [loopClose, trk, fbk, bumpless, changed]
/-- R157: else Y. -/
theorem loopClose_own (noBank : t.bankBl = false ∨ chg = false) :
    (loopClose t y val flag fb old lo hi chg e s1).Reaches t.intEn y y lo hi e s1 := by
  have trk := not_tracking noTrack
  have fbk := no_feedback noFb
  have bank : (t.bankBl && chg) = false := by rcases noBank with h | h <;> simp [h]
  refine reaches_of_target fits loOk hiOk (st := stLim (stOf [y]) false) (by simp) ?_ ?_
  · simp [loopClose, trk, fbk, bank]
  · simp [loopClose, trk, fbk, bank]

end

/-! ### The command -/

/-- The loop close that the descriptor t gives in lane state q. -/
def LaneSt.closes (q : LaneSt) (t : LoopDesc) : LoopOut :=
  loopClose t (q.sig t.y) (q.sig t.trkVal) (q.sig t.trkFlag) (q.sig t.fb) (q.sig t.out) (q.cfgSig 0x021 t.loop) (q.cfgSig 0x020 t.loop)
    (q.bankL.contains t.loop) ((memGet q.mem t.addr).toInt) (signedBits (memWord q.mem (t.addr + 8 + 8 * t.sec)) 32)

/-- The lane after a loop close: the integrator's s1, OUT, and the bank-change latch. -/
def LaneSt.putLoop (q : LaneSt) (t : LoopDesc) (r : LoopOut) : LaneSt :=
  { q with mem := memSetSig (if t.intEn then memSetWord q.mem (t.addr + 8 + 8 * t.sec) r.s1 else q.mem) t.out r.out,
           bankL := q.bankL.filter (fun b => b != t.loop) }

/-- What a loop close counts. -/
def Dev.countLoop (d : Dev) (l : Lane) (t : LoopDesc) (r : LoopOut) : Dev :=
  let d := if r.invalid then d.countLow l (cLoop t.loop 0) 1 else d
  if r.shift then d.countLow l (cLoop t.loop 1) 1 else d

theorem exec_loopClose (l : Lane) (p : Bool) (s : State) : exec (.loopClose l p) s =
    s.onDev (fun d => dispatch d l p (clsIs 0x0C) (fun g e d =>
      (d.onLane l (fun q => q.putLoop (loopOf g e.operand) ((d.lane l).closes (loopOf g e.operand)))).countLoop l (loopOf g e.operand)
        ((d.lane l).closes (loopOf g e.operand)))) := rfl

theorem Dev.LaneBecomes.countLoop {d d' : Dev} {l : Lane} {q : LaneSt} (h : d.LaneBecomes l q d') (t : LoopDesc) (r : LoopOut) :
    d.LaneBecomes l q (d'.countLoop l t r) := by
  have invalid : d.LaneBecomes l q (if r.invalid then d'.countLow l (cLoop t.loop 0) 1 else d') := (h.countLow ..).iteSelf h
  exact (invalid.countLow ..).iteSelf invalid
/-- A ready loop close makes its lane what the descriptor's loop close gives. -/
theorem loopClose_becomes {s : State} {l : Lane} {g : Img} {e : Entry} (ready : s.dev.Ready l g e) (cls : e.cls = 0x0C) {q : LaneSt}
    (begun : (s.dev.begun l g e).lane l = q) : Ends (.loopClose l false) s l g e
      (s.dev.LaneBecomes l (q.putLoop (loopOf g e.operand) (q.closes (loopOf g e.operand)))) := by
  subst begun
  exact ends_of_laneBecomes ready (beq_iff_eq.2 cls) (exec_loopClose l false s)
    (((Dev.LaneBecomes.begun s.dev l g e).onLane (fun q => q.putLoop (loopOf g e.operand) _)).countLoop ..)

section
variable {q : LaneSt} {t : LoopDesc} {r : LoopOut} (wf : memWf q.mem = true) (aligned : t.addr % 8 = 0)
include wf

theorem putLoop_wf : memWf (if t.intEn then memSetWord q.mem (t.addr + 8 + 8 * t.sec) r.s1 else q.mem) = true := by
  split_ifs
  · exact memSetWord_wf _ _ _ wf
  · exact wf
theorem LaneSt.putLoop_out : (q.putLoop t r).sig t.out = r.out := memSig_memSetSig (putLoop_wf wf) ..
include aligned in
theorem LaneSt.putLoop_s1 (apart : t.addr + 8 + 8 * t.sec + 4 ≤ sigAddr t.out ∨ sigAddr t.out + 6 ≤ t.addr + 8 + 8 * t.sec)
    (en : t.intEn = true) : memWord (q.putLoop t r).mem (t.addr + 8 + 8 * t.sec) = toField r.s1 32 := by
  rw [LaneSt.putLoop, memWord_memSetSig (putLoop_wf wf) _ _ apart, if_pos en, memWord_memSetWord wf (by omega)]
include aligned in
theorem LaneSt.putLoop_mem_ne {x : Nat} (notOut : x < sigAddr t.out ∨ sigAddr t.out + 6 ≤ x)
    (notS1 : t.intEn = false ∨ x < t.addr + 8 + 8 * t.sec ∨ t.addr + 8 + 8 * t.sec + 4 ≤ x) :
    memGet (q.putLoop t r).mem x = memGet q.mem x := by
  rw [LaneSt.putLoop, memGet_memSetSig_ne (putLoop_wf wf) _ _ notOut]
  split_ifs with en
  · exact memGet_memSetWord_ne wf (by omega) _ (notS1.resolve_left (by simp [en]))
  · rfl

end

end Sys2Proof.Machine

namespace Sys2Proof
open Machine

/-- Settles O12: each clause's target is the one that `loopClose` chooses, and its result stands in OUT and in the integrator. -/
theorem loopClose : Obligations.LoopClose := by
  intro s l g e ready cls t q a flag val lo hi want lim ends wf aligned apart
  have of_reaches {w : SigWord} (r : (q.closes t).Reaches t.intEn (q.sig t.y) w lo hi ((memGet q.mem t.addr).toInt)
      (signedBits (memWord q.mem a) 32)) : ends w := by
    obtain ⟨⟨st, out, valid⟩, shift⟩ := r
    refine (loopClose_becomes ready cls (q := q) rfl).imp fun d becomes => ?_
    rw [becomes.lane]
    refine ⟨⟨st, (LaneSt.putLoop_out wf).trans out, valid⟩, fun en => ?_, rfl,
      fun x notOut notS1 => LaneSt.putLoop_mem_ne wf aligned notOut notS1, becomes.outside⟩
    rw [LaneSt.putLoop_s1 wf aligned apart en, shift en, signedBits_toField (clip32_fits _)]
  have fits := memWord_fits q.mem a
  exact ⟨fun wants valid => of_reaches (loopClose_tracks fits rfl rfl wants valid),
    fun noTrack fbEn limited => of_reaches (loopClose_feedback fits rfl rfl noTrack fbEn limited),
    fun noTrack noFb bumpless changed => of_reaches (loopClose_bank fits rfl rfl noTrack noFb bumpless changed),
    fun noTrack noFb noBank => of_reaches (loopClose_own fits rfl rfl noTrack noFb noBank)⟩

end Sys2Proof
end

section
/-! SUPPORT. The forward and inverse transforms of one three-phase set (R168, R169): the words that `forwardOut` and `inverseOut` give. -/

namespace Sys2Proof.Machine
open Sys2Proof

/-! ### Sine and cosine take an angle modulo one turn -/

theorem sin30_emod (k : Int) : sin30 (k % 2 ^ 24) = sin30 k := by rw [sin30, Int.emod_emod, ← sin30]
theorem cos30_emod (k : Int) : cos30 (k % 2 ^ 24) = cos30 k := by
  rw [cos30, ← sin30_emod, Int.emod_add_emod, sin30_emod, cos30]
theorem trigAt_own (w : SigWord) :
    trigAt false w = (⟨sin30 (dyFloorAt (sigVal w) 24), -30⟩, ⟨cos30 (dyFloorAt (sigVal w) 24), -30⟩) := by
  simp only [trigAt, theta2, sinOf, cosOf, turn24, sin30_emod, cos30_emod, Bool.false_eq_true, if_false]

section
variable {g : Img} {x : Nat} {q : LaneSt} {f : Nat} (single : (g.desc x 1).getLsbD 3 = false)
include single

/-- The forward transform of one set of three measured currents. -/
theorem forwardOut_single (three : (g.desc x 1).getLsbD 2 = true) :
    let a := q.sig (idx15 (g.desc x 1) 63 0)
    let b := q.sig (idx15 (g.desc x 1) 63 1)
    let c := q.sig (idx15 (g.desc x 1) 63 2)
    let th := q.sig (idx15 (g.desc x 1) 63 3)
    let ab := clarke (sigVal a) (sigVal b) (sigVal c)
    let t := trigAt false th
    forwardOut g x q =
      [(idx15 (g.desc x 2) 63 0, mkSig (parkD ab.1 ab.2 t.1 t.2) (stOf [a, b, c, th])),
       (idx15 (g.desc x 2) 63 1, mkSig (parkQ ab.1 ab.2 t.1 t.2) (stOf [a, b, c, th])),
       (idx15 (g.desc x 2) 63 2, mkSig (rd (dyMul (dyAdd (dyAdd (sigVal a) (sigVal b)) (sigVal c)) cThird)) (stOf [a, b, c, th]))] := by
  simp only [forwardOut, single, three, if_true, Bool.false_eq_true, if_false, List.append_nil, List.cons_append, List.nil_append]

/-- The inverse transform of one set with decoupling off. -/
theorem inverseOut_single (uncoupled : (g.desc x 1).getLsbD 2 = false) :
    let a := q.sig (idx15 (g.desc x 1) 63 0)
    let b := q.sig (idx15 (g.desc x 1) 63 1)
    let th := q.sig (idx15 (g.desc x 1) 63 2)
    let v := inversePark (rd (dyAdd (sigVal a) (sigVal sigZeroOk))) (rd (dyAdd (sigVal b) (sigVal sigZeroOk))) (trigAt false th)
    inverseOut g x f q =
      [(idx15 (g.desc x 2) 63 2, sigZeroOk), (idx15 (g.desc x 2) 63 3, sigZeroOk), (idx15 (g.desc x 3) 63 0, mkSig v.1 (stOf [a, b, th])),
       (idx15 (g.desc x 3) 63 1, mkSig v.2.1 (stOf [a, b, th])), (idx15 (g.desc x 3) 63 2, mkSig v.2.2 (stOf [a, b, th]))] := by
  simp only [inverseOut, single, uncoupled, Bool.false_eq_true, if_false, List.append_nil, List.cons_append, List.nil_append]

end

section
variable {s : State} {l : Lane} {g : Img} {e : Entry} (ready : s.dev.Ready l g e)
include ready

theorem forwardTransform_writes (cls : e.cls = 0x10) :
    Writes (.forwardTransform l false) s l g e (forwardOut g e.operand ((s.dev.begun l g e).lane l)) :=
  writes_of_dispatch ready (ok := clsIs 0x10) (body := fun g e d => d.onLane l (fun q => q.setSigs (forwardOut g e.operand q)))
    (beq_iff_eq.2 cls) rfl (Dev.onLane_congr rfl)
theorem inverseTransform_writes (cls : e.cls = 0x11) :
    Writes (.inverseTransform l false) s l g e (inverseOut g e.operand (e.unit - 8) ((s.dev.begun l g e).lane l)) :=
  writes_of_dispatch ready (ok := clsIs 0x11) (body := fun g e d => d.onLane l (fun q => q.setSigs (inverseOut g e.operand (e.unit - 8) q)))
    (beq_iff_eq.2 cls) rfl (Dev.onLane_congr rfl)

end

/-- Settles O13: a ready transform writes the words of `forwardOut` or `inverseOut`, which for one set are those of the clauses. -/
theorem transforms : Obligations.Transforms := by
  intro s l g e ready q x w1 w2 w3 a b c d
  refine ⟨fun cls single three => ?_, forwardTransform_writes ready, fun cls single uncoupled => ?_, inverseTransform_writes ready⟩
  · have words := forwardOut_single (q := q) single three
    simp only [trigAt_own] at words
    have writes := forwardTransform_writes ready cls
    rwa [words] at writes
  · have words := inverseOut_single (q := q) (f := e.unit - 8) single uncoupled
    simp only [trigAt_own] at words
    have writes := inverseTransform_writes ready cls
    rwa [words] at writes

end Sys2Proof.Machine
end

section
/-! SUPPORT. PWM compare writes (R178, R182, R201, R205, Table 9-6): the pending pair of the channel is replaced, and nothing else that
another operation reads. -/

namespace Sys2Proof.Machine
open Sys2Proof

/-! ### The pending pair of a channel -/

/-- From q to q' the pending pair of channel ch became ev; the other pairs and the memory stayed. -/
structure LaneSt.PairSet (q : LaneSt) (ch : Nat) (ev : Ev × Ev) (q' : LaneSt) : Prop where
  pwm : q'.pwm = putNat q.pwm ch ev
  mem : q'.mem = q.mem

section
variable {q q' : LaneSt} {ch : Nat} {ev : Ev × Ev}

theorem LaneSt.PairSet.setPair : q.PairSet ch ev (q.setPair ch ev) := ⟨rfl, rfl⟩
theorem LaneSt.PairSet.onFcu {f : Nat} {c : FcuSt → FcuSt} (h : q.PairSet ch ev q') : q.PairSet ch ev (q'.onFcu f c) := ⟨h.pwm, h.mem⟩
theorem LaneSt.PairSet.at_ (h : q.PairSet ch ev q') : lookupNat q'.pwm ch = some ev := h.pwm ▸ lookupNat_putNat ..
theorem LaneSt.PairSet.other (h : q.PairSet ch ev q') {c : Nat} (other : c ≠ ch) : lookupNat q'.pwm c = lookupNat q.pwm c :=
  h.pwm ▸ lookupNat_putNat_ne _ _ other

end

/-! ### A compare write -/

theorem eventsRun_zero (start n : Nat) (k : Int) : eventsRun start n k 0 =
    (⟨(((start + n / 2 : Nat) : Int) - (k * n + 2 ^ 24) / 2 ^ 25).toNat, if k = 0 then 1 else 2, false⟩,
      ⟨(((start + n / 2 : Nat) : Int) + (k * n + 2 ^ 24) / 2 ^ 25).toNat, if k = 2 ^ 24 then 2 else 1, false⟩) := by
  simp only [eventsRun, halfWidth, add_zero, Nat.cast_add]

section
variable {d : Dev} {l : Lane} {ch : Nat} {phase : Bool} {w : SigWord}

/-- The channel belongs to a converter unit. -/
def ConvChan (ch : Nat) : Prop := 8 ≤ unitOfCh ch ∧ unitOfCh ch ≤ 10

/-- The half-period setting of the unit of channel ch. -/
def LaneSt.halvedAt (q : LaneSt) (ch : Nat) : Int :=
  if 8 ≤ unitOfCh ch ∧ unitOfCh ch ≤ 10 then q.cfgInt 0x0A1 (unitOfCh ch - 8) else q.cfgInt 0x038 (q.fcuMaster (unitOfCh ch))

theorem LaneSt.halvedAt_conv {q : LaneSt} (conv : ConvChan ch) : q.halvedAt ch = q.cfgInt 0x0A1 (unitOfCh ch - 8) := if_pos conv
theorem LaneSt.halvedAt_fcu {q : LaneSt} (fcu : ¬ConvChan ch) : q.halvedAt ch = q.cfgInt 0x038 (q.fcuMaster (unitOfCh ch)) := if_neg fcu

/-- R182: without half periods a write with PHASE 1 changes nothing. -/
theorem compareWrite_skips (phased : phase = true) (whole : (d.lane l).halvedAt ch ≠ 1) : compareWrite d l ch phase w = d := by
  refine if_pos ?_
  rw [phased, Bool.true_and, Bool.not_eq_true']
  unfold LaneSt.halvedAt at whole
  by_cases conv : 8 ≤ unitOfCh ch ∧ unitOfCh ch ≤ 10
  · simpa [conv, pcInst] using whole
  · simpa [conv] using whole

/-- The period that a write to an FCU's channel aims at. -/
def Dev.fcuPeriod (d : Dev) (l : Lane) (ch : Nat) (phase : Bool) : Period :=
  if phase then d.periodHalf else d.periodNext (d.lane l) 0x038 ((d.lane l).fcuMaster (unitOfCh ch))
/-- The period that a write to a converter's channel aims at. -/
def Dev.convPeriod (d : Dev) (l : Lane) (ch : Nat) (phase : Bool) : Period :=
  if phase then d.periodHalf else d.periodNext (d.lane l) 0x0A1 (pcInst (unitOfCh ch))

/-- The pair that a write to an FCU's channel places (R178, R201, Table 9-6). -/
def Dev.fcuPair (d : Dev) (l : Lane) (ch : Nat) (phase : Bool) (w : SigWord) : Ev × Ev :=
  let q := d.lane l
  let f := q.fcuMaster (unitOfCh ch)
  let per := d.fcuPeriod l ch phase
  if (q.obsAt f).lol == .probe then eventsProbe (8 * per.start) per.fine
  else if !w.st.valid then eventsAt (8 * per.start) per.fine 0
  else if (q.fcuAt f).eff = 0 then eventsRun (8 * per.start) per.fine (duty24 w) 0
  else eventsAt (8 * per.start) per.fine (legOf (q.fcuAt f).eff)
/-- The pair that a write to a converter's channel places (R205, R207). -/
def Dev.convPair (d : Dev) (l : Lane) (ch : Nat) (phase : Bool) (w : SigWord) : Ev × Ev :=
  let per := d.convPeriod l ch phase
  if !pcRuns d (d.lane l) (unitOfCh ch) || !w.st.valid then eventsAt (8 * per.start) per.fine 0
  else (pcEvents (d.lane l) (unitOfCh ch) ch per w).1

variable {d0 : Dev} {q0 : LaneSt} (h : d0.LaneBecomes l q0 d) (takes : phase = false ∨ (d.lane l).halvedAt ch = 1)
include h takes

theorem compareWrite_fcu (fcu : ¬ConvChan ch) :
    ∃ q, d0.LaneBecomes l q (compareWrite d l ch phase w) ∧ q0.PairSet ch (d.fcuPair l ch phase w) q := by
  have notConv : decide (8 ≤ unitOfCh ch ∧ unitOfCh ch ≤ 10) = false := decide_eq_false fcu
  have written : ¬(phase && !((d.lane l).cfgInt 0x038 ((d.lane l).fcuMaster (unitOfCh ch)) == 1)) = true := by
    rcases takes with off | halved
    · simp [off]
    · rw [LaneSt.halvedAt_fcu fcu] at halved
      simp [halved]
  have eq : compareWrite d l ch phase w = d.onLane l (fun q => q.setPair ch (d.fcuPair l ch phase w)) := by
    simp only [compareWrite, notConv, Bool.false_eq_true, if_false, written, Dev.fcuPair, Dev.fcuPeriod]
    split_ifs <;> rfl
  rw [eq]
  exact ⟨_, h.onLane _, .setPair⟩

theorem compareWrite_conv (conv : ConvChan ch) :
    ∃ q, d0.LaneBecomes l q (compareWrite d l ch phase w) ∧ q0.PairSet ch (d.convPair l ch phase w) q := by
  have isConv : decide (8 ≤ unitOfCh ch ∧ unitOfCh ch ≤ 10) = true := decide_eq_true conv
  have written : ¬(phase && !((d.lane l).cfgInt 0x0A1 (pcInst (unitOfCh ch)) == 1)) = true := by
    rcases takes with off | halved
    · simp [off]
    · rw [LaneSt.halvedAt_conv conv] at halved
      simp [pcInst, halved]
  simp only [compareWrite, isConv, if_true, written, Bool.false_eq_true, if_false]
  exact ⟨_, ((h.onLane_eq rfl).countLow ..).iteSelf (h.onLane_eq rfl), LaneSt.PairSet.setPair.onFcu⟩

end

section
variable {s : State} {l : Lane} {g : Img} {e : Entry}

/-- The channel, the phase and the duty that a compare write's descriptor names. -/
theorem exec_pwmCompareWrite : exec (.pwmCompareWrite l false) s = s.onDev (fun d => dispatch d l false (clsIs 0x20) (fun g e d =>
    compareWrite d l (dw (g.desc e.operand 1) 48 43) ((g.desc e.operand 1).getLsbD 42) ((d.lane l).sig (dw (g.desc e.operand 1) 63 49)))) :=
  rfl

variable (ready : s.dev.Ready l g e) (cls : e.cls = 0x20)
include ready cls

theorem pwmCompareWrite_skips (phased : (g.desc e.operand 1).getLsbD 42 = true)
    (whole : ((s.dev.begun l g e).lane l).halvedAt (dw (g.desc e.operand 1) 48 43) ≠ 1) : Runs (.pwmCompareWrite l false) s l g e id :=
  runs_of_dispatch ready (beq_iff_eq.2 cls) exec_pwmCompareWrite (compareWrite_skips phased whole)

/-- What the clauses of a write that takes effect say of the pair it places. -/
theorem pwmCompareWrite_sets {ev : Ev × Ev} (becomes : ∃ q, s.dev.LaneBecomes l q (compareWrite (s.dev.begun l g e) l
      (dw (g.desc e.operand 1) 48 43) ((g.desc e.operand 1).getLsbD 42)
      (((s.dev.begun l g e).lane l).sig (dw (g.desc e.operand 1) 63 49))) ∧
      ((s.dev.begun l g e).lane l).PairSet (dw (g.desc e.operand 1) 48 43) ev q) :
    Ends (.pwmCompareWrite l false) s l g e (fun d =>
      lookupNat (d.lane l).pwm (dw (g.desc e.operand 1) 48 43) = some ev ∧
      (∀ c : Nat, c ≠ dw (g.desc e.operand 1) 48 43 → lookupNat (d.lane l).pwm c = lookupNat ((s.dev.begun l g e).lane l).pwm c) ∧
      (d.lane l).mem = ((s.dev.begun l g e).lane l).mem ∧ (∀ m : Lane, m ≠ l → d.lane m = s.dev.lane m) ∧ d.vot = s.dev.vot ∧
      s.dev.SameOutside d) := by
  obtain ⟨q, becomes, set⟩ := becomes
  refine (ends_of_laneBecomes ready (beq_iff_eq.2 cls) exec_pwmCompareWrite becomes).imp fun d h => ?_
  rw [h.lane]
  exact ⟨set.at_, fun c other => set.other other, set.mem, h.others, h.vot, h.outside⟩

end

end Sys2Proof.Machine

namespace Sys2Proof
open Machine

/-- Settles O15: the pair that a write places is `fcuPair` or `convPair`, and each clause is one of their cases. -/
theorem compareWrite : Obligations.CompareWrite := by
  intro s l g e ready cls w1 ch q duty u f d0 phase per n mid k h gives
  have notConv (fcu : u < 8 ∨ 10 < u) : ¬ConvChan ch := fun c => by
    have := c.1; have := c.2; omega
  have halvedFcu (fcu : u < 8 ∨ 10 < u) : q.halvedAt ch = q.cfgInt 0x038 f := LaneSt.halvedAt_fcu (notConv fcu)
  have halvedConv (lo : 8 ≤ u) (hi : u ≤ 10) : q.halvedAt ch = q.cfgInt 0x0A1 (u - 8) := LaneSt.halvedAt_conv ⟨lo, hi⟩
  refine ⟨fun phased fcu whole => ?_, fun phased lo hi whole => ?_, fun takes fcu => ?_, fun takes lo hi => ?_⟩
  · exact pwmCompareWrite_skips ready cls phased ((halvedFcu fcu).trans_ne whole)
  · exact pwmCompareWrite_skips ready cls phased ((halvedConv lo hi).trans_ne whole)
  · have set {ev : Ev × Ev} (eq : d0.fcuPair l ch phase duty = ev) : gives ev :=
      pwmCompareWrite_sets ready cls (eq ▸ compareWrite_fcu (.begun ..) (takes.imp_right (halvedFcu fcu).trans) (notConv fcu))
    refine ⟨fun probe => set ?_, fun noProbe invalid => set ?_, fun noProbe valid eff => set ?_, fun noProbe valid eff => set ?_,
      fun noProbe valid eff => set ?_, fun noProbe valid eff => set ?_⟩
    · exact if_pos (beq_iff_eq.2 probe)
    all_goals refine (if_neg (mt beq_iff_eq.1 noProbe)).trans ?_
    · exact if_pos (by rw [invalid]; rfl)
    all_goals refine (if_neg (by rw [valid]; exact Bool.false_ne_true)).trans ?_
    · exact (if_pos eff).trans (eventsRun_zero ..)
    all_goals exact (if_neg (by rw [eff]; decide)).trans (by rw [eff]; rfl)
  · have set {ev : Ev × Ev} (eq : d0.convPair l ch phase duty = ev) : gives ev :=
      pwmCompareWrite_sets ready cls (eq ▸ compareWrite_conv (.begun ..) (takes.imp_right (halvedConv lo hi).trans) ⟨lo, hi⟩)
    refine ⟨fun off => set (if_pos ?_), fun runs valid => set (if_neg ?_)⟩
    · rcases off with stopped | invalid
      · rw [stopped]; rfl
      · rw [invalid, Bool.not_false, Bool.or_true]
    · rw [runs, valid]
      exact Bool.false_ne_true

end Sys2Proof
end

section
/-! SUPPORT. Event posts (R95, R179, R180): each selected channel's pending pair joins the flight of its group as two words. The park-lock
command (R184, R229). -/

namespace Sys2Proof.Machine
open Sys2Proof

/-! ### Counting posts -/

section
variable (q : LaneSt) (g : Group)

theorem find?_tags_map (l : List (Group × Nat)) (h : Group) :
    (l.map (fun t => if t.1 == g then (g, t.2 + 1) else t)).find? (fun t => t.1 == h) =
      (l.find? (fun t => t.1 == h)).map (fun t => if h = g then (g, t.2 + 1) else t) := by
  induction l with
  | nil => rfl
  | cons t r ih =>
    have name : (if t.1 == g then (g, t.2 + 1) else t).1 = t.1 := by split_ifs with same <;> simp_all
    rw [List.map_cons, List.find?_cons, List.find?_cons, name, ih]
    by_cases found : t.1 = h
    · simp [found]
    · rw [beq_false_of_ne found]

theorem LaneSt.countPost_self : (q.countPost g).postCount g = q.postCount g + 1 := by
  unfold LaneSt.countPost LaneSt.postCount
  dsimp only
  cases found : q.tags.find? (fun t => t.1 == g) with
  | some t =>
    have known : q.tags.any (fun t => t.1 == g) = true :=
      List.any_eq_true.2 ⟨t, List.mem_of_find?_eq_some found, List.find?_some (p := fun t : Group × Nat => t.1 == g) found⟩
    rw [if_pos known, find?_tags_map, found]
    simp
  | none =>
    have new : q.tags.any (fun t => t.1 == g) = false := by simpa using found
    simp [new, found]
theorem LaneSt.countPost_ne {h : Group} (other : h ≠ g) : (q.countPost g).postCount h = q.postCount h := by
  unfold LaneSt.countPost LaneSt.postCount
  dsimp only
  split_ifs with known
  · rw [find?_tags_map]
    simp [other]
  · simp [other.symm]

end

/-! ### One group -/

/-- From d to d' lane l has posted the words ws, which carry their TAGs, to group g: the other groups, the lane's pending pairs, memory
and sequencer, the other lanes, time and what lies outside have stayed. -/
structure Dev.PostsTo (l : Lane) (g : Group) (ws : List VWord) (d d' : Dev) : Prop where
  flight : (d'.group g).flight.get l = (d.group g).flight.get l ++ ws
  otherGroups : ∀ h : Group, h ≠ g → d'.group h = d.group h
  count : (d'.lane l).postCount g = (d.lane l).postCount g + ws.length
  otherCounts : ∀ h : Group, h ≠ g → (d'.lane l).postCount h = (d.lane l).postCount h
  pwm : (d'.lane l).pwm = (d.lane l).pwm
  mem : (d'.lane l).mem = (d.lane l).mem
  seq : (d'.lane l).seq = (d.lane l).seq
  others : ∀ m : Lane, m ≠ l → d'.lane m = d.lane m
  time : d'.time = d.time
  outside : d.SameOutside d'

section
variable {l : Lane} {g : Group} {d d' d'' : Dev} {ws vs : List VWord}

theorem Dev.PostsTo.runs (h : Dev.PostsTo l g ws d d') : d'.runs l = d.runs l := Dev.runs_congr (congrArg _ h.seq)
theorem Dev.PostsTo.append (h : Dev.PostsTo l g ws d d') (h' : Dev.PostsTo l g vs d' d'') : Dev.PostsTo l g (ws ++ vs) d d'' where
  flight := by rw [h'.flight, h.flight, List.append_assoc]
  otherGroups k other := (h'.otherGroups k other).trans (h.otherGroups k other)
  count := by rw [h'.count, h.count, List.length_append, add_assoc]
  otherCounts k other := (h'.otherCounts k other).trans (h.otherCounts k other)
  pwm := h'.pwm.trans h.pwm
  mem := h'.mem.trans h.mem
  seq := h'.seq.trans h.seq
  others m other := (h'.others m other).trans (h.others m other)
  time := h'.time.trans h.time
  outside := h.outside.trans h'.outside

/-- The word w with the TAG of lane l's i-th next post to g. -/
def Dev.tagged (d : Dev) (l : Lane) (g : Group) (i : Nat) (w : VWord) : VWord :=
  { w with tag := tagOf d.time.fcCount ((d.lane l).postCount g + i) }

/-- A running lane whose queue has room posts the word with the next TAG. -/
theorem postWord_postsTo (w : VWord) (entry unit : Nat) (runs : d.runs l = true) (direct : groupPlace g ≠ .frame)
    (room : ((d.group g).flight.get l).length < 16) : Dev.PostsTo l g [d.tagged l g 0 w] d (d.postWord l g w entry unit) := by
  have accepts : ¬ (groupDcq g).depth ≤ d.dcqFill l g := by
    rw [groupDcq_depth_of_direct direct, Dev.dcqFill_of_direct _ _ direct]; omega
  simp only [Dev.postWord, runs, accepts, Bool.not_true, Bool.false_eq_true, if_false]
  refine ⟨?_, fun h other => ?_, ?_, fun h other => ?_, ?_, ?_, ?_, fun m other => ?_, rfl, .refl d⟩
  · rw [Dev.onGroup_group _ (by exact fun _ => rfl), Tri.get_set, Dev.onLane_group]
    rfl
  · rw [Dev.onGroup_group_ne _ (by exact fun _ => rfl) other, Dev.onLane_group]
  all_goals rw [Dev.onGroup_lane]
  · rw [Dev.onLane_lane]; exact LaneSt.countPost_self ..
  · rw [Dev.onLane_lane]; exact LaneSt.countPost_ne _ _ other
  · rw [Dev.onLane_lane]; rfl
  · rw [Dev.onLane_lane]; rfl
  · rw [Dev.onLane_lane]; rfl
  · rw [Dev.onLane_lane_ne _ _ _ _ other]

/-- Two words posted one after the other. -/
theorem postWord_twice (w v : VWord) (entry unit : Nat) (runs : d.runs l = true) (direct : groupPlace g ≠ .frame)
    (room : ((d.group g).flight.get l).length ≤ 14) :
    Dev.PostsTo l g [d.tagged l g 0 w, d.tagged l g 1 v] d ((d.postWord l g w entry unit).postWord l g v entry unit) := by
  have first := postWord_postsTo w entry unit runs direct (by omega)
  have second := postWord_postsTo v entry unit (first.runs.trans runs) direct (by rw [first.flight, List.length_append, List.length_singleton]; omega)
  have tag : (d.postWord l g w entry unit).tagged l g 0 v = d.tagged l g 1 v := by
    rw [Dev.tagged, first.count, first.time]; rfl
  exact tag ▸ first.append second

end

/-! ### The selected channels -/

/-- The voter group of a timebase channel. -/
def chGroup (ch : Nat) : Group := if ch < 20 then .gate ch else .edge (ch - 20)
/-- The place of a timebase channel in its unit. -/
def chItem (ch : Nat) : Nat := if ch < 20 then itemOfHb ch else itemOfEdge (ch - 20)
/-- The words of a pending pair, as lane l of d posts them. -/
def Dev.pairWords (d : Dev) (l : Lane) (ch : Nat) (a b : Ev) : List VWord :=
  [d.tagged l (chGroup ch) 0 (wordAt a.t (chItem ch) a.leg), d.tagged l (chGroup ch) 1 (wordAt b.t (chItem ch) (4 + b.leg))]

theorem chGroup_injective {a b : Nat} (same : chGroup a = chGroup b) : a = b := by
  unfold chGroup at same
  split_ifs at same with ha hb hb <;> simp at same <;> omega
theorem chGroup_direct (ch : Nat) : groupPlace (chGroup ch) ≠ .frame := by
  unfold chGroup
  split_ifs
  · unfold groupPlace
    dsimp only
    split_ifs <;> decide
  · exact VoterPlace.noConfusion

section
variable {l : Lane} {d d' : Dev} {entry unit : Nat}

theorem postPairs_none {ch : Nat} (r : List Nat) (none_ : lookupNat (d.lane l).pwm ch = none) :
    postPairs l entry unit (ch :: r) d = postPairs l entry unit r d := by
  rw [postPairs, none_]
theorem postPairs_some {ch : Nat} (r : List Nat) {a b : Ev} (some_ : lookupNat (d.lane l).pwm ch = some (a, b)) :
    postPairs l entry unit (ch :: r) d = postPairs l entry unit r ((d.postWord l (chGroup ch) (wordAt a.t (chItem ch) a.leg) entry unit).postWord l
      (chGroup ch) (wordAt b.t (chItem ch) (4 + b.leg)) entry unit) := by
  rw [postPairs, some_]
  rfl

/-- From d to d' lane l has posted the pending pairs of the channels cs. -/
structure Dev.PairsPosted (l : Lane) (cs : List Nat) (d d' : Dev) : Prop where
  posted : ∀ ch ∈ cs, ∀ a b : Ev, lookupNat (d.lane l).pwm ch = some (a, b) →
    (d'.group (chGroup ch)).flight.get l = (d.group (chGroup ch)).flight.get l ++ d.pairWords l ch a b
  otherGroups : ∀ ch : Nat, (ch ∉ cs ∨ lookupNat (d.lane l).pwm ch = none) → d'.group (chGroup ch) = d.group (chGroup ch)
  pwm : (d'.lane l).pwm = (d.lane l).pwm
  mem : (d'.lane l).mem = (d.lane l).mem
  others : ∀ m : Lane, m ≠ l → d'.lane m = d.lane m
  outside : d.SameOutside d'

/-- Posts of different channels do not disturb each other. -/
theorem postPairs_posted {cs : List Nat} (apart : cs.Nodup) (runs : d.runs l = true)
    (room : ∀ ch ∈ cs, ((d.group (chGroup ch)).flight.get l).length ≤ 14) : Dev.PairsPosted l cs d (postPairs l entry unit cs d) := by
  induction cs generalizing d with
  | nil => exact ⟨by simp, fun _ _ => rfl, rfl, rfl, fun _ _ => rfl, .refl d⟩
  | cons ch r ih =>
    obtain ⟨new, apart⟩ := List.nodup_cons.1 apart
    cases pair : lookupNat (d.lane l).pwm ch with
    | none =>
      have rest := ih apart runs fun x hx => room x (List.mem_cons_of_mem _ hx)
      rw [postPairs_none r pair]
      refine ⟨fun x hx a b known => ?_, fun x out => ?_, rest.pwm, rest.mem, rest.others, rest.outside⟩
      · obtain rfl | inside := List.mem_cons.1 hx
        · rw [pair] at known; exact absurd known (by simp)
        · exact rest.posted x inside a b known
      · exact rest.otherGroups x (out.imp_left fun out inside => out (List.mem_cons_of_mem _ inside))
    | some ab =>
      obtain ⟨a, b⟩ := ab
      have first := postWord_twice (wordAt a.t (chItem ch) a.leg) (wordAt b.t (chItem ch) (4 + b.leg)) entry unit runs (chGroup_direct ch)
        (room ch List.mem_cons_self)
      have elsewhere {x : Nat} (ne : x ≠ ch) : chGroup x ≠ chGroup ch := fun same => ne (chGroup_injective same)
      have rest := ih (d := (d.postWord l (chGroup ch) (wordAt a.t (chItem ch) a.leg) entry unit).postWord l (chGroup ch)
          (wordAt b.t (chItem ch) (4 + b.leg)) entry unit) apart (first.runs.trans runs) fun x hx => by
        rw [first.otherGroups _ (elsewhere (ne_of_mem_of_not_mem hx new))]
        exact room x (List.mem_cons_of_mem _ hx)
      rw [postPairs_some r pair]
      refine ⟨fun x hx a' b' known => ?_, fun x out => ?_, rest.pwm.trans first.pwm, rest.mem.trans first.mem,
        fun m other => (rest.others m other).trans (first.others m other), first.outside.trans rest.outside⟩
      · obtain rfl | inside := List.mem_cons.1 hx
        · obtain ⟨rfl, rfl⟩ : a = a' ∧ b = b' := by simpa [pair] using known
          rw [rest.otherGroups x (.inl new), first.flight]
          rfl
        · have ne := ne_of_mem_of_not_mem inside new
          rw [rest.posted x inside a' b' (by rw [first.pwm, known]), first.otherGroups _ (elsewhere ne)]
          simp only [Dev.pairWords, Dev.tagged, first.otherCounts _ (elsewhere ne), first.time]
      · by_cases ne : x = ch
        · subst ne
          exact absurd (out.resolve_left (not_not.2 List.mem_cons_self)) (by simp [pair])
        · rw [rest.otherGroups x (by
            rw [first.pwm]
            exact out.imp_left fun out inside => out (List.mem_cons_of_mem _ inside)), first.otherGroups _ (elsewhere ne)]

end

/-! ### The commands -/

theorem begun_fcCount (d : Dev) (l : Lane) (g : Img) (e : Entry) : (d.begun l g e).time.fcCount = d.time.fcCount :=
  TimeSt.toRaw_fcCount ..

theorem maskChans_nodup (w : DWord) (n base : Nat) : (maskChans w n base).Nodup :=
  (List.nodup_range.filter _).map (add_right_injective base)

section
variable {s : State} {l : Lane} {g : Img} {e : Entry} (ready : s.dev.Ready l g e)
include ready

/-- A ready entry that posts the pending pairs of the channels cs. -/
theorem ends_of_postPairs {c : Instr} {ok : Img → Entry → Bool} {chans : Img → Entry → List Nat} {cs : List Nat} (accepted : ok g e = true)
    (meaning : exec c s = s.onDev (fun d => dispatch d l false ok (fun g e d =>
      postPairs l ((d.lane l).seq.ptr - 1) e.unit (chans g e) d))) (these : chans g e = cs) (apart : cs.Nodup)
    (room : ∀ ch ∈ cs, ((s.dev.group (chGroup ch)).flight.get l).length ≤ 14) :
    Ends c s l g e (Dev.PairsPosted l cs (s.dev.begun l g e)) := by
  obtain ⟨-, -, runs, -⟩ := id ready
  subst these
  exact ends_of_dispatch ready accepted meaning (postPairs_posted apart ((begun_runs ..).trans runs) room)

end

/-- The pending pairs that a park-lock command c leaves for HB9 and HB19. -/
def parkPair (own : Nat) (c : Nat) (off pulse low : Ev × Ev) : Ev × Ev := if c = 0 then off else if c = own then pulse else low

/-- A park-lock command sets the pairs of HB9 and HB19 and the command as executed. -/
theorem parkLockCommand_becomes {s : State} {l : Lane} {g : Img} {e : Entry} (ready : s.dev.Ready l g e) (cls : e.cls = 0x35) {q : LaneSt}
    (begun : (s.dev.begun l g e).lane l = q) :
    let duty := q.sig (dw (g.desc e.operand 1) 48 34)
    let c := parkCmd (s.dev.gd.pLatch.any (fun x => x.1 == 9 || x.1 == 19)) (q.sig (dw (g.desc e.operand 1) 63 49)) duty
    let at_ := fun leg => eventsAt (8 * s.dev.nextFc) (8 * s.dev.tf) leg
    let pulse := eventsRun (8 * s.dev.nextFc) (8 * s.dev.tf) (parkDuty s.dev.tf duty) 0
    Ends (.parkLockCommand l false) s l g e (s.dev.LaneBecomes l
      { (q.setPair 9 (parkPair 1 c (at_ 0) pulse (at_ 1))).setPair 19 (parkPair 2 c (at_ 0) pulse (at_ 1)) with park := c }) := by
  subst begun
  intro duty c at_ pulse
  refine ends_of_dispatch ready (ok := clsIs 0x35) (beq_iff_eq.2 cls) rfl ?_
  simp only [begun_nextFc, begun_tf]
  exact (Dev.LaneBecomes.begun s.dev l g e).onLane_eq rfl

/-- What the clauses of the park-lock command say of the pairs that a command c leaves. -/
theorem parkLockCommand_sets {s : State} {l : Lane} {g : Img} {e : Entry} (ready : s.dev.Ready l g e) (cls : e.cls = 0x35) {c : Nat}
    {hb9 hb19 : Ev × Ev} :
    let q := (s.dev.begun l g e).lane l
    let duty := q.sig (dw (g.desc e.operand 1) 48 34)
    let at_ := fun leg => eventsAt (8 * s.dev.nextFc) (8 * s.dev.tf) leg
    let pulse := eventsRun (8 * s.dev.nextFc) (8 * s.dev.tf) (parkDuty s.dev.tf duty) 0
    parkCmd (s.dev.gd.pLatch.any (fun x => x.1 == 9 || x.1 == 19)) (q.sig (dw (g.desc e.operand 1) 63 49)) duty = c →
    parkPair 1 c (at_ 0) pulse (at_ 1) = hb9 → parkPair 2 c (at_ 0) pulse (at_ 1) = hb19 →
    Ends (.parkLockCommand l false) s l g e (fun d =>
      (d.lane l).park = c ∧ lookupNat (d.lane l).pwm 9 = some hb9 ∧ lookupNat (d.lane l).pwm 19 = some hb19 ∧
      (∀ ch : Nat, ch ≠ 9 → ch ≠ 19 → lookupNat (d.lane l).pwm ch = lookupNat q.pwm ch) ∧ (d.lane l).mem = q.mem ∧
      (∀ m : Lane, m ≠ l → d.lane m = s.dev.lane m) ∧ d.vot = s.dev.vot ∧ s.dev.SameOutside d) := by
  rintro q duty at_ pulse rfl rfl rfl
  refine (parkLockCommand_becomes ready cls rfl).imp fun d h => ?_
  rw [h.lane]
  refine ⟨rfl, ?_, lookupNat_putNat .., fun ch not9 not19 => ?_, rfl, h.others, h.vot, h.outside⟩
  · exact (lookupNat_putNat_ne _ _ (by decide)).trans (lookupNat_putNat ..)
  · exact (lookupNat_putNat_ne _ _ not19).trans (lookupNat_putNat_ne _ _ not9)

section
variable {cmd duty : SigWord}

theorem parkCmd_latched : parkCmd true cmd duty = 0 := rfl
theorem parkCmd_none (none_ : carriesIn cmd 1 3 = none) : parkCmd false cmd duty = 0 := by simp [parkCmd, none_]
theorem parkCmd_brake (brake : carriesIn cmd 1 3 = some 3) : parkCmd false cmd duty = 3 := by simp [parkCmd, brake]
theorem parkCmd_release (release : carriesIn cmd 1 3 = some 1) : parkCmd false cmd duty = if duty.st.valid then 1 else 0 := by
  simp [parkCmd, release]
theorem parkCmd_engage (engage : carriesIn cmd 1 3 = some 2) : parkCmd false cmd duty = if duty.st.valid then 2 else 0 := by
  simp [parkCmd, engage]

end

/-- Settles O16: the posts of the selected channels do not disturb each other, and the park-lock pairs are those of the command. -/
theorem eventPosts : Obligations.EventPosts := by
  refine ⟨fun s l g e ready => ?_, fun s l g e ready cls => ?_⟩
  · intro q word grp posts
    have posts_of {c : Instr} {cs : List Nat} (apart : cs.Nodup) (ends : (∀ ch ∈ cs, ((s.dev.group (chGroup ch)).flight.get l).length ≤ 14) →
        Ends c s l g e (Dev.PairsPosted l cs (s.dev.begun l g e))) : posts c cs := fun room => by
      refine (ends room).imp fun d h => ⟨fun ch hc a b pair => (h.posted ch hc a b pair).trans ?_, fun ch _ out => h.otherGroups ch out,
        h.mem, h.pwm, fun m other => (h.others m other).trans (begun_lane_ne _ _ _ _ _ other), (begun_outside ..).trans h.outside⟩
      have first : (s.dev.begun l g e).tagged l (chGroup ch) 0 (wordAt a.t (chItem ch) a.leg) = word ch (q.postCount (grp ch)) a 0 := by
        simp only [Dev.tagged, begun_fcCount, add_zero, word, mul_zero, zero_add]; rfl
      have second : (s.dev.begun l g e).tagged l (chGroup ch) 1 (wordAt b.t (chItem ch) (4 + b.leg)) = word ch (q.postCount (grp ch) + 1) b 1 := by
        simp only [Dev.tagged, begun_fcCount, word, mul_one]; rfl
      rw [Dev.pairWords, first, second]
      rfl
    refine ⟨fun cls unit => ?_, fun cls unit => ?_, fun cls => ?_⟩
    · have chans : maskChans (g.desc e.operand 1) 10 (if e.unit = 0x22 then 0 else 10) =
          (List.range 10).filter (fun i => (g.desc e.operand 1).getLsbD (40 + i)) := by simp [maskChans, unit]
      have apart := maskChans_nodup (g.desc e.operand 1) 10 (if e.unit = 0x22 then 0 else 10)
      rw [chans] at apart
      exact posts_of apart (ends_of_postPairs ready (ok := clsIs 0x21)
        (chans := fun g e => maskChans (g.desc e.operand 1) 10 (if e.unit = 0x22 then 0 else 10)) (beq_iff_eq.2 cls) rfl chans apart)
    · have chans : maskChans (g.desc e.operand 1) 10 (if e.unit = 0x22 then 0 else 10) =
          ((List.range 10).filter (fun i => (g.desc e.operand 1).getLsbD (40 + i))).map (10 + ·) := by simp [maskChans, unit]
      have apart := maskChans_nodup (g.desc e.operand 1) 10 (if e.unit = 0x22 then 0 else 10)
      rw [chans] at apart
      exact posts_of apart (ends_of_postPairs ready (ok := clsIs 0x21)
        (chans := fun g e => maskChans (g.desc e.operand 1) 10 (if e.unit = 0x22 then 0 else 10)) (beq_iff_eq.2 cls) rfl chans apart)
    · exact posts_of (maskChans_nodup (g.desc e.operand 1) 24 20) (ends_of_postPairs ready (ok := clsIs 0x22)
        (chans := fun g e => maskChans (g.desc e.operand 1) 24 20) (beq_iff_eq.2 cls) rfl rfl (maskChans_nodup ..))
  · intro w1 q cmd duty latched at_ pulse ends
    have at_eq (leg : Nat) : eventsAt (8 * s.dev.nextFc) (8 * s.dev.tf) leg = at_ leg := by
      have middle : 8 * s.dev.tf / 2 = 4 * s.dev.tf := by omega
      rw [eventsAt, middle]
    have sets {c : Nat} {hb9 hb19 : Ev × Ev} (isCmd : parkCmd latched cmd duty = c) (is9 : parkPair 1 c (at_ 0) pulse (at_ 1) = hb9)
        (is19 : parkPair 2 c (at_ 0) pulse (at_ 1) = hb19) : ends c hb9 hb19 :=
      parkLockCommand_sets ready cls isCmd (by simp only [at_eq]; exact is9) (by simp only [at_eq]; exact is19)
    refine ⟨fun isLatched => sets ?_ rfl rfl, fun free none_ => sets ?_ rfl rfl, fun free release valid => sets ?_ rfl rfl,
      fun free engage valid => sets ?_ rfl rfl, fun free pulses invalid => sets ?_ rfl rfl, fun free brake => sets ?_ rfl rfl⟩
    · rw [isLatched, parkCmd_latched]
    · rw [free, parkCmd_none none_]
    · rw [free, parkCmd_release release, if_pos valid]
    · rw [free, parkCmd_engage engage, if_pos valid]
    · rw [free]
      rcases pulses with release | engage
      · rw [parkCmd_release release, if_neg (by rw [invalid]; exact Bool.false_ne_true)]
      · rw [parkCmd_engage engage, if_neg (by rw [invalid]; exact Bool.false_ne_true)]
    · rw [free, parkCmd_brake brake]

end Sys2Proof.Machine
end

section
/-! SUPPORT. Conversions (R254 to R257): the reference check of one conversion and the word that it delivers. -/

namespace Sys2Proof.Machine
open Sys2Proof

theorem Dev.LaneBecomes.countIf {d d' : Dev} {l : Lane} {q : LaneSt} (h : d.LaneBecomes l q d') (b : Bool) (a : Nat) :
    d.LaneBecomes l q (d'.countIf b a) := (h.count a 1).iteSelf h

/-- The fault bit of ADC a after one conversion (R257). -/
theorem refStep_refFault (m : MeasSt) {a : Nat} (adc : a < 4) (bad : Bool) : (refStep m a bad).refFault.getLsbD a =
    (bad || (m.refFault.getLsbD a && decide (m.refGood.getD a 0 + 1 < 1024))) := by
  have own : (BitVec.ofNat 4 (2 ^ a)).getLsbD a = true := by
    rw [BitVec.getLsbD_ofNat, decide_eq_true adc, Nat.testBit_two_pow_self, Bool.and_self]
  cases bad with
  | true => simp only [refStep, if_true, BitVec.getLsbD_or, own, Bool.or_true, Bool.true_or]
  | false =>
    by_cases clears : 1024 ≤ m.refGood.getD a 0 + 1
    · simp only [refStep, Bool.false_eq_true, if_false, if_pos clears, BitVec.getLsbD_and, BitVec.getLsbD_not, own, Bool.not_true,
        Bool.and_false, Bool.false_or, decide_eq_false (not_lt.2 clears)]
    · simp only [refStep, Bool.false_eq_true, if_false, if_neg clears, Bool.false_or, decide_eq_true (not_le.1 clears), Bool.and_true]

section
variable (q : LaneSt) (l : Lane) (adc : Nat) (w : DWord) (c : AdcSample)

/-- The lane after the reference check of a conversion. -/
def LaneSt.refChecked : LaneSt := { q with meas := refStep q.meas adc c.refBad }
/-- The lane after a conversion into the signal that body word w names. -/
def LaneSt.converted : LaneSt :=
  let r := q.refChecked adc c
  r.setSig (dw w 57 43) (convert r l adc (r.meas.refFault.getLsbD adc) w c.code).1

/-- A descriptor of one conversion. -/
theorem convertAll_one {d0 d : Dev} {q : LaneSt} (h : d0.LaneBecomes l q d) {g : Img} {x : Nat} (one : g.descCount x = 1) :
    d0.LaneBecomes l (q.converted l adc (g.desc x 1) c) (convertAll g x l adc 0 [c] d) := by
  obtain rfl := h.lane
  unfold convertAll
  rw [if_pos (by rw [one]; decide)]
  exact (Dev.LaneBecomes.onLane_eq (h.onLane _) (by rw [Dev.onLane_lane]; rfl)).countIf _ _ |>.countIf _ _

end

section
variable {s : State} {l : Lane} {g : Img} {e : Entry}

theorem exec_sampleAndConvert (codes : List AdcSample) : exec (.sampleAndConvert l false codes) s = s.onDev (fun d =>
    dispatch d l false (clsIs 0x18) (fun g e d => convertAll g e.operand l (e.unit - 0x18) 0
      ((codes ++ List.replicate (g.descCount e.operand) (AdcSample.mk 0 false)).take (g.descCount e.operand)) d)) := rfl

/-- Settles O20: with as many codes as conversions none is filled up, and a single conversion is `LaneSt.converted`. -/
theorem sampleAndConvert : Obligations.SampleAndConvert := by
  intro s l g e ready cls adc w q input range
  have full {codes : List AdcSample} (len : codes.length = g.descCount e.operand) :
      (codes ++ List.replicate (g.descCount e.operand) (AdcSample.mk 0 false)).take (g.descCount e.operand) = codes := by
    rw [← len, List.take_left]
  refine ⟨fun codes len => ?_, ?_⟩
  · exact runs_of_dispatch ready (beq_iff_eq.2 cls) (exec_sampleAndConvert codes) (by rw [full len])
  · intro c one wf isAdc v rail out ref
    refine (ends_of_laneBecomes ready (beq_iff_eq.2 cls) (exec_sampleAndConvert [c])
      ((full (codes := [c]) one.symm).symm ▸ convertAll_one l adc c (.begun ..) one)).imp fun d h => ?_
    have fault := refStep_refFault q.meas isAdc c.refBad
    rw [h.lane]
    refine ⟨⟨_, LaneSt.sig_setSig wf _ _, ?_, rfl⟩, fault, fun j other => LaneSt.sig_setSig_ne wf _ other, rfl, h.others, h.vot, h.outside⟩
    exact congrArg (fun b => !(rail || out || b)) fault

end

end Sys2Proof.Machine
end

section
/-! SUPPORT. Resolvers (R188 to R191): the two words of a read, and what one update makes of its channel. -/

namespace Sys2Proof.Machine
open Sys2Proof

/-- A command whose effect is the new lane q. -/
theorem does_of_laneBecomes {s : State} {c : Instr} {f : Dev → Dev} {l : Lane} {q : LaneSt} (meaning : exec c s = s.onDev f)
    (becomes : s.dev.LaneBecomes l q (f s.dev)) : Does c s (s.dev.LaneBecomes l q) :=
  does_of_onDev meaning becomes

theorem Dev.LaneBecomes.toRaw {d d' : Dev} {l : Lane} {q : LaneSt} (h : d.LaneBecomes l q d') (n : Nat) :
    d.LaneBecomes l q (d'.toRaw n) := h.onTime _

/-! ### The update of a channel -/

section
variable (q : LaneSt) (l : Lane) (ch : Nat) (exc : Bool) (sn cs : Int) (r : RdcSt)

/-- An update is bad or good; a bad one makes the channel faulty, a good one counts towards the 16 that clear it. -/
theorem rdcStep_cases : ((rdcStep q l ch exc sn cs r).fault = true ∧ (rdcStep q l ch exc sn cs r).good = 0) ∨
    (ampBad q l ch sn cs = false ∧ exc = false ∧ (rdcStep q l ch exc sn cs r).fault = (r.fault && decide (r.good + 1 < 16)) ∧
      (rdcStep q l ch exc sn cs r).good = min 16 (r.good + 1)) := by
  dsimp only [rdcStep]
  generalize decide (2 ≤ _) = jump, decide (2 ^ 29 < _) = fast
  by_cases bad : (ampBad q l ch sn cs || jump || fast || exc) = true
  · left
    simp [bad]
  · have good := bad
    simp only [Bool.or_eq_true, not_or, Bool.not_eq_true] at good
    obtain ⟨⟨⟨amp, -⟩, -⟩, quiet⟩ := good
    refine .inr ⟨amp, quiet, ?_, ?_⟩ <;> simp [bad]
variable {q l ch exc sn cs r}

theorem rdcStep_bad (bad : ampBad q l ch sn cs = true ∨ exc = true) :
    (rdcStep q l ch exc sn cs r).fault = true ∧ (rdcStep q l ch exc sn cs r).good = 0 := by
  rcases rdcStep_cases q l ch exc sn cs r with faulty | ⟨amp, quiet, -⟩
  · exact faulty
  · simp [amp, quiet] at bad
theorem rdcStep_clears (faulty : r.fault = true) (clear : (rdcStep q l ch exc sn cs r).fault = false) : 15 ≤ r.good := by
  rcases rdcStep_cases q l ch exc sn cs r with ⟨stays, -⟩ | ⟨-, -, fault, -⟩
  · simp [stays] at clear
  · rw [fault, faulty, Bool.true_and, decide_eq_false_iff_not] at clear
    omega
theorem rdcStep_good_le : (rdcStep q l ch exc sn cs r).good ≤ r.good + 1 := by
  rcases rdcStep_cases q l ch exc sn cs r with ⟨-, good⟩ | ⟨-, -, -, good⟩ <;> omega

end

/-! ### The commands -/

section
variable {s : State} {l : Lane} {g : Img} {e : Entry}

theorem exec_resolverRead : exec (.resolverRead l false) s = s.onDev (fun d => dispatch d l false (clsIs 0x19) (fun g e d =>
    d.onLane l (fun q =>
      let r := q.rdcAt (e.unit - 0x1C)
      let pp := dw (g.desc e.operand 1) 33 30 + 1
      let st : Status := { Status.clear with valid := !r.fault }
      (q.setSig (dw (g.desc e.operand 1) 63 49)
        (angWord (angOf (frAdd ((pp * r.theta.toNat : Nat), 2 ^ 32) (frOf (q.cfgDy 0x055 (e.unit - 0x1C))))) st)).setSig
        (dw (g.desc e.operand 1) 48 34) (mkSig (dyMul (dyInt pp) (sigVal r.speed)) st)))) := rfl

theorem angWord_eq (a : BitVec 32) (st : Status) : angWord a st = ⟨a, 0xFF, st⟩ := by
  rw [angWord, sigAngle, BitVec.ofInt_natCast, BitVec.ofNat_toNat, BitVec.setWidth_eq]
  rfl
theorem angOf_frAdd_turn (n : Nat) (off : Dy) : angOf (frAdd ((n : Nat), 2 ^ 32) (frOf off)) =
    BitVec.ofInt 32 ((2 * ((n : Nat) * (dyDen off : Int) + dyNum off * 2 ^ 32) * 2 ^ 32 + (2 ^ 32 * dyDen off : Nat)) /
      (2 * ((2 ^ 32 * dyDen off : Nat) : Int))) := rfl

variable {ch : Nat} {sinV cosV : Int}

theorem exec_rdcUpdate : exec (.rdcUpdate l ch sinV cosV) s = s.onDev (fun d =>
    if ch < 4 ∧ d.boot.released = true ∧ (d.lane l).seq.phase ≠ .off then
      (d.toRaw (nextPair d l ch)).onLane l (fun q =>
        q.onRdc ch (fun r => { rdcStep q l ch (d.gd.pExc.contains (excOf ch)) sinV cosV r with at_ := nextPair d l ch }))
    else d) := rfl

/-- The lane after an update of channel ch at time t. -/
def LaneSt.rdcUpdated (q : LaneSt) (l : Lane) (ch t : Nat) (exc : Bool) (sn cs : Int) : LaneSt :=
  q.onRdc ch (fun r => { rdcStep q l ch exc sn cs r with at_ := t })

theorem LaneSt.rdcUpdated_self {q : LaneSt} {t : Nat} {exc : Bool} {sn cs : Int} (there : ch < q.rdc.length) :
    (q.rdcUpdated l ch t exc sn cs).rdcAt ch = { rdcStep q l ch exc sn cs (q.rdcAt ch) with at_ := t } := modAt_getD there _ _
theorem LaneSt.rdcUpdated_ne {q : LaneSt} {t : Nat} {exc : Bool} {sn cs : Int} {k : Nat} (other : k ≠ ch) :
    (q.rdcUpdated l ch t exc sn cs).rdcAt k = q.rdcAt k := modAt_getD_ne _ _ _ other

theorem rdcUpdate_becomes (chan : ch < 4) (on : (s.dev.lane l).seq.phase ≠ .off) (released : s.dev.boot.released = true) :
    Does (.rdcUpdate l ch sinV cosV) s (s.dev.LaneBecomes l
      ((s.dev.lane l).rdcUpdated l ch (nextPair s.dev l ch) (s.dev.gd.pExc.contains (ch / 2)) sinV cosV)) := by
  refine does_of_laneBecomes exec_rdcUpdate ?_
  simp only [if_pos (show ch < 4 ∧ s.dev.boot.released = true ∧ (s.dev.lane l).seq.phase ≠ .off from ⟨chan, released, on⟩)]
  exact ((Dev.LaneBecomes.refl _ _).toRaw _).onLane_eq rfl

/-- Settles O18: a read writes the two words, and an update is `rdcStep` at the channel's next sample pair. -/
theorem resolvers : Obligations.Resolvers := by
  refine ⟨fun s l g e ready cls => ?_, fun s l ch sinV cosV chan there on => ⟨fun released => ?_, fun held => ?_⟩⟩
  · refine writes_of_dispatch ready (beq_iff_eq.2 cls) exec_resolverRead (Dev.onLane_congr ?_)
    simp only [angWord_eq, angOf_frAdd_turn]
    rfl
  · refine (rdcUpdate_becomes chan on released).imp fun d h => ?_
    rw [h.lane]
    intro a b
    rw [show b = { rdcStep (s.dev.lane l) l ch (s.dev.gd.pExc.contains (ch / 2)) sinV cosV a with at_ := nextPair s.dev l ch } from
      LaneSt.rdcUpdated_self there]
    exact ⟨rdcStep_bad, rdcStep_clears, fun _ => rdcStep_good_le, ⟨_, rfl⟩, rfl, fun k => LaneSt.rdcUpdated_ne, rfl, rfl, h.others, h.vot,
      h.outside⟩
  · have notReleased : ¬(ch < 4 ∧ s.dev.boot.released = true ∧ (s.dev.lane l).seq.phase ≠ .off) := fun ok =>
      Bool.false_ne_true (held.symm.trans ok.2.1)
    exact next_of_onDev exec_rdcUpdate (if_neg notReleased)

end

end Sys2Proof.Machine
end

section
/-! SUPPORT. Encoder and Hall inputs (R192, R193): the words of a read, and what one edge makes of its input. -/

namespace Sys2Proof.Machine
open Sys2Proof

@[simp] theorem mkSigRat_valid (num : Int) (den : Nat) (st : Status) : (mkSigRat num den st).st.valid = st.valid := rfl

/-! ### The words of a read -/

section
variable (q : LaneSt) (inp pp now draws : Nat)

/-- CNT of a read (R193). -/
theorem encRead_cnt : (encRead q inp pp now draws).2.1.mant = BitVec.ofInt 32 (q.encAt inp).cnt.toInt ∧
    (encRead q inp pp now draws).2.1.exp = 31 := by
  unfold encRead
  split_ifs <;> exact ⟨rfl, rfl⟩

variable {q inp}

/-- An input that is off gives words without VALID. -/
theorem encRead_off (notQuad : q.cfgInt 0x056 inp ≠ 1) (notHall : q.cfgInt 0x056 inp ≠ 2) :
    (encRead q inp pp now draws).2.1.st.valid = false ∧ (encRead q inp pp now draws).1.st.valid = false ∧
    (encRead q inp pp now draws).2.2.1.st.valid = false := by
  simp only [encRead, if_neg notQuad, if_neg notHall]
  exact ⟨rfl, rfl, rfl⟩
theorem encRead_quad (quad : q.cfgInt 0x056 inp = 1) :
    (encRead q inp pp now draws).2.1.st.valid = (!(q.encAt inp).fault) ∧
    (encRead q inp pp now draws).2.2.1.st.valid = (!(q.encAt inp).fault) ∧
    (encRead q inp pp now draws).1.st.valid = (!(q.encAt inp).fault && (q.encAt inp).zSeen) := by
  simp only [encRead, if_pos quad]
  refine ⟨rfl, ?_, rfl⟩
  split
  · rfl
  · split
    · split_ifs <;> rfl
    · rfl
theorem encRead_hall (hall : q.cfgInt 0x056 inp = 2) :
    (encRead q inp pp now draws).2.1.st.valid = (!(q.encAt inp).fault &&
      (hallSector (q.encAt inp).w0 (q.encAt inp).w1 (q.encAt inp).w2).isSome) ∧
    (encRead q inp pp now draws).2.2.1.st.valid = (!(q.encAt inp).fault &&
      (hallSector (q.encAt inp).w0 (q.encAt inp).w1 (q.encAt inp).w2).isSome) ∧
    (encRead q inp pp now draws).1.st.valid = (!(q.encAt inp).fault &&
      (hallSector (q.encAt inp).w0 (q.encAt inp).w1 (q.encAt inp).w2).isSome) := by
  simp only [encRead, hall, if_true]
  exact ⟨rfl, rfl, rfl⟩
/-- SPD is 0 at standstill. -/
theorem encRead_still (still : (q.encAt inp).still = true) (on : q.cfgInt 0x056 inp = 1 ∨ q.cfgInt 0x056 inp = 2) :
    (encRead q inp pp now draws).2.2.1.mant = 0 := by
  rcases on with quad | hall
  · simp only [encRead, if_pos quad, if_pos still]
    rfl
  · simp only [encRead, hall, if_true, if_pos still]
    rfl

end

section
variable {s : State} {l : Lane} {g : Img} {e : Entry}

theorem Dev.LaneBecomes.putDraws {d d' : Dev} {l : Lane} {q : LaneSt} (h : d.LaneBecomes l q d') (n : Nat) :
    d.LaneBecomes l q { d' with draws := n } := ⟨h.lane, h.others, h.vot, h.outside⟩

theorem LaneSt.setSig_enc (q : LaneSt) (i : Nat) (w : SigWord) : (q.setSig i w).enc = q.enc := rfl

/-- The lane after a read of input inp that wrote r into the outputs of body word w. -/
def LaneSt.encWritten (q : LaneSt) (w : DWord) (r : SigWord × SigWord × SigWord × Bool) : LaneSt :=
  (((q.setSig (dw w 61 47) r.1).setSig (dw w 46 32) r.2.1).setSig (dw w 31 17) r.2.2.1).onEnc (dw w 63 62) (fun x =>
    { x with readC := x.cnt, readT := x.edge })
/-- What the read of body word w gives. -/
def Dev.encWords (d : Dev) (l : Lane) (w : DWord) : SigWord × SigWord × SigWord × Bool :=
  encRead (d.lane l) (dw w 63 62) (dw w 16 13 + 1) d.lclk d.draws

theorem exec_encoderHallRead : exec (.encoderHallRead l false) s = s.onDev (fun d => dispatch d l false (clsIs 0x1A) (fun g e d =>
    (if (d.encWords l (g.desc e.operand 1)).2.2.2 then { d with draws := d.draws + 1 } else d).onLane l (fun q =>
      q.encWritten (g.desc e.operand 1) (d.encWords l (g.desc e.operand 1))))) := rfl

theorem encoderHallRead_becomes (ready : s.dev.Ready l g e) (cls : e.cls = 0x1A) :
    Ends (.encoderHallRead l false) s l g e (s.dev.LaneBecomes l (((s.dev.begun l g e).lane l).encWritten (g.desc e.operand 1)
      ((s.dev.begun l g e).encWords l (g.desc e.operand 1)))) := by
  refine ends_of_laneBecomes ready (beq_iff_eq.2 cls) exec_encoderHallRead (Dev.LaneBecomes.onLane_eq (q := (s.dev.begun l g e).lane l) ?_ rfl)
  exact ((Dev.LaneBecomes.begun ..).putDraws _).iteSelf (.begun ..)

/-- The words of a read stand in its outputs, where these are three. -/
theorem LaneSt.encWritten_sigs {q : LaneSt} (wf : memWf q.mem = true) {w : DWord} (r : SigWord × SigWord × SigWord × Bool)
    (angCnt : dw w 61 47 ≠ dw w 46 32) (angSpd : dw w 61 47 ≠ dw w 31 17) (cntSpd : dw w 46 32 ≠ dw w 31 17) :
    (q.encWritten w r).sig (dw w 61 47) = r.1 ∧ (q.encWritten w r).sig (dw w 46 32) = r.2.1 ∧
    (q.encWritten w r).sig (dw w 31 17) = r.2.2.1 ∧
    ∀ j : Nat, j ≠ dw w 61 47 → j ≠ dw w 46 32 → j ≠ dw w 31 17 → (q.encWritten w r).sig j = q.sig j := by
  have sigs (j : Nat) : (q.encWritten w r).sig j =
      (((q.setSig (dw w 61 47) r.1).setSig (dw w 46 32) r.2.1).setSig (dw w 31 17) r.2.2.1).sig j := rfl
  have wf1 := LaneSt.setSig_wf q (dw w 61 47) r.1 wf
  have wf2 := LaneSt.setSig_wf _ (dw w 46 32) r.2.1 wf1
  simp only [sigs]
  refine ⟨?_, ?_, LaneSt.sig_setSig wf2 _ _, fun j notAng notCnt notSpd => ?_⟩
  · rw [LaneSt.sig_setSig_ne wf2 _ angSpd, LaneSt.sig_setSig_ne wf1 _ angCnt, LaneSt.sig_setSig wf]
  · rw [LaneSt.sig_setSig_ne wf2 _ cntSpd, LaneSt.sig_setSig wf1]
  · rw [LaneSt.sig_setSig_ne wf2 _ notSpd, LaneSt.sig_setSig_ne wf1 _ notCnt, LaneSt.sig_setSig_ne wf _ notAng]
/-- The read remembers the count and the edge it saw. -/
theorem LaneSt.encWritten_encAt {q : LaneSt} {w : DWord} (r : SigWord × SigWord × SigWord × Bool) (there : dw w 63 62 < q.enc.length) :
    (q.encWritten w r).encAt (dw w 63 62) =
      { q.encAt (dw w 63 62) with readC := (q.encAt (dw w 63 62)).cnt, readT := (q.encAt (dw w 63 62)).edge } := by
  have enc : (q.encWritten w r).enc = modAt q.enc (dw w 63 62) (fun x => { x with readC := x.cnt, readT := x.edge }) := by
    simp only [LaneSt.encWritten, LaneSt.onEnc, LaneSt.setSig_enc]
  rw [LaneSt.encAt, enc, modAt_getD there, ← LaneSt.encAt]

/-! ### Edges -/

/-- What lies outside encoder input inp of lane l stayed. -/
def Dev.EncFrame (d : Dev) (l : Lane) (inp : Nat) (d' : Dev) : Prop :=
  (∀ k : Nat, k ≠ inp → (d'.lane l).encAt k = (d.lane l).encAt k) ∧ (d'.lane l).mem = (d.lane l).mem ∧
  (d'.lane l).seq = (d.lane l).seq ∧ (∀ m : Lane, m ≠ l → d'.lane m = d.lane m) ∧ d'.vot = d.vot ∧ d.SameOutside d'

theorem Dev.LaneBecomes.encFrame {d d' : Dev} {inp : Nat} {f : EncSt → EncSt} (h : d.LaneBecomes l ((d.lane l).onEnc inp f) d') :
    d.EncFrame l inp d' := by
  refine ⟨fun k other => ?_, ?_, ?_, h.others, h.vot, h.outside⟩
  · rw [h.lane]
    exact modAt_getD_ne _ _ _ other
  all_goals rw [h.lane]; rfl
theorem Dev.LaneBecomes.encAt {d d' : Dev} {inp : Nat} {f : EncSt → EncSt} (h : d.LaneBecomes l ((d.lane l).onEnc inp f) d')
    (there : inp < (d.lane l).enc.length) : (d'.lane l).encAt inp = f ((d.lane l).encAt inp) := by
  rw [h.lane]
  exact modAt_getD there f EncSt.reset

variable {inp held : Nat} {w0 w1 w2 : Bool}

/-- What levels that the wires held make of an input at time t. -/
def LaneSt.encEdge (q : LaneSt) (inp t : Nat) (w0 w1 w2 : Bool) (held : Nat) (e : EncSt) : EncSt :=
  if w0 = e.w0 ∧ w1 = e.w1 ∧ w2 = e.w2 then e
  else if dyLt ⟨5 * (held : Int), -2⟩ (q.cfgDy 0x058 inp) then e
  else if q.cfgInt 0x056 inp = 1 then encQuad e t w0 w1 w2
  else if q.cfgInt 0x056 inp = 2 then encHall e t w0 w1 w2
  else { e with w0 := w0, w1 := w1, w2 := w2 }

theorem exec_encoderEdge : exec (.encoderEdge l inp w0 w1 w2 held) s = s.onDev (fun d =>
    d.onLane l (fun q => q.onEnc inp (q.encEdge inp d.lclk w0 w1 w2 held))) := rfl

/-- Levels that do not pass the glitch filter change nothing. -/
theorem LaneSt.encEdge_short {q : LaneSt} (short : dyLt ⟨5 * (held : Int), -2⟩ (q.cfgDy 0x058 inp) = true) (t : Nat) :
    q.encEdge inp t w0 w1 w2 held = id := by
  funext e
  simp only [LaneSt.encEdge, if_pos short, ite_self, id]

theorem Dev.onLane_onEnc_id (d : Dev) (l : Lane) (inp : Nat) : d.onLane l (fun q => q.onEnc inp id) = d := by
  have same (q : LaneSt) : q.onEnc inp id = q := by rw [LaneSt.onEnc, modAt, List.modify_id]
  simp only [same]
  cases l <;> rfl

/-- What levels that passed make of the input. -/
theorem encoderEdge_makes (there : inp < (s.dev.lane l).enc.length) : Does (.encoderEdge l inp w0 w1 w2 held) s (fun d =>
    (d.lane l).encAt inp = (s.dev.lane l).encEdge inp s.dev.lclk w0 w1 w2 held ((s.dev.lane l).encAt inp) ∧ s.dev.EncFrame l inp d) :=
  (does_of_laneBecomes exec_encoderEdge ((Dev.LaneBecomes.refl ..).onLane _)).imp fun _ h => ⟨h.encAt there, h.encFrame⟩

section
variable {q : LaneSt} {t : Nat} {e : EncSt} (passes : dyLt ⟨5 * (held : Int), -2⟩ (q.cfgDy 0x058 inp) = false)
  (moved : ¬(w0 = e.w0 ∧ w1 = e.w1 ∧ w2 = e.w2))
include passes moved

theorem LaneSt.encEdge_quad (quad : q.cfgInt 0x056 inp = 1) : q.encEdge inp t w0 w1 w2 held e = encQuad e t w0 w1 w2 := by
  rw [LaneSt.encEdge, if_neg moved, passes, if_neg Bool.false_ne_true, if_pos quad]
theorem LaneSt.encEdge_hall (hall : q.cfgInt 0x056 inp = 2) : q.encEdge inp t w0 w1 w2 held e = encHall e t w0 w1 w2 := by
  rw [LaneSt.encEdge, if_neg moved, passes, if_neg Bool.false_ne_true, if_neg (by rw [hall]; decide), if_pos hall]

end

/-! ### Quadrature -/

section
variable (e : EncSt) (t : Nat)

/-- With one wire changed the count goes down when A takes the level that B had, and up otherwise. -/
theorem quadPos_step : ∀ a b p q : Bool, ((a != p) != (b != q)) = true →
    ((quadPos a b + 4 - quadPos p q) % 4 == 1) = !(a == q) ∧ ((a != p) && (b != q)) = false ∧ ((a != p) || (b != q)) = true := by
  decide

theorem encQuad_single {a b : Bool} (one : ((a != e.w0) != (b != e.w1)) = true) :
    (encQuad e t a b e.w2).cnt = (if a = e.w1 then e.cnt - 1 else e.cnt + 1) ∧ (encQuad e t a b e.w2).w0 = a ∧
    (encQuad e t a b e.w2).w1 = b ∧ (encQuad e t a b e.w2).edge = some t := by
  obtain ⟨up, single, moved⟩ := quadPos_step a b e.w0 e.w1 one
  simp only [encQuad, up, single, moved, bne_self_eq_false, Bool.false_and, Bool.false_eq_true, if_false, if_true]
  refine ⟨?_, rfl, rfl, rfl⟩
  by_cases down : a = e.w1 <;> simp [encFault, encStamp, down]
theorem encQuad_both : (encQuad e t (!e.w0) (!e.w1) e.w2).fault = true ∧ (encQuad e t (!e.w0) (!e.w1) e.w2).cnt = e.cnt := by
  have flips : ∀ b : Bool, ((!b) != b) = true := by decide
  simp only [encQuad, flips, bne_self_eq_false, Bool.false_and, Bool.and_self, Bool.or_self, if_true, Bool.false_eq_true, if_false]
  exact ⟨rfl, rfl⟩
theorem encQuad_firstZ (fresh : e.zSeen = false) :
    (encQuad e t e.w0 e.w1 (!e.w2)).cnt = 0 ∧ (encQuad e t e.w0 e.w1 (!e.w2)).zSeen = true := by
  have flips : ∀ b : Bool, ((!b) != b) = true := by decide
  simp only [encQuad, flips, fresh, Bool.not_false, Bool.and_self, if_true]
  exact ⟨rfl, rfl⟩

/-! ### Hall codes -/

variable {u v w : Bool}

theorem encHall_none (code : hallSector u v w = none) :
    (encHall e t u v w).fault = true ∧ (encHall e t u v w).cnt = e.cnt ∧ (encHall e t u v w).sector = e.place := by
  simp only [encHall, code]
  exact ⟨rfl, rfl, rfl⟩

variable {e} {k : Nat} (code : hallSector u v w = some k)
include code

theorem encHall_sector : (encHall e t u v w).sector = some k := by
  unfold encHall
  cases place : e.place with
  | none => rw [code]; rfl
  | some p =>
    rw [code]
    dsimp only
    by_cases same : k = p
    · rw [if_pos same]
      exact congrArg some same.symm
    · rw [if_neg same]
      rfl
/-- A code that names the first sector, or the same one again. -/
theorem encHall_same (same : e.place = none ∨ e.place = some k) : (encHall e t u v w).cnt = e.cnt ∧
    (encHall e t u v w).edge = e.edge ∧ (e.fault = false → (encHall e t u v w).fault = false) := by
  have stays (x : EncSt) (good : x.fault = false) : (encFault x false).fault = false := by simp [encFault, good]
  unfold encHall
  rcases same with first | again
  · rw [code, first]
    exact ⟨rfl, rfl, stays _⟩
  · rw [code, again]
    dsimp only
    rw [if_pos rfl]
    exact ⟨rfl, rfl, stays _⟩
theorem encHall_moves {p : Nat} (place : e.place = some p) (other : k ≠ p) :
    ((k + 6 - p) % 6 = 1 → (encHall e t u v w).cnt = e.cnt + 1) ∧
    ((k + 6 - p) % 6 ≠ 1 → (p + 6 - k) % 6 = 1 → (encHall e t u v w).cnt = e.cnt - 1) ∧
    ((k + 6 - p) % 6 ≠ 1 → (p + 6 - k) % 6 ≠ 1 → (encHall e t u v w).fault = true) := by
  simp only [encHall, code, place, if_neg other, encFault, encStamp]
  refine ⟨fun up => ?_, fun notUp down => ?_, fun notUp notDown => ?_⟩
  · rw [if_pos (beq_iff_eq.2 up)]
  · rw [if_neg (mt beq_iff_eq.1 notUp), if_pos (beq_iff_eq.2 down)]
  · rw [beq_eq_false_iff_ne.2 notUp, beq_eq_false_iff_ne.2 notDown]
    rfl

end

/-! ### Standstill -/

/-- The input stands still 100 ms after its last edge, where there was one. -/
theorem encoderSpeedTimeout_makes (there : inp < (s.dev.lane l).enc.length) : Does (.encoderSpeedTimeout l inp) s (fun d =>
    (d.lane l).encAt inp = { (s.dev.lane l).encAt inp with still := true } ∧
    (∀ t : Nat, ((s.dev.lane l).encAt inp).edge = some t → (4 * t + 4) / 5 + 64000000 ≤ d.clk) ∧ s.dev.EncFrame l inp d) := by
  have still {d : Dev} (h : s.dev.LaneBecomes l (s.dev.lane l) d) :
      let d' := d.onLane l (fun q => q.onEnc inp (fun e => { e with still := true }))
      (d'.lane l).encAt inp = { (s.dev.lane l).encAt inp with still := true } ∧ s.dev.EncFrame l inp d' := by
    have stands := h.onLane (fun q => q.onEnc inp (fun e => { e with still := true }))
    exact ⟨stands.encAt there, stands.encFrame⟩
  have meaning : exec (.encoderSpeedTimeout l inp) s = s.onDev (fun d =>
      match ((d.lane l).encAt inp).edge with
      | none => d.onLane l (fun q => q.onEnc inp (fun e => { e with still := true }))
      | some t => (d.toClk (ceilDiv (4 * t) 5 + 100 * msClk)).onLane l (fun q => q.onEnc inp (fun e => { e with still := true }))) := rfl
  refine does_of_onDev meaning ?_
  cases edge : ((s.dev.lane l).encAt inp).edge with
  | none =>
    obtain ⟨made, frame⟩ := still (.refl ..)
    exact ⟨made, nofun, frame⟩
  | some t =>
    obtain ⟨made, frame⟩ := still ((Dev.LaneBecomes.refl ..).toClk (ceilDiv (4 * t) 5 + 100 * msClk))
    refine ⟨made, fun t' eq => ?_, frame⟩
    obtain rfl := Option.some.inj eq
    exact (le_max_right _ _).trans_eq (Dev.toClk_clk ..).symm

/-- Settles O19: the words of a read are `encRead`'s, and an edge that passes is `encQuad` or `encHall`. -/
theorem encoderRead : Obligations.EncoderRead := by
  refine ⟨?_, ?_⟩
  · intro s l g e ready cls w1 q inp n mode oAng oCnt oSpd wf angCnt angSpd cntSpd there
    refine (encoderHallRead_becomes ready cls).imp fun d h => ?_
    obtain ⟨ang, cnt, spd, others⟩ := LaneSt.encWritten_sigs wf ((s.dev.begun l g e).encWords l w1) angCnt angSpd cntSpd
    have input := LaneSt.encWritten_encAt (w := w1) ((s.dev.begun l g e).encWords l w1) there
    rw [h.lane, ang, cnt, spd]
    exact ⟨(encRead_cnt ..).1, (encRead_cnt ..).2, encRead_off _ _ _, encRead_quad _ _ _, encRead_hall _ _ _,
      fun on still => encRead_still _ _ _ still on, input, others, h.others, h.vot, h.outside⟩
  · intro s l inp there q n frame passes
    refine ⟨fun a b c held short => ?_, fun a b held pass quad one => ?_, fun held pass quad => ?_, fun held pass quad fresh => ?_,
      fun u v w held pass hall moved => ?_, ?_⟩
    · refine next_of_onDev exec_encoderEdge ?_
      refine (Dev.onLane_congr ?_).trans (Dev.onLane_onEnc_id s.dev l inp)
      rw [LaneSt.encEdge_short (Bool.not_eq_false _ |>.mp short)]
    · refine (encoderEdge_makes there).imp fun d h => ?_
      rw [h.1, LaneSt.encEdge_quad pass (fun same => by simp [n, q, same.1, same.2.1] at one) quad]
      obtain ⟨cnt, a', b', edge⟩ := encQuad_single n s.dev.lclk one
      exact ⟨cnt, a', b', edge, h.2⟩
    · refine (encoderEdge_makes there).imp fun d h => ?_
      rw [h.1, LaneSt.encEdge_quad pass (fun same => Bool.not_ne_self _ same.1) quad]
      exact ⟨(encQuad_both ..).1, (encQuad_both ..).2, h.2⟩
    · refine (encoderEdge_makes there).imp fun d h => ?_
      rw [h.1, LaneSt.encEdge_quad pass (fun same => Bool.not_ne_self _ same.2.2) quad]
      exact ⟨(encQuad_firstZ _ _ fresh).1, (encQuad_firstZ _ _ fresh).2, h.2⟩
    · refine (encoderEdge_makes there).imp fun d h => ?_
      rw [h.1, LaneSt.encEdge_hall pass moved hall]
      exact ⟨encHall_none _ _, fun k code => ⟨encHall_sector _ code, encHall_same _ code, fun p => encHall_moves _ code⟩, h.2⟩
    · refine (encoderSpeedTimeout_makes there).imp fun d h => ?_
      obtain ⟨made, late, kept⟩ := h
      rw [made]
      exact ⟨rfl, rfl, late, kept⟩

end

end Sys2Proof.Machine
end

section
/-! SUPPORT. Discrete inputs, edge returns and the limp command input (R261 to R267). -/

namespace Sys2Proof.Machine
open Sys2Proof

section
variable {s : State} {l : Lane} {g : Img} {e : Entry}

/-! ### The read -/

/-- The word that a read of body word w delivers (Table 14-3). -/
def Dev.inputWord (d : Dev) (l : Lane) (w : DWord) : SigWord :=
  let m := (d.lane l).meas
  if dw w 63 62 = 0 then sigInt m.din.toNat Status.ok
  else if dw w 63 62 = 1 then
    { m.lciVal with st := { Status.clear with valid := m.lciOk && d.domUp 7 && d.domUp 9 && !d.test.lciBad } }
  else edgeReturn (d.link (dw w 63 62 - 2)) (dw w 46 43)

theorem discreteOrLciRead_writes (ready : s.dev.Ready l g e) (cls : e.cls = 0x1B) {w : SigWord}
    (word : (s.dev.begun l g e).inputWord l (g.desc e.operand 1) = w) :
    Writes (.discreteOrLciRead l false) s l g e [(dw (g.desc e.operand 1) 61 47, w)] := by
  have meaning : exec (.discreteOrLciRead l false) s = s.onDev (fun d => dispatch d l false (clsIs 0x1B) (fun g e d =>
      d.onLane l (fun q => q.setSig (dw (g.desc e.operand 1) 61 47) (d.inputWord l (g.desc e.operand 1))))) := rfl
  exact word ▸ writes_of_dispatch ready (beq_iff_eq.2 cls) meaning rfl

section
variable {d : Dev} {w : DWord}

theorem Dev.inputWord_din (sel : dw w 63 62 = 0) : d.inputWord l w = sigInt (d.lane l).meas.din.toNat Status.ok := if_pos sel
theorem Dev.inputWord_lci (sel : dw w 63 62 = 1) : d.inputWord l w = { (d.lane l).meas.lciVal with
    st := { Status.clear with valid := (d.lane l).meas.lciOk && d.domUp 7 && d.domUp 9 && !d.test.lciBad } } :=
  (if_neg (by omega)).trans (if_pos sel)
theorem Dev.inputWord_edge (sel : 2 ≤ dw w 63 62) : d.inputWord l w = edgeReturn (d.link (dw w 63 62 - 2)) (dw w 46 43) :=
  (if_neg (by omega)).trans (if_neg (by omega))

end

section
variable {k : LinkSt} {item : Nat}

theorem edgeReturn_vph (low : item < 12) : edgeReturn k item =
    mkSig ⟨((k.latched.vph.getD item 0).toNat : Int), -5⟩ ⟨!k.rxDown, false, !k.latched.fresh, false⟩ := if_pos low
theorem edgeReturn_temp (temp : item = 12) : edgeReturn k item =
    mkSig ⟨k.latched.temp.toInt, -4⟩ ⟨!k.rxDown, false, !k.latched.fresh, false⟩ := (if_neg (by omega)).trans (if_pos temp)
theorem edgeReturn_samp (high : 12 < item) : edgeReturn k item = sigInt k.latched.samp ⟨!k.rxDown, false, !k.latched.fresh, false⟩ :=
  (if_neg (by omega)).trans (if_neg (by omega))

end

/-! ### What a command of the measurement inputs leaves alone -/

/-- From d to d' lane l changed in its measurements only. -/
def Dev.MeasFrame (d : Dev) (l : Lane) (d' : Dev) : Prop :=
  (d'.lane l).mem = (d.lane l).mem ∧ (d'.lane l).seq = (d.lane l).seq ∧ (d'.lane l).cfg = (d.lane l).cfg ∧
  (∀ m : Lane, m ≠ l → d'.lane m = d.lane m) ∧ d'.vot = d.vot ∧ d.SameOutside d'

theorem Dev.LaneBecomes.measFrame {d d' : Dev} {m : MeasSt} (h : d.LaneBecomes l { d.lane l with meas := m } d') : d.MeasFrame l d' := by
  refine ⟨?_, ?_, ?_, h.others, h.vot, h.outside⟩ <;> rw [h.lane]
theorem Dev.LaneBecomes.meas {d d' : Dev} {m : MeasSt} (h : d.LaneBecomes l { d.lane l with meas := m } d') : (d'.lane l).meas = m := by
  rw [h.lane]

/-! ### Accepted levels -/

/-- The discrete inputs once bit n took a level. -/
def dinSet (din : BitVec 16) (n : Nat) (level : Bool) : BitVec 16 :=
  (din &&& ~~~(BitVec.ofNat 16 (2 ^ n))) ||| (if level then BitVec.ofNat 16 (2 ^ n) else 0)

theorem dinSet_getLsbD (din : BitVec 16) {n k : Nat} (level : Bool) (bit : k < 16) :
    (dinSet din n level).getLsbD k = if k = n then level else din.getLsbD k := by
  have own : (BitVec.ofNat 16 (2 ^ n)).getLsbD k = decide (n = k) := by
    rw [BitVec.getLsbD_ofNat, decide_eq_true bit, Nat.testBit_two_pow, Bool.true_and]
  have chosen : (if level then BitVec.ofNat 16 (2 ^ n) else 0).getLsbD k = (level && decide (n = k)) := by
    cases level with
    | false => exact BitVec.getLsbD_zero
    | true => exact own
  rw [dinSet, BitVec.getLsbD_or, BitVec.getLsbD_and, BitVec.getLsbD_not, own, chosen, decide_eq_true bit]
  by_cases same : k = n
  · simp [same]
  · simp [same, Ne.symm same]

section
variable {n samples : Nat} {level : Bool}

theorem exec_dinLevelAccepted : exec (.dinLevelAccepted l n level samples) s = s.onDev (fun d =>
    if n < 16 ∧ (d.lane l).seq.phase ≠ .off then
      if dyLe ((d.lane l).cfgDy 0x084 n) (dyInt samples) then
        (d.toClk (640 * ceilDiv d.clk 640)).onLane l (fun q => { q with meas := { q.meas with din := dinSet q.meas.din n level } })
      else d.toClk (640 * ceilDiv d.clk 640)
    else d) := rfl

theorem dinLevelAccepted_takes (input : n < 16) (on : (s.dev.lane l).seq.phase ≠ .off) (stood : dyLe ((s.dev.lane l).cfgDy 0x084 n) (dyInt samples) = true) :
    Does (.dinLevelAccepted l n level samples) s (s.dev.LaneBecomes l { s.dev.lane l with
      meas := { (s.dev.lane l).meas with din := dinSet (s.dev.lane l).meas.din n level } }) := by
  refine does_of_onDev exec_dinLevelAccepted ?_
  simp only [stood, if_true]
  rw [if_pos ⟨input, on⟩]
  exact ((Dev.LaneBecomes.refl ..).toClk _).onLane_eq rfl
theorem dinLevelAccepted_waits (short : dyLe ((s.dev.lane l).cfgDy 0x084 n) (dyInt samples) = false) :
    Does (.dinLevelAccepted l n level samples) s (s.dev.LaneBecomes l (s.dev.lane l)) := by
  refine does_of_onDev exec_dinLevelAccepted ?_
  simp only [short, Bool.false_eq_true, if_false]
  exact ((Dev.LaneBecomes.refl ..).toClk _).iteSelf (.refl ..)

end

/-! ### The limp command input -/

section
variable {q : LaneSt} {hist : List (Nat × Nat × Nat)}

theorem foldl_add_eq_sum (f : Nat × Nat × Nat → Nat) (hist : List (Nat × Nat × Nat)) : hist.foldl (fun x e => x + f e) 0 = (hist.map f).sum := by
  rw [List.sum_eq_foldl, List.foldl_map]
/-- The last measurement is always kept. -/
theorem lciKeep_length (q : LaneSt) (t : Nat) (x : Nat × Nat × Nat) : 1 ≤ (lciKeep q t (x :: hist)).length := by
  rw [lciKeep, List.length_append]
  exact Nat.le_add_right 1 _

/-- The value lies within LCI_LO to LCI_HI. -/
def LaneSt.lciWithin (q : LaneSt) (w : SigWord) : Bool := dyLe (q.cfgDy 0x086 0) (sigVal w) && dyLe (sigVal w) (q.cfgDy 0x087 0)

variable {t : Nat}

theorem lciTake_analog (mode : q.cfgInt 0x085 0 = 1) (a : Nat) : let m := lciTake q t a 0
    m.lciVal = mkSigRat (5 * (m.lciHist.map (·.2.1)).sum : Nat) (4096 * m.lciHist.length) Status.clear ∧
    (m.lciOk = true ↔ q.lciWithin m.lciVal = true ∧ q.meas.lciFrom + lciWin q ≤ t) := by
  have some_ := lciKeep_length (hist := q.meas.lciHist) q t (t, a, 0)
  simp only [lciTake, lciValue, mode, foldl_add_eq_sum (·.2.1), max_eq_right some_, bne_self_eq_false, Bool.false_or, Bool.and_eq_true,
    decide_eq_true_eq, LaneSt.lciWithin, and_self]
/-- In the timed encodings the value counts at once. -/
theorem lciTake_at_once (timed : q.cfgInt 0x085 0 ≠ 1) (a period : Nat) :
    (lciTake q t a period).lciVal = (lciValue q (lciTake q t a period).lciHist).1 ∧
    (lciTake q t a period).lciOk = (lciValue q (lciTake q t a period).lciHist).2 := by
  refine ⟨rfl, ?_⟩
  simp only [lciTake, bne_iff_ne.2 timed, Bool.true_or, Bool.and_true]
theorem lciValue_duty (mode : q.cfgInt 0x085 0 = 2) :
    (lciValue q hist).1 = mkSigRat (hist.map (·.2.1)).sum (max 1 (hist.map (·.2.2)).sum) Status.clear ∧
    (lciValue q hist).2 = (q.lciWithin (lciValue q hist).1 &&
      decide (72000 * hist.length ≤ (hist.map (·.2.2)).sum ∧ (hist.map (·.2.2)).sum ≤ 8880000 * hist.length)) := by
  simp only [lciValue, mode, foldl_add_eq_sum (·.2.1), foldl_add_eq_sum (·.2.2), Nat.cast_list_sum, List.map_map, Function.comp_def,
    LaneSt.lciWithin, and_self]
theorem lciValue_frequency (mode : q.cfgInt 0x085 0 = 3) :
    (lciValue q hist).1 = mkSigRat ((hist.length : Int) * 800000000) (max 1 (hist.map (·.2.2)).sum) Status.clear ∧
    (lciValue q hist).2 = q.lciWithin (lciValue q hist).1 := by
  simp only [lciValue, mode, foldl_add_eq_sum (·.2.2), LaneSt.lciWithin, and_self]

theorem lciTake_timed (mode : q.cfgInt 0x085 0 = 2 ∨ q.cfgInt 0x085 0 = 3) (a period : Nat) : let m := lciTake q t a period
    m.lciVal = (if q.cfgInt 0x085 0 = 2 then mkSigRat (m.lciHist.map (·.2.1)).sum (max 1 (m.lciHist.map (·.2.2)).sum) Status.clear
      else mkSigRat ((m.lciHist.length : Int) * 800000000) (max 1 (m.lciHist.map (·.2.2)).sum) Status.clear) ∧
    (m.lciOk = true ↔ q.lciWithin m.lciVal = true ∧ (q.cfgInt 0x085 0 = 2 →
      72000 * m.lciHist.length ≤ (m.lciHist.map (·.2.2)).sum ∧ (m.lciHist.map (·.2.2)).sum ≤ 8880000 * m.lciHist.length)) := by
  intro m
  rcases mode with duty | freq
  · obtain ⟨val, ok⟩ := lciTake_at_once (t := t) (show q.cfgInt 0x085 0 ≠ 1 by rw [duty]; decide) a period
    obtain ⟨val', ok'⟩ := lciValue_duty (hist := (lciTake q t a period).lciHist) duty
    refine ⟨val.trans (val'.trans (if_pos duty).symm), ?_⟩
    rw [ok, ok', val, Bool.and_eq_true, decide_eq_true_iff]
    exact and_congr_right fun _ => ⟨fun period _ => period, fun period => period duty⟩
  · have notDuty : q.cfgInt 0x085 0 ≠ 2 := by rw [freq]; decide
    obtain ⟨val, ok⟩ := lciTake_at_once (t := t) (show q.cfgInt 0x085 0 ≠ 1 by rw [freq]; decide) a period
    obtain ⟨val', ok'⟩ := lciValue_frequency (hist := (lciTake q t a period).lciHist) freq
    refine ⟨val.trans (val'.trans (if_neg notDuty).symm), ?_⟩
    rw [ok, ok', val]
    exact (and_iff_left (fun duty => absurd duty notDuty)).symm

end

section
variable {code : BitVec 12} {high period : Nat}

theorem exec_lciMeasurement : exec (.lciMeasurement l code high period) s = s.onDev (fun d =>
    if (d.lane l).cfgInt 0x085 0 = 1 then
      (d.toClk (ceilDiv (4 * ((d.lane l).meas.lciEdge + 8000)) 5)).onLane l (fun q =>
        { q with meas := lciTake q (d.toClk (ceilDiv (4 * ((d.lane l).meas.lciEdge + 8000)) 5)).lclk code.toNat 0 })
    else if ((d.lane l).cfgInt 0x085 0 = 2 ∨ (d.lane l).cfgInt 0x085 0 = 3) ∧ 800 ≤ high ∧ high + 800 ≤ period then
      (d.toClk (ceilDiv (4 * ((d.lane l).meas.lciEdge + period)) 5)).onLane l (fun q =>
        { q with meas := lciTake q (d.toClk (ceilDiv (4 * ((d.lane l).meas.lciEdge + period)) 5)).lclk high period })
    else d) := rfl

/-- Lane l of d' is that of d after it took a conversion or period that ended at the time of d'. -/
def Dev.LciTaken (d : Dev) (l : Lane) (a period : Nat) (d' : Dev) : Prop :=
  (d'.lane l).meas = lciTake (d.lane l) d'.lclk a period ∧ d.MeasFrame l d'

theorem Dev.lciTaken (d : Dev) (l : Lane) (n a period : Nat) :
    d.LciTaken l a period ((d.toClk n).onLane l (fun q => { q with meas := lciTake q (d.toClk n).lclk a period })) := by
  have taken := ((Dev.LaneBecomes.refl d l).toClk n).onLane (fun q => { q with meas := lciTake q (d.toClk n).lclk a period })
  exact ⟨taken.meas, taken.measFrame⟩

theorem lciMeasurement_converts (analog : (s.dev.lane l).cfgInt 0x085 0 = 1) :
    Does (.lciMeasurement l code high period) s (s.dev.LciTaken l code.toNat 0) := by
  refine does_of_onDev exec_lciMeasurement ?_
  rw [if_pos analog]
  exact Dev.lciTaken ..
theorem lciMeasurement_times (timed : (s.dev.lane l).cfgInt 0x085 0 = 2 ∨ (s.dev.lane l).cfgInt 0x085 0 = 3) (pulse : 800 ≤ high)
    (pause : high + 800 ≤ period) : Does (.lciMeasurement l code high period) s (s.dev.LciTaken l high period) := by
  refine does_of_onDev exec_lciMeasurement ?_
  rw [if_neg (by rcases timed with duty | freq <;> omega), if_pos ⟨timed, pulse, pause⟩]
  exact Dev.lciTaken ..

end

/-- The measurements after a timeout that leaves value v (R266). -/
def MeasSt.lciStalled (m : MeasSt) (v : SigWord) : MeasSt := { m with lciVal := v, lciOk := false, lciHist := [] }
/-- The value that a timeout leaves: the level in duty, 0 in frequency. -/
def LaneSt.lciLevel (q : LaneSt) (level : Bool) : SigWord :=
  if q.cfgInt 0x085 0 = 2 && level then mkSig (dyInt 1) Status.clear else sigZero

theorem lciTimeout_makes {level : Bool} (timed : (s.dev.lane l).cfgInt 0x085 0 = 2 ∨ (s.dev.lane l).cfgInt 0x085 0 = 3) :
    Does (.lciTimeout l level) s (fun d => s.dev.LaneBecomes l { s.dev.lane l with
      meas := (s.dev.lane l).meas.lciStalled ((s.dev.lane l).lciLevel level) } d ∧ s.dev.Grew d (cLane l 10)) := by
  have meaning : exec (.lciTimeout l level) s = s.onDev (fun d =>
      if (d.lane l).cfgInt 0x085 0 = 2 ∨ (d.lane l).cfgInt 0x085 0 = 3 then
        ((d.toClk (ceilDiv (4 * (d.lane l).meas.lciEdge) 5 + (if (d.lane l).cfgInt 0x085 0 = 2 then 15 else 150) * msClk)).onLane l
          (fun q => { q with meas := q.meas.lciStalled ((d.lane l).lciLevel level) })).count (cLane l 10) 1
      else d) := rfl
  have becomes (n : Nat) := ((Dev.LaneBecomes.refl s.dev l).toClk n).onLane
    (fun q => { q with meas := q.meas.lciStalled ((s.dev.lane l).lciLevel level) })
  refine does_of_onDev meaning ?_
  rw [if_pos timed]
  exact ⟨(becomes _).count _ _, Dev.count_grew ..⟩

end

/-- Settles O21: the word read is `inputWord`, a measurement is `lciTake`, and what it delivers is `lciValue` in its mode. -/
theorem discreteRead : Obligations.DiscreteRead := by
  refine ⟨?_, ?_⟩
  · intro s l g e ready cls w1 sel out item m k st
    have word {w : SigWord} := discreteOrLciRead_writes ready cls (w := w)
    exact ⟨fun din => word (Dev.inputWord_din din), fun lci => word (Dev.inputWord_lci lci),
      fun edge low => word ((Dev.inputWord_edge edge).trans (edgeReturn_vph low)),
      fun edge temp => word ((Dev.inputWord_edge edge).trans (edgeReturn_temp temp)),
      fun edge high => word ((Dev.inputWord_edge edge).trans (edgeReturn_samp high))⟩
  · intro s l q mode within frame
    refine ⟨fun n samples level input on stood => ?_, fun n samples level input short => ?_, fun code high period analog => ?_,
      fun code high period timed pulse pause => ?_, fun code high period notAnalog none_ => ?_, fun level timed => ?_⟩
    · refine (dinLevelAccepted_takes input on stood).imp fun d h => ?_
      rw [h.meas]
      exact ⟨(dinSet_getLsbD _ _ input).trans (if_pos rfl), fun k bit other => (dinSet_getLsbD _ _ bit).trans (if_neg other), h.measFrame⟩
    · refine (dinLevelAccepted_waits short).imp fun d h => ?_
      exact ⟨congrArg LaneSt.meas h.lane, congrArg LaneSt.mem h.lane, congrArg LaneSt.seq h.lane, congrArg LaneSt.cfg h.lane, h.others,
        h.vot, h.outside⟩
    · refine (lciMeasurement_converts analog).imp fun d h => ?_
      rw [h.1]
      exact ⟨rfl, (lciTake_analog analog _).1, (lciTake_analog analog _).2, h.2⟩
    · refine (lciMeasurement_times timed pulse pause).imp fun d h => ?_
      rw [h.1]
      exact ⟨rfl, (lciTake_timed timed _ _).1, (lciTake_timed timed _ _).2, h.2⟩
    · refine next_of_onDev exec_lciMeasurement ?_
      rw [if_neg notAnalog, if_neg fun takes => ?_]
      obtain ⟨timed, pulse, pause⟩ := takes
      rcases none_ with ⟨notDuty, notFreq⟩ | short
      · exact timed.elim notDuty notFreq
      · omega
    · refine (lciTimeout_makes timed).imp fun d h => ?_
      obtain ⟨becomes, counted⟩ := h
      rw [becomes.meas]
      refine ⟨?_, rfl, counted, becomes.measFrame⟩
      simp only [MeasSt.lciStalled, LaneSt.lciLevel, Bool.and_eq_true, decide_eq_true_eq]
      rfl

end Sys2Proof.Machine
end

section
/-! SUPPORT. Payload takes of one element (R284, R327): what is read, whether it is stale, and the word that stays. -/

namespace Sys2Proof.Machine
open Sys2Proof

section
variable (d : Dev) (l : Lane) (g : Img) (x : Nat)

/-- What a take of descriptor x finds in the hub. -/
def Dev.taking : TakeSrc := d.takeSrc (payOf g x) ((lookupNat (d.lane l).takes x).map (·.2))
/-- The hub serves the take, and what it reads is long enough. -/
def Dev.takeServed : Bool := d.hubUp && decide ((payOf g x).len ≤ (d.taking l g x).bytes.length)
/-- The count of stale takes in a row after this one. -/
def Dev.takeCount : Nat :=
  if (d.taking l g x).stale || !d.takeServed l g x then min 15 (((lookupNat (d.lane l).takes x).map (·.1)).getD 0 + 1) else 0
/-- The lane after the take. -/
def Dev.taken : LaneSt :=
  { takeWords (d.lane l) (payOf g x) (d.taking l g x) (d.takeServed l g x) (d.takeCount l g x) with
    takes := putNat (d.lane l).takes x (d.takeCount l g x, (d.taking l g x).ver) }

end

/-- A take of one element that writes no CAN identifier or time stamp writes that element alone. -/
theorem takeWords_one {q : LaneSt} {t : PayDesc} {el : PayElem} (one : t.elems = [el]) (plain : t.can = true → t.idSig = 0 ∧ t.tsSig = 0)
    (src : TakeSrc) (serving : Bool) (n : Nat) : takeWords q t src serving n = q.setSig el.sig
      (staleWord (src.stale || !serving) n t.miss (if serving then elemWord el src.bytes else q.sig el.sig)) := by
  cases can : t.can with
  | false => simp only [takeWords, one, List.foldl_cons, List.foldl_nil, can, Bool.false_eq_true, if_false]
  | true =>
    obtain ⟨noId, noTs⟩ := plain can
    simp only [takeWords, one, List.foldl_cons, List.foldl_nil, can, if_true, noId, noTs]

section
variable {s : State} {l : Lane} {g : Img} {e : Entry} {el : PayElem}

theorem payloadTake_becomes (ready : s.dev.Ready l g e) (cls : e.cls = 0x31) :
    Ends (.payloadTake l false) s l g e (s.dev.LaneBecomes l ((s.dev.begun l g e).taken l g e.operand)) := by
  have meaning : exec (.payloadTake l false) s = s.onDev (fun d => dispatch d l false (clsIs 0x31) (fun g e d =>
      d.onLane l (fun _ => d.taken l g e.operand))) := rfl
  refine ends_of_laneBecomes ready (beq_iff_eq.2 cls) meaning (Dev.LaneBecomes.onLane_eq (q := (s.dev.begun l g e).lane l) ?_ rfl)
  exact .begun ..

variable {d : Dev} {x : Nat}

theorem Dev.taking_bank (notCan : (payOf g x).can = false) {b : BankSt}
    (found : d.net.banks.find? (fun b => b.key == (payOf g x).slot) = some b) : d.taking l g x = ⟨b.read, !b.fresh, 0, none⟩ := by
  rw [Dev.taking, Dev.takeSrc, notCan, if_neg Bool.false_ne_true, found]
theorem Dev.taking_noBank (notCan : (payOf g x).can = false)
    (missing : d.net.banks.find? (fun b => b.key == (payOf g x).slot) = none) : d.taking l g x = ⟨[], true, 0, none⟩ := by
  rw [Dev.taking, Dev.takeSrc, notCan, if_neg Bool.false_ne_true, missing]
theorem Dev.taking_object (can : (payOf g x).can = true) {r : CanRx}
    (found : (d.chan (payOf g x).chan).lanes.find? (fun r => r.obj == (payOf g x).filt) = some r) : d.taking l g x =
      ⟨(r.read.map (·.bytes)).getD [], r.read.isNone || (lookupNat (d.lane l).takes x).map (·.2) == some r.ver, r.ver, r.read⟩ := by
  rw [Dev.taking, Dev.takeSrc, if_pos can, found]

theorem Dev.takeServed_eq_false (lost : d.hubUp = false ∨ (d.taking l g x).bytes.length < (payOf g x).len) : d.takeServed l g x = false := by
  rcases lost with down | short
  · rw [Dev.takeServed, down, Bool.false_and]
  · rw [Dev.takeServed, decide_eq_false (not_le.2 short), Bool.and_false]
theorem Dev.takeServed_eq_true (up : d.hubUp = true) (long : (payOf g x).len ≤ (d.taking l g x).bytes.length) : d.takeServed l g x = true := by
  rw [Dev.takeServed, up, decide_eq_true long, Bool.and_self]

/-- What a take of one element leaves. -/
theorem payloadTake_gives {d0 : Dev} (ready : s.dev.Ready l g e) (cls : e.cls = 0x31) (begun : s.dev.begun l g e = d0)
    (wf : memWf (d0.lane l).mem = true) (one : (payOf g e.operand).elems = [el])
    (plain : (payOf g e.operand).can = true → (payOf g e.operand).idSig = 0 ∧ (payOf g e.operand).tsSig = 0) {n : Nat} {w : SigWord}
    (count : d0.takeCount l g e.operand = n)
    (word : staleWord ((d0.taking l g e.operand).stale || !d0.takeServed l g e.operand) n (payOf g e.operand).miss
      (if d0.takeServed l g e.operand then elemWord el (d0.taking l g e.operand).bytes else (d0.lane l).sig el.sig) = w) :
    Ends (.payloadTake l false) s l g e (fun d =>
      (d.lane l).sig el.sig = w ∧ (lookupNat (d.lane l).takes e.operand).map (·.1) = some n ∧
      (∀ j : Nat, j ≠ el.sig → (d.lane l).sig j = (d0.lane l).sig j) ∧ (∀ m : Lane, m ≠ l → d.lane m = s.dev.lane m) ∧
      d.vot = s.dev.vot ∧ s.dev.SameOutside d) := by
  subst begun count word
  refine (payloadTake_becomes ready cls).imp fun d h => ?_
  generalize s.dev.begun l g e = d0 at *
  have sigs (j : Nat) : (d0.taken l g e.operand).sig j = (takeWords (d0.lane l) (payOf g e.operand) (d0.taking l g e.operand)
    (d0.takeServed l g e.operand) (d0.takeCount l g e.operand)).sig j := rfl
  have counts : lookupNat (d0.taken l g e.operand).takes e.operand = some (d0.takeCount l g e.operand, (d0.taking l g e.operand).ver) :=
    lookupNat_putNat ..
  rw [h.lane, counts]
  simp only [sigs, takeWords_one one plain]
  exact ⟨LaneSt.sig_setSig wf _ _, rfl, fun j other => LaneSt.sig_setSig_ne wf _ other, h.others, h.vot, h.outside⟩

end

/-- Settles O25: each clause says what the take finds, and `payloadTake_gives` what it leaves. -/
theorem payloadTake : Obligations.PayloadTake := by
  intro s l g e el ready cls x t d0 q n gives bank stale wf one
  have fresh {bs : List Byte} (plain : t.can = true → t.idSig = 0 ∧ t.tsSig = 0) (bytes : (d0.taking l g x).bytes = bs)
      (new : (d0.taking l g x).stale = false) (served : d0.takeServed l g x = true) : gives (elemWord el bs) 0 := by
    refine payloadTake_gives ready cls rfl wf one plain ?_ ?_
    · rw [Dev.takeCount, new, served]
      rfl
    · rw [new, served, bytes]
      rfl
  have aged {w : SigWord} (notCan : t.can = false) (old : ((d0.taking l g x).stale || !d0.takeServed l g x) = true)
      (word : (if d0.takeServed l g x then elemWord el (d0.taking l g x).bytes else q.sig el.sig) = w) : gives (stale w) n := by
    refine payloadTake_gives ready cls rfl wf one (fun can => absurd (notCan.symm.trans can) Bool.false_ne_true) (if_pos old) ?_
    rw [old, word]
    rfl
  refine ⟨fun b notCan found long up => ?_, fun notCan lost => ?_, fun r o can noId noTs up found read long unseen => ?_⟩
  · have src : d0.taking l g x = ⟨b.read, !b.fresh, 0, none⟩ := Dev.taking_bank notCan found
    have served : d0.takeServed l g x = true := Dev.takeServed_eq_true up (by rw [src]; exact long)
    refine ⟨fun isNew => ?_, fun isOld => ?_⟩
    · refine fresh (fun can => absurd (notCan.symm.trans can) Bool.false_ne_true) ?_ ?_ served
      · rw [src]
      · rw [src, isNew, Bool.not_true]
    · refine aged notCan ?_ ?_
      · rw [src, isOld, Bool.not_false, Bool.true_or]
      · rw [served, src, if_pos rfl]
  · have unserved : d0.takeServed l g x = false := by
      refine Dev.takeServed_eq_false ?_
      rcases lost with down | ⟨missing, some_⟩ | ⟨b, found, short⟩
      · exact .inl down
      · exact .inr (by rw [Dev.taking_noBank (d := d0) notCan missing]; exact some_)
      · exact .inr (by rw [Dev.taking_bank (d := d0) notCan found]; exact short)
    refine aged notCan ?_ ?_
    · rw [unserved, Bool.not_false, Bool.or_true]
    · rw [unserved, if_neg Bool.false_ne_true]
  · have src : d0.taking l g x = ⟨o.bytes, (lookupNat q.takes x).map (·.2) == some r.ver, r.ver, some o⟩ := by
      rw [Dev.taking_object (d := d0) can found, read]
      rfl
    refine fresh (fun _ => ⟨noId, noTs⟩) ?_ ?_ (Dev.takeServed_eq_true up (by rw [src]; exact long))
    · rw [src]
    · rw [src]
      exact beq_eq_false_iff_ne.2 unseen

end Sys2Proof.Machine
end

section
/-! SUPPORT. The alignment queues (R96, R97, R99, R102): a group of which one lane's word alone waits, and why no verdict is formed then. -/

namespace Sys2Proof.Machine
open Sys2Proof

/-! ### A group and its live lanes -/

theorem Dev.group_g (d : Dev) (g : Group) : (d.group g).g = g := by
  unfold Dev.group
  cases found : d.vot.groups.find? (fun x => x.g == g) with
  | none => rfl
  | some x => exact beq_iff_eq.1 (List.find?_some (p := fun x : GroupSt => x.g == g) found)
theorem Dev.liveAt_congr {d d' : Dev} {g : Group} (named : (d'.group g).named = (d.group g).named) (lanes : d'.lanes = d.lanes)
    (seen : d'.vot.outSeen = d.vot.outSeen) : d'.liveAt g = d.liveAt g := by
  funext l
  have phase : d'.phase l = d.phase l := by unfold Dev.phase Dev.lane; rw [lanes]
  simp only [Dev.liveAt, named, phase, seen]
theorem mem_liveFor {d : Dev} {g : Group} {m : Lane} : m ∈ d.liveFor g ↔ d.liveAt g m = true := by
  have all : m ∈ lanesAll := by cases m <;> decide
  simp only [Dev.liveFor, List.mem_filter, all, true_and]
theorem le_forced (gs : GroupSt) (live : List Lane) (tag : BitVec 8) (t : Nat) : t ≤ gs.forced live tag t := by
  unfold GroupSt.forced
  cases gs.deadline live tag with
  | none => exact Nat.le_add_right t 1280
  | some x => exact le_max_left _ _

/-- No verdict is formed while its instant lies ahead and a live lane's word is missing. -/
theorem verdictIfDue_waits {d : Dev} {g : Group} {tag : BitVec 8} (cell : Option Lane)
    (early : ∀ q, (d.group g).first (d.liveFor g) tag = some q → d.gt ≤ (d.group g).forced (d.liveFor g) tag q.at_)
    (inTime : ∀ x, (d.group g).deadline (d.liveFor g) tag = some x → d.gt ≤ x)
    {m : Lane} (live : d.liveAt g m = true) (missing : (d.group g).word m tag = none) : verdictIfDue d g tag cell = d := by
  have waits : allPresent d g tag = false :=
    List.all_eq_false.2 ⟨m, mem_liveFor.2 live, by rw [missing]; exact Bool.false_ne_true⟩
  cases first : (d.group g).first (d.liveFor g) tag with
  | none => simp only [verdictIfDue, first]
  | some q =>
    simp only [verdictIfDue, first, if_neg (not_lt.2 (early q first)), waits, Bool.false_or]
    cases deadline : (d.group g).deadline (d.liveFor g) tag with
    | none => exact if_neg Bool.false_ne_true
    | some x => exact if_neg (mt of_decide_eq_true (not_lt.2 (inTime x deadline)))

/-! ### A group of which one word waits -/

/-- The word q of lane l is all that waits in the alignment queues. -/
def GroupSt.Single (gs : GroupSt) (l : Lane) (q : QWord) : Prop := gs.queue.get l = [q] ∧ ∀ m : Lane, m ≠ l → gs.queue.get m = []

section
variable {gs : GroupSt} {l : Lane} {q : QWord} (one : gs.Single l q)
include one

theorem GroupSt.Single.word_ne {m : Lane} (other : m ≠ l) (tag : BitVec 8) : gs.word m tag = none := by
  rw [GroupSt.word, one.2 m other, List.find?_nil]
theorem GroupSt.Single.word : gs.word l q.w.tag = some q := by
  simp [GroupSt.word, one.1]
theorem GroupSt.Single.words (live : Lane → Bool) : gs.words (lanesAll.filter live) q.w.tag = if live l then [q] else [] := by
  have own := one.word
  have others (m : Lane) (other : m ≠ l) := one.word_ne other q.w.tag
  unfold GroupSt.words
  have perLane (m : Lane) : gs.word m q.w.tag = if m = l then some q else none := by
    split_ifs with same
    · rw [same, own]
    · exact others m same
  simp only [perLane]
  cases l <;> cases a : live .a <;> cases b : live .b <;> cases c : live .c <;> simp [lanesAll, a, b, c]
theorem GroupSt.Single.tagsOf : gs.tagsOf = [q.w.tag] := by
  obtain ⟨own, others⟩ := one
  cases l
  · simp [GroupSt.tagsOf, lanesAll, own, others .b, others .c, insertNew]
  · simp [GroupSt.tagsOf, lanesAll, own, others .a, others .c, insertNew]
  · simp [GroupSt.tagsOf, lanesAll, own, others .a, others .b, insertNew]
theorem GroupSt.Single.first (live : Lane → Bool) : gs.first (lanesAll.filter live) q.w.tag = if live l then some q else none := by
  rw [GroupSt.first, one.words]
  split_ifs <;> rfl
/-- A word alone gives the LAUNCH when its parity is good. -/
theorem GroupSt.Single.unitWord (live : Lane → Bool) :
    gs.unitWord (lanesAll.filter live) q.w.tag = if live l && q.ok then some q else none := by
  have alone : (2 ≤ (if (q.w == q.w) = true then [q] else []).length) = False := by
    simp
  rw [GroupSt.unitWord, one.words]
  cases live l <;> cases ok : q.ok <;> simp [ok, earliest]
theorem GroupSt.Single.deadline (live : Lane → Bool) : gs.deadline (lanesAll.filter live) q.w.tag = (groupLead gs.g).bind (fun lead =>
    if live l && q.ok then some (gtAhead q.at_ q.w.launch - lead) else none) := by
  rw [GroupSt.deadline, one.unitWord]
  cases groupLead gs.g <;> cases live l && q.ok <;> rfl

end

theorem groupDue_single {d : Dev} {g : Group} {l : Lane} {q : QWord} (one : (d.group g).Single l q) :
    groupDue d g = verdictIfDue d g q.w.tag none := by
  rw [groupDue, one.tagsOf]
  rfl
/-- No verdict is formed on a word alone before its instant while another live lane's word is missing. -/
theorem single_waits {d : Dev} {g : Group} {l m : Lane} {q : QWord} (one : (d.group g).Single l q) (other : m ≠ l)
    (live : d.liveAt g m = true) (early : d.gt ≤ (d.group g).forced (d.liveFor g) q.w.tag q.at_)
    (inTime : ∀ x, (d.group g).deadline (d.liveFor g) q.w.tag = some x → d.gt ≤ x) :
    (∀ cell, verdictIfDue d g q.w.tag cell = d) ∧ groupDue d g = d := by
  have waits (cell : Option Lane) : verdictIfDue d g q.w.tag cell = d := by
    refine verdictIfDue_waits cell (fun q' first => ?_) inTime live (one.word_ne other _)
    rw [Dev.liveFor, one.first] at first
    split_ifs at first
    · exact Option.some.inj first ▸ early
  exact ⟨waits, (groupDue_single one).trans (waits none)⟩
/-- No verdict is due in a group whose queues are empty. -/
theorem groupDue_empty {d : Dev} {g : Group} (empty : ∀ l : Lane, (d.group g).queue.get l = []) : groupDue d g = d := by
  have none_ : (d.group g).tagsOf = [] := by simp [GroupSt.tagsOf, lanesAll, empty]
  rw [groupDue, none_]
  rfl
theorem first_empty {gs : GroupSt} (live : List Lane) {tag : BitVec 8} (empty : ∀ l : Lane, gs.queue.get l = []) :
    gs.first live tag = none := by
  have none_ : gs.words live tag = [] := by
    rw [GroupSt.words, List.filterMap_eq_nil_iff]
    intro m _
    rw [GroupSt.word, empty, List.find?_nil]
  rw [GroupSt.first, none_]
  rfl

/-! ### An arrival -/

section
variable {s : State} {l : Lane} {g : Group} {p : Bool} {cell : Option Lane} {w : VWord} {rest : List VWord}

theorem exec_votedWordArrival : exec (.votedWordArrival l g p cell) s = s.onDev (fun d =>
    match (d.group g).flight.get l with
    | [] => d
    | w :: rest =>
      let d := match (d.group g).first (d.liveFor g) w.tag with
        | some q =>
          if (d.group g).forced (d.liveFor g) w.tag q.at_ < d.gt then
            runVerdict d g w.tag ((d.group g).forced (d.liveFor g) w.tag q.at_) none
          else d
        | none => d
      if !queueFits g ((d.group g).queue.get l) w then d
      else groupDue (enqueue (d.onGroup g (fun x => { x with flight := x.flight.set l rest })) l g w p cell) g) := rfl

/-- The device with the oldest word of the lane's queue taken out of flight. -/
def Dev.landed (d : Dev) (l : Lane) (g : Group) (rest : List VWord) : Dev :=
  d.onGroup g (fun x => { x with flight := x.flight.set l rest })

theorem Dev.landed_group (d : Dev) (l : Lane) (g : Group) (rest : List VWord) :
    (d.landed l g rest).group g = { d.group g with flight := (d.group g).flight.set l rest } := Dev.onGroup_group d (by exact fun _ => rfl)
theorem Dev.landed_group_ne (d : Dev) (l : Lane) {g h : Group} (rest : List VWord) (other : h ≠ g) :
    (d.landed l g rest).group h = d.group h := Dev.onGroup_group_ne d (by exact fun _ => rfl) other

variable (flies : (s.dev.group g).flight.get l = w :: rest)
  (early : ∀ q, (s.dev.group g).first (s.dev.liveFor g) w.tag = some q →
    s.dev.gt ≤ (s.dev.group g).forced (s.dev.liveFor g) w.tag q.at_)
include flies early

/-- A word that its queue has room for, while no verdict on its TAG is due. -/
theorem votedWordArrival_fits (fits : queueFits g ((s.dev.group g).queue.get l) w = true) {P : Dev → Prop}
    (result : P (groupDue (enqueue (s.dev.landed l g rest) l g w p cell) g)) : Does (.votedWordArrival l g p cell) s P := by
  refine does_of_onDev exec_votedWordArrival ?_
  simp only [flies]
  cases first : (s.dev.group g).first (s.dev.liveFor g) w.tag with
  | none => simp only [fits, Bool.not_true, Bool.false_eq_true, if_false]; exact result
  | some q => simp only [if_neg (not_lt.2 (early q first)), fits, Bool.not_true, Bool.false_eq_true, if_false]; exact result
theorem votedWordArrival_full (full : queueFits g ((s.dev.group g).queue.get l) w = false) :
    exec (.votedWordArrival l g p cell) s = .next s := by
  refine next_of_onDev exec_votedWordArrival ?_
  simp only [flies]
  cases first : (s.dev.group g).first (s.dev.liveFor g) w.tag with
  | none => simp only [full, Bool.not_false, if_true]
  | some q => simp only [if_neg (not_lt.2 (early q first)), full, Bool.not_false, if_true]

end

section
variable {d : Dev} {l : Lane} {g : Group} {w : VWord} {p : Bool} {cell : Option Lane}

/-- A word whose TAG was decided is counted late (R99). -/
theorem enqueue_late (decided : ∃ e ∈ (d.group g).decided, e.1 = w.tag) : enqueue d l g w p cell = d.count (cVote (groupKind g) 3) 1 := by
  obtain ⟨e, there, tag⟩ := decided
  exact if_pos (List.any_eq_true.2 ⟨e, there, by rw [tag, beq_self_eq_true]⟩)

/-- The device with a good word that arrives now behind the lane's others. -/
def Dev.queued (d : Dev) (l : Lane) (g : Group) (w : VWord) : Dev :=
  d.onGroup g (fun x => { x with queue := x.queue.set l (x.queue.get l ++ [⟨w, true, d.gt, false⟩]) })
/-- The device with the lane's words of a TAG marked as spoilt by a second one (R96). -/
def Dev.spoilt (d : Dev) (l : Lane) (g : Group) (tag : BitVec 8) : Dev :=
  (d.onVot (fun v => { v with dups := v.dups + 1 })).onGroup g (fun x =>
    { x with queue := x.queue.set l ((x.queue.get l).map (fun q => if q.w.tag == tag then { q with dup := true } else q)) })

theorem Dev.queued_group (d : Dev) (l : Lane) (g : Group) (w : VWord) : (d.queued l g w).group g =
    { d.group g with queue := (d.group g).queue.set l ((d.group g).queue.get l ++ [⟨w, true, d.gt, false⟩]) } :=
  Dev.onGroup_group d (by exact fun _ => rfl)
theorem Dev.queued_group_ne (d : Dev) (l : Lane) {g h : Group} (w : VWord) (other : h ≠ g) : (d.queued l g w).group h = d.group h :=
  Dev.onGroup_group_ne d (by exact fun _ => rfl) other
theorem Dev.spoilt_group (d : Dev) (l : Lane) (g : Group) (tag : BitVec 8) : (d.spoilt l g tag).group g =
    { d.group g with
      queue := (d.group g).queue.set l (((d.group g).queue.get l).map (fun q => if q.w.tag == tag then { q with dup := true } else q)) } :=
  Dev.onGroup_group _ (by exact fun _ => rfl)
theorem Dev.onGroup_dups (d : Dev) (g : Group) (f : GroupSt → GroupSt) : (d.onGroup g f).vot.dups = d.vot.dups := by
  unfold Dev.onGroup Dev.onVot
  dsimp only
  split_ifs <;> rfl
theorem Dev.spoilt_dups (d : Dev) (l : Lane) (g : Group) (tag : BitVec 8) : (d.spoilt l g tag).vot.dups = d.vot.dups + 1 :=
  Dev.onGroup_dups ..
theorem Dev.onGroup_outSeen (d : Dev) (g : Group) (f : GroupSt → GroupSt) : (d.onGroup g f).vot.outSeen = d.vot.outSeen := by
  unfold Dev.onGroup Dev.onVot
  dsimp only
  split_ifs <;> rfl

variable (undecided : ∀ e ∈ (d.group g).decided, e.1 ≠ w.tag)
include undecided

theorem notDecided : ((d.group g).decided.any (fun e => e.1 == w.tag)) = false :=
  List.any_eq_false.2 fun e there => mt beq_iff_eq.1 (undecided e there)
theorem enqueue_first (fresh : (d.group g).word l w.tag = none) :
    enqueue d l g w true cell = verdictIfDue (d.queued l g w) g w.tag cell := by
  simp only [enqueue, notDecided undecided, Bool.false_eq_true, if_false, fresh, if_true]
  rfl
theorem enqueue_second {q : QWord} (second : (d.group g).word l w.tag = some q) : enqueue d l g w p cell = d.spoilt l g w.tag := by
  simp only [enqueue, notDecided undecided, Bool.false_eq_true, if_false, second]
  rfl

end

/-! ### Out indications -/

/-- No verdict is due at groups whose queues are empty. -/
theorem foldl_groupDue_empty {d : Dev} : ∀ gs : List GroupSt, (∀ x ∈ gs, ∀ l : Lane, (d.group x.g).queue.get l = []) →
    gs.foldl (fun d x => groupDue d x.g) d = d
  | [], _ => rfl
  | x :: r, empty => by
    rw [List.foldl_cons, groupDue_empty (empty x List.mem_cons_self)]
    exact foldl_groupDue_empty r fun y there => empty y (List.mem_cons_of_mem _ there)

theorem mem_insertNew {α : Type} [BEq α] [LawfulBEq α] {l : List α} {x y : α} : y ∈ insertNew l x ↔ y ∈ l ∨ y = x := by
  unfold insertNew
  split_ifs with there
  · exact ⟨.inl, fun h => h.elim id fun eq => eq ▸ List.contains_iff_mem.1 there⟩
  · simp

theorem contains_insertNew {α : Type} [BEq α] [LawfulBEq α] (l : List α) (x y : α) :
    (insertNew l x).contains y = (l.contains y || y == x) := by
  rw [Bool.eq_iff_iff, Bool.or_eq_true, List.contains_iff_mem, List.contains_iff_mem, mem_insertNew, beq_iff_eq]

section
variable {d : Dev} {g : Group} {l m : Lane} {v : VoterPlace}

theorem markOut_liveAt (out : d.phase l = .out ∨ d.phase l = .off) (place : groupPlace g = v) : (d.markOut v l).liveAt g l = false := by
  have seen : (d.markOut v l).vot.outSeen.contains (groupPlace g, l) = true := by
    rw [Dev.markOut, Dev.onVot_vot, contains_insertNew, place, beq_self_eq_true, Bool.or_true]
  have phase : (d.markOut v l).phase l = d.phase l := rfl
  rcases out with out | off
  · simp only [Dev.liveAt, phase, out, seen, Bool.not_true, Bool.and_false]
  · simp only [Dev.liveAt, phase, off, seen, Bool.not_true, Bool.and_false]
theorem markOut_liveAt_ne (other : groupPlace g ≠ v ∨ m ≠ l) : (d.markOut v l).liveAt g m = d.liveAt g m := by
  have seen : (d.markOut v l).vot.outSeen.contains (groupPlace g, m) = d.vot.outSeen.contains (groupPlace g, m) := by
    have different : ((groupPlace g, m) == (v, l)) = false := by
      rw [beq_eq_false_iff_ne, Ne, Prod.mk.injEq, not_and_or]
      exact other
    rw [Dev.markOut, Dev.onVot_vot, contains_insertNew, different, Bool.or_false]
  have phase : (d.markOut v l).phase m = d.phase m := rfl
  have named : ((d.markOut v l).group g).named = (d.group g).named := rfl
  simp only [Dev.liveAt, phase, named, seen]

end

/-! ### The words that come first and second -/

section
variable {s : State} {l m : Lane} {g : Group} {p : Bool} {cell : Option Lane} {w : VWord} {rest : List VWord}

theorem first_ne_of_empty {gs : GroupSt} {live : List Lane} {tag : BitVec 8} (empty : ∀ l : Lane, gs.queue.get l = []) (q : QWord) :
    gs.first live tag ≠ some q := by
  rw [first_empty _ empty]
  exact nofun

variable (flies : (s.dev.group g).flight.get l = w :: rest) (undecided : ∀ e ∈ (s.dev.group g).decided, e.1 ≠ w.tag) (other : m ≠ l)
  (live_m : s.dev.liveAt g m = true)
include flies undecided other live_m

/-- The first word of its TAG waits while a live lane's word is missing. -/
theorem votedWordArrival_first (empty : ∀ k : Lane, (s.dev.group g).queue.get k = []) (fits : queueFits g [] w = true)
    (ahead : ∀ lead : Nat, groupLead g = some lead → s.dev.gt + lead ≤ gtAhead s.dev.gt w.launch) :
    Does (.votedWordArrival l g true cell) s (fun d =>
      (d.group g).queue.get l = [⟨w, true, s.dev.gt, false⟩] ∧ (d.group g).flight.get l = rest ∧
      (d.group g).decided = (s.dev.group g).decided ∧ (∀ h : Group, h ≠ g → d.group h = s.dev.group h) ∧ d.lanes = s.dev.lanes ∧
      s.dev.SameOutside d) := by
  have landed := s.dev.landed_group l g rest
  refine votedWordArrival_fits flies (fun q first => absurd first (first_ne_of_empty empty q)) (by rw [empty]; exact fits) ?_
  have fresh : ((s.dev.landed l g rest).group g).word l w.tag = none := by
    rw [landed, GroupSt.word, empty, List.find?_nil]
  rw [enqueue_first (by rw [landed]; exact undecided) fresh]
  generalize new_ : (s.dev.landed l g rest).queued l g w = d
  have group : d.group g = { s.dev.group g with
      flight := (s.dev.group g).flight.set l rest, queue := (s.dev.group g).queue.set l [⟨w, true, s.dev.gt, false⟩] } := by
    rw [← new_, Dev.queued_group, landed, empty]
    rfl
  have gt : d.gt = s.dev.gt := by rw [← new_]; rfl
  have one : (d.group g).Single l ⟨w, true, s.dev.gt, false⟩ := by
    rw [group]
    exact ⟨Tri.get_set .., fun k different => (Tri.get_set_ne _ _ _ _ different).trans (empty k)⟩
  have stillLive : d.liveAt g = s.dev.liveAt g := by
    refine Dev.liveAt_congr (by rw [group]) (by rw [← new_]; rfl) ?_
    rw [← new_]
    exact (Dev.onGroup_outSeen ..).trans (Dev.onGroup_outSeen ..)
  obtain ⟨waits, noneDue⟩ := single_waits one other (by rw [stillLive]; exact live_m) (by rw [gt]; exact le_forced ..) (by
    intro x deadline
    rw [Dev.liveFor, one.deadline, group] at deadline
    obtain ⟨lead, isLead, x_eq⟩ := Option.bind_eq_some_iff.1 deadline
    have := ahead lead (by rw [← isLead]; exact congrArg groupLead (Dev.group_g ..).symm)
    split_ifs at x_eq
    · have := Option.some.inj x_eq
      dsimp only at this
      omega)
  rw [waits, noneDue]
  refine ⟨one.1, ?_, ?_, fun h different => ?_, ?_, ?_⟩
  · rw [group]
    exact Tri.get_set ..
  · rw [group]
  · rw [← new_, Dev.queued_group_ne _ _ _ different, Dev.landed_group_ne _ _ _ different]
  all_goals rw [← new_]
  · rfl
  · exact ⟨rfl, rfl, rfl, rfl, rfl, rfl, rfl, rfl, rfl, rfl⟩

/-- A second word of a TAG spoils the first, which waits on. -/
theorem votedWordArrival_second {q : QWord} (single : (s.dev.group g).Single l q) (tag : q.w.tag = w.tag) (fits : queueFits g [q] w = true)
    (early : s.dev.gt ≤ (s.dev.group g).forced (s.dev.liveFor g) w.tag q.at_)
    (inTime : ∀ x : Nat, (s.dev.group g).deadline (s.dev.liveFor g) w.tag = some x → s.dev.gt ≤ x) :
    Does (.votedWordArrival l g p cell) s (fun d =>
      (d.group g).queue.get l = [{ q with dup := true }] ∧ (d.group g).flight.get l = rest ∧ d.vot.dups = s.dev.vot.dups + 1 ∧
      d.lanes = s.dev.lanes ∧ s.dev.SameOutside d) := by
  have landed := s.dev.landed_group l g rest
  have sole (q' : QWord) (first : (s.dev.group g).first (s.dev.liveFor g) w.tag = some q') : q' = q := by
    have firstEq : (s.dev.group g).first (s.dev.liveFor g) q.w.tag = if s.dev.liveAt g l then some q else none := single.first (s.dev.liveAt g)
    rw [tag, first] at firstEq
    split_ifs at firstEq
    exact Option.some.inj firstEq
  refine votedWordArrival_fits flies (fun q' first => by rw [sole q' first]; exact early) (by rw [single.1]; exact fits) ?_
  have second : ((s.dev.landed l g rest).group g).word l w.tag = some q := by
    rw [landed, ← tag]
    exact single.word
  rw [enqueue_second (by rw [landed]; exact undecided) second]
  generalize new_ : (s.dev.landed l g rest).spoilt l g w.tag = d
  have group : d.group g = { s.dev.group g with flight := (s.dev.group g).flight.set l rest, queue := (s.dev.group g).queue.set l [{ q with dup := true }] } := by
    have marked : ((s.dev.group g).queue.get l).map (fun q => if q.w.tag == w.tag then { q with dup := true } else q) =
        [{ q with dup := true }] := by
      rw [single.1, List.map_cons, tag, beq_self_eq_true, if_pos rfl, List.map_nil]
    rw [← new_, Dev.spoilt_group, landed, marked]
  have gt : d.gt = s.dev.gt := by rw [← new_]; rfl
  have spoilt : (d.group g).Single l { q with dup := true } := by
    rw [group]
    exact ⟨Tri.get_set .., fun k different => (Tri.get_set_ne _ _ _ _ different).trans (single.2 k different)⟩
  have stillLive : d.liveAt g = s.dev.liveAt g := by
    refine Dev.liveAt_congr (by rw [group]) (by rw [← new_]; rfl) ?_
    rw [← new_]
    exact (Dev.onGroup_outSeen ..).trans (Dev.onGroup_outSeen ..)
  have deadline : (d.group g).deadline (d.liveFor g) q.w.tag = (s.dev.group g).deadline (s.dev.liveFor g) q.w.tag := by
    have before := single.deadline (s.dev.liveAt g)
    have after := spoilt.deadline (d.liveAt g)
    rw [stillLive] at after
    have names : (d.group g).g = (s.dev.group g).g := by rw [group]
    rw [names] at after
    rw [Dev.liveFor, stillLive]
    exact after.trans before.symm
  have forced : (d.group g).forced (d.liveFor g) q.w.tag q.at_ = (s.dev.group g).forced (s.dev.liveFor g) q.w.tag q.at_ := by
    rw [GroupSt.forced, deadline, GroupSt.forced]
  obtain ⟨-, noneDue⟩ := single_waits spoilt other (by rw [stillLive]; exact live_m) (by
    rw [gt]
    exact (tag ▸ early).trans_eq forced.symm) (fun x due => by
    rw [gt]
    exact inTime x (tag ▸ deadline.symm.trans due))
  rw [noneDue]
  refine ⟨spoilt.1, ?_, ?_, ?_, ?_⟩
  · rw [group]
    exact Tri.get_set ..
  · rw [← new_, Dev.spoilt_dups, Dev.landed, Dev.onGroup_dups]
  all_goals rw [← new_]
  · rfl
  · exact ⟨rfl, rfl, rfl, rfl, rfl, rfl, rfl, rfl, rfl, rfl⟩

end

/-- Settles O27: a word alone in its queue brings no verdict while a live lane's word is missing. -/
theorem votedWordArrival : Obligations.VotedWordArrival := by
  refine ⟨?_, ?_⟩
  · intro s l g w rest p cell flies old live othersEmpty
    have landed := s.dev.landed_group l g rest
    have allEmpty (empty : old.queue.get l = []) (m : Lane) : old.queue.get m = [] := by
      by_cases same : m = l
      · rw [same, empty]
      · exact othersEmpty m same
    refine ⟨fun empty undecided fits other ahead => ?_, fun empty decided fits => ?_, fun q one tag undecided fits other early inTime => ?_,
      fun none_ full => ?_⟩
    · obtain ⟨m, other, live_m⟩ := other
      exact votedWordArrival_first flies undecided other live_m (allEmpty empty) fits ahead
    · refine votedWordArrival_fits flies (fun q first => absurd first (first_ne_of_empty (allEmpty empty) q)) (by rw [empty]; exact fits) ?_
      rw [enqueue_late (by rw [landed]; exact decided)]
      have group : ((s.dev.landed l g rest).count (cVote (groupKind g) 3) 1).group g = { old with flight := old.flight.set l rest } := landed
      rw [groupDue_empty fun m => by rw [group]; exact allEmpty empty m, group]
      exact ⟨Tri.get_set .., allEmpty empty, Dev.count_grew .., rfl, rfl, rfl, rfl, rfl, rfl, rfl, rfl, rfl, rfl, rfl⟩
    · obtain ⟨m, other, live_m⟩ := other
      exact votedWordArrival_second flies undecided other live_m ⟨one, othersEmpty⟩ tag fits early inTime
    · exact votedWordArrival_full flies (fun q first => by rw [none_] at first; cases first) full
  · intro s l v
    have meaning : exec (.outIndicationArrival l v) s = s.onDev (fun d => if d.phase l == .out || d.phase l == .off then
        ((d.markOut v l).vot.groups.filter (fun g => groupPlace g.g == v)).foldl (fun d g => groupDue d g.g) (d.markOut v l) else d) := rfl
    refine ⟨fun out empty => ?_, fun notOut notOff => ?_⟩
    · refine does_of_onDev meaning ?_
      rw [if_pos (by simpa using out), foldl_groupDue_empty _ fun x there k => ?_]
      · exact ⟨fun g => markOut_liveAt out, rfl, rfl, fun g m => markOut_liveAt_ne, rfl, rfl, rfl, rfl, rfl, rfl, rfl, rfl, rfl, rfl⟩
      · obtain ⟨known, place⟩ := List.mem_filter.1 there
        have same : (s.dev.markOut v l).group x.g = s.dev.group x.g := rfl
        rw [same, empty x known (beq_iff_eq.1 place)]
        cases k <;> rfl
    · exact next_of_onDev meaning (if_neg (by simp [notOut, notOff]))

end Sys2Proof.Machine
end

section
/-! SUPPORT. The verdict (R97, R98): which words agree, what a verdict makes of its group, and what a release or a hold leaves alone. -/

namespace Sys2Proof.Machine
open Sys2Proof

/-! ### Which words agree -/

section
variable {word : Lane → Option VWord} {w : VWord} {x y z : Lane}

theorem mem_lanesAll (l : Lane) : l ∈ lanesAll := by cases l <;> decide
/-- There are three lanes. -/
theorem third_lane {x y z l : Lane} (xy : x ≠ y) (yz : y ≠ z) (xz : x ≠ z) (lz : l ≠ z) : l = x ∨ l = y := by
  have inj {m n : Lane} : laneIdx m = laneIdx n → m = n := by cases m <;> cases n <;> simp [laneIdx]
  have three (m : Lane) : laneIdx m < 3 := by cases m <;> decide
  have xy := mt inj xy
  have yz := mt inj yz
  have xz := mt inj xz
  have lz := mt inj lz
  have := three x
  have := three y
  have := three z
  have := three l
  rcases (by omega : laneIdx l = laneIdx x ∨ laneIdx l = laneIdx y) with same | same
  · exact .inl (inj same)
  · exact .inr (inj same)

/-- A pair of lanes with the word on which they agree. -/
theorem agreeing_eq_some {r : Lane × Lane × VWord} (pair : agreeing word lanesAll = some r) :
    r.1 ≠ r.2.1 ∧ word r.1 = some r.2.2 ∧ word r.2.1 = some r.2.2 := by
  rw [agreeing, List.head?_filterMap] at pair
  obtain ⟨p, listed, agree⟩ := List.exists_of_findSome?_eq_some pair
  have differ : p.1 ≠ p.2 := (by decide : ∀ p ∈ [(Lane.a, Lane.b), (.a, .c), (.b, .c)], p.1 ≠ p.2) p listed
  cases first : word p.1 with
  | none => simp [first] at agree
  | some u =>
    cases second : word p.2 with
    | none => simp [first, second] at agree
    | some v =>
      simp only [first, second, Option.ite_none_right_eq_some, Bool.and_eq_true, beq_iff_eq, Option.some.injEq] at agree
      obtain ⟨⟨-, rfl⟩, rfl⟩ := agree
      exact ⟨differ, first, second⟩
/-- Two lanes with one word are found. -/
theorem agreeing_isSome (xy : x ≠ y) (hx : word x = some w) (hy : word y = some w) : (agreeing word lanesAll).isSome = true := by
  have listed : (x, y) ∈ [(Lane.a, Lane.b), (.a, .c), (.b, .c)] ∨ (y, x) ∈ [(Lane.a, Lane.b), (.a, .c), (.b, .c)] := by
    cases x <;> cases y <;> first | exact absurd rfl xy | decide
  rw [agreeing, List.head?_filterMap, List.findSome?_isSome_iff]
  rcases listed with there | there
  · exact ⟨_, there, by simp [hx, hy, mem_lanesAll]⟩
  · exact ⟨_, there, by simp [hx, hy, mem_lanesAll]⟩
theorem agreeing_none (differ : ∀ (w : VWord) (x y : Lane), x ≠ y → word x = some w → word y ≠ some w) : agreeing word lanesAll = none := by
  cases pair : agreeing word lanesAll with
  | none => rfl
  | some r =>
    obtain ⟨ne, first, second⟩ := agreeing_eq_some pair
    exact absurd second (differ _ _ _ ne first)
/-- Two lanes agree on w and the third does not: the pair found is these two. -/
theorem agreeing_two (xy : x ≠ y) (yz : y ≠ z) (xz : x ≠ z) (hx : word x = some w) (hy : word y = some w) (hz : word z ≠ some w) :
    agreeing word lanesAll = some (x, y, w) ∨ agreeing word lanesAll = some (y, x, w) := by
  obtain ⟨⟨i, j, v⟩, pair⟩ := Option.isSome_iff_exists.1 (agreeing_isSome xy hx hy)
  obtain ⟨ij, hi, hj⟩ := agreeing_eq_some pair
  dsimp only at ij hi hj
  have own (l : Lane) (ne : l ≠ z) : word l = some w := (third_lane xy yz xz ne).elim (· ▸ hx) (· ▸ hy)
  have same : v = w := by
    by_cases iz : i = z
    · exact Option.some.inj (hj.symm.trans (own j (iz ▸ ij.symm)))
    · exact Option.some.inj (hi.symm.trans (own i iz))
  subst same
  rw [pair]
  rcases third_lane xy yz xz (fun eq => hz (eq ▸ hi)) with rfl | rfl <;> rcases third_lane xy yz xz (fun eq => hz (eq ▸ hj)) with rfl | rfl
  · exact absurd rfl ij
  · exact .inl rfl
  · exact .inr rfl
  · exact absurd rfl ij

end

section
variable {gs : GroupSt} {tag : BitVec 8} {w : VWord}

theorem verdictOf_unanimous (all : ∀ l : Lane, countedWord gs tag l = some w) : verdictOf gs tag lanesAll false = .unanimous w := by
  have pair : agreeing (countedWord gs tag) lanesAll = some (.a, .b, w) := by simp [agreeing, all, lanesAll]
  have same : (decide (lanesAll.length = 3) && lanesAll.all (fun l => countedWord gs tag l == some w)) = true := by
    simp [lanesAll, all]
  simp only [verdictOf, Bool.false_eq_true, if_false, pair, same, if_true]
theorem verdictOf_hold (differ : ∀ (w : VWord) (x y : Lane), x ≠ y → countedWord gs tag x = some w → countedWord gs tag y ≠ some w) :
    verdictOf gs tag lanesAll false = .hold := by
  simp only [verdictOf, Bool.false_eq_true, if_false, agreeing_none differ]
/-- Two lanes agree and the third differs with good parity: that one is odd. -/
theorem verdictOf_majority {x y z : Lane} (xy : x ≠ y) (yz : y ≠ z) (xz : x ≠ z) (hx : countedWord gs tag x = some w)
    (hy : countedWord gs tag y = some w) (hz : countedWord gs tag z ≠ some w) (parity : ∀ p : QWord, gs.word z tag = some p → p.ok = true) :
    verdictOf gs tag lanesAll false = .majority w [z] := by
  have differs : (decide (lanesAll.length = 3) && lanesAll.all (fun l => countedWord gs tag l == some w)) = false := by
    rw [Bool.and_eq_false_iff]
    exact .inr (List.all_eq_false.2 ⟨z, mem_lanesAll z, by simpa using hz⟩)
  have odd (i j : Lane) (pair : (i = x ∧ j = y) ∨ (i = y ∧ j = x)) : lanesAll.filter (fun l => l != i && l != j &&
      countedWord gs tag l != some w && !(match gs.word l tag with | some q => !q.ok | none => false)) = [z] := by
    have single : lanesAll.filter (· == z) = [z] := by cases z <;> rfl
    rw [← single]
    refine List.filter_congr fun l _ => ?_
    by_cases lz : l = z
    · subst lz
      have notI : l ≠ i := by rcases pair with ⟨rfl, -⟩ | ⟨rfl, -⟩; exacts [xz.symm, yz.symm]
      have notJ : l ≠ j := by rcases pair with ⟨-, rfl⟩ | ⟨-, rfl⟩; exacts [yz.symm, xz.symm]
      cases own : gs.word l tag with
      | none => simp [notI, notJ, hz]
      | some p => simp [notI, notJ, hz, parity p own]
    · have isPair : l = i ∨ l = j := by
        rcases pair with ⟨rfl, rfl⟩ | ⟨rfl, rfl⟩
        · exact third_lane xy yz xz lz
        · exact (third_lane xy yz xz lz).symm
      rcases isPair with rfl | rfl <;> simp [lz]
  rcases agreeing_two xy yz xz hx hy hz with pair | pair
  · simp only [verdictOf, Bool.false_eq_true, if_false, pair, differs]
    exact congrArg _ (odd x y (.inl ⟨rfl, rfl⟩))
  · simp only [verdictOf, Bool.false_eq_true, if_false, pair, differs]
    exact congrArg _ (odd y x (.inr ⟨rfl, rfl⟩))

end

/-! ### What the steps of a verdict leave alone -/

theorem isProb_of_isLive {d : Dev} {l : Lane} (live : d.isLive l = true) : d.isProb l = false := by
  unfold Dev.isLive at live
  unfold Dev.isProb
  rw [beq_iff_eq.1 live]
  rfl

section
variable {d : Dev} {g : Group} {tag : BitVec 8} {w : VWord}

/-- Without a lane in probation none is judged. -/
theorem foldl_noProbation (idle : ∀ l : Lane, d.isProb l = false) (gs : GroupSt) (ls : List Lane) :
    ls.foldl (fun d l => if d.judges g tag l && probationMiss gs tag w l then probationFail d l else d) d = d := by
  induction ls with
  | nil => rfl
  | cons l r ih =>
    have notJudged : d.judges g tag l = false := by simp only [Dev.judges, idle, Bool.false_and]
    rw [List.foldl_cons, notJudged, Bool.false_and, if_neg Bool.false_ne_true, ih]

/-- The device once a verdict has recorded its TAG. -/
def Dev.ruled (d : Dev) (g : Group) (tag : BitVec 8) (rel : Option VWord) : Dev :=
  d.onGroup g (fun x => { x with
    queue := x.queue.map (fun l => l.filter (fun y => y.w.tag != tag)), decided := x.decided ++ [(tag, d.time.fcCount, rel)] })

theorem Dev.ruled_group (d : Dev) (g : Group) (tag : BitVec 8) (rel : Option VWord) : (d.ruled g tag rel).group g = { d.group g with
    queue := (d.group g).queue.map (fun l => l.filter (fun y => y.w.tag != tag)),
    decided := (d.group g).decided ++ [(tag, d.time.fcCount, rel)] } := Dev.onGroup_group d (by exact fun _ => rfl)
theorem Dev.ruled_group_ne (d : Dev) {g h : Group} (tag : BitVec 8) (rel : Option VWord) (other : h ≠ g) :
    (d.ruled g tag rel).group h = d.group h := Dev.onGroup_group_ne d (by exact fun _ => rfl) other

/-- A release reaches the output stages alone. -/
theorem outputStage_frame (d : Dev) (g : Group) (launch : Nat) (w : VWord) :
    (outputStage d g launch w).vot = d.vot ∧ (outputStage d g launch w).lanes = d.lanes := by
  cases g with
  | edge c =>
    simp only [outputStage]
    split_ifs <;> exact ⟨rfl, rfl⟩
  | payload x =>
    simp only [outputStage]
    split_ifs <;> exact ⟨rfl, rfl⟩
  | gate | safetyA | safetyB | digest | outDigest => exact ⟨rfl, rfl⟩
theorem releaseWord_vot (d : Dev) (g : Group) (launch : Nat) (w : VWord) : (releaseWord d g launch w).vot = d.vot := by
  unfold releaseWord
  split_ifs
  · rfl
  · exact (outputStage_frame ..).1
theorem releaseWord_lanes (d : Dev) (g : Group) (launch : Nat) (w : VWord) : (releaseWord d g launch w).lanes = d.lanes := by
  unfold releaseWord
  split_ifs
  · rfl
  · exact (outputStage_frame ..).2
theorem releaseWord_gate {n launch : Nat} (opened : d.shut (.gate n) = false) : releaseWord d (.gate n) launch w = d.onHb n (fun h =>
    h.release (4 * d.tf) (w.value.getLsbD 2) ⟨8 * launch + w.fine.toNat, w.value.toNat % 4, false⟩) := by
  rw [releaseWord, opened, if_neg Bool.false_ne_true]
  rfl
theorem dropPending_vot (d : Dev) (g : Group) : (dropPending d g).vot = d.vot := by cases g <;> rfl
theorem dropPending_lanes (d : Dev) (g : Group) : (dropPending d g).lanes = d.lanes := by cases g <;> rfl

end

theorem Dev.onGroup_devFault (d : Dev) (g : Group) (f : GroupSt → GroupSt) : (d.onGroup g f).vot.devFault = d.vot.devFault := by
  unfold Dev.onGroup Dev.onVot
  dsimp only
  split_ifs <;> rfl

/-- d' is d once group g was held: the group releases nothing more, and its words and the other groups stay. -/
structure Dev.Held (d : Dev) (g : Group) (d' : Dev) : Prop where
  queue : (d'.group g).queue = (d.group g).queue
  decided : (d'.group g).decided = (d.group g).decided
  others : ∀ h : Group, h ≠ g → d'.group h = d.group h
  lanes : d'.lanes = d.lanes
  fault : d'.vot.devFault = true
  held : canSilence g = true → (d'.group g).held.isSome = true ∨ (d'.group g).silent = true

theorem holdGroup_holds (d : Dev) (g : Group) (tag : BitVec 8) : d.Held g (holdGroup d g tag) := by
  let d1 := d.onVot (fun v => { v with devFault := true })
  have group (h : Group) : d1.group h = d.group h := rfl
  by_cases stays : (!canSilence g || (d1.group g).held.isSome || (d1.group g).silent) = true
  · have eq : holdGroup d g tag = d1 := if_pos stays
    rw [eq]
    refine ⟨rfl, rfl, fun _ _ => rfl, rfl, rfl, fun silences => ?_⟩
    simpa [silences] using stays
  · have eq : holdGroup d g tag = (dropPending d1 g).onGroup g (fun x => { x with held := some tag }) := if_neg stays
    have dropped (h : Group) : (dropPending d1 g).group h = d.group h := Dev.group_congr (by rw [dropPending_vot]; rfl) h
    have own : (holdGroup d g tag).group g = { d.group g with held := some tag } := by
      rw [eq, Dev.onGroup_group _ (by exact fun _ => rfl), dropped]
    refine ⟨?_, ?_, fun h other => ?_, ?_, ?_, fun _ => ?_⟩
    · rw [own]
    · rw [own]
    · rw [eq, Dev.onGroup_group_ne _ (by exact fun _ => rfl) other, dropped]
    · rw [eq]
      exact dropPending_lanes ..
    · rw [eq, Dev.onGroup_devFault, dropPending_vot]
      rfl
    · rw [own]
      exact .inl rfl

/-! ### What a verdict comes to -/

section
variable {d : Dev} {g : Group} {tag : BitVec 8} {t : Nat} {w : VWord} {q : QWord}
  (first : (d.group g).first (d.liveFor g) tag = some q)
  (inTime : ∀ x, (d.group g).deadline (d.liveFor g) tag = some x → t ≤ x)
include first inTime

/-- The device before the probation of lanes is judged, by verdict. -/
theorem runVerdict_eq (v : Verdict) (verdict : verdictOf (d.group g) tag (d.liveFor g) false = v) :
    runVerdict d g tag t none = match v with
      | .late => holdGroup ((d.ruled g tag none).count (cVote (groupKind g) 2) 1) g tag
      | .hold => holdGroup ((d.ruled g tag none).count (cVote (groupKind g) 2) 1) g tag
      | .unanimous w => lanesAll.foldl (fun x p => if x.judges g tag p && probationMiss (d.group g) tag w p then probationFail x p else x)
          (releaseWord ((d.ruled g tag (some w)).count (cVote (groupKind g) 0) 1) g (gtAhead t w.launch) w)
      | .majority w odd => lanesAll.foldl (fun x p => if x.judges g tag p && probationMiss (d.group g) tag w p then probationFail x p else x)
          (odd.foldl (fun d l => (d.takeOut l 9 0 0).onGroup g (fun x => { x with named := insertNew x.named l }))
            (releaseWord ((d.ruled g tag (some w)).count (cVote (groupKind g) 1) 1) g (gtAhead t w.launch) w)) := by
  cases deadline : (d.group g).deadline (d.liveFor g) tag with
  | none => cases v <;> simp only [runVerdict, first, deadline, verdict] <;> rfl
  | some x =>
    have notLate := decide_eq_false (not_lt.2 (inTime x deadline))
    cases v <;> simp only [runVerdict, first, deadline, notLate, verdict] <;> rfl

end

section
variable {d : Dev} {g : Group} {tag : BitVec 8}

theorem Dev.onGroup_dead (d : Dev) (g : Group) (f : GroupSt → GroupSt) : (d.onGroup g f).vot.dead = d.vot.dead := by
  unfold Dev.onGroup Dev.onVot
  dsimp only
  split_ifs <;> rfl
/-- An update that keeps a group's name and its silence silences no unit. -/
theorem Dev.onGroup_unitSilent (d : Dev) (g : Group) {f : GroupSt → GroupSt} (keeps : ∀ x, (f x).g = x.g ∧ (f x).silent = x.silent)
    (u : Nat) : (d.onGroup g f).unitSilent u = d.unitSilent u := by
  unfold Dev.unitSilent Dev.onGroup Dev.onVot
  dsimp only
  split_ifs with known
  · rw [List.any_map]
    refine List.any_congr rfl fun x => ?_
    dsimp only [Function.comp]
    split_ifs
    · rw [(keeps x).1, (keeps x).2]
    · rfl
  · rw [List.any_append, List.any_cons, List.any_nil, (keeps _).2]
    simp [GroupSt.new]
theorem Dev.ruled_shut (rel : Option VWord) : (d.ruled g tag rel).shut g = d.shut g := by
  have group := d.ruled_group g tag rel
  have dead : (d.ruled g tag rel).vot.dead = d.vot.dead := Dev.onGroup_dead ..
  have silent (u : Nat) : (d.ruled g tag rel).unitSilent u = d.unitSilent u := Dev.onGroup_unitSilent d g (by exact fun _ => ⟨rfl, rfl⟩) u
  simp only [Dev.shut, group, dead, silent]

/-- A released gate word waits at its half-bridge, behind and before words that waited there. -/
theorem HbSt.release_evq (h : HbSt) (n : Nat) (ev1 : Bool) (e : Ev) :
    ∃ before after : List Ev, (h.release n ev1 e).evq = before ++ e :: after ∧ ∀ x ∈ before ++ after, x ∈ h.evq := by
  refine ⟨_, _, rfl, fun x there => ?_⟩
  have waited : x ∈ (if h.half.replaces ev1 e.t n then h.evq.filter (!·.rep) else h.evq) :=
    (List.mem_append.1 there).elim (fun m => (List.mem_filter.1 m).1) (fun m => (List.mem_filter.1 m).1)
  split_ifs at waited
  · exact (List.mem_filter.1 waited).1
  · exact waited

/-- All words that wait in a group carry one TAG; its verdict empties the queues. -/
theorem ruled_empty (sole : ∀ (l : Lane) (x : QWord), x ∈ (d.group g).queue.get l → x.w.tag = tag) (rel : Option VWord) (l : Lane) :
    ((d.ruled g tag rel).group g).queue.get l = [] := by
  rw [Dev.ruled_group, Tri.get_map, List.filter_eq_nil_iff]
  intro x there
  rw [sole l x there]
  simp
theorem word_of_empty {gs : GroupSt} {l : Lane} (empty : gs.queue.get l = []) : gs.word l tag = none := by
  rw [GroupSt.word, empty, List.find?_nil]

end

/-! ### The command -/

section
variable {s : State} {g : Group} {tag : Nat} {q : QWord} {c : Instr}

theorem forceVerdict_eq {d : Dev} {tag : BitVec 8} (first : (d.group g).first (d.liveFor g) tag = some q) (cell : Option Lane) :
    forceVerdict d g tag cell = groupDue (runVerdict (d.toGt ((d.group g).forced (d.liveFor g) tag q.at_)) g tag
      ((d.group g).forced (d.liveFor g) tag q.at_) cell) g := by
  simp only [forceVerdict, first]
theorem exec_forcedVerdict (forced : c = .alignmentWindowExpiry g tag none ∨
    (c = .releaseDeadlineExpiry g tag none ∧ (groupLead g).isSome = true)) :
    exec c s = s.onDev (fun d => forceVerdict d g (BitVec.ofNat 8 tag) none) := by
  rcases forced with rfl | ⟨rfl, lead⟩
  · rfl
  · have meaning : exec (.releaseDeadlineExpiry g tag none) s = s.onDev (fun d =>
      if (groupLead g).isNone then d else forceVerdict d g (BitVec.ofNat 8 tag) none) := rfl
    have some_ : (groupLead g).isNone = false := by rw [← Option.not_isSome, lead]; rfl
    rw [meaning, some_]
    rfl
theorem forced_le {gs : GroupSt} {live : List Lane} {tag : BitVec 8} {t x : Nat} (deadline : gs.deadline live tag = some x) (le : t ≤ x) :
    gs.forced live tag t ≤ x := by
  rw [GroupSt.forced, deadline]
  exact max_le le (min_le_right _ _)

/-- A verdict that is forced before its deadline, on a group whose words all carry its TAG, ends with what `runVerdict` leaves, when that
leaves the queues empty. -/
theorem does_of_forced {P : Dev → Prop} {d : Dev} (meaning : exec c s = s.onDev (fun d => forceVerdict d g (BitVec.ofNat 8 tag) none))
    (first : (s.dev.group g).first (s.dev.liveFor g) (BitVec.ofNat 8 tag) = some q)
    (runs : runVerdict (s.dev.toGt ((s.dev.group g).forced (s.dev.liveFor g) (BitVec.ofNat 8 tag) q.at_)) g (BitVec.ofNat 8 tag)
      ((s.dev.group g).forced (s.dev.liveFor g) (BitVec.ofNat 8 tag) q.at_) none = d)
    (empty : ∀ l : Lane, (d.group g).queue.get l = []) (result : P d) : Does c s P := by
  refine does_of_onDev meaning ?_
  rw [forceVerdict_eq first, runs, groupDue_empty empty]
  exact result

end

/-- Settles O28: the three outcomes of R98, each followed through `runVerdict_eq`. -/
theorem verdict : Obligations.Verdict := by
  intro s g tag q c old t at_ word fc done cmd first inTime sole live
  have meaning := exec_forcedVerdict (s := s) cmd
  have liveAll : s.dev.liveFor g = lanesAll := List.filter_eq_self.2 fun l _ => (live l).2
  have first : (s.dev.group g).first (s.dev.liveFor g) t = some q := by rw [liveAll]; exact first
  have inTime : ∀ x, (s.dev.group g).deadline (s.dev.liveFor g) t = some x →
      (s.dev.group g).forced (s.dev.liveFor g) t q.at_ ≤ x := fun x deadline =>
    forced_le deadline (inTime x (by rw [liveAll] at deadline; exact deadline))
  have at_eq : (s.dev.group g).forced (s.dev.liveFor g) t q.at_ = at_ := by rw [liveAll]
  let d1 := s.dev.toGt ((s.dev.group g).forced (s.dev.liveFor g) t q.at_)
  have runs {v : Verdict} (verdict : verdictOf old t lanesAll false = v) := runVerdict_eq (d := d1) first inTime v
    (by rw [show d1.liveFor g = lanesAll from liveAll]; exact verdict)
  have noProb {d : Dev} (lanes : d.lanes = s.dev.lanes) (l : Lane) : d.isProb l = false := by
    refine isProb_of_isLive ?_
    rw [Dev.isLive, Dev.phase, Dev.lane, lanes]
    exact (live l).1
  have fcCount : d1.time.fcCount = fc := TimeSt.toGt_fcCount ..
  have ruled {rel : Option VWord} {d : Dev} (queue : (d.group g).queue = ((d1.ruled g t rel).group g).queue)
      (decided : (d.group g).decided = ((d1.ruled g t rel).group g).decided) :
      (∀ l : Lane, (d.group g).queue.get l = []) ∧ (t, fc, rel) ∈ (d.group g).decided := by
    refine ⟨fun l => ?_, ?_⟩
    · rw [queue]
      exact ruled_empty (d := d1) sole rel l
    · rw [decided, Dev.ruled_group, fcCount]
      exact List.mem_append_right _ (List.mem_singleton.2 rfl)
  refine ⟨fun w all => ?_, fun w x y z xy yz xz hx hy hz parity => ?_, fun differ => ?_⟩
  · have run := runs (verdictOf_unanimous all)
    dsimp only at run
    generalize shown : (d1.ruled g t (some w)).count (cVote (groupKind g) 0) 1 = d2 at run
    have vot : d2.vot = (d1.ruled g t (some w)).vot := by rw [← shown]; rfl
    have shut : d2.shut g = s.dev.shut g := by
      rw [← shown]
      exact Dev.ruled_shut (d := d1) (tag := t) (some w)
    have lanes2 : d2.lanes = s.dev.lanes := by rw [← shown]; rfl
    have gd2 : d2.gd = s.dev.gd ∧ d2.net = s.dev.net ∧ d2.safe = s.dev.safe := by rw [← shown]; exact ⟨rfl, rfl, rfl⟩
    rw [at_eq] at run
    generalize released : releaseWord d2 g (gtAhead at_ w.launch) w = d3 at run
    have lanes : d3.lanes = s.dev.lanes := by rw [← released, releaseWord_lanes, lanes2]
    have groups (h : Group) : d3.group h = (d1.ruled g t (some w)).group h :=
      Dev.group_congr (by rw [← released, releaseWord_vot, vot]) h
    obtain ⟨empty, decided⟩ := ruled (congrArg _ (groups g)) (congrArg _ (groups g))
    rw [foldl_noProbation (noProb lanes), ← at_eq] at run
    refine does_of_forced meaning first run empty ⟨⟨fun l => word_of_empty (empty l), decided, fun h other => ?_⟩, lanes, ?_,
      fun closed => ?_⟩
    · rw [groups, Dev.ruled_group_ne _ _ _ other]
      rfl
    · rintro n rfl there opened
      rw [← released, releaseWord_gate (shut.trans opened), Dev.hb, Dev.onHb, Dev.onGd_gd, modAt_getD (by rw [gd2.1]; exact there), gd2.1]
      exact HbSt.release_evq ..
    · rw [← released, releaseWord, if_pos (shut.trans closed)]
      exact gd2
  · have run := runs (verdictOf_majority xy yz xz hx hy hz parity)
    simp only [List.foldl_cons, List.foldl_nil] at run
    generalize shown : releaseWord ((d1.ruled g t (some w)).count (cVote (groupKind g) 1) 1) g _ w = d2 at run
    have vot : d2.vot = (d1.ruled g t (some w)).vot := by
      rw [← shown, releaseWord_vot]
      rfl
    have lanes : d2.lanes = s.dev.lanes := by
      rw [← shown, releaseWord_lanes]
      rfl
    have lane (l : Lane) : d2.lane l = s.dev.lane l := by rw [Dev.lane, lanes, ← Dev.lane]
    have runs : d2.runs z = true := by rw [Dev.runs_congr (d := s.dev) (by rw [lane]), Dev.runs, (live z).1, Bool.true_or]
    have out := Dev.takeOut_lane d2 z 9 0 0 runs
    have others (l : Lane) (other : l ≠ z) := (Dev.takeOut_lane_ne d2 z l 9 0 0 other).trans (lane l)
    generalize named : (d2.takeOut z 9 0 0).onGroup g (fun x => { x with named := insertNew x.named z }) = d3 at run
    have same (l : Lane) : d3.lane l = (d2.takeOut z 9 0 0).lane l := by rw [← named]; rfl
    have group : d3.group g = { (d2.takeOut z 9 0 0).group g with named := insertNew ((d2.takeOut z 9 0 0).group g).named z } := by
      rw [← named]
      exact Dev.onGroup_group _ (by exact fun _ => rfl)
    obtain ⟨empty, decided⟩ := ruled (rel := some w) (d := d3)
      (by rw [group, ← Dev.group_congr (congrArg VotSt.groups vot) g]; exact Dev.takeOut_group (p := GroupSt.queue) (fun _ _ => rfl) ..)
      (by rw [group, ← Dev.group_congr (congrArg VotSt.groups vot) g]; exact Dev.takeOut_group (p := GroupSt.decided) (fun _ _ => rfl) ..)
    have idle (l : Lane) : d3.isProb l = false := by
      rw [Dev.isProb, Dev.phase, same]
      by_cases lz : l = z
      · rw [lz, out]
        rfl
      · rw [others l lz]
        exact isProb_of_isLive (live l).1
    rw [foldl_noProbation idle] at run
    refine does_of_forced meaning first run empty ⟨decided, ?_, ?_, ?_, ?_⟩
    · rw [Dev.phase, same, out]
      rfl
    · rw [same, out]
      rfl
    · rw [same, others x xz]
    · rw [same, others y yz]
  · have run := runs (verdictOf_hold differ)
    dsimp only at run
    generalize shown : (d1.ruled g t none).count (cVote (groupKind g) 2) 1 = d2 at run
    have group (h : Group) : d2.group h = (d1.ruled g t none).group h := by rw [← shown]; rfl
    have held := holdGroup_holds d2 g t
    obtain ⟨empty, decided⟩ := ruled (rel := none) (held.queue.trans (congrArg _ (group g))) (held.decided.trans (congrArg _ (group g)))
    refine does_of_forced meaning first run empty ⟨⟨fun l => word_of_empty (empty l), decided, fun h other => ?_⟩, ?_, held.fault, held.held⟩
    · rw [held.others h other, group, Dev.ruled_group_ne _ _ _ other]
      rfl
    · rw [held.lanes, ← shown]
      rfl

end Sys2Proof.Machine
end

section
/-! SUPPORT. The gate drive (R219, R220, R224): what an event and a turn-on make of their half-bridge. -/

namespace Sys2Proof.Machine
open Sys2Proof

/-! ### A half-bridge that becomes another -/

/-- From d to d' half-bridge n becomes x; the other half-bridges, the lanes and voters, the links, the network and the safety I/O stay. -/
structure Dev.HbBecomes (d : Dev) (n : Nat) (x : HbSt) (d' : Dev) : Prop where
  hb : d'.hb n = x
  lanes : d'.lanes = d.lanes
  vot : d'.vot = d.vot
  edge : d'.edge = d.edge
  net : d'.net = d.net
  safe : d'.safe = d.safe
  others : ∀ k : Nat, k ≠ n → d'.hb k = d.hb k
  length : d'.gd.hb.length = d.gd.hb.length

namespace Dev.HbBecomes
variable {d d' : Dev} {n : Nat} {x : HbSt} (h : d.HbBecomes n x d')

theorem refl (d : Dev) (n : Nat) : d.HbBecomes n (d.hb n) d := ⟨rfl, rfl, rfl, rfl, rfl, rfl, fun _ _ => rfl, rfl⟩

include h

theorem onTime (f : TimeSt → TimeSt) : d.HbBecomes n x (d'.onTime f) := ⟨h.hb, h.lanes, h.vot, h.edge, h.net, h.safe, h.others, h.length⟩
theorem toGt (t : Nat) : d.HbBecomes n x (d'.toGt t) := h.onTime _
theorem toRaw (t : Nat) : d.HbBecomes n x (d'.toRaw t) := h.onTime _
theorem putHost (y : HostSt) : d.HbBecomes n x { d' with host := y } := ⟨h.hb, h.lanes, h.vot, h.edge, h.net, h.safe, h.others, h.length⟩
theorem count (a k : Nat) : d.HbBecomes n x (d'.count a k) := h.putHost _
theorem iteSelf {p : Prop} [Decidable p] {e : Dev} (h' : d.HbBecomes n x e) : d.HbBecomes n x (if p then d' else e) := by
  split_ifs
  · exact h
  · exact h'
theorem onHb (there : n < d.gd.hb.length) (f : HbSt → HbSt) : d.HbBecomes n (f x) (d'.onHb n f) := by
  refine ⟨?_, h.lanes, h.vot, h.edge, h.net, h.safe, fun k other => ?_, ?_⟩
  · rw [Dev.hb, Dev.onHb, Dev.onGd_gd, modAt_getD (h.length.symm ▸ there), ← Dev.hb, h.hb]
  · rw [Dev.hb, Dev.onHb, Dev.onGd_gd, modAt_getD_ne _ _ _ other, ← Dev.hb, h.others k other]
  · rw [Dev.onHb, Dev.onGd_gd, modAt, List.length_modify, h.length]
/-- The same with the new half-bridge named apart. -/
theorem onHb_eq (there : n < d.gd.hb.length) {y : HbSt} {f : HbSt → HbSt} (eq : f x = y) : d.HbBecomes n y (d'.onHb n f) :=
  eq ▸ h.onHb there f

end Dev.HbBecomes

/-! ### The switches of a half-bridge -/

section
variable (h : HbSt) (sd : Side) (f : Switch → Switch)

@[simp] theorem HbSt.onSw_sw : (h.onSw sd f).sw sd = f (h.sw sd) := by cases sd <;> rfl
@[simp] theorem HbSt.onSw_sw_other : (h.onSw (otherSide sd) f).sw sd = h.sw sd := by cases sd <;> rfl
@[simp] theorem HbSt.onSw_other_sw : (h.onSw sd f).sw (otherSide sd) = h.sw (otherSide sd) := by cases sd <;> rfl
@[simp] theorem HbSt.onSw_pend : (h.onSw sd f).pend = h.pend := by cases sd <;> rfl

end

@[simp] theorem Switch.turnOff_on (w : Switch) (t : Nat) : (w.turnOff t).on = false := by
  unfold Switch.turnOff
  cases on : w.on <;> simp [on]
theorem Switch.turnOff_offAt (w : Switch) (t : Nat) : (w.turnOff t).offAt = if w.on then t else w.offAt := by
  unfold Switch.turnOff
  cases on : w.on <;> simp

/-! ### A voted event -/

section
variable {h : HbSt} {t dt leg : Nat}

/-- Without a side to turn on, both switches are off and none waits. -/
theorem HbSt.event_none {free : Bool} (none_ : free = false ∨ (leg ≠ 1 ∧ leg ≠ 2)) :
    h.event t dt leg free = { h with pend := none, hold := false, dt := dt, hi := h.hi.turnOff t, lo := h.lo.turnOff t } := by
  have want : (if !free then none else if leg = 1 then some Side.low else if leg = 2 then some Side.high else none) = none := by
    rcases none_ with held | ⟨notLow, notHigh⟩
    · rw [held]; rfl
    · rw [if_neg notLow, if_neg notHigh, ite_self]
  simp only [HbSt.event, want]
  rfl
/-- An event for the low switch. -/
theorem HbSt.event_low : h.event t dt 1 true = { h with
    hold := false, dt := dt, hi := h.hi.turnOff t,
    pend := if h.lo.on || !h.lo.latch.isEmpty then none else some (.low, max t ((if h.hi.on then t else h.hi.offAt) + dt)) } := by
  rw [← Switch.turnOff_offAt]
  cases stays : (h.lo.on || !h.lo.latch.isEmpty) <;> simp [HbSt.event, HbSt.sw, otherSide, stays]
theorem HbSt.event_high : h.event t dt 2 true = { h with
    hold := false, dt := dt, lo := h.lo.turnOff t,
    pend := if h.hi.on || !h.hi.latch.isEmpty then none else some (.high, max t ((if h.lo.on then t else h.lo.offAt) + dt)) } := by
  rw [← Switch.turnOff_offAt]
  cases stays : (h.hi.on || !h.hi.latch.isEmpty) <;> simp [HbSt.event, HbSt.sw, otherSide, stays]

theorem HbSt.event_kinds (leg : Nat) (free : Bool) :
    (free = false ∨ (leg ≠ 1 ∧ leg ≠ 2)) ∨ (free = true ∧ leg = 1) ∨ (free = true ∧ leg = 2) := by
  cases free with
  | false => exact .inl (.inl rfl)
  | true =>
    by_cases low : leg = 1
    · exact .inr (.inl ⟨rfl, low⟩)
    · by_cases high : leg = 2
      · exact .inr (.inr ⟨rfl, high⟩)
      · exact .inl (.inr ⟨low, high⟩)
theorem HbSt.event_evq (h : HbSt) (t dt leg : Nat) (free : Bool) : (h.event t dt leg free).evq = h.evq := by
  rcases HbSt.event_kinds leg free with none_ | ⟨rfl, rfl⟩ | ⟨rfl, rfl⟩
  · rw [HbSt.event_none none_]
  · rw [HbSt.event_low]
  · rw [HbSt.event_high]
/-- No event leaves both switches on. -/
theorem HbSt.event_notBoth (h : HbSt) (t dt leg : Nat) (free : Bool) :
    ((h.event t dt leg free).hi.on && (h.event t dt leg free).lo.on) = false := by
  rcases HbSt.event_kinds leg free with none_ | ⟨rfl, rfl⟩ | ⟨rfl, rfl⟩
  · simp [HbSt.event_none none_]
  · simp [HbSt.event_low]
  · simp [HbSt.event_high]

end

/-! ### The commands -/

section
variable {s : State} {hb : Nat} (there : hb < s.dev.gd.hb.length)

theorem exec_gateEventExecution : exec (.gateEventExecution hb) s = s.onDev (fun d =>
    match (d.hb hb).evq with
    | [] => d
    | e :: rest =>
      match d.realised e.t with
      | none => d.onHb hb (fun h => { h with evq := rest })
      | some r =>
        let d := d.toRaw r
        let u := unitOfHb hb
        let du := if u = 11 then 8 else u
        let free := d.isActive && d.gdUp hb
        let d := if free && (e.leg = 1 || e.leg = 2) && d.gd.diag.any (fun r => r.unit == du) then diagAbort d du else d
        d.onHb hb (fun h => { h with evq := rest }.event (r / 2 ^ 29) (d.deadTimeAt hb (r / 2 ^ 29)) e.leg free)) := rfl

section
variable {e : Ev} {rest : List Ev} (queue : (s.dev.hb hb).evq = e :: rest)
include there queue

theorem gateEvent_lost (lost : s.dev.realised e.t = none) :
    Does (.gateEventExecution hb) s (s.dev.HbBecomes hb { s.dev.hb hb with evq := rest }) := by
  refine does_of_onDev exec_gateEventExecution ?_
  simp only [queue, lost]
  exact Dev.HbBecomes.onHb_eq (x := s.dev.hb hb) (.refl ..) there rfl
/-- An event that is realised while no diagnostics run. -/
theorem gateEvent_realised (quiet : s.dev.gd.diag = []) {r : Nat} (realised : s.dev.realised e.t = some r) :
    Does (.gateEventExecution hb) s (s.dev.HbBecomes hb ({ s.dev.hb hb with evq := rest }.event (r / 2 ^ 29)
      (s.dev.deadTimeAt hb (r / 2 ^ 29)) e.leg (s.dev.isActive && s.dev.gdUp hb))) := by
  have noDiag (f : DiagRun → Bool) : (s.dev.toRaw r).gd.diag.any f = false := by
    rw [show (s.dev.toRaw r).gd = s.dev.gd from rfl, quiet, List.any_nil]
  refine does_of_onDev exec_gateEventExecution ?_
  simp only [queue, realised, noDiag, Bool.and_false, Bool.false_eq_true, if_false]
  exact Dev.HbBecomes.onHb_eq (x := s.dev.hb hb) ((Dev.HbBecomes.refl ..).toRaw r) there rfl

end

/-- What SWITCH_TURN_ON does once GT has come to the pending turn-on of side sd at fine time t. -/
def turnOnAt (hb vgs : Nat) (sd : Side) (t : Nat) (d : Dev) : Dev :=
  let h := d.hb hb
  if !(h.sw sd).latch.isEmpty || !d.gdUp hb then d.onHb hb (fun h => { h with pend := none, hold := false })
  else if (h.hold || decide (2000 < vgs)) && decide (h.stuckAt sd ≤ d.fineNow) then gateStuck d hb sd d.fineNow
  else if 2000 < vgs then d.onHb hb (fun h => { h with hold := true })
  else if sd == .high && h.bsLow then
    (if h.bsUv then d else d.count (cHb hb 1) 1).onHb hb (fun h => { h with pend := none, hold := false, bsUv := true, bsSeen := true })
  else d.onHb hb (fun h => { h with pend := none, hold := false }.onSw sd (fun w =>
    { w with on := true, onAt := max t d.fineNow, vth := (d.dieInt 0x074 (2 * hb + sideIdx sd)).toNat,
             blank := (d.dieInt 0x075 (2 * hb + sideIdx sd)).toNat, armed := false, blanked := false, soft := false }))

section
variable {sd : Side} {t vgs : Nat} (pends : (s.dev.hb hb).pend = some (sd, t))
include pends

theorem exec_switchTurnOn : exec (.switchTurnOn hb vgs) s =
    .next { s with dev := turnOnAt hb vgs sd t (s.dev.toGt (ceilDiv t 8)) } := by
  have meaning : exec (.switchTurnOn hb vgs) s = s.onDev (fun d =>
      match (d.hb hb).pend with
      | none => d
      | some (sd, t) => turnOnAt hb vgs sd t (d.toGt (ceilDiv t 8))) := rfl
  simp only [meaning, State.onDev, pends]
theorem exec_gateStuck : exec (.gateStuck hb) s = .next { s with
    dev := gateStuck (s.dev.toGt (ceilDiv ((s.dev.hb hb).stuckAt sd) 8)) hb sd ((s.dev.hb hb).stuckAt sd) } := by
  have meaning : exec (.gateStuck hb) s = s.onDev (fun d =>
      match (d.hb hb).pend with
      | none => d
      | some (sd, _) => gateStuck (d.toGt (ceilDiv ((d.hb hb).stuckAt sd) 8)) hb sd ((d.hb hb).stuckAt sd)) := rfl
  simp only [meaning, State.onDev, pends]

end

end

/-! ### A turn-on -/

/-- The opposite gate has fallen in time. -/
theorem turnOnAt_fallen {now vgs : Nat} {sd : Side} {h : HbSt} (fallen : vgs ≤ 2000) (inTime : h.hold = false ∨ now < h.stuckAt sd) :
    ¬((h.hold || decide (2000 < vgs)) && decide (h.stuckAt sd ≤ now)) = true ∧ ¬2000 < vgs := by
  refine ⟨?_, not_lt.2 fallen⟩
  rw [decide_eq_false (not_lt.2 fallen), Bool.or_false, Bool.and_eq_true, decide_eq_true_iff]
  rintro ⟨holds, late⟩
  rcases inTime with free | early
  · exact Bool.false_ne_true (free.symm.trans holds)
  · omega

section
variable {b d : Dev} {hb vgs t : Nat} {sd : Side} {h : HbSt} (from_ : b.HbBecomes hb h d)
include from_

/-- A stuck opposite gate: the turn-on is cancelled and the opposite switch latched off. -/
theorem gateStuck_becomes (there : hb < b.gd.hb.length) (now : Nat) : b.HbBecomes hb
    ({ h with pend := none, hold := false }.onSw (otherSide sd) (fun w => w.latchOff now .gateStuck)) (gateStuck d hb sd now) :=
  Dev.HbBecomes.onHb_eq ((from_.count ..).count ..) there rfl
theorem turnOnAt_refused (there : hb < b.gd.hb.length) (no : ¬((h.sw sd).latch = [] ∧ d.gdUp hb = true)) :
    b.HbBecomes hb { h with pend := none, hold := false } (turnOnAt hb vgs sd t d) := by
  have refused : (!((d.hb hb).sw sd).latch.isEmpty || !d.gdUp hb) = true := by
    rw [from_.hb]
    by_cases up : d.gdUp hb = true
    · have latched : (h.sw sd).latch ≠ [] := fun empty => no ⟨empty, up⟩
      simp [latched]
    · simp [up]
  rw [turnOnAt, if_pos refused]
  exact Dev.HbBecomes.onHb_eq from_ there rfl

variable (can : (h.sw sd).latch = [] ∧ d.gdUp hb = true)
include can

/-- Past the latches and the supply. -/
theorem turnOnAt_can : turnOnAt hb vgs sd t d =
    if (h.hold || decide (2000 < vgs)) && decide (h.stuckAt sd ≤ d.fineNow) then gateStuck d hb sd d.fineNow
    else if 2000 < vgs then d.onHb hb (fun h => { h with hold := true })
    else if sd == .high && h.bsLow then
      (if h.bsUv then d else d.count (cHb hb 1) 1).onHb hb (fun h => { h with pend := none, hold := false, bsUv := true, bsSeen := true })
    else d.onHb hb (fun h => { h with pend := none, hold := false }.onSw sd (fun w =>
      { w with on := true, onAt := max t d.fineNow, vth := (d.dieInt 0x074 (2 * hb + sideIdx sd)).toNat,
               blank := (d.dieInt 0x075 (2 * hb + sideIdx sd)).toNat, armed := false, blanked := false, soft := false })) := by
  have passes : (!((d.hb hb).sw sd).latch.isEmpty || !d.gdUp hb) = false := by
    rw [from_.hb, can.1, can.2]
    rfl
  rw [turnOnAt, passes, if_neg Bool.false_ne_true, from_.hb]
theorem turnOnAt_stuck (waits : h.hold = true ∨ 2000 < vgs) (late : h.stuckAt sd ≤ d.fineNow) :
    turnOnAt hb vgs sd t d = gateStuck d hb sd d.fineNow := by
  rw [turnOnAt_can from_ can, if_pos (by simpa [late] using waits)]
theorem turnOnAt_holds (there : hb < b.gd.hb.length) (high : 2000 < vgs) (early : d.fineNow < h.stuckAt sd) :
    b.HbBecomes hb { h with hold := true } (turnOnAt hb vgs sd t d) := by
  rw [turnOnAt_can from_ can, if_neg (by simp [early]), if_pos high]
  exact Dev.HbBecomes.onHb_eq from_ there rfl

theorem turnOnAt_noBootstrap (there : hb < b.gd.hb.length) (fallen : vgs ≤ 2000) (inTime : h.hold = false ∨ d.fineNow < h.stuckAt sd)
    (high : sd = .high) (low : h.bsLow = true) :
    b.HbBecomes hb { h with pend := none, hold := false, bsUv := true, bsSeen := true } (turnOnAt hb vgs sd t d) := by
  obtain ⟨notStuck, notHigh⟩ := turnOnAt_fallen fallen inTime
  rw [turnOnAt_can from_ can, if_neg notStuck, if_neg notHigh, if_pos (by simp [high, low])]
  exact Dev.HbBecomes.onHb_eq (from_.iteSelf (from_.count ..)) there rfl
theorem turnOnAt_on (there : hb < b.gd.hb.length) (fallen : vgs ≤ 2000) (inTime : h.hold = false ∨ d.fineNow < h.stuckAt sd)
    (ready : sd = .low ∨ h.bsLow = false) :
    b.HbBecomes hb ({ h with pend := none, hold := false }.onSw sd (fun w =>
      { w with on := true, onAt := max t d.fineNow, vth := (d.dieInt 0x074 (2 * hb + sideIdx sd)).toNat,
               blank := (d.dieInt 0x075 (2 * hb + sideIdx sd)).toNat, armed := false, blanked := false, soft := false }))
      (turnOnAt hb vgs sd t d) := by
  obtain ⟨notStuck, notHigh⟩ := turnOnAt_fallen fallen inTime
  have bootstrapped : ¬(sd == .high && h.bsLow) = true := by
    rcases ready with rfl | low
    · exact Bool.false_ne_true
    · rw [low, Bool.and_false]
      exact Bool.false_ne_true
  rw [turnOnAt_can from_ can, if_neg notStuck, if_neg notHigh, if_neg bootstrapped]
  exact Dev.HbBecomes.onHb_eq from_ there rfl

end

/-- What the clauses call the frame of a half-bridge. -/
theorem Dev.HbBecomes.frame {d d' : Dev} {n : Nat} {x : HbSt} (h : d.HbBecomes n x d') : d'.lanes = d.lanes ∧ d'.vot = d.vot ∧
    d'.edge = d.edge ∧ d'.net = d.net ∧ d'.safe = d.safe ∧ (∀ k : Nat, k ≠ n → d'.hb k = d.hb k) :=
  ⟨h.lanes, h.vot, h.edge, h.net, h.safe, h.others⟩

theorem Switch.latchOff_latch (w : Switch) (t : Nat) (c : LatchCause) : c ∈ (w.latchOff t c).latch := mem_insertNew.2 (.inr rfl)

/-- Settles O29: an event is `HbSt.event`, a turn-on one of the five outcomes of `turnOnAt`. -/
theorem gateEvents : Obligations.GateEvents := by
  intro s hb there h frame free
  refine ⟨fun e rest queue quiet => ⟨fun lost => ?_, fun r realised => ?_⟩, ?_⟩
  · exact (gateEvent_lost there queue lost).imp fun d b => ⟨b.hb, b.frame⟩
  · refine (gateEvent_realised there queue quiet realised).imp fun d b => ?_
    intro t dt
    rw [b.hb]
    refine ⟨HbSt.event_evq .., fun _ => HbSt.event_notBoth .., fun none_ => ?_, fun isFree low => ?_, fun isFree high => ?_, b.frame⟩
    · rw [HbSt.event_none none_]
      exact ⟨Switch.turnOff_on .., Switch.turnOff_on .., rfl⟩
    · rw [show (s.dev.isActive && s.dev.gdUp hb) = true from isFree, low, HbSt.event_low]
      exact ⟨Switch.turnOff_on .., rfl, rfl⟩
    · rw [show (s.dev.isActive && s.dev.gdUp hb) = true from isFree, high, HbSt.event_high]
      exact ⟨Switch.turnOff_on .., rfl, rfl⟩
  · intro sd t vgs pends now can falls stuck turn
    have start : s.dev.HbBecomes hb h (s.dev.toGt (ceilDiv t 8)) := (Dev.HbBecomes.refl ..).toGt _
    have turns {P : Dev → Prop} (result : P (turnOnAt hb vgs sd t (s.dev.toGt (ceilDiv t 8)))) : Does (.switchTurnOn hb vgs) s P :=
      ⟨_, exec_switchTurnOn pends, rfl, result⟩
    have isStuck {d : Dev} {now : Nat} (b : s.dev.HbBecomes hb
        ({ h with pend := none, hold := false }.onSw (otherSide sd) (fun w => w.latchOff now .gateStuck)) d) : stuck d := by
      refine ⟨?_, ?_, ?_, ?_, b.frame⟩
      · rw [b.hb, HbSt.onSw_pend]
      · rw [b.hb, HbSt.onSw_sw]
        rfl
      · rw [b.hb, HbSt.onSw_sw]
        exact Switch.latchOff_latch ..
      · rw [b.hb, HbSt.onSw_sw_other]
        cases sd <;> rfl
    have plain {x : HbSt} (switches : x.hi = h.hi ∧ x.lo = h.lo) (side : Side) : x.sw side = h.sw side := by
      cases side
      · exact switches.1
      · exact switches.2
    refine ⟨fun no => turns ?_, fun yes waits late => turns ?_, fun yes high early => turns ?_, fun yes falls isHigh low => turns ?_,
      fun yes falls ready => turns ?_, ?_⟩
    · have b := turnOnAt_refused (vgs := vgs) (t := t) start there no
      rw [b.hb]
      exact ⟨plain ⟨rfl, rfl⟩ _, ⟨rfl, plain ⟨rfl, rfl⟩ _⟩, b.frame⟩
    · rw [turnOnAt_stuck start yes waits late]
      exact isStuck (gateStuck_becomes start there _)
    · have b := turnOnAt_holds (t := t) start yes there high early
      rw [b.hb]
      exact ⟨plain ⟨rfl, rfl⟩ _, ⟨rfl, rfl, plain ⟨rfl, rfl⟩ _⟩, b.frame⟩
    · have b := turnOnAt_noBootstrap (t := t) start yes there falls.1 falls.2 isHigh low
      rw [b.hb]
      exact ⟨plain ⟨rfl, rfl⟩ _, ⟨rfl, plain ⟨rfl, rfl⟩ _, rfl⟩, b.frame⟩
    · have b := turnOnAt_on (t := t) start yes there falls.1 falls.2 ready
      rw [b.hb]
      have made := HbSt.onSw_sw { h with pend := none, hold := false } sd
      exact ⟨(HbSt.onSw_other_sw ..).trans (plain ⟨rfl, rfl⟩ _), ⟨HbSt.onSw_pend .., congrArg Switch.on (made _), congrArg Switch.onAt (made _),
        congrArg Switch.armed (made _), congrArg Switch.vth (made _), congrArg Switch.blank (made _)⟩, b.frame⟩
    · exact ⟨_, exec_gateStuck pends, rfl, isStuck (gateStuck_becomes ((Dev.HbBecomes.refl ..).toGt _) there _)⟩

end Sys2Proof.Machine
end

section
/-! SUPPORT. What an edge link sends (R238, R240): the order of the frames, and the events in order of time. -/

namespace Sys2Proof.Machine
open Sys2Proof

/-! ### A link that becomes another -/

/-- From d to d' link k becomes x; the other links, the lanes and voters, the drive dies, the network and the safety I/O stay. -/
structure Dev.LinkBecomes (d : Dev) (k : Nat) (x : LinkSt) (d' : Dev) : Prop where
  link : d'.link k = x
  others : ∀ j : Nat, j ≠ k → d'.link j = d.link j
  lanes : d'.lanes = d.lanes
  vot : d'.vot = d.vot
  gd : d'.gd = d.gd
  net : d'.net = d.net
  safe : d'.safe = d.safe
  length : d'.edge.length = d.edge.length

namespace Dev.LinkBecomes
variable {d d' : Dev} {k : Nat} {x : LinkSt} (h : d.LinkBecomes k x d')

theorem refl (d : Dev) (k : Nat) : d.LinkBecomes k (d.link k) d := ⟨rfl, fun _ _ => rfl, rfl, rfl, rfl, rfl, rfl, rfl⟩

include h

theorem onTime (f : TimeSt → TimeSt) : d.LinkBecomes k x (d'.onTime f) := ⟨h.link, h.others, h.lanes, h.vot, h.gd, h.net, h.safe, h.length⟩
theorem onLink (there : k < d.edge.length) (f : LinkSt → LinkSt) : d.LinkBecomes k (f x) (d'.onLink k f) := by
  refine ⟨?_, fun j other => ?_, h.lanes, h.vot, h.gd, h.net, h.safe, ?_⟩
  · rw [Dev.link, Dev.onLink_edge, modAt_getD (h.length.symm ▸ there), ← Dev.link, h.link]
  · rw [Dev.link, Dev.onLink_edge, modAt_getD_ne _ _ _ other, ← Dev.link, h.others j other]
  · rw [Dev.onLink_edge, modAt, List.length_modify, h.length]
theorem onLink_eq (there : k < d.edge.length) {y : LinkSt} {f : LinkSt → LinkSt} (eq : f x = y) : d.LinkBecomes k y (d'.onLink k f) :=
  eq ▸ h.onLink there f

end Dev.LinkBecomes

/-! ### Events in order of time -/

/-- No event of the list is earlier than one before it. -/
def InOrder (es : List EdgeEv) : Prop := es.Pairwise (fun a b => a.t / 8 ≤ b.t / 8)

theorem mem_insertEv {e y : EdgeEv} {es : List EdgeEv} : y ∈ insertEv e es ↔ y = e ∨ y ∈ es := by
  induction es with
  | nil => simp [insertEv]
  | cons x r ih =>
    unfold insertEv
    split_ifs
    · simp only [List.mem_cons, ih]
      tauto
    · simp only [List.mem_cons]
theorem insertEv_inOrder {e : EdgeEv} {es : List EdgeEv} (ordered : InOrder es) : InOrder (insertEv e es) := by
  induction es with
  | nil => exact List.pairwise_singleton ..
  | cons x r ih =>
    obtain ⟨first, rest⟩ := List.pairwise_cons.1 ordered
    unfold insertEv
    split_ifs with before
    · refine List.pairwise_cons.2 ⟨fun y there => ?_, ih rest⟩
      rcases mem_insertEv.1 there with rfl | later
      · exact before
      · exact first y later
    · refine List.pairwise_cons.2 ⟨fun y there => ?_, ordered⟩
      have le : e.t / 8 ≤ x.t / 8 := (not_le.1 before).le
      rcases List.mem_cons.1 there with rfl | later
      · exact le
      · exact le.trans (first y later)
theorem sortEvs_inOrder (es : List EdgeEv) : InOrder (sortEvs es) := by
  have fold (es acc : List EdgeEv) (ordered : InOrder acc) : InOrder (es.foldl (fun acc e => insertEv e acc) acc) := by
    induction es generalizing acc with
    | nil => exact ordered
    | cons e r ih => exact ih _ (insertEv_inOrder ordered)
  exact fold es [] List.Pairwise.nil

/-! ### The commands -/

section
variable {s : State}

theorem exec_edgeHeartbeatDue : exec .edgeHeartbeatDue s = s.onDev (fun d =>
    if !d.time.run || d.edgeHiZ then d
    else
      { d.toGt (max ((d.link 0).hbNext) (ceilDiv d.gt 3200 * 3200)) with
        edge := d.edge.map (fun x => { x with hbDue := true, hbNext := max ((d.link 0).hbNext) (ceilDiv d.gt 3200 * 3200) + 3200 }) }) := rfl

variable {k : Nat} (there : k < s.dev.edge.length) (sends : s.dev.linkSends k = true)

/-- The device once the idles that the link owes have passed. -/
def Dev.idled (d : Dev) (k : Nat) : Dev := (d.pass (16 * (d.link k).guard)).onLink k (fun x => { x with guard := 0 })

/-- What an idle link does then. -/
def sendNext (k : Nat) (d : Dev) : Dev :=
  if (d.link k).hbDue = true then
    d.onLink k (fun x => { x with hbDue := false, hbSeq := (x.hbSeq + 1) % 256 }.send
      (.heartbeat (!d.paired || d.isActive) (d.pair.role == Role.inStep) d.pair.pairId (d.link k).hbSeq (d.silentMask k)))
  else if (d.link k).syncDue = true then
    d.onLink k (fun x => { x with syncDue := false, t1 := some d.fineNow, sentDelay := x.delay }.send
      (.sync (BitVec.ofNat 32 d.gt) (d.fineNow % 8) (d.link k).delay))
  else if (!((d.link k).ready d.fineNow).isEmpty) = true then
    d.onLink k (fun x => { x with evq := x.evq.filter (fun e => !(((d.link k).ready d.fineNow).take 24).contains e) }.send
      (.event (((d.link k).ready d.fineNow).take 24)))
  else match (d.link k).cmdq with
    | m :: r => d.onLink k (fun x => { x with cmdq := r }.send (.command m))
    | [] => d

include sends in
theorem does_edgeLinkIdle {P : Dev → Prop} (result : P (sendNext k (s.dev.idled k))) : Does (.edgeLinkIdle k) s P := by
  have meaning : exec (.edgeLinkIdle k) s = s.onDev (fun d => if !d.linkSends k then d else sendNext k (d.idled k)) := rfl
  refine does_of_onDev meaning ?_
  rw [sends]
  exact result

include there in
theorem Dev.idled_becomes : s.dev.LinkBecomes k { s.dev.link k with guard := 0 } (s.dev.idled k) :=
  Dev.LinkBecomes.onLink_eq (x := s.dev.link k) ((Dev.LinkBecomes.refl ..).onTime _) there rfl

end

section
variable {b d : Dev} {k : Nat} {x : LinkSt} (from_ : b.LinkBecomes k x d) (there : k < b.edge.length)
include from_ there

theorem sendNext_heartbeat (due : x.hbDue = true) : b.LinkBecomes k ({ x with hbDue := false, hbSeq := (x.hbSeq + 1) % 256 }.send
    (.heartbeat (!d.paired || d.isActive) (d.pair.role == Role.inStep) d.pair.pairId x.hbSeq (d.silentMask k))) (sendNext k d) := by
  obtain rfl := from_.link
  rw [sendNext, if_pos due]
  exact from_.onLink_eq there rfl

variable (noHeartbeat : x.hbDue = false)
include noHeartbeat

theorem sendNext_sync (due : x.syncDue = true) : b.LinkBecomes k ({ x with
    syncDue := false, t1 := some d.fineNow, sentDelay := x.delay }.send (.sync (BitVec.ofNat 32 d.gt) (d.fineNow % 8) x.delay))
    (sendNext k d) ∧ (sendNext k d).time = d.time := by
  obtain rfl := from_.link
  rw [sendNext, if_neg (by rw [noHeartbeat]; exact Bool.false_ne_true), if_pos due]
  exact ⟨from_.onLink_eq there rfl, rfl⟩

variable (noSync : x.syncDue = false)
include noSync

theorem sendNext_event (some_ : x.ready d.fineNow ≠ []) : b.LinkBecomes k ({ x with
    evq := x.evq.filter (fun e => !((x.ready d.fineNow).take 24).contains e) }.send (.event ((x.ready d.fineNow).take 24)))
    (sendNext k d) := by
  obtain rfl := from_.link
  rw [sendNext, if_neg (by rw [noHeartbeat]; exact Bool.false_ne_true), if_neg (by rw [noSync]; exact Bool.false_ne_true),
    if_pos (by simp [some_])]
  exact from_.onLink_eq there rfl
theorem sendNext_command (none_ : x.ready d.fineNow = []) {m : Nat} {r : List Nat} (queue : x.cmdq = m :: r) :
    b.LinkBecomes k ({ x with cmdq := r }.send (.command m)) (sendNext k d) := by
  obtain rfl := from_.link
  rw [sendNext, if_neg (by rw [noHeartbeat]; exact Bool.false_ne_true), if_neg (by rw [noSync]; exact Bool.false_ne_true),
    if_neg (by simp [none_]), queue]
  exact from_.onLink_eq there rfl

end

/-- Settles O32: a HEARTBEAT falls due at the next multiple, and an idle link sends the first of what is due. -/
theorem edgeSending : Obligations.EdgeSending := by
  intro s others
  refine ⟨fun aligned runs driven => ?_, fun idle => ?_, ?_⟩
  · refine does_of_onDev exec_edgeHeartbeatDue ?_
    rw [runs, driven]
    refine ⟨fun y listed => ?_, ?_, rfl, rfl, rfl, rfl, rfl⟩
    · obtain ⟨z, -, rfl⟩ := List.mem_map.1 listed
      have late : s.dev.gt ≤ ceilDiv s.dev.gt 3200 * 3200 := by unfold ceilDiv; omega
      refine ⟨rfl, ?_, ?_, ?_⟩ <;> dsimp only <;> omega
    · exact (List.map_map ..).trans rfl
  · refine next_of_onDev exec_edgeHeartbeatDue (if_pos ?_)
    rcases idle with stopped | floating
    · rw [stopped]
      rfl
    · rw [floating, Bool.or_true]
  · intro k there sending x es sends
    have start := Dev.idled_becomes there
    have sent {f : EdgeFrame} {y : LinkSt} {d : Dev} (guard : y.guard = 0) (b : s.dev.LinkBecomes k (y.send f) d) : sends d f :=
      ⟨by rw [b.link]; rfl, by rw [b.link]; exact guard, b.others, b.lanes, b.vot, b.gd, b.net, b.safe⟩
    refine ⟨fun due => does_edgeLinkIdle sending ?_, fun noHb due => does_edgeLinkIdle sending ?_,
      fun noHb noSync some_ => does_edgeLinkIdle sending ?_, fun m r noHb noSync none_ queue => does_edgeLinkIdle sending ?_⟩
    · have b := sendNext_heartbeat start there due
      refine ⟨?_, ?_, ?_, sent rfl b⟩ <;> rw [b.link] <;> rfl
    · obtain ⟨b, time⟩ := sendNext_sync start there noHb due
      have fine : (sendNext k (s.dev.idled k)).fineNow = (s.dev.idled k).fineNow := by rw [Dev.fineNow, time]; rfl
      have gt : (sendNext k (s.dev.idled k)).gt = (s.dev.idled k).gt := by rw [Dev.gt, time]; rfl
      rw [fine, gt]
      refine ⟨?_, ?_, ?_, sent rfl b⟩ <;> rw [b.link] <;> rfl
    · have b := sendNext_event start there noHb noSync some_
      refine ⟨sent rfl b, fun e => ?_, sortEvs_inOrder _⟩
      rw [b.link]
      refine List.mem_filter.trans (and_congr_right fun _ => ?_)
      rw [Bool.not_eq_true', ← Bool.not_eq_true, List.contains_iff_mem]
      rfl
    · have b := sendNext_command start there noHb noSync none_ queue
      refine ⟨sent rfl b, ?_⟩
      rw [b.link]
      rfl

end Sys2Proof.Machine
end

section
/-! SUPPORT. The sending of a slot (R276, R277, R287): which payload it takes, when it sends nothing, and which copies leave. -/

namespace Sys2Proof.Machine
open Sys2Proof

/-! ### What only time, the network, the host window and the journal change -/

namespace Dev.SameCore
variable {d d' : Dev} (h : d.SameCore d')

theorem refl (d : Dev) : d.SameCore d := ⟨rfl, rfl, rfl, rfl, rfl, rfl, rfl, rfl, rfl, rfl, rfl⟩

include h

theorem onNet (f : NetSt → NetSt) : d.SameCore (d'.onNet f) := h
theorem onTime (f : TimeSt → TimeSt) : d.SameCore (d'.onTime f) := h
theorem onHost (f : HostSt → HostSt) : d.SameCore (d'.onHost f) := h
theorem onJr (f : JournalSt → JournalSt) : d.SameCore (d'.onJr f) := h
theorem toGt (n : Nat) : d.SameCore (d'.toGt n) := h
theorem toClk (n : Nat) : d.SameCore (d'.toClk n) := h
theorem count (a n : Nat) : d.SameCore (d'.count a n) := h
theorem ite {p : Prop} [Decidable p] {e : Dev} (h' : d.SameCore e) : d.SameCore (if p then d' else e) := by
  split_ifs
  · exact h
  · exact h'

end Dev.SameCore

theorem Dev.count_counted (d : Dev) (a : Nat) : d.Counted (d.count a 1) a :=
  ⟨d.count_grew a, fun _ other => d.count_lookup_ne 1 other⟩
/-- What was counted on a device with the counters of d. -/
theorem Dev.counted_of_host {d x d' : Dev} {a : Nat} (before : x.host = d.host) (after : d'.host = (x.count a 1).host) : d.Counted d' a := by
  obtain ⟨grew, others⟩ := x.count_counted a
  unfold Dev.Counted Dev.Grew
  rw [after, ← before]
  exact ⟨grew, others⟩

/-! ### The payload of a slot -/

section
variable (d : Dev) (r : SlotRec)

/-- The GT at which slot r starts in this network cycle. -/
def Dev.slotAt : Nat := d.time.bellGt.toNat + r.start
/-- Payload q was released for this start of slot r. -/
def Dev.slotMine (q : TxPay) : Bool := match d.boot.running with
  | some g => !(payOf g q.desc).can && (payOf g q.desc).slot == r.number && decide (q.launch.toNat = d.slotAt r)
  | none => false
/-- The SEQ that slot r sends next. -/
def Dev.slotSeq : BitVec 16 := (lookupNat d.net.txSeq r.number).getD 0
/-- The device at the slot's start, with the payloads released for it taken from the queue. -/
def Dev.slotBegun : Dev := (d.toGt (d.slotAt r)).onNet (fun n => { n with txq := n.txq.filter (fun x => !d.slotMine r x) })
/-- The frame that slot r builds from payload q. -/
def Dev.slotFrame (q : TxPay) : BtnFrame := (d.slotBegun r).buildFrame r (d.slotAt r) (d.slotSeq r) q
/-- The network once copies cs of a frame have left for slot r. -/
def NetSt.slotLeft (n : NetSt) (d : Dev) (r : SlotRec) (start : Nat) (seq : BitVec 16) (cs : List (Port × BtnFrame)) : NetSt :=
  let n := NetSt.leave { n with txSeq := putNat n.txSeq r.number (seq + 1) } (timed d.hopDelay start false cs)
  if r.ring then
    let n := { (n.onMember d.nodeId (fun m => { m with live := true })) with ownSent := n.ownSent ++ [start] }
    if n.ownTx < 8 * (d.time.bellGt.toNat : Int) then { n with ownTx := 8 * (start : Int), own0 := none, own1 := none } else n
  else n

variable {d r}
variable (served : d.hubUp = true) (owned : r.txNode = d.nodeId)
include served owned

theorem slot_goes : ¬ ((decide (r.txNode ≠ d.nodeId) || !d.hubUp) = true) := by
  simp [owned, served]
theorem slotStartAt_none (none_ : d.net.txq.find? (d.slotMine r) = none) : slotStartAt d r = d.toGt (d.slotAt r) := by
  have same : (d.toGt (d.slotAt r)).net.txq.find? (d.slotMine r) = none := none_
  unfold slotStartAt
  refine (if_neg (slot_goes served owned)).trans ?_
  show (match (d.toGt (d.slotAt r)).net.txq.find? (d.slotMine r) with | none => _ | some q => _) = _
  rw [same]
  rfl
theorem slotStartAt_some {q : TxPay} (found : d.net.txq.find? (d.slotMine r) = some q) : slotStartAt d r =
    if q.timed && q.act.isNone then (d.slotBegun r).count (cPort r.port0 4) 1
    else if q.timed && decide ((q.act.getD 0).toNat < d.slotAt r + d.tn) then (d.slotBegun r).count (cPort r.port0 5) 1
    else
      let cs := (d.slotBegun r).slotCopies r (d.slotFrame r q)
      if cs.isEmpty then d.slotBegun r else (d.slotBegun r).onNet (fun n => n.slotLeft (d.slotBegun r) r (d.slotAt r) (d.slotSeq r) cs) := by
  have same : (d.toGt (d.slotAt r)).net.txq.find? (d.slotMine r) = some q := found
  unfold slotStartAt
  refine (if_neg (slot_goes served owned)).trans ?_
  show (match (d.toGt (d.slotAt r)).net.txq.find? (d.slotMine r) with | none => _ | some q => _) = _
  rw [same]
  show (if _ then _ else _) = (if _ then _ else _)
  refine if_congr Iff.rfl rfl ?_
  refine if_congr Iff.rfl rfl ?_
  show (if _ then _ else _) = (if _ then _ else _)
  refine if_congr Iff.rfl rfl ?_
  refine congrArg (Dev.onNet _) (funext fun n => ?_)
  show (if _ then _ else _) = (if _ then _ else _)
  rfl

end

/-! ### What leaves for a slot -/

section
variable (n : NetSt) (d : Dev) (r : SlotRec) (start : Nat) (seq : BitVec 16) (cs : List (Port × BtnFrame))

theorem NetSt.onMember_lastTx (id : Nat) (f : MemberSt → MemberSt) : (n.onMember id f).lastTx = n.lastTx := by
  unfold NetSt.onMember
  split_ifs <;> rfl
theorem NetSt.onMember_txSeq (id : Nat) (f : MemberSt → MemberSt) : (n.onMember id f).txSeq = n.txSeq := by
  unfold NetSt.onMember
  split_ifs <;> rfl
theorem NetSt.onMember_txq (id : Nat) (f : MemberSt → MemberSt) : (n.onMember id f).txq = n.txq := by
  unfold NetSt.onMember
  split_ifs <;> rfl

/-- A port's last frames once copies have left at their times. -/
theorem NetSt.leave_lastTx (hop : Nat) (wrapped : Bool) :
    (n.leave (timed hop start wrapped cs)).lastTx = n.lastTx.filter (fun x => !(cs.any (fun c => c.1 == x.1))) ++ cs := by
  simp [NetSt.leave, timed, List.any_map, Function.comp_def]
theorem NetSt.slotLeft_lastTx :
    (n.slotLeft d r start seq cs).lastTx = n.lastTx.filter (fun x => !(cs.any (fun c => c.1 == x.1))) ++ cs := by
  unfold NetSt.slotLeft
  dsimp only
  split_ifs <;> simp only [NetSt.onMember_lastTx, NetSt.leave_lastTx]
theorem NetSt.slotLeft_txSeq : lookupNat (n.slotLeft d r start seq cs).txSeq r.number = some (seq + 1) := by
  have put : lookupNat (putNat n.txSeq r.number (seq + 1)) r.number = some (seq + 1) := lookupNat_putNat ..
  unfold NetSt.slotLeft
  dsimp only
  split_ifs <;> simpa only [NetSt.onMember_txSeq, NetSt.leave] using put
theorem NetSt.slotLeft_txq : (n.slotLeft d r start seq cs).txq = n.txq := by
  unfold NetSt.slotLeft
  dsimp only
  split_ifs <;> simp only [NetSt.onMember_txq, NetSt.leave]

end

/-- A sealed frame carries its own E2E_CRC (R271). -/
theorem btnSeal_sealed (f : BtnFrame) : (btnSeal f).e2eCrc = btnCrc (btnSeal f) := rfl
/-- The copy of a frame that a ring port which is up sends in its direction. -/
def ringCopy (f : BtnFrame) (dir : Bool) : BtnFrame := btnSeal { f with dir := dir, wrap := false }
/-- A ring with both ports up and unwrapped sends a copy each way. -/
theorem ringCopies_both {n : NetSt} (e : n.east.up = true) (w : n.west.up = true) (ew : n.east.wrapped = false) (ww : n.west.wrapped = false)
    (f : BtnFrame) : ringCopies n f =
      [(.ringE, ringCopy f false), (.ringW, ringCopy f true)] := by
  simp [ringCopies, ringCopy, e, w, ew, ww]

/-- The running image tells which payloads were released for a slot's start. -/
theorem Dev.slotMine_of {d : Dev} {g : Img} (running : d.boot.running = some g) (r : SlotRec) : d.slotMine r = fun q =>
    !(payOf g q.desc).can && (payOf g q.desc).slot == r.number && decide (q.launch.toNat = d.time.bellGt.toNat + r.start) := by
  funext q
  simp only [Dev.slotMine, running]
  rfl

section
variable {d : Dev} {r : SlotRec} (served : d.hubUp = true) (owned : r.txNode = d.nodeId)

theorem Dev.slotBegun_core (d : Dev) (r : SlotRec) : d.SameCore (d.slotBegun r) := ((Dev.SameCore.refl d).toGt _).onNet _
theorem Dev.slotBegun_txq (d : Dev) (r : SlotRec) : ∀ x ∈ (d.slotBegun r).net.txq, d.slotMine r x = false := by
  intro x there
  simpa using (List.mem_filter.mp there).2

include served owned

/-- A timed payload has no ACT_TIME or one too soon: it is counted and nothing leaves. -/
theorem slotStartAt_noActTime {q : TxPay} (found : d.net.txq.find? (d.slotMine r) = some q) (timed_ : q.timed = true) (none_ : q.act = none) :
    slotStartAt d r = (d.slotBegun r).count (cPort r.port0 4) 1 := by
  rw [slotStartAt_some served owned found, if_pos (by simp [timed_, none_])]
theorem slotStartAt_tooSoon {q : TxPay} {t : BitVec 64} (found : d.net.txq.find? (d.slotMine r) = some q) (timed_ : q.timed = true)
    (act : q.act = some t) (soon : t.toNat < d.slotAt r + d.tn) : slotStartAt d r = (d.slotBegun r).count (cPort r.port0 5) 1 := by
  rw [slotStartAt_some served owned found, if_neg (by simp [act]), if_pos (by simp [timed_, act, soon])]
/-- A payload that may leave, leaves in its copies. -/
theorem slotStartAt_leaves {q : TxPay} (found : d.net.txq.find? (d.slotMine r) = some q)
    (free : q.timed = false ∨ ∃ t : BitVec 64, q.act = some t ∧ d.slotAt r + d.tn ≤ t.toNat) {cs : List (Port × BtnFrame)} (some_ : cs ≠ [])
    (copies : (d.slotBegun r).slotCopies r (d.slotFrame r q) = cs) :
    slotStartAt d r = (d.slotBegun r).onNet (fun n => n.slotLeft (d.slotBegun r) r (d.slotAt r) (d.slotSeq r) cs) := by
  have filled : cs.isEmpty = false := by simpa using some_
  have notNone : ¬ ((q.timed && q.act.isNone) = true) := by
    rcases free with free | ⟨t, act, -⟩
    · simp [free]
    · simp [act]
  have notSoon : ¬ ((q.timed && decide ((q.act.getD 0).toNat < d.slotAt r + d.tn)) = true) := by
    rcases free with free | ⟨t, act, late⟩
    · simp [free]
    · simp [act, late]
  rw [slotStartAt_some served owned found, if_neg notNone, if_neg notSoon]
  simp only [copies, filled, Bool.false_eq_true, if_false]

end

theorem exec_slotStart {s : State} {slot : Nat} {r : SlotRec} (there : s.dev.slotRec slot = some r) :
    exec (.slotStart slot) s = s.onDev (fun d => slotStartAt d r) := by
  show s.onDev (fun d => match d.slotRec slot with | some r => slotStartAt d r | none => d) = _
  simp only [State.onDev, there]

/-- Settles O34: by what the find of a released payload answers, and then by what may leave. -/
theorem slotSending : Obligations.SlotSending := by
  intro s slot r g start mine seq running there served owned
  have released : s.dev.slotMine r = mine := Dev.slotMine_of running r
  have runs {d' : Dev} (is : slotStartAt s.dev r = d') {P : Dev → Prop} (holds : P d') : Does (.slotStart slot) s P :=
    does_of_onDev (exec_slotStart there) (is ▸ holds)
  refine ⟨fun none_ => ?_, fun q found => ⟨fun timed_ act => ?_, fun t timed_ act soon => ?_, fun free ring pair ports => ?_,
    fun free ring member sending eUp wUp eWrap wWrap => ?_⟩⟩
  · exact runs (slotStartAt_none served owned (released ▸ none_)) ⟨rfl, rfl, (Dev.SameCore.refl _).toGt _⟩
  · exact runs (slotStartAt_noActTime served owned (released ▸ found) timed_ act)
      ⟨rfl, rfl, Dev.counted_of_host (x := s.dev.slotBegun r) rfl rfl, (s.dev.slotBegun_core r).count _ _⟩
  · exact runs (slotStartAt_tooSoon served owned (released ▸ found) timed_ act soon)
      ⟨rfl, rfl, Dev.counted_of_host (x := s.dev.slotBegun r) rfl rfl, (s.dev.slotBegun_core r).count _ _⟩
  · have copies : (s.dev.slotBegun r).slotCopies r (s.dev.slotFrame r q) =
        r.portList.map (fun p => (p, s.dev.slotFrame r q)) := by
      simp [Dev.slotCopies, ring, pair]
    refine runs (slotStartAt_leaves served owned (released ▸ found) free (by simpa using ports) copies)
      ⟨fun p named => ?_, fun x kept other => ?_, ?_, ?_, rfl, (s.dev.slotBegun_core r).onNet _⟩
    · refine ⟨s.dev.slotFrame r q, ?_, rfl, rfl, rfl, rfl, rfl, ?_, rfl, btnSeal_sealed _, rfl⟩
      · show _ ∈ (NetSt.slotLeft ..).lastTx
        rw [NetSt.slotLeft_lastTx]
        exact List.mem_append_right _ (List.mem_map.mpr ⟨p, named, rfl⟩)
      · exact TimeSt.toGt_cycle ..
    · show _ ∈ (NetSt.slotLeft ..).lastTx
      rw [NetSt.slotLeft_lastTx]
      refine List.mem_append_left _ (List.mem_filter.mpr ⟨kept, ?_⟩)
      simp only [List.any_map, Bool.not_eq_true', List.any_eq_false, Function.comp_apply, beq_iff_eq]
      exact fun p named is => other (is ▸ named)
    · exact NetSt.slotLeft_txSeq ..
    · intro x kept
      rw [← released]
      refine s.dev.slotBegun_txq r x ?_
      rwa [Dev.onNet_net, NetSt.slotLeft_txq] at kept
  · have copies : (s.dev.slotBegun r).slotCopies r (s.dev.slotFrame r q) =
        ringCopies s.dev.net (s.dev.slotFrame r q) := by
      have is : ((s.dev.slotBegun r).net.ring == .member && (s.dev.slotBegun r).net.sending) = true := by
        show (s.dev.net.ring == .member && s.dev.net.sending) = true
        simp [member, sending]
      rw [Dev.slotCopies, if_pos ring, if_pos is]
      rfl
    rw [ringCopies_both eUp wUp eWrap wWrap] at copies
    refine runs (slotStartAt_leaves served owned (released ▸ found) (.inl free) (by simp) copies)
      ⟨ringCopy (s.dev.slotFrame r q) false, ringCopy (s.dev.slotFrame r q) true, ?_, rfl, rfl, rfl, rfl, rfl, rfl, rfl, rfl, btnSeal_sealed _, btnSeal_sealed _,
        NetSt.slotLeft_txSeq .., (s.dev.slotBegun_core r).onNet _⟩
    show (NetSt.slotLeft ..).lastTx = _
    rw [NetSt.slotLeft_lastTx]
    congr 1
    refine List.filter_congr fun x _ => ?_
    simp [Bool.beq_comm]

end Sys2Proof.Machine
end

section
/-! SUPPORT. Ring link changes, the recess and frames that arrive unscheduled (R285, R286, R298, R299). -/

namespace Sys2Proof.Machine
open Sys2Proof

/-- Effects that end in one device are one. -/
theorem next_of_dev {s : State} {d e : Dev} (same : d = e) :
    (Host.Outcome.next { s with dev := d } : Host.Outcome State Fault Refusal) = .next { s with dev := e } :=
  congrArg (fun d => Host.Outcome.next { s with dev := d }) same

/-- A command that ends in device d does what holds of d. -/
theorem does_of_dev {s : State} {c : Instr} {d : Dev} {P : Dev → Prop} (meaning : exec c s = .next { s with dev := d }) (result : P d) :
    Does c s P := ⟨_, meaning, rfl, result⟩

/-! ### The two ring ports -/

/-- The ring port of a side. -/
def NetSt.side (n : NetSt) (east : Bool) : RingPort := if east then n.east else n.west

@[simp] theorem NetSt.side_onSide (n : NetSt) (east : Bool) (f : RingPort → RingPort) :
    (n.onSide east f).side east = f (n.side east) := by
  cases east <;> rfl
@[simp] theorem NetSt.side_onSide_other (n : NetSt) (east : Bool) (f : RingPort → RingPort) :
    (n.onSide east f).side (!east) = n.side (!east) := by
  cases east <;> rfl

section
variable (d : Dev) (east : Bool)

/-- The device whose ring port has lost its link, before any wrap (R298). -/
def Dev.portLost : Dev := d.onNet (·.onSide east (fun p => { p with up := false, down := true, clean := 0 }))

/-- The device whose ring port has lost its link and is wrapped. -/
def Dev.portWrapped : Dev := ((d.portLost east).count (cNet 0) 1).onNet (·.onSide east (fun p => { p with wrapped := true }))

theorem Dev.portLost_side : (d.portLost east).net.side east = { d.net.side east with up := false, down := true, clean := 0 } :=
  NetSt.side_onSide ..
theorem Dev.portWrapped_side :
    (d.portWrapped east).net.side east = { d.net.side east with up := false, down := true, clean := 0, wrapped := true } := by
  refine (NetSt.side_onSide ..).trans ?_
  rw [Dev.count_net, Dev.portLost_side]
theorem Dev.portWrapped_other : (d.portWrapped east).net.side (!east) = d.net.side (!east) :=
  (NetSt.side_onSide_other ..).trans (NetSt.side_onSide_other ..)

theorem wrapPort_kept (kept : (d.net.side east).wrapped = true) : wrapPort d east = d :=
  if_neg (by simp only [NetSt.side] at kept; simp [kept])
theorem wrapPort_wraps (down : (d.net.side east).down = true) (open_ : (d.net.side east).wrapped = false) :
    wrapPort d east = (d.count (cNet 0) 1).onNet (·.onSide east (fun p => { p with wrapped := true })) :=
  if_pos (by simp only [NetSt.side] at down open_; simp [down, open_])

/-- A device with a GT, a standalone one and one whose port is wrapped already only marks the port down. -/
theorem ringLinkDown_marks {s : State} (kept : s.dev.time.run = true ∨ s.dev.standalone = true ∨ (s.dev.net.side east).wrapped = true) :
    exec (.ringLinkDown east) s = s.onDev (·.portLost east) := by
  have same : (if (s.dev.portLost east).time.run || (s.dev.portLost east).standalone then s.dev.portLost east
      else wrapPort (s.dev.portLost east) east) = s.dev.portLost east := by
    split
    · rfl
    · next idle =>
      have idle : ¬ ((s.dev.time.run || s.dev.standalone) = true) := idle
      refine wrapPort_kept _ _ ?_
      have wrapped : (s.dev.net.side east).wrapped = true := by
        rw [Bool.or_eq_true, not_or] at idle
        exact (kept.resolve_left idle.1).resolve_left idle.2
      rw [Dev.portLost_side]
      exact wrapped
  exact next_of_dev same
/-- A device without a GT wraps the port at once (R298). -/
theorem ringLinkDown_wraps {s : State} (idle : s.dev.time.run = false) (ringed : s.dev.standalone = false)
    (open_ : (s.dev.net.side east).wrapped = false) : exec (.ringLinkDown east) s =
      s.onDev (·.portWrapped east) := by
  have same : (if (s.dev.portLost east).time.run || (s.dev.portLost east).standalone then s.dev.portLost east
      else wrapPort (s.dev.portLost east) east) = s.dev.portWrapped east := by
    have no : ¬ (((s.dev.portLost east).time.run || (s.dev.portLost east).standalone) = true) := by
      show ¬ ((s.dev.time.run || s.dev.standalone) = true)
      simp [idle, ringed]
    rw [if_neg no]
    refine wrapPort_wraps _ _ ?_ ?_
    · rw [Dev.portLost_side]
    · rw [Dev.portLost_side]
      exact open_
  exact next_of_dev same

theorem exec_ringLinkUp (s : State) : exec (.ringLinkUp east) s = s.onDev (fun d =>
    (d.onTime (fun t => { t with serdesBad := false })).onNet (·.onSide east (fun p =>
      { p with up := true, down := p.wrapped, clean := 0, part := true }))) := rfl

end

/-! ### What a port sends in a recess (R285) -/

section
variable (p : Port)

section
variable {left : Nat} {r : RecFrame} (rest : List RecFrame)

/-- The front frame leaves where the time lasts, and stays queued for its other ports. -/
theorem sendRecess_front (named : p ∈ r.ports) (fits : recessGt p r.bytes.length ≤ left) : sendRecess p left (r :: rest) =
    (if (r.ports.filter (fun x => x != p)).isEmpty then (sendRecess p (left - recessGt p r.bytes.length) rest).1
      else { r with ports := r.ports.filter (fun x => x != p) } :: (sendRecess p (left - recessGt p r.bytes.length) rest).1,
      (p, r.bytes) :: (sendRecess p (left - recessGt p r.bytes.length) rest).2) :=
  if_pos (by simp [named, fits])
/-- A front frame that no longer fits ends what its port sends. -/
theorem sendRecess_blocked (named : p ∈ r.ports) (long : ¬ recessGt p r.bytes.length ≤ left) :
    sendRecess p left (r :: rest) = (r :: rest, []) :=
  (if_neg (by simp [long])).trans (if_pos (by simpa using named))
/-- A front frame for other ports is passed over. -/
theorem sendRecess_other (other : p ∉ r.ports) :
    sendRecess p left (r :: rest) = (r :: (sendRecess p left rest).1, (sendRecess p left rest).2) :=
  (if_neg (by simp [other])).trans (if_neg (by simpa using other))

end

theorem sendRecess_fits (left : Nat) (queue : List RecFrame) :
    (((sendRecess p left queue).2).map (fun x => recessGt p x.2.length)).sum ≤ left := by
  induction queue generalizing left with
  | nil => exact Nat.zero_le _
  | cons r rest ih =>
    by_cases named : p ∈ r.ports
    · by_cases fits : recessGt p r.bytes.length ≤ left
      · have := ih (left - recessGt p r.bytes.length)
        rw [sendRecess_front p rest named fits, List.map_cons, List.sum_cons]
        show recessGt p r.bytes.length + _ ≤ left
        omega
      · rw [sendRecess_blocked p rest named fits]
        exact Nat.zero_le _
    · rw [sendRecess_other p rest named]
      exact ih left

theorem sendRecess_sent (left : Nat) (queue : List RecFrame) :
    ∀ x ∈ (sendRecess p left queue).2, x.1 = p ∧ ∃ r ∈ queue, p ∈ r.ports ∧ r.bytes = x.2 := by
  induction queue generalizing left with
  | nil => intro x none_; cases none_
  | cons r rest ih =>
    have later : ∀ left, ∀ x ∈ (sendRecess p left rest).2, x.1 = p ∧ ∃ o ∈ r :: rest, p ∈ o.ports ∧ o.bytes = x.2 := fun left x sent => by
      obtain ⟨port, o, there, rest_⟩ := ih left x sent
      exact ⟨port, o, List.mem_cons_of_mem _ there, rest_⟩
    by_cases named : p ∈ r.ports
    · by_cases fits : recessGt p r.bytes.length ≤ left
      · rw [sendRecess_front p rest named fits]
        exact List.forall_mem_cons.mpr ⟨⟨rfl, r, List.mem_cons_self, named, rfl⟩, later _⟩
      · rw [sendRecess_blocked p rest named fits]
        intro x none_
        cases none_
    · rw [sendRecess_other p rest named]
      exact later left

/-- What stays queued is what stood there, for some of its ports. -/
theorem sendRecess_kept (left : Nat) (queue : List RecFrame) :
    ∀ r ∈ (sendRecess p left queue).1, ∃ o ∈ queue, r.bytes = o.bytes ∧ r.fwd = o.fwd ∧ ∀ x ∈ r.ports, x ∈ o.ports := by
  induction queue generalizing left with
  | nil => intro x none_; cases none_
  | cons r rest ih =>
    have later : ∀ left, ∀ q ∈ (sendRecess p left rest).1,
        ∃ o ∈ r :: rest, q.bytes = o.bytes ∧ q.fwd = o.fwd ∧ ∀ x ∈ q.ports, x ∈ o.ports := fun left q kept => by
      obtain ⟨o, there, same⟩ := ih left q kept
      exact ⟨o, List.mem_cons_of_mem _ there, same⟩
    by_cases named : p ∈ r.ports
    · by_cases fits : recessGt p r.bytes.length ≤ left
      · rw [sendRecess_front p rest named fits]
        split
        · exact later _
        · exact List.forall_mem_cons.mpr ⟨⟨r, List.mem_cons_self, rfl, rfl, fun x there => (List.mem_filter.mp there).1⟩, later _⟩
      · rw [sendRecess_blocked p rest named fits]
        exact fun q kept => ⟨q, kept, rfl, rfl, fun _ there => there⟩
    · rw [sendRecess_other p rest named]
      exact List.forall_mem_cons.mpr ⟨⟨r, List.mem_cons_self, rfl, rfl, fun _ there => there⟩, later _⟩

end

theorem recessStart_sends {s : State} (q : Port) (served : s.dev.hubUp = true) : ∃ at_ : Nat, exec (.recessStart q) s = s.onDev (fun d =>
    (d.toGt at_).onNet (fun n => { n with recess := (sendRecess q d.recessLen d.net.recess).1,
                                          recTx := n.recTx.filter (fun x => x.1 != q) ++ (sendRecess q d.recessLen d.net.recess).2 })) := by
  refine ⟨_, next_of_dev (if_neg ?_)⟩
  show ¬ ((!s.dev.hubUp) = true)
  simp [served]

/-! ### Frames that arrive unscheduled (R286) -/

section
variable {d : Dev} {src : Port} {bytes : List Byte}

theorem queueHost_taken (room : d.net.roomFor false bytes.length = true) :
    queueHost d src bytes = d.onNet (fun n => { n with hostRx := n.hostRx ++ [(src, bytes)] }) := if_pos room
theorem queueHost_dropped (full : d.net.roomFor false bytes.length = false) :
    queueHost d src bytes = d.count (cPort (portIdx src) 3) 1 := if_neg (by simp [full])

theorem queueRecess_taken {p : Port} (fits : recessGt p bytes.length ≤ d.recessLen) (room : d.net.roomFor true bytes.length = true) :
    queueRecess d true [p] src bytes =
      d.onNet (fun n => { n with recess := n.recess ++ [{ fwd := true, ports := [p], bytes := bytes, src := src }] }) := by
  simp [queueRecess, fits, room]
theorem queueRecess_dropped {p : Port} (fits : recessGt p bytes.length ≤ d.recessLen) (full : d.net.roomFor true bytes.length = false) :
    queueRecess d true [p] src bytes = d.count (cPort (portIdx src) 2) 1 := by
  simp [queueRecess, fits, full]
theorem queueRecess_misfit {p : Port} (long : ¬ recessGt p bytes.length ≤ d.recessLen) :
    queueRecess d true [p] src bytes = d.count (cPort (portIdx p) 1) 1 := by
  simp [queueRecess, long]

end

/-- A frame on a ring port that the hub serves goes where its destination tells. -/
theorem unscheduled_own {s : State} (east : Bool) (bytes : List Byte) (served : s.dev.hubUp = true) :
    exec (.unscheduledFrameReceived (if east then .ringE else .ringW) .own bytes) s =
      s.onDev (fun d => queueHost d (if east then .ringE else .ringW) bytes) := by
  cases east
  · exact next_of_dev (if_neg (by simp [served]))
  · exact next_of_dev (if_neg (by simp [served]))
theorem unscheduled_other {s : State} (east : Bool) (bytes : List Byte) (served : s.dev.hubUp = true) :
    exec (.unscheduledFrameReceived (if east then .ringE else .ringW) .other bytes) s =
      s.onDev (fun d => queueRecess d true [if east then .ringW else .ringE] (if east then .ringE else .ringW) bytes) := by
  cases east
  · exact next_of_dev (if_neg (by simp [served]))
  · exact next_of_dev (if_neg (by simp [served]))

/-- Settles O38: the link changes by what they leave of each side, the recess by induction over its queue. -/
theorem ringPortsAndRecess : Obligations.RingPortsAndRecess := by
  intro s east side p
  refine ⟨?_, ?_, fun q served => ?_, fun bytes served => ⟨fun room => ?_, fun full => ?_, fun fit room => ?_, fun fit full => ?_, fun misfit => ?_⟩⟩
  · by_cases kept : s.dev.time.run = true ∨ s.dev.standalone = true ∨ p.wrapped = true
    · refine does_of_onDev (ringLinkDown_marks east kept)
        ⟨congrArg RingPort.up (s.dev.portLost_side east), congrArg RingPort.down (s.dev.portLost_side east),
          congrArg RingPort.clean (s.dev.portLost_side east), s.dev.net.side_onSide_other east _, rfl, (Dev.SameCore.refl _).onNet _,
          fun ⟨idle, ringed, open_⟩ => ?_, fun _ => ⟨(congrArg RingPort.wrapped (s.dev.portLost_side east)).trans rfl, rfl⟩⟩
      exact absurd kept (by simp [idle, ringed, open_])
    · obtain ⟨idle, ringed, open_⟩ : s.dev.time.run = false ∧ s.dev.standalone = false ∧ p.wrapped = false := by simpa using kept
      have now := s.dev.portWrapped_side east
      exact does_of_onDev (ringLinkDown_wraps east idle ringed open_)
        ⟨congrArg RingPort.up now, congrArg RingPort.down now, congrArg RingPort.clean now, s.dev.portWrapped_other east, rfl,
          ((((Dev.SameCore.refl _).onNet _).count _ _).onNet _), fun _ => ⟨congrArg RingPort.wrapped now, Dev.counted_of_host (x := s.dev) rfl rfl⟩,
          fun other => absurd other kept⟩
  · have now := s.dev.net.side_onSide east (fun p => { p with up := true, down := p.wrapped, clean := 0, part := true })
    exact does_of_onDev (exec_ringLinkUp east s)
      ⟨congrArg RingPort.up now, congrArg RingPort.down now, (congrArg RingPort.wrapped now).trans rfl, congrArg RingPort.clean now,
        congrArg RingPort.part now, s.dev.net.side_onSide_other east _, rfl, rfl, ((Dev.SameCore.refl _).onTime _).onNet _⟩
  · obtain ⟨at_, sends⟩ := recessStart_sends q served
    refine does_of_onDev sends ⟨(sendRecess q s.dev.recessLen s.dev.net.recess).2, rfl, sendRecess_fits .., sendRecess_sent _ _ _, sendRecess_kept _ _ _,
      fun r rest front named => ⟨fun fits => ?_, fun long => ?_⟩, ((Dev.SameCore.refl _).toGt _).onNet _⟩
    · rw [front, sendRecess_front q rest named fits]
      exact ⟨_, rfl⟩
    · show _ ∧ (sendRecess q s.dev.recessLen s.dev.net.recess).1 = _
      rw [front, sendRecess_blocked q rest named (by omega)]
      exact ⟨rfl, rfl⟩
  · exact does_of_onDev (unscheduled_own east bytes served) (queueHost_taken room ▸ ⟨rfl, rfl, (Dev.SameCore.refl _).onNet _⟩)
  · exact does_of_onDev (unscheduled_own east bytes served) (queueHost_dropped full ▸ ⟨rfl, Dev.count_counted .., (Dev.SameCore.refl _).count _ _⟩)
  · exact does_of_onDev (unscheduled_other east bytes served)
      (queueRecess_taken (of_decide_eq_true fit) room ▸ ⟨rfl, rfl, (Dev.SameCore.refl _).onNet _⟩)
  · exact does_of_onDev (unscheduled_other east bytes served)
      (queueRecess_dropped (of_decide_eq_true fit) full ▸ ⟨rfl, Dev.count_counted .., (Dev.SameCore.refl _).count _ _⟩)
  · exact does_of_onDev (unscheduled_other east bytes served)
      (queueRecess_misfit (of_decide_eq_false misfit) ▸ ⟨rfl, Dev.count_counted .., (Dev.SameCore.refl _).count _ _⟩)

end Sys2Proof.Machine
end

section
/-! SUPPORT. Starting the ring, backing off, and losing its time (R45, R305, R306). -/

namespace Sys2Proof.Machine
open Sys2Proof

theorem Dev.SameCore.note {d d' : Dev} (h : d.SameCore d') (t u i c v : Nat) : d.SameCore (d'.note t u i c v) := by
  unfold Dev.SameCore at *
  simpa using h
theorem Dev.SameCore.ring {d d' : Dev} (h : d.SameCore d') (bit : Nat) : d.SameCore (d'.ring bit) := h
/-- A doorbell bit that rings is set. -/
theorem Dev.ring_set (d : Dev) {bit : Nat} (is : bit < 32) : (d.ring bit).host.door.getLsbD bit = true := by
  show (d.host.door ||| BitVec.ofNat 32 (2 ^ bit)).getLsbD bit = true
  rw [BitVec.getLsbD_or, BitVec.getLsbD_ofNat, Nat.testBit_two_pow_self]
  simp [is]

/-! ### Listening (R305) -/

/-- A ring port that is up and not wrapped sends its own copy of a frame. -/
theorem ringCopies_east {n : NetSt} (up : n.east.up = true) (open_ : n.east.wrapped = false) (f : BtnFrame) :
    (.ringE, ringCopy f false) ∈ ringCopies n f := by
  refine List.mem_append_left _ ?_
  simp [up, open_, ringCopy]
theorem ringCopies_west {n : NetSt} (up : n.west.up = true) (open_ : n.west.wrapped = false) (f : BtnFrame) :
    (.ringW, ringCopy f true) ∈ ringCopies n f := by
  refine List.mem_append_right _ ?_
  simp [up, open_, ringCopy]

section
variable (d : Dev)

/-- The COLDSTART frame of the device itself. -/
def Dev.ownCold : BtnFrame := coldstartOf d.nodeId false (d.paired && d.isActive) d.modeCur

theorem coldstartSend_core : d.SameCore (coldstartSend d) := ((Dev.SameCore.refl d).onTime _).onNet _
theorem coldstartSend_lastTx {x : Port × BtnFrame} (leaves : x ∈ ringCopies d.net d.ownCold) : x ∈ (coldstartSend d).net.lastTx := by
  show x ∈ (NetSt.leave ..).lastTx
  rw [NetSt.leave_lastTx]
  exact List.mem_append_right _ leaves

end

section
variable {s : State} {back : Bool} (served : s.dev.hubUp = true) (listens : s.dev.net.ring = (if back then .backoff else .listen))

/-- The device at the end of its listen window. -/
def Dev.listened (d : Dev) (back : Bool) : Dev := d.toClk (d.net.since + d.listenClk back)
/-- It listens again. -/
def Dev.listenAgain (d : Dev) : Dev := d.onNet (fun n => { n with ring := .listen, since := d.clk, heard := [] })
/-- It integrates on a node. -/
def Dev.integrates (d : Dev) (node : Nat) : Dev := d.onNet (fun n => { n with ring := .integrating, integ := some node, heard := [] })

theorem Dev.listened_belled (d : Dev) (back : Bool) : (d.listened back).time.belled = d.time.belled := TimeSt.toClk_belled ..

include served listens

theorem listenWindowEnd_heard : exec .listenWindowEnd s = s.onDev (fun d =>
    match d.net.heard with
    | [] => if (d.listened back).coldCapable && !(d.listened back).time.belled then coldstartSend (d.listened back) else (d.listened back).listenAgain
    | [(node, dir, at_)] =>
      if !(d.listened back).time.belled then
        adoptGt ((d.listened back).integrates node) 0 0 0 (((d.listened back).integrates node).pathDelay node dir + ((d.listened back).clk - at_))
      else (d.listened back).integrates node
    | _ =>
      if (d.listened back).coldCapable then
        ((d.listened back).count (cNet 2) 1).onNet (fun n => { n with ring := .backoff, since := (d.listened back).clk, heard := [] })
      else (d.listened back).listenAgain) := by
  have is : (s.dev.net.ring == .backoff) = back := by
    rw [listens]
    cases back <;> rfl
  have goes : ¬ ((!((s.dev.net.ring == .backoff) || s.dev.net.ring == .listen) || !s.dev.hubUp) = true) := by
    rw [listens, served]
    cases back <;> decide
  refine next_of_dev ((if_neg goes).trans ?_)
  rw [is]
  rfl

end

/-! ### A COLDSTART frame arrives (R294, R305) -/

/-- A ring frame goes on by the other port where neither port is wrapped (R294). -/
theorem forwardCopies_open {n : NetSt} {east : Bool} (f : BtnFrame) (in_ : (n.side east).wrapped = false) (up : (n.side (!east)).up = true)
    (out : (n.side (!east)).wrapped = false) : forwardCopies n east false f = [((if east then Port.ringW else Port.ringE), f)] := by
  cases east
  · have in_ : n.west.wrapped = false := in_
    have up : n.east.up = true := up
    have out : n.east.wrapped = false := out
    simp [forwardCopies, in_, up, out]
  · have in_ : n.east.wrapped = false := in_
    have up : n.west.up = true := up
    have out : n.west.wrapped = false := out
    simp [forwardCopies, in_, up, out]
/-- A frame that is noted leaves the ports' links and wraps as they are. -/
theorem noteRing_side (d : Dev) (east : Bool) (f : BtnFrame) (e : Bool) :
    ((noteRing d east f).net.side e).up = (d.net.side e).up ∧ ((noteRing d east f).net.side e).wrapped = (d.net.side e).wrapped := by
  cases east <;> cases e <;> exact ⟨rfl, rfl⟩

/-- The device once a COLDSTART frame is noted and has gone on by the other port. -/
def Dev.coldPassed (d : Dev) (dir : Bool) (f : BtnFrame) : Dev :=
  if f.nodeId == d.nodeId || d.mutedRing f.nodeId then noteRing d dir f else forward (noteRing d dir f) dir false f (d.gt + 640)

section
variable (d : Dev) (dir : Bool) (f : BtnFrame)

theorem Dev.coldPassed_core : d.SameCore (d.coldPassed dir f) := ((Dev.SameCore.refl d).onNet _).ite (((Dev.SameCore.refl d).onNet _).onNet _)
theorem Dev.coldPassed_time : (d.coldPassed dir f).time = d.time := by unfold Dev.coldPassed; split <;> rfl
theorem Dev.coldPassed_host : (d.coldPassed dir f).host = d.host := by unfold Dev.coldPassed; split <;> rfl
theorem Dev.coldPassed_nodeId : (d.coldPassed dir f).nodeId = d.nodeId := by unfold Dev.coldPassed; split <;> rfl
theorem Dev.coldPassed_standalone : (d.coldPassed dir f).standalone = d.standalone := by unfold Dev.coldPassed; split <;> rfl
theorem Dev.coldPassed_tn : (d.coldPassed dir f).tn = d.tn := by unfold Dev.coldPassed; split <;> rfl
theorem Dev.coldPassed_net : (d.coldPassed dir f).net.ring = d.net.ring ∧ (d.coldPassed dir f).net.heard = d.net.heard := by
  unfold Dev.coldPassed
  split <;> cases dir <;> exact ⟨rfl, rfl⟩
/-- A frame of a node that is not muted goes on by the other port. -/
theorem Dev.coldPassed_lastTx (other : f.nodeId ≠ d.nodeId) (heard : d.mutedRing f.nodeId = false)
    (in_ : (d.net.side dir).wrapped = false) (up : (d.net.side (!dir)).up = true) (out : (d.net.side (!dir)).wrapped = false) :
    ((if dir then Port.ringW else Port.ringE), f) ∈ (d.coldPassed dir f).net.lastTx := by
  have goes : ¬ ((f.nodeId == d.nodeId || d.mutedRing f.nodeId) = true) := by simp [other, heard]
  rw [Dev.coldPassed, if_neg goes]
  show _ ∈ (NetSt.leave ..).lastTx
  rw [NetSt.leave_lastTx]
  refine List.mem_append_right _ ?_
  obtain ⟨up_, wrapped_⟩ := noteRing_side d dir f (!dir)
  rw [forwardCopies_open f ((noteRing_side d dir f dir).2.trans in_) (up_.trans up) (wrapped_.trans out)]
  exact List.mem_singleton_self _
/-- A COLDSTART frame is told to the ring's state once it has gone on (R294). -/
theorem coldRing_whole (whole : f.wrap = false) : coldRing d dir f = coldFrame (d.coldPassed dir f) f.nodeId f.dir := by
  have own : (noteRing d dir f).nodeId = d.nodeId := by cases dir <;> rfl
  have muted : (noteRing d dir f).mutedRing f.nodeId = d.mutedRing f.nodeId := by cases dir <;> rfl
  simp only [coldRing, Dev.coldPassed, whole, own, muted, Bool.not_false, Bool.and_true]
  rfl

end

/-- A COLDSTART frame of the device itself, and any in a standalone device, changes nothing more. -/
theorem coldFrame_off {d : Dev} {node : Nat} (off : d.standalone = true ∨ node = d.nodeId) (dir : Bool) : coldFrame d node dir = d :=
  if_pos (by simpa using off)

section
variable {d : Dev} {node : Nat} (ringed : d.standalone = false) (other : node ≠ d.nodeId) (dir : Bool)
include ringed other

theorem coldFrame_late (belled : d.time.belled = true) : coldFrame d node dir = d.count (cNet 3) 1 :=
  (if_neg (by simp [ringed, other])).trans (if_pos belled)
theorem coldFrame_early (fresh : d.time.belled = false) (listens : d.net.ring = .listen ∨ d.net.ring = .backoff) : coldFrame d node dir =
    d.onNet (fun n => { n with heard := n.heard.filter (fun x => x.1 != node) ++ [(node, dir, d.clk)] }) := by
  refine (if_neg (by simp [ringed, other])).trans ((if_neg (by simp [fresh])).trans ?_)
  rcases listens with ring | ring <;> simp only [ring]
/-- Two starters back off (Table 16-3). -/
theorem coldFrame_clash (fresh : d.time.belled = false) (starts : d.net.ring = .coldstart) (first : d.gt < d.tn) : coldFrame d node dir =
    (((d.count (cNet 1) 1).count (cNet 2) 1).onTime (fun t => { t with run := false })).onNet
      (fun n => { n with ring := .backoff, since := d.clk, heard := [], integ := none }) := by
  refine (if_neg (by simp [ringed, other])).trans ((if_neg (by simp [fresh])).trans ?_)
  simp only [starts, first, if_true]
  rfl

end

theorem coldstart_passes {s : State} (served : s.dev.hubUp = true) (ringed : s.dev.offRing = false) (node : Nat) (dir : Bool) :
    exec (.coldstartFrameReceived node dir) s =
      s.onDev (fun d => coldFrame (d.coldPassed dir (coldstartOf node dir false 0)) node dir) := by
  exact next_of_dev ((if_neg (by simp [served, ringed])).trans (coldRing_whole _ _ _ rfl))
theorem coldstart_idle {s : State} (idle : s.dev.hubUp = false ∨ s.dev.offRing = true) (node : Nat) (dir : Bool) :
    exec (.coldstartFrameReceived node dir) s = .next s :=
  next_of_dev (if_pos (by simpa using idle))

theorem ringSyncLost_loses {s : State} (served : s.dev.hubUp = true) (runs : s.dev.time.run = true) (ringed : s.dev.standalone = false)
    (synced : s.dev.time.syncLost = false) : exec .ringSyncLost s = s.onDev (fun d =>
      (((d.onTime (fun t => { t with syncLost := true, nextRate := some 0, carry := 0 })).onNet
        (fun n => { n with synced := false, inBound := 0, sending := false })).note 0x2B 0 0 1 0).ring 26) :=
  next_of_dev ((if_pos (by simp [served, runs])).trans (if_neg (by simp [ringed, synced])))

/-- Settles O39: the window's end by whom the device heard, a COLDSTART frame by the state that hears it. -/
theorem ringStart : Obligations.RingStart := by
  intro s
  refine ⟨fun back served listens => ⟨fun none_ capable fresh => ?_, fun none_ no => ?_, fun node dir t one => ?_, fun x y z two capable => ?_⟩,
    fun l b => ?_, fun node dir => ⟨fun idle => coldstart_idle idle node dir, fun served ringed => ?_⟩, fun t member heard => ?_, fun no => ?_,
    fun served runs ringed synced => ?_⟩
  · refine does_of_onDev (listenWindowEnd_heard served listens) ?_
    have is : ((s.dev.listened back).coldCapable && !(s.dev.listened back).time.belled) = true := by
      rw [Dev.listened_belled]
      show (s.dev.coldCapable && _) = true
      simp [capable, fresh]
    simp only [none_, is, if_true]
    refine ⟨rfl, rfl, rfl, rfl, rfl, rfl, ?_, fun ⟨up, open_⟩ => ?_, fun ⟨up, open_⟩ => ?_, coldstartSend_core (s.dev.listened back)⟩
    · exact Nat.le_trans (Nat.le_max_right ..) (Dev.toClk_clk ..).ge
    · exact ⟨_, coldstartSend_lastTx (s.dev.listened back) (ringCopies_east (n := s.dev.net) up open_ _), rfl, rfl, rfl, rfl, btnSeal_sealed _⟩
    · exact ⟨_, coldstartSend_lastTx (s.dev.listened back) (ringCopies_west (n := s.dev.net) up open_ _), rfl, rfl, rfl, rfl, btnSeal_sealed _⟩
  · refine does_of_onDev (listenWindowEnd_heard served listens) ?_
    have is : ((s.dev.listened back).coldCapable && !(s.dev.listened back).time.belled) = false := by
      rw [Dev.listened_belled]
      show (s.dev.coldCapable && _) = false
      rcases no with no | no <;> simp [no]
    simp only [none_, is, Bool.false_eq_true, if_false]
    exact ⟨rfl, (Dev.SameCore.refl s.dev).toClk _ |>.onNet _⟩
  · refine does_of_onDev (listenWindowEnd_heard served listens) ?_
    simp only [one]
    split
    · next fresh =>
      exact ⟨rfl, (((Dev.SameCore.refl s.dev).toClk _).onNet _).onTime _, fun _ => ⟨rfl, congrArg (BitVec.ofNat 64) (Nat.zero_add _)⟩⟩
    · next old =>
      refine ⟨rfl, ((Dev.SameCore.refl s.dev).toClk _).onNet _, fun fresh => absurd ?_ old⟩
      rw [Dev.listened_belled, fresh]
      rfl
  · refine does_of_onDev (listenWindowEnd_heard served listens) ?_
    have is : (s.dev.listened back).coldCapable = true := capable
    simp only [two, is, if_true]
    exact ⟨rfl, Dev.counted_of_host (x := s.dev) rfl rfl, (((Dev.SameCore.refl s.dev).toClk _).count _ _).onNet _⟩
  · refine next_of_dev (if_pos ?_)
    simp [l, b]
  · have passes {d : Dev} (other : node ≠ s.dev.nodeId)
        (leaves : d.net.lastTx = (s.dev.coldPassed dir (coldstartOf node dir false 0)).net.lastTx)
        (heard : s.dev.mutedRing node = false) (in_ : (s.dev.net.side dir).wrapped = false) (up : (s.dev.net.side (!dir)).up = true)
        (out : (s.dev.net.side (!dir)).wrapped = false) :
        ∃ f : BtnFrame, ((if dir then Port.ringW else Port.ringE), f) ∈ d.net.lastTx ∧ f.type = 3 ∧ f.nodeId = node :=
      ⟨coldstartOf node dir false 0, leaves ▸ Dev.coldPassed_lastTx s.dev dir (coldstartOf node dir false 0) other heard in_ up out, rfl, rfl⟩
    have time := s.dev.coldPassed_time dir (coldstartOf node dir false 0)
    have host := s.dev.coldPassed_host dir (coldstartOf node dir false 0)
    obtain ⟨ring, heard⟩ := s.dev.coldPassed_net dir (coldstartOf node dir false 0)
    have core := s.dev.coldPassed_core dir (coldstartOf node dir false 0)
    have id_ := s.dev.coldPassed_nodeId dir (coldstartOf node dir false 0)
    have alone := s.dev.coldPassed_standalone dir (coldstartOf node dir false 0)
    have tn := s.dev.coldPassed_tn dir (coldstartOf node dir false 0)
    have runs := coldstart_passes served ringed node dir
    refine ⟨fun off => does_of_onDev runs ?_, fun many other => ⟨fun belled => does_of_onDev runs ?_, fun fresh listens => does_of_onDev runs ?_,
      fun fresh starts first => does_of_onDev runs ?_⟩⟩
    all_goals
      generalize s.dev.coldPassed dir (coldstartOf node dir false 0) = x at *
    · rw [coldFrame_off (by rwa [alone, id_]) dir]
      exact ⟨ring, heard, time, host, core⟩
    · rw [coldFrame_late (alone.trans many) (id_ ▸ other) dir (by rw [time, belled])]
      exact ⟨ring, heard, time, Dev.counted_of_host (x := x) host rfl, passes other rfl, core.count _ _⟩
    · rw [coldFrame_early (alone.trans many) (id_ ▸ other) dir (by rw [time, fresh]) (by rwa [ring])]
      refine ⟨ring, ?_, time, passes other rfl, core.onNet _⟩
      show x.net.heard.filter _ ++ [(node, dir, x.time.clk)] = _
      rw [heard, time]
      rfl
    · rw [coldFrame_clash (alone.trans many) (id_ ▸ other) dir (by rw [time, fresh]) (by rw [ring, starts])
        (by show x.time.gt.toNat < x.tn; rw [time, tn]; exact first)]
      refine ⟨rfl, ?_, rfl, rfl, ?_, passes other rfl, (((core.count _ _).count _ _).onTime _).onNet _⟩
      · show x.time.clk = _
        rw [time]
        rfl
      · show { x.time with run := false } = _
        rw [time]
  · have is : exec .memberSilenceTimeout s = s.onDev (fun d => (d.toClk (t + 4 * d.tn)).onNet (fun n =>
        { n with ring := .listen, since := (d.toClk (t + 4 * d.tn)).clk, heard := [], sending := false, synced := false, inBound := 0,
                 heardAt := none })) := by
      refine next_of_dev ?_
      simp only [member, heard]
    refine does_of_onDev is ⟨rfl, (Nat.le_max_right ..).trans (Dev.toClk_clk ..).ge, TimeSt.toClk_cycle .., TimeSt.toClk_bellGt .., rfl,
      ((Dev.SameCore.refl _).toClk _).onNet _⟩
  · refine next_of_dev ?_
    dsimp only
    split
    · next member heard => simp [member, heard] at no
    · rfl
  · refine does_of_onDev (ringSyncLost_loses served runs ringed synced) ⟨?_, ?_, ?_, Dev.ring_set _ (by decide), ?_⟩
    · simp
    · simp
    · simp
    · exact ((((Dev.SameCore.refl s.dev).onTime _).onNet _).note _ _ _ _ _).ring _

end Sys2Proof.Machine
end

section
/-! SUPPORT. A frame on a ring port (R38, R272, R279, R294, R295, R297): noted, guarded, forwarded, and then taken or counted. -/

namespace Sys2Proof.Machine
open Sys2Proof

section
variable (d : Dev) (r : SlotRec) (east : Bool) (f : BtnFrame) (arrival : Nat)

/-- The offset of R295 for a frame: the hops from its sender at HOP_DELAY. -/
def Dev.ringOff : Int := d.hops f.nodeId f.dir * d.hopDelay
/-- A direct copy that arrived then lies in its window (R295). -/
def Dev.ringInWin : Bool :=
  decide (((arrival + 640 : Int) - (d.slotNear r (arrival + 640) (d.ringOff f) + d.ringOff f)).natAbs ≤ (d.window : Int).natAbs)
/-- The device once the copy is noted at its port and its sender's guard has counted it. -/
def Dev.ringGuarded : Dev := guardRing (noteRing d east f) f.nodeId (d.ringInWin r f arrival)
/-- The device once the copy has gone on, where it goes on. -/
def Dev.ringPassed : Dev :=
  if d.ringInWin r f arrival && !(d.ringGuarded r east f arrival).mutedRing f.nodeId then
    forward (d.ringGuarded r east f arrival) east false f (arrival + 640)
  else d.ringGuarded r east f arrival
/-- What a member keeps of a frame that it takes, before its bank. -/
def Dev.ringHeard (d : Dev) : Dev :=
  let d := hearMember (measureMember d f (8 * (arrival + 640))) f
  if f.nodeId == d.partnerId && d.paired then d.onPair (fun p => { p with ringTx := some f.txTime }) else d

variable {d r east f arrival}
variable (there : d.slotRec f.slot = some r) (ring : r.ring = true) (whole : f.wrap = false) (other : f.nodeId ≠ d.nodeId)
  (runs : d.time.run = true)
include there ring whole other runs

/-- A copy with a wrong FCS or E2E_CRC is counted in its slot; nothing but its way on is left of it. -/
theorem ringFrame_damaged (bad : (!f.fcsOk || f.e2eCrc != btnCrc f) = true) : ∃ fwd : Bool, ringFrame d east f arrival =
    (if fwd then forward d east true f (arrival + 640) else d).count (cSlot r.number 4) 1 := by
  have notOwn : (f.nodeId == d.nodeId) = false := by simpa using other
  have port : r.onPort (if east then Port.ringE else Port.ringW) = true := by cases east <;> exact ring
  have damaged : frameBad f r false = true := by simp only [frameBad, bad, Bool.true_or]
  refine ⟨d.ringInWin r f arrival && !d.mutedRing f.nodeId, ?_⟩
  unfold ringFrame
  simp only [bad, port, Bool.false_eq_true, if_false, there, whole, notOwn, runs, Bool.not_false, Bool.not_true, Bool.and_false,
    Bool.and_self, Option.isSome_some, if_true, Bool.false_or, damaged, Bool.true_and, Bool.false_and]
  rfl
/-- A good copy is noted, guarded and passed on, and then counted or taken. -/
theorem ringFrame_good (good : (!f.fcsOk || f.e2eCrc != btnCrc f) = false) (valid : frameBad f r false = false) :
    ringFrame d east f arrival =
      if !d.ringInWin r f arrival then (noteTn (d.ringPassed r east f arrival) r f).count
        (cSlot r.number (if (arrival + 640 : Int) < d.slotNear r (arrival + 640) (d.ringOff f) + d.ringOff f then 2 else 3)) 1
      else if (d.ringGuarded r east f arrival).mutedRing f.nodeId then noteTn (d.ringPassed r east f arrival) r f
      else modeFrame (integrateOn (takeCopy (Dev.ringHeard f arrival (noteTn (d.ringPassed r east f arrival) r f)) r f true) f r) f := by
  have notOwn : (f.nodeId == d.nodeId) = false := by simpa using other
  have rec_ : (noteRing d east f).slotRec f.slot = some r := there
  have near (a off : Int) : (noteRing d east f).slotNear r a off = d.slotNear r a off := rfl
  have hops (n : Nat) (dir : Bool) : (noteRing d east f).hops n dir = d.hops n dir := rfl
  have hop : (noteRing d east f).hopDelay = d.hopDelay := rfl
  have window : (noteRing d east f).window = d.window := rfl
  have port : r.onPort (if east then Port.ringE else Port.ringW) = true := by cases east <;> exact ring
  unfold ringFrame
  simp only [good, port, Bool.false_eq_true, if_false, rec_, near, hops, hop, window, whole, notOwn, runs, Bool.not_false, Bool.not_true,
    Bool.and_self, Option.isSome_some, if_true, Bool.false_or, valid, ring, Bool.true_and, Bool.false_and, Bool.true_or]
  refine if_congr Iff.rfl rfl (if_congr Iff.rfl rfl (congrArg (fun x => modeFrame (integrateOn x f r) f) ?_))
  refine congrArg (takeCopy _ r f) ?_
  split <;> rfl
end

/-! ### What each stage keeps -/

/-- What a frame that a member takes leaves alone: the ring's state, the open request, what leaves, and all that the ring does not serve. -/
def Dev.RingKept (d d' : Dev) : Prop :=
  d'.net.ring = d.net.ring ∧ d'.net.req = d.net.req ∧ d'.net.lastTx = d.net.lastTx ∧ d'.lanes = d.lanes ∧ d'.vot = d.vot ∧ d'.gd = d.gd ∧
    d'.edge = d.edge ∧ d'.safe = d.safe
/-- What a frame leaves alone before it is taken: the slots' banks and what was heard in them. -/
def Dev.Untaken (d d' : Dev) : Prop := d.RingKept d' ∧ d'.net.rx = d.net.rx ∧ d'.net.banks = d.net.banks

theorem Dev.RingKept.trans {d x d' : Dev} (h : d.RingKept x) (h' : x.RingKept d') : d.RingKept d' := by
  obtain ⟨ring, req, tx, lanes, vot, gd, edge, safe⟩ := h
  obtain ⟨ring', req', tx', lanes', vot', gd', edge', safe'⟩ := h'
  exact ⟨ring'.trans ring, req'.trans req, tx'.trans tx, lanes'.trans lanes, vot'.trans vot, gd'.trans gd, edge'.trans edge, safe'.trans safe⟩
theorem Dev.Untaken.trans {d x d' : Dev} (h : d.Untaken x) (h' : x.Untaken d') : d.Untaken d' :=
  ⟨h.1.trans h'.1, h'.2.1.trans h.2.1, h'.2.2.trans h.2.2⟩

theorem Dev.SameCore.trans {d x d' : Dev} (h : d.SameCore x) (h' : x.SameCore d') : d.SameCore d' := by
  obtain ⟨lanes, vot, gd, edge, can, pair, safe, mgmt, boot, test, pwr⟩ := h
  obtain ⟨lanes', vot', gd', edge', can', pair', safe', mgmt', boot', test', pwr'⟩ := h'
  exact ⟨lanes'.trans lanes, vot'.trans vot, gd'.trans gd, edge'.trans edge, can'.trans can, pair'.trans pair, safe'.trans safe,
    mgmt'.trans mgmt, boot'.trans boot, test'.trans test, pwr'.trans pwr⟩
theorem Dev.SameCore.countIf {d d' : Dev} (h : d.SameCore d') (b : Bool) (a : Nat) : d.SameCore (d'.countIf b a) :=
  (h.count a 1).ite h
theorem Dev.countIf_lookup_ne (d : Dev) (b : Bool) {a o : Nat} (other : o ≠ a) :
    lookupNat (d.countIf b a).host.cnt o = lookupNat d.host.cnt o := by
  unfold Dev.countIf
  split
  · exact d.count_lookup_ne 1 other
  · rfl

section
variable (d : Dev) (r : SlotRec) (east : Bool) (f : BtnFrame) (arrival id : Nat) (w : Bool)

/-- What stood of node id's guard. -/
def Dev.guardOf : GuardSt := (d.net.mutes.find? (fun x => x.id == id)).getD (GuardSt.reset id)
/-- The guard of node id once it has counted a copy. -/
def Dev.guarded : GuardSt :=
  { d.guardOf id with
    viol := if w then 0 else (d.guardOf id).viol + 1
    muted := (d.guardOf id).muted || decide (3 ≤ if w then 0 else (d.guardOf id).viol + 1)
    frames := (d.guardOf id).frames + 1
    bad := (d.guardOf id).bad || !w }

theorem Dev.guardOf_id : (d.guardOf id).id = id := by
  unfold Dev.guardOf
  cases found : d.net.mutes.find? (fun x => x.id == id) with
  | none => rfl
  | some x =>
    have is : (x.id == id) = true := List.find?_some (p := fun x : GuardSt => x.id == id) found
    simpa using is
theorem guardRing_core : d.SameCore (guardRing d id w) := (((Dev.SameCore.refl d).countIf _ _).countIf _ _).onNet _
theorem guardRing_net : (guardRing d id w).net = { d.net with mutes := d.net.mutes.filter (fun x => x.id != id) ++ [d.guarded id w] } := by
  unfold guardRing
  simp only [Dev.onNet_net, Dev.countIf_net]
  rfl
/-- A guard counts under its node's addresses alone. -/
theorem guardRing_lookup_ne {a : Nat} (n0 : a ≠ cNode id 0) (n1 : a ≠ cNode id 1) :
    lookupNat (guardRing d id w).host.cnt a = lookupNat d.host.cnt a :=
  (Dev.countIf_lookup_ne _ _ n1).trans (Dev.countIf_lookup_ne _ _ n0)
/-- A copy in its window mutes nobody. -/
theorem guardRing_unmuted (heard : d.mutedRing id = false) : (guardRing d id true).mutedRing id = false := by
  have quiet : (d.guardOf id).muted = false := by
    unfold Dev.guardOf
    cases found : d.net.mutes.find? (fun x => x.id == id) with
    | none => rfl
    | some x =>
      have each := List.any_eq_false.mp heard x (List.mem_of_find?_eq_some found)
      have is : (x.id == id) = true := List.find?_some (p := fun x : GuardSt => x.id == id) found
      simpa [is] using each
  unfold Dev.mutedRing
  rw [guardRing_net, List.any_append, Bool.or_eq_false_iff]
  refine ⟨List.any_eq_false.mpr fun x kept => ?_, by simp [Dev.guarded, quiet]⟩
  have : x.id ≠ id := by simpa using (List.mem_filter.mp kept).2
  simp [this]

theorem noteRing_kept : d.Untaken (noteRing d east f) := by
  cases east <;> exact ⟨⟨rfl, rfl, rfl, rfl, rfl, rfl, rfl, rfl⟩, rfl, rfl⟩
theorem guardRing_kept : d.Untaken (guardRing d id w) := by
  obtain ⟨lanes, vot, gd, edge, -, -, safe, -⟩ := guardRing_core d id w
  refine ⟨⟨?_, ?_, ?_, lanes, vot, gd, edge, safe⟩, ?_, ?_⟩ <;> rw [guardRing_net]
theorem Dev.ringGuarded_kept : d.Untaken (d.ringGuarded r east f arrival) := (noteRing_kept d east f).trans (guardRing_kept _ _ _)
theorem Dev.ringGuarded_core : d.SameCore (d.ringGuarded r east f arrival) := guardRing_core (noteRing d east f) _ _

/-- Two frames of a slot T_N apart show the ring's own T_N (R38). -/
theorem noteTn_right (right : ∀ x, lookupNat d.net.seenTx r.number = some x → f.cycle = x.1 + 1 → f.txTime - x.2 = BitVec.ofNat 64 d.tn) :
    noteTn d r f = d.onNet (fun n => { n with seenTx := putNat n.seenTx r.number (f.cycle, f.txTime) }) := by
  unfold noteTn
  cases seen : lookupNat d.net.seenTx r.number with
  | none => simp
  | some x =>
    have fine : (f.cycle == x.1 + 1 && f.txTime - x.2 != BitVec.ofNat 64 d.tn) = false := by
      by_cases next_ : f.cycle = x.1 + 1
      · simp [right x seen next_]
      · simp only [beq_false_of_ne next_, Bool.false_and]
    simp only [fine, Bool.or_false, Bool.false_and, Bool.false_eq_true, if_false]

/-- Such a frame leaves no mark but itself. -/
theorem noteTn_kept (right : ∀ x, lookupNat d.net.seenTx r.number = some x → f.cycle = x.1 + 1 → f.txTime - x.2 = BitVec.ofNat 64 d.tn) :
    d.Untaken (noteTn d r f) ∧ d.SameCore (noteTn d r f) ∧ (noteTn d r f).net.mutes = d.net.mutes ∧ (noteTn d r f).host = d.host := by
  rw [noteTn_right d r f right]
  exact ⟨⟨⟨rfl, rfl, rfl, rfl, rfl, rfl, rfl, rfl⟩, rfl, rfl⟩, (Dev.SameCore.refl d).onNet _, rfl, rfl⟩
/-- What a slot's frames have shown of T_N is what it was until the frame is noted. -/
theorem Dev.ringPassed_seen : (d.ringPassed r east f arrival).net.seenTx = d.net.seenTx ∧ (d.ringPassed r east f arrival).tn = d.tn := by
  have guarded : (d.ringGuarded r east f arrival).net.seenTx = d.net.seenTx ∧ (d.ringGuarded r east f arrival).tn = d.tn := by
    have core := d.ringGuarded_core r east f arrival
    obtain ⟨-, -, -, -, -, -, -, -, boot, -⟩ := core
    refine ⟨?_, by simp only [Dev.tn, boot]⟩
    unfold Dev.ringGuarded
    rw [guardRing_net]
    cases east <;> rfl
  unfold Dev.ringPassed
  split <;> exact guarded

/-- A member's record is all that its update changes. -/
theorem NetSt.onMember_members (n : NetSt) (g : MemberSt → MemberSt) : ∃ l, n.onMember id g = { n with members := l } := by
  unfold NetSt.onMember
  split <;> exact ⟨_, rfl⟩
theorem measureMember_kept (a : Int) : d.Untaken (measureMember d f a) := by
  obtain ⟨l, is⟩ : ∃ l, (measureMember d f a).net = { d.net with members := l } := by
    unfold measureMember
    rw [Dev.onNet_net]
    exact NetSt.onMember_members ..
  refine ⟨⟨?_, ?_, ?_, rfl, rfl, rfl, rfl, rfl⟩, ?_, ?_⟩ <;> rw [is]
theorem hearMember_kept : d.Untaken (hearMember d f) := by
  obtain ⟨l, is⟩ := NetSt.onMember_members f.nodeId d.net (fun m => { m with inCyc := true, mode := f.modeCur })
  have net : ∃ l at_, (hearMember d f).net = { d.net with members := l, heardAt := at_ } := by
    unfold hearMember
    simp only [Dev.onNet_net, is]
    split <;> exact ⟨_, _, rfl⟩
  obtain ⟨l, at_, is⟩ := net
  refine ⟨⟨?_, ?_, ?_, rfl, rfl, rfl, rfl, rfl⟩, ?_, ?_⟩ <;> rw [is]
theorem Dev.ringHeard_kept : d.Untaken (Dev.ringHeard f arrival d) := by
  have heard := (measureMember_kept d f (8 * (arrival + 640))).trans (hearMember_kept _ f)
  unfold Dev.ringHeard
  dsimp only
  split
  · exact heard
  · exact heard

end

section
variable (r : SlotRec) (f : BtnFrame)

/-- The network once frame f, the slot's k-th copy, is remembered as the slot's last and fills its bank. -/
def NetSt.tookCopy (n : NetSt) (k : Nat) : NetSt :=
  let n : NetSt := { n with rx := n.rx.filter (fun x => x.slot != r.number) ++ [⟨r.number, some (f.seq, f.cycle, f.txTime), k⟩] }
  if n.banks.any (fun b => b.key == r.number) then
    { n with banks := n.banks.map (fun b => if b.key == r.number then { b with filling := some f.payload } else b) }
  else { n with banks := n.banks ++ [⟨r.number, some f.payload, [], false⟩] }

theorem NetSt.tookCopy_kept (n : NetSt) (k : Nat) : (n.tookCopy r f k).ring = n.ring ∧ (n.tookCopy r f k).req = n.req ∧
    (n.tookCopy r f k).lastTx = n.lastTx := by
  unfold NetSt.tookCopy
  dsimp only
  split <;> exact ⟨rfl, rfl, rfl⟩
theorem NetSt.tookCopy_rx (n : NetSt) (k : Nat) : ⟨r.number, some (f.seq, f.cycle, f.txTime), k⟩ ∈ (n.tookCopy r f k).rx := by
  unfold NetSt.tookCopy
  dsimp only
  split <;> exact List.mem_append_right _ (List.mem_singleton_self _)
/-- The slot's bank holds the payload, and no other bank has changed. -/
theorem NetSt.tookCopy_banks (n : NetSt) (k : Nat) :
    (∃ b ∈ (n.tookCopy r f k).banks, b.key = r.number ∧ b.filling = some f.payload) ∧
    ∀ b ∈ n.banks, b.key ≠ r.number → b ∈ (n.tookCopy r f k).banks := by
  unfold NetSt.tookCopy
  dsimp only
  split
  · next there =>
    obtain ⟨b, mem, key⟩ := List.any_eq_true.mp there
    refine ⟨⟨_, List.mem_map_of_mem mem, ?_, ?_⟩, fun o kept other => List.mem_map.mpr ⟨o, kept, by simp [other]⟩⟩
    · rw [if_pos key]
      exact eq_of_beq key
    · simp [key]
  · exact ⟨⟨_, List.mem_append_right _ (List.mem_singleton_self _), rfl, rfl⟩, fun o kept _ => List.mem_append_left _ kept⟩

/-- A frame of a new SEQ is counted and taken (R279, R280). -/
theorem takeCopy_fresh {d : Dev} (fresh : ∀ x ∈ d.net.rx, x.slot = r.number → ∀ y, x.last = some y → y.1 ≠ f.seq) :
    ∃ (x : Dev) (k : Nat), x.net = d.net ∧ d.SameCore x ∧ takeCopy d r f true = x.onNet (·.tookCopy r f k) := by
  cases old : d.net.rx.find? (fun x => x.slot == r.number) with
  | none =>
    refine ⟨(d.countIf false (cSlot r.number 7)).count (cSlot r.number 0) 1, 1, rfl, (Dev.SameCore.refl d).count _ _, ?_⟩
    unfold takeCopy
    simp only [old, Bool.false_and, Bool.false_eq_true, if_false, if_true]
    rfl
  | some x =>
    have there := List.mem_of_find?_eq_some old
    have slot : (x.slot == r.number) = true := List.find?_some (p := fun x : SlotRx => x.slot == r.number) old
    cases last : x.last with
    | none =>
      refine ⟨(d.countIf false (cSlot r.number 7)).count (cSlot r.number 0) 1, x.copies + 1, rfl, (Dev.SameCore.refl d).count _ _, ?_⟩
      unfold takeCopy
      simp only [old, last, Bool.false_and, Bool.false_eq_true, if_false, if_true]
      rfl
    | some y =>
      have new : (y.1 == f.seq) = false := beq_false_of_ne (fresh x there (by simpa using slot) y last)
      refine ⟨(d.countIf (f.seq != y.1 + 1) (cSlot r.number 7)).count (cSlot r.number 0) 1, x.copies + 1, Dev.countIf_net .., ?_, ?_⟩
      · exact ((Dev.SameCore.refl d).countIf _ _).count _ _
      · unfold takeCopy
        simp only [old, last, new, Bool.false_and, Bool.false_eq_true, if_false, if_true]
        rfl

end

theorem integrateOn_member {d : Dev} (member : d.net.ring = .member) (f : BtnFrame) (r : SlotRec) : integrateOn d f r = d :=
  if_neg (by simp [member])
theorem modeFrame_quiet {d : Dev} {f : BtnFrame} (none_ : d.net.req = none) (plain : f.req = false) : modeFrame d f = d := by
  simp [modeFrame, none_, plain]

/-- A copy that goes on leaves the rest of the network as it is. -/
theorem forward_kept (d : Dev) (east bad : Bool) (f : BtnFrame) (a : Nat) : (forward d east bad f a).net.ring = d.net.ring ∧
    (forward d east bad f a).net.req = d.net.req ∧ (forward d east bad f a).net.rx = d.net.rx ∧
    (forward d east bad f a).net.banks = d.net.banks ∧ d.SameCore (forward d east bad f a) :=
  ⟨rfl, rfl, rfl, rfl, (Dev.SameCore.refl d).onNet _⟩

section
variable {d : Dev} {r : SlotRec} {east : Bool} {f : BtnFrame} {arrival : Nat}
variable (there : d.slotRec f.slot = some r) (ring : r.ring = true) (whole : f.wrap = false) (other : f.nodeId ≠ d.nodeId)
  (runs : d.time.run = true) (good : (!f.fcsOk || f.e2eCrc != btnCrc f) = false) (valid : frameBad f r false = false)
  (right : ∀ x, lookupNat d.net.seenTx r.number = some x → f.cycle = x.1 + 1 → f.txTime - x.2 = BitVec.ofNat 64 d.tn)
include there ring whole other runs good valid right

/-- A good copy in its window is forwarded and taken. -/
theorem ringFrame_taken (inWin : d.ringInWin r f arrival = true) (heard : d.mutedRing f.nodeId = false) (member : d.net.ring = .member)
    (plain : f.req = false) (none_ : d.net.req = none)
    (fresh : ∀ x ∈ d.net.rx, x.slot = r.number → ∀ y, x.last = some y → y.1 ≠ f.seq) :
    ∃ (x : Dev) (k : Nat), (forward (d.ringGuarded r east f arrival) east false f (arrival + 640)).Untaken x ∧ x.net.rx = d.net.rx ∧
      x.net.banks = d.net.banks ∧ ringFrame d east f arrival = x.onNet (·.tookCopy r f k) := by
  obtain ⟨⟨gRing, gReq, -⟩, gRx, gBanks⟩ := d.ringGuarded_kept r east f arrival
  have unmuted : (d.ringGuarded r east f arrival).mutedRing f.nodeId = false := by
    unfold Dev.ringGuarded
    rw [inWin]
    refine guardRing_unmuted _ _ ?_
    cases east <;> exact heard
  have passed : d.ringPassed r east f arrival = forward (d.ringGuarded r east f arrival) east false f (arrival + 640) := by
    unfold Dev.ringPassed
    rw [inWin, unmuted]
    rfl
  obtain ⟨fRing, fReq, fRx, fBanks, -⟩ := forward_kept (d.ringGuarded r east f arrival) east false f (arrival + 640)
  obtain ⟨seen, tn⟩ := d.ringPassed_seen r east f arrival
  obtain ⟨noted, -⟩ := noteTn_kept (d.ringPassed r east f arrival) r f (by rwa [seen, tn])
  have kept := noted.trans (Dev.ringHeard_kept _ f arrival)
  have is := ringFrame_good (arrival := arrival) (east := east) there ring whole other runs good valid
  rw [inWin, unmuted] at is
  simp only [Bool.not_true, Bool.false_eq_true, if_false] at is
  rw [passed] at kept is
  generalize Dev.ringHeard f arrival (noteTn (forward (d.ringGuarded r east f arrival) east false f (arrival + 640)) r f) = y at kept is
  obtain ⟨⟨kRing, kReq, -⟩, kRx, kBanks⟩ := id kept
  have rx : y.net.rx = d.net.rx := kRx.trans (fRx.trans gRx)
  obtain ⟨x, k, net, ⟨lanes, vot, gd, edge, -, -, safe, -⟩, took⟩ := takeCopy_fresh r f (d := y) (by rwa [rx])
  obtain ⟨tRing, tReq, -⟩ := x.net.tookCopy_kept r f k
  have member_ : (x.onNet (·.tookCopy r f k)).net.ring = .member :=
    tRing.trans ((congrArg NetSt.ring net).trans (kRing.trans (fRing.trans (gRing.trans member))))
  have free : (x.onNet (·.tookCopy r f k)).net.req = none :=
    tReq.trans ((congrArg NetSt.req net).trans (kReq.trans (fReq.trans (gReq.trans none_))))
  rw [took, integrateOn_member member_, modeFrame_quiet free plain] at is
  refine ⟨x, k, kept.trans ⟨⟨?_, ?_, ?_, lanes, vot, gd, edge, safe⟩, ?_, ?_⟩, ?_, ?_, is⟩
  all_goals rw [net]
  · exact rx
  · exact kBanks.trans (fBanks.trans gBanks)

end

/-- A copy in its window that no wrap stops leaves by the other port. -/
theorem ringGuarded_forwards {d : Dev} {east : Bool} {f : BtnFrame} (r : SlotRec) (arrival a : Nat) (in_ : (d.net.side east).wrapped = false)
    (up : (d.net.side (!east)).up = true) (out : (d.net.side (!east)).wrapped = false) :
    ((if east then Port.ringW else Port.ringE), f) ∈ (forward (d.ringGuarded r east f arrival) east false f a).net.lastTx := by
  have side (e : Bool) : (d.ringGuarded r east f arrival).net.side e = (noteRing d east f).net.side e := by
    unfold Dev.ringGuarded
    rw [guardRing_net]
    rfl
  have noted (e : Bool) := noteRing_side d east f e
  show _ ∈ (NetSt.leave ..).lastTx
  rw [NetSt.leave_lastTx, forwardCopies_open f ((congrArg RingPort.wrapped (side _)).trans ((noted _).2.trans in_))
    ((congrArg RingPort.up (side _)).trans ((noted _).1.trans up)) ((congrArg RingPort.wrapped (side _)).trans ((noted _).2.trans out))]
  exact List.mem_append_right _ (List.mem_singleton_self _)

/-- The ring's guard touches no counter of a slot. -/
theorem ringGuarded_counts (d : Dev) (r : SlotRec) (east : Bool) (f : BtnFrame) (arrival : Nat) {k : Nat} (small : r.number < 256) (which : k < 8) :
    lookupNat (d.ringGuarded r east f arrival).host.cnt (cSlot r.number k) = lookupNat d.host.cnt (cSlot r.number k) := by
  have below (i : Nat) : cSlot r.number k ≠ cNode f.nodeId i := by
    unfold cSlot cNode
    omega
  exact (guardRing_lookup_ne _ _ _ (below 0) (below 1)).trans rfl
/-- The sender's guard, once it has counted the copy. -/
theorem ringGuarded_mutes (d : Dev) (r : SlotRec) (east : Bool) (f : BtnFrame) (arrival : Nat) :
    d.guarded f.nodeId (d.ringInWin r f arrival) ∈ (d.ringGuarded r east f arrival).net.mutes := by
  unfold Dev.ringGuarded
  rw [guardRing_net]
  refine List.mem_append_right _ (List.mem_singleton.mpr ?_)
  cases east <;> rfl

theorem btnFrameReceived_ring {s : State} (served : s.dev.hubUp = true) (ringed : s.dev.offRing = false) (east : Bool) {f : BtnFrame}
    (data : f.type = 1) (a : BitVec 64) : exec (.btnFrameReceived (if east then .ringE else .ringW) f a) s =
      s.onDev (fun d => ringFrame (d.toGt a.toNat) east f a.toNat) := by
  have ringed : ¬ ((s.dev.toGt a.toNat).offRing = true) := by
    show ¬ (s.dev.offRing = true)
    simp [ringed]
  have served : (s.dev.toGt a.toNat).hubUp = true := served
  have warm : ¬ ((decide (f.type = 3) && f.fcsOk && f.e2eCrc == btnCrc f && f.ver == 1) = true) := by simp [data]
  cases east
  · exact next_of_dev ((if_neg (by simp [served])).trans ((if_neg ringed).trans (if_neg warm)))
  · exact next_of_dev ((if_neg (by simp [served])).trans ((if_neg ringed).trans (if_neg warm)))

/-- Settles O35: by the copy's checks and its window, each stage with what it keeps. -/
theorem ringFrames : Obligations.RingFrames := by
  intro s east f r a port arr off start old served ringed runs there ring small whole data right other
  have runs_ : (s.dev.toGt a.toNat).time.run = true := (TimeSt.toGt_run ..).trans runs
  have near (x off : Int) : (s.dev.toGt a.toNat).slotNear r x off = s.dev.slotNear r x off := by
    have bell : (s.dev.toGt a.toNat).time.bellGt = s.dev.time.bellGt := TimeSt.toGt_bellGt ..
    simp only [Dev.slotNear, bell]
    rfl
  have win : (s.dev.toGt a.toNat).ringInWin r f a.toNat = decide ((arr - (start + off)).natAbs ≤ s.dev.window) := by
    unfold Dev.ringInWin
    rw [near]
    rfl
  have exec_ := btnFrameReceived_ring served ringed east data a
  refine ⟨fun ⟨fcs, crc, ver, node, len, len'⟩ => ?_, fun bad => ?_⟩
  · have good : (!f.fcsOk || f.e2eCrc != btnCrc f) = false := by simp [fcs, ← crc]
    have valid : frameBad f r false = false := by simp [frameBad, fcs, ← crc, ver, node, data, len, len']
    refine ⟨fun inWin heard member plain nak none_ fresh => ?_, fun out => ?_⟩
    · obtain ⟨x, k, ⟨⟨-, -, tx, lanes, vot, gd, edge, safe⟩, -⟩, rx, banks, is⟩ := ringFrame_taken (d := s.dev.toGt a.toNat) (east := east) there
        ring whole other runs_ good valid right (win.trans (decide_eq_true inWin)) heard member plain none_ fresh
      obtain ⟨⟨-, -, -, lanes', vot', gd', edge', safe'⟩, -⟩ := (s.dev.toGt a.toNat).ringGuarded_kept r east f a.toNat
      obtain ⟨filled, kept⟩ := x.net.tookCopy_banks r f k
      refine does_of_dev (exec_.trans (next_of_dev is)) ⟨filled, fun b there => kept b (banks ▸ there),
        ⟨_, x.net.tookCopy_rx r f k, rfl, rfl⟩, fun up out in_ => ?_, lanes.trans lanes', vot.trans vot', gd.trans gd', edge.trans edge', safe.trans safe'⟩
      show _ ∈ (NetSt.tookCopy ..).lastTx
      rw [(x.net.tookCopy_kept r f k).2.2, tx]
      have sides : s.dev.net.side (!east) = if east then s.dev.net.west else s.dev.net.east := by cases east <;> rfl
      exact ringGuarded_forwards r a.toNat _ in_ (by rw [← sides] at up; exact up) (by rw [← sides] at out; exact out)
    · have no : (s.dev.toGt a.toNat).ringInWin r f a.toNat = false := win.trans (decide_eq_false (by omega))
      have is := ringFrame_good (d := s.dev.toGt a.toNat) (east := east) (arrival := a.toNat) there ring whole other runs_ good valid
      have passed : (s.dev.toGt a.toNat).ringPassed r east f a.toNat = (s.dev.toGt a.toNat).ringGuarded r east f a.toNat := by
        unfold Dev.ringPassed
        rw [no]
        rfl
      rw [no] at is
      simp only [Bool.not_false, if_true] at is
      obtain ⟨seen, tn⟩ := (s.dev.toGt a.toNat).ringPassed_seen r east f a.toNat
      obtain ⟨⟨⟨-, -, tx, -⟩, rx, banks⟩, core, mutes, host⟩ := noteTn_kept ((s.dev.toGt a.toNat).ringPassed r east f a.toNat) r f (by rwa [seen, tn])
      rw [passed] at is tx rx banks core mutes host
      obtain ⟨⟨⟨-, -, tx', -⟩, rx', banks'⟩, core'⟩ := And.intro ((s.dev.toGt a.toNat).ringGuarded_kept r east f a.toNat)
        ((s.dev.toGt a.toNat).ringGuarded_core r east f a.toNat)
      have late : (s.dev.toGt a.toNat).slotNear r (a.toNat + 640) ((s.dev.toGt a.toNat).ringOff f) + (s.dev.toGt a.toNat).ringOff f = start + off := by
        rw [near]
        rfl
      rw [late] at is
      have guard_ := fun k => ringGuarded_counts (s.dev.toGt a.toNat) r east f a.toNat (k := k) small
      have mine := ringGuarded_mutes (s.dev.toGt a.toNat) r east f a.toNat
      rw [no] at mine
      generalize (s.dev.toGt a.toNat).ringGuarded r east f a.toNat = y at *
      refine does_of_dev (exec_.trans (next_of_dev is)) ⟨banks.trans banks', rx.trans rx', tx.trans tx', ?_, ?_, (core'.trans core).count _ _⟩
      · refine (Dev.count_grew _ _).trans ?_
        rw [host, guard_ _ (by split_ifs <;> decide)]
        rfl
      · exact ⟨_, (congrArg (_ ∈ ·) mutes).mpr mine, Dev.guardOf_id .., rfl, rfl⟩
  · have damaged : (!f.fcsOk || f.e2eCrc != btnCrc f) = true := by
      rcases bad with bad | bad <;> simp [bad]
    obtain ⟨fwd, is⟩ := ringFrame_damaged (d := s.dev.toGt a.toNat) (east := east) (arrival := a.toNat) there ring whole other runs_ damaged
    have host : (if fwd then forward (s.dev.toGt a.toNat) east true f (a.toNat + 640) else s.dev.toGt a.toNat).host = s.dev.host := by
      cases fwd <;> rfl
    have core : s.dev.SameCore (if fwd then forward (s.dev.toGt a.toNat) east true f (a.toNat + 640) else s.dev.toGt a.toNat) :=
      Dev.SameCore.ite (((Dev.SameCore.refl _).toGt _).onNet _) ((Dev.SameCore.refl _).toGt _)
    refine does_of_dev (exec_.trans (next_of_dev is)) ⟨?_, ?_, Dev.counted_of_host host rfl, core.count _ _⟩
    · cases fwd <;> rfl
    · cases fwd <;> rfl

end Sys2Proof.Machine
end

section
/-! SUPPORT. What a received CAN frame makes of its channel (R310, R319 to R321, R327). -/

namespace Sys2Proof.Machine
open Sys2Proof

/-- What was counted on a device with the counters of d, whatever rings afterwards. -/
theorem Dev.counted_of_cnt {d x d' : Dev} {a : Nat} (before : x.host.cnt = d.host.cnt) (after : d'.host.cnt = (x.count a 1).host.cnt) :
    d.Counted d' a := by
  obtain ⟨grew, others⟩ := x.count_counted a
  unfold Dev.Counted Dev.Grew
  rw [after, ← before]
  exact ⟨grew, others⟩
/-- A doorbell of a channel touches no counter. -/
theorem canBell_cnt (d : Dev) (ch ie : Nat) : (canBell d ch ie).host.cnt = d.host.cnt := by
  unfold canBell
  dsimp only
  split_ifs <;> rfl

/-- Counters that leave the bus state as it is are only noted (R310). -/
theorem canErrors_same {d : Dev} {ch rec : Nat} (state : busOf (d.chan ch).tec rec = (d.chan ch).bus) (tec : (d.chan ch).tec < 256)
    (low : rec < 256) :
    d.ChanBecomes ch { d.chan ch with rec_ := rec } (canErrors d ch (d.chan ch).tec rec) ∧ (canErrors d ch (d.chan ch).tec rec).host = d.host ∧
      (canErrors d ch (d.chan ch).tec rec).time = d.time := by
  have tecStays : min 255 (d.chan ch).tec = (d.chan ch).tec := by omega
  have recStays : min 255 rec = rec := by omega
  have noted := (Dev.ChanBecomes.start d ch).onCan (fun x => { x with tec := (d.chan ch).tec, rec_ := rec, bus := (d.chan ch).bus })
  have is : canErrors d ch (d.chan ch).tec rec = d.onCan ch (fun x => { x with tec := (d.chan ch).tec, rec_ := rec, bus := (d.chan ch).bus }) := by
    rw [canErrors, if_pos state, tecStays, recStays, state]
  rw [is]
  exact ⟨noted, rfl, rfl⟩

/-! ### Where a frame goes -/

/-- Where filter i sends a frame that it matches (R320, R327). -/
def routeTo (d : Dev) (ch i : Nat) (f : CanFrame) : Dev :=
  if ((d.chan ch).filts.getD i (0, 0)).1.getLsbD 30 then d
  else if (d.chan ch).laneOwn then laneRx d ch i f
  else if 16 ≤ (d.chan ch).fifo.length then (d.count (cCan ch 1) 1).onCan ch (fun c => { c with rxOvf := true })
  else canBell (d.onCan ch (fun c => { c with fifo := c.fifo ++ [frameObj f i] })) ch 2
/-- What a frame makes of a channel whose counters are noted (R319). -/
def routeFrame (d : Dev) (ch : Nat) (f : CanFrame) : Dev :=
  if !(d.chan ch).laneOwn && filtMatch (d.chan ch).hpFilt f then
    if (d.chan ch).hp.isSome then (d.count (cCan ch 2) 1).onCan ch (fun c => { c with hpLost := true })
    else canBell (d.onCan ch (fun c => { c with hp := some (frameObj f 0x3F), hpLock := false })) ch 3
  else ((List.range 32).find? (fun i => filtMatch ((d.chan ch).filts.getD i (0, 0)) f)).elim (d.count (cCan ch 0) 1) (routeTo d ch · f)

section
variable {s : State} {ch : Nat} (f : CanFrame) (rec : Nat)

theorem exec_canFrameReceived : exec (.canFrameReceived ch f rec) s = s.onDev (fun d => onChan d ch (fun d =>
    if 2 ≤ (d.chan ch).bus then d
    else if f.fdf && f.res then canBell ((d.count (cCan ch 5) 1).onCan ch (fun c => { c with bus := 3 })) ch 0
    else routeFrame (canErrors d ch (d.chan ch).tec rec) ch f)) := by
  refine congrArg (fun g => s.onDev (fun d => onChan d ch g)) (funext fun d => ?_)
  refine if_congr Iff.rfl rfl (if_congr Iff.rfl rfl ?_)
  generalize canErrors d ch (d.chan ch).tec rec = e
  unfold routeFrame
  refine if_congr Iff.rfl rfl ?_
  cases (List.range 32).find? (fun i => filtMatch ((e.chan ch).filts.getD i (0, 0)) f) <;> rfl

end

/-- The first of the 32 filters that matches. -/
theorem find_first {hit : Nat → Bool} {i : Nat} (low : i < 32) (hits : hit i = true) (before : ∀ k, k < i → hit k = false) :
    (List.range 32).find? hit = some i := by
  rw [List.find?_range_eq_some]
  exact ⟨hits, List.mem_range.mpr low, fun k lt => by simp [before k lt]⟩

section
variable {d : Dev} {ch : Nat} {c : CanSt} {f : CanFrame} {e : Dev} (here : d.ChanBecomes ch c e) (inside : ch < d.can.length)
include here

theorem Dev.ChanBecomes.countIf (b : Bool) (a : Nat) : d.ChanBecomes ch c (e.countIf b a) := by
  unfold Dev.countIf
  split
  · exact here.count a 1
  · exact here

include inside

/-- A frame for the lane objects fills the object of its filter, and no other (R327). -/
theorem laneRx_becomes (i : Nat) : ∃ c' : CanSt, d.ChanBecomes ch c' (laneRx e ch i f) ∧
    (∃ r ∈ c'.lanes, r.obj = i ∧ r.filling = some (frameObj f i) ∧ r.endGt = e.gt) ∧
    (∀ r ∈ c.lanes, r.obj ≠ i → r ∈ c'.lanes) ∧ c'.fifo = c.fifo ∧ c'.hp = c.hp := by
  unfold laneRx
  rw [here.chan inside]
  dsimp only
  split
  · next there =>
    obtain ⟨r, mem, obj⟩ := List.any_eq_true.mp there
    refine ⟨_, (here.countIf ..).onCan _, ⟨_, List.mem_map_of_mem mem, ?_⟩, fun o kept other => List.mem_map.mpr ⟨o, kept, ?_⟩, rfl, rfl⟩
    · rw [if_pos obj]
      exact ⟨eq_of_beq obj, rfl, rfl⟩
    · exact if_neg (by simpa using other)
  · exact ⟨_, here.onCan _, ⟨_, List.mem_append_right _ (List.mem_singleton_self _), rfl, rfl, rfl⟩,
      fun o kept _ => List.mem_append_left _ kept, rfl, rfl⟩

end

/-- Settles O42: by the filter that takes the frame, each route as what it makes of the channel. -/
theorem canReceiving : Obligations.CanReceiving := by
  intro s ch up low four c frame
  have inside : ch < s.dev.can.length := by omega
  have framed {c' : CanSt} {d : Dev} (h : s.dev.ChanBecomes ch c' d) : frame d :=
    ⟨h.chan_ne, h.lanes, h.vot, h.gd, h.edge, h.net, h.pair, h.safe⟩
  have start := Dev.ChanBecomes.start s.dev ch
  refine ⟨fun f rec on fdf res => ?_, fun f rec on plain state tec small => ?_, fun off f rec => ?_, ?_, ?_, ?_, ?_⟩
  · refine does_of_onChan up low (exec_canFrameReceived f rec) ?_
    rw [if_neg (by simp only [c] at on; omega), if_pos (by simp [fdf, res])]
    have integrates := ((start.count (cCan ch 5) 1).onCan (fun c => { c with bus := 3 })).canBell ch 0
    exact ⟨integrates.chan inside, Dev.counted_of_cnt (x := s.dev) rfl (canBell_cnt ..), framed integrates⟩
  · intro e hit first
    obtain ⟨noted, host, time⟩ := canErrors_same state tec small
    have runs {P : Dev → Prop} (result : P (routeFrame (canErrors s.dev ch (s.dev.chan ch).tec rec) ch f)) : Does (.canFrameReceived ch f rec) s P := by
      refine does_of_onChan up low (exec_canFrameReceived f rec) ?_
      rw [if_neg (by simp only [c] at on; omega), if_neg (by simp [plain])]
      exact result
    generalize canErrors s.dev ch (s.dev.chan ch).tec rec = x at noted host time runs
    have chan := noted.chan inside
    have first_ {i : Nat} (is : first i) : routeFrame x ch f = routeTo x ch i f := by
      obtain ⟨low, hits, before, noHp⟩ := is
      rw [routeFrame, chan, if_neg (by rcases noHp with h | h <;> simp only [c] at h <;> simp [h])]
      exact congrArg (Option.elim · _ _) (find_first low hits before)
    refine ⟨fun own hpHit free => runs ?_, fun own hpHit full => runs ?_, fun noHp none_ => runs ?_, fun i is => ⟨fun discards => runs ?_,
      fun keeps own room => runs ?_, fun keeps own full => runs ?_, fun keeps own => runs ?_⟩⟩
    · simp only [c] at own hpHit free
      rw [routeFrame, chan, if_pos (by simp [own, hpHit]), if_neg (by simp [free])]
      have filled := (noted.onCan (fun c => { c with hp := some (frameObj f 0x3F), hpLock := false })).canBell ch 3
      exact ⟨filled.chan inside, framed filled⟩
    · simp only [c] at own hpHit full
      rw [routeFrame, chan, if_pos (by simp [own, hpHit]), if_pos (Option.isSome_iff_ne_none.mpr full)]
      have lost := (noted.count (cCan ch 2) 1).onCan (fun c => { c with hpLost := true })
      exact ⟨lost.chan inside, Dev.counted_of_host host rfl, framed lost⟩
    · have none_ : (List.range 32).find? hit = none := List.find?_eq_none.mpr fun k low => by simp [none_ k (List.mem_range.mp low)]
      rw [routeFrame, chan, if_neg (by rcases noHp with h | h <;> simp only [c] at h <;> simp [h])]
      rw [show (List.range 32).find? (fun i => filtMatch ((({ s.dev.chan ch with rec_ := rec } : CanSt).filts).getD i (0, 0)) f) = none from none_]
      exact ⟨(noted.count _ _).chan inside, Dev.counted_of_host host rfl, framed (noted.count _ _)⟩
    · rw [first_ is, routeTo, chan, if_pos discards]
      exact ⟨chan, host, framed noted⟩
    · rw [first_ is, routeTo, chan, if_neg (by rw [keeps]; decide), if_neg (by rw [own]; decide), if_neg (by simp only [c] at room; simpa using room)]
      have queued := (noted.onCan (fun c => { c with fifo := c.fifo ++ [frameObj f i] })).canBell ch 2
      exact ⟨queued.chan inside, framed queued⟩
    · rw [first_ is, routeTo, chan, if_neg (by rw [keeps]; decide), if_neg (by rw [own]; decide), if_pos full]
      have lost := (noted.count (cCan ch 1) 1).onCan (fun c => { c with rxOvf := true })
      exact ⟨lost.chan inside, Dev.counted_of_host host rfl, framed lost⟩
    · rw [first_ is, routeTo, chan, if_neg (by rw [keeps]; decide), if_pos own]
      obtain ⟨c', becomes, ⟨r, mem, obj, filling, endGt⟩, others, fifo, hp⟩ := laneRx_becomes noted inside (f := f) i
      rw [becomes.chan inside]
      exact ⟨⟨r, mem, obj, filling, endGt.trans (congrArg (fun t => t.gt.toNat) time)⟩, others, fifo, hp, framed becomes⟩
  · exact exec_of_idle (exec_canFrameReceived f rec) (if_pos off)
  · exact does_of_onChan up low rfl ⟨(start.onCan _).chan inside, rfl, framed (start.onCan _)⟩
  · exact does_of_onChan up low rfl ⟨(start.onCan _).chan inside, rfl, framed (start.onCan _)⟩
  · exact does_of_onChan up low rfl ⟨(start.onCan _).chan inside, rfl, framed (start.onCan _)⟩
  · exact does_of_onChan up low rfl ⟨(start.onCan _).chan inside, rfl, framed (start.onCan _)⟩

end Sys2Proof.Machine
end

section
/-! SUPPORT. Which CAN buffer is sent, how its attempt ends, and how a voted frame enters its buffer (R316 to R318, R323, R326). -/

namespace Sys2Proof.Machine
open Sys2Proof

/-- What was counted stays counted where the host window stays. -/
theorem Dev.counted_of_counted {d x d' : Dev} {a : Nat} (same : d'.host = x.host) (counted : d.Counted x a) : d.Counted d' a := by
  unfold Dev.Counted Dev.Grew at *
  rwa [same]

/-! ### The buffer that is sent (R316) -/

/-- The earlier of two places with the smaller key. -/
def leastOf (key : Nat → Nat) (acc : Option Nat) (b : Nat) : Option Nat := match acc with
  | none => some b
  | some a => if key b < key a then some b else some a

theorem leastOf_fold (key : Nat → Nat) (l : List Nat) (a : Nat) :
    ∃ b, l.foldl (leastOf key) (some a) = some b ∧ b ∈ a :: l ∧ ∀ k ∈ a :: l, key b ≤ key k := by
  induction l generalizing a with
  | nil => exact ⟨a, rfl, List.mem_singleton_self a, fun k here => (List.mem_singleton.mp here) ▸ Nat.le_refl _⟩
  | cons x rest ih =>
    by_cases less : key x < key a
    · obtain ⟨b, is, mem, least⟩ := ih x
      refine ⟨b, by rw [List.foldl_cons, leastOf, if_pos less, is], List.mem_cons_of_mem _ mem, List.forall_mem_cons.mpr ⟨?_, least⟩⟩
      exact (least x List.mem_cons_self).trans less.le
    · obtain ⟨b, is, mem, least⟩ := ih a
      obtain ⟨first, others⟩ := List.forall_mem_cons.mp least
      refine ⟨b, by rw [List.foldl_cons, leastOf, if_neg less, is], ?_, List.forall_mem_cons.mpr ⟨first, List.forall_mem_cons.mpr ⟨by omega, others⟩⟩⟩
      rcases List.mem_cons.mp mem with here | there
      · exact here ▸ List.mem_cons_self
      · exact List.mem_cons_of_mem _ (List.mem_cons_of_mem _ there)

/-- The buffers that wait. -/
def CanSt.waiting (c : CanSt) : List Nat := [0, 1, 2].filter (fun b => (c.buf b).req)
theorem CanSt.mem_waiting {c : CanSt} {b : Nat} : b ∈ c.waiting ↔ b < 3 ∧ (c.buf b).req = true := by
  have three : b ∈ [0, 1, 2] ↔ b < 3 := by simp; omega
  rw [CanSt.waiting, List.mem_filter, three]
/-- Where one waits, the chosen buffer waits, and its key, or its index, is the lowest of all that wait. -/
theorem chooseBuf_least {c : CanSt} {k : Nat} (low : k < 3) (waits : (c.buf k).req = true) : ∃ b, chooseBuf c = some b ∧ b < 3 ∧
    (c.buf b).req = true ∧ (c.order = false → arbKey (c.buf b).obj ≤ arbKey (c.buf k).obj) ∧ (c.order = true → b ≤ k) := by
  have mine : k ∈ c.waiting := CanSt.mem_waiting.mpr ⟨low, waits⟩
  cases order : c.order with
  | true =>
    have chosen : chooseBuf c = c.waiting.head? := if_pos order
    obtain ⟨b, rest, is⟩ : ∃ b rest, c.waiting = b :: rest := List.exists_cons_of_ne_nil (List.ne_nil_of_mem mine)
    have first : b ∈ c.waiting := is ▸ List.mem_cons_self
    have sorted : c.waiting.Pairwise (· < ·) := List.Pairwise.filter _ (by decide : [0, 1, 2].Pairwise (· < ·))
    rw [is] at mine sorted chosen
    refine ⟨b, chosen, (CanSt.mem_waiting.mp first).1, (CanSt.mem_waiting.mp first).2, fun no => (Bool.noConfusion no), fun _ => ?_⟩
    rcases List.mem_cons.mp mine with here | there
    · exact here.ge
    · exact (List.rel_of_pairwise_cons sorted there).le
  | false =>
    have chosen : chooseBuf c = c.waiting.foldl (leastOf (fun b => arbKey (c.buf b).obj)) none := if_neg (by simp [order])
    obtain ⟨a, rest, is⟩ : ∃ a rest, c.waiting = a :: rest := List.exists_cons_of_ne_nil (List.ne_nil_of_mem mine)
    obtain ⟨b, found, mem, least⟩ := leastOf_fold (fun b => arbKey (c.buf b).obj) rest a
    rw [← is] at mem least
    rw [is] at chosen
    exact ⟨b, chosen.trans found, (CanSt.mem_waiting.mp mem).1, (CanSt.mem_waiting.mp mem).2, fun _ => least k mine, fun no => (Bool.noConfusion no)⟩

/-! ### How an attempt ends (R317, R318, R323) -/

theorem Dev.ChanBecomes.note {d d' : Dev} {ch : Nat} {c : CanSt} (h : d.ChanBecomes ch c d') (t u i k v : Nat) :
    d.ChanBecomes ch c (d'.note t u i k v) := by
  obtain ⟨can, lanes, vot, gd, edge, net, pair, safe, time⟩ := h
  constructor <;> simpa

section
variable {d e : Dev} {ch b : Nat} {c : CanSt} (here : d.ChanBecomes ch c e) (inside : ch < d.can.length)
include here

/-- A buffer for which no frame waits stays. -/
theorem takeRepl_none (none_ : (c.buf b).repl = none) : d.ChanBecomes ch c (takeRepl e ch b) := by
  have taken := here.onCan (·.onBuf b (fun x => match x.repl with
    | some o => { x with obj := o, repl := none, req := true, abort := false, coll := 0, result := if x.req then 5 else x.result }
    | none => x))
  have same : (c.onBuf b (fun x => match x.repl with
      | some o => { x with obj := o, repl := none, req := true, abort := false, coll := 0, result := if x.req then 5 else x.result }
      | none => x)) = c := by
    refine (CanSt.onBuf_congr (g := id) ?_).trans CanSt.onBuf_id
    simp only [none_, id]
  rw [same] at taken
  exact taken

include inside

/-- Counters that leave the bus state as it is are only noted. -/
theorem canErrors_noted {tec rec : Nat} (state : busOf tec rec = c.bus) (low : tec < 256) (low' : rec < 256) :
    d.ChanBecomes ch { c with tec := tec, rec_ := rec } (canErrors e ch tec rec) ∧ (canErrors e ch tec rec).host = e.host := by
  have noted := here.onCan (fun x => { x with tec := min 255 tec, rec_ := min 255 rec, bus := busOf tec rec })
  have is : canErrors e ch tec rec = e.onCan ch (fun x => { x with tec := min 255 tec, rec_ := min 255 rec, bus := busOf tec rec }) :=
    if_pos (by rw [here.chan inside, state])
  rw [is]
  have tecStays : min 255 tec = tec := by omega
  have recStays : min 255 rec = rec := by omega
  rw [tecStays, recStays, state] at noted ⊢
  exact ⟨noted, rfl⟩
/-- Bus-off ends every requested buffer, and no frame waits any more (R323). -/
theorem canErrors_off {tec : Nat} (rec : Nat) (on : c.bus < 2) (high : 256 ≤ tec) : ∃ c' : CanSt, d.ChanBecomes ch
    (({ c' with sending := none, bufs := c.bufs.map (fun b => { b with repl := none }) } : CanSt).endBufs 4) (canErrors e ch tec rec) ∧
    c'.bus = 2 ∧ c'.initReq = c.initReq := by
  have state : busOf tec rec = 2 := if_pos high
  have noted := here.onCan (fun x => { x with tec := min 255 tec, rec_ := min 255 rec, bus := 2 })
  have held := ((noted.canBell ch 0).onCan (fun c => { c with sending := none, boRec := false, bufs := c.bufs.map (fun b => { b with repl := none }) }))
  refine ⟨{ c with tec := min 255 tec, rec_ := min 255 rec, bus := 2, boRec := false }, ?_, rfl, rfl⟩
  unfold canErrors
  rw [state, here.chan inside]
  dsimp only
  rw [if_neg (by omega), if_pos rfl]
  exact ((((endAll_becomes inside held 4).count _ _).count _ _).note _ _ _ _ _).noteDegraded

end

/-! ### The end of an attempt -/

section
variable (d : Dev) (ch b : Nat) (ts : Word) {how : CanEnd}

/-- The channel once the attempt of buffer b is over and its collisions are n. -/
def CanSt.attempted (c : CanSt) (b n : Nat) : CanSt := { c with sending := none }.onBuf b (fun x => { x with coll := n })

theorem CanSt.attempted_buf {c : CanSt} {b : Nat} (inside : b < c.bufs.length) (n : Nat) :
    (c.attempted b n).buf b = { c.buf b with coll := n } := CanSt.onBuf_buf (c := { c with sending := none }) inside
theorem CanSt.attempted_buf_ne {c : CanSt} {b k : Nat} (other : k ≠ b) (n : Nat) : (c.attempted b n).buf k = c.buf k :=
  CanSt.onBuf_buf_ne (c := { c with sending := none }) other

/-- The channel once the attempt is over and its buffer has become what f makes of it. -/
theorem CanSt.ended_buf {c : CanSt} {b : Nat} (inside : b < c.bufs.length) (n : Nat) (f : CanBuf → CanBuf) :
    ((c.attempted b n).onBuf b f).buf b = f { c.buf b with coll := n } := by
  rw [CanSt.onBuf_buf (by rw [CanSt.attempted, CanSt.onBuf_length]; exact inside), CanSt.attempted_buf inside]
theorem CanSt.ended_buf_ne {c : CanSt} {b k : Nat} (other : k ≠ b) (n : Nat) (f : CanBuf → CanBuf) :
    ((c.attempted b n).onBuf b f).buf k = c.buf k := (CanSt.onBuf_buf_ne other).trans (CanSt.attempted_buf_ne other n)

theorem CanSt.buf_map {c c' : CanSt} {k : Nat} (inside : k < c.bufs.length) {f : CanBuf → CanBuf} :
    ({ c' with sending := none, bufs := c.bufs.map f } : CanSt).buf k = f (c.buf k) := by
  simp [CanSt.buf, List.getD, inside]

theorem attemptEnd_success : d.ChanBecomes ch (((d.chan ch).attempted b 0).onBuf b (fun x => { x with obj := { x.obj with ts := ts } }.finish 1))
    (attemptEnd d ch b ts .success) :=
  (((Dev.ChanBecomes.start d ch).onCan (·.attempted b 0)).onCan (·.onBuf b (fun x => { x with obj := { x.obj with ts := ts } }.finish 1))).canBell ch 1
/-- The collisions of a buffer after an attempt. -/
def collAfter (d : Dev) (ch b : Nat) (how : CanEnd) : Nat := if how = .collision then ((d.chan ch).buf b).coll + 1 else 0
theorem attemptEnd_abort (failed : how ≠ .success) (abort : ((d.chan ch).buf b).abort = true) :
    d.ChanBecomes ch (((d.chan ch).attempted b (collAfter d ch b how)).onBuf b (·.finish 2)) (attemptEnd d ch b ts how) := by
  have ended := (((Dev.ChanBecomes.start d ch).onCan (·.attempted b (collAfter d ch b how))).onCan (·.onBuf b (·.finish 2))).canBell ch 1
  rw [attemptEnd, if_neg failed, if_pos abort]
  exact ended
/-- An attempt that failed and was not to be aborted: collisions end it at the limit. -/
theorem attemptEnd_failed (inside : ch < d.can.length) (failed : how ≠ .success) (abort : ((d.chan ch).buf b).abort = false) :
    attemptEnd d ch b ts how =
      if how = .collision && decide ((d.chan ch).collLim ≤ collAfter d ch b how) then
        canBell (canBell (((d.onCan ch (·.attempted b (collAfter d ch b how))).onCan ch (·.onBuf b (·.finish 3))).count (cCan ch 3) 1) ch 1) ch 0
      else d.onCan ch (·.attempted b (collAfter d ch b how)) := by
  have chan := ((Dev.ChanBecomes.start d ch).onCan (·.attempted b (collAfter d ch b how))).chan inside
  have limit : ((d.onCan ch (·.attempted b (collAfter d ch b how))).chan ch).collLim = (d.chan ch).collLim := by rw [chan]; rfl
  rw [← limit]
  exact (if_neg failed).trans (if_neg (by simp [abort]))
theorem attemptEnd_limit (inside : ch < d.can.length) (abort : ((d.chan ch).buf b).abort = false)
    (limit : (d.chan ch).collLim ≤ ((d.chan ch).buf b).coll + 1) :
    d.ChanBecomes ch (((d.chan ch).attempted b (((d.chan ch).buf b).coll + 1)).onBuf b (·.finish 3)) (attemptEnd d ch b ts .collision) ∧
      d.Counted (attemptEnd d ch b ts .collision) (cCan ch 3) := by
  have noted := (Dev.ChanBecomes.start d ch).onCan (·.attempted b (((d.chan ch).buf b).coll + 1))
  rw [attemptEnd_failed d ch b ts inside (fun no => CanEnd.noConfusion no) abort, if_pos (by simp [collAfter, limit])]
  exact ⟨(((noted.onCan (·.onBuf b (·.finish 3))).count _ _).canBell ch 1).canBell ch 0,
    Dev.counted_of_cnt (x := d) rfl ((canBell_cnt ..).trans ((canBell_cnt ..).trans rfl))⟩
theorem attemptEnd_waits (inside : ch < d.can.length) (failed : how ≠ .success) (abort : ((d.chan ch).buf b).abort = false)
    (below : how = .collision → ((d.chan ch).buf b).coll + 1 < (d.chan ch).collLim) :
    d.ChanBecomes ch ((d.chan ch).attempted b (collAfter d ch b how)) (attemptEnd d ch b ts how) ∧ (attemptEnd d ch b ts how).host = d.host := by
  have goes : ¬ ((decide (how = .collision) && decide ((d.chan ch).collLim ≤ collAfter d ch b how)) = true) := by
    by_cases hits : how = .collision
    · simp [collAfter, hits, below hits]
    · simp [hits]
  rw [attemptEnd_failed d ch b ts inside failed abort, if_neg goes]
  exact ⟨(Dev.ChanBecomes.start d ch).onCan (·.attempted b (collAfter d ch b how)), rfl⟩

end

section
variable {s : State} {ch b tec rec : Nat} {ts : Word} {how : CanEnd}

theorem exec_canAttemptEnd (how : CanEnd) (tec rec : Nat) : exec (.canAttemptEnd ch how tec rec) s = s.onDev (fun d => onChan d ch (fun d =>
    match (d.chan ch).sending with
    | none => d
    | some (b, ts) =>
      if 256 ≤ tec then
        let d' := canErrors ((d.countIf (how = .collision && decide ((d.chan ch).collLim ≤ collAfter d ch b how)) (cCan ch 3)).onCan ch
          (·.onBuf b (fun x => { x with coll := collAfter d ch b how }))) ch tec rec
        if (d'.chan ch).initReq then canOffBus d' ch else d'
      else
        let d' := takeRepl (canErrors (attemptEnd d ch b ts how) ch tec rec) ch b
        if (d'.chan ch).initReq then canOffBus d' ch else d')) := rfl

variable (up : s.dev.hubUp = true) (low : ch < 4) (inside : ch < s.dev.can.length) (sends : (s.dev.chan ch).sending = some (b, ts))
include up low inside sends

/-- An attempt that leaves the bus state as it is: its buffer's fate, and then the counters. -/
theorem canAttemptEnd_ends {c : CanSt} {P : Dev → Prop} (ended : s.dev.ChanBecomes ch c (attemptEnd s.dev ch b ts how))
    (state : busOf tec rec = c.bus) (small : tec < 256) (small' : rec < 256) (none_ : (c.buf b).repl = none) (stays : c.initReq = false)
    (result : ∀ d, s.dev.ChanBecomes ch { c with tec := tec, rec_ := rec } d → d.host = (attemptEnd s.dev ch b ts how).host → P d) :
    Does (.canAttemptEnd ch how tec rec) s P := by
  obtain ⟨noted, host⟩ := canErrors_noted ended inside state small small'
  have taken := takeRepl_none noted (b := b) none_
  refine does_of_onChan up low (exec_canAttemptEnd how tec rec) ?_
  simp only [sends]
  rw [if_neg (by omega), taken.chan inside, if_neg (by simp [stays])]
  exact result _ taken host

/-- An attempt that ends in bus-off (R323). -/
theorem canAttemptEnd_off {P : Dev → Prop} (on : (s.dev.chan ch).bus < 2) (high : 256 ≤ tec) (calm : (s.dev.chan ch).initReq = false)
    (result : ∀ (c' : CanSt) (n : Nat) (d : Dev), c'.bus = 2 → s.dev.ChanBecomes ch (({ c' with
      sending := none
      bufs := ((s.dev.chan ch).onBuf b (fun x => { x with coll := n })).bufs.map (fun b => { b with repl := none }) } : CanSt).endBufs 4) d → P d) :
    Does (.canAttemptEnd ch how tec rec) s P := by
  refine does_of_onChan up low (exec_canAttemptEnd how tec rec) ?_
  simp only [sends]
  rw [if_pos high]
  have hit := ((Dev.ChanBecomes.start s.dev ch).countIf (how = .collision && decide ((s.dev.chan ch).collLim ≤ collAfter s.dev ch b how))
    (cCan ch 3)).onCan
      (·.onBuf b (fun x => { x with coll := collAfter s.dev ch b how }))
  obtain ⟨c', off, bus, init⟩ := canErrors_off hit inside rec on high
  rw [off.chan inside]
  split
  · next enters =>
    have enters : c'.initReq = true := enters
    exact Bool.noConfusion ((calm.symm.trans init.symm).trans enters)
  · exact result c' _ _ bus off

end

/-! ### A voted frame enters its buffer (R326) -/

/-- The device once voted frame p is taken from the queue at its time. -/
def Dev.frameDue (d : Dev) (p : TxPay) : Dev := (d.toGt p.launch.toNat).onNet (fun n => { n with txq := n.txq.filter (fun x => x != p) })

section
variable {s : State} {desc : Nat} {g : Img} {p : TxPay} (up : s.dev.hubUp = true) (running : s.dev.boot.running = some g)
  (found : s.dev.net.txq.find? (fun p => p.desc == desc) = some p) (can : (payOf g desc).can = true)
include up running found can

theorem exec_canBufferEntry : exec (.canBufferEntry desc) s = s.onDev (fun d =>
    let t := payOf g desc
    let o : CanObj := { h0 := BitVec.ofNat 32 t.h0, h1 := BitVec.ofNat 32 t.h1, ts := 0, data := p.bytes }
    if !d.isActive then d.frameDue p
    else if (d.chan t.chan).bus = 2 then (d.frameDue p).count (cCan t.chan 7) 1
    else if ((d.chan t.chan).sending.map (·.1)) == some t.buf then (d.frameDue p).onCan t.chan (·.onBuf t.buf (fun x => { x with repl := some o }))
    else (d.frameDue p).onCan t.chan (·.onBuf t.buf (fun x =>
      { x with obj := o, req := true, abort := false, coll := 0, result := if x.req then 5 else 0 }))) := by
  refine next_of_dev ?_
  simp only [running, found]
  rw [if_neg (by simp [can, up])]
  rfl

end

theorem exec_canStartOfFrame (s : State) (ch : Nat) : exec (.canStartOfFrame ch) s = s.onDev (fun d => onChan d ch (fun d =>
    match chooseBuf (d.chan ch) with
    | some b => if (d.chan ch).canSend then
        d.onCan ch (fun c => { c with sending := some (b, BitVec.ofNat 32 d.gt) }.onBuf b (fun x => { x with obj := setEsi (c.bus == 1) x.obj }))
      else d
    | none => d)) := rfl

/-- Settles O41: the buffer of the lowest key or index, the fate of an attempt, and the entry of a voted frame. -/
theorem canSending : Obligations.CanSending := by
  intro s ch up low four three c frame
  have inside : ch < s.dev.can.length := by omega
  have framed {c' : CanSt} {d : Dev} (h : s.dev.ChanBecomes ch c' d) : frame d :=
    ⟨h.chan_ne, h.lanes, h.vot, h.gd, h.edge, h.pair, h.safe⟩
  have start := Dev.ChanBecomes.start s.dev ch
  refine ⟨fun k small waits can => ?_, fun can => ?_, fun b tec rec ts how buffer sends => ⟨fun state small small' calm none_ waits =>
    ⟨fun success => ?_, fun failed abort => ?_, fun hits abort limit => ?_, fun hits abort below => ?_, fun lost abort => ?_⟩, fun high on calm => ?_⟩,
    fun idle how tec rec => ?_, fun desc g p running found can chan buffer => ?_⟩
  · obtain ⟨b, chosen, below, req, least, first⟩ := chooseBuf_least small waits
    refine does_of_onChan up low (exec_canStartOfFrame s ch) ?_
    have chosen : chooseBuf (s.dev.chan ch) = some b := chosen
    have can : (s.dev.chan ch).canSend = true := can
    simp only [chosen, can, if_true]
    have sent := start.onCan (fun c => { c with sending := some (b, BitVec.ofNat 32 s.dev.gt) }.onBuf b (fun x => { x with obj := setEsi (c.bus == 1) x.obj }))
    exact ⟨⟨b, below, req, sent.chan inside, least, first⟩, rfl, framed sent⟩
  · refine exec_of_idle (exec_canStartOfFrame s ch) ?_
    split
    · exact if_neg (by rw [show (s.dev.chan ch).canSend = false from can]; decide)
    · rfl
  · subst success
    have becomes := CanSt.ended_buf (c := c) (three ▸ buffer) 0 (fun x => { x with obj := { x.obj with ts := ts } }.finish 1)
    refine canAttemptEnd_ends up low inside sends (attemptEnd_success s.dev ch b ts) state small small' ((congrArg CanBuf.repl becomes).trans none_) calm
      fun d h _ => ?_
    rw [h.chan inside]
    exact ⟨rfl, rfl, rfl, (congrArg CanBuf.result becomes).trans rfl, (congrArg CanBuf.req becomes).trans rfl,
      (congrArg CanBuf.obj becomes).trans rfl, fun k other => CanSt.ended_buf_ne other _ _, framed h⟩
  · have becomes := CanSt.ended_buf (c := c) (three ▸ buffer) (collAfter s.dev ch b how) (·.finish 2)
    refine canAttemptEnd_ends up low inside sends (attemptEnd_abort s.dev ch b ts failed abort) state small small'
      ((congrArg CanBuf.repl becomes).trans none_) calm fun d h _ => ?_
    rw [h.chan inside]
    exact ⟨rfl, (congrArg CanBuf.result becomes).trans rfl, (congrArg CanBuf.req becomes).trans rfl, (congrArg CanBuf.obj becomes).trans rfl, framed h⟩
  · subst hits
    have becomes := CanSt.ended_buf (c := c) (three ▸ buffer) ((c.buf b).coll + 1) (·.finish 3)
    obtain ⟨ended, counted⟩ := attemptEnd_limit s.dev ch b ts inside abort limit
    refine canAttemptEnd_ends up low inside sends ended state small small' ((congrArg CanBuf.repl becomes).trans none_) calm fun d h host => ?_
    rw [h.chan inside]
    exact ⟨rfl, (congrArg CanBuf.result becomes).trans rfl, (congrArg CanBuf.req becomes).trans rfl,
      Dev.counted_of_counted host counted, framed h⟩
  · subst hits
    obtain ⟨ended, host⟩ := attemptEnd_waits s.dev ch b ts (how := .collision) inside (fun no => CanEnd.noConfusion no) abort (fun _ => below)
    have becomes := CanSt.attempted_buf (c := c) (three ▸ buffer) (collAfter s.dev ch b .collision)
    refine canAttemptEnd_ends up low inside sends ended state small small' ((congrArg CanBuf.repl becomes).trans none_) calm fun d h host' => ?_
    rw [h.chan inside]
    exact ⟨rfl, becomes, host'.trans host, framed h⟩
  · have failed : how ≠ .success ∧ how ≠ .collision := by rcases lost with rfl | rfl <;> decide
    obtain ⟨ended, host⟩ := attemptEnd_waits s.dev ch b ts inside failed.1 abort (fun hits => absurd hits failed.2)
    have becomes := CanSt.attempted_buf (c := c) (three ▸ buffer) (collAfter s.dev ch b how)
    refine canAttemptEnd_ends up low inside sends ended state small small' ((congrArg CanBuf.repl becomes).trans none_) calm fun d h host' => ?_
    rw [h.chan inside]
    have zero : collAfter s.dev ch b how = 0 := if_neg failed.2
    rw [zero] at becomes
    refine ⟨rfl, ?_, host'.trans host, framed h⟩
    rw [zero]
    exact becomes
  · refine canAttemptEnd_off up low inside sends on high calm fun c' n d bus h => ?_
    rw [h.chan inside]
    refine ⟨bus, rfl, fun k small => ?_, framed h⟩
    have there : k < ((s.dev.chan ch).onBuf b (fun x => { x with coll := n })).bufs.length := by rwa [CanSt.onBuf_length, three]
    rw [CanSt.endBufs_buf (by rw [List.length_map, CanSt.onBuf_length, three]) 4 small, CanSt.buf_map there]
    have req : (((s.dev.chan ch).onBuf b (fun x => { x with coll := n })).buf k).req = (c.buf k).req := by
      by_cases is : k = b
      · rw [is, CanSt.onBuf_buf (three ▸ buffer)]
      · rw [CanSt.onBuf_buf_ne is]
    rw [CanBuf.endIfReq]
    split
    · exact ⟨rfl, rfl, fun _ => rfl⟩
    · next idle => exact ⟨by simpa using idle, rfl, fun waits => absurd (req.trans waits) idle⟩
  · exact exec_of_idle (exec_canAttemptEnd how tec rec) (by simp only [show (s.dev.chan ch).sending = none from idle])
  · subst chan
    have is := exec_canBufferEntry up running found can
    have due := Dev.ChanBecomes.start (s.dev.frameDue p) (payOf g desc).chan
    have inside' : (payOf g desc).chan < (s.dev.frameDue p).can.length := inside
    intro b o gone
    have gone_ {c' : CanSt} {d : Dev} (h : (s.dev.frameDue p).ChanBecomes (payOf g desc).chan c' d)
        (others : ∀ k, k ≠ b → c'.buf k = c.buf k) : gone d := by
      refine ⟨?_, fun q there other => ?_, ⟨h.chan_ne, h.lanes, h.vot, h.gd, h.edge, h.pair, h.safe⟩, ?_⟩
      · rw [h.net]
        simp [Dev.frameDue]
      · rw [h.net]
        exact List.mem_filter.mpr ⟨there, by simpa using other⟩
      · rw [h.chan inside']
        exact others
    refine ⟨fun idle => does_of_onDev is ?_, fun active off => does_of_onDev is ?_, fun active on => does_of_onDev is ?_⟩
    · dsimp only
      rw [if_pos (by simp [idle])]
      exact ⟨rfl, gone_ due fun _ _ => rfl⟩
    · dsimp only
      rw [if_neg (by simp [active]), if_pos off]
      exact ⟨rfl, Dev.counted_of_host (x := s.dev.frameDue p) rfl rfl, gone_ (due.count _ _) fun _ _ => rfl⟩
    · dsimp only
      rw [if_neg (by simp [active]), if_neg on]
      have here : ((s.dev.chan (payOf g desc).chan).bufs).length = 3 := three
      split
      · next sends =>
        have put := due.onCan (·.onBuf b (fun x => { x with repl := some o }))
        refine ⟨rfl, gone_ put fun k other => CanSt.onBuf_buf_ne other, ?_⟩
        rw [if_pos (by simpa using sends)]
        exact (congrArg (CanSt.buf · b) (put.chan inside')).trans (CanSt.onBuf_buf (here ▸ buffer))
      · next free =>
        have put := due.onCan (·.onBuf b (fun x => { x with obj := o, req := true, abort := false, coll := 0, result := if x.req then 5 else 0 }))
        refine ⟨rfl, gone_ put fun k other => CanSt.onBuf_buf_ne other, ?_⟩
        rw [if_neg (by simpa using free)]
        exact (congrArg (CanSt.buf · b) (put.chan inside')).trans (CanSt.onBuf_buf (here ▸ buffer))

end Sys2Proof.Machine
end

section
/-! SUPPORT. The safety I/O groups: what an operation on one group makes of it, the other group and the rest staying (R349, R350, R354,
R356, R357). -/

namespace Sys2Proof.Machine
open Sys2Proof

/-! ### One group changes -/

/-- Group grpB of d has become x, and the other group, lanes, voters, drive dies, links, network, pair and start-up stayed. -/
structure Dev.SioBecomes (d : Dev) (grpB : Bool) (x : SioSt) (d' : Dev) : Prop where
  sio : d'.sio grpB = x
  other : d'.sio (!grpB) = d.sio (!grpB)
  lanes : d'.lanes = d.lanes
  vot : d'.vot = d.vot
  gd : d'.gd = d.gd
  edge : d'.edge = d.edge
  net : d'.net = d.net
  pair : d'.pair = d.pair
  boot : d'.boot = d.boot

theorem Dev.onSio_sio (d : Dev) (grpB : Bool) (f : SioSt → SioSt) : (d.onSio grpB f).sio grpB = f (d.sio grpB) := by
  cases grpB <;> rfl
theorem Dev.onSio_other (d : Dev) (grpB : Bool) (f : SioSt → SioSt) : (d.onSio grpB f).sio (!grpB) = d.sio (!grpB) := by
  cases grpB <;> rfl
theorem Dev.sio_congr {d d' : Dev} (same : d'.safe = d.safe) (grpB : Bool) : d'.sio grpB = d.sio grpB := by rw [Dev.sio, Dev.sio, same]

namespace Dev.SioBecomes
variable {d d' : Dev} {grpB : Bool} {x : SioSt}

theorem start (d : Dev) (grpB : Bool) : d.SioBecomes grpB (d.sio grpB) d := ⟨rfl, rfl, rfl, rfl, rfl, rfl, rfl, rfl, rfl⟩

variable (h : d.SioBecomes grpB x d')
include h

theorem onSio (f : SioSt → SioSt) : d.SioBecomes grpB (f x) (d'.onSio grpB f) :=
  ⟨(d'.onSio_sio ..).trans (congrArg f h.sio), (d'.onSio_other ..).trans h.other, h.lanes, h.vot, h.gd, h.edge, h.net, h.pair, h.boot⟩
theorem keeps {e : Dev} (safe : e.safe = d'.safe) (lanes : e.lanes = d'.lanes) (vot : e.vot = d'.vot) (gd : e.gd = d'.gd)
    (edge : e.edge = d'.edge) (net : e.net = d'.net) (pair : e.pair = d'.pair) (boot : e.boot = d'.boot) : d.SioBecomes grpB x e :=
  ⟨(Dev.sio_congr safe _).trans h.sio, (Dev.sio_congr safe _).trans h.other, lanes.trans h.lanes, vot.trans h.vot, gd.trans h.gd,
    edge.trans h.edge, net.trans h.net, pair.trans h.pair, boot.trans h.boot⟩
theorem onTime (f : TimeSt → TimeSt) : d.SioBecomes grpB x (d'.onTime f) := h.keeps rfl rfl rfl rfl rfl rfl rfl rfl
theorem toGt (n : Nat) : d.SioBecomes grpB x (d'.toGt n) := h.onTime _
theorem toClk (n : Nat) : d.SioBecomes grpB x (d'.toClk n) := h.onTime _
theorem count (a n : Nat) : d.SioBecomes grpB x (d'.count a n) := h.keeps rfl rfl rfl rfl rfl rfl rfl rfl
theorem countIf (b : Bool) (a : Nat) : d.SioBecomes grpB x (d'.countIf b a) := by
  unfold Dev.countIf
  split
  · exact h.count a 1
  · exact h
theorem fault (t u i c v : Nat) : d.SioBecomes grpB x (d'.fault t u i c v) := by apply h.keeps <;> simp
theorem noteDegraded : d.SioBecomes grpB x (Machine.noteDegraded d') := by apply h.keeps <;> simp
theorem outFault (out : Nat) : d.SioBecomes grpB { x with ofault := true } (d'.outFault grpB out) :=
  (((h.onSio (fun x => { x with ofault := true })).count _ _).fault _ _ _ _ _).noteDegraded

end Dev.SioBecomes

/-! ### Counters beside an event -/

/-- An event and a new value of DEGRADED count nothing but lost events (R383). -/
theorem Dev.event_lookup_ne (d : Dev) (cls : Nat) (v : Word) {a : Nat} (other : a ≠ cMgmt 15) :
    lookupNat (d.event cls v).host.cnt a = lookupNat d.host.cnt a := by
  unfold Dev.event
  dsimp only
  split_ifs
  · rfl
  · rfl
  · exact d.count_lookup_ne 1 other
theorem globalDoor_cnt (d : Dev) : (globalDoor d).host.cnt = d.host.cnt := by
  unfold globalDoor
  split <;> rfl
theorem noteDegraded_lookup_ne (d : Dev) {a : Nat} (other : a ≠ cMgmt 15) : lookupNat (noteDegraded d).host.cnt a = lookupNat d.host.cnt a := by
  unfold noteDegraded
  dsimp only
  split
  · rfl
  · rw [globalDoor_cnt, Dev.event_lookup_ne _ _ _ other, Dev.note_host]
/-- A read-back fault is counted in its group (R356). -/
theorem Dev.outFault_grew (d : Dev) (grpB : Bool) (out : Nat) : d.Grew (d.outFault grpB out) (cSafe (6 + sioIdx grpB)) := by
  have apart : cSafe (6 + sioIdx grpB) ≠ cMgmt 15 := by cases grpB <;> decide
  unfold Dev.outFault Dev.Grew
  rw [noteDegraded_lookup_ne _ apart, Dev.fault_host]
  exact (d.onSio grpB (fun x => { x with ofault := true })).count_grew _

theorem Dev.grew_of_host {d x d' : Dev} {a : Nat} (same : x.host = d.host) (grew : x.Grew d' a) : d.Grew d' a := by
  unfold Dev.Grew at *
  rwa [← same]

/-! ### Pulses -/

/-- The two outputs of a group that pulse (R356). -/
theorem pulseOut_group (grpB : Bool) {o : Nat} (low : o < 2) :
    decide (2 ≤ o + 2 * sioIdx grpB) = grpB ∧ (o + 2 * sioIdx grpB) % 2 = o ∧ ¬ 4 ≤ o + 2 * sioIdx grpB := by
  cases grpB <;> interval_cases o <;> decide

/-- The level of an output of a group that is driven. -/
def SioSt.level (x : SioSt) (grpB : Bool) (out : Nat) : Bool := match out with
  | 0 => !x.stoOff && !x.pulseS
  | 1 => !x.pbApply && !x.pulseP
  | _ => x.safeOk && !grpB
theorem Dev.sioPin_of {d d' : Dev} {grpB : Bool} {x : SioSt} (sio : d'.sio grpB = x) (pwr : d'.pwr = d.pwr) (boot : d'.boot = d.boot) (out : Nat) :
    d'.sioPin grpB out = (d.drives (7 + sioIdx grpB) && x.level grpB out) := by
  subst sio
  unfold Dev.sioPin Dev.drives Dev.domUp
  rw [pwr, boot]
  rfl
/-- The group once the pulse of output o has started at GT u. -/
def SioSt.pulsing (x : SioSt) (o u : Nat) : SioSt :=
  { x with pulseS := x.pulseS || !(o == 1), pulseP := x.pulseP || (o == 1), pulseGt := BitVec.ofNat 64 u }
/-- A pulse holds its output low, and no other (R357). -/
theorem SioSt.pulsing_low (x : SioSt) (grpB : Bool) (u : Nat) {o : Nat} (low : o < 2) : (x.pulsing o u).level grpB o = false := by
  interval_cases o <;> simp [SioSt.pulsing, SioSt.level]
theorem SioSt.pulsing_keep (x : SioSt) (grpB : Bool) (u : Nat) {o n : Nat} (low : o < 2) (other : n ≠ o) :
    (x.pulsing o u).level grpB n = x.level grpB n := by
  match n, o, low with
  | 0, 0, _ => exact absurd rfl other
  | 0, 1, _ => simp [SioSt.pulsing, SioSt.level]
  | 1, 0, _ => simp [SioSt.pulsing, SioSt.level]
  | 1, 1, _ => exact absurd rfl other
  | n + 2, _, _ => rfl
/-- When the next pulse of an output starts: one that starts at the last one's GT is over. -/
def Dev.pulseNext (d : Dev) (grpB : Bool) (out : Nat) : Nat :=
  if pulseAt out d.gt = (d.sio grpB).pulseGt.toNat && pulseAt out d.gt != 0 then pulseAt out d.gt + 128000000 else pulseAt out d.gt
/-- A pulse of an output that is high starts (R356). -/
theorem testPulseStart_pulses {s : State} {grpB : Bool} {o : Nat} (low : o < 2) (runs : s.dev.time.run = true) (high : s.dev.sioPin grpB o = true) :
    exec (.testPulseStart (o + 2 * sioIdx grpB)) s = s.onDev (fun d =>
      ((d.toGt (d.pulseNext grpB (o + 2 * sioIdx grpB))).count (cSafe (2 + (o + 2 * sioIdx grpB))) 1).onSio grpB (·.pulsing o (d.pulseNext grpB (o + 2 * sioIdx grpB)))) := by
  obtain ⟨grp, rem, inside⟩ := pulseOut_group grpB low
  refine next_of_dev ?_
  simp only [grp, rem]
  exact if_neg (by simp [runs, high]; omega)
theorem testPulseStart_idle {s : State} {grpB : Bool} {o : Nat} (low : o < 2) (off : s.dev.sioPin grpB o = false) :
    exec (.testPulseStart (o + 2 * sioIdx grpB)) s = .next s := by
  obtain ⟨grp, rem, -⟩ := pulseOut_group grpB low
  refine next_of_dev ?_
  simp only [grp, rem]
  exact if_pos (by simp [off])
/-- The group's pulse flag of an output. -/
def SioSt.pulse (x : SioSt) (o : Nat) : Bool := if o = 1 then x.pulseP else x.pulseS
/-- The group once the pulse of an output is over. -/
def SioSt.pulsed (x : SioSt) (o : Nat) : SioSt := { x with pulseS := x.pulseS && (o == 1), pulseP := x.pulseP && !(o == 1) }
theorem SioSt.pulsed_pulse (x : SioSt) {o : Nat} (low : o < 2) : (x.pulsed o).pulse o = false := by
  interval_cases o <;> simp [SioSt.pulsed, SioSt.pulse]
theorem testPulseEnd_ends {s : State} {grpB : Bool} {o : Nat} (low : o < 2) (pulses : (s.dev.sio grpB).pulse o = true) (b : Bool) :
    exec (.testPulseEnd (o + 2 * sioIdx grpB) b) s = s.onDev (fun d =>
      let e := (d.toGt ((d.sio grpB).pulseGt.toNat + 192000)).onSio grpB (·.pulsed o)
      if b then e else e.outFault grpB o) := by
  obtain ⟨grp, rem, inside⟩ := pulseOut_group grpB low
  refine next_of_dev ?_
  simp only [grp, rem]
  refine if_neg ?_
  simp only [SioSt.pulse] at pulses
  simp [pulses]
  omega
theorem testPulseEnd_idle {s : State} {grpB : Bool} {o : Nat} (low : o < 2) (idle : (s.dev.sio grpB).pulse o = false) (b : Bool) :
    exec (.testPulseEnd (o + 2 * sioIdx grpB) b) s = .next s := by
  obtain ⟨grp, rem, -⟩ := pulseOut_group grpB low
  refine next_of_dev ?_
  simp only [grp, rem]
  refine if_pos ?_
  simp only [SioSt.pulse] at idle
  simp [idle]

/-- The group once a released word acts on it (R350, R354). -/
def SioSt.acted (x : SioSt) (v : BitVec 24) (grpB guard : Bool) : SioSt :=
  { x with stoOff := v.getLsbD 0 || !guard, pbApply := v.getLsbD 1, safeOk := v.getLsbD 2 && !grpB }

section
variable {s : State} {grpB : Bool} {g : BitVec 64} {v : BitVec 24} {rest : List (BitVec 64 × BitVec 24)}
  (pend : (s.dev.sio grpB).pend = (g, v) :: rest)
include pend

theorem safetyOutputChange_acts (up : s.dev.sioUp grpB = true) : exec (.safetyOutputChange grpB) s = s.onDev (fun d =>
    (((d.toGt g.toNat).onSio grpB (fun x => { x with pend := rest })).countIf (!(d.sio grpB).guard && !v.getLsbD 0)
      (cSafe (sioIdx grpB))).onSio grpB (·.acted v grpB (d.sio grpB).guard)) := by
  refine next_of_dev ?_
  simp only [pend]
  refine (if_neg (by show ¬ ((!s.dev.sioUp grpB) = true); simp [up])).trans ?_
  rw [Dev.onSio_sio]
  rfl
theorem safetyOutputChange_down (down : s.dev.sioUp grpB = false) : exec (.safetyOutputChange grpB) s = s.onDev (fun d =>
    (d.toGt g.toNat).onSio grpB (fun x => { x with pend := rest })) := by
  refine next_of_dev ?_
  simp only [pend]
  exact if_pos (by show (!s.dev.sioUp grpB) = true; simp [down])

end

/-- Settles O47: each operation as what it makes of one group. -/
theorem safetyIo : Obligations.SafetyIo := by
  intro s grpB x k frame
  have start := Dev.SioBecomes.start s.dev grpB
  have framed {y : SioSt} {d : Dev} (h : s.dev.SioBecomes grpB y d) : frame d :=
    ⟨h.other, h.lanes, h.vot, h.gd, h.edge, h.net, h.pair, h.boot⟩
  refine ⟨fun n up fifty => ⟨?_, ?_⟩, fun b n idle => next_of_dev (if_pos (by simpa using idle)), fun g v rest pend => ⟨fun up => ?_, fun down => ?_⟩, fun none_ => ?_,
    fun o low => ⟨fun runs high => ?_, testPulseStart_idle low, fun pulses => ⟨?_, ?_⟩, fun b idle => testPulseEnd_idle low idle b⟩,
    fun o up fits => ?_, fun o no => ?_⟩
  · have is : exec (.ssReqAccepted grpB true n) s = s.onDev (fun d => (d.toClk ((d.sio grpB).sampleAt d.clk)).onSio grpB (fun x =>
        if x.req then x else { x with req := true, reqAt := (d.toClk ((d.sio grpB).sampleAt d.clk)).clk })) :=
      next_of_dev (if_neg (by simp [up, fifty]))
    have made := (start.toClk ((s.dev.sio grpB).sampleAt s.dev.clk)).onSio (fun x =>
        if x.req then x else { x with req := true, reqAt := (s.dev.toClk ((s.dev.sio grpB).sampleAt s.dev.clk)).clk })
    exact does_of_onDev is ⟨made.sio, (Nat.le_max_left ..).trans (Dev.toClk_clk ..).ge, framed made⟩
  · have is : exec (.ssReqAccepted grpB false n) s = s.onDev (fun d => (d.toClk ((d.sio grpB).sampleAt d.clk)).onSio grpB (fun x =>
        { x with req := false, guard := x.guard || (x.req && decide (x.reqAt + 50 * msClk ≤ (d.toClk ((d.sio grpB).sampleAt d.clk)).clk)) })) :=
      next_of_dev (if_neg (by simp [up, fifty]))
    have made := (start.toClk ((s.dev.sio grpB).sampleAt s.dev.clk)).onSio (fun x => { x with
      req := false, guard := x.guard || (x.req && decide (x.reqAt + 50 * msClk ≤ (s.dev.toClk ((s.dev.sio grpB).sampleAt s.dev.clk)).clk)) })
    exact does_of_onDev is ⟨made.sio, (Nat.le_max_left ..).trans (Dev.toClk_clk ..).ge, framed made⟩
  · have is := safetyOutputChange_acts pend up
    have due := (start.toGt g.toNat).onSio (fun x => { x with pend := rest })
    have made := (due.countIf (!x.guard && !v.getLsbD 0) (cSafe k)).onSio (·.acted v grpB x.guard)
    refine does_of_onDev is ?_
    rw [made.sio]
    refine ⟨rfl, rfl, rfl, rfl, rfl, rfl, framed made, fun closed on => ?_, fun open_ => ?_⟩
    · have counts : (!(s.dev.sio grpB).guard && !v.getLsbD 0) = true := by
        rw [show (s.dev.sio grpB).guard = false from closed, on]
        rfl
      rw [counts]
      exact Dev.counted_of_host (x := s.dev) rfl rfl
    · have counts : (!(s.dev.sio grpB).guard && !v.getLsbD 0) = false := by
        rcases open_ with h | h
        · rw [show (s.dev.sio grpB).guard = true from h]
          rfl
        · rw [h]
          exact Bool.and_false _
      rw [counts]
      rfl
  · have due := (start.toGt g.toNat).onSio (fun x => { x with pend := rest })
    exact does_of_onDev (safetyOutputChange_down pend down) ⟨due.sio, framed due⟩
  · refine next_of_dev ?_
    have none_ : (s.dev.sio grpB).pend = [] := none_
    simp only [none_]
  · have made := ((start.toGt (s.dev.pulseNext grpB (o + 2 * sioIdx grpB))).count (cSafe (2 + (o + 2 * sioIdx grpB))) 1).onSio (·.pulsing o (s.dev.pulseNext grpB (o + 2 * sioIdx grpB)))
    refine does_of_onDev (testPulseStart_pulses low runs high) ⟨?_, fun n other => ?_, ?_, Dev.counted_of_host (x := s.dev) rfl rfl, framed made⟩
    · exact (Dev.sioPin_of (d := s.dev) made.sio rfl rfl o).trans (by rw [SioSt.pulsing_low _ _ _ low, Bool.and_false])
    · exact (Dev.sioPin_of (d := s.dev) made.sio rfl rfl n).trans (by rw [SioSt.pulsing_keep _ _ _ low other]; exact (Dev.sioPin_of (d := s.dev) rfl rfl rfl n).symm)
    · exact (congrArg SioSt.ofault made.sio).trans rfl
  · have made := (start.toGt (x.pulseGt.toNat + 192000)).onSio (·.pulsed o)
    refine does_of_onDev (testPulseEnd_ends low pulses true) ?_
    dsimp only
    rw [if_pos rfl, made.sio]
    exact ⟨x.pulsed_pulse low, rfl, rfl, framed made⟩
  · have made := (start.toGt (x.pulseGt.toNat + 192000)).onSio (·.pulsed o)
    refine does_of_onDev (testPulseEnd_ends low pulses false) ?_
    simp only [Bool.false_eq_true, if_false]
    have pulse : (s.dev.sio grpB).pulse o = true := pulses
    have faulty := (made.outFault o).sio
    rw [(made.outFault o).sio]
    exact ⟨x.pulsed_pulse low, rfl, Dev.grew_of_host (x := (s.dev.toGt (x.pulseGt.toNat + 192000)).onSio grpB (·.pulsed o)) rfl (Dev.outFault_grew ..), framed (made.outFault o)⟩
  · have is : exec (.outputReadbackMismatch grpB o) s = s.onDev (·.outFault grpB o) := next_of_dev (if_neg (by
      rcases fits with h | ⟨h, grp⟩
      · simp [up]; omega
      · simp only [grp] at up
        simp [up, h, grp]))
    exact does_of_onDev is ⟨(start.outFault o).sio, Dev.outFault_grew .., framed (start.outFault o)⟩
  · refine next_of_dev (if_pos ?_)
    rcases no with h | h | ⟨h, grp⟩
    · simp [h]
    · simp [h]
    · simp [h, grp]

end Sys2Proof.Machine
end

section
/-! SUPPORT. The autonomous safe stop block (R355, R359 to R363): what a run makes of its state, and what it leaves alone. -/

namespace Sys2Proof.Machine
open Sys2Proof

/-! ### Records and events of a lane change no lane -/

theorem Dev.hubQueueFull_congr {d d' : Dev} (vot : d'.vot = d.vot) (l : Lane) : d'.hubQueueFull l = d.hubQueueFull l := by
  simp only [Dev.hubQueueFull, Dev.dcqFill, Dev.group, vot]
  rfl

namespace Dev.LaneBecomes
variable {d d' : Dev} {l : Lane} {q : LaneSt} (h : d.LaneBecomes l q d')
include h

theorem putJr (x : JournalSt) : d.LaneBecomes l q { d' with jr := x } := ⟨h.lane, h.others, h.vot, h.outside⟩
theorem event (cls : Nat) (v : Word) : d.LaneBecomes l q (d'.event cls v) := by
  unfold Dev.event
  dsimp only
  split_ifs
  · exact h.putHost _
  · exact h.putHost _
  · exact h.putHost _
theorem post (p : Post) : d.LaneBecomes l q (d'.post p) := by
  unfold Dev.post
  dsimp only
  split_ifs <;> exact h.putJr _
/-- A record finds room in the lane's queue to the hub (R34). -/
theorem laneRec {m : Lane} (room : d.hubQueueFull m = false) (cls t u i c v : Nat) : d.LaneBecomes l q (d'.laneRec m cls t u i c v) := by
  have free : d'.hubQueueFull m = false := (Dev.hubQueueFull_congr h.vot m).trans room
  rw [Dev.laneRec, Dev.laneRecAt, if_neg (by simp [free]), Dev.postLane]
  split
  · exact h.post _
  · exact h
theorem noteStop {m : Lane} (room : d.hubQueueFull m = false) (old new : StopSt) (word : Nat) :
    d.LaneBecomes l q (noteStop d' m old new word) := by
  unfold Machine.noteStop
  dsimp only
  split_ifs
  · exact h
  · exact ((h.count _ _).laneRec room _ _ _ _ _ _).event _ _
  · exact (h.laneRec room _ _ _ _ _ _).event _ _

end Dev.LaneBecomes

/-- Time moves on within the fast cycle. -/
theorem Dev.toGt_fcStart (d : Dev) (n : Nat) : (d.toGt n).fcStart = d.fcStart := by
  show (d.toGt n).time.nextFc.toNat - d.tf = _
  rw [show (d.toGt n).time.nextFc = d.time.nextFc from TimeSt.toGt_nextFc ..]
  rfl

/-! ### A run of the block -/

/-- A speed was read: valid and not stale. -/
def StopIn.good (i : StopIn) : Bool := i.v.st.valid && !i.v.st.stale
/-- The block once it has taken the speed that the run read. -/
def StopSt.fed (s : StopSt) (i : StopIn) : StopSt :=
  if i.good then { s with lastV := some (mkSig (dyAbs (sigVal i.v)) Status.ok) } else s
/-- The block after the state part of a run, before the bits that follow the state. -/
def StopSt.moved (s : StopSt) (q : LaneSt) (i : StopIn) : StopSt :=
  let t := stopTrig (s.fed i) i (graceRuns q i.tf)
  if (s.fed i).state = 0 then
    (if t.1 = 0 then { s.fed i with spdInv := !i.good }
      else (s.fed i).begin_ i t.1 (if t.2 then 1 else (q.cfgInt 0x094 0).toNat) i.good)
  else if (s.fed i).state = 1 then (s.fed i).ramp q i i.good
  else if t.1 = 0 && i.v.st.valid && standstill (sigVal i.v) && i.ack then
    { s.fed i with state := 0, cause := 0, still := none, spdInv := !i.good }
  else { s.fed i with spdInv := !i.good }

theorem StopSt.advance_eq (s : StopSt) (q : LaneSt) (i : StopIn) : s.advance q i = { s.moved q i with
    bits := stopBits (s.moved q i).state
    decel := if (s.moved q i).state = 1 then { valSig (q.cfgVal 0x090 (s.moved q i).pset) with st := Status.ok } else sigInt 0 Status.ok } := rfl

/-- What the block was before a run: with PAIRED the pair roll call's (R362). -/
def LaneSt.stopWas (q : LaneSt) (g : Img) (now : Nat) : StopSt := if g.paired then q.stop.rolled q now else q.stop
/-- The block with the run's DISCREP and grace counts (R355, R363). -/
def StopSt.counted (p : StopSt) (i : StopIn) (now : Nat) : StopSt :=
  (p.discrep (i.word.getLsbD 0) (i.word.getLsbD 1) now i.tf).graceRun (Machine.ftLost i)
/-- The block after a run of lane l at GT now. -/
def Dev.stopNext (d : Dev) (l : Lane) (g : Img) (now : Nat) : StopSt :=
  (((d.lane l).stopWas g now).counted (stopIn d g (d.lane l) now) now).advance (d.lane l) (stopIn d g (d.lane l) now)

theorem StopSt.share_kept (s : StopSt) (q : LaneSt) : (s.share q).stop = q.stop ∧ (s.share q).seq = q.seq ∧ (s.share q).cfg = q.cfg := by
  have kept (q : LaneSt) (k : Nat) (w : SigWord) : (q.setSig k w).stop = q.stop ∧ (q.setSig k w).seq = q.seq ∧ (q.setSig k w).cfg = q.cfg :=
    ⟨rfl, rfl, rfl⟩
  unfold StopSt.share
  split
  · exact ⟨rfl, rfl, rfl⟩
  · simp only [kept, and_self]

/-- A run makes its block, shares it, and leaves the rest (R360). -/
theorem stopRun_becomes {d e : Dev} {l : Lane} {g : Img} {now : Nat} {q : LaneSt} (here : d.LaneBecomes l q e)
    (running : e.boot.running = some g) (runs : e.runs l = true) (room : d.hubQueueFull l = false) :
    ∃ q', d.LaneBecomes l q' (stopRun e l now) ∧ q'.stop = e.stopNext l g now ∧ q'.seq = q.seq ∧ q'.cfg = q.cfg := by
  refine ⟨(e.stopNext l g now).share { q with stop := e.stopNext l g now }, ?_, StopSt.share_kept ..⟩
  unfold stopRun
  simp only [running, runs, Bool.not_true, Bool.false_eq_true, if_false]
  exact (here.onLane (fun q => (e.stopNext l g now).share { q with stop := e.stopNext l g now })).noteStop room _ _ _

/-! ### What a run makes of the state -/

section
variable (p : StopSt) (i : StopIn) (now : Nat) (q : LaneSt)

/-- The counts of a run leave the state part alone. -/
theorem StopSt.counted_kept : (p.counted i now).state = p.state ∧ (p.counted i now).cause = p.cause ∧ (p.counted i now).pset = p.pset ∧
    (p.counted i now).gt0 = p.gt0 ∧ (p.counted i now).v0 = p.v0 ∧ (p.counted i now).lastV = p.lastV ∧ (p.counted i now).inval = p.inval ∧
    (p.counted i now).still = p.still ∧ (p.counted i now).viol = p.viol ∧ (p.counted i now).io = p.io := by
  unfold StopSt.counted StopSt.graceRun StopSt.discrep
  dsimp only
  split_ifs <;> exact ⟨rfl, rfl, rfl, rfl, rfl, rfl, rfl, rfl, rfl, rfl⟩

theorem StopSt.rolled_io : (p.rolled q now).io = p.io := by
  unfold StopSt.rolled
  split
  · rfl
  · dsimp only
    split_ifs <;> rfl
theorem LaneSt.stopWas_io (g : Img) : (q.stopWas g now).io = q.stop.io := by
  unfold LaneSt.stopWas
  split
  · exact StopSt.rolled_io ..
  · rfl

/-- The speed that a run takes touches nothing else. -/
theorem StopSt.fed_kept : (p.fed i).state = p.state ∧ (p.fed i).pset = p.pset ∧ (p.fed i).gt0 = p.gt0 ∧ (p.fed i).v0 = p.v0 ∧
    (p.fed i).inval = p.inval ∧ (p.fed i).still = p.still ∧ (p.fed i).viol = p.viol ∧ (p.fed i).io = p.io ∧
    (p.fed i).ftLost = p.ftLost ∧ (p.fed i).grace = p.grace ∧ (p.fed i).disc = p.disc ∧ (p.fed i).cause = p.cause := by
  unfold StopSt.fed
  split <;> exact ⟨rfl, rfl, rfl, rfl, rfl, rfl, rfl, rfl, rfl, rfl, rfl, rfl⟩
theorem StopSt.fed_lastV : (i.good || (p.fed i).lastV.isSome) = (i.good || p.lastV.isSome) := by
  unfold StopSt.fed
  cases i.good <;> rfl

/-- A demand of either group is the first trigger, and names set 1 (Table 19-4). -/
theorem stopTrig_demand (n : Nat) (demand : (i.word.getLsbD 0 || i.word.getLsbD 1) = true) : stopTrig p i n = (1, true) := by
  unfold stopTrig
  simp only [demand, Bool.true_or, if_true]
/-- The word that a run reads demands nothing and shows no fault. -/
def StopIn.clear (i : StopIn) : Prop := i.word.toNat % 64 = 0 ∧ i.hubl = false
theorem StopIn.clear_bit {i : StopIn} (clear : i.clear) {k : Nat} (small : k < 6) : i.word.getLsbD k = false := by
  have six : (i.word.toNat % 2 ^ 6).testBit k = false := by rw [show i.word.toNat % 2 ^ 6 = 0 from clear.1, Nat.zero_testBit]
  rw [Nat.testBit_mod_two_pow, decide_eq_true small, Bool.true_and] at six
  exact six
/-- Nothing that a trigger names holds. -/
theorem stopTrig_calm (n : Nat) (clear : i.clear) (ft : p.ftLost = false) (disc : p.disc = false) : (stopTrig p i n).1 = 0 := by
  have bit {k : Nat} (small : k < 6) := StopIn.clear_bit clear small
  unfold stopTrig
  simp only [bit (show 0 < 6 by decide), bit (show 1 < 6 by decide), bit (show 4 < 6 by decide), bit (show 5 < 6 by decide), ft, disc, clear.2]
  rfl

variable {p i q}

/-- A demand in RUN begins a stop with cause 1 and set 1 (R359). -/
theorem StopSt.moved_demand (run : p.state = 0) (demand : (i.word.getLsbD 0 || i.word.getLsbD 1) = true) :
    p.moved q i = (p.fed i).begin_ i 1 1 i.good := by
  have here : (p.fed i).state = 0 := (p.fed_kept i).1.trans run
  simp only [StopSt.moved, stopTrig_demand _ _ _ demand, here, if_true, Nat.one_ne_zero, if_false]
/-- RUN without a trigger goes on. -/
theorem StopSt.moved_calm (run : p.state = 0) (calm : (stopTrig (p.fed i) i (graceRuns q i.tf)).1 = 0) :
    p.moved q i = { p.fed i with spdInv := !i.good } := by
  have here : (p.fed i).state = 0 := (p.fed_kept i).1.trans run
  simp only [StopSt.moved, here, calm, if_true]
theorem StopSt.moved_ramp (ramp : p.state = 1) : p.moved q i = (p.fed i).ramp q i i.good := by
  have here : (p.fed i).state = 1 := (p.fed_kept i).1.trans ramp
  simp only [StopSt.moved, here, Nat.one_ne_zero, if_true, if_false]

/-- What lets a stopped or tripped block return to RUN (R361). -/
def StopSt.released (p : StopSt) (q : LaneSt) (i : StopIn) : Bool :=
  decide ((stopTrig (p.fed i) i (graceRuns q i.tf)).1 = 0) && i.v.st.valid && standstill (sigVal i.v) && i.ack
theorem StopSt.moved_stopped (stopped : p.state = 2 ∨ p.state = 3) : p.moved q i =
    if p.released q i then { p.fed i with state := 0, cause := 0, still := none, spdInv := !i.good } else { p.fed i with spdInv := !i.good } := by
  have here : (p.fed i).state ≠ 0 ∧ (p.fed i).state ≠ 1 := by
    rw [(p.fed_kept i).1]
    omega
  exact (if_neg here.1).trans (if_neg here.2)

/-- The speed lies in the envelope of the stop (R360). -/
def StopSt.inside (p : StopSt) (q : LaneSt) (i : StopIn) : Bool :=
  envelopeOk (sigVal i.v) (sigVal p.v0) (dyMin (q.cfgDy 0x091 p.pset) (q.cfgDy 0x090 p.pset)) (q.cfgDy 0x092 0) (i.now - p.gt0)

theorem StopSt.moved_io : (p.moved q i).io = p.io := by
  have fed : (p.fed i).io = p.io := by
    unfold StopSt.fed
    split <;> rfl
  unfold StopSt.moved
  dsimp only
  split_ifs <;> exact fed

section
variable (good : i.good = true)
include good

theorem StopSt.ramp_breaks (out : p.inside q i = false) : (p.ramp q i i.good).state = 3 ∧ (p.ramp q i i.good).viol = true := by
  unfold StopSt.inside at out
  simp [StopSt.ramp, good, out]
theorem StopSt.ramp_moves (in_ : p.inside q i = true) (moves : standstill (sigVal i.v) = false) :
    (p.ramp q i i.good).state = 1 ∧ (p.ramp q i i.good).still = none ∧ (p.ramp q i i.good).viol = p.viol := by
  unfold StopSt.inside at in_
  simp [StopSt.ramp, good, in_, moves]
/-- 500 ms after the first run at standstill the train has stopped. -/
theorem StopSt.ramp_stands (in_ : p.inside q i = true) (stands : standstill (sigVal i.v) = true) :
    (p.ramp q i i.good).state = if p.still.getD i.now + 320000000 ≤ i.now then 2 else 1 := by
  unfold StopSt.inside at in_
  simp [StopSt.ramp, good, in_, stands]

end
theorem StopSt.ramp_blind (blind : i.good = false) : (p.ramp q i i.good).state = (if p.inval then 3 else 1) ∧ (p.ramp q i i.good).inval = true := by
  simp [StopSt.ramp, blind]

theorem StopSt.discrep_quiet (tf : Nat) (disc : p.disc = false) : (p.discrep false false now tf).disc = false := by
  have some_ : ¬ runsOf 12800000 tf ≤ 0 := by
    unfold runsOf ceilDiv
    have : 0 < (12800000 + max 1 tf - 1) / max 1 tf := Nat.div_pos (by omega) (by omega)
    omega
  simp [StopSt.discrep, disc, some_]
/-- A run without demand, fault or lost tolerance counts nothing (R355, R363). -/
theorem StopSt.counted_calm (a : i.word.getLsbD 0 = false) (b : i.word.getLsbD 1 = false) (ft : Machine.ftLost i = false) (disc : p.disc = false) :
    (p.counted i now).disc = false ∧ (p.counted i now).ftLost = false ∧ (p.counted i now).grace = 0 := by
  unfold StopSt.counted
  rw [a, b, ft]
  exact ⟨StopSt.discrep_quiet now i.tf disc, rfl, rfl⟩

end

/-- Settles O48: a run is one function of the block, read off by its state and what it read. -/
theorem safeStop : Obligations.SafeStop := by
  intro s l g running runs room keeps
  have kept {q : LaneSt} {d : Dev} (h : s.dev.LaneBecomes l q d) (seq : q.seq = (s.dev.lane l).seq) (cfg : q.cfg = (s.dev.lane l).cfg) : keeps d := by
    obtain ⟨gd, edge, net, -, -, safe, -⟩ := h.outside
    exact ⟨h.others, h.vot, gd, edge, net, safe, (congrArg LaneSt.seq h.lane).trans seq, (congrArg LaneSt.cfg h.lane).trans cfg⟩
  have start := Dev.LaneBecomes.refl s.dev l
  refine ⟨fun io => ?_, ?_⟩
  · intro d0 q p i good v demand calm inside run
    have wired := start.onLane (fun q => { q with stop := { q.stop with io := io } })
    have runs0 : d0.runs l = true := (Dev.runs_congr (congrArg (fun q => q.seq.phase) wired.lane)).trans runs
    have does (P : StopSt → Prop) (holds : P ((p.counted i s.dev.fcStart).advance q i)) : run P := by
      obtain ⟨q', becomes, stop, seq, cfg⟩ := stopRun_becomes (now := s.dev.fcStart) wired running runs0 (room l)
      have is : exec (.safeStopRun l false io) s = s.onDev (fun d => stopRun (d.onLane l (fun q => { q with stop := { q.stop with io := io } })) l d.fcStart) :=
        next_of_dev (if_neg (by simp))
      have lane0 : d0.lane l = q := rfl
      have next_ : (((stopRun d0 l s.dev.fcStart).lane l).stop) = (p.counted i s.dev.fcStart).advance q i :=
        (congrArg LaneSt.stop becomes.lane).trans stop
      have wires : ((p.counted i s.dev.fcStart).advance q i).io = io := by
        rw [StopSt.advance_eq]
        refine StopSt.moved_io.trans (((p.counted_kept i s.dev.fcStart).2.2.2.2.2.2.2.2.2).trans ((LaneSt.stopWas_io s.dev.fcStart q g).trans ?_))
        exact congrArg (fun q => q.stop.io) wired.lane
      refine does_of_onDev is ⟨?_, ?_, ?_, kept becomes (seq.trans rfl) (cfg.trans rfl)⟩
      · exact next_.symm ▸ holds
      · rw [next_]
        rfl
      · rw [next_]
        exact wires
    clear_value run
    obtain ⟨cState, cCause, cPset, cGt0, cV0, cLast, cInval, cStill, cViol, -⟩ := p.counted_kept i s.dev.fcStart
    obtain ⟨fState, fPset, fGt0, fV0, fInval, fStill, fViol, -, fFt, fGrace, fDisc, fCause⟩ := (p.counted i s.dev.fcStart).fed_kept i
    have fedInside : ((p.counted i s.dev.fcStart).fed i).inside q i = inside := by
      simp only [StopSt.inside, fV0, cV0, fPset, cPset, fGt0, cGt0]
      rfl
    have idle (calm_ : calm) : ((p.counted i s.dev.fcStart).fed i).grace = 0 ∧ (stopTrig ((p.counted i s.dev.fcStart).fed i) i (graceRuns q i.tf)).1 = 0 := by
      obtain ⟨low, hub, ft, disc⟩ := calm_
      have clear : i.clear := ⟨low, hub⟩
      obtain ⟨disc_, ft_, grace_⟩ := StopSt.counted_calm (p := p) s.dev.fcStart (StopIn.clear_bit clear (show 0 < 6 by decide))
        (StopIn.clear_bit clear (show 1 < 6 by decide)) ft disc
      exact ⟨fGrace.trans grace_, stopTrig_calm _ _ _ clear (fFt.trans ft_) (fDisc.trans disc_)⟩
    refine ⟨does _ trivial, fun demands inRun => ?_, fun inRun calm_ => ?_, fun ramps good_ out => ?_, fun ramps good_ in_ moves => ?_,
      fun ramps good_ in_ stands => ?_, fun ramps blind => ?_, fun stopped no => ?_, fun stopped calm_ valid stands ack => ?_, ?_⟩
    · refine does _ ?_
      rw [StopSt.advance_eq, StopSt.moved_demand (cState.trans inRun) demands]
      refine ⟨rfl, rfl, rfl, ?_⟩
      show (if (i.good || ((p.counted i s.dev.fcStart).fed i).lastV.isSome) = true then 1 else 3) = _
      rw [StopSt.fed_lastV, cLast]
      rfl
    · refine does _ ?_
      obtain ⟨grace, none_⟩ := idle calm_
      rw [StopSt.advance_eq, StopSt.moved_calm (cState.trans inRun) none_]
      have state := fState.trans (cState.trans inRun)
      refine ⟨state, ?_, grace⟩
      show stopBits ((p.counted i s.dev.fcStart).fed i).state = 16
      rw [state]
      rfl
    · refine does _ ?_
      rw [StopSt.advance_eq, StopSt.moved_ramp (cState.trans ramps)]
      exact StopSt.ramp_breaks good_ (fedInside.trans out)
    · refine does _ ?_
      rw [StopSt.advance_eq, StopSt.moved_ramp (cState.trans ramps)]
      obtain ⟨state, still, viol⟩ := StopSt.ramp_moves good_ (fedInside.trans in_) moves
      exact ⟨state, still, viol.trans (fViol.trans cViol)⟩
    · refine does _ ?_
      rw [StopSt.advance_eq, StopSt.moved_ramp (cState.trans ramps)]
      refine (StopSt.ramp_stands good_ (fedInside.trans in_) stands).trans ?_
      rw [fStill, cStill]
      cases p.still with
      | none => exact if_neg (by simp)
      | some b => rfl
    · refine does _ ?_
      rw [StopSt.advance_eq, StopSt.moved_ramp (cState.trans ramps)]
      obtain ⟨state, inval⟩ := StopSt.ramp_blind (p := (p.counted i s.dev.fcStart).fed i) (q := q) blind
      refine ⟨state.trans ?_, inval⟩
      rw [fInval, cInval]
    · refine does _ ?_
      have stays : (p.counted i s.dev.fcStart).released q i = false := by
        rcases no with h | h | h | h
        · simp [StopSt.released, stopTrig_demand _ _ _ h]
        · simp [StopSt.released, h]
        · simp [StopSt.released, show standstill (sigVal i.v) = false from h]
        · simp [StopSt.released, h]
      rw [StopSt.advance_eq, StopSt.moved_stopped (by rwa [cState]), stays]
      exact fState.trans cState
    · refine does _ ?_
      have returns : (p.counted i s.dev.fcStart).released q i = true := by
        simp [StopSt.released, (idle calm_).2, valid, show standstill (sigVal i.v) = true from stands, ack]
      rw [StopSt.advance_eq, StopSt.moved_stopped (by rwa [cState]), returns]
      exact ⟨rfl, rfl⟩
    · have is : exec (.safeStopRun l true io) s = s.onDev (·.takeOut l 6 0 0) := next_of_dev (if_pos (by simp [runs]))
      refine does_of_onDev is ⟨?_, ?_, ?_, fun x other => Dev.takeOut_lane_ne _ _ _ _ _ _ other⟩
      · show ((s.dev.takeOut l 6 0 0).lane l).seq.phase = .out
        rw [Dev.takeOut_lane _ _ _ _ _ runs]
        rfl
      · rw [Dev.takeOut_lane _ _ _ _ _ runs]
        rfl
      · rw [Dev.takeOut_lane _ _ _ _ _ runs]
  · intro q p
    refine ⟨fun b still inRamp => ?_, fun idle => ?_, fun lost => ?_, fun fine => ?_, fun differ => ?_, fun same => ?_⟩
    · intro now r i state rStill valid fresh stands inside
      have is : exec (.safeStopStopped l) s = s.onDev (fun d => stopRun (d.toGt (b + 320000000)) l now) := by
        refine next_of_dev ?_
        simp only [show (s.dev.lane l).stop.still = some b from still]
        have acts : (decide ((s.dev.lane l).stop.state = 1) && s.dev.runs l) = true := by rw [show (s.dev.lane l).stop.state = 1 from inRamp, runs]; rfl
        have fc : (s.dev.toGt (b + 320000000)).fcStart = s.dev.fcStart := Dev.toGt_fcStart ..
        rw [if_pos acts, fc]
      obtain ⟨q', becomes, stop, seq, cfg⟩ := stopRun_becomes (now := now) (start.toGt (b + 320000000)) running runs (room l)
      obtain ⟨cState, -, cPset, cGt0, cV0, -, -, cStill, -⟩ := r.counted_kept i now
      obtain ⟨-, fPset, fGt0, fV0, -, fStill, -⟩ := (r.counted i now).fed_kept i
      have good : i.good = true := by simp [StopIn.good, valid, fresh]
      have inside_ : ((r.counted i now).fed i).inside q i = true := by
        simp only [StopSt.inside, fV0, cV0, fPset, cPset, fGt0, cGt0]
        exact inside
      have stopped : ((r.counted i now).moved q i).state = 2 := by
        rw [StopSt.moved_ramp (cState.trans state), StopSt.ramp_stands good inside_ stands, fStill, cStill, rStill]
        exact if_pos (Nat.le_max_right ..)
      have next_ : ((stopRun (s.dev.toGt (b + 320000000)) l now).lane l).stop = (r.counted i now).advance q i := (congrArg LaneSt.stop becomes.lane).trans stop
      refine does_of_onDev is ⟨?_, ?_, kept becomes seq cfg⟩
      · rw [next_]
        exact stopped
      · rw [next_, StopSt.advance_eq, stopped]
        rfl
    · refine next_of_dev ?_
      dsimp only
      split
      · next b still =>
        refine if_neg ?_
        rcases idle with h | h
        · exact absurd ((show (s.dev.lane l).stop.still = none from h).symm.trans still) (by simp)
        · simp [show (s.dev.lane l).stop.state ≠ 1 from h]
      · rfl
    · have is : exec (.graceExpired l) s = s.onDev (fun d => (d.toGt (d.fcStart + (graceRuns (d.lane l) d.tf - (d.lane l).stop.grace) * d.tf)).onLane l
          (fun q => { q with stop := { q.stop with grace := max q.stop.grace (graceRuns (s.dev.lane l) s.dev.tf) } })) :=
        next_of_dev (if_pos (by simp [show (s.dev.lane l).stop.ftLost = true from lost, runs]))
      have made := (start.toGt (s.dev.fcStart + (graceRuns q s.dev.tf - q.stop.grace) * s.dev.tf)).onLane
        (fun q => { q with stop := { q.stop with grace := max q.stop.grace (graceRuns (s.dev.lane l) s.dev.tf) } })
      exact does_of_onDev is ⟨made.lane, kept made rfl rfl⟩
    · exact next_of_dev (if_neg (by simp [show (s.dev.lane l).stop.ftLost = false from fine]))
    · have is : exec (.discrep l) s = s.onDev (fun d => (d.toGt (d.fcStart + (runsOf 12800000 d.tf - (d.lane l).stop.diffs) * d.tf)).onLane l
          (fun q => { q with stop := { q.stop with disc := true, diffs := max q.stop.diffs (runsOf 12800000 s.dev.tf) } })) :=
        next_of_dev (if_pos (by simpa [runs] using differ))
      have made := (start.toGt (s.dev.fcStart + (runsOf 12800000 s.dev.tf - q.stop.diffs) * s.dev.tf)).onLane
        (fun q => { q with stop := { q.stop with disc := true, diffs := max q.stop.diffs (runsOf 12800000 s.dev.tf) } })
      exact does_of_onDev is ⟨made.lane, kept made rfl rfl⟩
    · exact next_of_dev (if_neg (by simpa [runs] using same))

end Sys2Proof.Machine
end

section
/-! SUPPORT. Cast sweep, rotation and the lane self test: steps on one lane that leave the other lanes and the rest of the device alone
(R105, R109, R111, R119, R120, R436, R437). -/

namespace Sys2Proof.Machine
open Sys2Proof

/-! ### A step that concerns one lane -/

/-- d' differs from d in lane l, in voting and in what the hub keeps for its host only. -/
structure Dev.LaneApart (d : Dev) (l : Lane) (d' : Dev) : Prop where
  others : ∀ x : Lane, x ≠ l → d'.lane x = d.lane x
  gd : d'.gd = d.gd
  safe : d'.safe = d.safe
  edge : d'.edge = d.edge
  net : d'.net = d.net
  can : d'.can = d.can
  pair : d'.pair = d.pair
  boot : d'.boot = d.boot

namespace Dev.LaneApart
variable {d d' : Dev} {l : Lane}

theorem refl (d : Dev) (l : Lane) : d.LaneApart l d := ⟨fun _ _ => rfl, rfl, rfl, rfl, rfl, rfl, rfl, rfl⟩

variable (h : d.LaneApart l d')
include h

theorem keeps {e : Dev} (lanes : e.lanes = d'.lanes) (gd : e.gd = d'.gd) (safe : e.safe = d'.safe) (edge : e.edge = d'.edge)
    (net : e.net = d'.net) (can : e.can = d'.can) (pair : e.pair = d'.pair) (boot : e.boot = d'.boot) : d.LaneApart l e :=
  ⟨fun x other => (congrArg (·.get x) lanes).trans (h.others x other), gd.trans h.gd, safe.trans h.safe, edge.trans h.edge,
    net.trans h.net, can.trans h.can, pair.trans h.pair, boot.trans h.boot⟩
theorem onLane (f : LaneSt → LaneSt) : d.LaneApart l (d'.onLane l f) :=
  ⟨fun x other => (Tri.get_set_ne _ _ _ _ other).trans (h.others x other), h.gd, h.safe, h.edge, h.net, h.can, h.pair, h.boot⟩
theorem onTime (f : TimeSt → TimeSt) : d.LaneApart l (d'.onTime f) := h.keeps rfl rfl rfl rfl rfl rfl rfl rfl
theorem onVot (f : VotSt → VotSt) : d.LaneApart l (d'.onVot f) := h.keeps rfl rfl rfl rfl rfl rfl rfl rfl
theorem onTest (f : TestSt → TestSt) : d.LaneApart l (d'.onTest f) := h.keeps rfl rfl rfl rfl rfl rfl rfl rfl
theorem onMgmt (f : MgmtSt → MgmtSt) : d.LaneApart l (d'.onMgmt f) := h.keeps rfl rfl rfl rfl rfl rfl rfl rfl
theorem putHost (x : HostSt) : d.LaneApart l { d' with host := x } := h.keeps rfl rfl rfl rfl rfl rfl rfl rfl
theorem count (a n : Nat) : d.LaneApart l (d'.count a n) := h.putHost _
theorem fault (t u i c v : Nat) : d.LaneApart l (d'.fault t u i c v) := by apply h.keeps <;> simp
theorem noteDegraded : d.LaneApart l (Machine.noteDegraded d') := by apply h.keeps <;> simp
theorem liveChanged : d.LaneApart l d'.liveChanged := by apply h.keeps <;> simp
theorem post (p : Post) : d.LaneApart l (d'.post p) := by apply h.keeps <;> simp
theorem postLane (g : Nat) (m : Lane) (cls t u i c v : Nat) : d.LaneApart l (d'.postLane g m cls t u i c v) := by
  unfold Dev.postLane
  split
  · exact h.post _
  · exact h

end Dev.LaneApart

/-! ### The test words of the window -/

/-- The status words of the self test are the host's. -/
theorem Dev.testStatus_host (d : Dev) : ∃ x : HostSt, d.testStatus = { d with host := x } := ⟨_, rfl⟩
theorem Dev.LaneApart.testStatus {d d' : Dev} {l : Lane} (h : d.LaneApart l d') : d.LaneApart l d'.testStatus := by
  obtain ⟨x, is⟩ := d'.testStatus_host
  exact is ▸ h.putHost x

/-! ### Taking one lane out while the two others live -/

theorem Dev.liveCount_two {d : Dev} {l : Lane} (others : ∀ x : Lane, x ≠ l → d.isLive x = true) : 2 ≤ d.liveCount := by
  unfold Dev.liveCount Dev.liveLanes lanesAll
  cases l <;> simp [others, List.filter_cons] <;> split <;> simp
theorem Dev.isLive_of_three {d : Dev} (three : d.liveCount = 3) (l : Lane) : d.isLive l = true := by
  have all : ∀ x ∈ lanesAll, d.isLive x = true := List.length_filter_eq_length_iff.mp (show _ = lanesAll.length from three)
  exact all l (mem_lanesAll l)
theorem Dev.holdAll_live {d : Dev} (two : 2 ≤ d.liveCount) : d.holdAll = d :=
  if_neg (by simp; omega)

/-- A lane that goes out while the two others live takes nothing else with it (R106). -/
theorem Dev.takeOut_apart {d : Dev} {l : Lane} (others : ∀ x : Lane, x ≠ l → d.isLive x = true) (c e u : Nat) :
    d.LaneApart l (d.takeOut l c e u) := by
  have held {d' : Dev} (h : d.LaneApart l d') : d'.holdAll = d' :=
    Dev.holdAll_live (Dev.liveCount_two (l := l) fun x other => by rw [Dev.isLive, Dev.phase, h.others x other]; exact others x other)
  have gone := (Dev.LaneApart.refl d l).onLane (fun s => { s with seq := { s.seq.goOut c e u with outGt := d.gt } })
  unfold Dev.takeOut
  split
  · dsimp only
    rw [apply_ite (fun e => d.LaneApart l e)]
    have noted {x : Dev} (h : d.LaneApart l x) : d.LaneApart l x.liveChanged.holdAll := (held h.liveChanged).symm ▸ h.liveChanged
    split
    · exact noted ((((gone.putHost _).count _ _).onVot _).postLane _ _ _ _ _ _ _ _)
    · exact (((gone.putHost _).count _ _).onVot _).postLane _ _ _ _ _ _ _ _
  · exact .refl d l

theorem Dev.holdAll_cast (d : Dev) : d.holdAll.vot.cast = d.vot.cast := by
  unfold Dev.holdAll
  split <;> rfl
/-- A cast ends with a lane that goes out (R114). -/
theorem Dev.takeOut_cast {d : Dev} {l : Lane} (runs : d.runs l = true) (c e u : Nat) : (d.takeOut l c e u).vot.cast = none := by
  rw [Dev.takeOut, if_pos runs]
  dsimp only
  split
  · rw [Dev.holdAll_cast, Dev.liveChanged_vot, Dev.postLane_vot]
    rfl
  · rw [Dev.postLane_vot]
    rfl

/-! ### The BIST's result -/

theorem repairAll_nil (d : Dev) (l : Lane) : repairAll d l [] = ([], none) := rfl
/-- One failing cell of a memory block without fused spares takes its first spare row (R436). -/
theorem bestCover_one (r k : Nat) : bestCover [(r, k)] 2 true = some ([r], none) := by
  have rows : ((sortNat (List.map (·.2) [(r, k)])).map (fun c : Nat =>
      ((sortNat ((List.filter (fun x : Nat × Nat => x.2 != c) [(r, k)]).map (·.1)), some c) : Cover))) = [([], some k)] := by
    simp [sortNat, insNat]
  unfold bestCover
  simp only [if_true]
  rw [rows]
  simp [sortNat, insNat, coverKey, lexLt]
theorem softRepair_one {d : Dev} {l : Lane} {m : Nat} (free : d.fused l m = []) (r k : Nat) :
    softRepair d l m [(r, k)] = some [(laneIdx l, m, 0, r)] := by
  simp [softRepair, free, bestCover_one]
theorem repairAll_one {d : Dev} {l : Lane} {m : Nat} (free : d.fused l m = []) (r k : Nat) :
    repairAll d l [(m, r, k)] = ([(laneIdx l, m, 0, r)], none) := by
  simp [repairAll, sortNat, insNat, softRepair_one free]

/-- The macros that cannot be repaired: no cover, or a retest that finds a failing cell. -/
def bistMacros (r : BistResult) (found : List (Nat × Nat × Nat × Nat) × Option Nat) : List Nat :=
  sortNat ((found.1.map (·.2.1)).filter r.retestBad.contains ++ (match found.2 with | some m => [m] | none => []))
/-- What makes the lane FAILED: memory, block and UNREPAIRABLE; nothing when the BIST ends well. -/
def bistBlame (r : BistResult) (macs : List Nat) : Option (Nat × Nat × Bool) :=
  if r.logicOk && (r.otherMem == 0 && macs.isEmpty) then none
  else match macs with
    | m :: _ => some (1, m, true)
    | [] => if r.otherMem = 0 then some (3, 0, false) else some (r.otherMem, 0, true)

/-- Lane l's part of the self test once its BIST has ended. -/
def TestSt.bistEnded (t : TestSt) (l : Lane) (code : Nat) (soft : List (Nat × Nat × Nat × Nat)) : TestSt :=
  { t with
    bistRun := t.bistRun.filter (fun y => y.1 != l), soft := t.soft ++ soft, laneBist := t.laneBist.set l code,
    failMem := t.failMem.set l 0, failMac := t.failMac.set l 0, unrep := t.unrep.set l false }
def TestSt.blamed (t : TestSt) (l : Lane) : Option (Nat × Nat × Bool) → TestSt
  | none => t
  | some (mem, mac, unrep) => { t with failMem := t.failMem.set l mem, failMac := t.failMac.set l mac, unrep := t.unrep.set l unrep }
def LaneSt.blamed (q : LaneSt) : Option (Nat × Nat × Bool) → LaneSt
  | none => q
  | some _ => { q with seq := { q.seq with phase := .failed } }
/-- The code of a BIST (Table 24-3). -/
def bistCode (r : BistResult) (found : List (Nat × Nat × Nat × Nat) × Option Nat) : Nat :=
  if !(r.logicOk && (r.otherMem == 0 && (bistMacros r found).isEmpty)) then 3 else if found.1.isEmpty then 1 else 2

/-- d' is d after a BIST of lane l that began at clock c. -/
structure Dev.BistEnded (d : Dev) (l : Lane) (c code : Nat) (soft : List (Nat × Nat × Nat × Nat)) (blame : Option (Nat × Nat × Bool))
    (d' : Dev) : Prop where
  apart : d.LaneApart l d'
  test : d'.test = (d.test.bistEnded l code soft).blamed l blame
  lane : d'.lane l = (d.lane l).blamed blame
  time : d'.time = (d.toClk (c + 15500 * usClk)).time

theorem Dev.failLane_apart {d e : Dev} {l : Lane} (h : d.LaneApart l e) (mem mac : Nat) (unrep : Bool) :
    d.LaneApart l (failLane e l mem mac unrep) :=
  ((((h.onTest _).onLane _).fault _ _ _ _ _).noteDegraded)
theorem failLane_test (d : Dev) (l : Lane) (mem mac : Nat) (unrep : Bool) :
    (failLane d l mem mac unrep).test = d.test.blamed l (some (mem, mac, unrep)) := by
  unfold failLane
  rw [noteDegraded_test, Dev.fault_test]
  rfl
theorem failLane_lane (d : Dev) (l : Lane) (mem mac : Nat) (unrep : Bool) :
    (failLane d l mem mac unrep).lane l = (d.lane l).blamed (some (mem, mac, unrep)) := by
  unfold failLane Dev.lane
  rw [noteDegraded_lanes, Dev.fault_lanes]
  exact Tri.get_set ..
theorem failLane_time (d : Dev) (l : Lane) (mem mac : Nat) (unrep : Bool) : (failLane d l mem mac unrep).time = d.time := by
  unfold failLane
  rw [noteDegraded_time, Dev.fault_time]
  rfl
def Dev.blamed (d : Dev) (l : Lane) : Option (Nat × Nat × Bool) → Dev
  | none => d
  | some (mem, mac, unrep) => failLane d l mem mac unrep

/-- The device once the results of a BIST stand in its tables. -/
def Dev.bistRead (d : Dev) (l : Lane) (c : Nat) (r : BistResult) (found : List (Nat × Nat × Nat × Nat) × Option Nat) : Dev :=
  let memOk := r.otherMem == 0 && (bistMacros r found).isEmpty
  let code := fun (pass : Bool) => if !pass then 3 else if found.1.isEmpty then 1 else 2
  (((d.toClk (c + 15500 * usClk)).onTest (·.bistEnded l (bistCode r found) found.1)).putTest 0x10 (laneIdx l) (if r.logicOk then 1 else 3)
    (980 + 900 * 65536) 6000).putTest 0x11 (laneIdx l) (code memOk + min 255 found.1.length * 256) 1000 9500

/-- What LANE_BIST_DONE makes of a BIST that runs. -/
theorem bistDone_ended {s : State} {l : Lane} {c : Nat} {r : BistResult} {found : List (Nat × Nat × Nat × Nat) × Option Nat} {P : Dev → Prop}
    (run : s.dev.test.bistRun.find? (fun x => x.1 == l) = some (l, c)) (repairs : repairAll s.dev l r.cells = found)
    (holds : ∀ d, s.dev.BistEnded l c (bistCode r found) found.1 (bistBlame r (bistMacros r found)) d → P d) : Does (.laneBistDone l r) s P := by
  have repairs' : repairAll (s.dev.toClk (c + 15500 * usClk)) l r.cells = found := repairs
  let rot : VotSt → VotSt := fun v => if v.rot == some l then
    (if r.logicOk && (r.otherMem == 0 && (bistMacros r found).isEmpty) then { v with rotBist := false } else { v with rotBist := false, rot := none }) else v
  have judged (d : Dev) : (if (r.logicOk && (r.otherMem == 0 && (bistMacros r found).isEmpty)) = true then d
      else match bistMacros r found with
        | m :: _ => failLane d l 1 m true
        | [] => if r.otherMem = 0 then failLane d l 3 0 false else failLane d l r.otherMem 0 true) = d.blamed l (bistBlame r (bistMacros r found)) := by
    unfold bistBlame
    split
    · rfl
    · split
      · rfl
      · split <;> rfl
  have is : exec (.laneBistDone l r) s = s.onDev (fun d => (((d.bistRead l c r found).blamed l (bistBlame r (bistMacros r found))).onVot rot).testStatus) := by
    refine next_of_dev ?_
    dsimp only
    rw [run]
    dsimp only
    rw [repairs', ← judged]
    rfl
  refine does_of_onDev is (holds _ ?_)
  obtain ⟨x, host⟩ := Dev.testStatus_host (((s.dev.bistRead l c r found).blamed l (bistBlame r (bistMacros r found))).onVot rot)
  rw [host]
  have read : s.dev.LaneApart l (s.dev.bistRead l c r found) := (Dev.LaneApart.refl s.dev l).keeps rfl rfl rfl rfl rfl rfl rfl rfl
  cases bistBlame r (bistMacros r found) with
  | none => exact ⟨(read.onVot rot).putHost x, rfl, rfl, rfl⟩
  | some b =>
    obtain ⟨mem, mac, unrep⟩ := b
    exact ⟨((Dev.failLane_apart read mem mac unrep).onVot rot).putHost x, failLane_test .., failLane_lane .., failLane_time ..⟩

/-- A BIST that has ended is over, and the other lanes' results stay. -/
theorem Dev.BistEnded.frame {d d' : Dev} {l : Lane} {c code : Nat} {soft : List (Nat × Nat × Nat × Nat)} {blame : Option (Nat × Nat × Bool)}
    (h : d.BistEnded l c code soft blame d') : (∀ x ∈ d'.test.bistRun, x.1 ≠ l) ∧ (∀ x : Lane, x ≠ l → d'.lane x = d.lane x) ∧
      (∀ x : Lane, x ≠ l → d'.test.laneBist.get x = d.test.laneBist.get x) ∧ c + 9920000 ≤ d'.clk ∧ d'.gd = d.gd ∧ d'.safe = d.safe ∧
      d'.edge = d.edge ∧ d'.net = d.net ∧ d'.can = d.can ∧ d'.pair = d.pair ∧ d'.boot = d.boot := by
  obtain ⟨⟨others, gd, safe, edge, net, can, pair, boot⟩, test, -, time⟩ := h
  have run : d'.test.bistRun = d.test.bistRun.filter (fun y => y.1 != l) ∧ d'.test.laneBist = d.test.laneBist.set l code := by
    rw [test]
    cases blame <;> exact ⟨rfl, rfl⟩
  have clk : d'.clk = max d.clk (c + 15500 * usClk) := (congrArg TimeSt.clk time).trans (Dev.toClk_clk ..)
  refine ⟨fun x mem => ?_, others, fun x other => ?_, ?_, gd, safe, edge, net, can, pair, boot⟩
  · rw [run.1, List.mem_filter] at mem
    exact bne_iff_ne.mp mem.2
  · rw [run.2]
    exact Tri.get_set_ne _ _ _ _ other
  · rw [clk]
    exact Nat.le_max_right ..
theorem Dev.BistEnded.code {d d' : Dev} {l : Lane} {c code : Nat} {soft : List (Nat × Nat × Nat × Nat)} {blame : Option (Nat × Nat × Bool)}
    (h : d.BistEnded l c code soft blame d') : d'.test.laneBist.get l = code ∧ d'.test.soft = d.test.soft ++ soft := by
  rw [h.test]
  cases blame <;> exact ⟨Tri.get_set .., rfl⟩
theorem Dev.BistEnded.failed {d d' : Dev} {l : Lane} {c code mem mac : Nat} {unrep : Bool} {soft : List (Nat × Nat × Nat × Nat)}
    (h : d.BistEnded l c code soft (some (mem, mac, unrep)) d') : d'.phase l = .failed ∧ d'.test.failMem.get l = mem ∧
      d'.test.failMac.get l = mac ∧ d'.test.unrep.get l = unrep := by
  rw [Dev.phase, h.lane, h.test]
  exact ⟨rfl, Tri.get_set .., Tri.get_set .., Tri.get_set ..⟩

/-! ### Cast and rotation -/

/-- The source of a cast is a live lane other than its target (R109). -/
theorem Dev.sources_contains {d : Dev} {src t : Lane} (live : d.isLive src = true) (other : src ≠ t) : (d.sources t).contains src = true := by
  simp [Dev.sources, Dev.liveLanes, mem_lanesAll, live, other]
/-- Time only goes on. -/
theorem Dev.clk_le_toGt (d : Dev) (g : Nat) : d.clk ≤ (d.toGt g).clk := by
  have pass (n : Nat) : d.time.clk ≤ (d.time.pass n).clk := by unfold TimeSt.pass; split_ifs <;> exact Nat.le_add_right ..
  show d.time.clk ≤ (d.time.toRaw _).clk
  unfold TimeSt.toRaw
  split
  · exact pass _
  · exact Nat.le_refl _

/-- Settles O46: each step concerns one lane. -/
theorem laneRecovery : Obligations.LaneRecovery := by
  intro s outside
  have apart {l : Lane} {d : Dev} (h : s.dev.LaneApart l d) : outside d := ⟨h.edge, h.net, h.can, h.pair, h.boot⟩
  refine ⟨fun src t marks g cal cast live other => ⟨?_, ?_⟩, fun src q cal none_ => ?_, fun released three noCast noRot single up => ?_,
    fun busy => ?_, fun l c run => ?_, fun l r none_ => ?_⟩
  · have source := Dev.sources_contains live other
    have is : exec (.castSweepEnd src false cal) s = s.onDev (fun d =>
        (d.onLane t (fun q => { q with meas := { q.meas with calBad := q.meas.calBad || cal } })).onVot (fun v =>
          { v with cast := some (t, insertNew marks src, BitVec.ofNat 64 d.gt) })) := by
      refine next_of_dev ?_
      dsimp only
      simp only [cast, source]
      rfl
    have step := ((Dev.LaneApart.refl s.dev t).onLane (fun q => { q with meas := { q.meas with calBad := q.meas.calBad || cal } })).onVot
      (fun v => { v with cast := some (t, insertNew marks src, BitVec.ofNat 64 s.dev.gt) })
    have lane : ((s.dev.onLane t (fun q => { q with meas := { q.meas with calBad := q.meas.calBad || cal } })).onVot
      (fun v => { v with cast := some (t, insertNew marks src, BitVec.ofNat 64 s.dev.gt) })).lane t = _ := Tri.get_set ..
    refine does_of_onDev is ⟨⟨_, rfl, mem_insertNew.mpr (.inr rfl), fun x mem => mem_insertNew.mpr (.inl mem)⟩, ?_, ?_, ?_, step.others, rfl, apart step⟩
    · rw [lane]; rfl
    · rw [lane]; rfl
    · rw [lane]; rfl
  · have source := Dev.sources_contains live other
    have runs : s.dev.runs src = true := by rw [Dev.runs, live]; rfl
    have is : exec (.castSweepEnd src true cal) s = s.onDev (·.takeOut src 6 0 0) := by
      refine next_of_dev ?_
      dsimp only
      simp only [cast, source]
      rfl
    refine does_of_onDev is ⟨?_, ?_, Dev.takeOut_cast runs .., fun x ne => Dev.takeOut_lane_ne _ _ _ _ _ _ ne⟩
    · rw [Dev.phase, Dev.takeOut_lane _ _ _ _ _ runs]
      rfl
    · rw [Dev.takeOut_lane _ _ _ _ _ runs]
      rfl
  · refine next_of_dev ?_
    dsimp only
    simp only [none_]
  · let b := max s.dev.gt (s.dev.vot.rotGt.toNat + 384000000000)
    let e := s.dev.toGt (bellAtOrAfter s.dev b)
    have is : exec .rotationStart s = s.onDev (fun d =>
        let e := d.toGt (bellAtOrAfter d b)
        startBist ((e.takeOut d.vot.rotNext 8 0 0).onVot (fun v =>
          { v with rot := some d.vot.rotNext, rotBist := true, rotNext := nextLane d.vot.rotNext, rotGt := BitVec.ofNat 64 (e.takeOut d.vot.rotNext 8 0 0).gt }))
          d.vot.rotNext) := next_of_dev (if_pos (by simp [released, three, noCast, noRot, single, up]))
    refine does_of_onDev is ?_
    generalize s.dev.vot.rotNext = l
    have live (x : Lane) : e.isLive x = true := Dev.isLive_of_three three x
    have runs : e.runs l = true := by rw [Dev.runs, live]; rfl
    have out := Dev.takeOut_apart (fun x _ => live x) 8 0 0 (l := l) (d := e)
    have lane := e.takeOut_lane l 8 0 0 runs
    have clk : s.dev.clk ≤ (e.takeOut l 8 0 0).clk :=
      (Dev.clk_le_toGt ..).trans_eq (congrArg TimeSt.clk (e.takeOut_time l 8 0 0).symm)
    obtain ⟨x, host⟩ := Dev.testStatus_host (((e.takeOut l 8 0 0).onVot (fun v =>
      { v with rot := some l, rotBist := true, rotNext := nextLane l, rotGt := BitVec.ofNat 64 (e.takeOut l 8 0 0).gt })).onTest (fun t => { t with
        soft := t.soft.filter (fun r => r.1 != laneIdx l)
        bistRun := t.bistRun.filter (fun x => x.1 != l) ++ [(l, (e.takeOut l 8 0 0).clk)] }))
    dsimp only
    rw [startBist]
    refine host.symm ▸ ⟨(congrArg (·.seq.phase) lane).trans rfl, (congrArg (·.seq.cause) lane).trans rfl, rfl, rfl, rfl,
      ⟨_, List.mem_append_right _ (List.mem_singleton.mpr rfl), clk⟩, fun x ne => (out.others x ne).trans rfl, out.edge, out.net, out.can, out.pair, out.boot⟩
  · refine next_of_dev (if_neg ?_)
    rcases busy with h | h | h
    · simp [h]
    · cases h' : s.dev.vot.cast with
      | none => exact absurd h' h
      | some x => simp
    · cases h' : s.dev.vot.rot with
      | none => exact absurd h' h
      | some x => simp
  · intro frame fails
    have failing {r : BistResult} {found : List (Nat × Nat × Nat × Nat) × Option Nat} {mem mac : Nat} {unrep : Bool}
        (repairs : repairAll s.dev l r.cells = found) (code : bistCode r found = 3) (blame : bistBlame r (bistMacros r found) = some (mem, mac, unrep)) :
        Does (.laneBistDone l r) s (fun d => fails d mem mac unrep) := by
      refine bistDone_ended run repairs fun d ended => ?_
      rw [blame] at ended
      obtain ⟨phase, mem_, mac_, unrep_⟩ := ended.failed
      exact ⟨ended.code.1.trans code, phase, mem_, mac_, unrep_, ended.frame⟩
    refine ⟨?_, fun m r k free => ⟨?_, ?_⟩, failing (repairAll_nil ..) rfl rfl, fun b k some_ => ?_, fun k cells bad => ?_⟩
    · refine bistDone_ended run (repairAll_nil ..) fun d ended => ⟨ended.code.1, ended.lane, ?_, ended.frame⟩
      exact ended.code.2.trans (List.append_nil _)
    · exact bistDone_ended run (repairAll_one free ..) fun d ended => ⟨ended.code.1, ended.lane, ended.code.2, ended.frame⟩
    · have macros : bistMacros ⟨true, 0, [(m, r, k)], [m]⟩ ([(laneIdx l, m, 0, r)], none) = [m] := by
        simp [bistMacros, sortNat, insNat]
      refine failing (repairAll_one free ..) ?_ ?_
      · simp [bistCode, macros]
      · simp [bistBlame, macros]
    · refine failing (repairAll_nil ..) ?_ ?_
      · simp [bistCode, some_]
      · simp [bistBlame, bistMacros, sortNat, some_]
    · obtain ⟨⟨mem, mac, unrep⟩, blame⟩ : ∃ x, bistBlame ⟨false, k, cells, bad⟩ (bistMacros ⟨false, k, cells, bad⟩ (repairAll s.dev l cells)) = some x := by
        unfold bistBlame
        rw [if_neg (by simp)]
        split
        · exact ⟨_, rfl⟩
        · split <;> exact ⟨_, rfl⟩
      refine (failing rfl (by simp [bistCode]) blame).imp fun d failed => ?_
      obtain ⟨code, phase, -, -, -, framed⟩ := failed
      exact ⟨code, phase, framed⟩
  · refine next_of_dev ?_
    dsimp only
    rw [none_]

end Sys2Proof.Machine
end

section
/-! SUPPORT. Resets and power domains: what a reset keeps, and what a domain that goes down or comes back leaves alone (R399, R402, R419,
R445 to R447). -/

namespace Sys2Proof.Machine
open Sys2Proof

/-! ### Registers and folds -/

/-- What every step of a fold keeps, the fold keeps. -/
theorem foldl_kept {α β γ : Type} (proj : α → γ) {f : α → β → α} (kept : ∀ a b, proj (f a b) = proj a) : ∀ (l : List β) (a : α),
    proj (l.foldl f a) = proj a
  | [], _ => rfl
  | b :: r, a => (foldl_kept proj kept r (f a b)).trans (kept a b)

theorem setBit12_bit (w : BitVec 12) {c i : Nat} (v : Bool) (small : i < 12) :
    (setBit12 w c v).getLsbD i = if i = c then v else w.getLsbD i := by
  unfold setBit12
  cases v
  · simp only [Bool.false_eq_true, if_false, BitVec.getLsbD_and, BitVec.getLsbD_not, BitVec.getLsbD_ofNat, Nat.testBit_two_pow, small, decide_true,
      Bool.true_and]
    by_cases same : i = c
    · simp [same]
    · simp [same, Ne.symm same]
  · simp only [if_true, BitVec.getLsbD_or, BitVec.getLsbD_ofNat, Nat.testBit_two_pow, small, decide_true, Bool.true_and]
    by_cases same : i = c
    · simp [same]
    · simp [same, Ne.symm same]
theorem setBit12_clear (w : BitVec 12) {c i : Nat} (small : i < 12) : (setBit12 w c false).getLsbD i = (w.getLsbD i && i != c) := by
  rw [setBit12_bit w false small]
  by_cases same : i = c <;> simp [same]
theorem setBit12_set (w : BitVec 12) {c i : Nat} (small : i < 12) : (setBit12 w c true).getLsbD i = (w.getLsbD i || i == c) := by
  rw [setBit12_bit w true small]
  by_cases same : i = c <;> simp [same]

/-- What a domain's loss leaves of the power registers. -/
def PowerSt.lasting (p : PowerSt) : BitVec 12 × BitVec 12 × BitVec 12 × Nat := (p.good, p.dropped, p.on, p.cause)

/-! ### Units that lose their supply -/

/-- A step at every half-bridge of a list changes half-bridges only. -/
theorem foldl_onHb (f : HbSt → HbSt) (l : List Nat) (d : Dev) :
    ∃ hb, l.foldl (fun d n => d.onHb n f) d = { d with gd := { d.gd with hb := hb } } := by
  induction l generalizing d with
  | nil => exact ⟨d.gd.hb, rfl⟩
  | cons n r ih =>
    obtain ⟨hb, is⟩ := ih (d.onHb n f)
    exact ⟨hb, is⟩
theorem bankLatch_eq (d : Dev) (bank : Nat) :
    ∃ hb, bankLatch d bank = { d with gd := { d.gd with hb := hb, vgdUv := pairSet d.gd.vgdUv bank true } } := by
  unfold bankLatch
  dsimp only
  obtain ⟨hb, is⟩ := foldl_onHb (fun h => { h.allOff d.fineNow with
    hi := { (h.allOff d.fineNow).hi with latch := insertNew h.hi.latch .vgdUv },
    lo := { (h.allOff d.fineNow).lo with latch := insertNew h.lo.latch .vgdUv } }) (bankHbs bank) d
  exact ⟨hb, congrArg (·.onGd (fun g => { g with vgdUv := pairSet g.vgdUv bank true })) is⟩
/-- A bank without gate supply is latched and its bootstraps discharge. -/
theorem dropUnit_bank (d : Dev) {code : Nat} (bank : code = 9 ∨ code = 10) (cause : Nat) :
    ∃ hb, dropUnit d code cause = { d with gd := { d.gd with hb := hb, vgdUv := pairSet d.gd.vgdUv (code - 8) true } } := by
  obtain ⟨hb, latch⟩ := bankLatch_eq d (code - 8)
  obtain ⟨hb', is⟩ := foldl_onHb (fun h => { h with bsLow := true }) (bankHbs (code - 8)) (bankLatch d (code - 8))
  refine ⟨hb', Eq.trans ?_ (is.trans (by rw [latch]))⟩
  unfold dropUnit
  rw [if_neg (by simp; omega), if_neg (by simp; omega), if_pos (by simpa using bank)]
theorem dropUnit_sio (d : Dev) {code : Nat} (sio : code = 7 ∨ code = 8) (cause : Nat) : dropUnit d code cause =
    d.onSio (code == 8) (fun x => { x with
      lost := true, req := true, guard := false, ofault := true, pend := [], stoOff := true, pbApply := true, safeOk := false,
      pulseS := false, pulseP := false }) := by
  unfold dropUnit
  rw [if_neg (by simp; omega), if_pos (by simpa using sio)]
theorem dropUnit_lane (d : Dev) {code : Nat} (low : 1 ≤ code) (high : code ≤ 3) (cause : Nat) : dropUnit d code cause =
    (d.takeOut (domLane code) cause 0 0).onSeq (domLane code) (fun q => if q.phase == .failed then q else { q with phase := .off }) := by
  unfold dropUnit
  rw [if_pos (by simp; omega)]
theorem dropUnit_edge (d : Dev) (cause : Nat) : dropUnit d 11 cause =
    { d with edge := d.edge.map (fun x => { x with evq := [], cmdq := [], hbDue := false, syncDue := false }) } := rfl
theorem dropUnit_pwr (d : Dev) (code cause : Nat) : (dropUnit d code cause).pwr = d.pwr := by
  unfold dropUnit
  dsimp only
  split
  · exact d.takeOut_pwr ..
  split
  · rfl
  split
  · refine (foldl_kept Dev.pwr ?_ _ _).trans ?_
    · exact fun _ _ => rfl
    obtain ⟨hb, is⟩ := bankLatch_eq d (code - 8)
    rw [is]
  split <;> rfl

/-- The jobs that a lane's loss ends are the management's. -/
theorem endLaneJobs_kept (d : Dev) (code : Nat) : (endLaneJobs d code).pwr.lasting = d.pwr.lasting ∧ (endLaneJobs d code).lanes = d.lanes := by
  unfold endLaneJobs
  constructor
  · refine (foldl_kept (fun d : Dev => d.pwr.lasting) ?_ _ _).trans rfl
    exact fun _ _ => rfl
  · refine (foldl_kept Dev.lanes ?_ _ _).trans rfl
    exact fun _ _ => rfl
theorem loseHub_kept (d : Dev) : (loseHub d).pwr.lasting = d.pwr.lasting ∧ (loseHub d).pwr.hubLost = true ∧ (loseHub d).lanes = d.lanes := by
  unfold loseHub
  split
  · next lost => exact ⟨rfl, lost, rfl⟩
  · exact ⟨rfl, rfl, rfl⟩

/-- A lane that fails stays FAILED without its supply; any other is off (R447). -/
theorem dropUnit_phase (d : Dev) {code : Nat} (low : 1 ≤ code) (high : code ≤ 3) (cause : Nat) :
    (dropUnit d code cause).phase (domLane code) = (if d.phase (domLane code) = .failed then .failed else .off) := by
  have taken : ((d.takeOut (domLane code) cause 0 0).phase (domLane code) = .failed) ↔ d.phase (domLane code) = .failed := by
    cases runs : d.runs (domLane code) with
    | false => rw [Dev.takeOut_idle _ _ _ _ _ runs]
    | true =>
      have alive : d.phase (domLane code) ≠ .failed := by
        intro failed
        simp [Dev.runs, Dev.isLive, Dev.isProb, failed] at runs
      refine iff_of_false ?_ alive
      rw [Dev.phase, Dev.takeOut_lane _ _ _ _ _ runs]
      simp [SeqSt.goOut]
  rw [dropUnit_lane d low high]
  generalize d.takeOut (domLane code) cause 0 0 = e at taken
  have lane : (e.onSeq (domLane code) (fun q => if q.phase == .failed then q else { q with phase := .off })).phase (domLane code) =
      (if (e.lane (domLane code)).seq.phase == .failed then (e.lane (domLane code)).seq else { (e.lane (domLane code)).seq with phase := .off }).phase :=
    congrArg (fun q : LaneSt => q.seq.phase) (Tri.get_set ..)
  rw [lane]
  by_cases failed : d.phase (domLane code) = .failed
  · have there : (e.lane (domLane code)).seq.phase = .failed := taken.mpr failed
    rw [if_pos failed, if_pos (by simp [there]), there]
  · have not : (e.lane (domLane code)).seq.phase ≠ .failed := fun h => failed (taken.mp h)
    rw [if_neg failed, if_neg (by simpa using not)]
theorem dropUnit_others (d : Dev) {code : Nat} (low : 1 ≤ code) (high : code ≤ 3) (cause : Nat) {l : Lane} (other : l ≠ domLane code) :
    (dropUnit d code cause).lane l = d.lane l := by
  rw [dropUnit_lane d low high]
  exact (Tri.get_set_ne _ _ _ _ other).trans (Dev.takeOut_lane_ne _ _ _ _ _ _ other)

/-- The device once the loss of a domain stands in the registers and the journal. -/
def Dev.domainLost (d : Dev) (code : Nat) : Dev :=
  (d.onPwr (fun p => { p with good := setBit12 p.good code false, dropped := setBit12 p.dropped code true })).fault 0x1C code 0 0 0
/-- The device once the unit of the domain is gone too. -/
def Dev.unitLost (d : Dev) (code : Nat) : Dev :=
  if 4 ≤ code ∧ code ≤ 6 then loseHub d else noteDegraded (dropUnit (if code ≤ 3 then endLaneJobs d code else d) code 9)
theorem Dev.unitLost_hub (d : Dev) {code : Nat} (hub : 4 ≤ code ∧ code ≤ 6) : d.unitLost code = loseHub d := if_pos hub
theorem Dev.unitLost_lane (d : Dev) {code : Nat} (lane : code ≤ 3) :
    d.unitLost code = noteDegraded (dropUnit (endLaneJobs d code) code 9) := by
  rw [Dev.unitLost, if_neg (by omega), if_pos lane]
theorem Dev.unitLost_other (d : Dev) {code : Nat} (other : 6 < code) : d.unitLost code = noteDegraded (dropUnit d code 9) := by
  rw [Dev.unitLost, if_neg (by omega), if_neg (by omega)]
theorem Dev.unitLost_lasting (d : Dev) (code : Nat) : (d.unitLost code).pwr.lasting = d.pwr.lasting := by
  rcases Nat.lt_or_ge 6 code with other | small
  · rw [d.unitLost_other other, noteDegraded_pwr, dropUnit_pwr]
  rcases Nat.lt_or_ge 3 code with hub | lane
  · rw [d.unitLost_hub ⟨hub, small⟩, (loseHub_kept d).1]
  · rw [d.unitLost_lane lane, noteDegraded_pwr, dropUnit_pwr, (endLaneJobs_kept d code).1]

/-- What a domain other than VAON does when it goes down. -/
theorem domainDown_eq {s : State} {code : Nat} (low : 1 ≤ code) (high : code < 12) (good : s.dev.pwr.good.getLsbD code = true) :
    exec (.domainDown code) s = s.onDev (fun d => (d.domainLost code).unitLost code) := by
  refine next_of_dev ((if_neg ?_).trans ((if_neg ?_).trans ?_))
  · simp [good]; omega
  · omega
  · dsimp only
    simp only [decide_eq_true_eq]
    rfl

theorem plinthBegins_eq (d : Dev) (first : d.boot.stage = 0) (pairId : Bool) : ∃ (a b : Nat) (n : Nat) (e : List LinkSt), plinthBegins d pairId =
    { d with
      boot := { d.boot with stage := 1, stageAt := d.clk }
      safe := { d.safe with a := { d.safe.a with phase := a, reqAt := d.clk }, b := { d.safe.b with phase := b, reqAt := d.clk } }
      draws := n
      pwr := { d.pwr with good := BitVec.ofNat 12 0xFFF, dropped := 0 }
      pair := { d.pair with pairId := pairId }
      edge := e } :=
  ⟨_, _, _, _, if_neg (by simp [first])⟩

/-- The device once a domain that is good again stands in the register. -/
def Dev.domainBack (d : Dev) (code : Nat) : Dev := d.onPwr (fun p => { p with good := setBit12 p.good code true })
/-- A unit comes back with its supply (Table 25-2). -/
def Dev.unitBack (d : Dev) (code : Nat) : Dev :=
  if !d.pwr.on.getLsbD code then d
  else if decide (1 ≤ code ∧ code ≤ 3) then laneBack d code
  else if code = 7 || code = 8 then d.onSio (code == 8) (fun x => { x with lost := false, reqAt := d.clk })
  else
    let d := if code = 9 || code = 10 then bankUnlatch d (code - 8) else d
    let d := if code = 11 then { d with edge := d.edge.map (fun x => { x with syncDue := true, rxClk := d.clk }) } else d
    let mine := d.pwr.jobs.filter (fun j => j.1 == code)
    noteDegraded (mine.foldl (fun d j => d.endJob j.2 0 0) (d.onPwr (fun p => { p with jobs := p.jobs.filter (fun j => j.1 != code) })))
theorem laneBack_pwr (d : Dev) (code : Nat) : (laneBack d code).pwr = d.pwr := by
  unfold laneBack
  dsimp only
  split <;> rfl
theorem bankUnlatch_pwr (d : Dev) (bank : Nat) : (bankUnlatch d bank).pwr = d.pwr := by
  unfold bankUnlatch
  refine (foldl_kept Dev.pwr ?_ _ _)
  exact fun _ _ => rfl
theorem Dev.unitBack_lasting (d : Dev) (code : Nat) : (d.unitBack code).pwr.lasting = d.pwr.lasting := by
  unfold Dev.unitBack
  split
  · rfl
  split
  · rw [laneBack_pwr]
  split
  · rfl
  · dsimp only
    rw [noteDegraded_pwr]
    refine (foldl_kept (fun d : Dev => d.pwr.lasting) ?_ _ _).trans ?_
    · exact fun _ _ => rfl
    · rw [← bankUnlatch_pwr d (code - 8)]
      split_ifs <;> simp only [bankUnlatch_pwr, Dev.onPwr_pwr] <;> rfl
theorem domainGood_eq {s : State} {code : Nat} (high : code < 12) (bad : s.dev.pwr.good.getLsbD code = false) (begun : s.dev.boot.stage ≠ 0) :
    exec (.domainGood code) s = s.onDev (fun d => (d.domainBack code).unitBack code) :=
  next_of_dev (if_neg (by simp [bad, begun]; omega))

/-- Settles O58: one lemma per step on a unit, read off field by field. -/
theorem power : Obligations.Power := by
  intro s z p
  refine ⟨fun vaon => does_of_onDev (f := fun d => resetDev d (if vaon then 3 else 1)) rfl ?_, fun id => ⟨fun first => ?_, fun later => ?_⟩, fun t at_ => ?_, fun never => ?_, fun c idle => ?_, fun good => ?_,
    fun c low high good => ?_, fun c idle => ?_, fun c high bad begun => ?_⟩
  · exact ⟨rfl, rfl, rfl, rfl, rfl, rfl, rfl, rfl, rfl, rfl, rfl, rfl, rfl, rfl, rfl, rfl, rfl, rfl, rfl, rfl⟩
  · obtain ⟨a, b, n, e, is⟩ := plinthBegins_eq s.dev first id
    refine does_of_onDev (f := fun d => plinthBegins d id) rfl ?_
    rw [is]
    refine ⟨rfl, rfl, rfl, rfl, rfl, rfl, fun grp => ?_⟩
    cases grp <;> rfl
  · exact next_of_onDev (f := fun d => plinthBegins d id) rfl (if_pos later)
  · have is : exec .restartDelayExpiry s = s.onDev (fun d => plinthBegins (resetDev (d.toClk t) 2) d.pair.pairId) := by
      refine next_of_dev ?_
      dsimp only
      rw [at_]
    obtain ⟨a, b, n, e, begins⟩ := plinthBegins_eq (resetDev (s.dev.toClk t) 2) rfl s.dev.pair.pairId
    refine does_of_onDev is ?_
    rw [begins]
    exact ⟨rfl, rfl, rfl, rfl, rfl, rfl, rfl, rfl⟩
  · refine next_of_dev ?_
    dsimp only
    rw [never]
  · refine next_of_dev (if_pos ?_)
    rcases idle with h | h
    · simp [h]
    · simp [show s.dev.pwr.good.getLsbD c = false from h]
  · have is : exec (.domainDown 0) s = s.onDev (fun d => resetDev d 3) := next_of_dev ((if_neg (by simp [show s.dev.pwr.good.getLsbD 0 = true from good])).trans (if_pos rfl))
    exact does_of_onDev is ⟨rfl, rfl, rfl, rfl⟩
  · refine does_of_onDev (domainDown_eq low high good) ?_
    have pwr : (s.dev.domainLost c).pwr = { p with good := setBit12 p.good c false, dropped := setBit12 p.dropped c true } := Dev.fault_pwr ..
    have lanes : (s.dev.domainLost c).lanes = s.dev.lanes := Dev.fault_lanes ..
    have safe : (s.dev.domainLost c).safe = s.dev.safe := Dev.fault_safe ..
    have gd : (s.dev.domainLost c).gd = s.dev.gd := Dev.fault_gd ..
    have lasting := (s.dev.domainLost c).unitLost_lasting c
    generalize s.dev.domainLost c = e at *
    rw [pwr] at lasting
    obtain ⟨good_, dropped, on_, cause⟩ := show _ ∧ _ ∧ _ ∧ _ by simpa only [PowerSt.lasting, Prod.mk.injEq] using lasting
    refine ⟨fun i small => ⟨?_, ?_⟩, on_, cause, fun lane => ⟨?_, fun l other => ?_⟩, fun a b => ?_, fun sio => ?_, fun nine => ?_, fun ten => ?_, fun edge => ?_⟩
    · rw [good_, setBit12_clear _ small]
    · rw [dropped, setBit12_set _ small]
    · have same : (endLaneJobs e c).phase (domLane c) = s.dev.phase (domLane c) :=
        congrArg (fun l : Tri LaneSt => (l.get (domLane c)).seq.phase) ((endLaneJobs_kept e c).2.trans lanes)
      rw [e.unitLost_lane lane, ← same]
      exact (congrArg (fun l : Tri LaneSt => (l.get (domLane c)).seq.phase) (noteDegraded_lanes _)).trans (dropUnit_phase _ low lane 9)
    · have same : (endLaneJobs e c).lane l = s.dev.lane l := congrArg (fun x : Tri LaneSt => x.get l) ((endLaneJobs_kept e c).2.trans lanes)
      rw [e.unitLost_lane lane, ← same]
      exact (congrArg (fun x : Tri LaneSt => x.get l) (noteDegraded_lanes _)).trans (dropUnit_others _ low lane 9 other)
    · rw [e.unitLost_hub ⟨a, b⟩]
      exact ⟨(loseHub_kept e).2.1, (loseHub_kept e).2.2.trans lanes⟩
    · rw [e.unitLost_other (by omega), dropUnit_sio e sio]
      have same (b : Bool) : s.dev.sio b = e.sio b := Dev.sio_congr safe.symm b
      have noted (d : Dev) (b : Bool) : (noteDegraded d).sio b = d.sio b := Dev.sio_congr (noteDegraded_safe d) b
      rw [noted, noted, same]
      rcases sio with rfl | rfl <;> exact ⟨rfl, rfl, rfl, rfl, rfl⟩
    · obtain ⟨hb, is⟩ := dropUnit_bank e (.inl nine) 9
      rw [e.unitLost_other (by omega), noteDegraded_gd, is, gd, nine]
      rfl
    · obtain ⟨hb, is⟩ := dropUnit_bank e (.inr ten) 9
      rw [e.unitLost_other (by omega), noteDegraded_gd, is, gd, ten]
      rfl
    · rw [e.unitLost_other (by omega), noteDegraded_edge, edge, dropUnit_edge]
      intro x mem
      obtain ⟨y, -, rfl⟩ := List.mem_map.mp mem
      exact ⟨rfl, rfl⟩
  · refine next_of_dev (if_pos ?_)
    rcases idle with h | h | h
    · simp [h]
    · simp [show s.dev.pwr.good.getLsbD c = true from h]
    · simp [h]
  · refine does_of_onDev (domainGood_eq high bad begun) ?_
    have same : (s.dev.domainBack c).pwr.on = p.on := rfl
    have lasting := (s.dev.domainBack c).unitBack_lasting c
    obtain ⟨good, -, on, -⟩ := show _ ∧ _ ∧ _ ∧ _ by simpa only [PowerSt.lasting, Prod.mk.injEq] using lasting
    refine ⟨fun i small => ?_, on, fun off => ?_, fun on sio => ?_, fun on low lane released two was => ?_⟩
    · rw [good]
      exact setBit12_set _ small
    · have is : (s.dev.domainBack c).unitBack c = s.dev.domainBack c := if_pos (by simp [same, off])
      rw [is]
      exact ⟨rfl, rfl, rfl, rfl⟩
    · have is : (s.dev.domainBack c).unitBack c = (s.dev.domainBack c).onSio (c == 8) (fun x => { x with lost := false, reqAt := s.dev.clk }) :=
        (if_neg (by simp [same, on])).trans ((if_neg (by simp; omega)).trans (if_pos (by simpa using sio)))
      rw [is]
      rcases sio with rfl | rfl <;> exact ⟨rfl, rfl⟩
    · have back : (s.dev.domainBack c).unitBack c = laneBack (s.dev.domainBack c) c :=
        (if_neg (by simp [same, on])).trans (if_pos (by simp; omega))
      have is : laneBack (s.dev.domainBack c) c = startBist ((s.dev.domainBack c).onSeq (domLane c) (fun q => { q with phase := .out })) (domLane c) := by
        refine if_pos ?_
        simp [show (s.dev.domainBack c).boot.released = true from released, show 2 ≤ (s.dev.domainBack c).liveCount from two,
          show (s.dev.domainBack c).phase (domLane c) = .off from was]
      rw [back, is]
      refine ⟨?_, _, List.mem_append_right _ (List.mem_singleton.mpr rfl)⟩
      exact congrArg (fun q : LaneSt => q.seq.phase) (Tri.get_set ..)

end Sys2Proof.Machine
end

section
/-! SUPPORT. The journal store: what posts, record writes and compactions make of the queue and the areas, and that they touch nothing but the
journal and the host's event queue (R407 to R416, R439, R448). -/

namespace Sys2Proof.Machine
open Sys2Proof

/-! ### Merging a FAULT post -/

/-- Raise the repetition count of the newest record with f. -/
def bumpNewest (f : QRec → Bool) (q : List QRec) : List QRec × Bool :=
  q.foldr (fun r acc => if !acc.2 && f r then ({ r with rep := satInc 0xFFFF r.rep } :: acc.1, true) else (r :: acc.1, acc.2)) ([], false)
theorem mergeFault_eq (q : List QRec) (p : Post) : mergeFault q p =
    if q.any (fun r => r.post.cls == 0 && r.post.type == p.type && r.post.source == p.source) then
      ((bumpNewest (fun r => r.post.cls == 0 && r.post.type == p.type && r.post.source == p.source) q).1, true)
    else ((bumpNewest (fun r => r.post.cls == 0) q).1, false) := rfl

theorem bumpNewest_posts (f : QRec → Bool) (q : List QRec) : (bumpNewest f q).1.map (·.post) = q.map (·.post) := by
  induction q with
  | nil => rfl
  | cons r t ih =>
    show (if !(bumpNewest f t).2 && f r then ({ r with rep := satInc 0xFFFF r.rep } :: (bumpNewest f t).1, true) else
      (r :: (bumpNewest f t).1, (bumpNewest f t).2)).1.map (·.post) = _
    split <;> simp [ih]
theorem bumpNewest_none {f : QRec → Bool} {q : List QRec} (none_ : q.any f = false) : bumpNewest f q = (q, false) := by
  induction q with
  | nil => rfl
  | cons r t ih =>
    rw [List.any_cons, Bool.or_eq_false_iff] at none_
    show (if !(bumpNewest f t).2 && f r then ({ r with rep := satInc 0xFFFF r.rep } :: (bumpNewest f t).1, true) else
      (r :: (bumpNewest f t).1, (bumpNewest f t).2)) = _
    rw [ih none_.2, none_.1]
    rfl
theorem bumpNewest_split {f : QRec → Bool} {x : QRec} {l2 : List QRec} (here : f x = true) (later : l2.any f = false) (l1 : List QRec) :
    bumpNewest f (l1 ++ x :: l2) = (l1 ++ { x with rep := satInc 0xFFFF x.rep } :: l2, true) := by
  induction l1 with
  | nil =>
    show (if !(bumpNewest f l2).2 && f x then ({ x with rep := satInc 0xFFFF x.rep } :: (bumpNewest f l2).1, true) else
      (x :: (bumpNewest f l2).1, (bumpNewest f l2).2)) = _
    rw [bumpNewest_none later, here]
    rfl
  | cons r t ih =>
    show (if !(bumpNewest f (t ++ x :: l2)).2 && f r then ({ r with rep := satInc 0xFFFF r.rep } :: (bumpNewest f (t ++ x :: l2)).1, true) else
      (r :: (bumpNewest f (t ++ x :: l2)).1, (bumpNewest f (t ++ x :: l2)).2)) = _
    rw [ih]
    rfl
theorem mergeFault_posts (q : List QRec) (p : Post) : (mergeFault q p).1.map (·.post) = q.map (·.post) := by
  rw [mergeFault_eq]
  split <;> exact bumpNewest_posts ..

/-! ### Steps on the journal and the host's events alone -/

/-- d' differs from d in the journal and in what waits for the host only. -/
def Dev.JrKeeps (d d' : Dev) : Prop := ∃ (j : JournalSt) (h : HostSt), d' = { d with jr := j, host := h }

namespace Dev.JrKeeps
variable {d d' : Dev}

theorem refl (d : Dev) : d.JrKeeps d := ⟨_, _, rfl⟩
theorem trans {e : Dev} (h : d.JrKeeps d') (h' : d'.JrKeeps e) : d.JrKeeps e := by
  obtain ⟨j, x, rfl⟩ := h
  obtain ⟨j', x', rfl⟩ := h'
  exact ⟨j', x', rfl⟩

variable (h : d.JrKeeps d')
include h

theorem onJr (f : JournalSt → JournalSt) : d.JrKeeps (d'.onJr f) := h.trans ⟨_, _, rfl⟩
theorem onHost (f : HostSt → HostSt) : d.JrKeeps (d'.onHost f) := h.trans ⟨_, _, rfl⟩
theorem event (cls : Nat) (v : Word) : d.JrKeeps (d'.event cls v) := by
  unfold Dev.event
  dsimp only
  split_ifs <;> exact h.trans ⟨_, _, rfl⟩
theorem post (p : Post) : d.JrKeeps (d'.post p) := by
  unfold Dev.post
  dsimp only
  split_ifs <;> exact h.onJr _
theorem note (t u i c v : Nat) : d.JrKeeps (d'.note t u i c v) := by
  unfold Dev.note
  split
  · exact h.post _
  · exact h
theorem startCompaction (cal : Bool) (jobs : List Nat) : d.JrKeeps (Machine.startCompaction d' cal jobs) := by
  unfold Machine.startCompaction
  dsimp only
  split <;> exact h.onJr _
end Dev.JrKeeps

/-! ### Writing one record -/

/-- The record that a queued one becomes. -/
def QRec.written (q : QRec) (seq : BitVec 32) : Rec :=
  { pos := 0, type := q.post.type, cls := q.post.cls, source := q.post.source, seq := seq, rep := q.rep, payload := q.post.payload, bad := false }
/-- A record finds room in the active area of its store. -/
def Dev.roomFor (d : Dev) (q : QRec) : Bool := (d.jr.store q.cal).area.fits q.cal q.post.cls (footprint q.post.payload.length)
/-- The record at the write pointer, with the next SEQ. -/
def JournalSt.wrote (j : JournalSt) (q : QRec) : JournalSt :=
  { j.onStore q.cal (·.onArea (·.put (q.written j.nextSeq))) with nextSeq := seqAfter j.nextSeq }
/-- A FAULT record tells of itself. -/
def Dev.toldOf (d : Dev) (q : QRec) (seq : BitVec 32) : Dev := if q.post.cls = 0 then d.event 2 seq else d
/-- A store past 75 % starts its compaction. -/
def Dev.past (d : Dev) (cal : Bool) : Dev :=
  if decide (areaSize cal * 3 < (d.jr.store cal).area.ptr * 4) && (d.jr.store cal).comp.isNone && !d.jr.warn then startCompaction d cal [] else d
theorem writeRec_fits {d : Dev} {q : QRec} (fits : d.roomFor q = true) :
    writeRec d q = ((d.onJr (·.wrote q)).toldOf q d.jr.nextSeq).past q.cal :=
  if_neg (show ¬ (!(d.jr.store q.cal).area.fits q.cal q.post.cls (footprint q.post.payload.length)) = true by
    rw [show (d.jr.store q.cal).area.fits _ _ _ = true from fits]
    decide)
/-- What a record that finds no room leaves of the journal. -/
def JournalSt.refused (j : JournalSt) (q : QRec) : JournalSt :=
  let j := if q.cal then j else { j with reserve := true }
  if q.post.cls = 0 then
    { j with queue := (mergeFault j.queue q.post).1, merged := if (mergeFault j.queue q.post).2 then j.merged else satInc 255 j.merged }
  else if q.post.cls = 1 then { j with stDrop := satInc 255 j.stDrop }
  else { j with evDrop := satInc 255 j.evDrop }
theorem writeRec_full {d : Dev} {q : QRec} (full : d.roomFor q = false) : writeRec d q = d.onJr (·.refused q) := by
  refine (if_pos (show (!(d.jr.store q.cal).area.fits q.cal q.post.cls (footprint q.post.payload.length)) = true by
    rw [show (d.jr.store q.cal).area.fits _ _ _ = false from full]
    decide)).trans ?_
  unfold JournalSt.refused
  cases q.cal
  all_goals
    by_cases fault : q.post.cls = 0
    · simp only [fault, if_true]
      rfl
    · simp only [fault, if_false]
      by_cases state : q.post.cls = 1
      · simp only [state, if_true] <;> rfl
      · simp only [state, if_false]
        rfl

namespace Dev.JrKeeps
variable {d d' : Dev} (h : d.JrKeeps d')
include h

theorem writeRec (q : QRec) : d.JrKeeps (Machine.writeRec d' q) := by
  cases room : d'.roomFor q with
  | false => rw [writeRec_full room]; exact h.onJr _
  | true =>
    rw [writeRec_fits room]
    have told : d.JrKeeps ((d'.onJr (·.wrote q)).toldOf q d'.jr.nextSeq) := by
      unfold Dev.toldOf
      split
      · exact (h.onJr _).event _ _
      · exact h.onJr _
    unfold Dev.past
    split
    · exact told.startCompaction _ _
    · exact told
theorem flushClass (cls : Nat) : d.JrKeeps (Machine.flushClass d' cls) := by
  have fold (l : List QRec) : ∀ e : Dev, d.JrKeeps e → d.JrKeeps (l.foldl Machine.writeRec e) := by
    induction l with
    | nil => exact fun _ h => h
    | cons q r ih => exact fun _ h => ih _ (h.writeRec q)
  exact fold _ _ (h.onJr _)

end Dev.JrKeeps

/-! ### What record writes never change -/

theorem JournalSt.store_onStore (j : JournalSt) (cal : Bool) (f : StoreSt → StoreSt) : (j.onStore cal f).store cal = f (j.store cal) := by
  cases cal <;> rfl
theorem JournalSt.store_onStore_not (j : JournalSt) (cal : Bool) (f : StoreSt → StoreSt) : (j.onStore cal f).store (!cal) = j.store (!cal) := by
  cases cal <;> rfl
theorem JournalSt.onStore_kept (j : JournalSt) (cal : Bool) (f : StoreSt → StoreSt) :
    (j.onStore cal f).queue = j.queue ∧ (j.onStore cal f).warn = j.warn ∧ (j.onStore cal f).nextSeq = j.nextSeq := by
  cases cal <;> exact ⟨rfl, rfl, rfl⟩
theorem StoreSt.onArea_kept (s : StoreSt) (f : AreaSt → AreaSt) :
    (s.onArea f).active = s.active ∧ (s.onArea f).comp = s.comp ∧ (s.onArea f).area = f s.area := by
  unfold StoreSt.onArea StoreSt.area
  split <;> simp [*]

/-- j' is j after record writes: what they never change. -/
structure JournalSt.Wrote (j j' : JournalSt) : Prop where
  posts : j'.queue.map (·.post) = j.queue.map (·.post)
  warn : j'.warn = j.warn
  active : ∀ x : Bool, (j'.store x).active = (j.store x).active
  gen : ∀ x : Bool, (j'.store x).area.gen = (j.store x).area.gen
  runs : ∀ (x : Bool) (c : CompSt), (j.store x).comp = some c → (j'.store x).comp = some c
  calm : j.warn = true → ∀ x : Bool, (j.store x).comp = none → (j'.store x).comp = none

namespace JournalSt.Wrote
variable {j j' : JournalSt}

theorem refl (j : JournalSt) : j.Wrote j := ⟨rfl, rfl, fun _ => rfl, fun _ => rfl, fun _ _ h => h, fun _ _ h => h⟩
theorem trans {k : JournalSt} (h : j.Wrote j') (h' : j'.Wrote k) : j.Wrote k :=
  ⟨h'.posts.trans h.posts, h'.warn.trans h.warn, fun x => (h'.active x).trans (h.active x), fun x => (h'.gen x).trans (h.gen x),
    fun x c is => h'.runs x c (h.runs x c is), fun is x none_ => h'.calm (h.warn.trans is) x (h.calm is x none_)⟩
/-- A step that leaves the stores alone. -/
theorem ofStores {k : JournalSt} (posts : k.queue.map (·.post) = j.queue.map (·.post)) (warn : k.warn = j.warn) (stores : ∀ x : Bool, k.store x = j.store x) :
    j.Wrote k :=
  ⟨posts, warn, fun x => by rw [stores], fun x => by rw [stores], fun x c is => by rw [stores, is], fun _ x is => by rw [stores, is]⟩
/-- A step on one store. -/
theorem ofStore {cal : Bool} {f : StoreSt → StoreSt} (active : (f (j.store cal)).active = (j.store cal).active)
    (gen : (f (j.store cal)).area.gen = (j.store cal).area.gen) (runs : ∀ c, (j.store cal).comp = some c → (f (j.store cal)).comp = some c)
    (calm : j.warn = true → (j.store cal).comp = none → (f (j.store cal)).comp = none) : j.Wrote (j.onStore cal f) := by
  obtain ⟨queue, warn, -⟩ := j.onStore_kept cal f
  have both {P : Bool → Prop} (here : P cal) (there : P (!cal)) (x : Bool) : P x := by
    cases x <;> cases cal <;> assumption
  refine ⟨congrArg _ queue, warn, both ?_ ?_, both ?_ ?_, both ?_ ?_, fun is => both ?_ ?_⟩
  · rw [store_onStore, active]
  · rw [store_onStore_not]
  · rw [store_onStore, gen]
  · rw [store_onStore_not]
  · rw [store_onStore]; exact runs
  · rw [store_onStore_not]; exact fun _ is => is
  · rw [store_onStore]; exact calm is
  · rw [store_onStore_not]; exact id

theorem wrote (j : JournalSt) (q : QRec) : j.Wrote (j.wrote q) := by
  obtain ⟨active, comp, area⟩ := (j.store q.cal).onArea_kept (·.put (q.written j.nextSeq))
  have stored : j.Wrote (j.onStore q.cal (·.onArea (·.put (q.written j.nextSeq)))) :=
    ofStore active (by rw [area]; rfl) (fun c is => comp.trans is) (fun _ is => comp.trans is)
  exact stored.trans (ofStores rfl rfl fun x => by cases x <;> rfl)
theorem refused (j : JournalSt) (q : QRec) : j.Wrote (j.refused q) := by
  have reserve : j.Wrote (if q.cal then j else { j with reserve := true }) := by
    split
    · exact refl j
    · exact ofStores rfl rfl fun x => by cases x <;> rfl
  refine reserve.trans ?_
  unfold JournalSt.refused
  generalize (if q.cal then j else { j with reserve := true }) = k
  dsimp only
  split
  · exact ofStores (mergeFault_posts ..) rfl fun x => by cases x <;> rfl
  split
  · exact ofStores rfl rfl fun x => by cases x <;> rfl
  · exact ofStores rfl rfl fun x => by cases x <;> rfl

end JournalSt.Wrote

theorem startCompaction_idle (d : Dev) {cal : Bool} (jobs : List Nat) (idle : (d.jr.store cal).comp = none) :
    ∃ c : CompSt, c.jobs = jobs ∧ startCompaction d cal jobs = d.onJr (·.onStore cal (fun s => { s with comp := some c })) := by
  unfold startCompaction
  dsimp only
  rw [idle]
  exact ⟨_, rfl, rfl⟩
theorem startCompaction_wrote (d : Dev) (cal : Bool) (idle : (d.jr.store cal).comp = none) (calm : d.jr.warn = false) :
    d.jr.Wrote (startCompaction d cal []).jr := by
  obtain ⟨c, -, is⟩ := startCompaction_idle d [] idle
  rw [is]
  exact .ofStore (f := fun s => { s with comp := some c }) rfl rfl (fun c is => by rw [idle] at is; cases is) (fun is => by rw [calm] at is; cases is)
theorem Dev.toldOf_jr (d : Dev) (q : QRec) (seq : BitVec 32) : (d.toldOf q seq).jr = d.jr := by
  unfold Dev.toldOf
  split
  · simp
  · rfl
theorem Dev.past_wrote (d : Dev) (cal : Bool) : d.jr.Wrote (d.past cal).jr := by
  unfold Dev.past
  split
  · next starts =>
    simp only [Bool.and_eq_true, Option.isNone_iff_eq_none, Bool.not_eq_true'] at starts
    exact startCompaction_wrote d cal starts.1.2 starts.2
  · exact .refl _
theorem writeRec_wrote (d : Dev) (q : QRec) : d.jr.Wrote (writeRec d q).jr := by
  cases room : d.roomFor q with
  | false => rw [writeRec_full room]; exact .refused ..
  | true =>
    rw [writeRec_fits room]
    refine JournalSt.Wrote.trans ?_ (Dev.past_wrote ..)
    rw [Dev.toldOf_jr]
    exact .wrote ..
theorem foldl_writeRec_wrote (l : List QRec) (d : Dev) : d.jr.Wrote (l.foldl writeRec d).jr := by
  induction l generalizing d with
  | nil => exact .refl _
  | cons q r ih => exact (writeRec_wrote d q).trans (ih _)
/-- Flushing a class writes after its records left the queue. -/
theorem flushClass_wrote (d : Dev) (cls : Nat) :
    JournalSt.Wrote { d.jr with queue := d.jr.queue.filter (fun q => q.post.cls != cls) } (flushClass d cls).jr :=
  foldl_writeRec_wrote _ (d.onJr (fun j => { j with queue := j.queue.filter (fun q => q.post.cls != cls) }))
/-- Records of a class that is flushed wait no more, and no others come. -/
theorem flushClass_posts (d : Dev) (cls : Nat) {x : QRec} (waits : x ∈ (flushClass d cls).jr.queue) :
    x.post.cls ≠ cls ∧ ∃ y ∈ d.jr.queue, y.post = x.post := by
  have mem : x.post ∈ (d.jr.queue.filter (fun q => q.post.cls != cls)).map (·.post) :=
    (flushClass_wrote d cls).posts ▸ List.mem_map_of_mem waits
  obtain ⟨y, in_, same⟩ := List.mem_map.mp mem
  rw [List.mem_filter] at in_
  exact ⟨same ▸ bne_iff_ne.mp in_.2, y, in_.1, same⟩

/-! ### The rules of the queue, record by record -/

/-- A step of the journal that keeps the rest. -/
theorem Dev.JrKeeps.rest {d d' : Dev} (h : d.JrKeeps d') : d'.lanes = d.lanes ∧ d'.vot = d.vot ∧ d'.mgmt = d.mgmt ∧ d'.time = d.time := by
  obtain ⟨j, x, rfl⟩ := h
  exact ⟨rfl, rfl, rfl, rfl⟩
theorem journalPost_eq {s : State} {p : Post} (up : s.dev.hubUp = true) (short : p.payload.length ≤ 4072) :
    exec (.journalPost p) s = s.onDev (·.post p) := next_of_dev (if_pos (by simp [up, short]))
theorem Dev.post_added {d : Dev} {p : Post} (room : (p.cls = 0 ∧ d.jr.queue.length < 256) ∨ (p.cls = 1 ∧ d.jr.queue.length < 224 ∧ d.jr.warn = false) ∨
    (p.cls = 2 ∧ d.jr.queue.length < 192 ∧ d.jr.warn = false)) :
    d.post p = d.onJr (fun j => { j with queue := j.queue ++ [⟨p, 0, recCal p.type⟩] }) := by
  unfold Dev.post
  dsimp only
  rcases room with ⟨cls, n⟩ | ⟨cls, n, calm⟩ | ⟨cls, n, calm⟩
  · simp only [cls, n, if_true]
  · simp [cls, n, calm]
  · simp [cls, n, calm]
theorem Dev.post_merged {d : Dev} {p : Post} (fault : p.cls = 0) (full : 256 ≤ d.jr.queue.length) :
    d.post p = d.onJr (fun j => { j with queue := (mergeFault j.queue p).1, merged := if (mergeFault j.queue p).2 then j.merged else satInc 255 j.merged }) := by
  unfold Dev.post
  dsimp only
  rw [if_pos fault, if_neg (by omega)]
  rfl

theorem Dev.post_dropped {d : Dev} {p : Post} (state : p.cls = 1) (full : 224 ≤ d.jr.queue.length ∨ d.jr.warn = true) :
    d.post p = d.onJr (fun j => { j with stDrop := satInc 255 j.stDrop }) := by
  unfold Dev.post
  dsimp only
  rw [if_neg (by omega), if_pos state]
  refine if_neg ?_
  rcases full with h | h
  · simp; omega
  · simp [h]
theorem Dev.post_dropped_event {d : Dev} {p : Post} (event : p.cls = 2) (full : 192 ≤ d.jr.queue.length ∨ d.jr.warn = true) :
    d.post p = d.onJr (fun j => { j with evDrop := satInc 255 j.evDrop }) := by
  unfold Dev.post
  dsimp only
  rw [if_neg (by omega), if_neg (by omega)]
  refine if_neg ?_
  rcases full with h | h
  · simp; omega
  · simp [h]

theorem recordWrite_eq {s : State} {q : QRec} {rest : List QRec} (up : s.dev.hubUp = true) (scanned : s.dev.scanned = true) (next : s.dev.jr.queue = q :: rest) :
    exec .recordWrite s = s.onDev (fun d => writeRec (d.onJr (fun j => { j with queue := rest })) q) := by
  refine next_of_dev ?_
  dsimp only
  rw [next]
  exact if_pos (by simp [up, scanned])

/-- A compaction that starts changes neither area nor queue. -/
theorem Dev.past_kept (d : Dev) (cal : Bool) : (d.past cal).jr.queue = d.jr.queue ∧ (d.past cal).jr.nextSeq = d.jr.nextSeq ∧
    ∀ x : Bool, ((d.past cal).jr.store x).area = (d.jr.store x).area := by
  unfold Dev.past
  split
  · next starts =>
    simp only [Bool.and_eq_true, Option.isNone_iff_eq_none] at starts
    obtain ⟨c, -, is⟩ := startCompaction_idle d [] starts.1.2
    rw [is]
    cases cal <;> exact ⟨rfl, rfl, fun x => by cases x <;> rfl⟩
  · exact ⟨rfl, rfl, fun _ => rfl⟩
/-- The journal after a record that found room. -/
theorem writeRec_put {d : Dev} {q : QRec} (fits : d.roomFor q = true) : (writeRec d q).jr.queue = d.jr.queue ∧
    (writeRec d q).jr.nextSeq = seqAfter d.jr.nextSeq ∧ ((writeRec d q).jr.store q.cal).area = (d.jr.store q.cal).area.put (q.written d.jr.nextSeq) ∧
    ((writeRec d q).jr.store (!q.cal)).area = (d.jr.store (!q.cal)).area := by
  obtain ⟨queue, seq, area⟩ := ((d.onJr (·.wrote q)).toldOf q d.jr.nextSeq).past_kept q.cal
  rw [writeRec_fits fits, queue, seq, area, area, Dev.toldOf_jr]
  refine ⟨(d.jr.onStore_kept _ _).1, rfl, ?_, ?_⟩
  · show (((d.jr.onStore q.cal (·.onArea (·.put (q.written d.jr.nextSeq)))).store q.cal)).area = _
    rw [JournalSt.store_onStore, (StoreSt.onArea_kept ..).2.2]
  · show (((d.jr.onStore q.cal (·.onArea (·.put (q.written d.jr.nextSeq)))).store (!q.cal))).area = _
    rw [JournalSt.store_onStore_not]

theorem JournalSt.refused_event (j : JournalSt) {q : QRec} (event : q.post.cls = 2) : (j.refused q).queue = j.queue ∧
    (j.refused q).evDrop = satInc 255 j.evDrop ∧ (j.refused q).nextSeq = j.nextSeq ∧ ∀ x : Bool, (j.refused q).store x = j.store x := by
  unfold JournalSt.refused
  simp only [event]
  cases q.cal
  all_goals exact ⟨rfl, rfl, rfl, fun x => by cases x <;> rfl⟩

/-! ### Compactions and checks -/

theorem compactionSlice_eq {s : State} {cal : Bool} {c : CompSt} (up : s.dev.hubUp = true) (runs : (s.dev.jr.store cal).comp = some c) :
    exec (.compactionSlice cal) s = s.onDev (fun d =>
      let d := flushClass (d.toClk c.start) 0
      if c.left ≤ 1 then endCompaction d cal c
      else d.onJr (·.onStore cal (fun s => { s with comp := some { c with slice := c.slice + 1, left := c.left - 1, start := d.clk + 100 * msClk } }))) := by
  refine next_of_dev ?_
  dsimp only
  rw [runs]
  exact if_neg (by simp [up])

/-- The target area of a compaction becomes the active one. -/
def StoreSt.swapped (s : StoreSt) (t : AreaSt) : StoreSt :=
  if s.active then { s with a0 := t, active := false, comp := none } else { s with a1 := t, active := true, comp := none }
theorem StoreSt.swapped_kept (s : StoreSt) (t : AreaSt) : (s.swapped t).comp = none ∧ (s.swapped t).active = !s.active ∧ (s.swapped t).area = t := by
  unfold StoreSt.swapped StoreSt.area
  cases s.active <;> exact ⟨rfl, rfl, rfl⟩
/-- A STATE record joins the queue or is dropped. -/
theorem Dev.stateRec_kept (d : Dev) (type : Nat) (bytes : List Byte) : (∀ x : Bool, (d.stateRec type bytes).jr.store x = d.jr.store x) ∧
    (d.stateRec type bytes).jr.nextSeq = d.jr.nextSeq ∧ (d.stateRec type bytes).jr.warn = d.jr.warn ∧
    ∀ x ∈ (d.stateRec type bytes).jr.queue, x ∈ d.jr.queue ∨ x.post.cls = 1 := by
  cases room : decide (d.jr.queue.length < 224) && !d.jr.warn with
  | true =>
    simp only [Bool.and_eq_true, decide_eq_true_eq, Bool.not_eq_true'] at room
    rw [Dev.stateRec, Dev.post_added (.inr (.inl ⟨rfl, room⟩))]
    refine ⟨fun x => by cases x <;> rfl, rfl, rfl, fun x mem => (List.mem_append.mp mem).imp id fun new => ?_⟩
    rw [List.mem_singleton.mp new]
  | false =>
    have full : 224 ≤ d.jr.queue.length ∨ d.jr.warn = true := by
      by_contra no
      rw [not_or, Bool.not_eq_true] at no
      simp [no.2] at room
      omega
    rw [Dev.stateRec, Dev.post_dropped rfl full]
    exact ⟨fun x => by cases x <;> rfl, rfl, rfl, fun x mem => .inl mem⟩
/-- The other store's compaction is the refresh's too. -/
def Dev.refreshRuns (d : Dev) (cal : Bool) : Bool := match (d.jr.store (!cal)).comp with | some x => x.jobs.contains 0 | none => false
/-- The jobs of a compaction end, and with the second store's the retention refresh. -/
def Dev.compactionOver (d : Dev) (cal : Bool) (jobs : List Nat) : Dev :=
  let d := (jobs.filter (· != 0)).foldl (fun d n => d.endJob n 0 0) d
  if jobs.contains 0 && !d.refreshRuns cal then countersRec (d.onMgmt (fun m => { m with account := 0 })) else d
theorem endCompaction_eq (d : Dev) (cal : Bool) (c : CompSt) : ∃ (t : AreaSt) (x : Rec) (rest : List Rec) (aged : Nat) (reserve : Bool),
    t.gen = some ((d.jr.store cal).area.gen.getD 0 + 1) ∧ t.recs = x :: rest ∧ x.type = 1 ∧ endCompaction d cal c =
      (d.onJr (fun j => { j.onStore cal (·.swapped t) with nextSeq := seqAfter x.seq, aged := aged, reserve := reserve })).compactionOver cal c.jobs := by
  refine ⟨{ gen := _, next := _, ptr := _, recs := _ :: _ }, _, _, _, _, ?_, rfl, ?_, rfl⟩
  · rfl
  · rfl
/-- The end of the jobs leaves the stores alone, and posts a STATE record at most. -/
theorem Dev.compactionOver_kept (d : Dev) (cal : Bool) (jobs : List Nat) : (∀ x : Bool, (d.compactionOver cal jobs).jr.store x = d.jr.store x) ∧
    (d.compactionOver cal jobs).jr.nextSeq = d.jr.nextSeq ∧ (d.compactionOver cal jobs).time = d.time ∧
    (d.compactionOver cal jobs).lanes = d.lanes ∧ (d.compactionOver cal jobs).vot = d.vot ∧
    ∀ x ∈ (d.compactionOver cal jobs).jr.queue, x ∈ d.jr.queue ∨ x.post.cls = 1 := by
  have ended {γ : Type} (proj : Dev → γ) (kept : ∀ (e : Dev) (n : Nat), proj (e.endJob n 0 0) = proj e) :
      proj ((jobs.filter (· != 0)).foldl (fun d n => d.endJob n 0 0) d) = proj d := foldl_kept proj kept _ _
  have jr := ended Dev.jr (fun _ _ => rfl)
  have time := ended Dev.time (fun _ _ => rfl)
  have lanes := ended Dev.lanes (fun _ _ => rfl)
  have vot := ended Dev.vot (fun _ _ => rfl)
  unfold Dev.compactionOver
  dsimp only
  generalize (jobs.filter (· != 0)).foldl (fun d n => d.endJob n 0 0) d = e at *
  split
  · obtain ⟨stores, seq, -, queue⟩ := (e.onMgmt (fun m => { m with account := 0 })).stateRec_kept 0x61
      (leBytes e.mgmt.opSec 8 ++ leBytes e.mgmt.cycles 4 ++ leBytes e.vot.rotCount 4 ++ leBytes 0 8)
    refine ⟨fun x => (stores x).trans (by rw [← jr]; rfl), seq.trans (by rw [← jr]; rfl), (Dev.post_time ..).trans time, (Dev.post_lanes ..).trans lanes,
      (Dev.post_vot ..).trans vot, fun x mem => jr ▸ queue x mem⟩
  · exact ⟨fun x => by rw [jr], by rw [jr], time, lanes, vot, fun x mem => .inl (jr ▸ mem)⟩
/-- The end of a compaction swaps the areas of its store (R413). -/
theorem endCompaction_swaps (d : Dev) (cal : Bool) (c : CompSt) : ((endCompaction d cal c).jr.store cal).comp = none ∧
    ((endCompaction d cal c).jr.store cal).active = !(d.jr.store cal).active ∧
    ((endCompaction d cal c).jr.store cal).area.gen = some ((d.jr.store cal).area.gen.getD 0 + 1) ∧
    ∃ x rest, ((endCompaction d cal c).jr.store cal).area.recs = x :: rest ∧ x.type = 1 ∧ (endCompaction d cal c).jr.nextSeq = seqAfter x.seq := by
  obtain ⟨t, x, rest, aged, reserve, gen, recs, type, is⟩ := endCompaction_eq d cal c
  let e := d.onJr (fun j => { j.onStore cal (·.swapped t) with nextSeq := seqAfter x.seq, aged := aged, reserve := reserve })
  obtain ⟨stores, seq, -⟩ := e.compactionOver_kept cal c.jobs
  obtain ⟨comp, active, area⟩ := (d.jr.store cal).swapped_kept t
  have store : e.jr.store cal = (d.jr.store cal).swapped t := by
    refine Eq.trans ?_ (d.jr.store_onStore cal (·.swapped t))
    cases cal <;> rfl
  rw [is, stores, seq, store, comp, active, area]
  exact ⟨rfl, rfl, gen, x, rest, recs, type, rfl⟩
theorem endCompaction_rest (d : Dev) (cal : Bool) (c : CompSt) : (endCompaction d cal c).time = d.time ∧
    (endCompaction d cal c).lanes = d.lanes ∧ (endCompaction d cal c).vot = d.vot ∧
    ∀ x ∈ (endCompaction d cal c).jr.queue, x ∈ d.jr.queue ∨ x.post.cls = 1 := by
  obtain ⟨t, x, rest, aged, reserve, -, -, -, is⟩ := endCompaction_eq d cal c
  let e := d.onJr (fun j => { j.onStore cal (·.swapped t) with nextSeq := seqAfter x.seq, aged := aged, reserve := reserve })
  obtain ⟨-, -, time, lanes, vot, queue⟩ := e.compactionOver_kept cal c.jobs
  have same : e.jr.queue = d.jr.queue := (d.jr.onStore_kept cal (·.swapped t)).1
  rw [is]
  exact ⟨time, lanes, vot, fun y mem => same ▸ queue y mem⟩

/-- A device apart from its journal, host and management. -/
structure Dev.ManagedOnly (d d' : Dev) : Prop where
  time : d'.time = d.time
  lanes : d'.lanes = d.lanes
  vot : d'.vot = d.vot
  pwr : d'.pwr = d.pwr
theorem Dev.ManagedOnly.trans {d d' e : Dev} (h : d.ManagedOnly d') (h' : d'.ManagedOnly e) : d.ManagedOnly e :=
  ⟨h'.time.trans h.time, h'.lanes.trans h.lanes, h'.vot.trans h.vot, h'.pwr.trans h.pwr⟩
theorem Dev.JrKeeps.managed {d d' : Dev} (h : d.JrKeeps d') : d.ManagedOnly d' ∧ d'.test = d.test := by
  obtain ⟨j, x, rfl⟩ := h
  exact ⟨⟨rfl, rfl, rfl, rfl⟩, rfl⟩
/-- A fold of steps that keep the rest. -/
theorem Dev.ManagedOnly.fold {α : Type} {f : Dev → α → Dev} (step : ∀ d x, Dev.ManagedOnly d (f d x)) (l : List α) (d : Dev) :
    d.ManagedOnly (l.foldl f d) :=
  ⟨foldl_kept Dev.time (fun d x => (step d x).time) l d, foldl_kept Dev.lanes (fun d x => (step d x).lanes) l d,
    foldl_kept Dev.vot (fun d x => (step d x).vot) l d, foldl_kept Dev.pwr (fun d x => (step d x).pwr) l d⟩

/-- Words of a slice count in the self test, and are reported (R439). -/
theorem mramWords_kept (d : Dev) (cor : Nat) (bad : List Nat) : d.ManagedOnly (mramWords d cor bad) ∧ (mramWords d cor bad).test =
    { d.test with corrected := min 65535 (d.test.corrected + cor), uncorr := d.test.uncorr + (bad.filter (fun x => !d.jr.badMram.contains x)).length } := by
  unfold mramWords
  dsimp only
  refine ⟨Dev.ManagedOnly.trans ?_ ⟨noteDegraded_time _, noteDegraded_lanes _, noteDegraded_vot _, noteDegraded_pwr _⟩, ?_⟩
  · refine Dev.ManagedOnly.trans ?_ (.fold (fun d x => ⟨d.fault_time .., d.fault_lanes .., d.fault_vot .., d.fault_pwr ..⟩) _ _)
    exact ⟨rfl, rfl, rfl, rfl⟩
  · rw [noteDegraded_test]
    refine (foldl_kept Dev.test ?_ _ _).trans rfl
    exact fun d x => d.fault_test ..
/-- The jobs that a check serves are the management's. -/
theorem checkJobs_eq (res : List Word) (jobs : List Job) (d : Dev) :
    ∃ m, jobs.foldl (fun d j => (d.onJob j.num (fun x => { x with res := res })).endJob j.num 0 0) d = { d with mgmt := m } := by
  induction jobs generalizing d with
  | nil => exact ⟨_, rfl⟩
  | cons j r ih =>
    obtain ⟨m, is⟩ := ih ((d.onJob j.num (fun x => { x with res := res })).endJob j.num 0 0)
    exact ⟨m, is⟩
theorem checkEnd_eq (res : List Word) (jobs : List Job) (d : Dev) :
    ∃ m h, (jobs.foldl (fun d j => (d.onJob j.num (fun x => { x with res := res })).endJob j.num 0 0) d).testStatus = { d with mgmt := m, host := h } := by
  obtain ⟨m, is⟩ := checkJobs_eq res jobs d
  obtain ⟨h, shown⟩ := Dev.testStatus_host { d with mgmt := m }
  exact ⟨m, h, is ▸ shown⟩
/-- The end of a check stands in the self test, its jobs in the management. -/
theorem mramDone_eq (d : Dev) (slices cor bad : Nat) : ∃ (m : MgmtSt) (h : HostSt), mramDone d slices cor bad =
    { d with test := { d.test with mram := if 0 < bad then 3 else if 0 < cor then 2 else 1, mramRun := none }, mgmt := m, host := h } := by
  unfold mramDone
  dsimp only
  exact checkEnd_eq _ _ _
/-- An MRAM check that runs is abandoned (R416). -/
def Dev.checkAbandoned (d : Dev) : Dev :=
  match d.test.mramRun with
  | none => d
  | some _ =>
    let d := (d.onTest (fun t => { t with mram := 0, mramRun := none })).putTest 3 0 0 1000 0
    ((d.mgmt.jobs.filter (fun j => j.code == 0x0501 && !j.done && argOf j.req 0 == 3)).foldl (fun d j =>
      (d.onJob j.num (fun x => { x with res := [0, 1000, 0] })).endJob j.num 0 0) d).testStatus

theorem Dev.checkAbandoned_eq (d : Dev) : ∃ (t : TestSt) (m : MgmtSt) (h : HostSt), t.mramRun = none ∧
    d.checkAbandoned = { d with test := t, mgmt := m, host := h } := by
  unfold Dev.checkAbandoned
  split
  · next none_ => exact ⟨_, _, _, none_, rfl⟩
  · dsimp only
    obtain ⟨m, h, is⟩ := checkEnd_eq [0, 1000, 0] (((d.onTest (fun t => { t with mram := 0, mramRun := none })).putTest 3 0 0 1000 0).mgmt.jobs.filter
      (fun j => j.code == 0x0501 && !j.done && argOf j.req 0 == 3)) ((d.onTest (fun t => { t with mram := 0, mramRun := none })).putTest 3 0 0 1000 0)
    exact ⟨_, m, h, rfl, is⟩
theorem mramCheckSlice_eq {s : State} {n t c u : Nat} (cor : Nat) (bad : List Nat) (up : s.dev.hubUp = true) (runs : s.dev.test.mramRun = some (n, t, c, u))
    (free : (s.dev.jr.main.comp.isSome || s.dev.jr.cal.comp.isSome) = false) : exec (.mramCheckSlice cor bad) s = s.onDev (fun d =>
      let d := flushClass (mramWords (d.toClk t) cor bad) 0
      if 15 ≤ n then mramDone d 16 (c + cor) (u + bad.length)
      else (d.onTest (fun x => { x with mramRun := some (n + 1, d.clk + 10 * msClk, c + cor, u + bad.length) })).testStatus) := by
  refine next_of_dev ?_
  dsimp only
  rw [runs]
  refine if_neg ?_
  simp only [up, Bool.not_true, Bool.false_or, free]
  decide
/-- The journal when the supply fails: no compaction goes on (R416). -/
def JournalSt.warned (j : JournalSt) : JournalSt := { j with warn := true, main := { j.main with comp := none }, cal := { j.cal with comp := none } }
/-- The POWER_LOSS record. -/
def powerLoss (d : Dev) : QRec := { post := { type := 0x40, cls := 2, source := 0, payload := leBytes d.gt 8 }, rep := 0, cal := false }
theorem earlyWarning_eq {s : State} (up : s.dev.hubUp = true) (scanned : s.dev.scanned = true) : ∃ jobs : List Nat,
    exec .earlyWarning s = s.onDev (fun d =>
      let d := (jobs.foldl (fun d n => d.endJob n 0x19 0) ((d.onPwr (fun p => { p with warn := true })).onJr (·.warned))).checkAbandoned
      writeRec (flushClass (flushClass d 0) 1) (powerLoss d)) := by
  refine ⟨((((s.dev.jr.main.comp.map (·.jobs)).getD []) ++ ((s.dev.jr.cal.comp.map (·.jobs)).getD [])).filter (· != 0)), next_of_dev ?_⟩
  refine (if_neg ?_).trans ?_
  · simp [show (s.dev.onPwr (fun p => { p with warn := true })).hubUp = true from up, show (s.dev.onPwr (fun p => { p with warn := true })).scanned = true from scanned]
  · rfl

theorem compactionSlice_does {s : State} {cal : Bool} {c : CompSt} (up : s.dev.hubUp = true) (runs : (s.dev.jr.store cal).comp = some c) :
    Does (.compactionSlice cal) s (fun d => c.start ≤ d.clk ∧ (∀ x ∈ d.jr.queue, x.post.cls ≠ 0) ∧
      (1 < c.left → (d.jr.store cal).comp = some ⟨c.slice + 1, d.clk + 64000000, c.bound, c.left - 1, c.jobs⟩ ∧
        (d.jr.store cal).active = (s.dev.jr.store cal).active) ∧
      (c.left ≤ 1 → (d.jr.store cal).comp = none ∧ (d.jr.store cal).active = !(s.dev.jr.store cal).active ∧
        (d.jr.store cal).area.gen = some ((s.dev.jr.store cal).area.gen.getD 0 + 1) ∧
        (∃ x rest, (d.jr.store cal).area.recs = x :: rest ∧ x.type = 1 ∧ d.jr.nextSeq = seqAfter x.seq)) ∧
      d.lanes = s.dev.lanes ∧ d.vot = s.dev.vot) := by
  refine does_of_onDev (compactionSlice_eq up runs) ?_
  have kept := (Dev.JrKeeps.refl (s.dev.toClk c.start)).flushClass 0
  have wrote := flushClass_wrote (s.dev.toClk c.start) 0
  have waits {x : QRec} (mem : x ∈ (flushClass (s.dev.toClk c.start) 0).jr.queue) : x.post.cls ≠ 0 := (flushClass_posts _ _ mem).1
  generalize flushClass (s.dev.toClk c.start) 0 = e at *
  obtain ⟨lanes, vot, -, time⟩ := kept.rest
  have clk : c.start ≤ e.clk := by
    rw [Dev.clk, time]
    exact (Nat.le_max_right ..).trans_eq (Dev.toClk_clk ..).symm
  have same_ : ({ (s.dev.toClk c.start).jr with queue := (s.dev.toClk c.start).jr.queue.filter (fun q => q.post.cls != 0) } : JournalSt).store cal =
      s.dev.jr.store cal := by cases cal <;> rfl
  have active : (e.jr.store cal).active = (s.dev.jr.store cal).active := (wrote.active cal).trans (congrArg _ same_)
  have gen : (e.jr.store cal).area.gen = (s.dev.jr.store cal).area.gen := (wrote.gen cal).trans (congrArg (fun s : StoreSt => s.area.gen) same_)
  dsimp only
  split
  · next last =>
    obtain ⟨comp, swapped, gen_, header⟩ := endCompaction_swaps e cal c
    obtain ⟨time_, lanes_, vot_, queue⟩ := endCompaction_rest e cal c
    refine ⟨?_, fun x mem => ?_, fun more => absurd last (by omega), fun _ => ⟨comp, ?_, ?_, header⟩, lanes_.trans lanes, vot_.trans vot⟩
    · rwa [Dev.clk, time_]
    · rcases queue x mem with old | new
      · exact waits old
      · omega
    · rw [swapped, active]
    · rw [gen_, gen]
  · next more =>
    refine ⟨clk, fun x mem => ?_, fun _ => ⟨?_, ?_⟩, fun last => absurd last more, lanes, vot⟩
    · rw [Dev.onJr_jr, (e.jr.onStore_kept ..).1] at mem
      exact waits mem
    · rw [Dev.onJr_jr, e.jr.store_onStore]
      rfl
    · rw [Dev.onJr_jr, e.jr.store_onStore]
      exact active
theorem mramCheckSlice_does {s : State} {n t c u : Nat} (cor : Nat) (bad : List Nat) (up : s.dev.hubUp = true) (runs : s.dev.test.mramRun = some (n, t, c, u))
    (free : (s.dev.jr.main.comp.isSome || s.dev.jr.cal.comp.isSome) = false) : Does (.mramCheckSlice cor bad) s (fun d => t ≤ d.clk ∧
      d.test.corrected = min 65535 (s.dev.test.corrected + cor) ∧
      d.test.uncorr = s.dev.test.uncorr + (bad.filter (fun x => !s.dev.jr.badMram.contains x)).length ∧
      (n < 15 → d.test.mramRun = some (n + 1, d.clk + 6400000, c + cor, u + bad.length)) ∧
      (15 ≤ n → d.test.mramRun = none ∧ d.test.mram = if 0 < u + bad.length then 3 else if 0 < c + cor then 2 else 1) ∧
      d.lanes = s.dev.lanes ∧ d.vot = s.dev.vot) := by
  obtain ⟨words, test⟩ := mramWords_kept (s.dev.toClk t) cor bad
  obtain ⟨flushed, test'⟩ := ((Dev.JrKeeps.refl (mramWords (s.dev.toClk t) cor bad)).flushClass 0).managed
  have all := words.trans flushed
  refine does_of_onDev (mramCheckSlice_eq cor bad up runs free) ?_
  rw [test] at test'
  generalize flushClass (mramWords (s.dev.toClk t) cor bad) 0 = e at *
  have clk : t ≤ e.clk := by
    rw [Dev.clk, all.time]
    exact (Nat.le_max_right ..).trans_eq (Dev.toClk_clk ..).symm
  have corrected : e.test.corrected = min 65535 (s.dev.test.corrected + cor) := by
    rw [test']
    rfl
  have uncorr : e.test.uncorr = s.dev.test.uncorr + (bad.filter (fun x => !s.dev.jr.badMram.contains x)).length := by
    rw [test']
    rfl
  have pause : 10 * msClk = 6400000 := rfl
  dsimp only
  rw [pause]
  split
  · next last =>
    obtain ⟨m, h, is⟩ := mramDone_eq e 16 (c + cor) (u + bad.length)
    rw [is]
    exact ⟨clk, corrected, uncorr, fun more => absurd last (by omega), fun _ => ⟨rfl, rfl⟩, all.lanes, all.vot⟩
  · next more =>
    obtain ⟨h, is⟩ := Dev.testStatus_host (e.onTest (fun x => { x with mramRun := some (n + 1, e.clk + 6400000, c + cor, u + bad.length) }))
    rw [is]
    exact ⟨clk, corrected, uncorr, fun _ => rfl, fun last => absurd last more, all.lanes, all.vot⟩
/-- What the early warning leaves before it writes the queue out. -/
theorem warned_kept (d : Dev) (jobs : List Nat) (e : Dev)
    (is : e = (jobs.foldl (fun d n => d.endJob n 0x19 0) ((d.onPwr (fun p => { p with warn := true })).onJr (·.warned))).checkAbandoned) :
    e.jr = d.jr.warned ∧ e.pwr = { d.pwr with warn := true } ∧ e.test.mramRun = none ∧ e.lanes = d.lanes ∧ e.vot = d.vot := by
  have ended {γ : Type} (proj : Dev → γ) (kept : ∀ (e : Dev) (n : Nat), proj (e.endJob n 0x19 0) = proj e) :
      proj (jobs.foldl (fun d n => d.endJob n 0x19 0) ((d.onPwr (fun p => { p with warn := true })).onJr (·.warned))) =
        proj ((d.onPwr (fun p => { p with warn := true })).onJr (·.warned)) := foldl_kept proj kept _ _
  have jr := ended Dev.jr (fun _ _ => rfl)
  have pwr := ended Dev.pwr (fun _ _ => rfl)
  have lanes := ended Dev.lanes (fun _ _ => rfl)
  have vot := ended Dev.vot (fun _ _ => rfl)
  generalize jobs.foldl (fun d n => d.endJob n 0x19 0) ((d.onPwr (fun p => { p with warn := true })).onJr (·.warned)) = x at *
  obtain ⟨t, m, h, none_, ended_⟩ := x.checkAbandoned_eq
  rw [is, ended_]
  exact ⟨jr, pwr, none_, lanes, vot⟩
theorem earlyWarning_does {s : State} (up : s.dev.hubUp = true) (scanned : s.dev.scanned = true) : Does .earlyWarning s (fun d =>
    d.pwr = { s.dev.pwr with warn := true } ∧ d.jr.warn = true ∧ d.jr.main.comp = none ∧ d.jr.cal.comp = none ∧ d.test.mramRun = none ∧
    (∀ x ∈ d.jr.queue, x.post.cls ≠ 0 ∧ x.post.cls ≠ 1) ∧ d.lanes = s.dev.lanes ∧ d.vot = s.dev.vot) := by
  obtain ⟨jobs, is⟩ := earlyWarning_eq up scanned
  refine does_of_onDev is ?_
  dsimp only
  generalize hd : (jobs.foldl (fun d n => d.endJob n 0x19 0) ((s.dev.onPwr (fun p => { p with warn := true })).onJr (·.warned))).checkAbandoned = d
  obtain ⟨jr, pwr, none_, lanes, vot⟩ := warned_kept s.dev jobs d hd.symm
  obtain ⟨kept, test⟩ := ((((Dev.JrKeeps.refl d).flushClass 0).flushClass 1).writeRec (powerLoss d)).managed
  have wrote := writeRec_wrote (flushClass (flushClass d 0) 1) (powerLoss d)
  have waits {x : QRec} (mem : x ∈ (writeRec (flushClass (flushClass d 0) 1) (powerLoss d)).jr.queue) : x.post.cls ≠ 0 ∧ x.post.cls ≠ 1 := by
    have posted : x.post ∈ (flushClass (flushClass d 0) 1).jr.queue.map (·.post) := wrote.posts ▸ List.mem_map_of_mem mem
    obtain ⟨y, there, same⟩ := List.mem_map.mp posted
    obtain ⟨not1, z, before, same'⟩ := flushClass_posts _ _ there
    exact ⟨same ▸ same' ▸ (flushClass_posts _ _ before).1, same ▸ not1⟩
  have warned (e : Dev) (cls : Nat) (warn : e.jr.warn = true) (idle : ∀ x : Bool, (e.jr.store x).comp = none) :
      (flushClass e cls).jr.warn = true ∧ ∀ x : Bool, ((flushClass e cls).jr.store x).comp = none := by
    have h := flushClass_wrote e cls
    exact ⟨h.warn.trans warn, fun x => h.calm warn x (by cases x; exacts [idle false, idle true])⟩
  obtain ⟨warn0, idle0⟩ := warned d 0 (by rw [jr]; rfl) (fun x => by rw [jr]; cases x <;> rfl)
  obtain ⟨warn1, idle1⟩ := warned _ 1 warn0 idle0
  have idle := wrote.calm warn1
  exact ⟨kept.pwr.trans pwr, wrote.warn.trans warn1, idle false (idle1 false), idle true (idle1 true), (congrArg TestSt.mramRun test).trans none_,
    fun x mem => waits mem, kept.lanes.trans lanes, kept.vot.trans vot⟩

/-- Settles O56: record by record, and slice by slice. -/
theorem journal : Obligations.Journal := by
  intro s up j same
  have kept {d : Dev} (f : JournalSt → JournalSt) (is : d = s.dev.onJr f) : same d := by
    subst is
    exact ⟨rfl, rfl, rfl, rfl, rfl⟩
  refine ⟨fun p short => ⟨fun room => ?_, fun fault full => ⟨?_, fun none_ => ?_⟩, fun state full => ?_, fun event full => ?_⟩, ?_, fun none_ => ?_, fun cal => ⟨fun none_ => ?_, ?_⟩,
    fun scanned main cal => ⟨fun due => ?_, fun young => ?_⟩, fun cor bad => ⟨fun none_ => ?_, fun n t c u runs => ⟨fun busy => ?_, fun free => ?_⟩⟩, fun scanned => ?_, rfl⟩
  · exact does_of_onDev (journalPost_eq up short) ⟨by rw [Dev.post_added room]; rfl, kept _ (Dev.post_added room)⟩
  · intro l1 l2 x like split_ here later
    refine does_of_onDev (journalPost_eq up short) ⟨?_, kept _ (Dev.post_merged fault full)⟩
    have is : mergeFault s.dev.jr.queue p = (l1 ++ { x with rep := satInc 0xFFFF x.rep } :: l2, true) := by
      rw [mergeFault_eq, if_pos, show s.dev.jr.queue = l1 ++ x :: l2 from split_, bumpNewest_split here later]
      rw [show s.dev.jr.queue = l1 ++ x :: l2 from split_, List.any_append, List.any_cons, show (x.post.cls == 0 && x.post.type == p.type && x.post.source == p.source) = true from here]
      simp
    rw [Dev.post_merged fault full]
    show ({ s.dev.jr with queue := _, merged := _ } : JournalSt) = _
    rw [is]
    rfl
  · refine does_of_onDev (journalPost_eq up short) ⟨?_, ?_, kept _ (Dev.post_merged fault full)⟩
    · rw [Dev.post_merged fault full, Dev.onJr_jr, mergeFault_eq, if_neg (by rw [none_]; decide)]
      rfl
    · rw [Dev.post_merged fault full]
      exact mergeFault_posts ..
  · exact does_of_onDev (journalPost_eq up short) ⟨by rw [Dev.post_dropped state full]; rfl, kept _ (Dev.post_dropped state full)⟩
  · exact does_of_onDev (journalPost_eq up short) ⟨by rw [Dev.post_dropped_event event full]; rfl, kept _ (Dev.post_dropped_event event full)⟩
  · intro q rest next scanned a n
    have store (x : Bool) : ((s.dev.onJr (fun j => { j with queue := rest })).jr.store x) = j.store x := by cases x <;> rfl
    have room : (s.dev.onJr (fun j => { j with queue := rest })).roomFor q = a.fits q.cal q.post.cls n := by
      unfold Dev.roomFor
      rw [store]
    refine ⟨fun fits => does_of_onDev (recordWrite_eq up scanned next) ?_, fun full event => does_of_onDev (recordWrite_eq up scanned next) ?_⟩
    · obtain ⟨queue, seq, here, there⟩ := writeRec_put (room.trans fits)
      obtain ⟨lanes, vot, mgmt, -⟩ := ((Dev.JrKeeps.refl s.dev).onJr (fun j => { j with queue := rest })).writeRec q |>.rest
      refine ⟨queue, seq, ?_, ?_, lanes, vot, mgmt⟩
      · rw [here, store]
        rfl
      · rw [there, store]
    · obtain ⟨queue, drop, seq, stores⟩ := (s.dev.onJr (fun j => { j with queue := rest })).jr.refused_event event
      rw [writeRec_full (room.trans full), Dev.onJr_jr, stores, store]
      exact ⟨queue, drop, seq, rfl⟩
  · refine next_of_dev ?_
    dsimp only
    rw [show s.dev.jr.queue = [] from none_]
  · refine next_of_dev ?_
    dsimp only
    rw [show (s.dev.jr.store cal).comp = none from none_]
  · exact fun c runs => compactionSlice_does up runs
  · have is : exec .retentionRefresh s = s.onDev (fun d => startCompaction (startCompaction d true [0]) false [0]) :=
      next_of_dev (if_pos (by simp [up, scanned]; omega))
    obtain ⟨c, jobs, first⟩ := startCompaction_idle s.dev [0] (cal := true) cal
    obtain ⟨c', jobs', second⟩ := startCompaction_idle (startCompaction s.dev true [0]) [0] (cal := false) (by rw [first]; exact main)
    refine does_of_onDev is ?_
    rw [second, first]
    exact ⟨congrArg some jobs', congrArg some jobs, rfl, rfl, rfl, rfl, rfl, rfl, rfl⟩
  · refine next_of_dev (if_neg ?_)
    simp
    omega
  · refine next_of_dev ?_
    dsimp only
    rw [none_]
  · refine next_of_dev ?_
    dsimp only
    rw [runs]
    refine if_pos ?_
    simp only [up, Bool.not_true, Bool.false_or]
    exact busy
  · exact mramCheckSlice_does cor bad up runs free
  · exact earlyWarning_does up scanned

end Sys2Proof.Machine
end

section
/-! SUPPORT. Start-up: the stages from the plinth to verification (R417, R419 to R423, R428, R432, R435). -/

namespace Sys2Proof.Machine
open Sys2Proof

/-! ### A stage begins -/

/-- A stage that begins shows in the start-up registers and to the host. -/
theorem toStage_eq (d : Dev) (n : Nat) : ∃ h : HostSt, toStage d n = { d with boot := { d.boot with stage := n, stageAt := d.clk }, host := h } := by
  unfold toStage globalDoor
  split
  · exact ⟨_, rfl⟩
  · exact ⟨_, rfl⟩
/-- Stage n has begun, at least `len` GCLK after the start of the one before at `start`. -/
def Dev.InStage (d : Dev) (n start len : Nat) : Prop := d.boot.stage = n ∧ d.boot.stageAt = d.clk ∧ start + len ≤ d.clk
theorem toStage_inStage {d : Dev} {n start len : Nat} (lasted : start + len ≤ d.clk) : (toStage d n).InStage n start len := by
  obtain ⟨h, is⟩ := toStage_eq d n
  rw [is]
  exact ⟨rfl, rfl, lasted⟩
theorem stageEnd_clk (d : Dev) (n : Nat) : d.boot.stageAt + n ≤ (stageEnd d n).clk :=
  (Nat.le_max_right ..).trans_eq (Dev.toClk_clk ..).symm
theorem toStage_lanes (d : Dev) (n : Nat) : (toStage d n).lanes = d.lanes := by
  obtain ⟨h, is⟩ := toStage_eq d n
  rw [is]
theorem toStage_test (d : Dev) (n : Nat) : (toStage d n).test = d.test := by
  obtain ⟨h, is⟩ := toStage_eq d n
  rw [is]

/-! ### Plinth and hub BIST -/

/-- What the plinth stage does with a lane (R435). -/
def plinthLane (d : Dev) (l : Lane) : Dev := if d.domUp (1 + laneIdx l) then startBist d l else failLane d l 3 0 false
/-- The self test once the BIST of lane l has begun (R436). -/
def Dev.bistBegun (d : Dev) (l : Lane) : TestSt :=
  { d.test with
    soft := d.test.soft.filter (fun r => r.1 != laneIdx l)
    bistRun := d.test.bistRun.filter (fun x => x.1 != l) ++ [(l, d.clk)] }
theorem startBist_eq (d : Dev) (l : Lane) : ∃ h : HostSt, startBist d l = { d with test := d.bistBegun l, host := h } :=
  Dev.testStatus_host (d.onTest (fun _ => d.bistBegun l))
theorem plinthLane_apart (d : Dev) (l : Lane) : d.LaneApart l (plinthLane d l) ∧ (plinthLane d l).pwr = d.pwr ∧ (plinthLane d l).time = d.time := by
  unfold plinthLane
  split
  · obtain ⟨h, is⟩ := startBist_eq d l
    rw [is]
    exact ⟨((Dev.LaneApart.refl d l).onTest (fun _ => d.bistBegun l)).putHost h, rfl, rfl⟩
  · refine ⟨Dev.failLane_apart (.refl d l) 3 0 false, ?_, failLane_time ..⟩
    unfold failLane
    rw [noteDegraded_pwr, Dev.fault_pwr]
    rfl
theorem plinthLane_own (d : Dev) (l : Lane) :
    (d.domUp (1 + laneIdx l) = true → (plinthLane d l).lane l = d.lane l ∧ ∃ t : Nat, (l, t) ∈ (plinthLane d l).test.bistRun) ∧
    (d.domUp (1 + laneIdx l) = false → (plinthLane d l).phase l = .failed) := by
  unfold plinthLane
  refine ⟨fun up => ?_, fun down => ?_⟩
  · obtain ⟨h, is⟩ := startBist_eq d l
    rw [if_pos up, is]
    exact ⟨rfl, _, List.mem_append_right _ (List.mem_singleton.mpr rfl)⟩
  · rw [if_neg (by simp [down]), Dev.phase, failLane_lane]
    rfl
theorem plinthLane_runs (d : Dev) {l x : Lane} (other : x ≠ l) {t : Nat} (runs : (x, t) ∈ d.test.bistRun) : (x, t) ∈ (plinthLane d l).test.bistRun := by
  unfold plinthLane
  split
  · obtain ⟨h, is⟩ := startBist_eq d l
    rw [is]
    exact List.mem_append_left _ (List.mem_filter.mpr ⟨runs, by simp [other]⟩)
  · rw [failLane_test]
    exact runs
/-- What the plinth stage leaves of a lane (R435). -/
def Dev.Plinthed (d d' : Dev) (l : Lane) : Prop :=
  (d.domUp (1 + laneIdx l) = true → d'.lane l = d.lane l ∧ ∃ t : Nat, (l, t) ∈ d'.test.bistRun) ∧
  (d.domUp (1 + laneIdx l) = false → d'.phase l = .failed)
theorem Dev.Plinthed.next {d d' : Dev} {l x : Lane} (h : d.Plinthed d' l) (other : l ≠ x) : d.Plinthed (plinthLane d' x) l := by
  have same := (plinthLane_apart d' x).1.others l other
  refine ⟨fun up => ?_, fun down => ?_⟩
  · obtain ⟨lane, t, runs⟩ := h.1 up
    exact ⟨same.trans lane, t, plinthLane_runs d' other runs⟩
  · rw [Dev.phase, same]
    exact h.2 down
theorem Dev.Plinthed.start {d d' : Dev} {l : Lane} (lane : d'.lane l = d.lane l) (pwr : d'.pwr = d.pwr) : d.Plinthed (plinthLane d' l) l := by
  have same : d'.domUp (1 + laneIdx l) = d.domUp (1 + laneIdx l) := by rw [Dev.domUp, Dev.domUp, pwr]
  obtain ⟨up, down⟩ := plinthLane_own d' l
  rw [same, lane] at up
  rw [same] at down
  exact ⟨up, down⟩
theorem plinthLanes (d : Dev) : (∀ l : Lane, d.Plinthed (lanesAll.foldl plinthLane d) l) ∧ (lanesAll.foldl plinthLane d).time = d.time := by
  obtain ⟨apartA, pwrA, timeA⟩ := plinthLane_apart d .a
  obtain ⟨apartB, pwrB, timeB⟩ := plinthLane_apart (plinthLane d .a) .b
  obtain ⟨-, -, timeC⟩ := plinthLane_apart (plinthLane (plinthLane d .a) .b) .c
  refine ⟨fun l => ?_, timeC.trans (timeB.trans timeA)⟩
  cases l with
  | a => exact ((Dev.Plinthed.start rfl rfl).next (by decide)).next (by decide)
  | b => exact (Dev.Plinthed.start (apartA.others .b (by decide)) pwrA).next (by decide)
  | c => exact Dev.Plinthed.start ((apartB.others .c (by decide)).trans (apartA.others .c (by decide))) (pwrB.trans pwrA)

theorem plinth_does {s : State} (bad : Bool) (turn : s.dev.boot.stage = 1) : Does (.plinth bad) s (fun d =>
    d.InStage (if bad then 0x81 else 2) s.dev.boot.stageAt 256000 ∧ (bad = true → d.lanes = s.dev.lanes) ∧
    (bad = false → ∀ l : Lane, (s.dev.domUp (1 + laneIdx l) = true → d.lane l = s.dev.lane l ∧ ∃ t : Nat, (l, t) ∈ d.test.bistRun) ∧
      (s.dev.domUp (1 + laneIdx l) = false → d.phase l = .failed))) := by
  have is : exec (.plinth bad) s = s.onDev (fun d =>
      if bad then toStage (stageEnd d 256000) 0x81 else toStage (lanesAll.foldl plinthLane (stageEnd d 256000)) 2) := next_of_dev (if_neg (by simp [turn]))
  refine does_of_onDev is ?_
  have clk := stageEnd_clk s.dev 256000
  cases bad with
  | true => exact ⟨toStage_inStage clk, fun _ => toStage_lanes .., fun no => by cases no⟩
  | false =>
    obtain ⟨plinthed, time⟩ := plinthLanes (stageEnd s.dev 256000)
    refine ⟨toStage_inStage ?_, fun no => (by cases no), fun _ l => ?_⟩
    · rwa [Dev.clk, time]
    · obtain ⟨up, down⟩ := plinthed l
      simp only [Bool.false_eq_true, if_false]
      rw [toStage_test, Dev.phase, Dev.lane, toStage_lanes]
      exact ⟨up, down⟩
theorem hubBist_does {s : State} (ok : Bool) (turn : s.dev.boot.stage = 2) : Does (.hubBist ok) s (fun d =>
    d.InStage (if ok then 3 else 0x82) s.dev.boot.stageAt 7680000 ∧ d.test.hubBist = (if ok then 1 else 3) ∧ d.lanes = s.dev.lanes) := by
  have is : exec (.hubBist ok) s = s.onDev (fun d => toStage ((((stageEnd d 7680000).onTest (fun t => { t with hubBist := if ok then 1 else 3 })).putTest 0x12 0
      (if ok then 1 else 3) 970 12000).testStatus) (if ok then 3 else 0x82)) := next_of_dev (if_neg (by simp [turn]))
  refine does_of_onDev is ?_
  have clk := stageEnd_clk s.dev 7680000
  obtain ⟨h, shown⟩ := Dev.testStatus_host (((stageEnd s.dev 7680000).onTest (fun t => { t with hubBist := if ok then 1 else 3 })).putTest 0x12 0
    (if ok then 1 else 3) 970 12000)
  rw [shown]
  exact ⟨toStage_inStage clk, congrArg TestSt.hubBist (toStage_test ..), toStage_lanes ..⟩

/-! ### Fetch -/

theorem loadFloors_eq (d : Dev) : ∃ i f : Nat, loadFloors d = { d with boot := { d.boot with imgFloor := i, fwFloor := f } } := by
  unfold loadFloors
  split
  · exact ⟨_, _, rfl⟩
  · exact ⟨_, _, rfl⟩
/-- A scanned store has an active area and no compaction (R417). -/
theorem scanStore_active (s : StoreSt) (next : BitVec 32) : (scanStore s next).area.gen.isSome = true ∧ (scanStore s next).comp = none := by
  unfold scanStore
  dsimp only
  split
  · next x y a b =>
    refine ⟨?_, rfl⟩
    unfold StoreSt.area
    dsimp only
    split
    · rw [b]; rfl
    · rw [a]; rfl
  · next x a b => exact ⟨congrArg Option.isSome a, rfl⟩
  · next x a b => exact ⟨congrArg Option.isSome b, rfl⟩
  · exact ⟨rfl, rfl⟩
theorem scanJournal_eq (d : Dev) : ∃ j : JournalSt, scanJournal d = { d with jr := j } ∧ j.main.comp = none ∧ j.cal.comp = none ∧
    j.main.area.gen.isSome = true ∧ j.cal.area.gen.isSome = true :=
  ⟨_, rfl, (scanStore_active ..).2, (scanStore_active ..).2, (scanStore_active ..).1, (scanStore_active ..).1⟩
theorem fetch_does {s : State} (x : Option Flash) (turn : s.dev.boot.stage = 3) : Does (.fetch x) s (fun d =>
    d.InStage 4 s.dev.boot.stageAt 12800000 ∧ d.boot.flash = x.getD s.dev.boot.flash ∧ d.jr.main.comp = none ∧ d.jr.cal.comp = none ∧ d.scanned = true ∧
      d.lanes = s.dev.lanes) := by
  have is : exec (.fetch x) s = s.onDev (fun d =>
      let d := d.onBoot (fun b => { b with flash := x.getD b.flash })
      toStage (loadFloors (scanJournal (stageEnd d (max 12800000 (fetchClk (slotLen d.boot.flash (preferred d.boot.flash))))))) 4) := by
    refine next_of_dev ((if_neg (by simp [turn])).trans ?_)
    cases x <;> rfl
  refine does_of_onDev is ?_
  dsimp only
  generalize hn : max 12800000 _ = n
  have long : 12800000 ≤ n := hn ▸ Nat.le_max_left ..
  have clk := stageEnd_clk (s.dev.onBoot (fun b => { b with flash := x.getD b.flash })) n
  obtain ⟨j, scan, main, cal, mainGen, calGen⟩ := scanJournal_eq (stageEnd (s.dev.onBoot (fun b => { b with flash := x.getD b.flash })) n)
  obtain ⟨i, f, floors⟩ := loadFloors_eq (scanJournal (stageEnd (s.dev.onBoot (fun b => { b with flash := x.getD b.flash })) n))
  obtain ⟨h, stage⟩ := toStage_eq (loadFloors (scanJournal (stageEnd (s.dev.onBoot (fun b => { b with flash := x.getD b.flash })) n))) 4
  rw [stage, floors, scan]
  refine ⟨⟨rfl, rfl, ?_⟩, rfl, main, cal, ?_, rfl⟩
  · exact (Nat.add_le_add_left long _).trans clk
  · show (j.main.area.gen.isSome && j.cal.area.gen.isSome) = true
    rw [mainGen, calGen]
    rfl

/-! ### Verify -/

theorem Dev.post_eq (d : Dev) (p : Post) : ∃ j : JournalSt, d.post p = { d with jr := j } := by
  unfold Dev.post
  dsimp only
  split_ifs <;> exact ⟨_, rfl⟩
theorem Dev.note_eq (d : Dev) (t u i c v : Nat) : ∃ j : JournalSt, d.note t u i c v = { d with jr := j } := by
  unfold Dev.note
  split
  · exact d.post_eq _
  · exact ⟨_, rfl⟩
/-- A fall-back is recorded, and takes its time. -/
theorem fallBack_eq (d : Dev) (fw : Bool) (slot detail : Nat) : ∃ (j : JournalSt) (n : Nat), fallBack d fw slot detail =
    { d with jr := j, boot := { d.boot with fallFw := d.boot.fallFw || fw, fallImg := d.boot.fallImg || !fw, stageAt := d.boot.stageAt + n } } := by
  unfold fallBack
  obtain ⟨j, is⟩ := d.note_eq 0x29 (if fw then 0 else 1) slot detail 0
  rw [is]
  refine ⟨j, fetchClk (flashPart d.boot.flash slot fw).length + 5 * msClk, ?_⟩
  rw [← Nat.add_assoc]
  rfl
/-- What verification makes of the identity key (R428, R431). -/
def BootSt.Keyed (b : BootSt) (key : List Byte) (ok : Bool) : Prop :=
  (b.scan = true → key = b.privKey ∧ ok = b.keyOk) ∧ (b.scan = false → ok = true ∧
    (b.privKey.length = 4960 → sha3_512 (b.privKey.take 4896) = b.privKey.drop 4896 → key = b.privKey))
theorem loadKey_eq (d : Dev) : ∃ (j : JournalSt) (key : List Byte) (ok : Bool), d.boot.Keyed key ok ∧
    loadKey d = { d with jr := j, boot := { d.boot with privKey := key, keyOk := ok } } := by
  unfold loadKey
  dsimp only
  split
  · next scan => exact ⟨_, _, _, ⟨fun _ => ⟨rfl, rfl⟩, fun no => absurd scan (by simp [no])⟩, rfl⟩
  · next scan =>
    split
    · exact ⟨_, _, _, ⟨fun yes => absurd yes scan, fun _ => ⟨rfl, fun _ _ => rfl⟩⟩, rfl⟩
    · next bad =>
      obtain ⟨j, is⟩ := d.note_eq 0x2F 0 0 0 0
      rw [is]
      refine ⟨j, _, true, ⟨fun yes => absurd yes scan, fun _ => ⟨rfl, fun len sha => absurd ?_ bad⟩⟩, rfl⟩
      rw [len, sha]
      simp

/-- Firmware of slot w is taken. -/
def Dev.fwTaken (d : Dev) (f : Flash) (w : Nat) : Dev :=
  d.onBoot (fun b => { b with fwSlot := some w, fwDigest := ((flashPart f w true).drop ((flashPart f w true).length - sigSize + 8)).take 64 })
/-- The image of slot x is taken. -/
def Dev.imgTaken (d : Dev) (f : Flash) (x : Nat) : Dev := d.onBoot (fun b => { b with imgSlot := some x, keySlot := imageKeySlot (flashPart f x false) })
/-- The detail with which the image of slot x is refused with the firmware of slot w, `sig` telling whose signature holds. -/
def Dev.imageRefused (d : Dev) (f : Flash) (w : Nat) (sig : Nat → Bool) (x : Nat) : Nat :=
  startImage d.imageFloor (fieldAt (flashPart f w true) 6 2) (sig x) (flashPart f x false)
/-- Verification of the image for the firmware of slot w. -/
def Dev.verifyImage (d : Dev) (f : Flash) (w : Nat) (sig : Nat → Bool) : Dev :=
  let p := preferred f
  let d := d.fwTaken f w
  if d.imageRefused f w sig p = 0 then toStage (stageEnd (d.imgTaken f p) 3200000) 5
  else if d.imageRefused f w sig (1 - p) = 0 then
    toStage (stageEnd ((fallBack d false (1 - p) (d.imageRefused f w sig p)).imgTaken f (1 - p)) 3200000) 5
  else toStage (stageEnd d 3200000) 0x84

/-- d' has taken slot x's image with the firmware of slot w, or none; k tells of fall-backs and the key. -/
structure Dev.Verified (d d' : Dev) (stage : Nat) (fwSlot imgSlot : Option Nat) (fallFw fallImg : Bool) : Prop where
  inStage : d'.InStage stage d.boot.stageAt 3200000
  fw : d'.boot.fwSlot = fwSlot
  img : d'.boot.imgSlot = imgSlot
  fallFw : d'.boot.fallFw = fallFw
  fallImg : d'.boot.fallImg = fallImg
  key : d'.boot.privKey = d.boot.privKey ∧ d'.boot.keyOk = d.boot.keyOk
  flash : d'.boot.flash = d.boot.flash
  lanes : d'.lanes = d.lanes

theorem Dev.verified_toStage {d e : Dev} (stage : Nat) (later : d.boot.stageAt ≤ e.boot.stageAt) (key : e.boot.privKey = d.boot.privKey ∧ e.boot.keyOk = d.boot.keyOk)
    (flash : e.boot.flash = d.boot.flash) (lanes : e.lanes = d.lanes) :
    d.Verified (toStage (stageEnd e 3200000) stage) stage e.boot.fwSlot e.boot.imgSlot e.boot.fallFw e.boot.fallImg := by
  have clk := stageEnd_clk e 3200000
  obtain ⟨h, is⟩ := toStage_eq (stageEnd e 3200000) stage
  rw [is]
  exact ⟨⟨rfl, rfl, (Nat.add_le_add_right later _).trans clk⟩, rfl, rfl, rfl, rfl, key, flash, lanes⟩
section
variable {d : Dev} {f : Flash} {w : Nat} {sig : Nat → Bool}
theorem Dev.verifyImage_first (good : d.imageRefused f w sig (preferred f) = 0) :
    d.Verified (d.verifyImage f w sig) 5 (some w) (some (preferred f)) d.boot.fallFw d.boot.fallImg := by
  rw [show d.verifyImage f w sig = toStage (stageEnd ((d.fwTaken f w).imgTaken f (preferred f)) 3200000) 5 from if_pos good]
  exact Dev.verified_toStage 5 (e := (d.fwTaken f w).imgTaken f (preferred f)) (Nat.le_refl _) ⟨rfl, rfl⟩ rfl rfl
theorem Dev.verifyImage_other (bad : d.imageRefused f w sig (preferred f) ≠ 0) (good : d.imageRefused f w sig (1 - preferred f) = 0) :
    d.Verified (d.verifyImage f w sig) 5 (some w) (some (1 - preferred f)) d.boot.fallFw true := by
  have is : d.verifyImage f w sig = toStage (stageEnd ((fallBack (d.fwTaken f w) false (1 - preferred f) (d.imageRefused f w sig (preferred f))).imgTaken f
      (1 - preferred f)) 3200000) 5 := (if_neg bad).trans (if_pos good)
  obtain ⟨j, n, fell⟩ := fallBack_eq (d.fwTaken f w) false (1 - preferred f) (d.imageRefused f w sig (preferred f))
  rw [is, fell]
  have done := Dev.verified_toStage (d := d) 5 (e := Dev.imgTaken { d.fwTaken f w with jr := j, boot := { (d.fwTaken f w).boot with
    fallFw := (d.fwTaken f w).boot.fallFw || false, fallImg := (d.fwTaken f w).boot.fallImg || !false, stageAt := (d.fwTaken f w).boot.stageAt + n } } f (1 - preferred f))
    (Nat.le_add_right _ n) ⟨rfl, rfl⟩ rfl rfl
  exact ⟨done.inStage, done.fw, done.img, done.fallFw.trans (Bool.or_false _), done.fallImg.trans (Bool.or_true _), done.key, done.flash, done.lanes⟩
theorem Dev.verifyImage_none (bad : d.imageRefused f w sig (preferred f) ≠ 0) (bad' : d.imageRefused f w sig (1 - preferred f) ≠ 0) :
    d.Verified (d.verifyImage f w sig) 0x84 (some w) d.boot.imgSlot d.boot.fallFw d.boot.fallImg := by
  rw [show d.verifyImage f w sig = toStage (stageEnd (d.fwTaken f w) 3200000) 0x84 from (if_neg bad).trans (if_neg bad')]
  exact Dev.verified_toStage 0x84 (e := d.fwTaken f w) (Nat.le_refl _) ⟨rfl, rfl⟩ rfl rfl
end

/-- The detail with which the firmware of a slot is refused. -/
def BootSt.fwRefused (b : BootSt) (fa fb : Bool) (x : Nat) : Nat :=
  fwDetail b.fwFloor (fwCrypt b.fuses (if x = 0 then fa else fb) (flashPart b.flash x true)) (flashPart b.flash x true)
/-- Whether the signature of the image of slot x holds. -/
def BootSt.imgSigned (b : BootSt) (ia ib : Bool) (x : Nat) : Bool := imageCrypt b.fuses (if x = 0 then ia else ib) (flashPart b.flash x false)
/-- The device once the parts of the flash are judged and the key is loaded. -/
def Dev.verifyBegun (d : Dev) (fa ia fb ib : Bool) : Dev :=
  loadKey (d.onBoot (fun b => { b with valid :=
    ([0, 1].filter (fun x => d.boot.fwRefused fa fb x = 0)).map (fun x => (x, true)) ++
    ([0, 1].filter (fun x => imageDetail d.imageFloor 0x0302 (d.boot.imgSigned ia ib x) (flashPart d.boot.flash x false) = 0)).map (fun x => (x, false)) }))
theorem verify_eq {s : State} (fa ia fb ib : Bool) (turn : s.dev.boot.stage = 4) : exec (.verify fa ia fb ib) s = s.onDev (fun d =>
    let f := d.boot.flash
    let p := preferred f
    let k := d.verifyBegun fa ia fb ib
    if d.boot.fwRefused fa fb p = 0 then k.verifyImage f p (d.boot.imgSigned ia ib)
    else if d.boot.fwRefused fa fb (1 - p) = 0 then
      (fallBack k true (1 - p) (d.boot.fwRefused fa fb p)).verifyImage f (1 - p) (d.boot.imgSigned ia ib)
    else toStage (stageEnd k 3200000) 0x83) := next_of_dev (if_neg (by simp [turn]))

/-- The judging of the parts leaves what they are taken from. -/
theorem Dev.verifyBegun_eq (d : Dev) (fa ia fb ib : Bool) : ∃ (v : List (Nat × Bool)) (j : JournalSt) (key : List Byte) (ok : Bool), d.boot.Keyed key ok ∧
    d.verifyBegun fa ia fb ib = { d with jr := j, boot := { d.boot with valid := v, privKey := key, keyOk := ok } } := by
  unfold Dev.verifyBegun
  generalize List.map (fun x => (x, true)) _ ++ _ = v
  obtain ⟨j, key, ok, keyed, is⟩ := loadKey_eq (d.onBoot (fun b => { b with valid := v }))
  exact ⟨v, j, key, ok, keyed, is⟩
/-- k is d once its parts are judged, perhaps after a fall-back to the other firmware. -/
structure Dev.Judged (d k : Dev) : Prop where
  key : d.boot.Keyed k.boot.privKey k.boot.keyOk
  later : d.boot.stageAt ≤ k.boot.stageAt
  flash : k.boot.flash = d.boot.flash
  lanes : k.lanes = d.lanes
  imgSlot : k.boot.imgSlot = d.boot.imgSlot
  fallImg : k.boot.fallImg = d.boot.fallImg
  floor : k.imageFloor = d.imageFloor
theorem Dev.verifyBegun_judged (d : Dev) (fa ia fb ib : Bool) : d.Judged (d.verifyBegun fa ia fb ib) ∧
    (d.verifyBegun fa ia fb ib).boot.fallFw = d.boot.fallFw ∧ (d.verifyBegun fa ia fb ib).boot.fwSlot = d.boot.fwSlot := by
  obtain ⟨v, j, key, ok, keyed, is⟩ := d.verifyBegun_eq fa ia fb ib
  rw [is]
  exact ⟨⟨keyed, Nat.le_refl _, rfl, rfl, rfl, rfl, rfl⟩, rfl, rfl⟩
theorem Dev.Judged.fallBack {d k : Dev} (h : d.Judged k) (slot detail : Nat) :
    d.Judged (fallBack k true slot detail) ∧ (Machine.fallBack k true slot detail).boot.fallFw = true := by
  obtain ⟨j, n, is⟩ := fallBack_eq k true slot detail
  rw [is]
  exact ⟨⟨h.key, h.later.trans (Nat.le_add_right ..), h.flash, h.lanes, h.imgSlot, (Bool.or_false _).trans h.fallImg, h.floor⟩, Bool.or_true _⟩

/-- d' comes from verification of d. -/
structure Dev.VerifiedFrom (d d' : Dev) (stage : Nat) (fwSlot imgSlot : Option Nat) (fallFw fallImg : Bool) : Prop where
  inStage : d'.InStage stage d.boot.stageAt 3200000
  fw : d'.boot.fwSlot = fwSlot
  img : d'.boot.imgSlot = imgSlot
  fallFw : d'.boot.fallFw = fallFw
  fallImg : d'.boot.fallImg = fallImg
  key : d.boot.Keyed d'.boot.privKey d'.boot.keyOk
  flash : d'.boot.flash = d.boot.flash
  lanes : d'.lanes = d.lanes
theorem Dev.Judged.verified {d k d' : Dev} {stage : Nat} {fwSlot imgSlot : Option Nat} {fallFw fallImg : Bool} (k_ : d.Judged k)
    (h : k.Verified d' stage fwSlot imgSlot fallFw fallImg) : d.VerifiedFrom d' stage fwSlot imgSlot fallFw fallImg := by
  obtain ⟨⟨is, at_, clk⟩, fw, img, fell, fellImg, ⟨key, ok⟩, flash, lanes⟩ := h
  exact ⟨⟨is, at_, (Nat.add_le_add_right k_.later _).trans clk⟩, fw, img, fell, fellImg, key ▸ ok ▸ k_.key, flash.trans k_.flash, lanes.trans k_.lanes⟩

/-- The detail with which the image of slot x is refused with the firmware of slot y. -/
def Dev.imRefused (d : Dev) (ia ib : Bool) (y x : Nat) : Nat := d.imageRefused d.boot.flash y (d.boot.imgSigned ia ib) x
theorem Dev.Judged.imageRefused {d k : Dev} (h : d.Judged k) (f : Flash) (w : Nat) (sig : Nat → Bool) (x : Nat) :
    k.imageRefused f w sig x = d.imageRefused f w sig x := by rw [Dev.imageRefused, Dev.imageRefused, h.floor]

section
variable {s : State} {fa ia fb ib : Bool} (turn : s.dev.boot.stage = 4)
include turn

/-- Verification goes on with the preferred firmware, or the other one, or ends. -/
theorem verify_preferred {P : Dev → Prop} (fw : s.dev.boot.fwRefused fa fb (preferred s.dev.boot.flash) = 0)
    (holds : ∀ k, s.dev.Judged k → k.boot.fallFw = s.dev.boot.fallFw →
      P (k.verifyImage s.dev.boot.flash (preferred s.dev.boot.flash) (s.dev.boot.imgSigned ia ib))) : Does (.verify fa ia fb ib) s P := by
  refine does_of_onDev (verify_eq fa ia fb ib turn) ?_
  obtain ⟨judged, fell, -⟩ := s.dev.verifyBegun_judged fa ia fb ib
  dsimp only
  rw [if_pos fw]
  exact holds _ judged fell
theorem verify_other {P : Dev → Prop} (fw : s.dev.boot.fwRefused fa fb (preferred s.dev.boot.flash) ≠ 0)
    (fw' : s.dev.boot.fwRefused fa fb (1 - preferred s.dev.boot.flash) = 0) (holds : ∀ k, s.dev.Judged k → k.boot.fallFw = true →
      P (k.verifyImage s.dev.boot.flash (1 - preferred s.dev.boot.flash) (s.dev.boot.imgSigned ia ib))) : Does (.verify fa ia fb ib) s P := by
  refine does_of_onDev (verify_eq fa ia fb ib turn) ?_
  obtain ⟨judged, fell⟩ := (s.dev.verifyBegun_judged fa ia fb ib).1.fallBack (1 - preferred s.dev.boot.flash)
    (s.dev.boot.fwRefused fa fb (preferred s.dev.boot.flash))
  dsimp only
  rw [if_neg fw, if_pos fw']
  exact holds _ judged fell
theorem verify_neither (fw : s.dev.boot.fwRefused fa fb (preferred s.dev.boot.flash) ≠ 0)
    (fw' : s.dev.boot.fwRefused fa fb (1 - preferred s.dev.boot.flash) ≠ 0) : Does (.verify fa ia fb ib) s (fun d =>
      s.dev.VerifiedFrom d 0x83 s.dev.boot.fwSlot s.dev.boot.imgSlot s.dev.boot.fallFw s.dev.boot.fallImg) := by
  refine does_of_onDev (verify_eq fa ia fb ib turn) ?_
  obtain ⟨judged, fell, slot⟩ := s.dev.verifyBegun_judged fa ia fb ib
  dsimp only
  rw [if_neg fw, if_neg fw']
  generalize s.dev.verifyBegun fa ia fb ib = k at *
  have done := Dev.verified_toStage (d := k) (e := k) 0x83 (Nat.le_refl _) ⟨rfl, rfl⟩ rfl rfl
  rw [slot, judged.imgSlot, fell, judged.fallImg] at done
  exact judged.verified done

/-- Verification, by what is refused (R421, R428). -/
theorem verify_does (fa ia fb ib : Bool) :
    let b := s.dev.boot
    let f := b.flash
    let p := preferred f
    let fw := b.fwRefused fa fb
    let im := s.dev.imRefused ia ib
    (fw p = 0 → im p p = 0 → Does (.verify fa ia fb ib) s (fun d => s.dev.VerifiedFrom d 5 (some p) (some p) b.fallFw b.fallImg)) ∧
    (fw p = 0 → im p p ≠ 0 → im p (1 - p) = 0 → Does (.verify fa ia fb ib) s (fun d => s.dev.VerifiedFrom d 5 (some p) (some (1 - p)) b.fallFw true)) ∧
    (fw p = 0 → im p p ≠ 0 → im p (1 - p) ≠ 0 → Does (.verify fa ia fb ib) s (fun d => s.dev.VerifiedFrom d 0x84 (some p) b.imgSlot b.fallFw b.fallImg)) ∧
    (fw p ≠ 0 → fw (1 - p) = 0 → im (1 - p) p = 0 → Does (.verify fa ia fb ib) s (fun d => s.dev.VerifiedFrom d 5 (some (1 - p)) (some p) true b.fallImg)) := by
  intro b f p fw im
  refine ⟨fun good img => ?_, fun good img img' => ?_, fun good img img' => ?_, fun bad good img => ?_⟩
  · refine verify_preferred turn good fun k judged fell => ?_
    have done := Dev.verifyImage_first ((judged.imageRefused f p (b.imgSigned ia ib) p).trans img)
    rw [fell, judged.fallImg] at done
    exact judged.verified done
  · refine verify_preferred turn good fun k judged fell => ?_
    have done := Dev.verifyImage_other (d := k) (f := f) (w := p) (sig := b.imgSigned ia ib) (fun h => img ((judged.imageRefused ..).symm.trans h))
      ((judged.imageRefused ..).trans img')
    rw [fell] at done
    exact judged.verified done
  · refine verify_preferred turn good fun k judged fell => ?_
    have done := Dev.verifyImage_none (d := k) (f := f) (w := p) (sig := b.imgSigned ia ib) (fun h => img ((judged.imageRefused ..).symm.trans h))
      (fun h => img' ((judged.imageRefused ..).symm.trans h))
    rw [fell, judged.imgSlot, judged.fallImg] at done
    exact judged.verified done
  · refine verify_other turn bad good fun k judged fell => ?_
    have done := Dev.verifyImage_first ((judged.imageRefused f (1 - p) (b.imgSigned ia ib) p).trans img)
    rw [fell, judged.fallImg] at done
    exact judged.verified done

end

end Sys2Proof.Machine
end

section
/-! SUPPORT. Start-up: loading the lanes, the analog self-tests and the self-test stage (R91, R419, R420, R437 to R439). -/

namespace Sys2Proof.Machine
open Sys2Proof

/-! ### Before the lanes -/

theorem Dev.JrKeeps.fold {α : Type} {f : Dev → α → Dev} (step : ∀ d x, Dev.JrKeeps d (f d x)) (l : List α) (d : Dev) : d.JrKeeps (l.foldl f d) := by
  induction l generalizing d with
  | nil => exact .refl d
  | cons x r ih => exact (step d x).trans (ih _)
/-- Time and lanes stay. -/
structure Dev.LanesStay (d d' : Dev) : Prop where
  time : d'.time = d.time
  lanes : d'.lanes = d.lanes
theorem Dev.LanesStay.trans {d d' e : Dev} (h : d.LanesStay d') (h' : d'.LanesStay e) : d.LanesStay e :=
  ⟨h'.time.trans h.time, h'.lanes.trans h.lanes⟩
theorem Dev.LanesStay.onBoot (d : Dev) (f : BootSt → BootSt) : d.LanesStay (d.onBoot f) := ⟨d.onBoot_time f, d.onBoot_lanes f⟩
theorem Dev.LanesStay.onMgmt (d : Dev) (f : MgmtSt → MgmtSt) : d.LanesStay (d.onMgmt f) := ⟨d.onMgmt_time f, d.onMgmt_lanes f⟩
theorem Dev.LanesStay.onVot (d : Dev) (f : VotSt → VotSt) : d.LanesStay (d.onVot f) := ⟨d.onVot_time f, d.onVot_lanes f⟩
theorem Dev.JrKeeps.lanesStay {d d' : Dev} (h : d.JrKeeps d') : d.LanesStay d' := ⟨h.rest.2.2.2, h.rest.1⟩
theorem floorsRec_jrKeeps (d : Dev) : d.JrKeeps (floorsRec d) := by
  unfold floorsRec
  split
  · exact (Dev.JrKeeps.refl d).writeRec _
  · exact .refl d
theorem alignFloors_stays (d : Dev) : d.LanesStay (alignFloors d) := by
  unfold alignFloors
  dsimp only
  split_ifs
  · exact (Dev.LanesStay.onBoot d _).trans (floorsRec_jrKeeps _).lanesStay
  · exact .onBoot d _
  · exact ⟨rfl, rfl⟩
theorem loadCounters_stays (d : Dev) : d.LanesStay (loadCounters d) := by
  unfold loadCounters
  dsimp only
  split
  · exact (Dev.LanesStay.onMgmt d _).trans (.onVot _ _)
  · exact .onMgmt d _
theorem countersRec_jrKeeps (d : Dev) : d.JrKeeps (countersRec d) := by
  unfold countersRec Dev.stateRec
  exact (Dev.JrKeeps.refl d).post _

/-! ### A lane is loaded -/

theorem loadNote_jrKeeps (d : Dev) (type unit index code : Nat) : d.JrKeeps (loadNote d type unit index code) := by
  unfold loadNote
  dsimp only
  split
  · split
    · exact (((Dev.JrKeeps.refl d).onJr _).writeRec _).note _ _ _ _ _
    · exact (Dev.JrKeeps.refl d).note _ _ _ _ _
  · exact (Dev.JrKeeps.refl d).note _ _ _ _ _

/-- The CRC-64 of what lane l received (R91). -/
def loadCrcOf (g : Img) (hits : List LoadHit) (l : Lane) : BitVec 64 :=
  crc64 (loadBytes g ((hits.filter (fun h => h.l == l)).map (fun h => (h.at_, h.x))))
/-- What loading makes of lane l: one that passed BIST takes the image, any other stays. -/
def Dev.Loaded (d d' : Dev) (g : Img) (hits : List LoadHit) (l : Lane) : Prop :=
  (d.phase l = .idle → (d'.lane l).mem = initMem g ∧ (d'.lane l).coef = g.coefs ∧ d'.phase l = .idle ∧
    (d'.lane l).seq.loadCrc = loadCrcOf g hits l) ∧
  (d.phase l ≠ .idle → d'.lane l = d.lane l)
/-- The calibration that the journal holds for lane l. -/
def Dev.calFor (d : Dev) (l : Lane) : List (Nat × DWord) × List (Nat × Nat) := calOf (liveState d.jr.cal.area.recs) l
/-- A lane that has received the image, and its calibration `c` (R91). -/
def LaneSt.loaded (q : LaneSt) (g : Img) (c : List (Nat × DWord) × List (Nat × Nat)) (crc : BitVec 64) (l : Lane) (now : Nat) : LaneSt :=
  { LaneSt.reset with
    seq := { q.seq with loadCrc := crc }
    mem := initMem g
    cfg := c.1.map (fun e : Nat × DWord => ({ pid := e.1, host := true, live := e.2, staged := none, at_ := 0, due := [] } : CfgField)) ++ initCfg g
    coef := g.coefs, rdc := q.rdc, enc := q.enc
    meas := { q.meas.restart now with calDef := c.2.map (calPid l), calBad := false } }
theorem loadLane_idle {d : Dev} {l : Lane} (idle : d.phase l = .idle) (g : Img) (hits : List LoadHit) : loadLane d g hits l =
    (d.calFor l).2.foldl (fun d x => loadNote d 0x2A (laneIdx l) x.1 x.2)
      (d.onLane l (fun q => q.loaded g (d.calFor l) (loadCrcOf g hits l) l d.lclk)) := if_neg (by simp [idle])
theorem loadLane_busy {d : Dev} {l : Lane} (busy : d.phase l ≠ .idle) (g : Img) (hits : List LoadHit) : loadLane d g hits l = d :=
  if_pos (by simpa using busy)
/-- Loading a lane leaves the others. -/
theorem loadLane_step (d : Dev) (g : Img) (hits : List LoadHit) (l : Lane) : (loadLane d g hits l).time = d.time ∧
    (loadLane d g hits l).boot = d.boot ∧ (∀ x : Lane, x ≠ l → (loadLane d g hits l).lane x = d.lane x) ∧ d.Loaded (loadLane d g hits l) g hits l := by
  by_cases idle : d.phase l = .idle
  · rw [loadLane_idle idle]
    generalize d.calFor l = c
    obtain ⟨j, h, noted⟩ := Dev.JrKeeps.fold (f := fun d (x : Nat × Nat) => loadNote d 0x2A (laneIdx l) x.1 x.2) (fun d x => loadNote_jrKeeps d 0x2A (laneIdx l) x.1 x.2) c.2
      (d.onLane l (fun q => q.loaded g c (loadCrcOf g hits l) l d.lclk))
    rw [noted]
    have lane : (d.onLane l (fun q => q.loaded g c (loadCrcOf g hits l) l d.lclk)).lane l = (d.lane l).loaded g c (loadCrcOf g hits l) l d.lclk := Tri.get_set ..
    have others (x : Lane) (other : x ≠ l) : (d.onLane l (fun q => q.loaded g c (loadCrcOf g hits l) l d.lclk)).lane x = d.lane x := Tri.get_set_ne _ _ _ _ other
    refine ⟨rfl, rfl, others, fun _ => ?_, fun no => absurd idle no⟩
    refine ⟨(congrArg LaneSt.mem lane).trans rfl, (congrArg LaneSt.coef lane).trans rfl, (congrArg (fun q : LaneSt => q.seq.phase) lane).trans idle,
      (congrArg (fun q : LaneSt => q.seq.loadCrc) lane).trans rfl⟩
  · rw [loadLane_busy idle]
    exact ⟨rfl, rfl, fun _ _ => rfl, fun no => absurd no idle, fun _ => rfl⟩
theorem Dev.Loaded.next {d d' : Dev} {g : Img} {hits : List LoadHit} {l x : Lane} (h : d.Loaded d' g hits l) (other : l ≠ x) :
    d.Loaded (loadLane d' g hits x) g hits l := by
  have same := (loadLane_step d' g hits x).2.2.1 l other
  unfold Dev.Loaded Dev.phase
  rw [same]
  exact h
theorem Dev.Loaded.start {d d' : Dev} {g : Img} {hits : List LoadHit} {l : Lane} (same : d'.lane l = d.lane l) : d.Loaded (loadLane d' g hits l) g hits l := by
  have h := (loadLane_step d' g hits l).2.2.2
  unfold Dev.Loaded Dev.phase at *
  rwa [same] at h
/-- Every lane is loaded in its turn. -/
theorem loadLanes (d : Dev) (g : Img) (hits : List LoadHit) : (lanesAll.foldl (fun d l => loadLane d g hits l) d).time = d.time ∧
    (lanesAll.foldl (fun d l => loadLane d g hits l) d).boot = d.boot ∧ ∀ l : Lane, d.Loaded (lanesAll.foldl (fun d l => loadLane d g hits l) d) g hits l := by
  obtain ⟨timeA, bootA, othersA, -⟩ := loadLane_step d g hits .a
  obtain ⟨timeB, bootB, othersB, -⟩ := loadLane_step (loadLane d g hits .a) g hits .b
  obtain ⟨timeC, bootC, -, -⟩ := loadLane_step (loadLane (loadLane d g hits .a) g hits .b) g hits .c
  refine ⟨timeC.trans (timeB.trans timeA), bootC.trans (bootB.trans bootA), fun l => ?_⟩
  cases l with
  | a => exact ((Dev.Loaded.start rfl).next (by decide)).next (by decide)
  | b => exact (Dev.Loaded.start (othersA .b (by decide))).next (by decide)
  | c => exact Dev.Loaded.start ((othersB .c (by decide)).trans (othersA .c (by decide)))

/-! ### The load stage -/

/-- The device before its lanes are loaded. -/
def Dev.loadBegun (d : Dev) (g : Img) : Dev :=
  (countersRec (loadCounters (alignFloors (loadNext d g)))).onBoot (fun b => { b with running := some g })
theorem Dev.loadBegun_stays (d : Dev) (g : Img) : d.LanesStay (d.loadBegun g) := by
  have begun : d.LanesStay (loadNext d g) := by
    unfold loadNext
    exact .onMgmt d _
  have counted := (begun.trans (alignFloors_stays _)).trans ((loadCounters_stays _).trans (countersRec_jrKeeps _).lanesStay)
  exact counted.trans (.onBoot _ _)
/-- What stands around the lanes once they are loaded. -/
def Dev.loadEnds (d : Dev) (g : Img) : Dev :=
  (({ d with can := (List.range 4).map (fun i => loadCan g i (d.chan i)) } : Dev).onNet
    (fun n => { n with ring := if g.rateLimit = 0 then .standalone else .listen, since := d.clk })).onPair (fun p => { p with role := if g.paired then .init else .active })
theorem load_eq {s : State} {x : Nat} (hits : List LoadHit) (slot : s.dev.boot.imgSlot = some x) (turn : s.dev.boot.stage = 5)
    (ended : s.dev.test.bistRun = []) : exec (.load hits) s = s.onDev (fun d =>
      let g := imageOf (flashPart d.boot.flash x false)
      toStage ((lanesAll.foldl (fun d l => loadLane d g hits l) ((stageEnd d (18 * msClk)).loadBegun g)).loadEnds g) 6) := by
  refine next_of_dev ?_
  dsimp only
  rw [slot]
  refine (if_neg (by simp [turn, ended])).trans ?_
  unfold Dev.loadBegun
  generalize List.foldl _ _ lanesAll = e
  rfl
theorem load_does {s : State} {x : Nat} (hits : List LoadHit) (slot : s.dev.boot.imgSlot = some x) (turn : s.dev.boot.stage = 5)
    (ended : s.dev.test.bistRun = []) : Does (.load hits) s (fun d =>
      let g := imageOf (flashPart s.dev.boot.flash x false)
      d.InStage 6 s.dev.boot.stageAt 11520000 ∧ d.boot.running = some g ∧ d.pair.role = (if g.paired then .init else .active) ∧
      ∀ l : Lane, s.dev.Loaded d g hits l) := by
  refine does_of_onDev (load_eq hits slot turn ended) ?_
  dsimp only
  generalize imageOf (flashPart s.dev.boot.flash x false) = g
  have clk : s.dev.boot.stageAt + 11520000 ≤ (stageEnd s.dev (18 * msClk)).clk := stageEnd_clk s.dev (18 * msClk)
  have kept : (stageEnd s.dev (18 * msClk)).lanes = s.dev.lanes := rfl
  generalize stageEnd s.dev (18 * msClk) = d at *
  obtain ⟨time, lanes⟩ := d.loadBegun_stays g
  have running : (d.loadBegun g).boot.running = some g := rfl
  generalize d.loadBegun g = b at *
  obtain ⟨time', boot, loaded⟩ := loadLanes b g hits
  generalize lanesAll.foldl (fun d l => loadLane d g hits l) b = e at *
  obtain ⟨h, is⟩ := toStage_eq (e.loadEnds g) 6
  rw [is]
  refine ⟨⟨rfl, rfl, clk.trans_eq (congrArg TimeSt.clk (time'.trans time).symm)⟩, (congrArg BootSt.running boot).trans running, rfl, fun l => ?_⟩
  have same : b.lane l = s.dev.lane l := congrArg (fun t : Tri LaneSt => t.get l) (lanes.trans kept)
  have done := loaded l
  unfold Dev.Loaded Dev.phase at done ⊢
  rwa [same] at done

/-! ### The drive dies' self-test and the self-test stage -/

/-- Time, lanes and the dies' results stay. -/
structure Dev.DiesStay (d d' : Dev) : Prop where
  time : d'.time = d.time
  lanes : d'.lanes = d.lanes
  dd : d'.test.dd = d.test.dd
namespace Dev.DiesStay
variable {d d' : Dev} (h : d.DiesStay d')
theorem refl (d : Dev) : d.DiesStay d := ⟨rfl, rfl, rfl⟩
include h
theorem trans {e : Dev} (h' : d'.DiesStay e) : d.DiesStay e := ⟨h'.time.trans h.time, h'.lanes.trans h.lanes, h'.dd.trans h.dd⟩
theorem onGd (f : GdSt → GdSt) : d.DiesStay (d'.onGd f) := h.trans ⟨rfl, rfl, rfl⟩
theorem onSio (b : Bool) (f : SioSt → SioSt) : d.DiesStay (d'.onSio b f) := h.trans ⟨rfl, rfl, rfl⟩
theorem onTest {f : TestSt → TestSt} (dd : (f d'.test).dd = d'.test.dd) : d.DiesStay (d'.onTest f) := h.trans ⟨rfl, rfl, dd⟩
theorem fault (t u i c v : Nat) : d.DiesStay (d'.fault t u i c v) :=
  h.trans ⟨d'.fault_time .., d'.fault_lanes .., congrArg TestSt.dd (d'.fault_test ..)⟩
omit h in
theorem fold {α : Type} {f : Dev → α → Dev} (step : ∀ d x, Dev.DiesStay d (f d x)) (l : List α) (d : Dev) : d.DiesStay (l.foldl f d) :=
  ⟨foldl_kept Dev.time (fun d x => (step d x).time) l d, foldl_kept Dev.lanes (fun d x => (step d x).lanes) l d,
    foldl_kept (fun d : Dev => d.test.dd) (fun d x => (step d x).dd) l d⟩
end Dev.DiesStay

/-- A failing item latches switches, an amplifier, the LCI or a safety group, and is reported (R438). -/
theorem analogItem_stays (die : Nat) (d : Dev) (x : Nat × Side × Nat) : d.DiesStay (analogItem die d x) := by
  obtain ⟨hb, sd, item⟩ := x
  have latched (n : Nat) (sd : Side) (t : Nat) (e : Dev) : e.DiesStay (e.onHb n (·.onSw sd (·.latchOff t .diag))) := (Dev.DiesStay.refl e).onGd _
  have left {y : Dev} (h : d.DiesStay y) : d.DiesStay (if item ≤ 9 then y.fault 0x18 (die + 1) (if item ≤ 4 then hb else 0xFFFF) item 0
      else y.fault 0x17 die (if item = 10 then 3 else item - 11) 0 0) := by
    split
    · exact h.fault _ _ _ _ _
    · exact h.fault _ _ _ _ _
  unfold analogItem
  dsimp only
  refine left ?_
  split
  · exact latched hb sd _ d
  split
  · exact .fold (fun e n => (latched n .high _ e).trans (latched n .low _ _)) _ d
  split
  · exact (Dev.DiesStay.refl d).onGd _
  split
  · split
    · exact (Dev.DiesStay.refl d).onTest rfl
    · exact .refl d
  · exact (Dev.DiesStay.refl d).onSio _ _
theorem queueDiags_stays (d : Dev) (die : Nat) : (queueDiags d die).time = d.time ∧ (queueDiags d die).lanes = d.lanes ∧ (queueDiags d die).test = d.test := by
  have pumped {γ : Type} (proj : Dev → γ) (kept : ∀ (e : Dev) (f : GdSt → GdSt), proj (e.onGd f) = proj e) : proj (queueDiags d die) = proj d := by
    unfold queueDiags diagPump
    dsimp only
    refine (foldl_kept proj (fun e u => ?_) _ _).trans (kept d _)
    split
    · rfl
    · exact kept e _
  exact ⟨pumped Dev.time fun _ _ => rfl, pumped Dev.lanes fun _ _ => rfl, pumped Dev.test fun _ _ => rfl⟩

/-- The results of both dies with that of die 0 or 1. -/
def TestSt.withDie (t : TestSt) (die res : Nat) : TestSt :=
  { t with dd := if die = 0 then (res, t.dd.2) else (t.dd.1, res),
           ddFail := (if die = 0 then (res, t.dd.2) else (t.dd.1, res)).1 == 3 || (if die = 0 then (res, t.dd.2) else (t.dd.1, res)).2 == 3 }
theorem TestSt.withDie_res (t : TestSt) (die res : Nat) : (if die = 0 then (t.withDie die res).dd.1 else (t.withDie die res).dd.2) = res := by
  unfold TestSt.withDie
  split <;> rfl
theorem TestSt.withDie_bad (t : TestSt) (die : Nat) : (t.withDie die 3).ddFail = true := by
  unfold TestSt.withDie
  split <;> simp
/-- The device once the items of a die stand. -/
def Dev.itemsFound (d : Dev) (die : Nat) (bad : List (Nat × Side × Nat)) (t : Nat) : Dev := bad.foldl (analogItem die) (d.toClk (t + 2 * msClk))
/-- ... and their result is shown. -/
def Dev.dieJudged (d : Dev) (die res word : Nat) : Dev :=
  ((noteDegraded (d.onTest (·.withDie die res))).putTest 2 (die + 1) word 1000 2000).testStatus
theorem Dev.dieJudged_kept (d : Dev) (die res word : Nat) : (d.dieJudged die res word).time = d.time ∧ (d.dieJudged die res word).lanes = d.lanes ∧
    (d.dieJudged die res word).test = d.test.withDie die res := by
  unfold Dev.dieJudged
  obtain ⟨h, is⟩ := Dev.testStatus_host ((noteDegraded (d.onTest (·.withDie die res))).putTest 2 (die + 1) word 1000 2000)
  rw [is]
  exact ⟨noteDegraded_time _, noteDegraded_lanes _, noteDegraded_test _⟩
/-- The job that asked for the test ends, or the die's units wait for their diagnostics. -/
def Dev.dieOver (d : Dev) (die word : Nat) (job : Option Job) : Dev :=
  match job with
  | some j => (d.onJob j.num (fun x => { x with res := [BitVec.ofNat 32 word, 1000, 2000] })).endJob j.num 0 0
  | none => queueDiags d die
theorem Dev.dieOver_kept (d : Dev) (die word : Nat) (job : Option Job) : (d.dieOver die word job).time = d.time ∧
    (d.dieOver die word job).lanes = d.lanes ∧ (d.dieOver die word job).test = d.test := by
  cases job with
  | none => exact queueDiags_stays d die
  | some j => exact ⟨rfl, rfl, rfl⟩
theorem analog_eq {s : State} {die t : Nat} (bad : List (Nat × Side × Nat)) (small : die < 2) (runs : s.dev.analogRuns die = some t) :
      exec (.analogSelfTestDone die bad) s = s.onDev (fun d => ((d.itemsFound die bad t).dieJudged die (if bad.isEmpty then 1 else 3)
        ((if bad.isEmpty then 1 else 3) + min 255 bad.length * 256)).dieOver die ((if bad.isEmpty then 1 else 3) + min 255 bad.length * 256)
        (d.analogJob (die + 1))) := by
  refine next_of_dev ((if_neg (by omega)).trans ?_)
  rw [runs]
  dsimp only
  unfold Dev.dieJudged Dev.itemsFound
  generalize bad.foldl (analogItem die) _ = e
  cases s.dev.analogJob (die + 1) <;> rfl
theorem analog_does {s : State} {die t : Nat} (bad : List (Nat × Side × Nat)) (small : die < 2) (runs : s.dev.analogRuns die = some t) :
    Does (.analogSelfTestDone die bad) s (fun d => t + 1280000 ≤ d.clk ∧
      (if die = 0 then d.test.dd.1 else d.test.dd.2) = (if bad = [] then 1 else 3) ∧ (bad ≠ [] → d.test.ddFail = true) ∧ d.lanes = s.dev.lanes) := by
  refine does_of_onDev (analog_eq bad small runs) ?_
  obtain ⟨time, lanes, same⟩ := ((s.dev.itemsFound die bad t).dieJudged die (if bad.isEmpty then 1 else 3)
    ((if bad.isEmpty then 1 else 3) + min 255 bad.length * 256)).dieOver_kept die ((if bad.isEmpty then 1 else 3) + min 255 bad.length * 256)
    (s.dev.analogJob (die + 1))
  obtain ⟨time', lanes', test⟩ := (s.dev.itemsFound die bad t).dieJudged_kept die (if bad.isEmpty then 1 else 3)
    ((if bad.isEmpty then 1 else 3) + min 255 bad.length * 256)
  have items : (s.dev.toClk (t + 2 * msClk)).DiesStay (s.dev.itemsFound die bad t) := .fold (analogItem_stays die) bad _
  rw [Dev.clk, time, time', same, lanes, lanes', test, items.time, items.lanes]
  refine ⟨(Nat.le_max_right ..).trans_eq (Dev.toClk_clk s.dev (t + 2 * msClk)).symm, ?_, fun some_ => ?_, rfl⟩
  · rw [TestSt.withDie_res]
    cases bad <;> rfl
  · rw [if_neg (by simpa using some_)]
    exact TestSt.withDie_bad ..

/-- The result of the MRAM check of the self-test stage. -/
def mramResult (cor : Nat) (bad : List Nat) : Nat := if !bad.isEmpty then 3 else if 0 < cor then 2 else 1
/-- The device once the MRAM check has ended. -/
def Dev.mramChecked (d : Dev) (cor : Nat) (bad : List Nat) : Dev :=
  ((((mramWords d cor bad).onTest (fun t => { t with mram := mramResult cor bad })).putTest 3 0
    (mramResult cor bad + min 255 cor * 256 + min 255 bad.length * 65536) 1000 30000).testStatus).onBoot (fun b => { b with selfDone := true })
theorem Dev.mramChecked_kept (d : Dev) (cor : Nat) (bad : List Nat) : (d.mramChecked cor bad).time = d.time ∧ (d.mramChecked cor bad).lanes = d.lanes ∧
    (d.mramChecked cor bad).test.mram = mramResult cor bad ∧ (d.mramChecked cor bad).boot.selfDone = true := by
  obtain ⟨⟨time, lanes, -, -⟩, -⟩ := mramWords_kept d cor bad
  unfold Dev.mramChecked
  generalize mramWords d cor bad = e at *
  generalize mramResult cor bad = res
  generalize res + min 255 cor * 256 + min 255 bad.length * 65536 = word
  obtain ⟨h, is⟩ := Dev.testStatus_host ((e.onTest (fun t => { t with mram := res })).putTest 3 0 word 1000 30000)
  rw [is]
  exact ⟨time, lanes, rfl, rfl⟩
/-- The stage that the self-test stage leads to. -/
def Dev.afterTest (d : Dev) (bad : List Nat) : Nat :=
  if bad.any (fun x => mramRow x == 0) = true then 0x86 else if d.passed.length < 2 then 0x85 else if d.agreed.length < 2 then 0x84 else 7
theorem Dev.afterTest_congr {d d' : Dev} (lanes : d'.lanes = d.lanes) (bad : List Nat) : d'.afterTest bad = d.afterTest bad := by
  unfold Dev.afterTest Dev.agreed Dev.passed crcShared Dev.phase Dev.lane
  rw [lanes]
theorem selfTest_does {s : State} (cor : Nat) (bad : List Nat) (turn : s.dev.boot.stage = 6) (dies : s.dev.diesDone = true) :
    Does (.selfTest cor bad) s (fun d => s.dev.boot.stageAt + 19200000 ≤ d.clk ∧ d.boot.selfDone = true ∧
      d.test.mram = (if bad = [] then (if 0 < cor then 2 else 1) else 3) ∧ d.lanes = s.dev.lanes ∧ d.boot.stage = s.dev.afterTest bad) := by
  have is : exec (.selfTest cor bad) s = s.onDev (fun d =>
      let d := (stageEnd d (30 * msClk)).mramChecked cor bad
      toStage d (d.afterTest bad)) := by
    refine next_of_dev ((if_neg (by simp [turn, dies])).trans ?_)
    unfold Dev.afterTest Dev.mramChecked mramResult
    dsimp only
    generalize mramWords (stageEnd s.dev (30 * msClk)) cor bad = e
    simp only [apply_ite (toStage _)]
  refine does_of_onDev is ?_
  have clk : s.dev.boot.stageAt + 19200000 ≤ (stageEnd s.dev (30 * msClk)).clk := stageEnd_clk s.dev (30 * msClk)
  have kept : (stageEnd s.dev (30 * msClk)).lanes = s.dev.lanes := rfl
  generalize stageEnd s.dev (30 * msClk) = d at *
  obtain ⟨time, lanes, mram, done⟩ := d.mramChecked_kept cor bad
  dsimp only
  generalize d.mramChecked cor bad = e at *
  obtain ⟨h, shown⟩ := toStage_eq e (e.afterTest bad)
  rw [shown]
  refine ⟨clk.trans_eq (congrArg TimeSt.clk time.symm), done, mram.trans ?_, lanes.trans kept, Dev.afterTest_congr (lanes.trans kept) bad⟩
  unfold mramResult
  cases bad <;> rfl

end Sys2Proof.Machine
end

section
/-! SUPPORT. Release: what it makes of the lanes that passed, and of the others (R36, R91, R426). -/

namespace Sys2Proof.Machine
open Sys2Proof

/-! ### Steps of a release that leave a lane's sequencer and memory alone -/

/-- Time, stage, release and lane l's sequencer and memory stay. -/
structure Dev.ReleaseKeeps (l : Lane) (d d' : Dev) : Prop where
  time : d'.time = d.time
  stage : d'.boot.stage = d.boot.stage
  released : d'.boot.released = d.boot.released
  seq : (d'.lane l).seq = (d.lane l).seq
  mem : (d'.lane l).mem = (d.lane l).mem
namespace Dev.ReleaseKeeps
variable {d d' : Dev} {l : Lane}

theorem refl (d : Dev) (l : Lane) : Dev.ReleaseKeeps l d d := ⟨rfl, rfl, rfl, rfl, rfl⟩
theorem trans {e : Dev} (h : Dev.ReleaseKeeps l d d') (h' : Dev.ReleaseKeeps l d' e) : Dev.ReleaseKeeps l d e :=
  ⟨h'.time.trans h.time, h'.stage.trans h.stage, h'.released.trans h.released, h'.seq.trans h.seq, h'.mem.trans h.mem⟩
/-- A step that leaves time, lanes and start-up. -/
theorem of (time : d'.time = d.time) (lanes : d'.lanes = d.lanes) (boot : d'.boot = d.boot) : Dev.ReleaseKeeps l d d' :=
  ⟨time, congrArg _ boot, congrArg _ boot, congrArg (fun t : Tri LaneSt => (t.get l).seq) lanes, congrArg (fun t : Tri LaneSt => (t.get l).mem) lanes⟩
theorem ofJr (h : d.JrKeeps d') : Dev.ReleaseKeeps l d d' := by
  obtain ⟨j, x, rfl⟩ := h
  exact ⟨rfl, rfl, rfl, rfl, rfl⟩
theorem onBoot (d : Dev) {f : BootSt → BootSt} (stage : (f d.boot).stage = d.boot.stage) (released : (f d.boot).released = d.boot.released) :
    Dev.ReleaseKeeps l d (d.onBoot f) := ⟨rfl, stage, released, rfl, rfl⟩
theorem onLanes (d : Dev) {f : LaneSt → LaneSt} (seq : (f (d.lane l)).seq = (d.lane l).seq) (mem : (f (d.lane l)).mem = (d.lane l).mem) :
    Dev.ReleaseKeeps l d (d.onLanes f) :=
  ⟨rfl, rfl, rfl, (congrArg LaneSt.seq (Tri.get_map ..)).trans seq, (congrArg LaneSt.mem (Tri.get_map ..)).trans mem⟩
theorem fold {α : Type} {f : Dev → α → Dev} (l : Lane) (xs : List α) (step : ∀ d, ∀ x ∈ xs, Dev.ReleaseKeeps l d (f d x)) (d : Dev) :
    Dev.ReleaseKeeps l d (xs.foldl f d) := by
  induction xs generalizing d with
  | nil => exact refl d l
  | cons x r ih => exact (step d x (List.mem_cons_self ..)).trans (ih (fun d y mem => step d y (List.mem_cons_of_mem _ mem)) _)
theorem fault (d : Dev) (t u i c v : Nat) : Dev.ReleaseKeeps l d (d.fault t u i c v) := of (d.fault_time ..) (d.fault_lanes ..) (d.fault_boot ..)
theorem onGd (d : Dev) (f : GdSt → GdSt) : Dev.ReleaseKeeps l d (d.onGd f) := of rfl rfl rfl
theorem onLink (d : Dev) (k : Nat) (f : LinkSt → LinkSt) : Dev.ReleaseKeeps l d (d.onLink k f) := of rfl rfl rfl
theorem takeOut (d : Dev) {m : Lane} (other : l ≠ m) (c e u : Nat) : Dev.ReleaseKeeps l d (d.takeOut m c e u) := by
  have lane := d.takeOut_lane_ne m l c e u other
  have boot := d.takeOut_boot m c e u
  exact ⟨d.takeOut_time .., congrArg _ boot, congrArg _ boot, congrArg _ lane, congrArg _ lane⟩

end Dev.ReleaseKeeps

theorem raiseFwFloor_keeps (d : Dev) (l : Lane) : Dev.ReleaseKeeps l d (raiseFwFloor d) := by
  unfold raiseFwFloor
  dsimp only
  split
  · exact .refl d l
  · split
    · refine Dev.ReleaseKeeps.trans (.onBoot d ?_ ?_) (.ofJr (floorsRec_jrKeeps _)) <;> rfl
    · exact .refl d l
theorem foldl_faulty_kept (chs : List Nat) (q : LaneSt) : (chs.foldl (fun q ch => q.onRdc ch RdcSt.faulty) q).seq = q.seq ∧
    (chs.foldl (fun q ch => q.onRdc ch RdcSt.faulty) q).mem = q.mem := by
  constructor
  · refine foldl_kept LaneSt.seq ?_ _ _
    exact fun _ _ => rfl
  · refine foldl_kept LaneSt.mem ?_ _ _
    exact fun _ _ => rfl
theorem latchRecords_keeps (d : Dev) (l : Lane) : Dev.ReleaseKeeps l d (latchRecords d) := by
  have told (b : Bool) (e : Dev) (t u i c v : Nat) : Dev.ReleaseKeeps l e (if b then e.fault t u i c v else e) := by
    split
    · exact .fault e _ _ _ _ _
    · exact .refl e l
  unfold latchRecords
  dsimp only
  refine Dev.ReleaseKeeps.trans (.trans (.fold l _ (fun e x _ => ?_) _) (told _ _ _ _ _ _ _)) (told _ _ _ _ _ _ _)
  split
  · exact .refl e l
  · exact .fault e _ _ _ _ _
theorem protectionWord_keeps (d : Dev) (l : Lane) : Dev.ReleaseKeeps l d (protectionWord d) := by
  unfold protectionWord
  dsimp only
  refine (latchRecords_keeps d l).trans ?_
  generalize latchRecords d = e
  refine Dev.ReleaseKeeps.trans (.fold l (List.range 20) (f := fun d n => d.onHb n (·.deliver d.clk (Config.vbs d.draws n))) (fun e n _ => .onGd e _) e) ?_
  generalize List.foldl _ e (List.range 20) = x
  have faulty := foldl_faulty_kept (x.gd.exc.flatMap (fun a => [2 * a, 2 * a + 1])) (x.lane l)
  refine Dev.ReleaseKeeps.trans (.onLanes x (f := fun q => (x.gd.exc.flatMap (fun a => [2 * a, 2 * a + 1])).foldl (fun q ch => q.onRdc ch RdcSt.faulty) q) faulty.1 faulty.2) ?_
  exact .of rfl rfl rfl
theorem remoteRecords_keeps (d : Dev) (k : Nat) (old new : EdgeRet) (l : Lane) : Dev.ReleaseKeeps l d (remoteRecords d k old new) := by
  unfold remoteRecords
  refine .fold l _ (fun e c _ => ?_) d
  dsimp only
  split
  · exact .refl e l
  · exact .fault e _ _ _ _ _
theorem edgeBoundary_keeps (d : Dev) (l : Lane) : Dev.ReleaseKeeps l d (edgeBoundary d) := by
  unfold edgeBoundary
  exact .fold l _ (fun e k _ => (remoteRecords_keeps e k _ _ l).trans (.onLink _ _ _)) d
theorem latchWords_jrKeeps (d : Dev) : d.JrKeeps (latchWords d) := by
  have put {e : Dev} (h : d.JrKeeps e) (a w : Nat) : d.JrKeeps (e.putWin a w) := h.onHost _
  have all {α : Type} {f : Dev → α → Dev} (xs : List α) (step : ∀ {e : Dev}, d.JrKeeps e → ∀ x, d.JrKeeps (f e x)) : ∀ {e : Dev}, d.JrKeeps e → d.JrKeeps (xs.foldl f e) := by
    induction xs with
    | nil => exact fun h => h
    | cons x r ih => exact fun h => ih (step h x)
  unfold latchWords
  dsimp only
  refine put (put (put (put (all _ (fun h x => put (put h _ _) _ _) ?_) _ _) _ _) _ _) _ _
  refine put (put (all _ (fun h x => put h _ _) ?_) _ _) _ _
  refine put (put (put (all _ (fun h x => put (put h _ _) _ _) ?_) _ _) _ _) _ _
  exact put (put (put (all _ (fun h x => put (put (put h _ _) _ _) _ _) (.refl d)) _ _) _ _) _ _

/-! ### Release of the lanes -/

/-- A sequencer that dispatches in INITIAL_MODE from the first bell on. -/
def SeqSt.goLive (q : SeqSt) (mode : Nat) : SeqSt := { q with phase := .live, mode := mode, pend := none, ptr := 0, last := none, busy := [], late := [] }
/-- The lanes that passed are live, and the device is released. -/
def Dev.lanesLive (d : Dev) : Dev :=
  toStage ((injectTest (d.passed.foldl (fun e l => e.onSeq l (·.goLive d.img.initialMode)) d)).onBoot (fun b => { b with released := true })) 8
/-- The outputs and links of a released device. -/
def Dev.releaseRest (d : Dev) : Dev :=
  let d := d.onPair (fun p => { p with relClk := d.clk, lastHb := d.clk, lastSwap := d.gt, rankFirst := p.role == .active })
  let edge := d.edge.map (fun x => { x with syncDue := true, hbNext := d.gt })
  let can := d.can.map (fun c => if c.laneOwn then { c with init := false } else c)
  let d := [0, 1].foldl (beginExc d.gt) (raiseFwFloor { d with edge := edge, can := can })
  d.onLanes (fun q => { q with enc := q.enc.map (fun e => { e with zSeen := false }) })
/-- Lanes whose CRC-64 no other shares. -/
def Dev.oddLanes (d : Dev) : List Lane := d.liveLanes.filter (fun l => !crcShared d d.liveLanes l)
/-- The words of the first boundary are latched. -/
def Dev.firstWords (d : Dev) (first : Bool) : Dev :=
  let d := d.onVot (fun v => { v with rotGt := BitVec.ofNat 64 d.gt, liveFc := d.liveLanes })
  let d := if first then protectionWord (edgeBoundary d) else d
  latchWords (noteDegraded (d.onSafe (fun s => { s with input := BitVec.ofNat 32 d.safetyInput })))
/-- Lanes whose CRC-64 no other shares go out. -/
def Dev.oddOut (d : Dev) : Dev := d.oddLanes.foldl (fun d l => d.takeOut l 6 0 0) d.liveChanged
theorem releaseNow_eq (d : Dev) (first : Bool) : releaseNow d first = d.lanesLive.releaseRest.oddOut.firstWords first := rfl

theorem Dev.releaseRest_keeps (d : Dev) (l : Lane) : Dev.ReleaseKeeps l d d.releaseRest := by
  unfold Dev.releaseRest
  dsimp only
  refine Dev.ReleaseKeeps.trans ?_ (.onLanes _ rfl rfl)
  refine Dev.ReleaseKeeps.trans ?_ (.fold l _ (fun e k _ => .onGd e _) _)
  refine Dev.ReleaseKeeps.trans ?_ (raiseFwFloor_keeps _ l)
  exact .of rfl rfl rfl
theorem Dev.oddOut_keeps {d : Dev} {l : Lane} (stays : l ∉ d.oddLanes) : Dev.ReleaseKeeps l d d.oddOut := by
  unfold Dev.oddOut
  refine Dev.ReleaseKeeps.trans (.of d.liveChanged_time d.liveChanged_lanes d.liveChanged_boot) (.fold l _ (fun e x mem => .takeOut e ?_ 6 0 0) _)
  rintro rfl
  exact stays mem
theorem Dev.oddOut_rest (d : Dev) : d.oddOut.time = d.time ∧ d.oddOut.boot = d.boot := by
  unfold Dev.oddOut
  constructor
  · refine (foldl_kept Dev.time ?_ _ _).trans d.liveChanged_time
    exact fun e l => e.takeOut_time l 6 0 0
  · refine (foldl_kept Dev.boot ?_ _ _).trans d.liveChanged_boot
    exact fun e l => e.takeOut_boot l 6 0 0
theorem Dev.firstWords_keeps (d : Dev) (first : Bool) (l : Lane) : Dev.ReleaseKeeps l d (d.firstWords first) := by
  unfold Dev.firstWords
  dsimp only
  refine Dev.ReleaseKeeps.trans ?_ (.ofJr (latchWords_jrKeeps _))
  refine Dev.ReleaseKeeps.trans ?_ (.of (noteDegraded_time _) (noteDegraded_lanes _) (noteDegraded_boot _))
  refine Dev.ReleaseKeeps.trans ?_ (.of (Dev.onSafe_time ..) (Dev.onSafe_lanes ..) (Dev.onSafe_boot ..))
  have voted : Dev.ReleaseKeeps l d (d.onVot (fun v => { v with rotGt := BitVec.ofNat 64 d.gt, liveFc := d.liveLanes })) := .of rfl rfl rfl
  split
  · exact voted.trans ((edgeBoundary_keeps _ l).trans (protectionWord_keeps _ l))
  · exact voted

/-- What a step on each lane of a list leaves, when a second step changes nothing. -/
theorem foldl_onSeq_lane {f : SeqSt → SeqSt} (twice : ∀ q, f (f q) = f q) (ls : List Lane) (d : Dev) (x : Lane) :
    (ls.foldl (fun e l => e.onSeq l f) d).lane x = if x ∈ ls then { d.lane x with seq := f (d.lane x).seq } else d.lane x := by
  induction ls generalizing d with
  | nil => rfl
  | cons l r ih =>
    rw [List.foldl_cons, ih]
    by_cases same : x = l
    · subst same
      have lane : (d.onSeq x f).lane x = { d.lane x with seq := f (d.lane x).seq } := Tri.get_set ..
      rw [lane]
      simp [twice]
    · have lane : (d.onSeq l f).lane x = d.lane x := Tri.get_set_ne _ _ _ _ same
      rw [lane]
      simp [same]
theorem Dev.lanesLive_lane (d : Dev) (x : Lane) : d.lanesLive.lane x =
    if x ∈ d.passed then { d.lane x with seq := (d.lane x).seq.goLive d.img.initialMode } else d.lane x := by
  have live := foldl_onSeq_lane (f := (·.goLive d.img.initialMode)) (fun _ => rfl) d.passed d x
  unfold Dev.lanesLive Dev.lane at *
  rw [toStage_lanes]
  exact live
theorem Dev.lanesLive_rest (d : Dev) : d.lanesLive.time = d.time ∧ d.lanesLive.boot.stage = 8 ∧ d.lanesLive.boot.released = true := by
  unfold Dev.lanesLive
  have time : (d.passed.foldl (fun e l => e.onSeq l (·.goLive d.img.initialMode)) d).time = d.time := by
    refine foldl_kept Dev.time ?_ _ _
    exact fun _ _ => rfl
  generalize d.passed.foldl (fun e l => e.onSeq l (·.goLive d.img.initialMode)) d = e at *
  obtain ⟨h, is⟩ := toStage_eq ((injectTest e).onBoot (fun b => { b with released := true })) 8
  rw [is]
  exact ⟨time, rfl, rfl⟩

/-- Live lanes and their shared CRC-64s are read off the sequencers. -/
theorem Dev.oddLanes_congr {d d' : Dev} (seq : ∀ l : Lane, (d'.lane l).seq = (d.lane l).seq) : d'.oddLanes = d.oddLanes := by
  have live : d'.isLive = d.isLive := by
    funext l
    rw [Dev.isLive, Dev.isLive, Dev.phase, Dev.phase, seq]
  unfold Dev.oddLanes Dev.liveLanes crcShared
  simp only [live, seq]

theorem Dev.passed_congr {d d' : Dev} (phase : ∀ l : Lane, d'.phase l = d.phase l) (clkBad : ∀ l : Lane, (d'.lane l).seq.clkBad = (d.lane l).seq.clkBad) :
    d'.passed = d.passed := by
  unfold Dev.passed
  simp only [phase, clkBad]

/-- A lane that passed and agrees with another, or that was not live, is not odd. -/
theorem Dev.lanesLive_even {d : Dev} {l : Lane} (agrees : ∀ l ∈ d.passed, crcShared d d.passed l = true) (even : l ∈ d.passed ∨ d.phase l ≠ .live) :
    l ∉ d.lanesLive.oddLanes := by
  intro odd
  obtain ⟨lives, alone⟩ := List.mem_filter.mp odd
  have live {x : Lane} (in_ : x ∈ d.passed) : x ∈ d.lanesLive.liveLanes := by
    refine List.mem_filter.mpr ⟨mem_lanesAll x, ?_⟩
    rw [Dev.isLive, Dev.phase, d.lanesLive_lane, if_pos in_]
    rfl
  have crc (x : Lane) : (d.lanesLive.lane x).seq.loadCrc = (d.lane x).seq.loadCrc := by
    rw [d.lanesLive_lane]
    split <;> rfl
  by_cases in_ : l ∈ d.passed
  · obtain ⟨m, mem, shared⟩ := List.any_eq_true.mp (agrees l in_)
    have : crcShared d.lanesLive d.lanesLive.liveLanes l = true := List.any_eq_true.mpr ⟨m, live mem, by rw [crc, crc]; exact shared⟩
    rw [this] at alone
    cases alone
  · have dead : d.lanesLive.phase l = d.phase l := by rw [Dev.phase, d.lanesLive_lane, if_neg in_]; rfl
    have alive : d.lanesLive.phase l = .live := eq_of_beq (List.mem_filter.mp lives).2
    exact even.elim in_ (fun no => no (dead.symm.trans alive))

/-- A standalone device at its first bell (R36). -/
def Dev.firstBell (d : Dev) : Dev :=
  let d := d.onLanes (fun q => { q with seq := q.seq.replicaFrom 0 })
  d.onTime (fun t => { t with
    run := true, gt := 0, frac := 0, belled := true, bellGt := 0, cycle := 0, nextFc := BitVec.ofNat 64 d.tf, fcIdx := 1 % max 1 d.k, fcCount := 0 })
theorem Dev.firstBell_lane (d : Dev) (l : Lane) : d.firstBell.lane l = { d.lane l with seq := (d.lane l).seq.replicaFrom 0 } := Tri.get_map ..
theorem Dev.tf_onLanes (d : Dev) (f : LaneSt → LaneSt) : (d.onLanes f).tf = d.tf := rfl
theorem Dev.firstBell_time (d : Dev) : d.firstBell.time.run = true ∧ d.firstBell.time.gt = 0 ∧ d.firstBell.time.bellGt = 0 ∧
    d.firstBell.time.cycle = 0 ∧ d.firstBell.time.belled = true ∧ d.firstBell.time.nextFc = BitVec.ofNat 64 d.tf := by
  unfold Dev.firstBell
  dsimp only
  rw [Dev.tf_onLanes]
  exact ⟨rfl, rfl, rfl, rfl, rfl, rfl⟩
theorem Dev.firstBell_boot (d : Dev) : d.firstBell.boot = d.boot := by
  unfold Dev.firstBell
  rw [Dev.onTime_boot, Dev.onLanes_boot]
theorem SeqSt.replicaFrom_kept (q : SeqSt) (g : Nat) : (q.replicaFrom g).phase = q.phase ∧ (q.replicaFrom g).clkBad = q.clkBad ∧
    (q.replicaFrom g).loadCrc = q.loadCrc := ⟨rfl, rfl, rfl⟩
theorem Dev.firstBell_kept (d : Dev) : (∀ l : Lane, d.firstBell.phase l = d.phase l) ∧ d.firstBell.passed = d.passed ∧
    ∀ ls l, crcShared d.firstBell ls l = crcShared d ls l := by
  have phase (l : Lane) : d.firstBell.phase l = d.phase l := by
    rw [Dev.phase, d.firstBell_lane]
    exact (SeqSt.replicaFrom_kept ..).1
  have crc (l : Lane) : (d.firstBell.lane l).seq.loadCrc = (d.lane l).seq.loadCrc := by
    rw [d.firstBell_lane]
    exact (SeqSt.replicaFrom_kept ..).2.2
  refine ⟨phase, Dev.passed_congr phase fun l => ?_, fun ls l => ?_⟩
  · rw [d.firstBell_lane]
    exact (SeqSt.replicaFrom_kept ..).2.1
  · unfold crcShared
    simp only [crc]
theorem releaseNow_rest (d : Dev) : (releaseNow d true).time = d.time ∧ (releaseNow d true).boot.stage = 8 ∧ (releaseNow d true).boot.released = true := by
  rw [releaseNow_eq]
  obtain ⟨time, stage, released⟩ := d.lanesLive_rest
  generalize d.lanesLive = e at *
  have rest := e.releaseRest_keeps .a
  generalize e.releaseRest = x at *
  obtain ⟨time', boot⟩ := x.oddOut_rest
  generalize x.oddOut = y at *
  have words := y.firstWords_keeps true .a
  exact ⟨words.time.trans (time'.trans (rest.time.trans time)), words.stage.trans ((congrArg BootSt.stage boot).trans (rest.stage.trans stage)),
    words.released.trans ((congrArg BootSt.released boot).trans (rest.released.trans released))⟩
theorem releaseNow_keeps {d : Dev} {l : Lane} (agrees : ∀ l ∈ d.passed, crcShared d d.passed l = true) (even : l ∈ d.passed ∨ d.phase l ≠ .live) :
    Dev.ReleaseKeeps l d.lanesLive (releaseNow d true) := by
  rw [releaseNow_eq]
  have rest := d.lanesLive.releaseRest_keeps
  refine ((rest l).trans (Dev.oddOut_keeps ?_)).trans (Dev.firstWords_keeps _ true l)
  rw [Dev.oddLanes_congr fun l => (rest l).seq]
  exact Dev.lanesLive_even agrees even
/-- A lane that passed and agrees dispatches from the first bell on; one that was not live stays as it was. -/
theorem releaseNow_lanes {d : Dev} (agrees : ∀ l ∈ d.passed, crcShared d d.passed l = true) :
    (∀ l ∈ d.passed, (releaseNow d true).phase l = .live ∧ ((releaseNow d true).lane l).seq.mode = d.img.initialMode ∧
      ((releaseNow d true).lane l).seq.ptr = 0 ∧ ((releaseNow d true).lane l).mem = (d.lane l).mem) ∧
    (∀ l : Lane, l ∉ d.passed → d.phase l ≠ .live → (releaseNow d true).phase l = d.phase l) := by
  refine ⟨fun l in_ => ?_, fun l out dead => ?_⟩
  · have is := releaseNow_keeps agrees (.inl in_)
    have live : d.lanesLive.lane l = { d.lane l with seq := (d.lane l).seq.goLive d.img.initialMode } := by rw [d.lanesLive_lane, if_pos in_]
    rw [Dev.phase, is.seq, is.mem, live]
    exact ⟨rfl, rfl, rfl, rfl⟩
  · have is := releaseNow_keeps agrees (.inr dead)
    rw [Dev.phase, is.seq, d.lanesLive_lane, if_neg out]
    rfl
theorem release_eq {s : State} (turn : s.dev.boot.stage = 7) (alone : s.dev.standalone = true) :
    exec .release s = s.onDev (fun d => releaseNow (stageEnd d (2 * msClk)).firstBell true) :=
  next_of_dev ((if_neg (by simp [turn])).trans (if_pos alone))
theorem release_does {s : State} (turn : s.dev.boot.stage = 7) (alone : s.dev.standalone = true)
    (agrees : ∀ l ∈ s.dev.passed, crcShared s.dev s.dev.passed l = true) : Does .release s (fun d => d.boot.stage = 8 ∧ d.boot.released = true ∧
      d.time.run = true ∧ d.time.gt = 0 ∧ d.time.bellGt = 0 ∧ d.time.cycle = 0 ∧ d.time.belled = true ∧ d.time.nextFc = BitVec.ofNat 64 s.dev.tf ∧
      (∀ l ∈ s.dev.passed, d.phase l = .live ∧ (d.lane l).seq.mode = s.dev.img.initialMode ∧ (d.lane l).seq.ptr = 0 ∧
        (d.lane l).mem = (s.dev.lane l).mem) ∧
      (∀ l : Lane, l ∉ s.dev.passed → s.dev.phase l ≠ .live → d.phase l = s.dev.phase l)) := by
  refine does_of_onDev (release_eq turn alone) ?_
  have lanes : (stageEnd s.dev (2 * msClk)).lanes = s.dev.lanes := Dev.toClk_lanes ..
  have boot : (stageEnd s.dev (2 * msClk)).boot = s.dev.boot := Dev.toClk_boot ..
  generalize stageEnd s.dev (2 * msClk) = d at *
  have lane (l : Lane) : d.lane l = s.dev.lane l := congrArg (fun t : Tri LaneSt => t.get l) lanes
  obtain ⟨phase, passed, crc⟩ := d.firstBell_kept
  have was : d.passed = s.dev.passed := Dev.passed_congr (fun l => by rw [Dev.phase, lane]; rfl) (fun l => by rw [lane])
  have crc' (ls l) : crcShared d ls l = crcShared s.dev ls l := by unfold crcShared; simp only [lane]
  obtain ⟨live, others⟩ := releaseNow_lanes (d := d.firstBell) (fun l mem => by
    rw [crc, crc', passed, was]
    exact agrees l (was ▸ passed ▸ mem))
  obtain ⟨time, stage, released⟩ := releaseNow_rest d.firstBell
  rw [passed, was] at live others
  have img : d.firstBell.img = s.dev.img := by
    unfold Dev.img
    rw [d.firstBell_boot, boot]
  have tf : d.tf = s.dev.tf := by
    unfold Dev.tf
    rw [boot]
  obtain ⟨run, gt, bellGt, cycle, belled, nextFc⟩ := d.firstBell_time
  rw [time]
  refine ⟨stage, released, run, gt, bellGt, cycle, belled, nextFc.trans (congrArg (BitVec.ofNat 64) tf), fun l mem => ?_, fun l out dead => ?_⟩
  · obtain ⟨is, mode, ptr, mem'⟩ := live l mem
    refine ⟨is, mode.trans (congrArg Img.initialMode img), ptr, ?_⟩
    rw [mem', d.firstBell_lane, lane]
  · have same : d.firstBell.phase l = s.dev.phase l := (phase l).trans (congrArg (fun q : LaneSt => q.seq.phase) (lane l))
    exact (others l out (same ▸ dead)).trans same

/-- Settles O57: stage by stage. -/
theorem startUp : Obligations.StartUp := by
  intro s b f at_
  refine ⟨fun bad => ⟨fun other => next_of_dev (if_pos other), plinth_does bad⟩, fun ok => ⟨fun other => next_of_dev (if_pos other), hubBist_does ok⟩,
    fun x => ⟨fun other => next_of_dev (if_pos other), fetch_does x⟩, fun fa ia fb ib => ?_, fun x hits slot turn ended => ?_, fun hits idle => ?_,
    fun die bad => ⟨fun idle => ?_, fun t small runs => analog_does bad small runs⟩, fun cor bad => ⟨fun idle => ?_, fun turn dies => selfTest_does cor bad turn dies⟩,
    fun other => next_of_dev (if_pos other), fun turn alone agrees => release_does turn alone agrees, fun turn ring idle => ?_⟩
  · intro p fw im key
    refine ⟨fun other => next_of_dev (if_pos other), fun turn good img => ?_, fun turn good img img' => ?_, fun turn good img img' => ?_,
      fun turn bad good img => ?_, fun turn bad bad' => ?_⟩
    · exact ((verify_does turn fa ia fb ib).1 good img).imp fun d v => ⟨v.inStage, v.fw, v.img, v.key, v.fallFw, v.fallImg, v.flash, v.lanes⟩
    · exact ((verify_does turn fa ia fb ib).2.1 good img img').imp fun d v => ⟨v.inStage, v.fw, v.img, v.fallImg, v.key⟩
    · exact ((verify_does turn fa ia fb ib).2.2.1 good img img').imp fun d v => ⟨v.inStage, v.img, v.key⟩
    · exact ((verify_does turn fa ia fb ib).2.2.2 bad good img).imp fun d v => ⟨v.inStage, v.fw, v.img, v.fallFw, v.key⟩
    · exact (verify_neither turn bad bad').imp fun d v => ⟨v.inStage, v.fw, v.key⟩
  · refine (load_does hits slot turn ended).imp fun d done => ?_
    obtain ⟨stage, running, role, loaded⟩ := done
    exact ⟨stage, running, role, fun l idle => (loaded l).1 idle, fun l busy => (loaded l).2 busy⟩
  · refine next_of_dev ?_
    dsimp only
    split
    · rfl
    · next x slot =>
      refine if_pos ?_
      rcases idle with h | h | h
      · exact absurd ((show s.dev.boot.imgSlot = none from h).symm.trans slot) (by simp)
      · simp [show s.dev.boot.stage ≠ 5 from h]
      · simp [h]
  · refine next_of_dev ?_
    rcases idle with h | h
    · exact if_pos h
    · dsimp only
      rw [h]
      exact ite_self _
  · refine next_of_dev (if_pos ?_)
    rcases idle with h | h
    · simp [show s.dev.boot.stage ≠ 6 from h]
    · simp [h]
  · refine next_of_dev ((if_neg (by simp [show s.dev.boot.stage = 7 from turn])).trans ((if_neg (by simp [ring])).trans (if_neg ?_)))
    rcases idle with h | h | h
    · simp [h]
    · simp [h]
    · simp [h]

end Sys2Proof.Machine
end

section
/-! SUPPORT. The host window: accepted and refused writes, doorbells, datagrams and events (R10, R368 to R375, R380, R383). -/

namespace Sys2Proof.Machine
open Sys2Proof

/-! ### Doorbell bits -/

theorem Dev.ring_bit (d : Dev) {i k : Nat} (small : i < 32) : (d.ring k).host.door.getLsbD i = (d.host.door.getLsbD i || i == k) := by
  show (d.host.door ||| BitVec.ofNat 32 (2 ^ k)).getLsbD i = _
  rw [BitVec.getLsbD_or, BitVec.getLsbD_ofNat, Nat.testBit_two_pow, decide_eq_true small, Bool.true_and]
  by_cases same : i = k
  · rw [same, decide_eq_true rfl, beq_self_eq_true]
  · rw [decide_eq_false (Ne.symm same), beq_false_of_ne same]

/-- d' differs from d in the doorbells and their datagram only. -/
def Dev.DoorOnly (d d' : Dev) : Prop := ∃ (w : Word) (x : Option (Word × Nat)), d' = { d with host := { d.host with door := w, dgSent := x } }
theorem Dev.DoorOnly.refl (d : Dev) : d.DoorOnly d := ⟨_, _, rfl⟩
theorem Dev.DoorOnly.trans {d d' e : Dev} (h : d.DoorOnly d') (h' : d'.DoorOnly e) : d.DoorOnly e := by
  obtain ⟨w, x, rfl⟩ := h
  obtain ⟨w', x', rfl⟩ := h'
  exact ⟨w', x', rfl⟩
/-- Ringing some bits of a list sets these bits. -/
theorem foldl_ring (c : Nat → Bool) (ls : List Nat) (d : Dev) : d.DoorOnly (ls.foldl (fun d i => if c i then d.ring i else d) d) ∧
    ∀ i, i < 32 → (ls.foldl (fun d i => if c i then d.ring i else d) d).host.door.getLsbD i = (d.host.door.getLsbD i || (ls.contains i && c i)) := by
  induction ls generalizing d with
  | nil => exact ⟨.refl d, fun i _ => by simp⟩
  | cons k r ih =>
    rw [List.foldl_cons]
    cases rings : c k with
    | false =>
      obtain ⟨only, bits⟩ := ih d
      refine ⟨only, fun i small => (bits i small).trans ?_⟩
      rw [List.contains_cons]
      by_cases same : i = k
      · rw [same, rings, Bool.and_false, Bool.and_false]
      · rw [beq_false_of_ne same, Bool.false_or]
    | true =>
      obtain ⟨only, bits⟩ := ih (d.ring k)
      refine ⟨Dev.DoorOnly.trans ⟨_, _, rfl⟩ only, fun i small => (bits i small).trans ?_⟩
      rw [d.ring_bit small, List.contains_cons]
      by_cases same : i = k
      · rw [same, rings, beq_self_eq_true, Bool.or_true, Bool.true_or, Bool.true_or, Bool.and_true, Bool.or_true]
      · rw [beq_false_of_ne same, Bool.false_or, Bool.or_false]
/-- Bits that an event sets in the register clock of a clear stay set, or ring (R10). -/
theorem keepDoor_sets (was again : Word) (d : Dev) : d.DoorOnly (keepDoor was again d) ∧
    ∀ i, i < 27 → (keepDoor was again d).host.door.getLsbD i = (again.getLsbD i || d.host.door.getLsbD i) := by
  obtain ⟨only, bits⟩ := foldl_ring (fun i => again.getLsbD i && !(was &&& again).getLsbD i) (List.range 27)
    (d.onHost (fun h => { h with door := h.door ||| (was &&& again) }))
  refine ⟨Dev.DoorOnly.trans ⟨_, _, rfl⟩ only, fun i small => (bits i (by omega)).trans ?_⟩
  have in_ : (List.range 27).contains i = true := by simpa using small
  rw [in_, Dev.onHost_host, BitVec.getLsbD_or, BitVec.getLsbD_and]
  cases again.getLsbD i <;> cases was.getLsbD i <;> cases d.host.door.getLsbD i <;> rfl
theorem keepDoor_none (was : Word) (d : Dev) : keepDoor was 0 d = d := by
  unfold keepDoor
  dsimp only
  have same : d.onHost (fun h => { h with door := h.door ||| (was &&& 0) }) = d :=
    congrArg (fun w : Word => ({ d with host := { d.host with door := w } } : Dev)) (show d.host.door ||| (was &&& 0) = d.host.door by simp)
  rw [same]
  refine foldl_kept (fun d : Dev => d) ?_ _ _
  intro e i
  rw [if_neg]
  simp
theorem raceOver_none (was : Word) (d : Dev) : raceOver was ⟨0, [], []⟩ d = d := keepDoor_none was d

/-! ### Channels that race -/

theorem modAt_getD_outside {α : Type} {l : List α} {i : Nat} (outside : ¬ i < l.length) (f : α → α) (x : α) : (modAt l i f).getD i x = l.getD i x := by
  rw [List.getD_eq_default _ _ (by rw [modAt, List.length_modify]; omega), List.getD_eq_default _ _ (by omega)]
/-- A property that every step on a channel keeps. -/
theorem foldl_onCan_keeps {P : CanSt → Prop} {f : CanSt → CanSt} (keeps : ∀ c, P c → P (f c)) (ls : List Nat) (d : Dev) {i : Nat} (is : P (d.chan i)) :
    P ((ls.foldl (fun d ch => d.onCan ch f) d).chan i) := by
  induction ls generalizing d with
  | nil => exact is
  | cons k r ih =>
    refine ih (d.onCan k f) ?_
    by_cases same : i = k
    · subst same
      by_cases inside : i < d.can.length
      · rw [show (d.onCan i f).chan i = f (d.chan i) from modAt_getD inside f _]
        exact keeps _ is
      · rwa [show (d.onCan i f).chan i = d.chan i from modAt_getD_outside inside f _]
    · rwa [show (d.onCan k f).chan i = d.chan i from modAt_getD_ne _ f _ same]

/-- A step that gives every channel it meets the property. -/
theorem foldl_onCan_sets {P : CanSt → Prop} {f : CanSt → CanSt} (sets : ∀ c, P (f c)) {ls : List Nat} {i : Nat} (in_ : i ∈ ls) {d : Dev} (inside : i < d.can.length) :
    P ((ls.foldl (fun d ch => d.onCan ch f) d).chan i) := by
  induction ls generalizing d with
  | nil => cases in_
  | cons k r ih =>
    rw [List.foldl_cons]
    by_cases same : i = k
    · subst same
      refine foldl_onCan_keeps (fun c _ => sets c) r _ ?_
      rw [show (d.onCan i f).chan i = f (d.chan i) from modAt_getD inside f _]
      exact sets _
    · refine ih ((List.mem_cons.mp in_).resolve_left same) (d := d.onCan k f) ?_
      rwa [Dev.onCan_can, modAt, List.length_modify]
theorem foldl_onCan_rest {f : CanSt → CanSt} (ls : List Nat) (d : Dev) : ∃ cs : List CanSt, ls.foldl (fun d ch => d.onCan ch f) d = { d with can := cs } ∧
    cs.length = d.can.length := by
  induction ls generalizing d with
  | nil => exact ⟨_, rfl, rfl⟩
  | cons k r ih =>
    obtain ⟨cs, is, len⟩ := ih (d.onCan k f)
    exact ⟨cs, is, len.trans (List.length_modify ..)⟩

/-- The channels after the bits that their hardware sets in the register clock of a write. -/
def raceChannels (r : Race) (d : Dev) : Dev :=
  r.hpLost.foldl (fun d ch => d.onCan ch (fun c => { c with hpLost := true })) (r.rxOvf.foldl (fun d ch => d.onCan ch (fun c => { c with rxOvf := true })) d)
theorem raceOver_eq (was : Word) (r : Race) (d : Dev) : raceOver was r d = keepDoor was r.door (raceChannels r d) := rfl
theorem raceChannels_sets (r : Race) (d : Dev) : (∀ ch ∈ r.rxOvf, ch < d.can.length → ((raceChannels r d).chan ch).rxOvf = true) ∧
    (∀ ch ∈ r.hpLost, ch < d.can.length → ((raceChannels r d).chan ch).hpLost = true) ∧ ∃ cs : List CanSt, raceChannels r d = { d with can := cs } := by
  unfold raceChannels
  obtain ⟨cs, first, len⟩ := foldl_onCan_rest (f := fun c => { c with rxOvf := true }) r.rxOvf d
  refine ⟨fun ch in_ inside => ?_, fun ch in_ inside => ?_, ?_⟩
  · exact foldl_onCan_keeps (P := fun c => c.rxOvf = true) (f := fun c => { c with hpLost := true }) (fun _ h => h) _ _
      (foldl_onCan_sets (P := fun c => c.rxOvf = true) (f := fun c => { c with rxOvf := true }) (fun _ => rfl) in_ inside)
  · refine foldl_onCan_sets (P := fun c => c.hpLost = true) (f := fun c => { c with hpLost := true }) (fun _ => rfl) in_ ?_
    rw [first]
    exact len.symm ▸ inside
  · obtain ⟨cs', second, -⟩ := foldl_onCan_rest (f := fun c => { c with hpLost := true }) r.hpLost { d with can := cs }
    exact ⟨cs', by rw [first, second]⟩

/-- What happens in the register clock of a write (R10). -/
theorem raceOver_sets (was : Word) (r : Race) (d : Dev) : (∀ i, i < 27 → (raceOver was r d).host.door.getLsbD i = (r.door.getLsbD i || d.host.door.getLsbD i)) ∧
    (∀ ch ∈ r.rxOvf, ch < d.can.length → ((raceOver was r d).chan ch).rxOvf = true) ∧
    (∀ ch ∈ r.hpLost, ch < d.can.length → ((raceOver was r d).chan ch).hpLost = true) ∧
    ∃ (w : Word) (x : Option (Word × Nat)) (cs : List CanSt), raceOver was r d = { d with can := cs, host := { d.host with door := w, dgSent := x } } := by
  rw [raceOver_eq]
  obtain ⟨rx, hp, cs, channels⟩ := raceChannels_sets r d
  obtain ⟨⟨w, x, only⟩, bits⟩ := keepDoor_sets was r.door (raceChannels r d)
  rw [only] at bits ⊢
  refine ⟨fun i small => (bits i small).trans (by rw [channels]), rx, hp, w, x, cs, by rw [channels]⟩

/-! ### Writes -/

theorem writeCode_range (d : Dev) (sender : Nat) (ws : List HostWord) : writeCode d sender ws ≤ 5 := by
  unfold writeCode
  split_ifs <;> omega
theorem countCode_eq (d : Dev) {c : Nat} (low : 1 ≤ c) (high : c ≤ 5) : countCode d c = d.count (cMgmt (c - 1)) 1 := by
  unfold countCode Dev.countIf
  rw [if_pos (by simp [low, high])]
theorem hostWrite_refused {d : Dev} {sender : Nat} {ws : List HostWord} (bad : writeCode d sender ws ≠ 0) :
    hostWrite d sender ws = (d.count (cMgmt (writeCode d sender ws - 1)) 1, writeCode d sender ws) := by
  unfold hostWrite
  dsimp only
  rw [if_neg bad, countCode_eq d (by omega) (writeCode_range ..)]
/-- One word of the doorbell registers is accepted from the end of the load stage on (R369 to R371). -/
theorem writeCode_door {d : Dev} (opened : 5 ≤ d.boot.stage ∧ d.boot.stage < 0x81) (sender : Nat) (v : Word) {x : Nat} (door : x = 0x2004 ∨ x = 0x2008) :
    writeCode d sender [⟨x, v⟩] = 0 := by
  unfold writeCode
  rcases door with rfl | rfl <;>
    simp [badGo, isInCtrl, winReserved, wordDenied, inboxAt, isOutCtrl, wordBusy, wordFull] <;> omega

/-! ### What a write or a datagram does -/

theorem hostWrite_cut {s : State} (up : s.dev.winUp = true) {eth : Bool} {f : HostForm} (bad : f = .cut ∨ eth = true ∧ f = .opcode) (a : Nat) (ws : List Word) :
    exec (.hostWrite eth f a ws ⟨0, [], []⟩) s = .next { s with dev := s.dev.count (cMgmt (if eth then 10 else 9)) 1 } := by
  have malformed : (decide (f = .cut) || (eth && decide (f = .opcode))) = true := by
    rcases bad with rfl | ⟨rfl, rfl⟩ <;> rfl
  refine next_of_dev (((if_neg ?_).trans (if_pos malformed)).trans (raceOver_none ..))
  simp [up]
theorem hostWrite_whole {s : State} (up : s.dev.winUp = true) (eth : Bool) (a : Nat) (ws : List Word) (r : Race) :
    exec (.hostWrite eth .whole a ws r) s = .next { s with
      dev := let q := hostWrite s.dev (if eth then 2 else 1) (hostWords a ws)
             let d := raceOver s.dev.host.door r q.1
             if eth then d else d.onHost (fun h => { h with spi := flagN d.attn 7 + q.2 }) } := by
  refine next_of_dev ((if_neg ?_).trans (if_neg ?_))
  · simp [up]
  · simp
theorem hostWrite_opcode {s : State} (up : s.dev.winUp = true) (a : Nat) (ws : List Word) :
    exec (.hostWrite false .opcode a ws ⟨0, [], []⟩) s = .next { s with
      dev := (s.dev.count (cMgmt 3) 1).onHost (fun h => { h with spi := flagN (s.dev.count (cMgmt 3) 1).attn 7 + 4 }) } := by
  refine next_of_dev (((if_neg ?_).trans (if_neg ?_)).trans ?_)
  · simp [up]
  · simp
  · rw [if_pos rfl, countCode_eq s.dev (by omega) (by omega)]
    dsimp only
    rw [raceOver_none]
    rfl
theorem flagN_mod (b : Bool) {c : Nat} (small : c < 128) : (flagN b 7 + c) % 128 = c := by
  cases b
  · show (0 + c) % 128 = c
    omega
  · show (128 + c) % 128 = c
    omega
/-- One word of a writable register. -/
theorem hostWrite_word {d : Dev} {x : Nat} (opened : 5 ≤ d.boot.stage ∧ d.boot.stage < 0x81) (door : x = 0x2004 ∨ x = 0x2008) (v : Word) :
    hostWrite d 1 (hostWords x [v]) = (applyWord 1 d ⟨x, v⟩, 0) := by
  show (if writeCode d 1 [⟨x, v⟩] = 0 then _ else _) = _
  rw [if_pos (writeCode_door opened 1 v door)]
  rfl
theorem readWords_one {d : Dev} {x : Nat} (plain : 0x20 ≤ x) (below : x < 0x3000) : readWords d x 1 = (d, [winRead d x]) := by
  have one : readWord d x = (d, winRead d x) := by
    unfold readWord
    dsimp only
    rw [if_neg (by omega), if_neg (by simp; omega)]
  show ((readWords (readWord d x).1 (x + 4) 0).1, (readWord d x).2 :: _) = _
  rw [one]
  rfl
/-- One readable word of the window (R374). -/
theorem udpRun_read {d : Dev} {g : Datagram} (opened : 5 ≤ d.boot.stage ∧ d.boot.stage < 0x81) (read : g.op = 1) (one : g.count = 1) (plain : 0x20 ≤ g.addr)
    (below : g.addr < 0x3000) : udpRun d g = (d, ⟨g.port, g.seq, 0x81, g.addr, 0, d.attn, [winRead d g.addr]⟩) := by
  unfold udpRun
  rw [if_pos read, if_neg (by simp; omega), one, readWords_one plain below]
theorem door_cleared (w v : Word) {i : Nat} (small : i < 27) : (w &&& ~~~v).getLsbD i = (w.getLsbD i && !v.getLsbD i) := by
  rw [BitVec.getLsbD_and, BitVec.getLsbD_not, decide_eq_true (by omega : i < 32), Bool.true_and]

end Sys2Proof.Machine

namespace Sys2Proof
open Machine

/-- Settles O51: what the window refuses is a count and an outcome code, what it accepts one applied word, and a raced clear is seen bit by bit. -/
theorem hostWindow : Obligations.HostWindow := by
  intro s up
  dsimp only
  refine ⟨?_, ?_, ?_, ?_, ?_, ?_, ?_, ?_, ?_, ?_, ?_, ?_, ?_, ?_⟩
  · intro eth f a ws bad
    exact does_of_dev (hostWrite_cut up bad a ws) ⟨s.dev.count_counted _, rfl, rfl, rfl, rfl, ⟨rfl, rfl, rfl, rfl, rfl, rfl, rfl, rfl, rfl, rfl, rfl, rfl, rfl⟩⟩
  · intro a ws
    exact does_of_dev (hostWrite_opcode up a ws) ⟨Dev.counted_of_cnt (x := s.dev) rfl rfl, flagN_mod _ (by omega : 4 < 128), rfl, rfl, rfl, rfl,
      ⟨rfl, rfl, rfl, rfl, rfl, rfl, rfl, rfl, rfl, rfl, rfl, rfl, rfl⟩⟩
  · intro eth a ws c refused bad
    subst refused
    have range := writeCode_range s.dev (if eth then 2 else 1) (hostWords a ws)
    refine does_of_dev (hostWrite_whole up eth a ws _) ?_
    rw [hostWrite_refused bad]
    generalize writeCode s.dev (if eth then 2 else 1) (hostWords a ws) = c at range
    dsimp only
    rw [raceOver_none]
    cases eth
    · exact ⟨Dev.counted_of_cnt (x := s.dev) rfl rfl, fun _ => flagN_mod _ (by omega : c < 128), rfl, rfl, rfl, rfl,
        ⟨rfl, rfl, rfl, rfl, rfl, rfl, rfl, rfl, rfl, rfl, rfl, rfl, rfl⟩⟩
    · exact ⟨s.dev.count_counted _, nofun, rfl, rfl, rfl, rfl, ⟨rfl, rfl, rfl, rfl, rfl, rfl, rfl, rfl, rfl, rfl, rfl, rfl, rfl⟩⟩
  · intro v opened
    refine does_of_dev (hostWrite_whole up false 0x2008 [v] _) ?_
    dsimp only
    simp only [Bool.false_eq_true, if_false]
    rw [hostWrite_word opened (.inr rfl)]
    dsimp only
    rw [raceOver_none]
    refine ⟨rfl, rfl, ?_, rfl, ⟨rfl, rfl, rfl, rfl, rfl, rfl, rfl, rfl, rfl, rfl, rfl, rfl, rfl⟩⟩
    show flagN ((s.dev.host.door &&& v) != 0) 7 + 0 = _
    by_cases none_ : s.dev.host.door &&& v = 0
    · rw [if_pos none_, none_]
      rfl
    · rw [if_neg none_, bne_iff_ne.mpr none_]
      rfl
  · intro v r opened
    refine does_of_dev (hostWrite_whole up false 0x2004 [v] r) ?_
    dsimp only
    simp only [Bool.false_eq_true, if_false]
    rw [hostWrite_word opened (.inl rfl)]
    dsimp only
    obtain ⟨bits, rx, hp, w, x, cs, only⟩ := raceOver_sets s.dev.host.door r (applyWord 1 s.dev ⟨0x2004, v⟩)
    refine ⟨fun i small => (bits i small).trans (congrArg _ (door_cleared _ v small)), rx, hp, ?_⟩
    rw [only]
    exact ⟨rfl, rfl, rfl, rfl⟩
  · intro g bad
    refine does_of_dev (next_of_dev ((if_neg (by simp [up])).trans (if_pos (by rw [bad]; rfl)))) ?_
    exact ⟨s.dev.count_counted _, rfl, rfl, ⟨rfl, rfl, rfl, rfl, rfl, rfl, rfl, rfl, rfl, rfl, rfl, rfl, rfl⟩⟩
  · intro g u good known
    have meaning : exec (.udpRequest g) s = .next { s with dev := (s.dev.count (cMgmt 11) 1).onHost (fun h => { h with answer := some u }) } := by
      refine next_of_dev (((if_neg (by simp [up])).trans (if_neg (by rw [good]; nofun))).trans ?_)
      rw [known]
    exact does_of_dev meaning ⟨rfl, Dev.counted_of_cnt (x := s.dev) rfl rfl, rfl, rfl, rfl,
      ⟨rfl, rfl, rfl, rfl, rfl, rfl, rfl, rfl, rfl, rfl, rfl, rfl, rfl⟩⟩
  · intro g good new read one plain below opened
    have meaning : exec (.udpRequest g) s = .next { s with dev := (udpRun s.dev g).1.onHost (fun h => { h with
        answer := some (udpRun s.dev g).2, udp := ((udpRun s.dev g).2 :: h.udp.filter (fun u => u.port != g.port)).take 4 }) } := by
      refine next_of_dev (((if_neg (by simp [up])).trans (if_neg (by rw [good]; nofun))).trans ?_)
      rw [new]
    refine does_of_dev meaning ?_
    rw [udpRun_read opened read one plain below]
    exact ⟨rfl, rfl, rfl, ⟨rfl, rfl, rfl, rfl, rfl, rfl, rfl, rfl, rfl, rfl, rfl, rfl, rfl⟩⟩
  · exact next_of_dev (if_pos up)
  · intro v again
    refine does_of_dev (next_of_dev (if_neg (by simp [up]))) ?_
    obtain ⟨⟨w, x, only⟩, bits⟩ := keepDoor_sets s.dev.host.door again (s.dev.onHost (fun h => { h with door := h.door &&& ~~~v }))
    refine ⟨fun i small => (bits i small).trans (congrArg _ (door_cleared _ v small)), ?_⟩
    rw [only]
    exact ⟨rfl, rfl, rfl, ⟨rfl, rfl, rfl, rfl, rfl, rfl, rfl, rfl, rfl, rfl, rfl, rfl, rfl⟩⟩
  · intro w t sent attn
    have meaning : exec .doorbellRepeat s = .next { s with
        dev := (s.dev.toClk (t + 10 * msClk)).onHost (fun h => { h with dgSent := some (h.door, (s.dev.toClk (t + 10 * msClk)).clk) }) } := by
      refine next_of_dev ?_
      dsimp only
      rw [sent]
      exact if_pos (by rw [up, attn]; rfl)
    refine does_of_dev meaning ⟨rfl, ?_, rfl, rfl, rfl⟩
    show t + 10 * msClk ≤ (s.dev.toClk (t + 10 * msClk)).clk
    rw [Dev.toClk_clk]
    exact le_max_right ..
  · intro silent
    refine next_of_dev ?_
    dsimp only
    rcases sent : s.dev.host.dgSent with _ | ⟨w, t⟩
    · rfl
    · have attn := silent.resolve_left (by rw [sent]; nofun)
      exact if_neg (by rw [attn, Bool.and_false]; nofun)
  · intro t ws rest waits
    have meaning : exec .eventExpiry s = .next { s with
        dev := (((s.dev.toClk (t + 10 * msClk)).onHost (fun h => { h with events := rest })).count (cMgmt 15) 1).ring 25 } := by
      refine next_of_dev ?_
      dsimp only
      rw [waits]
    refine does_of_dev meaning ⟨rfl, Dev.counted_of_cnt (x := (s.dev.toClk (t + 10 * msClk)).onHost (fun h => { h with events := rest })) rfl rfl,
      Dev.ring_set _ (by omega), ?_, rfl, rfl, rfl⟩
    show t + 10 * msClk ≤ (s.dev.toClk (t + 10 * msClk)).clk
    rw [Dev.toClk_clk]
    exact le_max_right ..
  · intro none_
    refine next_of_dev ?_
    dsimp only
    rw [none_]

end Sys2Proof
end

section
/-! SUPPORT. Mailboxes: GO, ACK, relays, drains and completions (R34, R69, R376 to R382, R389, R392, R395). -/

namespace Sys2Proof.Machine
open Sys2Proof

/-! ### Inbound mailboxes -/

/-- d' is d with mailbox m become b, the others as in d. -/
structure Dev.InBecomes (d : Dev) (m : Nat) (b : InBox) (d' : Dev) : Prop where
  eq : ∃ l : List InBox, d' = { d with host := { d.host with inb := l } } ∧ l.length = d.host.inb.length
  here : d'.inb m = b
  others : ∀ k : Nat, k ≠ m → d'.inb k = d.inb k

namespace Dev.InBecomes
variable {d d' : Dev} {m : Nat} {b : InBox}

theorem refl (d : Dev) (m : Nat) : d.InBecomes m (d.inb m) d := ⟨⟨_, rfl, rfl⟩, rfl, fun _ _ => rfl⟩
theorem onIn (h : d.InBecomes m b d') (inside : m < d.host.inb.length) (f : InBox → InBox) : d.InBecomes m (f b) (d'.onIn m f) := by
  obtain ⟨⟨l, rfl, len⟩, here, others⟩ := h
  refine ⟨⟨_, rfl, (List.length_modify ..).trans len⟩, ?_, fun k other => ?_⟩
  · exact (modAt_getD (len.symm ▸ inside) f _).trans (congrArg f here)
  · exact (modAt_getD_ne _ f _ other).trans (others k other)
theorem clk (h : d.InBecomes m b d') : d'.clk = d.clk := by
  obtain ⟨⟨l, rfl, -⟩, -, -⟩ := h
  rfl
theorem cnt (h : d.InBecomes m b d') : d'.host.cnt = d.host.cnt := by
  obtain ⟨⟨l, rfl, -⟩, -, -⟩ := h
  rfl
theorem quiet (h : d.InBecomes m b d') : d.Quiet d' := by
  obtain ⟨⟨l, rfl, -⟩, -, -⟩ := h
  exact ⟨rfl, rfl, rfl, rfl, rfl, rfl, rfl, rfl, rfl, rfl, rfl, rfl, rfl⟩

end Dev.InBecomes

/-- The data words of a write to mailbox m. -/
def dataWords (m n : Nat) (words : List Word) : List HostWord := (List.range n).map (fun i => HostWord.mk (0x1000 + 64 * m + 4 * i) (words.getD i 0))
/-- The word that sets GO with LEN. -/
def goWord (m len : Nat) : HostWord := ⟨0x1400 + 4 * m, BitVec.ofNat 32 (2 ^ 31 + len % 32)⟩

section
variable {d : Dev} {m sender len : Nat}

theorem applyWord_data (small : m < 16) {i : Nat} (inside : i < 16) (v : Word) :
    applyWord sender d ⟨0x1000 + 64 * m + 4 * i, v⟩ = putInWord d m i sender v := by
  unfold applyWord
  dsimp only
  rw [if_pos (by simp; omega), show (0x1000 + 64 * m + 4 * i - 0x1000) / 64 = m by omega, show (0x1000 + 64 * m + 4 * i - 0x1000) / 4 % 16 = i by omega]
theorem goWord_bit (m len : Nat) : (goWord m len).data.getLsbD 31 = true := by
  rw [goWord, BitVec.getLsbD_ofNat, Nat.testBit, Nat.shiftRight_eq_div_pow, show (2 ^ 31 + len % 32) / 2 ^ 31 = 1 by omega]
  rfl
theorem goWord_len (small : len ≤ 16) : bits (goWord m len).data.toNat 4 0 = len := by
  rw [bits, goWord, BitVec.toNat_ofNat]
  simp only [Nat.pow_zero, Nat.div_one]
  norm_num
  omega
theorem applyWord_go (small : m < 16) (low : len ≤ 16) : applyWord sender d (goWord m len) = goInbox d m sender len := by
  have ctrl : isInCtrl (goWord m len).addr = true := by
    simp [isInCtrl, goWord]
    omega
  unfold applyWord
  dsimp only
  rw [if_neg (by simp [goWord]), if_pos ctrl]
  unfold putInCtrl
  dsimp only
  rw [goWord_bit, goWord_len low, if_pos rfl, goWord, show (0x1400 + 4 * m - 0x1400) / 4 = m by omega]

/-- The data words stand in the mailbox; the rest of what it held stays (R378). -/
theorem foldl_dataWords (small : m < 16) (inside : m < d.host.inb.length) (full : (d.inb m).data.length = 16) (words : List Word) {n : Nat} (fits : n ≤ 16) :
    ∃ (data : List Word) (c : Option (Nat × Nat)), d.InBecomes m { d.inb m with data := data, claim := c } ((dataWords m n words).foldl (applyWord sender) d) ∧
      data.length = 16 ∧ ∀ i : Nat, data.getD i 0 = if i < n then words.getD i 0 else (d.inb m).data.getD i 0 := by
  induction n with
  | zero => exact ⟨(d.inb m).data, (d.inb m).claim, .refl d m, full, fun i => (if_neg (by omega)).symm⟩
  | succ n ih =>
    obtain ⟨data, c, becomes, len, value⟩ := ih (by omega)
    rw [dataWords, List.range_succ, List.map_append, List.foldl_append]
    change ∃ (data : List Word) (c : Option (Nat × Nat)), d.InBecomes m { d.inb m with data := data, claim := c }
      (applyWord sender ((dataWords m n words).foldl (applyWord sender) d) ⟨0x1000 + 64 * m + 4 * n, words.getD n 0⟩) ∧ _
    rw [applyWord_data small (by omega)]
    refine ⟨data.set n (words.getD n 0), some (sender, ((dataWords m n words).foldl (applyWord sender) d).clk),
      becomes.onIn inside (fun b => { b with data := b.data.set n (words.getD n 0), claim := some (sender, ((dataWords m n words).foldl (applyWord sender) d).clk) }),
      (List.length_set ..).trans len, fun i => ?_⟩
    rw [List.getD_eq_getElem?_getD, List.getElem?_set]
    by_cases here : n = i
    · subst here
      rw [if_pos rfl, if_pos (by omega), if_pos (by omega)]
      rfl
    · rw [if_neg here, ← List.getD_eq_getElem?_getD, value]
      by_cases before : i < n
      · rw [if_pos before, if_pos (by omega)]
      · rw [if_neg before, if_neg (by omega)]

/-- Data and GO as one write: the mailbox is FULL under its sender's ID (R377). -/
theorem foldl_go (small : m < 16) (inside : m < d.host.inb.length) (full : (d.inb m).data.length = 16) (low : len ≤ 16) {words : List Word} (fits : words.length ≤ 16) :
    ∃ data : List Word, d.InBecomes m { data := data, len := len, full := true, sender := sender, claim := none }
        ((dataWords m words.length words ++ [goWord m len]).foldl (applyWord sender) d) ∧
      (∀ i : Nat, 0 < i → data.getD i 0 = if i < words.length then words.getD i 0 else (d.inb m).data.getD i 0) ∧
      data.getD 0 0 = BitVec.ofNat 32 (sender * 2 ^ 24 + (words.headD ((d.inb m).data.getD 0 0)).toNat % 2 ^ 24) := by
  obtain ⟨data, c, becomes, len_, value⟩ := foldl_dataWords (sender := sender) small inside full words fits
  rw [List.foldl_append]
  change ∃ data : List Word, d.InBecomes m _ (applyWord sender ((dataWords m words.length words).foldl (applyWord sender) d) (goWord m len)) ∧ _
  rw [applyWord_go small low]
  refine ⟨_, becomes.onIn inside (fun b => { b with data := b.data.set 0 (BitVec.ofNat 32 (sender * 2 ^ 24 + (b.data.getD 0 0).toNat % 2 ^ 24)), len := len, full := true, sender := sender, claim := none }), fun i later => ?_, ?_⟩
  · rw [← value i, List.getD_eq_getElem?_getD, List.getElem?_set_ne (by omega), ← List.getD_eq_getElem?_getD]
  · rw [List.getD_eq_getElem?_getD, List.getElem?_set_self (show 0 < data.length by omega)]
    change BitVec.ofNat 32 (sender * 2 ^ 24 + (data.getD 0 0).toNat % 2 ^ 24) = _
    rw [value 0]
    cases words <;> rfl

/-! ### What such a write is refused for -/

theorem any_const {α : Type} {l : List α} {f : α → Bool} {c : Bool} (some_ : l ≠ []) (same : ∀ x ∈ l, f x = c) : l.any f = c := by
  cases c with
  | false => exact List.any_eq_false.mpr fun x in_ => by rw [same x in_]; nofun
  | true =>
    obtain ⟨x, r, rfl⟩ := List.exists_cons_of_ne_nil some_
    rw [List.any_cons, same x List.mem_cons_self, Bool.true_or]

/-- A word of the data or the control word of mailbox m that can be written. -/
structure WritesInbox (w : HostWord) (m : Nat) : Prop where
  aligned : w.addr % 4 = 0
  goes : badGo w = false
  exists_ : winReserved w.addr = false
  box : inboxAt w.addr = some m
  inbound : isOutCtrl w.addr = false

/-- The order of the refusals of a write to one inbound mailbox (Table 20-4). -/
theorem writeCode_inbox (opened : 5 ≤ d.boot.stage ∧ d.boot.stage < 0x81) {ws : List HostWord} (some_ : ws ≠ []) (few : ws.length ≤ 256)
    (all : ∀ w ∈ ws, WritesInbox w m) : writeCode d sender ws = if d.maySend m sender = false then 2
      else if (match (d.inb m).claim with | some c => c.1 == sender | none => true) = false then 3 else if (d.inb m).full = true then 1 else 0 := by
  have aligned : ws.any (fun w => w.addr % 4 != 0) = false := any_const some_ fun w in_ => by rw [(all w in_).aligned]; rfl
  have goes : ws.any badGo = false := any_const some_ fun w in_ => (all w in_).goes
  have exists_ : ws.any (fun w => winReserved w.addr) = false := any_const some_ fun w in_ => (all w in_).exists_
  have denied : ws.any (wordDenied d sender) = !d.maySend m sender := any_const some_ fun w in_ => by
    rw [wordDenied, (all w in_).box, (all w in_).inbound, Bool.false_and, Bool.false_and, Bool.or_false]
  have busy : ws.any (wordBusy d sender) = !(match (d.inb m).claim with | some c => c.1 == sender | none => true) := any_const some_ fun w in_ => by
    rw [wordBusy, (all w in_).box]
    dsimp only
    cases (d.inb m).claim <;> rfl
  have full : ws.any (wordFull d) = (d.inb m).full := any_const some_ fun w in_ => by rw [wordFull, (all w in_).box]
  unfold writeCode
  rw [if_neg (by simp; omega), aligned, goes, List.isEmpty_eq_false_iff.mpr some_, if_neg (by simp; omega), exists_, if_neg (by nofun), denied, busy, full]
  cases d.maySend m sender <;> cases (match (d.inb m).claim with | some c => c.1 == sender | none => true) <;> cases (d.inb m).full <;> rfl

theorem dataWords_writes (small : m < 16) {n : Nat} (fits : n ≤ 16) (words : List Word) : ∀ w ∈ dataWords m n words, WritesInbox w m := by
  intro w in_
  obtain ⟨i, inside, rfl⟩ := List.mem_map.mp in_
  have below : i < 16 := lt_of_lt_of_le (List.mem_range.mp inside) fits
  have ctrl : isInCtrl (0x1000 + 64 * m + 4 * i) = false := by simp [isInCtrl]; omega
  refine ⟨?_, ?_, ?_, ?_, ?_⟩
  · show (0x1000 + 64 * m + 4 * i) % 4 = 0
    omega
  · simp [badGo, ctrl]
  · exact if_pos (show 0x1000 + 64 * m + 4 * i < 0x1480 by omega)
  · refine (if_pos (by simp; omega)).trans (congrArg some ?_)
    show (0x1000 + 64 * m + 4 * i - 0x1000) / 64 = m
    omega
  · simp [isOutCtrl]
    omega
theorem goWord_writes (small : m < 16) (low : 1 ≤ len) (high : len ≤ 16) : WritesInbox (goWord m len) m := by
  refine ⟨?_, ?_, ?_, ?_, ?_⟩
  · show (0x1400 + 4 * m) % 4 = 0
    omega
  · rw [badGo, goWord_len high, decide_eq_false (by omega), Bool.and_false]
  · exact if_pos (show 0x1400 + 4 * m < 0x1480 by omega)
  · refine (if_neg (by simp [goWord])).trans ((if_pos (by simp [goWord]; omega)).trans (congrArg some ?_))
    show (0x1400 + 4 * m - 0x1400) / 4 = m
    omega
  · exact decide_eq_false (show ¬ (0x1C00 ≤ 0x1400 + 4 * m ∧ 0x1400 + 4 * m < 0x1C40) by omega)

/-- Data and GO as one write. -/
theorem writeAndGo_eq (opened : 5 ≤ d.boot.stage ∧ d.boot.stage < 0x81) (small : m < 16) (low : 1 ≤ len) (high : len ≤ 16) {words : List Word} (fits : words.length ≤ 16) :
    writeAndGo d m sender len words = if d.maySend m sender = false then d.count (cMgmt 1) 1
      else if (match (d.inb m).claim with | some c => c.1 == sender | none => true) = false then d.count (cMgmt 2) 1
      else if (d.inb m).full = true then d.count (cMgmt 0) 1
      else (dataWords m words.length words ++ [goWord m len]).foldl (applyWord sender) d := by
  have all : ∀ w ∈ dataWords m words.length words ++ [goWord m len], WritesInbox w m := fun w in_ =>
    (List.mem_append.mp in_).elim (dataWords_writes small fits words w) fun h => List.mem_singleton.mp h ▸ goWord_writes small low high
  have count : (dataWords m words.length words ++ [goWord m len]).length ≤ 256 := by simp [dataWords]; omega
  have code := writeCode_inbox (d := d) (sender := sender) opened (by simp) count all
  have shape : writeAndGo d m sender len words = if writeCode d sender (dataWords m words.length words ++ [goWord m len]) = 0
      then (dataWords m words.length words ++ [goWord m len]).foldl (applyWord sender) d
      else countCode d (writeCode d sender (dataWords m words.length words ++ [goWord m len])) := rfl
  rw [shape, code]
  generalize (dataWords m words.length words ++ [goWord m len]).foldl (applyWord sender) d = e
  cases d.maySend m sender
  · rfl
  cases (match (d.inb m).claim with | some c => c.1 == sender | none => true)
  · rfl
  cases (d.inb m).full
  · rfl
  · rfl

end

/-! ### Outbound mailboxes -/

/-- The service frames are the pair's alone. -/
theorem svcLoop_pair (n lim : Nat) (d : Dev) : ∃ p : PairSt, svcLoop n lim d = { d with pair := p } := by
  induction n generalizing d with
  | zero => exact ⟨d.pair, rfl⟩
  | succ n ih =>
    unfold svcLoop
    split
    · split_ifs
      · exact ih _
      · exact ⟨d.pair, rfl⟩
    · exact ⟨d.pair, rfl⟩
theorem Dev.svcGo_pair (d : Dev) (lim : Nat) : ∃ p : PairSt, d.svcGo lim = { d with pair := p } := by
  unfold Dev.svcGo
  split_ifs
  · exact svcLoop_pair ..
  · exact ⟨_, rfl⟩
theorem Dev.handSvc_pair (d : Dev) (b : SvcBody) : ∃ p : PairSt, d.handSvc b = { d with pair := p } :=
  (d.onPair (fun p => { p with svcq := p.svcq ++ [(d.gt, b)] })).svcGo_pair _
theorem Dev.handSvc_alone {d : Dev} (alone : d.pairUp = false) (b : SvcBody) : d.handSvc b = { d with pair := { d.pair with svcq := [] } } :=
  if_neg (by
    show ¬ d.pairUp = true
    rw [alone]
    nofun)

/-- An ACK is denied to readers outside the mask alone (R382). -/
theorem writeCode_ack {d : Dev} (opened : 5 ≤ d.boot.stage ∧ d.boot.stage < 0x81) {m : Nat} (small : m < 16) (reader : Nat) :
    writeCode d reader [⟨0x1C00 + 4 * m, 0x80000000⟩] = if (outMask m).testBit (senderBit reader) = true then 0 else 2 := by
  have box : inboxAt (0x1C00 + 4 * m) = none := by
    unfold inboxAt
    rw [if_neg (by simp; omega), if_neg (by simp; omega)]
  have reserved : winReserved (0x1C00 + 4 * m) = false := by
    unfold winReserved
    rw [if_neg (by omega), if_neg (by omega), if_pos (by omega)]
  have inCtrl : isInCtrl (0x1C00 + 4 * m) = false := by simp [isInCtrl]; omega
  have out : isOutCtrl (0x1C00 + 4 * m) = true := by simp [isOutCtrl]; omega
  have bit : (0x80000000 : Word).getLsbD 31 = true := rfl
  unfold writeCode
  rw [if_neg (by simp; omega), if_neg (by simp [badGo, inCtrl])]
  simp only [List.any_cons, List.any_nil, Bool.or_false, reserved, Bool.false_eq_true, if_false, wordDenied, wordBusy, wordFull, box, out, bit, Bool.true_and,
    Bool.false_or, show (0x1C00 + 4 * m - 0x1C00) / 4 = m by omega]
  cases (outMask m).testBit (senderBit reader) <;> rfl

theorem globalDoor_inb (d : Dev) : (globalDoor d).host.inb = d.host.inb := by
  unfold globalDoor
  split_ifs <;> rfl
theorem Dev.event_inb (d : Dev) (cls : Nat) (v : Word) : (d.event cls v).host.inb = d.host.inb := by
  unfold Dev.event
  dsimp only
  split_ifs <;> rfl
theorem noteDegraded_inb (d : Dev) : (noteDegraded d).host.inb = d.host.inb := by
  unfold noteDegraded
  dsimp only
  split_ifs
  · rfl
  · rw [globalDoor_inb, Dev.event_inb, Dev.note_host]
theorem Dev.liveChanged_inb (d : Dev) : d.liveChanged.host.inb = d.host.inb := (noteDegraded_inb _).trans (Dev.event_inb ..)
/-- A lane that goes out leaves the inbound mailboxes. -/
theorem Dev.takeOut_inb (d : Dev) (l : Lane) (c e u : Nat) : (d.takeOut l c e u).host.inb = d.host.inb := by
  unfold Dev.takeOut
  dsimp only
  split_ifs <;> simp [Dev.liveChanged_inb, Dev.count, Dev.putWin]

/-! ### The commands -/

section
variable {s : State} {m sender len : Nat} {words : List Word}

theorem inboundGo_sent (up : s.dev.winUp = true) (small : m < 16) (fits : words.length ≤ 16)
    (sends : ∀ l : Lane, senderLane sender = some l → (s.dev.lane l).seq.lmcDown = false ∧ s.dev.hubQueueFull l = false) :
    exec (.inboundGo m sender len words) s = .next { s with dev := writeAndGo s.dev m sender len words } := by
  refine next_of_dev ((if_neg (by simp [up]; omega)).trans ?_)
  cases lane : senderLane sender with
  | none => rfl
  | some l =>
    obtain ⟨runs, room⟩ := sends l lane
    exact if_neg (by simp [runs, room])
theorem inboundGo_stopped (up : s.dev.winUp = true) (small : m < 16) (fits : words.length ≤ 16) {l : Lane} (lane : senderLane sender = some l)
    (stops : (s.dev.lane l).seq.lmcDown = true ∨ s.dev.hubQueueFull l = true) :
    exec (.inboundGo m sender len words) s = .next { s with dev := s.dev.takeOutIf (s.dev.runs l && !(s.dev.lane l).seq.lmcDown) l 5 } := by
  refine next_of_dev ((if_neg (by simp [up]; omega)).trans ?_)
  rw [lane]
  exact if_pos (by simpa using stops)

/-- GO from a sender that reaches the hub (R377, Table 20-4). -/
theorem inboundGo_does (up : s.dev.winUp = true) (sixteen : s.dev.host.inb.length = 16) (opened : 5 ≤ s.dev.boot.stage ∧ s.dev.boot.stage < 0x81) (small : m < 16)
    (low : 1 ≤ len) (high : len ≤ 16) (fits : words.length ≤ 16) (full : (s.dev.inb m).data.length = 16)
    (sends : ∀ l : Lane, senderLane sender = some l → (s.dev.lane l).seq.lmcDown = false ∧ s.dev.hubQueueFull l = false) :
    let b := s.dev.inb m
    let free := match b.claim with | some c => c.1 == sender | none => true
    let same := fun (d : Dev) => d.host.inb = s.dev.host.inb ∧ d.host.outb = s.dev.host.outb ∧ s.dev.Quiet d
    (s.dev.maySend m sender = true → free = true → b.full = false → Does (.inboundGo m sender len words) s (fun d =>
      (d.inb m).full = true ∧ (d.inb m).len = len ∧ (d.inb m).sender = sender ∧ (d.inb m).claim = none ∧
      (∀ i : Nat, 0 < i → (d.inb m).data.getD i 0 = if i < words.length then words.getD i 0 else b.data.getD i 0) ∧
      (d.inb m).data.getD 0 0 = BitVec.ofNat 32 (sender * 2 ^ 24 + (words.headD (b.data.getD 0 0)).toNat % 2 ^ 24) ∧
      (∀ k : Nat, k ≠ m → d.inb k = s.dev.inb k) ∧ d.host.cnt = s.dev.host.cnt ∧ s.dev.Quiet d)) ∧
    (s.dev.maySend m sender = false → Does (.inboundGo m sender len words) s (fun d => s.dev.Counted d (cMgmt 1) ∧ same d)) ∧
    (s.dev.maySend m sender = true → free = false → Does (.inboundGo m sender len words) s (fun d => s.dev.Counted d (cMgmt 2) ∧ same d)) ∧
    (s.dev.maySend m sender = true → free = true → b.full = true → Does (.inboundGo m sender len words) s (fun d =>
      s.dev.Counted d (cMgmt 0) ∧ same d)) := by
  have meaning := (inboundGo_sent (len := len) up small fits sends).trans (next_of_dev (writeAndGo_eq opened small low high fits))
  have refused (a : Nat) : s.dev.Counted (s.dev.count a 1) a ∧ (s.dev.count a 1).host.inb = s.dev.host.inb ∧ (s.dev.count a 1).host.outb = s.dev.host.outb ∧
      s.dev.Quiet (s.dev.count a 1) := ⟨s.dev.count_counted a, rfl, rfl, ⟨rfl, rfl, rfl, rfl, rfl, rfl, rfl, rfl, rfl, rfl, rfl, rfl, rfl⟩⟩
  dsimp only
  refine ⟨fun may free empty => ?_, fun denied => ?_, fun may busy => ?_, fun may free filled => ?_⟩
  · rw [if_neg (by rw [may]; nofun), if_neg (by rw [free]; nofun), if_neg (by rw [empty]; nofun)] at meaning
    obtain ⟨data, becomes, rest, first⟩ := foldl_go (sender := sender) small (by omega) full high fits
    refine does_of_dev meaning ?_
    rw [becomes.here]
    exact ⟨rfl, rfl, rfl, rfl, rest, first, becomes.others, becomes.cnt, becomes.quiet⟩
  · rw [if_pos denied] at meaning
    exact does_of_dev meaning (refused _)
  · rw [if_neg (by rw [may]; nofun), if_pos busy] at meaning
    exact does_of_dev meaning (refused _)
  · rw [if_neg (by rw [may]; nofun), if_neg (by rw [free]; nofun), if_pos filled] at meaning
    exact does_of_dev meaning (refused _)

/-- A core that has stopped sends nothing; one whose queue to the hub is full goes out (R34, R69). -/
theorem inboundGo_lane (up : s.dev.winUp = true) (small : m < 16) (fits : words.length ≤ 16) {l : Lane} (lane : senderLane sender = some l) :
    ((s.dev.lane l).seq.lmcDown = true → exec (.inboundGo m sender len words) s = .next s) ∧
    ((s.dev.lane l).seq.lmcDown = false → s.dev.hubQueueFull l = true → s.dev.runs l = true → Does (.inboundGo m sender len words) s (fun d =>
      d.phase l = .out ∧ (d.lane l).seq.cause = 5 ∧ d.host.inb = s.dev.host.inb ∧ (∀ k : Lane, k ≠ l → d.lane k = s.dev.lane k))) := by
  refine ⟨fun down => ?_, fun reached full runs => ?_⟩
  · refine (inboundGo_stopped up small fits lane (.inl down)).trans (next_of_dev ?_)
    rw [down, Bool.not_true, Bool.and_false]
    rfl
  · refine does_of_dev ((inboundGo_stopped up small fits lane (.inr full)).trans (next_of_dev (if_pos (by rw [runs, reached]; rfl)))) ?_
    have out := s.dev.takeOut_lane l 5 0 0 runs
    exact ⟨congrArg (·.seq.phase) out, congrArg (·.seq.cause) out, Dev.takeOut_inb .., fun k other => Dev.takeOut_lane_ne _ _ _ _ _ _ other⟩

/-- A claim ends one ms after its last word (R378). -/
theorem claimTimeout_does (up : s.dev.winUp = true) (inside : m < s.dev.host.inb.length) {c t : Nat} (claim : (s.dev.inb m).claim = some (c, t)) :
    Does (.claimTimeout m) s (fun d => d.inb m = { s.dev.inb m with claim := none } ∧ (∀ k : Nat, k ≠ m → d.inb k = s.dev.inb k) ∧ t + 640000 ≤ d.clk ∧
      s.dev.Counted d (cMgmt 12) ∧ d.lanes = s.dev.lanes) := by
  have meaning : exec (.claimTimeout m) s = .next { s with
      dev := ((s.dev.toClk (t + msClk)).onIn m (fun b => { b with claim := none })).count (cMgmt 12) 1 } := by
    refine next_of_dev ?_
    dsimp only
    rw [claim]
    exact if_pos up
  refine does_of_dev meaning ⟨modAt_getD inside _ _, fun k other => modAt_getD_ne _ _ _ other, ?_,
    Dev.counted_of_cnt (x := (s.dev.toClk (t + msClk)).onIn m (fun b => { b with claim := none })) rfl rfl, rfl⟩
  show t + msClk ≤ (s.dev.toClk (t + msClk)).clk
  rw [Dev.toClk_clk]
  exact le_max_right ..

end

/-! ### Acknowledged mailboxes -/

/-- What the hub does when it reads outbound 13 for the partner (R401). -/
def handedOver (d : Dev) (m reader : Nat) : Dev := if m = 13 && reader == 0x20 then d.handSvc (.mailbox 13 ((d.outb 13).data.take (d.outb 13).len)) else d

section
variable {s : State} {m reader : Nat}

theorem handedOver_pair (d : Dev) (m reader : Nat) : ∃ p : PairSt, handedOver d m reader = { d with pair := p } ∧ (¬ (m = 13 ∧ reader = 0x20) → p = d.pair) := by
  unfold handedOver
  by_cases hub : m = 13 ∧ reader = 0x20
  · obtain ⟨p, is⟩ := d.handSvc_pair (.mailbox 13 ((d.outb 13).data.take (d.outb 13).len))
    exact ⟨p, (if_pos (by simpa using hub)).trans is, fun none_ => absurd hub none_⟩
  · exact ⟨d.pair, if_neg (by simpa using hub), fun _ => rfl⟩

theorem outboundAck_eq (up : s.dev.winUp = true) (small : m < 15) (opened : 5 ≤ s.dev.boot.stage ∧ s.dev.boot.stage < 0x81) :
    exec (.outboundAck m reader) s = .next { s with
      dev := if (outMask m).testBit (senderBit reader) = true then ackOut (handedOver s.dev m reader) m else s.dev.count (cMgmt 1) 1 } := by
  refine next_of_dev ((if_neg (by simp [up]; omega)).trans ?_)
  have code := writeCode_ack opened (by omega : m < 16) reader
  show (if writeCode s.dev reader [⟨0x1C00 + 4 * m, 0x80000000⟩] = 0 then ackOut (handedOver s.dev m reader) m
    else countCode s.dev (writeCode s.dev reader [⟨0x1C00 + 4 * m, 0x80000000⟩])) = _
  rw [code]
  by_cases reads : (outMask m).testBit (senderBit reader) = true
  · rw [if_pos reads, if_pos reads, if_pos rfl]
  · rw [if_neg reads, if_neg reads]
    rfl
theorem ackOut_idle {d : Dev} (small : m < 15) (full : (d.outb m).full = true) (idle : d.host.replies.find? (fun r => r.1 == m) = none) :
    ackOut d m = d.onOut m (fun b => { b with full := false }) := by
  unfold ackOut
  rw [if_neg (by rw [full]; nofun)]
  dsimp only
  rw [if_neg (by omega), Dev.onOut, Dev.onHost_host, idle]
theorem ackOut_next {d : Dev} (small : m < 15) (full : (d.outb m).full = true) {r : Nat × List Word} (next : d.host.replies.find? (fun r => r.1 == m) = some r) :
    ackOut d m = ((d.onOut m (fun b => { b with full := false })).onHost (fun h => { h with replies := h.replies.erase r })).fillOut m r.2 := by
  unfold ackOut
  rw [if_neg (by rw [full]; nofun)]
  dsimp only
  rw [if_neg (by omega), Dev.onOut, Dev.onHost_host, next]

theorem ackOut_rest (d : Dev) (m : Nat) : (ackOut d m).pair = d.pair ∧ (ackOut d m).lanes = d.lanes := by
  unfold ackOut
  dsimp only
  split_ifs
  · exact ⟨rfl, rfl⟩
  · split <;> exact ⟨rfl, rfl⟩
  · split <;> exact ⟨rfl, rfl⟩
theorem handedOver_alone {d : Dev} (alone : d.pairUp = false) : handedOver d 13 0x20 = { d with pair := { d.pair with svcq := [] } } :=
  (if_pos rfl).trans (Dev.handSvc_alone alone _)

/-- ACK (R382, R401). -/
theorem outboundAck_does (up : s.dev.winUp = true) (sixteen : s.dev.host.outb.length = 16) (opened : 5 ≤ s.dev.boot.stage ∧ s.dev.boot.stage < 0x81) (small : m < 15)
    (full : (s.dev.outb m).full = true) :
    let h := s.dev.host
    let hub := m = 13 ∧ reader = 0x20
    ((outMask m).testBit (senderBit reader) = true → (∀ x ∈ h.replies, x.1 ≠ m) → Does (.outboundAck m reader) s (fun d =>
      d.outb m = { s.dev.outb m with full := false } ∧ (∀ k : Nat, k ≠ m → d.outb k = s.dev.outb k) ∧ d.host.replies = h.replies ∧
      (¬ hub → s.dev.Quiet d))) ∧
    (∀ ws : List Word, (outMask m).testBit (senderBit reader) = true → h.replies.find? (fun x => x.1 == m) = some (m, ws) →
      Does (.outboundAck m reader) s (fun d => (d.outb m).full = true ∧ (d.outb m).len = ws.length ∧ d.host.replies = h.replies.erase (m, ws) ∧
        d.host.door.getLsbD m = true ∧ (¬ hub → s.dev.Quiet d))) ∧
    (hub → s.dev.pairUp = false → Does (.outboundAck m reader) s (fun d => d.pair = { s.dev.pair with svcq := [] } ∧ d.lanes = s.dev.lanes)) ∧
    ((outMask m).testBit (senderBit reader) = false → Does (.outboundAck m reader) s (fun d => d.host.outb = h.outb ∧
      s.dev.Counted d (cMgmt 1) ∧ s.dev.Quiet d)) := by
  have meaning := outboundAck_eq (m := m) (reader := reader) up small opened
  obtain ⟨p, handed, kept⟩ := handedOver_pair s.dev m reader
  dsimp only
  refine ⟨fun reads idle => ?_, fun ws reads next => ?_, fun hub alone => ?_, fun denied => ?_⟩
  · have none_ : s.dev.host.replies.find? (fun r => r.1 == m) = none := List.find?_eq_none.mpr fun x in_ => by simpa using idle x in_
    rw [if_pos reads, ackOut_idle small (by rw [handed]; exact full) (by rw [handed]; exact none_), handed] at meaning
    refine does_of_dev meaning ⟨modAt_getD (by rw [sixteen]; omega) _ _, fun k other => modAt_getD_ne _ _ _ other, rfl, fun notHub => ?_⟩
    exact ⟨rfl, rfl, rfl, rfl, rfl, rfl, kept notHub, rfl, rfl, rfl, rfl, rfl, rfl⟩
  · rw [if_pos reads, ackOut_next small (by rw [handed]; exact full) (by rw [handed]; exact next), handed] at meaning
    have inside : m < (modAt s.dev.host.outb m (fun b => { b with full := false })).length := by rw [modAt, List.length_modify, sixteen]; omega
    have out : ((({ s.dev with pair := p }.onOut m (fun b => { b with full := false })).onHost (fun h => { h with replies := h.replies.erase (m, ws) })).fillOut m ws).outb m =
        { data := ws ++ List.replicate (16 - ws.length) 0, len := ws.length, full := true } := modAt_getD inside _ _
    refine does_of_dev meaning ⟨congrArg (·.full) out, congrArg (·.len) out, rfl, Dev.ring_set _ (by omega), fun notHub => ?_⟩
    exact ⟨rfl, rfl, rfl, rfl, rfl, rfl, kept notHub, rfl, rfl, rfl, rfl, rfl, rfl⟩
  · obtain ⟨rfl, rfl⟩ := hub
    have reads : (outMask 13).testBit (senderBit 0x20) = true := by decide
    obtain ⟨pair, lanes⟩ := ackOut_rest (handedOver s.dev 13 0x20) 13
    rw [handedOver_alone alone] at pair lanes meaning
    rw [if_pos reads] at meaning
    exact does_of_dev meaning ⟨pair, lanes⟩
  · rw [if_neg (by rw [denied]; nofun)] at meaning
    exact does_of_dev meaning ⟨rfl, s.dev.count_counted _, rfl, rfl, rfl, rfl, rfl, rfl, rfl, rfl, rfl, rfl, rfl, rfl, rfl⟩

end

/-! ### Relayed mailboxes -/

section
variable {s : State} {n : SvcIn} {words : List Word} {mb : Nat}

/-- A frame that counts (R328). -/
def Dev.svcSeen (d : Dev) (type : Nat) (seq : BitVec 16) : Dev := d.onPair (fun p => { p with svcRx := modAt p.svcRx (type - 1) (fun _ => some seq) })
theorem Dev.svcIn_counts {d : Dev} {type : Nat} (up : d.pairUp = true) (valid : n.ok = true) (new : d.pair.svcRx.getD (type - 1) none ≠ some n.seq) (f : Dev → Dev) :
    d.svcIn type n f = f (d.svcSeen type n.seq) := if_neg (by
  rw [up, valid, beq_false_of_ne new]
  nofun)
theorem Dev.svcIn_idle {d : Dev} {type : Nat} (idle : d.pairUp = false ∨ n.ok = false ∨ d.pair.svcRx.getD (type - 1) none = some n.seq) (f : Dev → Dev) :
    d.svcIn type n f = d := if_pos (by
  rcases idle with alone | bad | old
  · simp [alone]
  · simp [bad]
  · rw [old, beq_self_eq_true, Bool.or_true])

theorem relayedMailbox_does (up : s.dev.winUp = true) (sixteen : s.dev.host.inb.length = 16) (pair : s.dev.pairUp = true) (valid : n.ok = true)
    (new : s.dev.pair.svcRx.getD 2 none ≠ some n.seq) (some_ : words ≠ []) (fits : words.length ≤ 16) :
    (mb = 13 → (s.dev.inb 13).full = false → (s.dev.inb 13).claim = none → Does (.relayedMailbox n mb words) s (fun d => (d.inb 13).full = true ∧
      (d.inb 13).sender = 0x20 ∧ (d.inb 13).len = words.length ∧ (∀ k : Nat, k ≠ 13 → d.inb k = s.dev.inb k) ∧ d.host.cnt = s.dev.host.cnt ∧
      d.lanes = s.dev.lanes ∧ d.vot = s.dev.vot)) ∧
    (mb = 13 → ((s.dev.inb 13).full = true ∨ (s.dev.inb 13).claim ≠ none) → Does (.relayedMailbox n mb words) s (fun d => d.host.inb = s.dev.host.inb ∧
      s.dev.Counted d (cMgmt 13) ∧ d.lanes = s.dev.lanes ∧ d.vot = s.dev.vot)) ∧
    (mb ≠ 13 → Does (.relayedMailbox n mb words) s (fun d => d.host.inb = s.dev.host.inb ∧ s.dev.Counted d (cMgmt 1) ∧ d.lanes = s.dev.lanes ∧
      d.vot = s.dev.vot)) := by
  have served : ¬ (!(s.dev.svcSeen 3 n.seq).winUp || words.isEmpty || decide (16 < words.length)) = true := by
    have there : (s.dev.svcSeen 3 n.seq).winUp = true := up
    simp [there, some_]
    omega
  have meaning : exec (.relayedMailbox n mb words) s = .next { s with
      dev := if mb != 13 then countCode (s.dev.svcSeen 3 n.seq) 2
        else if (s.dev.inb 13).full || (s.dev.inb 13).claim.isSome then (s.dev.svcSeen 3 n.seq).count (cMgmt 13) 1
        else goInbox ((s.dev.svcSeen 3 n.seq).onIn 13 (fun b => { b with data := words ++ b.data.drop words.length })) 13 0x20 words.length } :=
    next_of_dev ((Dev.svcIn_counts pair valid new _).trans (if_neg served))
  refine ⟨?_, ?_, fun other => ?_⟩
  · rintro rfl empty free
    rw [if_neg (by nofun), if_neg (by rw [empty, free]; nofun)] at meaning
    refine does_of_dev meaning ?_
    have becomes := ((Dev.InBecomes.refl (s.dev.svcSeen 3 n.seq) 13).onIn (show 13 < s.dev.host.inb.length by omega)
      (fun b => { b with data := words ++ b.data.drop words.length })).onIn (show 13 < s.dev.host.inb.length by omega)
      (fun b => { b with data := b.data.set 0 (BitVec.ofNat 32 (0x20 * 2 ^ 24 + (b.data.getD 0 0).toNat % 2 ^ 24)), len := words.length, full := true, sender := 0x20, claim := none })
    have here := becomes.here
    exact ⟨congrArg (·.full) here, congrArg (·.sender) here, congrArg (·.len) here, becomes.others, rfl, rfl, rfl⟩
  · rintro rfl taken
    rw [if_neg (by nofun), if_pos (by simpa [Option.isSome_iff_ne_none] using taken)] at meaning
    exact does_of_dev meaning ⟨rfl, Dev.counted_of_cnt (x := s.dev) rfl rfl, rfl, rfl⟩
  · rw [if_pos (by simpa using other)] at meaning
    exact does_of_dev meaning ⟨rfl, Dev.counted_of_cnt (x := s.dev) rfl rfl, rfl, rfl⟩

end

/-! ### Draining and completion -/

/-- A drain runs the command that the code names (R381). -/
theorem runCode_exec : ∀ x ∈ mailboxCodes, ∀ (r : Request) (s : State), exec (x.2 r) s = .next { s with dev := runCode s.dev x.1 r } := by
  unfold mailboxCodes
  repeat refine List.forall_mem_cons.mpr ⟨fun _ _ => rfl, ?_⟩
  exact nofun
theorem mailboxDrain_does {s : State} {m : Nat} (drains : s.dev.drains = true) (next : nextFull s.dev = some m) :
    (s.dev.freeReplies < 2 → Does .mailboxDrain s (fun d => d.host.inb = s.dev.host.inb ∧ s.dev.Counted d (cMgmt 14) ∧ s.dev.Quiet d)) ∧
    (∀ x ∈ mailboxCodes, 2 ≤ s.dev.freeReplies → bits ((s.dev.inb m).data.getD 0 0).toNat 15 0 = x.1 →
      exec .mailboxDrain s = exec (x.2 (requestOf m (s.dev.inb m)))
        { s with dev := (s.dev.onIn m (fun y => { y with full := false })).onHost (fun y => { y with rr := m }) }) := by
  have meaning : exec .mailboxDrain s = .next { s with
      dev := if s.dev.freeReplies < 2 then s.dev.count (cMgmt 14) 1
        else runCode ((s.dev.onIn m (fun x => { x with full := false })).onHost (fun h => { h with rr := m })) (bits ((s.dev.inb m).data.getD 0 0).toNat 15 0) (requestOf m (s.dev.inb m)) } := by
    refine next_of_dev ((if_neg (by rw [drains]; nofun)).trans ?_)
    rw [next]
  refine ⟨fun few => ?_, fun x in_ free code => ?_⟩
  · rw [if_pos few] at meaning
    exact does_of_dev meaning ⟨rfl, s.dev.count_counted _, rfl, rfl, rfl, rfl, rfl, rfl, rfl, rfl, rfl, rfl, rfl, rfl, rfl⟩
  · rw [if_neg (by omega), code] at meaning
    exact meaning.trans (runCode_exec x in_ (requestOf m (s.dev.inb m))
      { s with dev := (s.dev.onIn m (fun y => { y with full := false })).onHost (fun y => { y with rr := m }) }).symm

theorem Dev.hubUp_of_winUp {d : Dev} (up : d.winUp = true) : d.hubUp = true := by
  rw [Dev.winUp, Bool.and_eq_true] at up
  exact up.1
theorem onMgmt_claim_ite (b : Bool) (d : Dev) : (if b = true then d.onMgmt (fun m => { m with claim := none }) else d) =
    d.onMgmt (fun m => { m with claim := if b = true then none else m.claim }) := by cases b <;> rfl
theorem sendReply_mgmt (d : Dev) (m : Nat) (ws : List Word) : (sendReply d m ws).mgmt = d.mgmt := by
  obtain ⟨f, is⟩ := sendReply_eq d m ws
  rw [is, Dev.onHost_mgmt]
theorem Dev.onJob_replied (d : Dev) (n : Nat) : ∀ k ∈ (d.onJob n (fun x => { x with replied := true })).mgmt.jobs, k.num = n → k.replied = true := by
  intro k in_ is
  obtain ⟨x, -, rfl⟩ := List.mem_map.mp in_
  by_cases hit : (x.num == n) = true
  · rw [if_pos hit]
  · rw [if_neg hit] at is ⊢
    exact absurd (beq_iff_eq.mpr is) hit
/-- The completion of a job that ended well is answered once (R389). -/
theorem jobCompletion_does {s : State} (up : s.dev.winUp = true) (sixteen : s.dev.host.outb.length = 16) {n : Nat} {j : Job} (e : JobEnd) (job : s.dev.jobOf n = some j)
    (num : j.num = n) (box : j.req.mbox < 15) (done : j.done = true) (fine : j.status = 0) :
    (j.replied = false → Does (.jobCompletion n e) s (fun d => s.dev.Answered d j.req.mbox (replyWords j.req j.code n 0 j.detail
      ((if [0x0103, 0x0105, 0x0202, 0x0602].contains j.code then twoWords j.due.toNat else []) ++ j.res)) ∧
      (∀ k ∈ d.mgmt.jobs, k.num = n → k.replied = true) ∧ s.dev.Quiet d)) ∧
    (j.replied = true → exec (.jobCompletion n e) s = .next s) := by
  have served : ¬ (!s.dev.hubUp) = true := by rw [Dev.hubUp_of_winUp up]; nofun
  refine ⟨fun open_ => ?_, fun told => ?_⟩
  · have meaning : exec (.jobCompletion n e) s = .next { s with dev := completeJob s.dev j } := by
      refine next_of_dev ((if_neg served).trans ?_)
      rw [job]
      dsimp only
      rw [if_neg (by rw [open_]; nofun), done, if_pos rfl, job]
      exact if_pos done
    refine does_of_dev meaning ?_
    unfold completeJob
    dsimp only
    rw [fine, if_pos rfl, show ∀ d, countStatus d 0 = d from fun _ => rfl, num]
    rw [onMgmt_claim_ite]
    refine ⟨sendReply_answered _ rfl sixteen (by omega), ?_, ?_⟩
    · rw [sendReply_mgmt]
      exact Dev.onJob_replied s.dev n
    · exact Dev.Quiet.sendReply ⟨rfl, rfl, rfl, rfl, rfl, rfl, rfl, rfl, rfl, rfl, rfl, rfl, rfl⟩ _ _
  · refine next_of_dev ((if_neg served).trans ?_)
    rw [job]
    exact if_pos told

/-! ### Staged values -/

section
variable (d : Dev) (f : LaneSt → LaneSt)

/-- The change of one lane that runs. -/
def Dev.ifRuns (l : Lane) : Dev := if d.runs l then d.onLane l f else d
theorem Dev.ifRuns_lane (l : Lane) : (d.ifRuns f l).lane l = if d.runs l = true then f (d.lane l) else d.lane l := by
  unfold Dev.ifRuns
  split_ifs
  · exact Dev.onLane_lane d l f
  · rfl
theorem Dev.ifRuns_lane_ne {l k : Lane} (other : k ≠ l) : (d.ifRuns f l).lane k = d.lane k := by
  unfold Dev.ifRuns
  split_ifs
  · exact Dev.onLane_lane_ne d l k f other
  · rfl
theorem Dev.ifRuns_onMgmt (g : MgmtSt → MgmtSt) (l : Lane) : (d.onMgmt g).ifRuns f l = (d.ifRuns f l).onMgmt g := by
  show (if d.runs l then _ else _) = _
  unfold Dev.ifRuns
  split_ifs <;> rfl
theorem Dev.onRunning_eq : d.onRunning f = ((d.ifRuns f .a).ifRuns f .b).ifRuns f .c := rfl
theorem Dev.onRunning_rest : ∃ t : Tri LaneSt, d.onRunning f = { d with lanes := t } := by
  have one (d : Dev) (l : Lane) : ∃ t : Tri LaneSt, d.ifRuns f l = { d with lanes := t } := by
    unfold Dev.ifRuns
    split_ifs
    · exact ⟨_, rfl⟩
    · exact ⟨_, rfl⟩
  obtain ⟨t, first⟩ := one d .a
  obtain ⟨t', second⟩ := one { d with lanes := t } .b
  obtain ⟨t'', third⟩ := one { d with lanes := t' } .c
  exact ⟨t'', by rw [Dev.onRunning_eq, first, second, third]⟩
/-- A change of all running lanes reaches every lane that runs, and no other. -/
theorem Dev.onRunning_lane (l : Lane) : (d.onRunning f).lane l = if d.runs l = true then f (d.lane l) else d.lane l := by
  rw [Dev.onRunning_eq]
  cases l with
  | a => rw [Dev.ifRuns_lane_ne _ _ (by nofun), Dev.ifRuns_lane_ne _ _ (by nofun), Dev.ifRuns_lane]
  | b =>
    have same : (d.ifRuns f .a).lane .b = d.lane .b := Dev.ifRuns_lane_ne _ _ (by nofun)
    rw [Dev.ifRuns_lane_ne _ _ (by nofun), Dev.ifRuns_lane, Dev.runs_congr (congrArg (·.seq.phase) same), same]
  | c =>
    have same : ((d.ifRuns f .a).ifRuns f .b).lane .c = d.lane .c :=
      (Dev.ifRuns_lane_ne _ _ (by nofun)).trans (Dev.ifRuns_lane_ne _ _ (by nofun))
    rw [Dev.ifRuns_lane, Dev.runs_congr (congrArg (·.seq.phase) same), same]

end

theorem tellPartner_pair (d : Dev) (p : Nat) (v : DWord) (g : Option (BitVec 64)) : ∃ q : PairSt, tellPartner d p v g = { d with pair := q } := by
  unfold tellPartner
  split_ifs
  · exact Dev.handSvc_pair ..
  · exact ⟨d.pair, rfl⟩

/-- The oldest drained PARAM_STAGE of one record (R395). -/
theorem stagingDelivered_does {s : State} (sixteen : s.dev.host.outb.length = 16) {r : Request} {p : Nat} {v : DWord} {rest : List (Request × List (Nat × DWord))}
    (waits : s.dev.mgmt.deliver = (r, [(p, v)]) :: rest) (now : isNextRelease p = false) (box : r.mbox < 16) :
    Does .stagingDelivered s (fun d => d.mgmt.deliver = rest ∧
      s.dev.Answered d r.mbox (replyWords r 0x0101 0 0 0 [BitVec.ofNat 32 (r.args.length / 3)]) ∧
      (∀ l : Lane, s.dev.runs l = true → (∃ c ∈ (d.lane l).cfg, c.pid = p ∧ c.staged = some v ∧ c.at_ = s.dev.gt) ∧
        (d.lane l).mem = (s.dev.lane l).mem ∧ (∀ q : Nat, q ≠ p → (d.lane l).field q = (s.dev.lane l).field q)) ∧
      (∀ l : Lane, s.dev.runs l = false → d.lane l = s.dev.lane l)) := by
  have meaning : exec .stagingDelivered s = .next { s with
      dev := okay (stageOne (s.dev.onMgmt (fun m => { m with deliver := rest })) (p, v)) r 0x0101 [BitVec.ofNat 32 (r.args.length / 3)] } := by
    refine next_of_dev ?_
    dsimp only
    rw [waits]
    rfl
  let put : CfgField → CfgField := fun c => { c with staged := some v, at_ := s.dev.gt }
  have staged : ∃ q : PairSt, stageOne (s.dev.onMgmt (fun m => { m with deliver := rest })) (p, v) =
      { (s.dev.onRunning (fun q => q.onField p true put)).onMgmt (fun m => { m with deliver := rest }) with pair := q } := by
    have there : (s.dev.onMgmt (fun m => { m with deliver := rest })).onRunning (fun q => q.onField p true put) =
        (s.dev.onRunning (fun q => q.onField p true put)).onMgmt (fun m => { m with deliver := rest }) := by
      rw [Dev.onRunning_eq, Dev.onRunning_eq, Dev.ifRuns_onMgmt, Dev.ifRuns_onMgmt, Dev.ifRuns_onMgmt]
    unfold stageOne
    dsimp only
    rw [if_neg (by rw [now]; nofun)]
    obtain ⟨q, told⟩ := tellPartner_pair ((s.dev.onMgmt (fun m => { m with deliver := rest })).onRunning (fun q => q.onField p true put)) p v none
    exact ⟨q, told.trans (by rw [there])⟩
  obtain ⟨q, is⟩ := staged
  obtain ⟨t, lanes⟩ := s.dev.onRunning_rest (fun q => q.onField p true put)
  rw [is] at meaning
  have lane (l : Lane) : t.get l = if s.dev.runs l = true then (s.dev.lane l).onField p true put else s.dev.lane l := by
    rw [← s.dev.onRunning_lane (fun q => q.onField p true put) l, lanes]
    rfl
  rw [lanes] at meaning
  obtain ⟨f, reply⟩ := sendReply_eq { ({ s.dev with lanes := t }.onMgmt (fun m => { m with deliver := rest })) with pair := q } r.mbox
    (replyWords r 0x0101 0 0 0 [BitVec.ofNat 32 (r.args.length / 3)])
  refine does_of_dev meaning ⟨?_, sendReply_answered _ rfl sixteen box, fun l runs => ?_, fun l idle => ?_⟩
  · exact congrArg (fun d : Dev => d.mgmt.deliver) reply
  · have here : (okay { ({ s.dev with lanes := t }.onMgmt (fun m => { m with deliver := rest })) with pair := q } r 0x0101 [BitVec.ofNat 32 (r.args.length / 3)]).lane l =
        (s.dev.lane l).onField p true put := (congrArg (fun d : Dev => d.lane l) reply).trans ((lane l).trans (if_pos runs))
    rw [here]
    have field := LaneSt.onField_field (q := s.dev.lane l) (p := p) (host := true) (f := put) (fun _ => rfl)
    refine ⟨?_, LaneSt.onField_mem .., fun k other => (field k).trans (if_neg other)⟩
    have found := (field p).trans (if_pos rfl)
    exact ⟨_, List.mem_of_find?_eq_some found, by simpa using List.find?_some found, rfl, rfl⟩
  · exact (congrArg (fun d : Dev => d.lane l) reply).trans ((lane l).trans (if_neg (by rw [idle]; nofun)))

end Sys2Proof.Machine

namespace Sys2Proof
open Machine

/-- Settles O52, command by command: what reaches a mailbox, what leaves it, and what is answered once. -/
theorem mailboxes : Obligations.Mailboxes := by
  intro s up inbs outs
  dsimp only
  refine ⟨?_, ?_, ?_, ?_, ?_, ?_, ?_, ?_, ?_, ?_, ?_, ?_⟩
  · intro m sender len ws small low high fits opened full
    exact ⟨inboundGo_does up inbs opened small low high fits full, fun l lane => inboundGo_lane up small fits lane⟩
  · intro m c t small claim
    exact claimTimeout_does up (by omega) claim
  · intro m free
    refine next_of_dev ?_
    dsimp only
    rw [free]
  · intro m reader small opened full
    exact outboundAck_does up outs opened small full
  · intro n ws idle mb
    exact next_of_dev (Dev.svcIn_idle (type := 3) idle _)
  · intro n mb ws pair valid new some_ fits
    exact relayedMailbox_does up inbs pair valid new some_ fits
  · intro m drains next
    exact mailboxDrain_does drains next
  · intro n j e job num box done fine
    exact jobCompletion_does up outs e job num box done fine
  · intro r p v rest waits now box
    exact stagingDelivered_does outs waits now box
  · intro none_
    refine next_of_dev ?_
    dsimp only
    rw [none_]
  · intro c t claim
    have meaning : exec .bulkClaimTimeout s = .next { s with dev := (s.dev.toClk (t + 10000 * msClk)).onMgmt (fun m => { m with claim := none }) } := by
      refine next_of_dev ?_
      dsimp only
      rw [claim]
    refine does_of_dev meaning ⟨rfl, ?_, rfl⟩
    show t + 10000 * msClk ≤ (s.dev.toClk (t + 10000 * msClk)).clk
    rw [Dev.toClk_clk]
    exact le_max_right ..
  · intro none_
    refine next_of_dev ?_
    dsimp only
    rw [none_]

end Sys2Proof
end

section
/-! SUPPORT. Mailbox commands: what a served request is answered, what is refused, and the commands that report (R83, R371, R382, R390 to R393, R440). -/

namespace Sys2Proof.Machine
open Sys2Proof

/-! ### Replies -/

section
variable {d d' : Dev} {m : Nat}

/-- The reply goes where R382 sends it, whatever else of the host window has changed before. -/
theorem sendReply_answers (ws : List Word) (out : d'.host.outb = d.host.outb) (replies : d'.host.replies = d.host.replies) (sixteen : d.host.outb.length = 16)
    (inside : m < 16) : d.Answered (sendReply d' m ws) m ws := by
  unfold Dev.Answered Machine.sendReply Dev.outb
  rw [out, replies]
  split_ifs
  · exact ⟨congrArg (· ++ _) replies, congrArg (fun l => l.getD m OutBox.reset) out⟩
  · exact ⟨modAt_getD (by rw [out]; omega) _ _, replies, Dev.ring_set _ (by omega)⟩
theorem sendReply_cnt (d : Dev) (m : Nat) (ws : List Word) : (sendReply d m ws).host.cnt = d.host.cnt := by
  unfold sendReply
  split_ifs <;> rfl
theorem countStatus_host (d : Dev) (status : Nat) : ∃ cs, countStatus d status = { d with host := { d.host with cnt := cs } } := by
  unfold countStatus
  split_ifs
  · exact ⟨_, rfl⟩
  · exact ⟨_, rfl⟩
  · exact ⟨d.host.cnt, rfl⟩

end

/-! ### What a command does -/

section
variable {s : State} {r : Request} {c : Instr} {code : Nat} {body : Dev → Dev} {e : Dev}

/-- The request, if it is served, finds the body of its command. -/
theorem command_next (meaning : exec c s = s.onDev (fun d => command d r code body)) (serves : s.dev.Serves r code) :
    exec c s = .next { s with dev := body (s.dev.touched r) } := meaning.trans (next_of_dev (command_serves serves body))

/-- What stands in the host window and beside it when the command acts. -/
structure Dev.Touched (d : Dev) (r : Request) (e : Dev) : Prop where
  host : e.host = d.host
  quiet : d.Quiet e
  mgmt : e.mgmt = (d.touched r).mgmt
theorem Dev.touched_touched (d : Dev) (r : Request) : d.Touched r (d.touched r) := ⟨d.touched_host r, d.touched_quiet r, rfl⟩

theorem okay_answers (touched : s.dev.Touched r e) (serves : s.dev.Serves r code) (res : List Word) :
    s.dev.Answered (okay e r code res) r.mbox (replyWords r code 0 0 0 res) ∧ (okay e r code res).mgmt = (s.dev.touched r).mgmt ∧
      (okay e r code res).host.cnt = s.dev.host.cnt ∧ s.dev.Quiet (okay e r code res) := by
  obtain ⟨-, box, sixteen, -⟩ := serves
  have plain : okay e r code res = sendReply e r.mbox (replyWords r code 0 0 0 res) := rfl
  rw [plain]
  exact ⟨sendReply_answered _ touched.host sixteen (by omega), (sendReply_mgmt ..).trans touched.mgmt, (sendReply_cnt ..).trans (congrArg (·.cnt) touched.host),
    touched.quiet.sendReply ..⟩
/-- A command that reports leaves everything but its reply. -/
theorem report_does (meaning : exec c s = s.onDev (fun d => command d r code body)) (serves : s.dev.Serves r code) {res : List Word}
    (tells : body (s.dev.touched r) = okay (s.dev.touched r) r code res) : Does c s (fun d => s.dev.Answered d r.mbox (replyWords r code 0 0 0 res) ∧
      d.mgmt = (s.dev.touched r).mgmt ∧ d.host.cnt = s.dev.host.cnt ∧ s.dev.Quiet d) :=
  does_of_dev ((command_next meaning serves).trans (next_of_dev tells)) (okay_answers (s.dev.touched_touched r) serves res)

/-- A refusal is its reply and its count. -/
theorem refuse_answers (same : e.host.outb = s.dev.host.outb) (waits : e.host.replies = s.dev.host.replies) (quiet : s.dev.Quiet e) (sixteen : s.dev.host.outb.length = 16)
    (box : r.mbox < 16) (st dt : Nat) : s.dev.Answered (refuse e r code st dt) r.mbox (replyWords r code 0 st dt []) ∧ s.dev.Quiet (refuse e r code st dt) := by
  have shape : refuse e r code st dt = sendReply (countStatus e st) r.mbox (replyWords r code 0 st dt []) := rfl
  obtain ⟨cs, counted⟩ := countStatus_host e st
  rw [shape, counted]
  have kept : s.dev.Quiet { e with host := { e.host with cnt := cs } } := quiet
  exact ⟨sendReply_answers _ same waits sixteen box, kept.sendReply ..⟩
theorem refuse_does (meaning : exec c s = s.onDev (fun d => command d r code body)) (serves : s.dev.Serves r code) {st dt : Nat}
    (tells : body (s.dev.touched r) = refuse (s.dev.touched r) r code st dt) :
    Does c s (fun d => s.dev.Answered d r.mbox (replyWords r code 0 st dt []) ∧ s.dev.Quiet d) := by
  have ⟨_, box, sixteen, _⟩ := serves
  have host := s.dev.touched_host r
  exact does_of_dev ((command_next meaning serves).trans (next_of_dev tells))
    (refuse_answers (congrArg (·.outb) host) (congrArg (·.replies) host) (s.dev.touched_quiet r) sixteen (by omega) st dt)

end

/-! ### What every command passes first -/

/-- Each code of Table 21-4 passes the common checks with the lengths and needs of its own. -/
theorem mailboxCode_command : ∀ x ∈ mailboxCodes, ∀ r : Request, ∃ body : Dev → Dev, ∀ s : State, exec (x.2 r) s = s.onDev (fun d => command d r x.1 body) := by
  unfold mailboxCodes
  repeat refine List.forall_mem_cons.mpr ⟨fun _ => ⟨_, fun _ => rfl⟩, ?_⟩
  exact nofun
theorem codeLen_known : ∀ x ∈ mailboxCodes, (codeLen x.1).isNone = false := by
  unfold mailboxCodes
  repeat refine List.forall_mem_cons.mpr ⟨rfl, ?_⟩
  exact nofun

section
variable {d : Dev} {r : Request} {code : Nat} {body : Dev → Dev}

theorem command_checks (drains : d.drains = true) (box : r.mbox < 10) (known : (codeLen code).isNone = false) :
    command d r code body = if lenOk code r.args.length = false then refuse (d.touched r) r code 4 0
      else if (needsLanes code && !d.boot.released) = true then refuse (d.touched r) r code 0x13 3
      else if (needsImage code && d.boot.running.isNone) = true then refuse (d.touched r) r code 0x13 3 else body (d.touched r) := by
  have boot : (d.touched r).boot = d.boot := by
    obtain ⟨x, eq⟩ := d.touched_eq r
    rw [eq, Dev.onMgmt_boot]
  have inside : ¬ (10 ≤ r.mbox ∧ r.mbox ≤ 12) ∧ ¬ 15 ≤ r.mbox ∧ r.mbox ≠ 14 ∧ r.mbox ≠ 13 := by omega
  obtain ⟨notInternal, notOut, notDebug, notRelay⟩ := inside
  simp only [command, drains, notInternal, notOut, notDebug, notRelay, known, Bool.not_true, decide_false, Bool.or_self, Bool.false_eq_true, if_false, Bool.false_and]
  change (if (!lenOk code r.args.length) = true then _ else if (needsLanes code && !(d.touched r).boot.released) = true then _ else
    if (needsImage code && (d.touched r).boot.running.isNone) = true then _ else body (d.touched r)) = _
  rw [boot]
  cases lenOk code r.args.length <;> rfl

end

/-- A request of a wrong length, and one that needs released lanes before release (R371, R390). -/
theorem mailboxCode_refused {s : State} {r : Request} {x : Nat × (Request → Instr)} (in_ : x ∈ mailboxCodes) (drains : s.dev.drains = true) (box : r.mbox < 10)
    (sixteen : s.dev.host.outb.length = 16) :
    (lenOk x.1 r.args.length = false → Does (x.2 r) s (fun d => s.dev.Answered d r.mbox (replyWords r x.1 0 4 0 []) ∧
      s.dev.Counted d (cMgmt 3) ∧ d.mgmt = (s.dev.touched r).mgmt ∧ s.dev.Quiet d)) ∧
    (lenOk x.1 r.args.length = true → needsLanes x.1 = true → s.dev.boot.released = false → Does (x.2 r) s (fun d =>
      s.dev.Answered d r.mbox (replyWords r x.1 0 0x13 3 []) ∧ d.mgmt = (s.dev.touched r).mgmt ∧ s.dev.Quiet d)) := by
  obtain ⟨body, is⟩ := mailboxCode_command x in_ r
  have meaning := (is s).trans (next_of_dev (command_checks drains box (codeLen_known x in_)))
  have host := s.dev.touched_host r
  have quiet := s.dev.touched_quiet r
  refine ⟨fun bad => ?_, fun fits needs held => ?_⟩
  · rw [if_pos bad] at meaning
    refine does_of_dev meaning ?_
    have shape : refuse (s.dev.touched r) r x.1 4 0 = sendReply ((s.dev.touched r).count (cMgmt 3) 1) r.mbox (replyWords r x.1 0 4 0 []) := rfl
    rw [shape]
    have kept : s.dev.Quiet ((s.dev.touched r).count (cMgmt 3) 1) := quiet
    exact ⟨sendReply_answers _ (congrArg (·.outb) host) (congrArg (·.replies) host) sixteen (by omega),
      Dev.counted_of_cnt (congrArg (·.cnt) host) (sendReply_cnt ..), sendReply_mgmt .., kept.sendReply ..⟩
  · rw [if_neg (by rw [fits]; nofun), if_pos (by rw [needs, held]; rfl)] at meaning
    refine does_of_dev meaning ?_
    have shape : refuse (s.dev.touched r) r x.1 0x13 3 = sendReply (s.dev.touched r) r.mbox (replyWords r x.1 0 0x13 3 []) := rfl
    rw [shape]
    exact ⟨sendReply_answers _ (congrArg (·.outb) host) (congrArg (·.replies) host) sixteen (by omega), sendReply_mgmt .., Dev.Quiet.sendReply quiet _ _⟩

/-! ### The transfer buffer -/

/-- A command of the holder keeps the claim, it does not end it (R392). -/
theorem Dev.touched_bulkBusy (d : Dev) (r : Request) (sender : Nat) : (d.touched r).bulkBusy sender = d.bulkBusy sender := by
  cases claim : d.mgmt.claim with
  | none => rw [Dev.touched, claim]
  | some c =>
    rw [Dev.touched, claim]
    dsimp only
    split_ifs
    · rw [Dev.bulkBusy, Dev.bulkBusy, claim]
      rfl
    · rfl
theorem withBulk_free {d : Dev} {r : Request} (free : d.bulkBusy r.sender = false) (code : Nat) (body : Dev → Dev) : withBulk d r code body = body d :=
  if_neg (by rw [free]; nofun)

/-! ### The commands that report -/

section
variable {s : State} {r : Request}

/-- A field that is committed is no read-only, image, group or calibration value: PARAM_READ reads a lane's record of it. -/
theorem paramRead_tells {x : FieldInfo} {c : CfgField} (info : fieldInfo (pidField (argOf r 0 % 2 ^ 31)) = some x) (kind : x.kind = .commit)
    (inst : instOk s.dev.img (pidField (argOf r 0 % 2 ^ 31)) (pidInst (argOf r 0 % 2 ^ 31)) = true) (now : isNextRelease (argOf r 0 % 2 ^ 31) = false)
    (field : (s.dev.lane s.dev.lowLane).field (argOf r 0 % 2 ^ 31) = some c) (serves : s.dev.Serves r 0x0102) :
    Does (.paramRead r) s (fun d => s.dev.Answered d r.mbox (replyWords r 0x0102 0 0 0 (twoWords (shadowVal c (pidCopy (argOf r 0))).1.toNat ++
      [BitVec.ofNat 32 (flagN (shadowVal c (pidCopy (argOf r 0))).2 0 + flagN (fieldHost s.dev.img (argOf r 0 % 2 ^ 31)) 1 + flagN (groupClsB (argOf r 0 % 2 ^ 31)) 2)])) ∧
      d.mgmt = (s.dev.touched r).mgmt ∧ d.host.cnt = s.dev.host.cnt ∧ s.dev.Quiet d) := by
  have same : pidField (argOf r 0 % 2 ^ 31) = pidField (argOf r 0) := by
    unfold pidField bits
    omega
  have notGroup : pidField (argOf r 0) ≠ 0x0F1 := by
    intro is
    rw [same, is] at info
    cases info
    exact absurd kind (by decide)
  refine report_does (r := r) rfl serves ?_
  obtain ⟨k, eq⟩ := s.dev.touched_eq r
  rw [eq]
  dsimp only
  rw [if_neg notGroup, info]
  dsimp only
  rw [kind, if_neg (by rw [show (s.dev.onMgmt (fun m => { m with claim := k })).img = s.dev.img from rfl, inst]; nofun), now]
  simp only [show (FieldKind.commit == FieldKind.readOnly) = false from rfl, show (FieldKind.commit == FieldKind.calOnly) = false from rfl,
    show (FieldKind.commit == FieldKind.imageOnly) = false from rfl, show (FieldKind.commit == FieldKind.group) = false from rfl, Bool.false_eq_true, if_false, Bool.or_self]
  rw [show ((s.dev.onMgmt (fun m => { m with claim := k })).lane (s.dev.onMgmt (fun m => { m with claim := k })).lowLane).field (argOf r 0 % 2 ^ 31) = some c from field]
  rfl

theorem coefReply_does {e : Dev} (host : e.host = s.dev.host) (quiet : s.dev.Quiet e) (bulk : e.mgmt.bulk = s.dev.mgmt.bulk) (clk : e.clk = s.dev.clk)
    (sixteen : s.dev.host.outb.length = 16) (box : r.mbox < 16) (c : CoefRec) :
    let d := okay (putBulk (claimBulk e r.sender) 0 (coefRecord c)) r 0x0302 [BitVec.ofNat 32 (coefRecord c).length]
    s.dev.Answered d r.mbox (replyWords r 0x0302 0 0 0 [BitVec.ofNat 32 (coefRecord c).length]) ∧
      d.mgmt.bulk = memWrite s.dev.mgmt.bulk 0 (coefRecord c) ∧ d.mgmt.claim = some (r.sender, s.dev.clk) ∧ s.dev.Quiet d := by
  generalize coefRecord c = bs
  have plain : okay (putBulk (claimBulk e r.sender) 0 bs) r 0x0302 [BitVec.ofNat 32 bs.length] =
      sendReply (putBulk (claimBulk e r.sender) 0 bs) r.mbox (replyWords r 0x0302 0 0 0 [BitVec.ofNat 32 bs.length]) := rfl
  dsimp only
  rw [plain, sendReply_mgmt, ← bulk, ← clk]
  have kept : s.dev.Quiet (putBulk (claimBulk e r.sender) 0 bs) := quiet
  exact ⟨sendReply_answered _ host sixteen box, rfl, rfl, kept.sendReply ..⟩

/-- COEF_READ fills the transfer buffer (R83). -/
theorem coefRead_does {c : CoefRec} (serves : s.dev.Serves r 0x0302) (free : s.dev.bulkBusy r.sender = false)
    (known : (s.dev.lane s.dev.lowLane).coefOf (bits (argOf r 0) 6 0) (bits (argOf r 0) 8 8) = some c) : Does (.coefRead r) s (fun d =>
      s.dev.Answered d r.mbox (replyWords r 0x0302 0 0 0 [BitVec.ofNat 32 (coefRecord c).length]) ∧
      d.mgmt.bulk = memWrite s.dev.mgmt.bulk 0 (coefRecord c) ∧ d.mgmt.claim = some (r.sender, s.dev.clk) ∧ s.dev.Quiet d) := by
  have meaning := command_next (c := .coefRead r) (r := r) rfl serves
  obtain ⟨-, box, sixteen, -⟩ := serves
  rw [withBulk_free ((s.dev.touched_bulkBusy r r.sender).trans free)] at meaning
  obtain ⟨k, eq⟩ := s.dev.touched_eq r
  have there : ((s.dev.touched r).lane (s.dev.touched r).lowLane).coefOf (bits (argOf r 0) 6 0) (bits (argOf r 0) 8 8) = some c := by
    rw [eq]
    exact known
  rw [there] at meaning
  dsimp only at meaning
  have touched := s.dev.touched_touched r
  have bulk : (s.dev.touched r).mgmt.bulk = s.dev.mgmt.bulk := by rw [eq]; rfl
  have clk : (s.dev.touched r).clk = s.dev.clk := by rw [eq]; rfl
  generalize s.dev.touched r = e at *
  refine does_of_dev meaning (coefReply_does touched.host touched.quiet bulk clk sixteen (by omega) c)

/-- BULK_READ reads the buffer as it stands (R392). -/
theorem bulkRead_does (free : s.dev.bulkBusy r.sender = false) (low : 1 ≤ argOf r 1) (high : argOf r 1 ≤ 14) (aligned : argOf r 0 % 4 = 0)
    (fits : argOf r 0 + 4 * argOf r 1 ≤ bulkSize) (serves : s.dev.Serves r 0x0011) : Does (.bulkRead r) s (fun d => s.dev.Answered d r.mbox (replyWords r 0x0011 0 0 0
      ((List.range (argOf r 1)).map (fun i => BitVec.ofNat 32 (leNat (memRead s.dev.mgmt.bulk (argOf r 0 + 4 * i) 4))))) ∧
      d.mgmt = (s.dev.touched r).mgmt ∧ d.host.cnt = s.dev.host.cnt ∧ s.dev.Quiet d) := by
  refine report_does (r := r) rfl serves ?_
  dsimp only
  rw [s.dev.touched_bulkBusy, free, if_neg (by nofun), if_neg (by simp; omega), if_neg (by simp; omega)]
  obtain ⟨k, eq⟩ := s.dev.touched_eq r
  rw [eq]
  rfl
theorem jobStatus_does {res : List Word} (job : jobState s.dev (argOf r 0) = res) (serves : s.dev.Serves r 0x0004) :
    Does (.jobStatus r) s (fun d => s.dev.Answered d r.mbox (replyWords r 0x0004 0 0 0 res) ∧ d.mgmt = (s.dev.touched r).mgmt ∧ d.host.cnt = s.dev.host.cnt ∧
      s.dev.Quiet d) := by
  refine report_does (r := r) rfl serves ?_
  obtain ⟨k, eq⟩ := s.dev.touched_eq r
  rw [eq, ← job]
  rfl
/-- A unit that a test takes belongs to a known test (R440). -/
theorem testUnitOk_known {t u : Nat} (ok : testUnitOk t u = true) : [1, 2, 3, 0x10, 0x11, 0x12].contains t = true := by
  unfold testUnitOk at ok
  split at ok <;> simp_all
/-- The result words of a test. -/
def resultWords (t : Nat) (x : Option (Nat × Nat × Nat × Nat × Nat)) : List Word :=
  match x with
  | some (_, _, res, cov, dur) => [BitVec.ofNat 32 res, BitVec.ofNat 32 cov, BitVec.ofNat 32 dur]
  | none => [0, BitVec.ofNat 32 (testCover t), 0]
theorem testResults_does (ok : testUnitOk (argOf r 0) (argOf r 1) = true) (serves : s.dev.Serves r 0x0502) :
    Does (.testResults r) s (fun d => s.dev.Answered d r.mbox (replyWords r 0x0502 0 0 0
      (resultWords (argOf r 0) (s.dev.mgmt.tests.find? (fun x => x.1 == argOf r 0 && x.2.1 == argOf r 1)))) ∧ d.mgmt = (s.dev.touched r).mgmt ∧
      d.host.cnt = s.dev.host.cnt ∧ s.dev.Quiet d) := by
  refine report_does (r := r) rfl serves ?_
  dsimp only
  rw [testUnitOk_known ok, ok, if_neg (by nofun), if_neg (by nofun)]
  obtain ⟨k, eq⟩ := s.dev.touched_eq r
  rw [eq, Dev.onMgmt]
  dsimp only
  cases s.dev.mgmt.tests.find? (fun x => x.1 == argOf r 0 && x.2.1 == argOf r 1) <;> rfl

end

end Sys2Proof.Machine

namespace Sys2Proof
open Machine

/-- Settles O53: every report is its own reply, and the common checks stand before every code. -/
theorem mailboxReports : Obligations.MailboxReports := by
  intro s r
  dsimp only
  obtain ⟨k, eq⟩ := s.dev.touched_eq r
  refine ⟨?_, ?_, ?_, ?_, ?_, ?_, ?_, ?_, ?_, ?_, ?_, ?_, ?_, ?_, ?_, ?_⟩
  · exact fun serves => report_does (r := r) rfl serves (by rw [eq]; rfl)
  · exact fun serves => report_does (r := r) rfl serves (by rw [eq]; rfl)
  · exact fun serves => report_does (r := r) rfl serves (by rw [eq]; rfl)
  · exact fun serves => report_does (r := r) rfl serves (by rw [eq]; rfl)
  · intro j found serves
    refine jobStatus_does ?_ serves
    rw [jobState, found]
  · intro none_ serves
    refine jobStatus_does ?_ serves
    rw [jobState, none_]
  · exact fun free low high aligned fits serves => bulkRead_does free low high aligned fits serves
  · exact fun x c info kind inst now field serves => paramRead_tells info kind inst now field serves
  · exact fun c serves free known => coefRead_does serves free known
  · exact fun serves => report_does (r := r) rfl serves (by rw [eq]; rfl)
  · intro x ok found serves
    have done := testResults_does ok serves
    obtain ⟨y, is, rfl⟩ := Option.map_eq_some_iff.mp found
    rw [is] at done
    exact done
  · intro ok none_ serves
    have done := testResults_does ok serves
    rw [none_] at done
    exact done
  · intro h partner serves
    refine report_does (r := r) rfl serves ?_
    rw [eq, Dev.onMgmt]
    dsimp only
    rw [partner]
  · intro partner serves
    refine report_does (r := r) rfl serves ?_
    rw [eq, Dev.onMgmt]
    dsimp only
    rw [partner]
  · let words : Nat → List Word := fun n => (List.range 3).map (fun w => Config.slotWord n w (fieldAt (flashPart s.dev.boot.flash n true) 6 2) (s.dev.partOk n true)
      (s.dev.partOk n false) (s.dev.boot.fallFw || s.dev.boot.fallImg))
    exact ⟨words 0 ++ words 1, rfl, fun serves => report_does (r := r) rfl serves (by rw [eq]; rfl)⟩
  · exact fun x in_ drains box sixteen => mailboxCode_refused in_ drains box sixteen

end Sys2Proof
end

section
/-! SUPPORT. COMMIT refuses a staged value that fails its value check (Table 3-4, R182, R396), also when nothing else speaks against it. -/

namespace Sys2Proof.Machine
open Sys2Proof

/-- PC_HALF of the first converter channel. -/
def pcHalf : Nat := pidOf 0x0A1 0
/-- A released device with three live lanes and a fast cycle of 12.5 µs, in which the host has staged PC_HALF = 1: a value in the range of its field,
which the value check of a commit admits with fast cycles of 25 µs and more only. -/
def halvingDev : Dev :=
  let z := Dev.reset
  { z with
    boot := { z.boot with running := some { z.img with tfCode := 0 }, stage := 8, released := true }
    pair := { z.pair with role := .active }
    lanes := Tri.all { LaneSt.reset with
      seq := { SeqSt.reset with phase := .live }
      cfg := [{ pid := pcHalf, host := true, live := 0, staged := some 1, at_ := 5, due := [] }] } }
/-- The commit of PC_HALF by a host, through mailbox 3. -/
def halvingCommit : Request := ⟨3, 1, 7, [0, BitVec.ofNat 32 pcHalf]⟩

theorem halving_serves : halvingDev.Serves halvingCommit 0x0103 := by
  unfold Dev.Serves
  decide
/-- The request names one field of the host, staged and alone in its group. -/
theorem halving_named : pidField pcHalf < 0x0F0 ∧ groupPid halvingDev.img pcHalf = pcHalf ∧ nameDetail halvingDev.img pcHalf = 0 ∧ isNextRelease pcHalf = false := by
  decide
theorem halving_staged : halvingDev.stagedVal (halvingDev.lane halvingDev.lowLane) pcHalf = some (1, 5) := by decide
/-- PARAM_STAGE takes the value. -/
theorem halving_stageable : checkRecord halvingDev.img 0 pcHalf 1 = (0, 0, 1) := by decide
/-- The answer is ERR_PARAM with detail 4. -/
theorem halving_refused : ((cmdCommit halvingDev halvingCommit).outb 3).data.getD 1 0 = 0x0412 := by decide

end Sys2Proof.Machine

namespace Sys2Proof
open Machine

/-- Refutes O54: the first clause on COMMIT has no hypothesis on the value check, and PC_HALF = 1 staged with T_F = 12.5 µs is refused with ERR_PARAM. -/
theorem not_mailboxSettings : ¬ Obligations.MailboxSettings := by
  intro holds
  obtain ⟨-, -, -, -, commit, -⟩ := holds ⟨halvingDev, []⟩ halvingCommit
  obtain ⟨alone, -⟩ := commit halving_serves
  obtain ⟨field, group, name, now⟩ := halving_named
  obtain ⟨t, step, -, ⟨answered, -⟩, -⟩ := alone pcHalf 5 1 rfl rfl (by decide) field group name now halving_staged
  have next : t.dev = cmdCommit halvingDev halvingCommit := (congrArg State.dev (Host.Outcome.next.inj step)).symm
  have empty : ¬ ((halvingDev.outb 3).full || halvingDev.host.replies.any (fun x => x.1 == 3)) = true := by decide
  obtain ⟨out, -⟩ := (if_neg empty).mp answered
  have accepted : (t.dev.outb 3).data.getD 1 0 = 0x10010 := congrArg (fun b : OutBox => b.data.getD 1 0) out
  rw [next, halving_refused] at accepted
  exact absurd accepted (by decide)

end Sys2Proof
end

section
/-! SUPPORT. Mailbox commands that test, write, unlock and switch: jobs, tests, slots, keys, power and the journal (R230, R248, R399 to R402, R411 to
R413, R422, R425, R429 to R431). -/

namespace Sys2Proof.Machine
open Sys2Proof

/-! ### Served requests -/

/-- e is d but for the claim of the transfer buffer, which a command of its holder keeps. -/
structure Dev.Claims (d e : Dev) : Prop where
  eq : ∃ k : Option (Nat × Nat), e = d.onMgmt (fun m => { m with claim := k })
  busy : ∀ x : Nat, e.bulkBusy x = d.bulkBusy x

/-- What does not look at the claim is as before. -/
theorem Dev.Claims.same {d e : Dev} {α : Type} (claims : d.Claims e) (f : Dev → α) (blind : ∀ k, f (d.onMgmt (fun m => { m with claim := k })) = f d) :
    f e = f d := by
  obtain ⟨⟨k, rfl⟩, -⟩ := claims
  exact blind k

section
variable {s : State} {r : Request} {c : Instr} {code : Nat} {body : Dev → Dev}

theorem command_finds (meaning : exec c s = s.onDev (fun d => command d r code body)) (serves : s.dev.Serves r code) :
    ∃ e, s.dev.Claims e ∧ exec c s = .next { s with dev := body e } :=
  ⟨s.dev.touched r, ⟨s.dev.touched_eq r, s.dev.touched_bulkBusy r⟩, command_next meaning serves⟩
/-- A served request that its command refuses. -/
theorem command_refused (meaning : exec c s = s.onDev (fun d => command d r code body)) (serves : s.dev.Serves r code) {st dt : Nat}
    (tells : ∀ e, s.dev.Claims e → body e = refuse e r code st dt) :
    Does c s (fun d => s.dev.Answered d r.mbox (replyWords r code 0 st dt []) ∧ s.dev.Quiet d) :=
  refuse_does meaning serves (tells _ ⟨s.dev.touched_eq r, s.dev.touched_bulkBusy r⟩)

end

/-! ### Accepted jobs -/

/-- j is e but for its jobs and its host window. -/
def Dev.JobOnly (e j : Dev) : Prop := ∃ (js : List Job) (n : Nat) (h : HostSt), j = { e with host := h, mgmt := { e.mgmt with jobs := js, nextJob := n } }
theorem Dev.JobOnly.same {e j : Dev} {α : Type} (only : e.JobOnly j) (f : Dev → α)
    (blind : ∀ js n h, f { e with host := h, mgmt := { e.mgmt with jobs := js, nextJob := n } } = f e) : f j = f e := by
  obtain ⟨js, n, h, rfl⟩ := only
  exact blind js n h
theorem accept_only (e : Dev) (r : Request) (code due : Nat) (pids : List Nat) : e.JobOnly (accept e r code due pids).1 := by
  obtain ⟨j, n, f, -, -, -, is⟩ := accept_eq e r code due pids
  exact ⟨_, n, _, is⟩

section
variable {d d' d'' : Dev} {r : Request} {code m : Nat} {ws : List Word}

/-- An answer is read in the host window alone. -/
theorem Dev.Answered.keeps (h : d.Answered d' m ws) (out : d''.host.outb = d'.host.outb) (replies : d''.host.replies = d'.host.replies)
    (door : d'.host.door.getLsbD m = true → d''.host.door.getLsbD m = true) : d.Answered d'' m ws := by
  unfold Dev.Answered Dev.outb at h ⊢
  rw [out, replies]
  split_ifs at h ⊢
  · exact h
  · obtain ⟨box, waits, bell⟩ := h
    exact ⟨box, waits, door bell⟩
theorem Dev.Accepted.keeps (h : d.Accepted d' r code) (host : d''.host = d'.host) (jobs : d''.mgmt.jobs = d'.mgmt.jobs) : d.Accepted d'' r code := by
  obtain ⟨answered, job⟩ := h
  exact ⟨answered.keeps (congrArg (·.outb) host) (congrArg (·.replies) host) (fun bell => by rw [host]; exact bell), by rw [jobs]; exact job⟩
/-- A job keeps its number, code and request when something else of it changes. -/
theorem Dev.Accepted.map (h : d.Accepted d' r code) (host : d''.host = d'.host) {f : Job → Job} (keeps : ∀ j, (f j).num = j.num ∧ (f j).code = j.code ∧ (f j).req = j.req)
    (jobs : d''.mgmt.jobs = d'.mgmt.jobs.map f) : d.Accepted d'' r code := by
  obtain ⟨answered, j, in_, num, jobCode, req⟩ := h
  obtain ⟨num', code', req'⟩ := keeps j
  exact ⟨answered.keeps (congrArg (·.outb) host) (congrArg (·.replies) host) (fun bell => by rw [host]; exact bell), f j, jobs ▸ List.mem_map_of_mem in_,
    num'.trans num, code'.trans jobCode, req'.trans req⟩
theorem Dev.Accepted.endJob (h : d.Accepted d' r code) (n st dt : Nat) : d.Accepted (d'.endJob n st dt) r code :=
  h.map (f := fun j => if j.num == n && !j.done then { j with done := true, status := st, detail := dt, due := if j.due = 0 then d'.time.bellGt else j.due } else j)
    rfl (fun j => by split <;> exact ⟨rfl, rfl, rfl⟩) rfl
theorem Dev.Accepted.onJob (h : d.Accepted d' r code) (n : Nat) {f : Job → Job} (keeps : ∀ j, (f j).num = j.num ∧ (f j).code = j.code ∧ (f j).req = j.req) :
    d.Accepted (d'.onJob n f) r code :=
  h.map (f := fun j => if j.num == n then f j else j) rfl (fun j => by split; exacts [keeps j, ⟨rfl, rfl, rfl⟩]) rfl

/-- A device whose host window and next job number are those of d accepts. -/
theorem Dev.Serves.accepts (serves : d.Serves r code) (host : d'.host = d.host) (next : d'.mgmt.nextJob = d.mgmt.nextJob) (due : Nat) (pids : List Nat) :
    d.Accepted (accept d' r code due pids).1 r code := by
  obtain ⟨-, box, sixteen, -⟩ := serves
  exact accept_accepted code due pids host next sixteen (by omega)
theorem Dev.Claims.accepts (claims : d.Claims d') (serves : d.Serves r code) (due : Nat) (pids : List Nat) : d.Accepted (accept d' r code due pids).1 r code :=
  serves.accepts (claims.same (·.host) fun _ => rfl) (claims.same (·.mgmt.nextJob) fun _ => rfl) due pids
theorem Dev.Claims.quiet (claims : d.Claims d') : d.Quiet d' := by
  obtain ⟨⟨k, rfl⟩, -⟩ := claims
  exact ⟨rfl, rfl, rfl, rfl, rfl, rfl, rfl, rfl, rfl, rfl, rfl, rfl, rfl⟩
theorem Dev.Quiet.jobOnly (quiet : d.Quiet d') (only : d'.JobOnly d'') : d.Quiet d'' := by
  obtain ⟨js, n, h, rfl⟩ := only
  exact quiet

end

/-! ### Tests and latch clears -/

section
variable {s : State} {r : Request}

theorem runTest_gate (serves : s.dev.Serves r 0x0501) {u : Nat} (test : argOf r 0 = 1) (unit : argOf r 1 = u) (low : 2 ≤ u) (high : u ≤ 8) (idle : s.dev.unitBusy u = false) :
    (s.dev.unitOff u = true → Does (.runTest r) s (fun d => s.dev.Accepted d r 0x0501 ∧
      d.gd = { s.dev.gd with diag := s.dev.gd.diag ++ [⟨u, 1, some s.dev.mgmt.nextJob, false, s.dev.clk, 0, 0⟩] } ∧ d.lanes = s.dev.lanes)) ∧
    (s.dev.unitOff u = false → Does (.runTest r) s (fun d => s.dev.Answered d r.mbox (replyWords r 0x0501 0 0x13 2 []) ∧ s.dev.Quiet d)) := by
  subst unit
  have range : ¬ (decide (argOf r 1 < 2) || decide (8 < argOf r 1)) = true := by simp; omega
  have free {e : Dev} (claims : s.dev.Claims e) : ¬ e.unitBusy (argOf r 1) = true := ne_true_of_eq_false ((claims.same (·.unitBusy (argOf r 1)) fun _ => rfl).trans idle)
  refine ⟨fun off => ?_, fun on => command_refused (r := r) rfl serves ?_⟩
  · obtain ⟨e, claims, next⟩ := command_finds (c := .runTest r) (r := r) rfl serves
    have stands : ¬ (!e.unitOff (argOf r 1)) = true := ne_true_of_eq_false (congrArg (!·) ((claims.same (·.unitOff (argOf r 1)) fun _ => rfl).trans off))
    rw [test] at next
    have meaning : exec (.runTest r) s = .next { s with dev := startDiag (accept e r 0x0501 0 []).1 (argOf r 1) e.mgmt.nextJob false } :=
      next.trans (next_of_dev ((if_neg range).trans ((if_neg (free claims)).trans (if_neg stands))))
    have accepted := claims.accepts serves 0 []
    have only := accept_only e r 0x0501 0 []
    generalize (accept e r 0x0501 0 []).1 = j at meaning accepted only
    have gd := (only.same (·.gd) fun _ _ _ => rfl).trans (claims.same (·.gd) fun _ => rfl)
    have clk := (only.same (·.clk) fun _ _ _ => rfl).trans (claims.same (·.clk) fun _ => rfl)
    have num := claims.same (·.mgmt.nextJob) fun _ => rfl
    refine does_of_dev meaning ⟨accepted.keeps rfl rfl, ?_, (only.same (·.lanes) fun _ _ _ => rfl).trans (claims.same (·.lanes) fun _ => rfl)⟩
    rw [← num, ← gd, ← clk]
    rfl
  · intro e claims
    rw [test]
    exact (if_neg range).trans ((if_neg (free claims)).trans (if_pos (congrArg (!·) ((claims.same (·.unitOff (argOf r 1)) fun _ => rfl).trans on))))

/-- The analog self-test of a die (R400). -/
theorem runTest_analog (serves : s.dev.Serves r 0x0501) (test : argOf r 0 = 2) (low : 1 ≤ argOf r 1) (high : argOf r 1 ≤ 2) (new : s.dev.analogJob (argOf r 1) = none)
    (stage : s.dev.boot.stage ≠ 6) (idle : (dieUnits (argOf r 1)).any s.dev.unitBusy = false) (off : (dieUnits (argOf r 1)).all s.dev.unitOff = true) :
    Does (.runTest r) s (fun d => s.dev.Accepted d r 0x0501 ∧ s.dev.Quiet d) := by
  obtain ⟨e, claims, next⟩ := command_finds (c := .runTest r) (r := r) rfl serves
  have range : ¬ (decide (argOf r 1 = 0) || decide (2 < argOf r 1)) = true := by simp; omega
  have free : ¬ ((e.analogJob (argOf r 1)).isSome || e.boot.stage == 6 || (dieUnits (argOf r 1)).any e.unitBusy) = true := by
    have new' : e.analogJob (argOf r 1) = none := (claims.same (·.analogJob (argOf r 1)) fun _ => rfl).trans new
    have stage' : e.boot.stage ≠ 6 := fun six => stage ((claims.same (·.boot.stage) fun _ => rfl).symm.trans six)
    have idle' : (dieUnits (argOf r 1)).any e.unitBusy = false := (claims.same (fun d => (dieUnits (argOf r 1)).any d.unitBusy) fun _ => rfl).trans idle
    rw [new', idle', beq_false_of_ne stage']
    nofun
  have stands : ¬ (!(dieUnits (argOf r 1)).all e.unitOff) = true :=
    ne_true_of_eq_false (congrArg (!·) ((claims.same (fun d => (dieUnits (argOf r 1)).all d.unitOff) fun _ => rfl).trans off))
  rw [test] at next
  exact does_of_dev (next.trans (next_of_dev ((if_neg range).trans ((if_neg free).trans (if_neg stands))))) ⟨claims.accepts serves _ _, claims.quiet.jobOnly (accept_only ..)⟩
/-- The status words of the self test stand in the window. -/
theorem Dev.testStatus_win (d : Dev) : ∃ w, d.testStatus = { d with host := { d.host with win := w } } := ⟨_, rfl⟩
/-- The check of the MRAM (R400). -/
theorem runTest_mram (serves : s.dev.Serves r 0x0501) (test : argOf r 0 = 3) (unit : argOf r 1 = 0) (idle : s.dev.test.mramRun = none) :
    Does (.runTest r) s (fun d => s.dev.Accepted d r 0x0501 ∧ d.test = { s.dev.test with mramRun := some (0, s.dev.clk, 0, 0) } ∧ d.lanes = s.dev.lanes ∧
      d.jr = s.dev.jr) := by
  obtain ⟨e, claims, next⟩ := command_finds (c := .runTest r) (r := r) rfl serves
  have free : ¬ e.test.mramRun.isSome = true := ne_true_of_eq_false (congrArg Option.isSome ((claims.same (·.test.mramRun) fun _ => rfl).trans idle))
  rw [test] at next
  have meaning : exec (.runTest r) s = .next { s with
      dev := ((accept e r 0x0501 0 []).1.onTest (fun t => { t with mramRun := some (0, (accept e r 0x0501 0 []).1.clk, 0, 0) })).testStatus } :=
    next.trans (next_of_dev ((if_neg (by simp [unit])).trans (if_neg free)))
  have accepted := claims.accepts serves 0 []
  have only := accept_only e r 0x0501 0 []
  generalize (accept e r 0x0501 0 []).1 = j at meaning accepted only
  obtain ⟨w, told⟩ := (j.onTest (fun t => { t with mramRun := some (0, j.clk, 0, 0) })).testStatus_win
  rw [told] at meaning
  obtain ⟨answered, job⟩ := accepted
  have test := (only.same (·.test) fun _ _ _ => rfl).trans (claims.same (·.test) fun _ => rfl)
  have clk := (only.same (·.clk) fun _ _ _ => rfl).trans (claims.same (·.clk) fun _ => rfl)
  refine does_of_dev meaning ⟨⟨answered.keeps rfl rfl (fun h => h), job⟩, ?_, (only.same (·.lanes) fun _ _ _ => rfl).trans (claims.same (·.lanes) fun _ => rfl), (only.same (·.jr) fun _ _ _ => rfl).trans (claims.same (·.jr) fun _ => rfl)⟩
  rw [← test, ← clk]
  rfl

/-- SWITCH_CLEAR runs the diagnostics of a gate unit (R230). -/
theorem switchClear_gate (serves : s.dev.Serves r 0x0503) (off : s.dev.unitOff (argOf r 0) = true) (low : 2 ≤ argOf r 0) (high : argOf r 0 ≤ 8)
    (idle : s.dev.unitBusy (argOf r 0) = false) : Does (.switchClear r) s (fun d => s.dev.Accepted d r 0x0503 ∧
      d.gd = { s.dev.gd with diag := s.dev.gd.diag ++ [⟨argOf r 0, 1, some s.dev.mgmt.nextJob, true, s.dev.clk, 0, 0⟩] } ∧ d.edge = s.dev.edge) := by
  obtain ⟨e, claims, next⟩ := command_finds (c := .switchClear r) (r := r) rfl serves
  have stands : ¬ (!e.unitOff (argOf r 0)) = true := ne_true_of_eq_false (congrArg (!·) ((claims.same (·.unitOff (argOf r 0)) fun _ => rfl).trans off))
  have free : ¬ e.unitBusy (argOf r 0) = true := ne_true_of_eq_false ((claims.same (·.unitBusy (argOf r 0)) fun _ => rfl).trans idle)
  have meaning : exec (.switchClear r) s = .next { s with dev := startDiag (accept e r 0x0503 0 []).1 (argOf r 0) e.mgmt.nextJob true } :=
    next.trans (next_of_dev ((if_neg (by omega)).trans ((if_neg stands).trans ((if_pos (decide_eq_true ⟨low, high⟩)).trans (if_neg free)))))
  have accepted := claims.accepts serves 0 []
  have only := accept_only e r 0x0503 0 []
  generalize (accept e r 0x0503 0 []).1 = j at meaning accepted only
  have gd := (only.same (·.gd) fun _ _ _ => rfl).trans (claims.same (·.gd) fun _ => rfl)
  have clk := (only.same (·.clk) fun _ _ _ => rfl).trans (claims.same (·.clk) fun _ => rfl)
  have num := claims.same (·.mgmt.nextJob) fun _ => rfl
  refine does_of_dev meaning ⟨accepted.keeps rfl rfl, ?_, (only.same (·.edge) fun _ _ _ => rfl).trans (claims.same (·.edge) fun _ => rfl)⟩
  rw [← num, ← gd, ← clk]
  rfl

/-- The COMMAND frames of a unit behind the edge links (R248). -/
theorem sendClear_eq (d : Dev) (u : Nat) (two : d.edge.length = 2) : ∃ es : List LinkSt, sendClear d u = { d with edge := es } ∧
    ∀ k, k < 2 → (es.getD k LinkSt.reset).cmdq = if linkMask u k = 0 then (d.link k).cmdq else (d.link k).cmdq ++ [linkMask u k] := by
  have one (d : Dev) (i : Nat) (inside : i < d.edge.length) : ∃ es : List LinkSt,
      (if linkMask u i = 0 then d else d.onLink i (fun x => { x with cmdq := x.cmdq ++ [linkMask u i] })) = { d with edge := es } ∧ es.length = d.edge.length ∧
      (es.getD i LinkSt.reset).cmdq = (if linkMask u i = 0 then (d.link i).cmdq else (d.link i).cmdq ++ [linkMask u i]) ∧
      ∀ k, k ≠ i → es.getD k LinkSt.reset = d.link k := by
    split_ifs
    · exact ⟨d.edge, rfl, rfl, rfl, fun _ _ => rfl⟩
    · exact ⟨_, rfl, List.length_modify .., congrArg (·.cmdq) (modAt_getD inside _ _), fun k other => modAt_getD_ne _ _ _ other⟩
  obtain ⟨es, first, len, here, rest⟩ := one d 0 (by omega)
  obtain ⟨es', second, -, here', rest'⟩ := one { d with edge := es } 1 (by show 1 < es.length; omega)
  refine ⟨es', ?_, fun k small => ?_⟩
  · unfold sendClear
    rw [List.foldl_cons, List.foldl_cons, List.foldl_nil, first, second]
  · obtain rfl | rfl : k = 0 ∨ k = 1 := by omega
    · rw [rest' 0 (by decide)]
      exact here
    · rw [here', show Dev.link { d with edge := es } 1 = d.link 1 from rest 1 (by decide)]
/-- The job of a latch clear that ends with its frames. -/
def clearJob (d : Dev) (r : Request) : Dev := ((accept d r 0x0503 0 []).1.onJob d.mgmt.nextJob (fun j => { j with res := [0] })).endJob d.mgmt.nextJob 0 0
theorem clearJob_does {d x : Dev} (serves : d.Serves r 0x0503) (host : x.host = d.host) (num : x.mgmt.nextJob = d.mgmt.nextJob) :
    d.Accepted (clearJob x r) r 0x0503 ∧ (clearJob x r).gd = x.gd ∧ (clearJob x r).edge = x.edge := by
  have accepted := serves.accepts host num 0 []
  have only := accept_only x r 0x0503 0 []
  unfold clearJob
  generalize (accept x r 0x0503 0 []).1 = j at accepted only
  have told : d.Accepted (j.onJob x.mgmt.nextJob (fun j => { j with res := [0] })) r 0x0503 :=
    accepted.onJob _ (f := fun j => { j with res := [0] }) (fun _ => ⟨rfl, rfl, rfl⟩)
  exact ⟨told.endJob _ _ _, only.same (·.gd) fun _ _ _ => rfl, only.same (·.edge) fun _ _ _ => rfl⟩
/-- The body of SWITCH_CLEAR. -/
def clearBody (r : Request) (d : Dev) : Dev :=
  if 11 < argOf r 0 then refuse d r 0x0503 0x12 2
  else if !d.unitOff (argOf r 0) then refuse d r 0x0503 0x13 2
  else if decide (2 ≤ argOf r 0 ∧ argOf r 0 ≤ 8) then
    if d.unitBusy (argOf r 0) then refuse d r 0x0503 3 0
    else
      let (d, n) := accept d r 0x0503 0 []
      startDiag d (argOf r 0) n true
  else
    let (d, n) := accept (sendClear d (argOf r 0)) r 0x0503 0 []
    (d.onJob n (fun j => { j with res := [0] })).endJob n 0 0
theorem clearBody_edge {d : Dev} (known : argOf r 0 ≤ 11) (off : d.unitOff (argOf r 0) = true) (edge : argOf r 0 < 2 ∨ 8 < argOf r 0) :
    clearBody r d = clearJob (sendClear d (argOf r 0)) r := by
  unfold clearBody
  rw [if_neg (by omega), if_neg (ne_true_of_eq_false (congrArg (!·) off)), if_neg (by simp; omega)]
  generalize sendClear d (argOf r 0) = x
  rfl
theorem switchClear_next (serves : s.dev.Serves r 0x0503) (low : argOf r 0 ≤ 11) (off : s.dev.unitOff (argOf r 0) = true) (edge : argOf r 0 < 2 ∨ 8 < argOf r 0) :
    ∃ e, s.dev.Claims e ∧ exec (.switchClear r) s = .next { s with dev := clearJob (sendClear e (argOf r 0)) r } := by
  obtain ⟨e, claims, next⟩ := command_finds (c := .switchClear r) (r := r) (body := clearBody r) rfl serves
  exact ⟨e, claims, next.trans (next_of_dev (clearBody_edge low ((claims.same (·.unitOff (argOf r 0)) fun _ => rfl).trans off) edge))⟩
/-- SWITCH_CLEAR of a unit behind the edge links (R248). -/
theorem switchClear_edge (serves : s.dev.Serves r 0x0503) (low : argOf r 0 ≤ 11) (off : s.dev.unitOff (argOf r 0) = true) (edge : argOf r 0 < 2 ∨ 8 < argOf r 0)
    (two : s.dev.edge.length = 2) : Does (.switchClear r) s (fun d => s.dev.Accepted d r 0x0503 ∧ d.gd = s.dev.gd ∧ (∀ k : Nat, k < 2 → (d.link k).cmdq =
      if linkMask (argOf r 0) k = 0 then (s.dev.link k).cmdq else (s.dev.link k).cmdq ++ [linkMask (argOf r 0) k])) := by
  obtain ⟨e, claims, meaning⟩ := switchClear_next serves low off edge
  obtain ⟨es, sent, queues⟩ := sendClear_eq e (argOf r 0) ((claims.same (·.edge.length) fun _ => rfl).trans two)
  rw [sent] at meaning
  obtain ⟨accepted, gd, links⟩ := clearJob_does (x := { e with edge := es }) serves (claims.same (·.host) fun _ => rfl) (claims.same (·.mgmt.nextJob) fun _ => rfl)
  refine does_of_dev meaning ⟨accepted, gd.trans (claims.same (·.gd) fun _ => rfl), fun i small => ?_⟩
  have link := claims.same (·.link i) fun _ => rfl
  rw [← link, ← queues i small]
  exact congrArg (fun l : List LinkSt => (l.getD i LinkSt.reset).cmdq) links

end

end Sys2Proof.Machine
end

section
/-! SUPPORT. Mailbox commands of the pair, of the flash slots and of the identity engine (R92, R344, R399, R401, R421 to R425, R429 to R431). -/

namespace Sys2Proof.Machine
open Sys2Proof

/-! ### Service frames -/

/-- Sending service frames leaves the role, a swap and a relay under way. -/
structure PairSt.Sent (p p' : PairSt) : Prop where
  role : p'.role = p.role
  swap : p'.swap = p.swap
  relay : p'.relay = p.relay
  sentRole : p'.sentRole = p.sentRole
theorem PairSt.Sent.trans {p p' p'' : PairSt} (h : p.Sent p') (h' : p'.Sent p'') : p.Sent p'' :=
  ⟨h'.role.trans h.role, h'.swap.trans h.swap, h'.relay.trans h.relay, h'.sentRole.trans h.sentRole⟩
theorem svcLoop_sent (n lim : Nat) (d : Dev) : d.pair.Sent (svcLoop n lim d).pair := by
  induction n generalizing d with
  | zero => exact ⟨rfl, rfl, rfl, rfl⟩
  | succ n ih =>
    unfold svcLoop
    split
    next t e b _ =>
      split_ifs
      · refine PairSt.Sent.trans ?_ (ih _)
        cases e <;> exact ⟨rfl, rfl, rfl, rfl⟩
      · exact ⟨rfl, rfl, rfl, rfl⟩
    · exact ⟨rfl, rfl, rfl, rfl⟩
theorem Dev.handSvc_sent (d : Dev) (b : SvcBody) : ∃ p : PairSt, d.handSvc b = { d with pair := p } ∧ d.pair.Sent p := by
  obtain ⟨p, is⟩ := d.handSvc_pair b
  refine ⟨p, is, ?_⟩
  have sent : d.pair.Sent (d.handSvc b).pair := by
    unfold Dev.handSvc Dev.svcGo
    split_ifs
    · refine PairSt.Sent.trans ?_ (svcLoop_sent _ _ _)
      exact ⟨rfl, rfl, rfl, rfl⟩
    · exact ⟨rfl, rfl, rfl, rfl⟩
  rw [is] at sent
  exact sent

section
variable {s : State} {r : Request}

/-- The active proposes its swap (R344). -/
theorem proposeSwap_eq (d : Dev) (kind : Nat) (job : Option Nat) : ∃ p : PairSt, proposeSwap d kind job = { d with pair := p } ∧ p.role = d.pair.role ∧
    p.swap = some (kind, swapCycle d, false, job) ∧ p.sentRole = some (1, kind, swapCycle d) := by
  obtain ⟨p, is, sent⟩ := (d.onPair (fun p => { p with sentRole := some (1, kind, swapCycle d) })).handSvc_sent (.role 1 kind d.pair.epoch (swapCycle d) d.img.digest)
  refine ⟨{ p with swap := some (kind, swapCycle d, false, job) }, ?_, sent.role, rfl, sent.sentRole⟩
  exact congrArg (fun x : Dev => x.onPair (fun p => { p with swap := some (kind, swapCycle d, false, job) })) is

/-- PAIR_SWAP of an active device with no swap under way (R344, R401). -/
theorem pairSwap_taken (serves : s.dev.Serves r 0x0602) (low : argOf r 0 ≤ 1) (active : s.dev.isActive = true) (idle : s.dev.pair.swap = none) :
    Does (.pairSwap r) s (fun d => s.dev.Accepted d r 0x0602 ∧
      (s.dev.pairUp = true → d.pair.sentRole = some (1, argOf r 0, swapCycle s.dev) ∧
        d.pair.role = s.dev.pair.role ∧ d.pair.swap = some (argOf r 0, swapCycle s.dev, false, some s.dev.mgmt.nextJob) ∧ d.lanes = s.dev.lanes) ∧
      (s.dev.pairUp = false → d.pair = s.dev.pair ∧ ∃ j ∈ d.mgmt.jobs, j.num = s.dev.mgmt.nextJob ∧ j.done = true ∧ j.status = 0x19 ∧ j.detail = 6)) := by
  obtain ⟨e, claims, next⟩ := command_finds (c := .pairSwap r) (r := r) rfl serves
  have known : ¬ 1 < argOf r 0 := by omega
  have leads : ¬ (!e.isActive) = true := ne_true_of_eq_false (congrArg (!·) ((claims.same (·.isActive) fun _ => rfl).trans active))
  have free : ¬ e.pair.swap.isSome = true := ne_true_of_eq_false (congrArg Option.isSome ((claims.same (·.pair.swap) fun _ => rfl).trans idle))
  have meaning : exec (.pairSwap r) s = .next { s with
      dev := if (accept e r 0x0602 0 []).1.pairUp then proposeSwap (accept e r 0x0602 0 []).1 (argOf r 0) (some e.mgmt.nextJob)
        else (accept e r 0x0602 0 []).1.endJob e.mgmt.nextJob 0x19 6 } :=
    next.trans (next_of_dev ((if_neg known).trans ((if_neg leads).trans (if_neg free))))
  have accepted := claims.accepts serves 0 []
  have only := accept_only e r 0x0602 0 []
  have newest : ∃ j ∈ (accept e r 0x0602 0 []).1.mgmt.jobs, j.num = e.mgmt.nextJob ∧ j.done = false := by
    have jobs : (accept e r 0x0602 0 []).1.mgmt.jobs = _ := congrArg (·.jobs) (sendReply_mgmt ..)
    refine ⟨⟨e.mgmt.nextJob, 0x0602, r, BitVec.ofNat 64 0, [], false, false, 0, 0, []⟩, ?_, rfl, rfl⟩
    rw [jobs, Dev.onMgmt_mgmt]
    dsimp only
    rw [List.drop_append_of_le_length (by omega)]
    exact List.mem_append_right _ List.mem_cons_self
  generalize (accept e r 0x0602 0 []).1 = j at meaning accepted only newest
  have num := claims.same (·.mgmt.nextJob) fun _ => rfl
  have up := (only.same (·.pairUp) fun _ _ _ => rfl).trans (claims.same (·.pairUp) fun _ => rfl)
  have cycle := (only.same swapCycle fun _ _ _ => rfl).trans (claims.same swapCycle fun _ => rfl)
  have pair := (only.same (·.pair) fun _ _ _ => rfl).trans (claims.same (·.pair) fun _ => rfl)
  refine does_of_dev meaning ?_
  cases linked : s.dev.pairUp with
  | true =>
    rw [if_pos (up.trans linked)]
    obtain ⟨p, is, role, swap, sentRole⟩ := proposeSwap_eq j (argOf r 0) (some e.mgmt.nextJob)
    rw [is]
    refine ⟨accepted.keeps rfl rfl, fun _ => ⟨sentRole.trans (by rw [cycle]), role.trans (congrArg (·.role) pair), swap.trans (by rw [cycle, num]), ?_⟩, nofun⟩
    exact (only.same (·.lanes) fun _ _ _ => rfl).trans (claims.same (·.lanes) fun _ => rfl)
  | false =>
    rw [if_neg (ne_true_of_eq_false (up.trans linked))]
    refine ⟨accepted.endJob _ _ _, nofun, fun _ => ⟨pair, ?_⟩⟩
    obtain ⟨x, in_, is, open_⟩ := newest
    refine ⟨_, List.mem_map_of_mem in_, ?_⟩
    rw [if_pos (by rw [is, open_, beq_self_eq_true]; rfl)]
    exact ⟨is.trans num, rfl, rfl, rfl⟩

/-- PAIR_RELAY with none under way (R401). -/
theorem pairRelay_taken (serves : s.dev.Serves r 0x0603) (idle : s.dev.pair.relay = none) : Does (.pairRelay r) s (fun d => s.dev.Accepted d r 0x0603 ∧
    d.pair.relay = some (s.dev.mgmt.nextJob, r.args, 1) ∧ d.pair.role = s.dev.pair.role ∧ d.pair.swap = s.dev.pair.swap ∧ d.lanes = s.dev.lanes) := by
  obtain ⟨e, claims, next⟩ := command_finds (c := .pairRelay r) (r := r) rfl serves
  have free : ¬ e.pair.relay.isSome = true := ne_true_of_eq_false (congrArg Option.isSome ((claims.same (·.pair.relay) fun _ => rfl).trans idle))
  have meaning : exec (.pairRelay r) s = .next { s with
      dev := ((accept e r 0x0603 0 []).1.onPair (fun p => { p with relay := some (e.mgmt.nextJob, r.args, 1) })).handSvc (.mailbox 13 r.args) } :=
    next.trans (next_of_dev (if_neg free))
  have accepted := claims.accepts serves 0 []
  have only := accept_only e r 0x0603 0 []
  generalize (accept e r 0x0603 0 []).1 = j at meaning accepted only
  obtain ⟨p, is, sent⟩ := (j.onPair (fun p => { p with relay := some (e.mgmt.nextJob, r.args, 1) })).handSvc_sent (.mailbox 13 r.args)
  rw [is] at meaning
  have num := claims.same (·.mgmt.nextJob) fun _ => rfl
  have pair := (only.same (·.pair) fun _ _ _ => rfl).trans (claims.same (·.pair) fun _ => rfl)
  refine does_of_dev meaning ⟨accepted.keeps rfl rfl, sent.relay.trans (by rw [← num]; rfl), sent.role.trans (congrArg (·.role) pair), sent.swap.trans (congrArg (·.swap) pair), ?_⟩
  exact (only.same (·.lanes) fun _ _ _ => rfl).trans (claims.same (·.lanes) fun _ => rfl)

/-! ### Slot writes -/

/-- The bytes of one part of a slot. -/
theorem flashPart_put_same (f : Flash) {slot : Nat} (fw : Bool) (bs : List Byte) : flashPart (flashPut f slot fw bs) slot fw = bs := by
  unfold flashPart flashPut
  by_cases a : slot = 0 <;> cases fw <;> simp [a]
theorem flashPart_put_other (f : Flash) {slot x : Nat} {fw w : Bool} (low : slot ≤ 1) (low' : x ≤ 1) (other : (x, w) ≠ (slot, fw)) (bs : List Byte) :
    flashPart (flashPut f slot fw bs) x w = flashPart f x w := by
  unfold flashPart flashPut
  obtain rfl | rfl : slot = 0 ∨ slot = 1 := by omega
  · obtain rfl | rfl : x = 0 ∨ x = 1 := by omega
    · cases fw <;> cases w <;> first | rfl | exact absurd rfl other
    · cases fw <;> cases w <;> rfl
  · obtain rfl | rfl : x = 0 ∨ x = 1 := by omega
    · cases fw <;> cases w <;> rfl
    · cases fw <;> cases w <;> first | rfl | exact absurd rfl other
/-- A part that is being written is not valid; the other parts are as before (R92). -/
theorem putSlot_writes (d : Dev) {slot : Nat} (fw : Bool) (bs : List Byte) (low : slot ≤ 1) : flashPart (putSlot d slot fw bs false).boot.flash slot fw = bs ∧
    (putSlot d slot fw bs false).partOk slot fw = false ∧
    ∀ (x : Nat) (w : Bool), x ≤ 1 → (x, w) ≠ (slot, fw) → flashPart (putSlot d slot fw bs false).boot.flash x w = flashPart d.boot.flash x w ∧
      (putSlot d slot fw bs false).partOk x w = d.partOk x w := by
  have valid (y : Nat × Bool) : (putSlot d slot fw bs false).boot.valid.contains y = (d.boot.valid.contains y && y != (slot, fw)) := by
    show (d.boot.valid.filter (fun x => x != (slot, fw)) ++ []).contains y = _
    rw [List.append_nil, Bool.eq_iff_iff]
    simp
  refine ⟨flashPart_put_same .., ?_, fun x w low' other => ⟨flashPart_put_other _ low low' other _, ?_⟩⟩
  · rw [Dev.partOk, valid, bne_self_eq_false, Bool.and_false]
  · rw [Dev.partOk, valid, bne_iff_ne.mpr other, Bool.and_true, Dev.partOk]

theorem imageWrite_taken (serves : s.dev.Serves r 0x0210) (two : r.args.length = 2) (low : argOf r 0 ≤ 1) (other : s.dev.boot.imgSlot ≠ some (argOf r 0))
    (idle : s.dev.writing = false) (free : s.dev.bulkBusy r.sender = false) (some_ : 0 < argOf r 1) (fits : argOf r 1 ≤ 2097152) :
    Does (.imageWrite r) s (fun d => s.dev.Accepted d r 0x0210 ∧ flashPart d.boot.flash (argOf r 0) false = s.dev.bulkBytes 0 (argOf r 1) ∧
      d.partOk (argOf r 0) false = false ∧ (∀ (x : Nat) (w : Bool), x ≤ 1 → (x, w) ≠ (argOf r 0, false) →
        flashPart d.boot.flash x w = flashPart s.dev.boot.flash x w ∧ d.partOk x w = s.dev.partOk x w)) := by
  obtain ⟨e, claims, next⟩ := command_finds (c := .imageWrite r) (r := r) rfl serves
  dsimp only at next
  rw [if_pos two] at next
  have known : ¬ 1 < argOf r 0 := by omega
  have quiet : ¬ e.boot.imgSlot = some (argOf r 0) := fun h => other ((claims.same (·.boot.imgSlot) fun _ => rfl).symm.trans h)
  have open_ : ¬ (e.writing || e.bulkBusy r.sender) = true := by
    rw [(claims.same (·.writing) fun _ => rfl).trans idle, (claims.busy _).trans free]
    nofun
  have sized : ¬ (decide (argOf r 1 = 0) || decide (2097152 < argOf r 1)) = true := by simp; omega
  have meaning : exec (.imageWrite r) s = .next { s with
      dev := putSlot (accept (claimBulk e r.sender) r 0x0210 0 []).1 (argOf r 0) false (e.bulkBytes 0 (argOf r 1)) false } :=
    next.trans (next_of_dev ((if_neg known).trans ((if_neg quiet).trans ((if_neg open_).trans (if_neg sized)))))
  rw [claims.same (·.bulkBytes 0 (argOf r 1)) fun _ => rfl] at meaning
  have accepted := serves.accepts (d' := claimBulk e r.sender) (claims.same (·.host) fun _ => rfl) (claims.same (·.mgmt.nextJob) fun _ => rfl) 0 []
  have boot := (accept_only (claimBulk e r.sender) r 0x0210 0 []).same (·.boot) fun _ _ _ => rfl
  generalize (accept (claimBulk e r.sender) r 0x0210 0 []).1 = j at meaning accepted boot
  have before := boot.trans (claims.same (·.boot) fun _ => rfl)
  obtain ⟨bytes, invalid, rest⟩ := putSlot_writes j false (s.dev.bulkBytes 0 (argOf r 1)) low
  refine does_of_dev meaning ⟨accepted.keeps rfl rfl, bytes, invalid, fun x w low' other => ?_⟩
  obtain ⟨part, ok⟩ := rest x w low' other
  exact ⟨part.trans (by rw [before]), ok.trans (by rw [Dev.partOk, before]; rfl)⟩

theorem fwWrite_taken (serves : s.dev.Serves r 0x0701) (low : argOf r 0 ≤ 1) (other : s.dev.boot.fwSlot ≠ some (argOf r 0)) (idle : s.dev.writing = false)
    (free : s.dev.bulkBusy r.sender = false) (start : argOf r 1 = 0) (some_ : 0 < argOf r 2) (fits : argOf r 2 ≤ 2097152) (sectors : argOf r 2 % 4096 = 0)
    (more : (argOf r 3).testBit 0 = false) : Does (.fwWrite r) s (fun d => s.dev.Accepted d r 0x0701 ∧
      flashPart d.boot.flash (argOf r 0) true = s.dev.bulkBytes 0 (argOf r 2) ∧ d.partOk (argOf r 0) true = false ∧ (argOf r 0, argOf r 2) ∈ d.mgmt.fwNext) := by
  obtain ⟨e, claims, next⟩ := command_finds (c := .fwWrite r) (r := r) rfl serves
  dsimp only at next
  rw [start, more] at next
  have known : ¬ 1 < argOf r 0 := by omega
  have quiet : ¬ e.boot.fwSlot = some (argOf r 0) := fun h => other ((claims.same (·.boot.fwSlot) fun _ => rfl).symm.trans h)
  have open_ : ¬ (e.writing || e.bulkBusy r.sender) = true := by
    rw [(claims.same (·.writing) fun _ => rfl).trans idle, (claims.busy _).trans free]
    nofun
  rw [if_neg known, if_neg quiet, if_neg open_, if_neg (by simp; omega)] at next
  rw [claims.same (·.bulkBytes 0 (argOf r 2)) fun _ => rfl, List.take_zero, List.nil_append, if_neg (by nofun), Nat.zero_add] at next
  have accepted := serves.accepts (d' := claimBulk e r.sender) (claims.same (·.host) fun _ => rfl) (claims.same (·.mgmt.nextJob) fun _ => rfl) 0 []
  generalize (accept (claimBulk e r.sender) r 0x0701 0 []).1 = j at next accepted
  obtain ⟨bytes, invalid, -⟩ := putSlot_writes j true (s.dev.bulkBytes 0 (argOf r 2)) low
  exact does_of_dev next ⟨accepted.keeps rfl rfl, bytes, invalid, List.mem_append_right _ List.mem_cons_self⟩

end

end Sys2Proof.Machine
end

section
/-! SUPPORT. Mailbox commands of the boot-control block, the identity engine, power and the journal (R399, R402, R411 to R413, R422, R425, R429 to R431). -/

namespace Sys2Proof.Machine
open Sys2Proof

/-! ### The boot-control block -/

/-- A copy reads back with its sequence number and slot (R422). -/
theorem bootCopy_bootBytes {seq slot : Nat} (small : seq < 2 ^ 32) (low : slot ≤ 1) : bootCopy (bootBytes seq slot) = some (seq, slot) := by
  have head : (leBytes seq 4 ++ leBytes slot 1).length = 5 := by rw [List.length_append, length_leBytes, length_leBytes]
  generalize sum : (crc32c (leBytes seq 4 ++ leBytes slot 1)).toNat = crc
  have whole : bootBytes seq slot = leBytes seq 4 ++ leBytes slot 1 ++ leBytes crc 4 := by rw [← sum]; rfl
  have crcSmall : crc < 256 ^ 4 := by rw [← sum]; exact (crc32c _).isLt
  have first : fieldAt (bootBytes seq slot) 0 4 = seq := by
    rw [whole, fieldAt, List.drop_zero, List.append_assoc, List.take_left' (length_leBytes ..), leNat_leBytes, Nat.mod_eq_of_lt (by omega)]
  have second : fieldAt (bootBytes seq slot) 4 1 = slot := by
    rw [whole, fieldAt, List.append_assoc, List.drop_left' (length_leBytes ..), List.take_left' (length_leBytes ..), leNat_leBytes, Nat.mod_eq_of_lt (by omega)]
  have third : fieldAt (bootBytes seq slot) 5 4 = crc := by
    rw [whole, fieldAt, List.drop_left' head, List.take_of_length_le (by rw [length_leBytes]), leNat_leBytes, Nat.mod_eq_of_lt crcSmall]
  have body : (bootBytes seq slot).take 5 = leBytes seq 4 ++ leBytes slot 1 := by rw [whole, List.take_left' head]
  have len : (bootBytes seq slot).length = 9 := by rw [whole, List.length_append, head, length_leBytes]
  unfold bootCopy
  rw [if_pos (by rw [len, second, third, body, sum]; simp; omega), first, second]

/-- The selected slot is the preferred one from then on, and no part of a slot changes (R422). -/
theorem selectSlot_prefers (f : Flash) {slot : Nat} (low : slot ≤ 1) (small : ∀ x : Nat × Nat, bootCopy f.bcb0 = some x ∨ bootCopy f.bcb1 = some x → x.1 < 2 ^ 32 - 1) :
    preferred (selectSlot f slot) = slot ∧ ∀ (x : Nat) (w : Bool), flashPart (selectSlot f slot) x w = flashPart f x w := by
  have parts (a b : List Byte) (x : Nat) (w : Bool) : flashPart { f with bcb0 := a, bcb1 := b } x w = flashPart f x w := rfl
  unfold selectSlot
  rcases c0 : bootCopy f.bcb0 with _ | ⟨s0, p0⟩ <;> rcases c1 : bootCopy f.bcb1 with _ | ⟨s1, p1⟩
  · have copy : bootCopy (bootBytes 1 slot) = some (1, slot) := bootCopy_bootBytes (by omega) low
    refine ⟨?_, parts _ _⟩
    unfold preferred
    dsimp only
    rw [copy, c1]
  · have := small _ (.inr c1)
    have copy : bootCopy (bootBytes (s1 + 1) slot) = some (s1 + 1, slot) := bootCopy_bootBytes (by dsimp only at this; omega) low
    refine ⟨?_, parts _ _⟩
    unfold preferred
    dsimp only
    rw [copy, c1]
    exact if_neg (by omega)
  · have := small _ (.inl c0)
    have copy : bootCopy (bootBytes (s0 + 1) slot) = some (s0 + 1, slot) := bootCopy_bootBytes (by dsimp only at this; omega) low
    refine ⟨?_, parts _ _⟩
    unfold preferred
    dsimp only
    rw [copy, c0]
    exact if_pos (by omega)
  · dsimp only
    by_cases older : s0 < s1
    · have := small _ (.inr c1)
      have copy : bootCopy (bootBytes (s1 + 1) slot) = some (s1 + 1, slot) := bootCopy_bootBytes (by dsimp only at this; omega) low
      rw [if_pos older]
      refine ⟨?_, parts _ _⟩
      unfold preferred
      dsimp only
      rw [copy, c1]
      exact if_neg (by omega)
    · have := small _ (.inl c0)
      have copy : bootCopy (bootBytes (s0 + 1) slot) = some (s0 + 1, slot) := bootCopy_bootBytes (by dsimp only at this; omega) low
      rw [if_neg older]
      refine ⟨?_, parts _ _⟩
      unfold preferred
      dsimp only
      rw [copy, c0]
      exact if_pos (by omega)

/-! ### Served requests -/

/-- An answer alters the host window alone. -/
def Dev.HostOnly (e j : Dev) : Prop := ∃ h : HostSt, j = { e with host := h }
theorem Dev.HostOnly.same {e j : Dev} {α : Type} (only : e.HostOnly j) (f : Dev → α) (blind : ∀ h, f { e with host := h } = f e) : f j = f e := by
  obtain ⟨h, rfl⟩ := only
  exact blind h
theorem okay_only (e : Dev) (r : Request) (code : Nat) (res : List Word) : e.HostOnly (okay e r code res) := by
  obtain ⟨f, is⟩ := sendReply_eq e r.mbox (replyWords r code 0 0 0 res)
  exact ⟨f e.host, is⟩
theorem refuse_only (e : Dev) (r : Request) (code st dt : Nat) : e.HostOnly (refuse e r code st dt) := by
  obtain ⟨cs, counted⟩ := countStatus_host e st
  obtain ⟨f, is⟩ := sendReply_eq (countStatus e st) r.mbox (replyWords r code 0 st dt [])
  have shape : refuse e r code st dt = sendReply (countStatus e st) r.mbox (replyWords r code 0 st dt []) := rfl
  rw [shape, is, counted]
  exact ⟨_, rfl⟩

section
variable {s : State} {r : Request} {code : Nat} {e : Dev}

theorem Dev.Serves.answers (serves : s.dev.Serves r code) (out : e.host.outb = s.dev.host.outb) (replies : e.host.replies = s.dev.host.replies) (res : List Word) :
    s.dev.Answered (okay e r code res) r.mbox (replyWords r code 0 0 0 res) := by
  obtain ⟨-, box, sixteen, -⟩ := serves
  exact sendReply_answers _ out replies sixteen (by omega)
theorem Dev.Claims.answers (claims : s.dev.Claims e) (serves : s.dev.Serves r code) (res : List Word) :
    s.dev.Answered (okay e r code res) r.mbox (replyWords r code 0 0 0 res) :=
  serves.answers (claims.same (·.host.outb) fun _ => rfl) (claims.same (·.host.replies) fun _ => rfl) res
theorem Dev.Quiet.hostOnly {d e j : Dev} (quiet : d.Quiet e) (only : e.HostOnly j) : d.Quiet j := by
  obtain ⟨h, rfl⟩ := only
  exact quiet

theorem slotSelect_does (serves : s.dev.Serves r 0x0703) (low : argOf r 0 ≤ 1)
    (small : ∀ x : Nat × Nat, bootCopy s.dev.boot.flash.bcb0 = some x ∨ bootCopy s.dev.boot.flash.bcb1 = some x → x.1 < 2 ^ 32 - 1) :
    Does (.slotSelect r) s (fun d => s.dev.Answered d r.mbox (replyWords r 0x0703 0 0 0 []) ∧ preferred d.boot.flash = argOf r 0 ∧
      (∀ (x : Nat) (w : Bool), flashPart d.boot.flash x w = flashPart s.dev.boot.flash x w) ∧ d.boot.imgSlot = s.dev.boot.imgSlot ∧ d.lanes = s.dev.lanes) := by
  obtain ⟨e, claims, next⟩ := command_finds (c := .slotSelect r) (r := r) rfl serves
  have known : ¬ 1 < argOf r 0 := by omega
  have meaning : exec (.slotSelect r) s = .next { s with dev := okay (e.onBoot (fun b => { b with flash := selectSlot b.flash (argOf r 0) })) r 0x0703 [] } :=
    next.trans (next_of_dev (if_neg known))
  have boot := claims.same (·.boot) fun _ => rfl
  obtain ⟨prefers, parts⟩ := selectSlot_prefers s.dev.boot.flash low small
  have only := okay_only (e.onBoot (fun b => { b with flash := selectSlot b.flash (argOf r 0) })) r 0x0703 []
  have answered := serves.answers (e := e.onBoot (fun b => { b with flash := selectSlot b.flash (argOf r 0) })) (claims.same (·.host.outb) fun _ => rfl) (claims.same (·.host.replies) fun _ => rfl) []
  generalize okay (e.onBoot (fun b => { b with flash := selectSlot b.flash (argOf r 0) })) r 0x0703 [] = j at meaning only answered
  have flash : j.boot.flash = selectSlot s.dev.boot.flash (argOf r 0) := (only.same (·.boot.flash) fun _ => rfl).trans (congrArg (fun b : BootSt => selectSlot b.flash (argOf r 0)) boot)
  refine does_of_dev meaning ⟨answered, by rw [flash, prefers], fun x w => by rw [flash, parts], (only.same (·.boot.imgSlot) fun _ => rfl).trans (congrArg (·.imgSlot) boot), ?_⟩
  exact (only.same (·.lanes) fun _ => rfl).trans (claims.same (·.lanes) fun _ => rfl)

/-- RESTART: one ms to send the reply (R399). -/
theorem restart_taken (serves : s.dev.Serves r 0x0704) (free : (s.dev.boot.released && s.dev.isActive && !s.dev.partnerReady && !s.dev.stopDown) = false) :
    Does (.restart r) s (fun d => s.dev.Answered d r.mbox (replyWords r 0x0704 0 0 0 []) ∧ d.mgmt.restart = some (s.dev.clk + 640000) ∧ s.dev.Quiet d) := by
  obtain ⟨e, claims, next⟩ := command_finds (c := .restart r) (r := r) rfl serves
  have go := ne_true_of_eq_false ((claims.same (fun d => d.boot.released && d.isActive && !d.partnerReady && !d.stopDown) fun _ => rfl).trans free)
  have meaning : exec (.restart r) s = .next { s with dev := (okay e r 0x0704 []).onMgmt (fun m => { m with restart := some (e.clk + msClk) }) } :=
    next.trans (next_of_dev (if_neg go))
  rw [claims.same (·.clk) fun _ => rfl] at meaning
  have answered := claims.answers serves []
  have quiet := claims.quiet.hostOnly (okay_only e r 0x0704 [])
  generalize okay e r 0x0704 [] = j at meaning answered quiet
  exact does_of_dev meaning ⟨answered.keeps rfl rfl (fun h => h), rfl, quiet⟩

/-! ### Keys -/

theorem attest_taken (serves : s.dev.Serves r 0x0901) (free : s.dev.bulkBusy r.sender = false) (idle : s.dev.jobRuns 0x0901 = false) (open_ : s.dev.keyLocked = false) :
    Does (.attest r) s (fun d => s.dev.Accepted d r 0x0901 ∧ d.mgmt.claim = some (r.sender, s.dev.clk) ∧ s.dev.Quiet d) := by
  obtain ⟨e, claims, next⟩ := command_finds (c := .attest r) (r := r) rfl serves
  have go : ¬ (e.bulkBusy r.sender || e.jobRuns 0x0901) = true := by
    rw [(claims.busy _).trans free, (claims.same (·.jobRuns 0x0901) fun _ => rfl).trans idle]
    nofun
  have keys := ne_true_of_eq_false ((claims.same (·.keyLocked) fun _ => rfl).trans open_)
  have meaning : exec (.attest r) s = .next { s with dev := (accept (claimBulk e r.sender) r 0x0901 0 []).1 } :=
    next.trans (next_of_dev ((if_neg go).trans (if_neg keys)))
  have only := accept_only (claimBulk e r.sender) r 0x0901 0 []
  have quiet : s.dev.Quiet (claimBulk e r.sender) := claims.quiet
  exact does_of_dev meaning ⟨serves.accepts (d' := claimBulk e r.sender) (claims.same (·.host) fun _ => rfl) (claims.same (·.mgmt.nextJob) fun _ => rfl) 0 [],
    (only.same (·.mgmt.claim) fun _ _ _ => rfl).trans (congrArg (fun c => some (r.sender, c)) (claims.same (·.clk) fun _ => rfl)), quiet.jobOnly only⟩

/-- A challenge of 32 bytes is issued as it is (R430). -/
theorem debugChallenge_does (serves : s.dev.Serves r 0x0902) {rnd : List Byte} (len : rnd.length = 32) : Does (.debugChallenge r rnd) s (fun d =>
    s.dev.Answered d r.mbox (replyWords r 0x0902 0 0 0 (wordsOf 8 rnd)) ∧ d.mgmt.challenge = some (rnd, s.dev.clk) ∧ s.dev.Quiet d) := by
  have whole : padTo 32 rnd = rnd := by
    rw [padTo, List.take_of_length_le (by omega), len]
    exact List.append_nil _
  obtain ⟨e, claims, next⟩ := command_finds (c := .debugChallenge r rnd) (r := r) rfl serves
  dsimp only at next
  rw [whole, claims.same (·.clk) fun _ => rfl] at next
  generalize held : e.onMgmt (fun m => { m with challenge := some (rnd, s.dev.clk) }) = x at next
  have host : x.host = s.dev.host := by rw [← held]; exact claims.same (·.host) fun _ => rfl
  have kept : x.mgmt.challenge = some (rnd, s.dev.clk) := by rw [← held]; rfl
  have quiet : s.dev.Quiet x := by rw [← held]; exact claims.quiet
  have answered := serves.answers (e := x) (congrArg (·.outb) host) (congrArg (·.replies) host) (wordsOf 8 rnd)
  have only := okay_only x r 0x0902 (wordsOf 8 rnd)
  generalize okay x r 0x0902 (wordsOf 8 rnd) = j at next only answered
  exact does_of_dev next ⟨answered, (only.same (·.mgmt.challenge) fun _ => rfl).trans kept, quiet.hostOnly only⟩

theorem memRead_drop (m : List Host.Cell) (x n k : Nat) : (memRead m x n).drop k = memRead m (x + k) (n - k) := by
  induction k generalizing x n with
  | zero => rfl
  | succ k ih =>
    cases n with
    | zero => simp [memRead]
    | succ n =>
      rw [memRead, List.drop_succ_cons, ih, Nat.add_sub_add_right, Nat.add_right_comm, Nat.add_assoc]
/-- A byte of a longer reading. -/
theorem fieldAt_memRead (m : List Host.Cell) {n k : Nat} (inside : k < n) : fieldAt (memRead m 0 n) k 1 = leNat [memGet m k] := by
  obtain ⟨i, is⟩ : ∃ i, n - k = i + 1 := ⟨n - k - 1, by omega⟩
  rw [fieldAt, memRead_drop, is, memRead, Nat.zero_add, List.take_succ_cons, List.take_zero]

end

end Sys2Proof.Machine
end

section
/-! SUPPORT. Mailbox commands that unlock, advance the anti-rollback floor, switch domains and write the journal (R402, R411 to R413, R425, R430, R431). -/

namespace Sys2Proof.Machine
open Sys2Proof

section
variable {s : State} {r : Request}

/-! ### Unlocking -/

theorem debugUnlock_does (serves : s.dev.Serves r 0x0903) (free : s.dev.bulkBusy r.sender = false) (idle : s.dev.jobRuns 0x0903 = false) (len : argOf r 0 = 7279) :
    let scan := (fieldAt (s.dev.bulkBytes 0 60) 5 1).testBit 1
    let live := s.dev.boot.released && !s.dev.stopDown
    ((scan && live) = false → Does (.debugUnlock r) s (fun d => s.dev.Accepted d r 0x0903 ∧ d.mgmt.challenge = none ∧ s.dev.Quiet d)) ∧
    ((scan && live) = true → Does (.debugUnlock r) s (fun d => s.dev.Answered d r.mbox (replyWords r 0x0903 0 0x13 8 []) ∧ s.dev.Quiet d)) := by
  obtain ⟨e, claims, next⟩ := command_finds (c := .debugUnlock r) (r := r) rfl serves
  dsimp only at next
  have go : ¬ (e.bulkBusy r.sender || e.jobRuns 0x0903) = true := by
    rw [(claims.busy _).trans free, (claims.same (·.jobRuns 0x0903) fun _ => rfl).trans idle]
    nofun
  have byte : fieldAt (e.bulkBytes 0 7279) 5 1 = fieldAt (s.dev.bulkBytes 0 60) 5 1 :=
    (fieldAt_memRead _ (by omega)).trans ((congrArg (fun m => leNat [memGet m 5]) (claims.same (·.mgmt.bulk) fun _ => rfl)).trans (fieldAt_memRead _ (by omega)).symm)
  rw [if_neg go, if_neg (not_not.mpr len), byte] at next
  generalize unlockOk e (e.bulkBytes 0 7279) = ok at next
  generalize held : claimBulk (e.onMgmt (fun m => { m with challenge := none })) r.sender = x at next
  have host : x.host = s.dev.host := by rw [← held]; exact claims.same (·.host) fun _ => rfl
  have num : x.mgmt.nextJob = s.dev.mgmt.nextJob := by rw [← held]; exact claims.same (·.mgmt.nextJob) fun _ => rfl
  have used : x.mgmt.challenge = none := by rw [← held]; rfl
  have quiet : s.dev.Quiet x := by rw [← held]; exact claims.quiet
  have live : (x.boot.released && !x.stopDown) = (s.dev.boot.released && !s.dev.stopDown) := by rw [← held]; exact claims.same (fun d => d.boot.released && !d.stopDown) fun _ => rfl
  rw [Bool.and_assoc, live] at next
  refine ⟨fun fits => ?_, fun scans => ?_⟩
  · rw [if_neg (ne_true_of_eq_false fits)] at next
    have only := accept_only x r 0x0903 0 [flagN ok 0, fieldAt (s.dev.bulkBytes 0 60) 5 1]
    exact does_of_dev next ⟨serves.accepts host num _ _, (only.same (·.mgmt.challenge) fun _ _ _ => rfl).trans used, quiet.jobOnly only⟩
  · rw [if_pos scans] at next
    obtain ⟨-, box, sixteen, -⟩ := serves
    exact does_of_dev next (refuse_answers (congrArg (·.outb) host) (congrArg (·.replies) host) quiet sixteen (by omega) 0x13 8)

/-- The global doorbell is the host window's alone. -/
theorem globalDoor_frame (d : Dev) : ∃ w door dg, globalDoor d = { d with host := { d.host with win := w, door := door, dgSent := dg } } := by
  unfold globalDoor
  split_ifs
  · exact ⟨d.host.win, d.host.door, d.host.dgSent, rfl⟩
  · exact ⟨_, _, _, rfl⟩
theorem debugLock_does (serves : s.dev.Serves r 0x0904) : Does (.debugLock r) s (fun d => s.dev.Answered d r.mbox (replyWords r 0x0904 0 0 0 []) ∧
    d.boot = { s.dev.boot with debugOpen := false } ∧ d.mgmt.jobs = s.dev.mgmt.jobs ∧ d.lanes = s.dev.lanes ∧ d.vot = s.dev.vot ∧ d.jr = s.dev.jr) := by
  obtain ⟨e, claims, next⟩ := command_finds (c := .debugLock r) (r := r) rfl serves
  obtain ⟨w, door, dg, rung⟩ := globalDoor_frame (e.onBoot (fun b => { b with debugOpen := false }))
  have out : (globalDoor (e.onBoot (fun b => { b with debugOpen := false }))).host.outb = s.dev.host.outb := by rw [rung]; exact claims.same (·.host.outb) fun _ => rfl
  have replies : (globalDoor (e.onBoot (fun b => { b with debugOpen := false }))).host.replies = s.dev.host.replies := by rw [rung]; exact claims.same (·.host.replies) fun _ => rfl
  have boot : (globalDoor (e.onBoot (fun b => { b with debugOpen := false }))).boot = { s.dev.boot with debugOpen := false } := by
    rw [rung]; exact claims.same (fun d => { d.boot with debugOpen := false }) fun _ => rfl
  have jobs : (globalDoor (e.onBoot (fun b => { b with debugOpen := false }))).mgmt.jobs = s.dev.mgmt.jobs := by rw [rung]; exact claims.same (·.mgmt.jobs) fun _ => rfl
  have lanes : (globalDoor (e.onBoot (fun b => { b with debugOpen := false }))).lanes = s.dev.lanes := by rw [rung]; exact claims.same (·.lanes) fun _ => rfl
  have vot : (globalDoor (e.onBoot (fun b => { b with debugOpen := false }))).vot = s.dev.vot := by rw [rung]; exact claims.same (·.vot) fun _ => rfl
  have jr : (globalDoor (e.onBoot (fun b => { b with debugOpen := false }))).jr = s.dev.jr := by rw [rung]; exact claims.same (·.jr) fun _ => rfl
  generalize globalDoor (e.onBoot (fun b => { b with debugOpen := false })) = x at next out replies boot jobs lanes vot jr
  have only := okay_only x r 0x0904 []
  exact does_of_dev next ⟨serves.answers out replies [], (only.same (·.boot) fun _ => rfl).trans boot, (only.same (·.mgmt.jobs) fun _ => rfl).trans jobs, (only.same (·.lanes) fun _ => rfl).trans lanes,
    (only.same (·.vot) fun _ => rfl).trans vot, (only.same (·.jr) fun _ => rfl).trans jr⟩

/-! ### Anti-rollback -/

/-- A record that is no FAULT tells nobody: writing it alters the journal alone. -/
theorem writeRec_jr (d : Dev) {q : QRec} (plain : q.post.cls ≠ 0) : ∃ j : JournalSt, writeRec d q = { d with jr := j } := by
  cases room : d.roomFor q with
  | false => exact ⟨_, writeRec_full room⟩
  | true =>
    rw [writeRec_fits room, Dev.toldOf, if_neg plain, Dev.past]
    split
    · next over_ =>
      rw [Bool.and_eq_true, Bool.and_eq_true, Option.isNone_iff_eq_none] at over_
      obtain ⟨c, -, is⟩ := startCompaction_idle (d.onJr (·.wrote q)) (cal := q.cal) [] over_.1.2
      exact ⟨_, is⟩
    · exact ⟨_, rfl⟩
theorem floorsRec_jr (d : Dev) : ∃ j : JournalSt, floorsRec d = { d with jr := j } := by
  unfold floorsRec
  split
  · exact writeRec_jr d (by decide : (1 : Nat) ≠ 0)
  · exact ⟨d.jr, rfl⟩

/-- What ROLLBACK_ADVANCE asks of a new floor (R425). -/
theorem rollbackAdvance_does (serves : s.dev.Serves r 0x0905) (idle : s.dev.writing = false) (new : s.dev.jobRuns 0x0905 = false) :
    let other := 1 - s.dev.boot.imgSlot.getD 0
    let v := argOf r 0
    (s.dev.imageFloor < v → v ≤ s.dev.imageSec → v ≤ 63 → s.dev.partOk other false = true → v ≤ fieldAt (flashPart s.dev.boot.flash other false) 0x18 4 →
      Does (.rollbackAdvance r) s (fun d => s.dev.Accepted d r 0x0905 ∧ d.boot = { s.dev.boot with imgFloor := v } ∧ d.lanes = s.dev.lanes)) ∧
    ((v ≤ s.dev.imageFloor ∨ s.dev.imageSec < v ∨ 63 < v) → Does (.rollbackAdvance r) s (fun d => s.dev.Answered d r.mbox (replyWords r 0x0905 0 0x12 3 []) ∧ s.dev.Quiet d)) ∧
    (s.dev.imageFloor < v → v ≤ s.dev.imageSec → v ≤ 63 → s.dev.partOk other false = false →
      Does (.rollbackAdvance r) s (fun d => s.dev.Answered d r.mbox (replyWords r 0x0905 0 0x13 5 []) ∧ s.dev.Quiet d)) := by
  have go {e : Dev} (claims : s.dev.Claims e) : ¬ (e.writing || e.jobRuns 0x0905) = true := by
    rw [(claims.same (·.writing) fun _ => rfl).trans idle, (claims.same (·.jobRuns 0x0905) fun _ => rfl).trans new]
    nofun
  have range {e : Dev} (claims : s.dev.Claims e) : (decide (argOf r 0 ≤ e.imageFloor) || decide (e.imageSec < argOf r 0) || decide (63 < argOf r 0)) =
      (decide (argOf r 0 ≤ s.dev.imageFloor) || decide (s.dev.imageSec < argOf r 0) || decide (63 < argOf r 0)) :=
    claims.same (fun d => decide (argOf r 0 ≤ d.imageFloor) || decide (d.imageSec < argOf r 0) || decide (63 < argOf r 0)) fun _ => rfl
  have other {e : Dev} (claims : s.dev.Claims e) : (!e.partOk (1 - e.boot.imgSlot.getD 0) false || decide (fieldAt (flashPart e.boot.flash (1 - e.boot.imgSlot.getD 0) false) 0x18 4 < argOf r 0)) =
      (!s.dev.partOk (1 - s.dev.boot.imgSlot.getD 0) false || decide (fieldAt (flashPart s.dev.boot.flash (1 - s.dev.boot.imgSlot.getD 0) false) 0x18 4 < argOf r 0)) :=
    claims.same (fun d => !d.partOk (1 - d.boot.imgSlot.getD 0) false || decide (fieldAt (flashPart d.boot.flash (1 - d.boot.imgSlot.getD 0) false) 0x18 4 < argOf r 0)) fun _ => rfl
  dsimp only
  refine ⟨fun above known small valid newer => ?_, fun bad => ?_, fun above known small invalid => ?_⟩
  · obtain ⟨e, claims, next⟩ := command_finds (c := .rollbackAdvance r) (r := r) rfl serves
    dsimp only at next
    rw [if_neg (go claims), range claims, if_neg (by simp; omega), other claims, if_neg (by simp [valid]; omega)] at next
    have accepted := claims.accepts serves 0 []
    have only := accept_only e r 0x0905 0 []
    generalize (accept e r 0x0905 0 []).1 = j at next accepted only
    obtain ⟨jr, is⟩ := floorsRec_jr (j.onBoot (fun b => { b with imgFloor := argOf r 0 }))
    rw [is] at next
    have boot := (only.same (·.boot) fun _ _ _ => rfl).trans (claims.same (·.boot) fun _ => rfl)
    refine does_of_dev next ⟨accepted.keeps rfl rfl, ?_, (only.same (·.lanes) fun _ _ _ => rfl).trans (claims.same (·.lanes) fun _ => rfl)⟩
    exact congrArg (fun b : BootSt => { b with imgFloor := argOf r 0 }) boot
  · refine command_refused (r := r) rfl serves fun e claims => ?_
    dsimp only
    rw [if_neg (go claims), range claims, if_pos (by simpa [or_assoc] using bad)]
  · refine command_refused (r := r) rfl serves fun e claims => ?_
    dsimp only
    rw [if_neg (go claims), range claims, if_neg (by simp; omega), other claims, if_pos (by rw [invalid]; rfl)]

/-! ### Switched domains -/

theorem switchOff_pwr (d : Dev) (code : Nat) : (switchOff d code).pwr = { d.pwr with good := setBit12 d.pwr.good code false, on := setBit12 d.pwr.on code false } := by
  show { (dropUnit d code 8).pwr with good := setBit12 (dropUnit d code 8).pwr.good code false, on := setBit12 (dropUnit d code 8).pwr.on code false } = _
  rw [dropUnit_pwr]
theorem setBit12_off (w : BitVec 12) (c : Nat) : (setBit12 w c false).getLsbD c = false := by
  by_cases small : c < 12
  · rw [setBit12_bit w false small, if_pos rfl]
  · exact BitVec.getLsbD_of_ge _ _ (by omega)
theorem setBit12_other (w : BitVec 12) {c i : Nat} (v : Bool) (other : i ≠ c) : (setBit12 w c v).getLsbD i = w.getLsbD i := by
  by_cases small : i < 12
  · rw [setBit12_bit w v small, if_neg other]
  · rw [BitVec.getLsbD_of_ge _ _ (by omega), BitVec.getLsbD_of_ge _ _ (by omega)]

/-- PWR_SET of one of the switched domains (R402). -/
theorem pwrSet_does (serves : s.dev.Serves r 0x0A01) {c : Nat} (listed : c ∈ [1, 2, 3, 9, 10, 11]) (code : argOf r 0 = c) :
    (argOf r 1 = 1 → s.dev.pwr.on.getLsbD c = false → 9 ≤ c → Does (.pwrSet r) s (fun d => s.dev.Accepted d r 0x0A01 ∧
      d.pwr = { s.dev.pwr with on := setBit12 s.dev.pwr.on c true, jobs := s.dev.pwr.jobs ++ [(c, s.dev.mgmt.nextJob)] } ∧ d.lanes = s.dev.lanes)) ∧
    (argOf r 1 = 0 → s.dev.pwr.on.getLsbD c = true → 9 ≤ c → (domUnits c).all s.dev.unitOff = false →
      Does (.pwrSet r) s (fun d => s.dev.Answered d r.mbox (replyWords r 0x0A01 0 0x13 2 []) ∧ s.dev.Quiet d)) ∧
    (argOf r 1 = 0 → s.dev.pwr.on.getLsbD c = true → 9 ≤ c → (domUnits c).all s.dev.unitOff = true → Does (.pwrSet r) s (fun d =>
      d.pwr.on.getLsbD c = false ∧ d.pwr.good.getLsbD c = false ∧
      (∀ i : Nat, i ≠ c → d.pwr.on.getLsbD i = s.dev.pwr.on.getLsbD i ∧ d.pwr.good.getLsbD i = s.dev.pwr.good.getLsbD i))) ∧
    (argOf r 1 = 0 → s.dev.pwr.on.getLsbD c = true → c ≤ 3 → s.dev.liveCount < 3 →
      Does (.pwrSet r) s (fun d => s.dev.Answered d r.mbox (replyWords r 0x0A01 0 0x13 3 []) ∧ s.dev.Quiet d)) := by
  subst code
  have known : ¬ (!([1, 2, 3, 9, 10, 11].contains (argOf r 0))) = true := ne_true_of_eq_false (congrArg (!·) (List.contains_iff_mem.mpr listed))
  refine ⟨fun on was high => ?_, fun off was high busy => ?_, fun off was high idle => ?_, fun off was lane few => ?_⟩
  · obtain ⟨e, claims, next⟩ := command_finds (c := .pwrSet r) (r := r) rfl serves
    dsimp only at next
    rw [on, if_neg known, if_neg (by omega), (claims.same (·.pwr.on.getLsbD (argOf r 0)) fun _ => rfl).trans was, if_neg (by decide), if_neg (by omega), if_pos (by rfl)] at next
    have meaning : exec (.pwrSet r) s = .next { s with
        dev := (accept e r 0x0A01 0 []).1.onPwr (fun p => { p with on := setBit12 p.on (argOf r 0) true, jobs := p.jobs ++ [(argOf r 0, e.mgmt.nextJob)] }) } := next
    have accepted := claims.accepts serves 0 []
    have only := accept_only e r 0x0A01 0 []
    generalize (accept e r 0x0A01 0 []).1 = j at meaning accepted only
    rw [claims.same (·.mgmt.nextJob) fun _ => rfl] at meaning
    refine does_of_dev meaning ⟨accepted.keeps rfl rfl, ?_, (only.same (·.lanes) fun _ _ _ => rfl).trans (claims.same (·.lanes) fun _ => rfl)⟩
    exact congrArg (fun p : PowerSt => { p with on := setBit12 p.on (argOf r 0) true, jobs := p.jobs ++ [(argOf r 0, s.dev.mgmt.nextJob)] })
      ((only.same (·.pwr) fun _ _ _ => rfl).trans (claims.same (·.pwr) fun _ => rfl))
  · refine command_refused (r := r) rfl serves fun e claims => ?_
    dsimp only
    rw [off, if_neg known, if_neg (by omega), (claims.same (·.pwr.on.getLsbD (argOf r 0)) fun _ => rfl).trans was, if_neg (by decide), if_neg (by omega), if_neg (by decide),
      (claims.same (fun d => (domUnits (argOf r 0)).all d.unitOff) fun _ => rfl).trans busy, if_pos (by rfl)]
  · obtain ⟨e, claims, next⟩ := command_finds (c := .pwrSet r) (r := r) rfl serves
    dsimp only at next
    rw [off, if_neg known, if_neg (by omega), (claims.same (·.pwr.on.getLsbD (argOf r 0)) fun _ => rfl).trans was, if_neg (by decide), if_neg (by omega), if_neg (by decide),
      (claims.same (fun d => (domUnits (argOf r 0)).all d.unitOff) fun _ => rfl).trans idle, if_neg (by decide)] at next
    have pwr := switchOff_pwr e (argOf r 0)
    rw [claims.same (·.pwr) fun _ => rfl] at pwr
    generalize switchOff e (argOf r 0) = x at next pwr
    have meaning : exec (.pwrSet r) s = .next { s with dev := (accept x r 0x0A01 0 []).1.endJob x.mgmt.nextJob 0 0 } := next
    have only := accept_only x r 0x0A01 0 []
    generalize (accept x r 0x0A01 0 []).1 = j at meaning only
    have after : (j.endJob x.mgmt.nextJob 0 0).pwr = _ := ((only.same (·.pwr) fun _ _ _ => rfl).trans pwr)
    refine does_of_dev meaning ?_
    rw [after]
    exact ⟨setBit12_off .., setBit12_off .., fun i other => ⟨setBit12_other _ _ other, setBit12_other _ _ other⟩⟩
  · refine command_refused (r := r) rfl serves fun e claims => ?_
    dsimp only
    rw [off, if_neg known, if_neg (by omega), (claims.same (·.pwr.on.getLsbD (argOf r 0)) fun _ => rfl).trans was, if_neg (by decide), if_pos lane, if_neg (by decide),
      claims.same (·.liveCount) fun _ => rfl, if_pos (by simp [few])]

/-! ### The journal -/

theorem journalCompact_does (serves : s.dev.Serves r 0x0403) (idle : s.dev.jr.main.comp = none) : Does (.journalCompact r) s (fun d => s.dev.Accepted d r 0x0403 ∧
    (∃ c : CompSt, d.jr = { s.dev.jr with main := { s.dev.jr.main with comp := some c } } ∧ c.slice = 0 ∧ c.start = s.dev.clk ∧
      c.bound = s.dev.jr.nextSeq ∧ c.jobs = [s.dev.mgmt.nextJob]) ∧ d.lanes = s.dev.lanes) := by
  obtain ⟨e, claims, next⟩ := command_finds (c := .journalCompact r) (r := r) rfl serves
  have meaning : exec (.journalCompact r) s = .next { s with dev := startCompaction (accept e r 0x0403 0 []).1 false [e.mgmt.nextJob] } := next
  have accepted := claims.accepts serves 0 []
  have only := accept_only e r 0x0403 0 []
  generalize (accept e r 0x0403 0 []).1 = j at meaning accepted only
  have jr := (only.same (·.jr) fun _ _ _ => rfl).trans (claims.same (·.jr) fun _ => rfl)
  have clk := (only.same (·.clk) fun _ _ _ => rfl).trans (claims.same (·.clk) fun _ => rfl)
  have none_ : (j.jr.store false).comp = none := (congrArg (fun j : JournalSt => j.main.comp) jr).trans idle
  have started : ∃ left : Nat, startCompaction j false [e.mgmt.nextJob] =
      j.onJr (·.onStore false (fun x => { x with comp := some { slice := 0, start := j.clk, bound := j.jr.nextSeq, jobs := [e.mgmt.nextJob], left := left } })) := by
    unfold startCompaction
    dsimp only
    rw [none_]
    exact ⟨_, rfl⟩
  obtain ⟨left, is⟩ := started
  rw [is] at meaning
  refine does_of_dev meaning ⟨accepted.keeps rfl rfl, ⟨{ slice := 0, start := j.clk, bound := j.jr.nextSeq, jobs := [e.mgmt.nextJob], left := left }, ?_, rfl, clk, congrArg (·.nextSeq) jr, congrArg (fun n => [n]) (claims.same (·.mgmt.nextJob) fun _ => rfl)⟩,
    (only.same (·.lanes) fun _ _ _ => rfl).trans (claims.same (·.lanes) fun _ => rfl)⟩
  rw [← jr]
  rfl

theorem journalAppend_does (serves : s.dev.Serves r 0x0404) :
    (0x8000 ≤ argOf r 0 → argOf r 0 ≤ 0xFFFF → s.dev.jr.queue.length < 192 → s.dev.jr.warn = false → Does (.journalAppend r) s (fun d =>
      s.dev.Answered d r.mbox (replyWords r 0x0404 0 0 0 [seqAhead s.dev.jr.nextSeq s.dev.jr.queue.length]) ∧
      d.jr = { s.dev.jr with queue := s.dev.jr.queue ++
        [⟨⟨argOf r 0, 2, r.sender, (r.args.drop 1).flatMap (fun w => leBytes w.toNat 4)⟩, 0, false⟩] } ∧ d.lanes = s.dev.lanes)) ∧
    ((argOf r 0 < 0x8000 ∨ 0xFFFF < argOf r 0) → Does (.journalAppend r) s (fun d => s.dev.Answered d r.mbox (replyWords r 0x0404 0 0x12 3 []) ∧ s.dev.Quiet d)) ∧
    (0x8000 ≤ argOf r 0 → argOf r 0 ≤ 0xFFFF → (192 ≤ s.dev.jr.queue.length ∨ s.dev.jr.warn = true) → Does (.journalAppend r) s (fun d =>
      s.dev.Answered d r.mbox (replyWords r 0x0404 0 3 0 []) ∧ d.jr = { s.dev.jr with evDrop := satInc 255 s.dev.jr.evDrop })) := by
  have full {e : Dev} (claims : s.dev.Claims e) : (decide (192 ≤ e.jr.queue.length) || e.jr.warn) = (decide (192 ≤ s.dev.jr.queue.length) || s.dev.jr.warn) :=
    claims.same (fun d => decide (192 ≤ d.jr.queue.length) || d.jr.warn) fun _ => rfl
  refine ⟨fun low high room calm => ?_, fun bad => command_refused (r := r) rfl serves fun e claims => if_pos (by simpa using bad), fun low high no => ?_⟩
  · obtain ⟨e, claims, next⟩ := command_finds (c := .journalAppend r) (r := r) rfl serves
    dsimp only at next
    have jr := claims.same (·.jr) fun _ => rfl
    rw [if_neg (by simp; omega), full claims, if_neg (by simp [calm]; omega), Dev.post_added (.inr (.inr ⟨rfl, by rw [jr]; exact room, by rw [jr]; exact calm⟩)), jr] at next
    have cal : recCal (argOf r 0) = false := by simp [recCal]; omega
    dsimp only at next
    rw [cal] at next
    generalize held : e.onJr (fun j => { j with queue := j.queue ++
      [⟨⟨argOf r 0, 2, r.sender, (r.args.drop 1).flatMap (fun w => leBytes w.toNat 4)⟩, 0, false⟩] }) = x at next
    have host : x.host = s.dev.host := by rw [← held]; exact claims.same (·.host) fun _ => rfl
    have lanes : x.lanes = s.dev.lanes := by rw [← held]; exact claims.same (·.lanes) fun _ => rfl
    have queue : x.jr = { s.dev.jr with queue := s.dev.jr.queue ++
        [⟨⟨argOf r 0, 2, r.sender, (r.args.drop 1).flatMap (fun w => leBytes w.toNat 4)⟩, 0, false⟩] } := by rw [← held, ← jr]; rfl
    have only := okay_only x r 0x0404 [seqAhead s.dev.jr.nextSeq s.dev.jr.queue.length]
    exact does_of_dev next ⟨serves.answers (congrArg (·.outb) host) (congrArg (·.replies) host) _, (only.same (·.jr) fun _ => rfl).trans queue, (only.same (·.lanes) fun _ => rfl).trans lanes⟩
  · obtain ⟨e, claims, next⟩ := command_finds (c := .journalAppend r) (r := r) rfl serves
    dsimp only at next
    rw [if_neg (by simp; omega), full claims, if_pos (by simpa using no)] at next
    generalize held : e.onJr (fun j => { j with evDrop := satInc 255 j.evDrop }) = x at next
    have host : x.host = s.dev.host := by rw [← held]; exact claims.same (·.host) fun _ => rfl
    have jr : x.jr = { s.dev.jr with evDrop := satInc 255 s.dev.jr.evDrop } := by rw [← held]; exact claims.same (fun d => { d.jr with evDrop := satInc 255 d.jr.evDrop }) fun _ => rfl
    obtain ⟨-, box, sixteen, -⟩ := serves
    have shape : refuse x r 0x0404 3 0 = sendReply (x.count (cMgmt 2) 1) r.mbox (replyWords r 0x0404 0 3 0 []) := rfl
    have only := refuse_only x r 0x0404 3 0
    refine does_of_dev next ⟨?_, (only.same (·.jr) fun _ => rfl).trans jr⟩
    rw [shape]
    exact sendReply_answers _ (congrArg (·.outb) host) (congrArg (·.replies) host) sixteen (by omega)

end

end Sys2Proof.Machine
end

section
/-! SUPPORT. The refusals of the commands that start work, the journal read, the end of a challenge, and the obligation of them all (R399 to R402, R412,
R430). -/

namespace Sys2Proof.Machine
open Sys2Proof

section
variable {s : State} {r : Request}

/-- A request of this code is refused with this status and detail, and nothing else moves. -/
abbrev Refused (c : Instr) (s : State) (r : Request) (code st dt : Nat) : Prop :=
  Does c s (fun d => s.dev.Answered d r.mbox (replyWords r code 0 st dt []) ∧ s.dev.Quiet d)

theorem switchClear_running (serves : s.dev.Serves r 0x0503) (known : argOf r 0 ≤ 11) (on : s.dev.unitOff (argOf r 0) = false) :
    Refused (.switchClear r) s r 0x0503 0x13 2 :=
  command_refused (r := r) rfl serves fun e claims =>
    (if_neg (by omega)).trans (if_pos (congrArg (!·) ((claims.same (·.unitOff (argOf r 0)) fun _ => rfl).trans on)))
theorem pairSwap_standby (serves : s.dev.Serves r 0x0602) (known : argOf r 0 ≤ 1) (standby : s.dev.isActive = false) :
    Refused (.pairSwap r) s r 0x0602 0x13 1 :=
  command_refused (r := r) rfl serves fun e claims =>
    (if_neg (by omega)).trans (if_pos (congrArg (!·) ((claims.same (·.isActive) fun _ => rfl).trans standby)))
theorem pairSwap_unknown (serves : s.dev.Serves r 0x0602) (unknown : 1 < argOf r 0) : Refused (.pairSwap r) s r 0x0602 0x12 3 :=
  command_refused (r := r) rfl serves fun _ _ => if_pos unknown
theorem pairRelay_busy (serves : s.dev.Serves r 0x0603) (busy : s.dev.pair.relay ≠ none) : Refused (.pairRelay r) s r 0x0603 3 0 :=
  command_refused (r := r) rfl serves fun e claims =>
    if_pos ((congrArg Option.isSome (claims.same (·.pair.relay) fun _ => rfl)).trans (Option.isSome_iff_ne_none.mpr busy))
theorem imageWrite_own (serves : s.dev.Serves r 0x0210) (known : argOf r 0 ≤ 1) (own : s.dev.boot.imgSlot = some (argOf r 0)) :
    Refused (.imageWrite r) s r 0x0210 0x13 5 :=
  command_refused (r := r) rfl serves fun e claims =>
    (if_neg (by omega)).trans (if_pos ((claims.same (·.boot.imgSlot) fun _ => rfl).trans own))
theorem fwWrite_own (serves : s.dev.Serves r 0x0701) (known : argOf r 0 ≤ 1) (own : s.dev.boot.fwSlot = some (argOf r 0)) :
    Refused (.fwWrite r) s r 0x0701 0x13 5 :=
  command_refused (r := r) rfl serves fun e claims =>
    (if_neg (by omega)).trans (if_pos ((claims.same (·.boot.fwSlot) fun _ => rfl).trans own))
theorem restart_held (serves : s.dev.Serves r 0x0704) (held : (s.dev.boot.released && s.dev.isActive && !s.dev.partnerReady && !s.dev.stopDown) = true) :
    Refused (.restart r) s r 0x0704 0x13 7 :=
  command_refused (r := r) rfl serves fun e claims =>
    if_pos ((claims.same (fun d => d.boot.released && d.isActive && !d.partnerReady && !d.stopDown) fun _ => rfl).trans held)
theorem attest_locked (serves : s.dev.Serves r 0x0901) (free : s.dev.bulkBusy r.sender = false) (idle : s.dev.jobRuns 0x0901 = false) (locked : s.dev.keyLocked = true) :
    Refused (.attest r) s r 0x0901 0x18 0 :=
  command_refused (r := r) rfl serves fun e claims => by
    have go : ¬ (e.bulkBusy r.sender || e.jobRuns 0x0901) = true := by
      rw [(claims.busy _).trans free, (claims.same (·.jobRuns 0x0901) fun _ => rfl).trans idle]
      nofun
    exact (if_neg go).trans (if_pos ((claims.same (·.keyLocked) fun _ => rfl).trans locked))
theorem pwrSet_unlisted (serves : s.dev.Serves r 0x0A01) (unlisted : argOf r 0 ∉ [1, 2, 3, 9, 10, 11]) : Refused (.pwrSet r) s r 0x0A01 0x12 2 :=
  command_refused (r := r) rfl serves fun _ _ => if_pos (by simpa using unlisted)

/-! ### The journal read -/

theorem journalRead_taken (serves : s.dev.Serves r 0x0402) (free : s.dev.bulkBusy r.sender = false) (idle : s.dev.jobRuns 0x0402 = false) :
    Does (.journalRead r) s (fun d => s.dev.Accepted d r 0x0402 ∧ d.mgmt.claim = some (r.sender, s.dev.clk) ∧ s.dev.Quiet d) := by
  obtain ⟨e, claims, next⟩ := command_finds (c := .journalRead r) (r := r) rfl serves
  have idle' := ne_true_of_eq_false ((claims.same (·.jobRuns 0x0402) fun _ => rfl).trans idle)
  have meaning : exec (.journalRead r) s = .next { s with dev := (accept (claimBulk e r.sender) r 0x0402 0 []).1 } :=
    next.trans (next_of_dev ((withBulk_free ((claims.busy _).trans free) 0x0402 _).trans (if_neg idle')))
  have only := accept_only (claimBulk e r.sender) r 0x0402 0 []
  have quiet : s.dev.Quiet (claimBulk e r.sender) := claims.quiet
  exact does_of_dev meaning ⟨serves.accepts (d' := claimBulk e r.sender) (claims.same (·.host) fun _ => rfl) (claims.same (·.mgmt.nextJob) fun _ => rfl) 0 [],
    (only.same (·.mgmt.claim) fun _ _ _ => rfl).trans (congrArg (fun c => some (r.sender, c)) (claims.same (·.clk) fun _ => rfl)), quiet.jobOnly only⟩
theorem journalRead_runs (serves : s.dev.Serves r 0x0402) (free : s.dev.bulkBusy r.sender = false) (runs : s.dev.jobRuns 0x0402 = true) :
    Refused (.journalRead r) s r 0x0402 3 0 := by
  refine command_refused (r := r) rfl serves fun e claims => ?_
  exact (withBulk_free ((claims.busy _).trans free) 0x0402 _).trans (if_pos ((claims.same (·.jobRuns 0x0402) fun _ => rfl).trans runs))

end

/-! ### A challenge that nobody answers -/

section
variable {s : State}

theorem challengeExpiry_waiting {c : List Byte} {t : Nat} (waits : s.dev.mgmt.challenge = some (c, t)) : Does .challengeExpiry s (fun d =>
    d.mgmt = { s.dev.mgmt with challenge := none } ∧ t + 60000 * 640000 ≤ d.clk ∧ d.lanes = s.dev.lanes ∧ d.boot = s.dev.boot) := by
  have meaning : exec .challengeExpiry s = .next { s with dev := (s.dev.toClk (t + 60000 * msClk)).onMgmt (fun m => { m with challenge := none }) } := by
    refine next_of_dev ?_
    dsimp only
    rw [waits]
  refine does_of_dev meaning ⟨rfl, ?_, rfl, rfl⟩
  show t + 60000 * msClk ≤ (s.dev.toClk (t + 60000 * msClk)).clk
  rw [Dev.toClk_clk]
  exact le_max_right ..
theorem challengeExpiry_none (none_ : s.dev.mgmt.challenge = none) : exec .challengeExpiry s = .next s := by
  refine next_of_dev ?_
  dsimp only
  rw [none_]

end

end Sys2Proof.Machine

namespace Sys2Proof
open Machine

/-- Settles O55: each command's own lemma, with the requests it refuses. -/
theorem mailboxJobs : Obligations.MailboxJobs := by
  intro s r
  refine ⟨fun serves => ⟨fun u test unit low high idle => runTest_gate serves test unit low high idle, fun test low high new stage idle off =>
      runTest_analog serves test low high new stage idle off, fun test unit idle => runTest_mram serves test unit idle⟩,
    fun serves known => ⟨fun on => switchClear_running serves known on, fun off low high idle => switchClear_gate serves off low high idle,
      fun off edge two => switchClear_edge serves known off edge two⟩,
    fun serves => ⟨fun known active idle => pairSwap_taken serves known active idle, fun known standby => pairSwap_standby serves known standby,
      fun unknown => pairSwap_unknown serves unknown⟩,
    fun serves => ⟨fun idle => pairRelay_taken serves idle, fun busy => pairRelay_busy serves busy⟩,
    fun serves two known => ⟨fun other idle free some_ fits => imageWrite_taken serves two known other idle free some_ fits, fun own => imageWrite_own serves known own⟩,
    fun serves known => ⟨fun other idle free start some_ fits sectors more => fwWrite_taken serves known other idle free start some_ fits sectors more,
      fun own => fwWrite_own serves known own⟩,
    fun serves known small => slotSelect_does serves known small,
    fun serves => ⟨fun free => restart_taken serves free, fun held => restart_held serves held⟩,
    fun serves free idle => ⟨fun open_ => attest_taken serves free idle open_, fun locked => attest_locked serves free idle locked⟩,
    fun rnd serves len => debugChallenge_does serves len, fun c t waits => challengeExpiry_waiting waits, fun none_ => challengeExpiry_none none_,
    fun serves free idle len => debugUnlock_does serves free idle len, fun serves => debugLock_does serves, fun serves idle new => rollbackAdvance_does serves idle new,
    fun serves => ⟨fun c listed code => pwrSet_does serves listed code, fun unlisted => pwrSet_unlisted serves unlisted⟩,
    fun serves free => ⟨fun idle => journalRead_taken serves free idle, fun runs => journalRead_runs serves free runs⟩,
    fun serves idle => journalCompact_does serves idle, fun serves => journalAppend_does serves⟩

end Sys2Proof
end

section
/-! SUPPORT. What no operation but a few disturbs: the form of the byte memories and the beat of the cycles. `Dev.Tidy` says both of a device, for the
memories that `w` picks (`none` is the transfer buffer), and each function of the model that keeps them has one lemma here. -/

namespace Sys2Proof.Machine
open Sys2Proof

/-- The time fields that only a boundary, a bell and a start of GT set. -/
structure Beat where
  nextFc  : BitVec 64
  fcIdx   : Nat
  bellDue : Bool
  bellGt  : BitVec 64
  cycle   : BitVec 32
  belled  : Bool
def TimeSt.beat (t : TimeSt) : Beat := ⟨t.nextFc, t.fcIdx, t.bellDue, t.bellGt, t.cycle, t.belled⟩
theorem TimeSt.pass_beat (t : TimeSt) (n : Nat) : (t.pass n).beat = t.beat := by unfold TimeSt.pass; dsimp only; split <;> rfl
theorem TimeSt.toClk_beat (t : TimeSt) (n : Nat) : (t.toClk n).beat = t.beat := t.pass_beat _
theorem TimeSt.toRaw_beat (t : TimeSt) (n : Nat) : (t.toRaw n).beat = t.beat := by
  unfold TimeSt.toRaw
  split
  · exact t.pass_beat _
  · rfl
theorem TimeSt.toGt_beat (t : TimeSt) (n : Nat) : (t.toGt n).beat = t.beat := t.toRaw_beat _

/-- The picked memories are canonical, those of lanes and, for `none`, the transfer buffer; and the beat is b. -/
def Dev.Tidy (w : Option Lane → Prop) (b : Beat) (d : Dev) : Prop :=
  (∀ k, w (some k) → memWf (d.lane k).mem = true) ∧ (w none → memWf d.mgmt.bulk = true) ∧ d.time.beat = b

theorem Dev.tidy_iff (d : Dev) : d.memsWf ↔ d.Tidy (fun _ => True) d.time.beat :=
  ⟨fun ⟨a, b, c, bulk⟩ => ⟨fun k _ => by cases k; exacts [a, b, c], fun _ => bulk, rfl⟩, fun ⟨lanes, bulk, _⟩ => ⟨lanes .a trivial, lanes .b trivial, lanes .c trivial, bulk trivial⟩⟩

namespace Dev.Tidy
variable {w : Option Lane → Prop} {b : Beat} {d : Dev}

/-! ### Updates of one part -/

theorem of {d' : Dev} (h : d.Tidy w b) (lanes : d'.lanes = d.lanes) (mgmt : d'.mgmt.bulk = d.mgmt.bulk) (time : d'.time.beat = d.time.beat) : d'.Tidy w b := by
  obtain ⟨l, m, t⟩ := h
  exact ⟨fun k p => (congrArg (fun x => memWf (x.get k).mem) lanes).trans (l k p), fun p => (congrArg memWf mgmt).trans (m p), time.trans t⟩
theorem drawn (h : d.Tidy w b) (n : Nat) : ({ d with draws := n } : Dev).Tidy w b := h
theorem mono {w' : Option Lane → Prop} (h : d.Tidy w b) (less : ∀ k, w' k → w k) : d.Tidy w' b := ⟨fun k p => h.1 k (less k p), fun p => h.2.1 (less none p), h.2.2⟩
theorem onVot (h : d.Tidy w b) (f : VotSt → VotSt) : (d.onVot f).Tidy w b := h
theorem onGd (h : d.Tidy w b) (f : GdSt → GdSt) : (d.onGd f).Tidy w b := h
theorem onNet (h : d.Tidy w b) (f : NetSt → NetSt) : (d.onNet f).Tidy w b := h
theorem onPair (h : d.Tidy w b) (f : PairSt → PairSt) : (d.onPair f).Tidy w b := h
theorem onSafe (h : d.Tidy w b) (f : SafetySt → SafetySt) : (d.onSafe f).Tidy w b := h
theorem onHost (h : d.Tidy w b) (f : HostSt → HostSt) : (d.onHost f).Tidy w b := h
theorem onJr (h : d.Tidy w b) (f : JournalSt → JournalSt) : (d.onJr f).Tidy w b := h
theorem onBoot (h : d.Tidy w b) (f : BootSt → BootSt) : (d.onBoot f).Tidy w b := h
theorem onTest (h : d.Tidy w b) (f : TestSt → TestSt) : (d.onTest f).Tidy w b := h
theorem onPwr (h : d.Tidy w b) (f : PowerSt → PowerSt) : (d.onPwr f).Tidy w b := h
theorem onLink (h : d.Tidy w b) (i : Nat) (f : LinkSt → LinkSt) : (d.onLink i f).Tidy w b := h
theorem onCan (h : d.Tidy w b) (i : Nat) (f : CanSt → CanSt) : (d.onCan i f).Tidy w b := h
theorem onHb (h : d.Tidy w b) (i : Nat) (f : HbSt → HbSt) : (d.onHb i f).Tidy w b := h
theorem onGroup (h : d.Tidy w b) (g : Group) (f : GroupSt → GroupSt) : (d.onGroup g f).Tidy w b := h
theorem onTime (h : d.Tidy w b) {f : TimeSt → TimeSt} (keeps : (f d.time).beat = d.time.beat) : (d.onTime f).Tidy w b := h.of rfl rfl keeps
/-- A change of the management processor that leaves the transfer buffer canonical. -/
theorem onMgmt (h : d.Tidy w b) {f : MgmtSt → MgmtSt} (keeps : memWf d.mgmt.bulk = true → memWf (f d.mgmt).bulk = true) :
    (d.onMgmt f).Tidy w b := ⟨h.1, fun p => keeps (h.2.1 p), h.2.2⟩
/-- A change of one lane that leaves its memory canonical. -/
theorem onLane (h : d.Tidy w b) {l : Lane} {f : LaneSt → LaneSt} (keeps : w (some l) → memWf (d.lane l).mem = true → memWf (f (d.lane l)).mem = true) :
    (d.onLane l f).Tidy w b := by
  obtain ⟨lanes, rest⟩ := h
  refine ⟨fun k p => ?_, rest⟩
  by_cases same : k = l
  · subst same
    rw [Dev.onLane_lane]
    exact keeps p (lanes k p)
  · rw [Dev.onLane_lane_ne _ _ _ _ same]
    exact lanes k p
theorem onLanes (h : d.Tidy w b) {f : LaneSt → LaneSt} (keeps : ∀ q : LaneSt, memWf q.mem = true → memWf (f q).mem = true) :
    (d.onLanes f).Tidy w b := by
  obtain ⟨lanes, rest⟩ := h
  refine ⟨fun k p => ?_, rest⟩
  rw [Dev.lane, Dev.onLanes, Tri.get_map]
  exact keeps _ (lanes k p)
theorem onSeq (h : d.Tidy w b) (l : Lane) (f : SeqSt → SeqSt) : (d.onSeq l f).Tidy w b := onLane h fun _ wf => wf
theorem foldl {α : Type} {f : Dev → α → Dev} (h : d.Tidy w b) (each : ∀ d a, d.Tidy w b → (f d a).Tidy w b) (l : List α) : (l.foldl f d).Tidy w b := by
  induction l generalizing d with
  | nil => exact h
  | cons a r ih => exact ih (each d a h)
theorem ite_ {p : Prop} {_ : Decidable p} {x y : Dev} (yes : x.Tidy w b) (no : y.Tidy w b) : (if p then x else y).Tidy w b := by split <;> assumption

/-! ### Time -/

theorem pass (h : d.Tidy w b) (n : Nat) : (d.pass n).Tidy w b := h.onTime (d.time.pass_beat n)
theorem toClk (h : d.Tidy w b) (n : Nat) : (d.toClk n).Tidy w b := h.onTime (d.time.toClk_beat n)
theorem toRaw (h : d.Tidy w b) (n : Nat) : (d.toRaw n).Tidy w b := h.onTime (d.time.toRaw_beat n)
theorem toGt (h : d.Tidy w b) (n : Nat) : (d.toGt n).Tidy w b := h.onTime (d.time.toGt_beat n)
theorem toLaneClk (h : d.Tidy w b) (l : Lane) (n : Nat) : (d.toLaneClk l n).Tidy w b := h.toRaw _

/-! ### Counters, window, records -/

theorem count (h : d.Tidy w b) (a n : Nat) : (d.count a n).Tidy w b := h
theorem countIf (h : d.Tidy w b) (c : Bool) (a : Nat) : (d.countIf c a).Tidy w b := ite_ h h
theorem putWin (h : d.Tidy w b) (a n : Nat) : (d.putWin a n).Tidy w b := h
theorem ring (h : d.Tidy w b) (n : Nat) : (d.ring n).Tidy w b := h
theorem fillOut (h : d.Tidy w b) (m : Nat) (ws : List Word) : (d.fillOut m ws).Tidy w b := h
theorem event (h : d.Tidy w b) (c : Nat) (v : Word) : (d.event c v).Tidy w b := ite_ h (ite_ h h)
theorem post (h : d.Tidy w b) (p : Post) : (d.post p).Tidy w b := h.of (d.post_lanes p) (congrArg (·.bulk) (d.post_mgmt p)) (congrArg (·.beat) (d.post_time p))
theorem fault (h : d.Tidy w b) (t u i c v : Nat) : (d.fault t u i c v).Tidy w b := ite_ (h.post _) h
theorem note (h : d.Tidy w b) (t u i c v : Nat) : (d.note t u i c v).Tidy w b := ite_ (h.post _) h
theorem postLane (h : d.Tidy w b) (g : Nat) (l : Lane) (k t u i c v : Nat) : (d.postLane g l k t u i c v).Tidy w b := ite_ (h.post _) h
theorem globalDoor (h : d.Tidy w b) : (globalDoor d).Tidy w b :=
  h.of (globalDoor_lanes d) (congrArg (·.bulk) (globalDoor_mgmt d)) (congrArg (·.beat) (globalDoor_time d))
theorem noteDegraded (h : d.Tidy w b) : (noteDegraded d).Tidy w b :=
  h.of (noteDegraded_lanes d) (congrArg (·.bulk) (noteDegraded_mgmt d)) (congrArg (·.beat) (noteDegraded_time d))
theorem liveChanged (h : d.Tidy w b) : d.liveChanged.Tidy w b :=
  h.of d.liveChanged_lanes (congrArg (·.bulk) d.liveChanged_mgmt) (congrArg (·.beat) d.liveChanged_time)
theorem holdAll (h : d.Tidy w b) : d.holdAll.Tidy w b := h.of d.holdAll_lanes (congrArg (·.bulk) d.holdAll_mgmt) (congrArg (·.beat) d.holdAll_time)
theorem takeOut (h : d.Tidy w b) (l : Lane) (c e u : Nat) : (d.takeOut l c e u).Tidy w b := by
  obtain ⟨lanes, bulk, beat⟩ := h
  exact ⟨fun k p => (congrArg memWf (d.takeOut_mem l k c e u)).trans (lanes k p), fun p => (congrArg (fun m => memWf m.bulk) (d.takeOut_mgmt l c e u)).trans (bulk p),
    (congrArg (·.beat) (d.takeOut_time l c e u)).trans beat⟩
theorem takeOutIf (h : d.Tidy w b) (c : Bool) (l : Lane) (n : Nat) : (d.takeOutIf c l n).Tidy w b := ite_ (h.takeOut ..) h
theorem laneRecAt (h : d.Tidy w b) (g : Nat) (l : Lane) (k t u i c v : Nat) : (d.laneRecAt g l k t u i c v).Tidy w b := ite_ (h.takeOut ..) (h.postLane ..)
theorem laneRec (h : d.Tidy w b) (l : Lane) (k t u i c v : Nat) : (d.laneRec l k t u i c v).Tidy w b := h.laneRecAt ..
theorem markNotes (h : d.Tidy w b) (g : Nat) (l : List (Nat × Nat × Nat)) : (d.markNotes g l).Tidy w b := h.foldl (fun _ _ h => h.laneRecAt ..) l

end Dev.Tidy

end Sys2Proof.Machine
end

section
/-! SUPPORT. The byte memories and the beat through the timetable: dispatch, completion, and the operations, each of which writes the memory of its own
lane alone until its deadline clock. -/

namespace Sys2Proof.Machine
open Sys2Proof

/-! ### Completion -/

theorem LaneSt.stage_mem (q : LaneSt) (p : Nat) (host : Bool) (v : DWord) : (q.stage p host v).mem = q.mem := q.onField_mem ..
theorem LaneSt.complete_wf {q : LaneSt} (e : Late) (wf : memWf q.mem = true) : memWf (q.complete e).mem = true := by
  have staged : ∀ (l : List (Nat × DWord)) (q : LaneSt), (l.foldl (fun (q : LaneSt) v => q.stage v.1 false v.2) q).mem = q.mem := by
    intro l
    induction l with
    | nil => exact fun _ => rfl
    | cons v r ih => exact fun q => (ih _).trans (q.stage_mem ..)
  have put : memWf (e.stage.foldl (fun (q : LaneSt) v => q.stage v.1 false v.2) { q with mem := memPut q.mem e.cells }).mem = true := by
    rw [staged]
    exact memPut_wf _ wf
  unfold LaneSt.complete
  dsimp only
  split <;> exact put
theorem LaneSt.settle_wf {q : LaneSt} (swap : Bool) (n : Nat) (wf : memWf q.mem = true) : memWf (q.settle swap n).mem = true := by
  unfold LaneSt.settle
  generalize (q.seq.late.filter (Late.doneBy swap n)).foldl (fun l e => insertLate e l) [] = due
  have start : memWf ({ q with seq := { q.seq with late := q.seq.late.filter (fun e => !e.doneBy swap n) } } : LaneSt).mem = true := wf
  generalize ({ q with seq := { q.seq with late := q.seq.late.filter (fun e => !e.doneBy swap n) } } : LaneSt) = x at start
  dsimp only
  induction due generalizing x with
  | nil => exact start
  | cons e r ih => exact ih _ (LaneSt.complete_wf e start)

namespace Dev.Tidy
variable {w : Option Lane → Prop} {b : Beat} {d : Dev}

theorem settled (h : d.Tidy w b) : d.settled.Tidy w b := h.foldl (fun _ _ h => h.onLane (fun _ => LaneSt.settle_wf _ _)) _
theorem settledAt (h : d.Tidy w b) (g : Nat) : (d.settledAt g).Tidy w b := h.onLanes (fun _ => LaneSt.settle_wf _ _)

/-! ### Dispatch -/

theorem startEntry (h : d.Tidy w b) (l : Lane) (p : Bool) (e : Entry) (g : Img) : (startEntry d l p e g).1.Tidy w b := by
  have ready : ((d.toLaneClk l (d.dispatchAt l e.offset)).onLane l (fun q => q.settle false (d.dispatchAt l e.offset))).Tidy w b :=
    (h.toLaneClk l _).onLane (fun _ => LaneSt.settle_wf _ _)
  unfold Machine.startEntry
  dsimp only
  generalize (d.toLaneClk l (d.dispatchAt l e.offset)).onLane l (fun q => q.settle false (d.dispatchAt l e.offset)) = x at ready
  split_ifs
  · exact ready.takeOut ..
  · exact ready.takeOut ..
  · exact ready.takeOut ..
  · exact ready.onSeq ..
/-- What an operation writes to its lane's memory is held back, so the operation may leave anything there. -/
theorem holdBack {l : Lane} {e : Entry} {stage : List (Nat × DWord)} {coef : Option CoefRec} {d' : Dev} (h : d.Tidy w b) (after : d'.Tidy (fun k => w k ∧ k ≠ some l) b) :
    (holdBack l e stage coef d d').Tidy w b := by
  obtain ⟨lanes, -⟩ := h
  obtain ⟨others, bulk, beat⟩ := after
  refine ⟨fun k p => ?_, fun p => bulk ⟨p, nofun⟩, beat⟩
  unfold Machine.holdBack
  dsimp only
  by_cases same : k = l
  · subst same
    rw [Dev.onLane_lane]
    exact lanes k p
  · rw [Dev.onLane_lane_ne _ _ _ _ same]
    exact others k ⟨p, fun is => same (Option.some.inj is)⟩
theorem dispatchStaging (h : d.Tidy w b) {l : Lane} {p : Bool} {ok : Img → Entry → Bool} {stage : Img → Entry → Dev → List (Nat × DWord) × Option CoefRec}
    {body : Img → Entry → Dev → Dev} (aside : ∀ g e d, Dev.Tidy (fun k => w k ∧ k ≠ some l) b d → (body g e d).Tidy (fun k => w k ∧ k ≠ some l) b) :
    (dispatchStaging d l p ok stage body).Tidy w b := by
  unfold Machine.dispatchStaging
  split
  · next g e _ _ =>
    split
    · have started := h.startEntry l p e g
      split
      · next d' is => rw [is] at started; exact started.holdBack (aside g e d' (started.mono fun _ => And.left))
      · next d' is => rw [is] at started; exact started
    · exact h
  · exact h
theorem dispatch (h : d.Tidy w b) {l : Lane} {p : Bool} {ok : Img → Entry → Bool} {body : Img → Entry → Dev → Dev}
    (aside : ∀ g e d, Dev.Tidy (fun k => w k ∧ k ≠ some l) b d → (body g e d).Tidy (fun k => w k ∧ k ≠ some l) b) : (dispatch d l p ok body).Tidy w b :=
  h.dispatchStaging aside
theorem onLane_aside {l : Lane} (h : d.Tidy (fun k => w k ∧ k ≠ some l) b) {f : LaneSt → LaneSt} : (d.onLane l f).Tidy (fun k => w k ∧ k ≠ some l) b :=
  h.onLane (fun p => absurd rfl p.2)
theorem dispatch_onLane (h : d.Tidy w b) {l : Lane} {p : Bool} {ok : Img → Entry → Bool} {f : Img → Entry → Dev → LaneSt → LaneSt} :
    (Machine.dispatch d l p ok (fun g e d => d.onLane l (f g e d))).Tidy w b := h.dispatch fun _ _ _ h => h.onLane_aside
theorem sigOp (h : d.Tidy w b) (l : Lane) (p : Bool) (op : Nat) (f : SigOp → LaneSt → SigWord) : (sigOp d l p op f).Tidy w b := h.dispatch_onLane
theorem unpost (h : d.Tidy w b) (l : Lane) (g : Group) : (unpost l d g).Tidy w b := h.onGroup ..

/-! ### Sections, modulation, compare, posts -/

theorem countLow (h : d.Tidy w b) (l : Lane) (a n : Nat) : (d.countLow l a n).Tidy w b := ite_ h h
theorem postWord (h : d.Tidy w b) (l : Lane) (g : Group) (v : VWord) (e u : Nat) : (d.postWord l g v e u).Tidy w b :=
  ite_ h (ite_ (h.takeOut ..) ((h.onLane fun _ wf => wf).onGroup ..))
theorem postPairs (h : d.Tidy w b) (l : Lane) (e u : Nat) (cs : List Nat) : (postPairs l e u cs d).Tidy w b := by
  induction cs generalizing d with
  | nil => exact h
  | cons c r ih =>
    unfold Machine.postPairs
    split
    · exact ih h
    · exact ih ((h.postWord ..).postWord ..)
theorem compareWrite {l : Lane} (h : d.Tidy (fun k => w k ∧ k ≠ some l) b) (ch : Nat) (phase : Bool) (v : SigWord) :
    (compareWrite d l ch phase v).Tidy (fun k => w k ∧ k ≠ some l) b := by
  unfold Machine.compareWrite
  dsimp only
  exact ite_ h (ite_ (ite_ (h.onLane_aside.countLow ..) h.onLane_aside) (ite_ h.onLane_aside (ite_ h.onLane_aside h.onLane_aside)))
end Dev.Tidy

/-- The command leaves every byte memory canonical. -/
def Keeps (c : Instr) : Prop := ∀ s : State, s.dev.memsWf → Does c s Dev.memsWf
theorem Keeps.of_memsWf {c : Instr} (runs : ∀ s : State, ∃ d : Dev, exec c s = .next { s with dev := d } ∧ (s.dev.memsWf → d.memsWf)) : Keeps c := by
  intro s wf
  obtain ⟨d, meaning, keeps⟩ := runs s
  exact ⟨_, meaning, rfl, keeps wf⟩
theorem Keeps.of {c : Instr}
    (runs : ∀ s : State, ∃ d : Dev, exec c s = .next { s with dev := d } ∧ ∀ b, s.dev.Tidy (fun _ => True) b → d.Tidy (fun _ => True) b) : Keeps c := by
  intro s wf
  obtain ⟨d, meaning, keeps⟩ := runs s
  obtain ⟨lanes, bulk, -⟩ := keeps _ (s.dev.tidy_iff.mp wf)
  exact ⟨_, meaning, rfl, d.tidy_iff.mpr ⟨lanes, bulk, rfl⟩⟩

/-! ### The commands of the timetable's own lane -/

section
variable (l : Lane) (p : Bool)

theorem keeps_stageEvaluation : Keeps (.stageEvaluation l p) := by
  refine .of fun _ => ⟨_, rfl, fun _ h => ?_⟩
  refine h.dispatch fun _ _ _ h => ?_
  exact .ite_ (.countLow (.ite_ (.countLow h.onLane_aside ..) h.onLane_aside) ..) (.ite_ (.countLow h.onLane_aside ..) h.onLane_aside)
theorem keeps_loopClose : Keeps (.loopClose l p) := by
  refine .of fun _ => ⟨_, rfl, fun _ h => ?_⟩
  refine h.dispatch fun _ _ _ h => ?_
  exact .ite_ (.countLow (.ite_ (.countLow h.onLane_aside ..) h.onLane_aside) ..) (.ite_ (.countLow h.onLane_aside ..) h.onLane_aside)
theorem keeps_modulation : Keeps (.modulation l p) := by
  refine .of fun _ => ⟨_, rfl, fun _ h => ?_⟩
  refine h.dispatch fun _ _ _ h => ?_
  exact .countLow (.countLow (.ite_ (.countLow h.onLane_aside ..) h.onLane_aside) ..) ..
theorem keeps_pwmCompareWrite : Keeps (.pwmCompareWrite l p) :=
  .of fun _ => ⟨_, rfl, fun _ h => by exact h.dispatch fun _ _ _ h => h.compareWrite ..⟩
theorem keeps_gateEventPost : Keeps (.gateEventPost l p) :=
  .of fun _ => ⟨_, rfl, fun _ h => by exact h.dispatch fun _ _ _ h => h.postPairs ..⟩
theorem keeps_edgeEventPost : Keeps (.edgeEventPost l p) :=
  .of fun _ => ⟨_, rfl, fun _ h => by exact h.dispatch fun _ _ _ h => h.postPairs ..⟩
theorem keeps_encoderHallRead : Keeps (.encoderHallRead l p) := by
  refine .of fun _ => ⟨_, rfl, fun _ h => ?_⟩
  refine h.dispatch fun _ _ d h => ?_
  dsimp only
  split
  · exact .onLane_aside (h.drawn _)
  · exact .onLane_aside h

end

/-! ### Angles -/

theorem keeps_rdcUpdate (l : Lane) (ch : Nat) (sinV cosV : Int) : Keeps (.rdcUpdate l ch sinV cosV) :=
  .of fun _ => ⟨_, rfl, fun _ h => by exact .ite_ ((h.toRaw _).onLane fun _ wf => wf) h⟩
theorem keeps_encoderEdge (l : Lane) (inp : Nat) (w0 w1 w2 : Bool) (held : Nat) : Keeps (.encoderEdge l inp w0 w1 w2 held) :=
  .of fun _ => ⟨_, rfl, fun _ h => by exact h.onLane fun _ wf => wf⟩
theorem keeps_encoderSpeedTimeout (l : Lane) (inp : Nat) : Keeps (.encoderSpeedTimeout l inp) := by
  refine .of fun _ => ⟨_, rfl, fun _ h => ?_⟩
  dsimp only
  split
  · exact h.onLane fun _ wf => wf
  · exact (h.toClk _).onLane fun _ wf => wf

/-! ### Deadlines and monitor cores -/

theorem keeps_missedDeadline (l : Lane) (u : Nat) : Keeps (.missedDeadline l u) := by
  refine .of fun _ => ⟨_, rfl, fun _ h => ?_⟩
  dsimp only
  split
  · exact .ite_ (.takeOut (.foldl (h.toLaneClk l _) (fun _ g h => h.unpost l g) _) ..) h
  · exact h
theorem keeps_lmcPostTimeout (l : Lane) : Keeps (.lmcPostTimeout l) :=
  .of fun _ => ⟨_, rfl, fun _ h => by exact .ite_ h (h.onSeq ..)⟩
theorem keeps_laneMonitorCoreFault (l : Lane) : Keeps (.laneMonitorCoreFault l) :=
  .of fun _ => ⟨_, rfl, fun _ h => by exact .onSeq (h.onLanes fun q wf => by dsimp only; split <;> exact wf) ..⟩

end Sys2Proof.Machine
end

section
/-! SUPPORT. The byte memories and the beat through measurement, payloads, the network and the safety outputs. -/

namespace Sys2Proof.Machine
open Sys2Proof

/-- The memories are canonical, whatever the beat. -/
def Dev.Canon (w : Option Lane → Prop) (d : Dev) : Prop := ∃ b, d.Tidy w b

namespace Dev.Tidy
variable {w : Option Lane → Prop} {b : Beat} {d : Dev}

/-! ### Observers and conversions -/

theorem obsReport (h : d.Tidy w b) (l : Lane) (f : Nat) (x y : ObsSt) : (obsReport d l f x y).Tidy w b := by
  unfold Machine.obsReport
  extract_lets +onlyGivenNames ch e
  have counted : e.Tidy w b := by
    refine ite_ ?_ h
    split
    · exact h.countLow ..
    · exact h
  exact ite_ (counted.laneRec ..) counted
theorem convertAll {l : Lane} (h : d.Tidy (fun k => w k ∧ k ≠ some l) b) (g : Img) (x adc i : Nat) (cs : List AdcSample) :
    (convertAll g x l adc i cs d).Tidy (fun k => w k ∧ k ≠ some l) b := by
  induction cs generalizing i d with
  | nil => exact h
  | cons c r ih =>
    unfold Machine.convertAll
    refine ite_ ?_ h
    dsimp only
    exact ih (.countIf (.countIf (.onLane_aside (.onLane_aside h)) ..) ..) _

/-! ### Jobs and modes -/

theorem endJob (h : d.Tidy w b) (n s e : Nat) : (d.endJob n s e).Tidy w b := h
theorem endJob? (h : d.Tidy w b) (n : Option Nat) (s e : Nat) : (d.endJob? n s e).Tidy w b := by
  cases n with
  | none => exact h
  | some n => exact h.endJob n s e
theorem putTest (h : d.Tidy w b) (c u r o t : Nat) : (d.putTest c u r o t).Tidy w b := h
theorem listenOnly (h : d.Tidy w b) : d.listenOnly.Tidy w b := h
theorem clearPend (h : d.Tidy w b) : d.clearPend.Tidy w b := h.onLanes fun _ wf => wf
theorem setPend (h : d.Tidy w b) (m : Nat) : (d.setPend m).Tidy w b := h.foldl (fun _ _ h => ite_ (h.onSeq ..) h) _
theorem withdraw (h : d.Tidy w b) (n : Nat) : (d.withdraw n).Tidy w b := by
  unfold Dev.withdraw
  split
  · exact h
  · exact ite_ (.clearPend (.endJob? (h.onNet _) ..)) (h.onNet _)
theorem requestMode (h : d.Tidy w b) (m : Nat) (job : Option Nat) : (d.requestMode m job).Tidy w b := by
  unfold Dev.requestMode
  extract_lets +onlyGivenNames old _ announced e
  have held : e.Tidy w b := by
    unfold e
    split
    · exact h.endJob? ..
    · exact h
  exact ite_ (.onNet (h.endJob? ..) _) (ite_ h (ite_ (held.onNet _) (.onNet (h.endJob? ..) _)))

/-! ### Slots and frames -/

theorem slotStartAt (h : d.Tidy w b) (r : SlotRec) : (slotStartAt d r).Tidy w b := by
  unfold Machine.slotStartAt
  extract_lets +onlyGivenNames start e
  have there : e.Tidy w b := h.toGt _
  clear_value e
  refine ite_ there ?_
  extract_lets +onlyGivenNames mine
  split
  · exact there
  · next q _ =>
    extract_lets +onlyGivenNames e'
    have taken : e'.Tidy w b := there
    clear_value e'
    exact ite_ (taken.count ..) (ite_ (taken.count ..) (ite_ taken (taken.onNet _)))
theorem takeCopy (h : d.Tidy w b) (r : SlotRec) (f : BtnFrame) (inTime : Bool) : (takeCopy d r f inTime).Tidy w b := by
  unfold Machine.takeCopy
  extract_lets +onlyGivenNames old last copies put same sameCyc
  have puts : ∀ (d : Dev) n l, d.Tidy w b → (put d n l).Tidy w b := fun _ _ _ h => h.onNet _
  clear_value put
  refine ite_ (puts _ _ _ h) (ite_ (h.count ..) ?_)
  extract_lets +onlyGivenNames gap x y z
  have taken : z.Tidy w b := puts _ _ _ (.count (h.countIf ..) ..)
  exact ite_ (taken.onNet _) taken
theorem modeFrame (h : d.Tidy w b) (f : BtnFrame) : (modeFrame d f).Tidy w b := by
  unfold Machine.modeFrame
  extract_lets +onlyGivenNames hit
  split
  · exact ite_ (h.onNet _) h
  · exact ite_ (ite_ (.withdraw (h.onNet _) _) h)
      (ite_ (ite_ (.withdraw (h.onNet _) _) (ite_ (ite_ h (h.onNet _)) (h.onNet _))) (ite_ (h.onNet _) h))
theorem guardRing (h : d.Tidy w b) (id : Nat) (inWin : Bool) : (guardRing d id inWin).Tidy w b := .onNet (.countIf (h.countIf ..) ..) _
theorem ownReturn (h : d.Tidy w b) (f : BtnFrame) (a : Int) : (ownReturn d f a).Tidy w b := ite_ (h.onNet _) (ite_ h (h.onNet _))
theorem measureMember (h : d.Tidy w b) (f : BtnFrame) (a : Int) : (measureMember d f a).Tidy w b := h.onNet _
theorem noteTn (h : d.Tidy w b) (r : SlotRec) (f : BtnFrame) : (noteTn d r f).Tidy w b := ite_ (.listenOnly (h.onNet _)) (h.onNet _)
theorem forward (h : d.Tidy w b) (east bad : Bool) (f : BtnFrame) (a : Nat) : (forward d east bad f a).Tidy w b := h.onNet _
theorem noteRing (h : d.Tidy w b) (east : Bool) (f : BtnFrame) : (noteRing d east f).Tidy w b := h.onNet _
theorem hearMember (h : d.Tidy w b) (f : BtnFrame) : (hearMember d f).Tidy w b := h.onNet _
/-- A device that starts to follow the ring's time takes its beat from it. -/
theorem adoptGt (h : d.Tidy w b) (tx cycle start delay : Nat) : (adoptGt d tx cycle start delay).Canon w := ⟨_, h.1, h.2.1, rfl⟩
theorem integrateOn (h : d.Tidy w b) (f : BtnFrame) (r : SlotRec) : (integrateOn d f r).Canon w := by
  unfold Machine.integrateOn
  split
  · dsimp only
    split
    · exact (h.onNet _).adoptGt ..
    · exact ⟨b, h.onNet _⟩
  · exact ⟨b, h⟩
theorem coldFrame (h : d.Tidy w b) (node : Nat) (dir : Bool) : (coldFrame d node dir).Tidy w b := by
  unfold Machine.coldFrame
  extract_lets +onlyGivenNames back
  have backs : ∀ d : Dev, d.Tidy w b → (back d).Tidy w b := fun d h => onTime (d := d.count (cNet 2) 1) h (f := fun t => { t with run := false }) rfl
  clear_value back
  refine ite_ h (ite_ (h.count ..) ?_)
  split
  · exact h.onNet _
  · exact h.onNet _
  · exact ite_ (backs _ (h.count ..)) (h.count ..)
  · exact ite_ h (ite_ (backs _ h) (.onNet (h.onTime rfl) _))
  · exact h.count ..
theorem coldRing (h : d.Tidy w b) (east : Bool) (f : BtnFrame) : (coldRing d east f).Tidy w b :=
  .coldFrame (ite_ (h.noteRing ..) (.forward (h.noteRing ..) ..)) ..
theorem plainFrame (h : d.Tidy w b) (port : Port) (star : Bool) (off : Nat) (f : BtnFrame) (a : Nat) : (plainFrame d port star off f a).Tidy w b := by
  unfold Machine.plainFrame
  split
  · exact h.count ..
  · exact ite_ (h.count ..) (ite_ (h.count ..) (ite_ (h.count ..) (ite_ (h.count ..) (h.takeCopy ..))))
theorem ringFrame (h : d.Tidy w b) (east : Bool) (f : BtnFrame) (arrival : Nat) : (ringFrame d east f arrival).Canon w := by
  unfold Machine.ringFrame
  extract_lets +onlyGivenNames port a crcBad own hasGt e rec_ off win start inWin direct e' muted fwd e''
  have noted : e.Tidy w b := ite_ h (h.noteRing ..)
  have guarded : e'.Tidy w b := ite_ (noted.guardRing ..) noted
  have sent : e''.Tidy w b := ite_ (guarded.forward ..) guarded
  clear_value e'' muted inWin start rec_
  split
  · exact ⟨b, ite_ sent (sent.ownReturn ..)⟩
  split
  · exact ⟨b, sent.count ..⟩
  · split
    · exact ⟨b, sent.count ..⟩
    split
    · exact ⟨b, sent.count ..⟩
    extract_lets +onlyGivenNames x inTime m m' m'' m'''
    have told : x.Tidy w b := ite_ (sent.noteTn ..) sent
    clear_value x
    split
    · exact ⟨b, ite_ (told.count ..) (told.count ..)⟩
    split
    · exact ⟨b, told⟩
    have measured : m.Tidy w b := ite_ told (told.measureMember ..)
    clear_value m
    have heard : m'.Tidy w b := measured.hearMember _
    clear_value m'
    have shown : m''.Tidy w b := ite_ (heard.onPair _) heard
    clear_value m''
    have taken : m'''.Tidy w b := shown.takeCopy ..
    obtain ⟨c, follows⟩ := taken.integrateOn f _
    exact ⟨c, follows.modeFrame f⟩
theorem wrapPort (h : d.Tidy w b) (east : Bool) : (wrapPort d east).Tidy w b := ite_ (.onNet (h.count ..) _) h
theorem bellPort (h : d.Tidy w b) (east : Bool) : (bellPort d east).Tidy w b := h.onNet _
theorem queueRecess (h : d.Tidy w b) (fwd : Bool) (ports : List Port) (src : Port) (bytes : List Byte) : (queueRecess d fwd ports src bytes).Tidy w b := by
  unfold Machine.queueRecess
  extract_lets +onlyGivenNames fits e
  have counted : e.Tidy w b := h.foldl (fun _ _ h => h.count ..) _
  exact ite_ counted (ite_ (counted.onNet _) (counted.count ..))
theorem queueHost (h : d.Tidy w b) (src : Port) (bytes : List Byte) : (queueHost d src bytes).Tidy w b := ite_ (h.onNet _) (h.count ..)
theorem onStar (h : d.Tidy w b) (i : Nat) (f : GuardSt → GuardSt) : (d.onStar i f).Tidy w b := h
theorem starViolation (h : d.Tidy w b) (i : Nat) : (starViolation d i).Tidy w b := .onStar (h.count ..) ..

/-! ### The bell of the network -/

theorem applyCorr (h : d.Tidy w b) (corr : Int) : (applyCorr d corr).Tidy w b := h.onTime rfl
theorem syncBell (h : d.Tidy w b) : (syncBell d).Tidy w b := ite_ (.onNet (h.onTime rfl) _) (ite_ (.onNet (h.applyCorr _) _) (.onNet (h.applyCorr _) _))
theorem ringSyncLose (h : d.Tidy w b) : (ringSyncLose d).Tidy w b := ite_ h (.ring (.note (.onNet (h.onTime rfl) _) ..) _)
theorem syncState (h : d.Tidy w b) : (syncState d).Tidy w b := ite_ h.ringSyncLose (ite_ (.ring (.note (h.onTime rfl) ..) _) h)
theorem ringBell (h : d.Tidy w b) : (ringBell d).Tidy w b := by
  unfold Machine.ringBell
  extract_lets +onlyGivenNames kept e
  have joined : e.Tidy w b := by
    unfold e
    split
    · exact ite_ (h.onNet _) h
    · exact ite_ h.listenOnly (h.onNet _)
    · exact h
  clear_value e
  exact ite_ (ite_ joined.listenOnly (ite_ (joined.onNet _) joined)) joined
theorem switchMode (h : d.Tidy w b) (m : Nat) : (switchMode d m).Tidy w b :=
  .event (.note (h.foldl (fun _ _ h => ite_ (h.onSeq ..) h) _) ..) ..
/-- The switch of the network's mode, or the end of a request for the mode that runs. -/
theorem modeTurn (h : d.Tidy w b) (p : Prop) {_ : Decidable p} (m : Nat) (job : Option Nat) : ((if p then d.clearPend else Machine.switchMode d m).endJob? job 0 0).Tidy w b :=
  .endJob? (ite_ h.clearPend (h.switchMode m)) ..
theorem modeBell (h : d.Tidy w b) : (modeBell d).Tidy w b := by
  unfold Machine.modeBell
  extract_lets +onlyGivenNames -underBinder e
  have switched : e.Tidy w b := by
    unfold e
    split
    · exact h
    · refine ite_ (ite_ (ite_ (h.onNet _) ((h.onNet _).modeTurn ..)) h) (ite_ ?_ (ite_ (h.onNet _) (ite_ (h.onNet _) ?_)))
      · dsimp only
        split
        · exact .requestMode (.onNet ((h.onNet _).modeTurn ..) _) ..
        · exact (h.onNet _).modeTurn ..
      · split
        · exact ite_ (.onNet (h.count ..) _) h
        · exact h
  clear_value e
  split
  · exact ite_ (ite_ switched (switched.switchMode _)) (.listenOnly (switched.onNet _))
  · exact switched.onNet _
  · exact switched
theorem netBell (h : d.Tidy w b) : (netBell d).Tidy w b := by
  unfold Machine.netBell
  refine ite_ h ?_
  extract_lets +onlyGivenNames d1 d2 d3 d4 d5 d6
  have ports : d1.Tidy w b := (h.bellPort _).bellPort _
  clear_value d1
  have wraps : d2.Tidy w b := (ports.wrapPort _).wrapPort _
  clear_value d2
  have counted : d4.Tidy w b := (wraps.onNet _).onNet _
  clear_value d4
  have timed : d5.Tidy w b := ite_ counted (.ringBell (.syncState counted.syncBell))
  clear_value d5
  exact timed.modeBell.onNet _

/-! ### Safety outputs and stop -/

theorem onSio (h : d.Tidy w b) (x : Bool) (f : SioSt → SioSt) : (d.onSio x f).Tidy w b := h
theorem outFault (h : d.Tidy w b) (x : Bool) (o : Nat) : (d.outFault x o).Tidy w b := .noteDegraded (.fault (.count (h.onSio ..) ..) ..)
theorem noteStop (h : d.Tidy w b) (l : Lane) (x y : StopSt) (n : Nat) : (noteStop d l x y n).Tidy w b :=
  ite_ h (.event (.laneRec (ite_ (h.count ..) h) ..) ..)
theorem share_wf (s : StopSt) {q : LaneSt} (wf : memWf q.mem = true) : memWf (s.share q).mem = true := by
  unfold StopSt.share
  split
  · exact wf
  · exact LaneSt.setSig_wf _ _ _ (LaneSt.setSig_wf _ _ _ (LaneSt.setSig_wf _ _ _ wf))
theorem stopRun (h : d.Tidy w b) (l : Lane) (n : Nat) : (stopRun d l n).Tidy w b := by
  unfold Machine.stopRun
  split
  · exact h
  · refine ite_ h (noteStop (onLane h fun _ wf => ?_) ..)
    exact share_wf _ wf

end Dev.Tidy

/-! ### Commands of measurement, payloads and modes -/

section
variable (l : Lane) (p : Bool)

theorem keeps_observerStep : Keeps (.observerStep l p) := by
  refine .of fun _ => ⟨_, rfl, fun _ h => ?_⟩
  refine h.dispatch fun _ _ _ h => ?_
  exact .obsReport (.countLow (.countLow h.onLane_aside ..) ..) ..
theorem failObs_wf (t : ObsDesc) (f : Nat) {q : LaneSt} (wf : memWf q.mem = true) : memWf (failObs t f q).mem = true :=
  laneWrite_wf _ _ _ (LaneSt.setSigs_wf _ _ wf)
theorem keeps_acqTimeout (fcu : Nat) : Keeps (.acqTimeout l fcu) := by
  refine .of fun _ => ⟨_, rfl, fun _ h => ?_⟩
  dsimp only
  split
  · exact .ite_ (.ite_ (h.toGt _) (.obsReport ((h.toGt _).onLane fun _ wf => failObs_wf _ _ wf) ..)) h
  · exact h
theorem keeps_sampleAndConvert (codes : List AdcSample) : Keeps (.sampleAndConvert l p codes) :=
  .of fun _ => ⟨_, rfl, fun _ h => by exact h.dispatch fun _ _ _ h => h.convertAll ..⟩
theorem keeps_dinLevelAccepted (n : Nat) (level : Bool) (samples : Nat) : Keeps (.dinLevelAccepted l n level samples) :=
  .of fun _ => ⟨_, rfl, fun _ h => by exact .ite_ (.ite_ ((h.toClk _).onLane fun _ wf => wf) (h.toClk _)) h⟩
theorem keeps_lciMeasurement (code : BitVec 12) (high period : Nat) : Keeps (.lciMeasurement l code high period) :=
  .of fun _ => ⟨_, rfl, fun _ h => by exact .ite_ ((h.toClk _).onLane fun _ wf => wf) (.ite_ ((h.toClk _).onLane fun _ wf => wf) h)⟩
theorem keeps_lciTimeout (level : Bool) : Keeps (.lciTimeout l level) :=
  .of fun _ => ⟨_, rfl, fun _ h => by exact .ite_ (.count ((h.toClk _).onLane fun _ wf => wf) ..) h⟩
theorem keeps_payloadPost : Keeps (.payloadPost l p) := by
  refine .of fun _ => ⟨_, rfl, fun _ h => ?_⟩
  refine h.dispatch fun _ _ _ h => ?_
  exact .ite_ (.postWord (h.onSeq ..) ..) (h.onSeq ..)
theorem keeps_safetyDemandPost : Keeps (.safetyDemandPost l p) := by
  refine .of fun _ => ⟨_, rfl, fun _ h => ?_⟩
  refine h.dispatch fun _ _ _ h => ?_
  exact .onLane_aside (.postWord (h.postWord ..) ..)
theorem keeps_stateDigestSlice : Keeps (.stateDigestSlice l p) := by
  refine .of fun _ => ⟨_, rfl, fun _ h => ?_⟩
  refine h.dispatch fun _ _ _ h => ?_
  exact h.foldl (fun _ _ h => h.foldl (fun _ _ h => h.postWord ..) _) _
theorem keeps_groupStaging : Keeps (.groupStaging l p) :=
  .of fun _ => ⟨_, rfl, fun _ h => by exact h.dispatchStaging fun _ _ _ h => h⟩
theorem keeps_modeRequestEntry : Keeps (.modeRequestEntry l p) := by
  refine .of fun _ => ⟨_, rfl, fun _ h => ?_⟩
  refine h.dispatch fun _ _ _ h => ?_
  exact .ite_ h (.ite_ (.requestMode (h.onSeq ..) ..) (h.onSeq ..))

end

/-! ### Commands of the network -/

theorem keeps_slotStart (n : Nat) : Keeps (.slotStart n) := by
  refine .of fun _ => ⟨_, rfl, fun _ h => ?_⟩
  dsimp only
  split
  · exact h.slotStartAt _
  · exact h
theorem keeps_coldstartFrameReceived (node : Nat) (dir : Bool) : Keeps (.coldstartFrameReceived node dir) :=
  .of fun _ => ⟨_, rfl, fun _ h => by exact .ite_ h (h.coldRing ..)⟩
/-- A command after which the beat may be another. -/
theorem Keeps.of_canon {c : Instr}
    (runs : ∀ s : State, ∃ d : Dev, exec c s = .next { s with dev := d } ∧ ∀ b, s.dev.Tidy (fun _ => True) b → d.Canon (fun _ => True)) : Keeps c := by
  intro s wf
  obtain ⟨d, meaning, keeps⟩ := runs s
  obtain ⟨_, lanes, bulk, -⟩ := keeps _ (s.dev.tidy_iff.mp wf)
  exact ⟨_, meaning, rfl, d.tidy_iff.mpr ⟨lanes, bulk, rfl⟩⟩
theorem Dev.Tidy.canon {w : Option Lane → Prop} {b : Beat} {d : Dev} (h : d.Tidy w b) : d.Canon w := ⟨b, h⟩
theorem Dev.Canon.ite_ {w : Option Lane → Prop} {x y : Dev} {p : Prop} {_ : Decidable p} (yes : x.Canon w) (no : y.Canon w) : (if p then x else y).Canon w := by
  split <;> assumption
theorem Dev.Tidy.ringArrives {w : Option Lane → Prop} {b : Beat} {d : Dev} (h : d.Tidy w b) (east cold : Bool) (f : BtnFrame)
    (a : Nat) : (if d.offRing then d else if cold then Machine.coldRing d east f else Machine.ringFrame d east f a).Canon w :=
  .ite_ h.canon (.ite_ (h.coldRing ..).canon (h.ringFrame ..))
theorem keeps_btnFrameReceived (port : Port) (f : BtnFrame) (arrival : BitVec 64) : Keeps (.btnFrameReceived port f arrival) := by
  refine .of_canon fun _ => ⟨_, rfl, fun b h => ?_⟩
  have there := h.toGt arrival.toNat
  dsimp only
  generalize Dev.toGt _ arrival.toNat = d at there
  refine .ite_ there.canon ?_
  cases port with
  | ringE => exact there.ringArrives ..
  | ringW => exact there.ringArrives ..
  | pair0 => exact (there.plainFrame ..).canon
  | pair1 => exact (there.plainFrame ..).canon
  | star i => exact .ite_ there.canon (Dev.Tidy.plainFrame (there.onNet _) ..).canon
  | mgmt => exact there.canon
theorem keeps_acceptanceWindowEnd (n : Nat) : Keeps (.acceptanceWindowEnd n) := by
  refine .of fun _ => ⟨_, rfl, fun _ h => ?_⟩
  dsimp only
  split
  · exact .ite_ (h.toGt _) (.onNet (.ite_ (.count (h.toGt _) ..) (.ite_ (.count (h.toGt _) ..) (h.toGt _))) _)
  · exact h
theorem keeps_modeTimeout : Keeps .modeTimeout := by
  refine .of fun _ => ⟨_, rfl, fun _ h => ?_⟩
  dsimp only
  split
  · exact .ite_ (.withdraw (h.onNet _) _) h
  · exact h
theorem keeps_ringLinkDown (east : Bool) : Keeps (.ringLinkDown east) :=
  .of fun _ => ⟨_, rfl, fun _ h => by exact .ite_ (h.onNet _) (.wrapPort (h.onNet _) _)⟩
theorem keeps_ringLinkUp (east : Bool) : Keeps (.ringLinkUp east) :=
  .of fun _ => ⟨_, rfl, fun _ h => by exact .onNet (h.onTime rfl) _⟩
theorem keeps_recessStart (port : Port) : Keeps (.recessStart port) :=
  .of fun _ => ⟨_, rfl, fun _ h => by exact .ite_ (h.toGt _) (.onNet (h.toGt _) _)⟩
theorem keeps_unscheduledFrameReceived (port : Port) (dest : DestKind) (bytes : List Byte) : Keeps (.unscheduledFrameReceived port dest bytes) := by
  refine .of fun _ => ⟨_, rfl, fun _ h => ?_⟩
  refine .ite_ h ?_
  dsimp only
  split
  · exact .ite_ h (.ite_ (h.queueRecess ..) (.queueHost (h.queueRecess ..) ..))
  · exact h.queueHost ..
  · exact .queueHost (h.queueRecess ..) ..
  · exact h.queueRecess ..
theorem keeps_starFrameArrival (i : Nat) (btn : Bool) (node : Nat) : Keeps (.starFrameArrival i btn node) := by
  refine .of fun _ => ⟨_, rfl, fun _ h => ?_⟩
  refine .ite_ h ?_
  dsimp only
  split
  · exact .ite_ (h.starViolation _) (.ite_ (h.onStar ..) (.onNet (h.onStar ..) _))
  · exact .ite_ h (h.starViolation _)
theorem keeps_invigilatorCut (i : Nat) : Keeps (.invigilatorCut i) := by
  refine .of fun _ => ⟨_, rfl, fun _ h => ?_⟩
  dsimp only
  split
  · exact .starViolation (.onNet (h.toGt _) _) _
  · exact h
theorem keeps_listenWindowEnd : Keeps .listenWindowEnd := by
  refine .of_canon fun s => ⟨_, rfl, fun _ h => ?_⟩
  refine .ite_ h.canon ?_
  have there := h.toClk (s.dev.net.since + s.dev.listenClk (s.dev.net.ring == .backoff))
  dsimp only
  generalize s.dev.toClk _ = d at there
  split
  · exact .ite_ ⟨_, there.1, there.2.1, rfl⟩ (there.onNet _).canon
  · exact .ite_ ((there.onNet _).adoptGt ..) (there.onNet _).canon
  · exact .ite_ (Dev.Tidy.onNet (there.count ..) _).canon (there.onNet _).canon
theorem keeps_memberSilenceTimeout : Keeps .memberSilenceTimeout := by
  refine .of fun _ => ⟨_, rfl, fun _ h => ?_⟩
  dsimp only
  split
  · exact .onNet (h.toClk _) _
  · exact h
theorem keeps_ringSyncLost : Keeps .ringSyncLost :=
  .of fun _ => ⟨_, rfl, fun _ h => by exact .ite_ h.ringSyncLose h⟩

/-! ### Commands of the safety outputs -/

theorem keeps_ssReqAccepted (x demand : Bool) (n : Nat) : Keeps (.ssReqAccepted x demand n) :=
  .of fun _ => ⟨_, rfl, fun _ h => by exact .ite_ h (.onSio (h.toClk _) ..)⟩
theorem keeps_safetyOutputChange (x : Bool) : Keeps (.safetyOutputChange x) := by
  refine .of fun _ => ⟨_, rfl, fun _ h => ?_⟩
  dsimp only
  split
  · exact h
  · exact .ite_ (.onSio (h.toGt _) ..) (.onSio (.countIf (.onSio (h.toGt _) ..) ..) ..)
theorem keeps_testPulseStart (o : Nat) : Keeps (.testPulseStart o) :=
  .of fun _ => ⟨_, rfl, fun _ h => by exact .ite_ h (.onSio (.count (h.toGt _) ..) ..)⟩
theorem keeps_testPulseEnd (o : Nat) (ok : Bool) : Keeps (.testPulseEnd o ok) :=
  .of fun _ => ⟨_, rfl, fun _ h => by exact .ite_ h (.ite_ (.onSio (h.toGt _) ..) (.outFault (.onSio (h.toGt _) ..) ..))⟩
theorem keeps_outputReadbackMismatch (x : Bool) (o : Nat) : Keeps (.outputReadbackMismatch x o) :=
  .of fun _ => ⟨_, rfl, fun _ h => by exact .ite_ h (h.outFault ..)⟩
theorem keeps_safeStopRun (l : Lane) (p : Bool) (io : Option StopIo) : Keeps (.safeStopRun l p io) :=
  .of fun _ => ⟨_, rfl, fun _ h => by exact .ite_ (h.takeOut ..) (.stopRun (h.onLane fun _ wf => wf) ..)⟩
theorem keeps_safeStopStopped (l : Lane) : Keeps (.safeStopStopped l) := by
  refine .of fun _ => ⟨_, rfl, fun _ h => ?_⟩
  dsimp only
  split
  · exact .ite_ (.stopRun (h.toGt _) ..) h
  · exact h

end Sys2Proof.Machine
end

section
/-! SUPPORT. The byte memories and the beat through the DC link, the voters, recovery and casts. -/

namespace Sys2Proof.Machine
open Sys2Proof

/-! ### The words of the DC link -/

section
variable {q : LaneSt}

theorem dclFcu_wf (s : DclSt) (io : DclIo) (f : DclFcu) (wf : memWf q.mem = true) : memWf (dclFcu s io q f).mem = true :=
  LaneSt.setSig_wf _ _ _ (LaneSt.setSig_wf _ _ _ (LaneSt.setSig_wf _ _ _ wf))
theorem unitState_wf (inst n : Nat) (wf : memWf q.mem = true) : memWf (q.unitState inst n).mem = true := by
  unfold LaneSt.unitState
  split
  · exact LaneSt.setSig_wf _ _ _ wf
  · exact wf
theorem LaneSt.ite_wf {x y : LaneSt} {p : Prop} {_ : Decidable p} (yes : memWf x.mem = true) (no : memWf y.mem = true) : memWf (if p then x else y).mem = true := by
  split <;> assumption
theorem dclUnits_wf (s : DclSt) (wf : memWf q.mem = true) : memWf (dclUnits s q).mem = true := by
  unfold dclUnits
  extract_lets x y
  have first : memWf x.mem = true := LaneSt.ite_wf (unitState_wf _ _ wf) (LaneSt.ite_wf (unitState_wf _ _ wf) wf)
  have second : memWf y.mem = true := LaneSt.ite_wf (unitState_wf _ _ first) first
  exact LaneSt.ite_wf (unitState_wf _ _ second) second
theorem pcRequest_wf (s : DclSt) (io : DclIo) (x : Bool) (wf : memWf q.mem = true) : memWf (pcRequest s io x q).mem = true := by
  unfold pcRequest
  dsimp only
  split
  · exact wf
  · exact unitState_wf _ _ wf
theorem dclBlend_wf (s : DclSt) (io : DclIo) (wf : memWf q.mem = true) : memWf (dclBlend s io q).mem = true := LaneSt.setSig_wf _ _ _ (LaneSt.setSig_wf _ _ _ wf)
theorem dclOut_wf (s : DclSt) (io : DclIo) (wf : memWf q.mem = true) : memWf (dclOut s io q).mem = true :=
  LaneSt.setSig_wf _ _ _ (LaneSt.setSig_wf _ _ _ (LaneSt.setSig_wf _ _ _ wf))
theorem dclFcus_wf (s : DclSt) (io : DclIo) (l : List DclFcu) (wf : memWf q.mem = true) : memWf (l.foldl (dclFcu s io) q).mem = true := by
  induction l generalizing q with
  | nil => exact wf
  | cons f r ih =>
    have step := dclFcu_wf s io f wf
    rw [List.foldl_cons]
    generalize dclFcu s io q f = x at step ⊢
    exact ih step

/-- What a cast gives the target of memory begins with the initial memory. -/
theorem castConfig_wf (t a : LaneSt) (g : Img) {m : List Host.Cell} (wf : memWf m = true) : memWf (t.castConfig a g m).mem = true := LaneSt.setSigs_wf _ _ wf
theorem castFrom_wf (t a b : LaneSt) (g : Img) : memWf (t.castFrom a b g).mem = true := by
  have config (x : LaneSt) (half base : Nat) (c : List CoefRec) :
      memWf ({ t.castConfig x g (castRanges a.mem b.mem half base g.ranges (initMem g)) with coef := c } : LaneSt).mem = true :=
    castConfig_wf _ _ _ (castRanges_wf _ _ _ _ _ _ (initMem_wf g))
  exact config _ (castHalf g a) (castBase g a) _

end

namespace Dev.Tidy
variable {w : Option Lane → Prop} {b : Beat} {d : Dev}

theorem notePre (h : d.Tidy w b) (l : Lane) (x y : DclSt) : (notePre d l x y).Tidy w b := ite_ (.laneRec (h.count ..) ..) h
theorem noteModes (h : d.Tidy w b) (l : Lane) (io : DclIo) (q : LaneSt) (t : DclSt) : (noteModes d l io q t).Tidy w b :=
  h.foldl (fun _ _ h => ite_ (h.count ..) h) _

/-! ### Voters -/

theorem markOut (h : d.Tidy w b) (v : VoterPlace) (l : Lane) : (d.markOut v l).Tidy w b := h
theorem rejoin (h : d.Tidy w b) (l : Lane) : (d.rejoin l).Tidy w b := h
theorem voterFault (h : d.Tidy w b) (x l c t : Nat) : (d.voterFault x l c t).Tidy w b := .noteDegraded (.fault (h.onVot _) ..)
theorem outputStage (h : d.Tidy w b) (g : Group) (n : Nat) (v : VWord) : (outputStage d g n v).Tidy w b := by
  cases g with
  | gate n => exact h
  | edge c => exact ite_ (h.onLink ..) h
  | payload x => exact ite_ h (h.onNet _)
  | safetyA => exact h
  | safetyB => exact h
  | digest x => exact h
  | outDigest => exact h
theorem releaseWord (h : d.Tidy w b) (g : Group) (n : Nat) (v : VWord) : (releaseWord d g n v).Tidy w b := ite_ h (h.outputStage ..)
theorem dropPending (h : d.Tidy w b) (g : Group) : (dropPending d g).Tidy w b := by cases g <;> exact h
theorem holdGroup (h : d.Tidy w b) (g : Group) (t : BitVec 8) : (holdGroup d g t).Tidy w b := ite_ (h.onVot _) (.onGroup (.dropPending (h.onVot _) _) ..)
theorem probationFail (h : d.Tidy w b) (l : Lane) : (probationFail d l).Tidy w b := by
  unfold Machine.probationFail
  extract_lets x
  have out : x.Tidy w b := .onSeq (h.takeOut ..) ..
  clear_value x
  exact ite_ (.noteDegraded (.onVot (out.onSeq ..) _)) out
theorem cellFault (h : d.Tidy w b) (g : Group) (cell : Option Lane) (t : BitVec 8) : (cellFault d g cell t).Tidy w b := by
  unfold Machine.cellFault
  split
  · exact h
  · exact h
  · exact ite_ h (.voterFault (h.onVot _) ..)
theorem runVerdict (h : d.Tidy w b) (g : Group) (t : BitVec 8) (n : Nat) (cell : Option Lane) : (runVerdict d g t n cell).Tidy w b := by
  unfold Machine.runVerdict
  extract_lets +onlyGivenNames gs live
  split
  · exact h
  · extract_lets +onlyGivenNames -underBinder late v k rel x y z
    have judged : y.Tidy w b := .onGroup (h.cellFault ..) ..
    clear_value y rel v
    have done : z.Tidy w b := by
      unfold z
      split
      · exact .holdGroup (judged.count ..) ..
      · exact .holdGroup (judged.count ..) ..
      · exact .releaseWord (judged.count ..) ..
      · exact .foldl (.releaseWord (judged.count ..) ..) (fun _ _ h => .onGroup (h.takeOut ..) ..) _
    clear_value z
    split
    · exact done
    · exact done.foldl (fun _ _ h => ite_ (h.probationFail _) h) _
theorem verdictIfDue (h : d.Tidy w b) (g : Group) (t : BitVec 8) (cell : Option Lane) : (verdictIfDue d g t cell).Tidy w b := by
  unfold Machine.verdictIfDue
  dsimp only
  split
  · exact h
  · exact ite_ (h.runVerdict ..) (ite_ (h.runVerdict ..) h)
theorem groupDue (h : d.Tidy w b) (g : Group) : (groupDue d g).Tidy w b := h.foldl (fun _ _ h => h.verdictIfDue ..) _
theorem verdictsDue (h : d.Tidy w b) : (verdictsDue d).Tidy w b := h.foldl (fun _ _ h => h.groupDue _) _
theorem enqueue (h : d.Tidy w b) (l : Lane) (g : Group) (v : VWord) (ok : Bool) (cell : Option Lane) : (enqueue d l g v ok cell).Tidy w b := by
  unfold Machine.enqueue
  refine ite_ (h.count ..) ?_
  split
  · exact .onGroup (h.onVot _) ..
  · exact .verdictIfDue (.onGroup (ite_ h (.voterFault (h.count ..) ..)) ..) ..
theorem forceVerdict (h : d.Tidy w b) (g : Group) (t : BitVec 8) (cell : Option Lane) : (forceVerdict d g t cell).Tidy w b := by
  unfold Machine.forceVerdict
  dsimp only
  split
  · exact h
  · exact .groupDue (.runVerdict (h.toGt _) ..) _

/-! ### Recovery -/

theorem testStatus (h : d.Tidy w b) : d.testStatus.Tidy w b := .foldl (h.putWin ..) (fun _ _ h => h.putWin ..) _
theorem startBist (h : d.Tidy w b) (l : Lane) : (startBist d l).Tidy w b := .testStatus (h.onTest _)
theorem failLane (h : d.Tidy w b) (l : Lane) (m n : Nat) (u : Bool) : (failLane d l m n u).Tidy w b := .noteDegraded (.fault (.onSeq (h.onTest _) ..) ..)
theorem castBell (h : d.Tidy w b) : (castBell d).Tidy w b := by
  unfold Machine.castBell
  split
  · split
    · refine ite_ ?_ h
      extract_lets src was x y z
      have cast : x.Tidy w b := h.onLane fun _ _ => castFrom_wf ..
      clear_value x
      have told : y.Tidy w b := cast.onLanes fun _ wf => wf
      clear_value y
      exact .onVot (ite_ (told.markNotes ..) told) _
    · exact h.onVot _
  · dsimp only
    split
    · exact ite_ (h.onVot _) h
    · exact h
  · exact h
theorem probationBoundary (h : d.Tidy w b) : (probationBoundary d).Tidy w b :=
  h.foldl (fun _ l h => ite_ h (ite_ (h.onSeq ..) (.liveChanged (.onVot (.rejoin (h.onSeq ..) l) _)))) _

end Dev.Tidy

/-! ### Commands -/

theorem keeps_graceExpired (l : Lane) : Keeps (.graceExpired l) :=
  .of fun _ => ⟨_, rfl, fun _ h => by exact .ite_ ((h.toGt _).onLane fun _ wf => wf) h⟩
theorem keeps_discrep (l : Lane) : Keeps (.discrep l) :=
  .of fun _ => ⟨_, rfl, fun _ h => by exact .ite_ ((h.toGt _).onLane fun _ wf => wf) h⟩
theorem keeps_dcLinkSupervision (l : Lane) (p : Bool) (io : DclIo) : Keeps (.dcLinkSupervision l p io) := by
  refine .of fun _ => ⟨_, rfl, fun _ h => ?_⟩
  dsimp only
  split
  · exact h
  · refine .ite_ h (.ite_ (h.takeOut ..) (.noteModes (.notePre (h.onLane fun _ wf => ?_) ..) ..))
    exact LaneSt.setSig_wf _ _ _ (LaneSt.setSig_wf _ _ _ (dclBlend_wf _ _ (dclOut_wf _ _ (dclUnits_wf _ (pcRequest_wf _ _ _ (pcRequest_wf _ _ _ (dclFcus_wf _ _ _ wf)))))))
theorem keeps_chopFault (l : Lane) : Keeps (.chopFault l) :=
  .of fun _ => ⟨_, rfl, fun _ h => by exact .ite_ (.noteDegraded (h.onLane fun _ wf => unitState_wf _ _ wf)) h⟩
theorem keeps_prechargeTimeout (l : Lane) : Keeps (.prechargeTimeout l) := by
  refine .of fun _ => ⟨_, rfl, fun _ h => ?_⟩
  refine .ite_ (.notePre ((h.toGt _).onLane fun _ wf => ?_) ..) h
  exact unitState_wf _ _ (by exact wf)
theorem keeps_votedWordArrival (l : Lane) (g : Group) (ok : Bool) (cell : Option Lane) : Keeps (.votedWordArrival l g ok cell) := by
  refine .of fun _ => ⟨_, rfl, fun b h => ?_⟩
  dsimp only
  split
  · exact h
  · next v rest _ =>
    have judged : ∀ d : Dev, d.Tidy (fun _ => True) b →
        (match (d.group g).first (d.liveFor g) v.tag with
          | some q => if (d.group g).forced (d.liveFor g) v.tag q.at_ < d.gt then runVerdict d g v.tag ((d.group g).forced (d.liveFor g) v.tag q.at_) none else d
          | none => d).Tidy (fun _ => True) b := by
      intro d h
      split
      · exact .ite_ (h.runVerdict ..) h
      · exact h
    exact .ite_ (judged _ h) (.groupDue (.enqueue (.onGroup (judged _ h) ..) ..) _)
theorem keeps_alignmentWindowExpiry (g : Group) (t : Nat) (cell : Option Lane) : Keeps (.alignmentWindowExpiry g t cell) :=
  .of fun _ => ⟨_, rfl, fun _ h => by exact h.forceVerdict ..⟩
theorem keeps_releaseDeadlineExpiry (g : Group) (t : Nat) (cell : Option Lane) : Keeps (.releaseDeadlineExpiry g t cell) :=
  .of fun _ => ⟨_, rfl, fun _ h => by exact .ite_ h (h.forceVerdict ..)⟩
theorem keeps_outIndicationArrival (l : Lane) (v : VoterPlace) : Keeps (.outIndicationArrival l v) :=
  .of fun _ => ⟨_, rfl, fun _ h => by exact .ite_ (.foldl (h.markOut ..) (fun _ _ h => h.groupDue _) _) h⟩
theorem keeps_laneBistDone (l : Lane) (r : BistResult) : Keeps (.laneBistDone l r) := by
  refine .of fun _ => ⟨_, rfl, fun _ h => ?_⟩
  dsimp only
  split
  · exact h
  · refine .testStatus (.onVot (.ite_ (.putTest (.putTest (.onTest (h.toClk _) _) ..) ..) ?_) _)
    split
    · exact .failLane (.putTest (.putTest (.onTest (h.toClk _) _) ..) ..) ..
    · exact .ite_ (.failLane (.putTest (.putTest (.onTest (h.toClk _) _) ..) ..) ..) (.failLane (.putTest (.putTest (.onTest (h.toClk _) _) ..) ..) ..)
theorem keeps_castSweepEnd (l : Lane) (p cal : Bool) : Keeps (.castSweepEnd l p cal) := by
  refine .of fun _ => ⟨_, rfl, fun _ h => ?_⟩
  dsimp only
  split
  · exact .ite_ h (.ite_ (h.takeOut ..) (.onVot (h.onLane fun _ wf => wf) _))
  · exact h
theorem keeps_rotationStart : Keeps .rotationStart :=
  .of fun _ => ⟨_, rfl, fun _ h => by exact .ite_ (.startBist (.onVot (.takeOut (h.toGt _) ..) _) _) h⟩

end Sys2Proof.Machine
end

section
/-! SUPPORT. The byte memories and the beat through CAN and the drive dies, neither of which has a part in them. -/

namespace Sys2Proof.Machine
open Sys2Proof

namespace Dev.Tidy
variable {w : Option Lane → Prop} {b : Beat} {d : Dev}

/-! ### CAN -/

theorem canBell (h : d.Tidy w b) (ch n : Nat) : (canBell d ch n).Tidy w b := ite_ (h.ring _) h
theorem canIgnored (h : d.Tidy w b) (ch : Nat) : (canIgnored d ch).Tidy w b := .count (h.count ..) ..
theorem endAll (h : d.Tidy w b) (ch r : Nat) : (endAll d ch r).Tidy w b := h.foldl (fun _ _ h => ite_ (.canBell (h.onCan ..) ..) h) _
theorem canErrors (h : d.Tidy w b) (ch t r : Nat) : (canErrors d ch t r).Tidy w b := by
  unfold Machine.canErrors
  extract_lets +onlyGivenNames old new x
  have errs : x.Tidy w b := h.onCan ..
  clear_value x
  refine ite_ errs ?_
  extract_lets +onlyGivenNames y
  have rung : y.Tidy w b := errs.canBell ..
  clear_value y
  exact ite_ (.noteDegraded (.note (.count (.count (.endAll (rung.onCan ..) ..) ..) ..) ..)) rung
theorem canOffBus (h : d.Tidy w b) (ch : Nat) : (canOffBus d ch).Tidy w b := .endAll (h.onCan ..) ..
theorem canRecoverStart (h : d.Tidy w b) (ch : Nat) : (canRecoverStart d ch).Tidy w b := h.onCan ..
theorem ctrlWrite (h : d.Tidy w b) (ch : Nat) (v : Word) : (ctrlWrite d ch v).Tidy w b := by
  unfold Machine.ctrlWrite
  extract_lets +onlyGivenNames c
  refine ite_ (h.canIgnored _) ?_
  extract_lets +onlyGivenNames lim cfgNew x y z y'
  have enabled : x.Tidy w b := h.onCan ..
  clear_value x
  have set : y.Tidy w b := enabled.onCan ..
  clear_value y
  have written : z.Tidy w b := ite_ (ite_ (set.canIgnored _) set) (ite_ (enabled.canIgnored _) enabled)
  clear_value z
  have started : y'.Tidy w b := ite_ (written.canRecoverStart _) written
  clear_value y'
  exact ite_ (ite_ started (ite_ (.onCan (started.onCan ..) ..) (.canOffBus (started.onCan ..) _))) (ite_ (started.onCan ..) started)
theorem txReq (h : d.Tidy w b) (ch n : Nat) : (txReq d ch n).Tidy w b := h.onCan ..
theorem txAbort (h : d.Tidy w b) (ch n : Nat) : (txAbort d ch n).Tidy w b := ite_ h (ite_ (h.onCan ..) (.canBell (h.onCan ..) ..))
theorem bufWrite (h : d.Tidy w b) (ch n off : Nat) (v : Word) : (bufWrite d ch n off v).Tidy w b :=
  ite_ (ite_ h (ite_ (h.txReq ..) (ite_ (h.txAbort ..) h))) (ite_ h (ite_ (h.canIgnored _) (ite_ (ite_ (h.onCan ..) (h.canIgnored _)) (ite_ (h.onCan ..) (h.onCan ..)))))
theorem filtWrite (h : d.Tidy w b) (ch i n : Nat) (v : Word) : (filtWrite d ch i n v).Tidy w b := ite_ (h.canIgnored _) (h.onCan ..)
theorem canWrite (h : d.Tidy w b) (ch off : Nat) (v : Word) : (canWrite d ch off v).Tidy w b :=
  ite_ (h.canIgnored _) (ite_ (h.ctrlWrite ..) (ite_ (h.onCan ..) (ite_ (ite_ (h.onCan ..) (h.canIgnored _)) (ite_ (ite_ (h.onCan ..) (h.canIgnored _))
    (ite_ (h.bufWrite ..) (ite_ (h.filtWrite ..) (ite_ (h.filtWrite ..) h)))))))
theorem onChan (h : d.Tidy w b) {ch : Nat} {f : Dev → Dev} (keeps : (f d).Tidy w b) : (onChan d ch f).Tidy w b := ite_ keeps h
theorem takeRepl (h : d.Tidy w b) (ch n : Nat) : (takeRepl d ch n).Tidy w b := h.onCan ..
theorem attemptEnd (h : d.Tidy w b) (ch n : Nat) (ts : Word) (how : CanEnd) : (attemptEnd d ch n ts how).Tidy w b := by
  unfold Machine.attemptEnd
  extract_lets +onlyGivenNames x k y
  have ended : y.Tidy w b := h.onCan ..
  clear_value y
  exact ite_ (.canBell (ended.onCan ..) ..) (ite_ (.canBell (ended.onCan ..) ..) (ite_ (.canBell (.canBell (.count (ended.onCan ..) ..) ..) ..) ended))
theorem laneRx (h : d.Tidy w b) (ch i : Nat) (f : CanFrame) : (laneRx d ch i f).Tidy w b := ite_ (.onCan (h.countIf ..) ..) (h.onCan ..)
theorem canBoundary (h : d.Tidy w b) (n : Nat) : (canBoundary d n).Tidy w b := h

/-! ### Drive dies -/

theorem hbOff (h : d.Tidy w b) (n : Nat) : (d.hbOff n).Tidy w b := h
theorem keepDead (h : d.Tidy w b) (was : Dev) (n : Nat) : (keepDead was d n).Tidy w b := h.foldl (fun _ _ h => ite_ h (h.onHb ..)) _
theorem diagReport (h : d.Tidy w b) (r : DiagRun) (x n t : Nat) : (diagReport d r x n t).Tidy w b := by
  have told : ∀ j (res : List Word), ((d.putTest 1 r.unit (x + 16 * n) 1000 t).onMgmt (fun m =>
      { m with jobs := m.jobs.map (fun x => if x.num == j then { x with res := res } else x) })).Tidy w b := fun _ _ => onMgmt (h.putTest ..) fun wf => wf
  unfold Machine.diagReport
  dsimp only
  split
  · exact h.putTest ..
  · exact ite_ ((told _ _).endJob ..) (ite_ ((told _ _).endJob ..) (ite_ (told _ _) ((told _ _).endJob ..)))
theorem diagAbort (h : d.Tidy w b) (u : Nat) : (diagAbort d u).Tidy w b := by
  unfold Machine.diagAbort
  split
  · exact h
  · exact .diagReport (.foldl (h.onGd _) (fun _ _ h => h.onHb ..) _) ..
theorem gateStuck (h : d.Tidy w b) (n : Nat) (sd : Side) (t : Nat) : (gateStuck d n sd t).Tidy w b := .onHb (.count (h.count ..) ..) ..
theorem shortTrip (h : d.Tidy w b) (n : Nat) (sd : Side) (c : LatchCause) : (shortTrip d n sd c).Tidy w b := .onHb (h.count ..) ..
theorem bankLatch (h : d.Tidy w b) (n : Nat) : (bankLatch d n).Tidy w b := .onGd (h.foldl (fun _ _ h => h.onHb ..) _) _
theorem bankUnlatch (h : d.Tidy w b) (n : Nat) : (bankUnlatch d n).Tidy w b := .onGd (h.foldl (fun _ _ h => h.onHb ..) _) _
theorem diagPump (h : d.Tidy w b) : (diagPump d).Tidy w b := h.foldl (fun _ _ h => ite_ h (h.onGd _)) _
theorem diagFinish (h : d.Tidy w b) (r : DiagRun) (x n : Nat) : (diagFinish d r x n).Tidy w b := by
  unfold Machine.diagFinish
  extract_lets +onlyGivenNames t bad d1 d2 d3 d4 d5
  have shut : d2.Tidy w b := .foldl (h.onGd _) (fun _ _ h => h.onHb ..) _
  clear_value d2
  have told : d3.Tidy w b := ite_ (.noteDegraded (shut.fault ..)) shut
  clear_value d3
  have reported : d4.Tidy w b := told.diagReport ..
  clear_value d4
  exact .diagPump (ite_ (reported.onGd _) reported)
theorem clearLatches (h : d.Tidy w b) (u : Nat) : (clearLatches d u).Tidy w b := h.foldl (fun _ _ h => h.onHb ..) _

end Dev.Tidy

/-! ### Commands -/

theorem keeps_ctrlInitWrite (ch : Nat) (v : Word) : Keeps (.ctrlInitWrite ch v) :=
  .of fun _ => ⟨_, rfl, fun _ h => by exact h.onChan (h.ctrlWrite ..)⟩
theorem keeps_boRecover (ch : Nat) : Keeps (.boRecover ch) :=
  .of fun _ => ⟨_, rfl, fun _ h => by exact h.onChan (.ite_ (h.canIgnored _) (h.canRecoverStart _))⟩
theorem keeps_txcReq (ch n : Nat) : Keeps (.txcReq ch n) :=
  .of fun _ => ⟨_, rfl, fun _ h => by exact h.onChan (.ite_ (h.canIgnored _) (h.txReq ..))⟩
theorem keeps_txcAbort (ch n : Nat) : Keeps (.txcAbort ch n) :=
  .of fun _ => ⟨_, rfl, fun _ h => by exact h.onChan (.ite_ (h.canIgnored _) (h.txAbort ..))⟩
theorem keeps_canStartOfFrame (ch : Nat) : Keeps (.canStartOfFrame ch) := by
  refine .of fun _ => ⟨_, rfl, fun _ h => ?_⟩
  refine h.onChan ?_
  split
  · exact .ite_ (h.onCan ..) h
  · exact h
theorem keeps_canAttemptEnd (ch : Nat) (how : CanEnd) (t r : Nat) : Keeps (.canAttemptEnd ch how t r) := by
  refine .of fun _ => ⟨_, rfl, fun b h => ?_⟩
  have off : ∀ d : Dev, d.Tidy (fun _ => True) b → (if (d.chan ch).initReq then canOffBus d ch else d).Tidy (fun _ => True) b := fun _ h => .ite_ (h.canOffBus _) h
  refine h.onChan ?_
  dsimp only
  split
  · exact h
  · exact .ite_ (off _ (.canErrors (.onCan (h.countIf ..) ..) ..)) (off _ (.takeRepl (.canErrors (h.attemptEnd ..) ..) ..))
theorem keeps_canRecoveryComplete (ch : Nat) (again : Bool) : Keeps (.canRecoveryComplete ch again) :=
  .of fun _ => ⟨_, rfl, fun _ h => by exact h.onChan (.ite_ (.noteDegraded (.canBell (.endJob? (h.onCan ..) ..) ..)) h)⟩
theorem keeps_canBusIntegrated (ch : Nat) : Keeps (.canBusIntegrated ch) :=
  .of fun _ => ⟨_, rfl, fun _ h => by exact h.onChan (.ite_ (.canBell (h.onCan ..) ..) h)⟩
theorem keeps_canBusError (ch r : Nat) : Keeps (.canBusError ch r) :=
  .of fun _ => ⟨_, rfl, fun _ h => by exact h.onChan (.ite_ (h.canErrors ..) h)⟩
theorem keeps_canFrameReceived (ch : Nat) (f : CanFrame) (r : Nat) : Keeps (.canFrameReceived ch f r) := by
  refine .of fun _ => ⟨_, rfl, fun _ h => ?_⟩
  refine h.onChan (.ite_ h (.ite_ (.canBell (.onCan (h.count ..) ..) ..) ?_))
  extract_lets +onlyGivenNames d c
  have errs : d.Tidy _ _ := h.canErrors ..
  clear_value d
  refine .ite_ (.ite_ (.onCan (errs.count ..) ..) (.canBell (errs.onCan ..) ..)) ?_
  split
  · exact errs.count ..
  · exact .ite_ errs (.ite_ (errs.laneRx ..) (.ite_ (.onCan (errs.count ..) ..) (.canBell (errs.onCan ..) ..)))
theorem keeps_headObjectH0Read (ch : Nat) (hp : Bool) : Keeps (.headObjectH0Read ch hp) :=
  .of fun _ => ⟨_, rfl, fun _ h => by exact h.onChan (h.onCan ..)⟩
theorem keeps_headObjectReleaseRead (ch : Nat) (hp : Bool) : Keeps (.headObjectReleaseRead ch hp) :=
  .of fun _ => ⟨_, rfl, fun _ h => by exact h.onChan (h.onCan ..)⟩
theorem keeps_canBufferEntry (n : Nat) : Keeps (.canBufferEntry n) := by
  refine .of fun _ => ⟨_, rfl, fun _ h => ?_⟩
  dsimp only
  split
  · refine .ite_ h ?_
    exact .ite_ (.onNet (h.toGt _) _) (.ite_ (.count (.onNet (h.toGt _) _) ..) (.ite_ (.onCan (.onNet (h.toGt _) _) ..) (.onCan (.onNet (h.toGt _) _) ..)))
  · exact h

theorem keeps_gateEventExecution (n : Nat) : Keeps (.gateEventExecution n) := by
  refine .of fun _ => ⟨_, rfl, fun _ h => ?_⟩
  dsimp only
  split
  · exact h
  · split
    · exact h.onHb ..
    · exact .onHb (.ite_ (.diagAbort (h.toRaw _) _) (h.toRaw _)) ..
theorem keeps_switchTurnOn (n v : Nat) : Keeps (.switchTurnOn n v) := by
  refine .of fun _ => ⟨_, rfl, fun _ h => ?_⟩
  dsimp only
  split
  · exact h
  · next sd t _ =>
    have there := h.toGt (ceilDiv t 8)
    generalize Dev.toGt _ (ceilDiv t 8) = d at there
    exact .ite_ (there.onHb ..) (.ite_ (there.gateStuck ..) (.ite_ (there.onHb ..) (.ite_ (.onHb (.ite_ there (there.count ..)) ..) (there.onHb ..))))
theorem keeps_gateStuck (n : Nat) : Keeps (.gateStuck n) := by
  refine .of fun _ => ⟨_, rfl, fun _ h => ?_⟩
  dsimp only
  split
  · exact h
  · exact .gateStuck (h.toGt _) ..
theorem keeps_hardShortArmed (n : Nat) (sd : Side) : Keeps (.hardShortArmed n sd) :=
  .of fun _ => ⟨_, rfl, fun _ h => by exact .ite_ (.onHb (h.toGt _) ..) h⟩
theorem keeps_blankingEnd (n : Nat) (sd : Side) : Keeps (.blankingEnd n sd) :=
  .of fun _ => ⟨_, rfl, fun _ h => by exact .ite_ (.onHb (h.toGt _) ..) h⟩
theorem keeps_hardShortTrip (n : Nat) (sd : Side) : Keeps (.hardShortTrip n sd) :=
  .of fun _ => ⟨_, rfl, fun _ h => by exact .ite_ (h.shortTrip ..) h⟩
theorem keeps_vdsTrip (n : Nat) (sd : Side) : Keeps (.vdsTrip n sd) :=
  .of fun _ => ⟨_, rfl, fun _ h => by exact .ite_ (h.shortTrip ..) h⟩
theorem keeps_bsUv (n : Nat) : Keeps (.bsUv n) :=
  .of fun _ => ⟨_, rfl, fun _ h => by exact .ite_ (.onHb (h.count ..) ..) (h.onHb ..)⟩
theorem keeps_bsRecovered (n : Nat) : Keeps (.bsRecovered n) :=
  .of fun _ => ⟨_, rfl, fun _ h => by exact h.onHb ..⟩
theorem keeps_bsFault (n : Nat) : Keeps (.bsFault n) := by
  refine .of fun _ => ⟨_, rfl, fun _ h => ?_⟩
  dsimp only
  split
  · exact .ite_ (.onHb (h.toClk _) ..) h
  · exact h
theorem keeps_vgdUv (n v : Nat) : Keeps (.vgdUv n v) :=
  .of fun _ => ⟨_, rfl, fun _ h => by exact .ite_ (.bankLatch (h.onGd _) _) (h.onGd _)⟩
theorem keeps_vgdRecovered (n v : Nat) : Keeps (.vgdRecovered n v) :=
  .of fun _ => ⟨_, rfl, fun _ h => by exact .ite_ (.bankUnlatch (h.onGd _) _) (h.onGd _)⟩
theorem keeps_diagStepEnd (u : Nat) (nodes vdh : List Nat) : Keeps (.diagStepEnd u nodes vdh) := by
  refine .of fun _ => ⟨_, rfl, fun _ h => ?_⟩
  dsimp only
  split
  · exact h
  · exact .ite_ (h.diagFinish ..) (.ite_ (.diagFinish (h.toClk _) ..) (.onGd (h.toClk _) _))

end Sys2Proof.Machine
end

section
/-! SUPPORT. The byte memories and the beat through the pair and the clocks. -/

namespace Sys2Proof.Machine
open Sys2Proof

/-! ### What a cast writes -/

theorem takeItem_wf {q : LaneSt} (i : CastItem) (wf : memWf q.mem = true) : memWf (q.takeItem i).mem = true := by
  cases i with
  | field p live staged due =>
    unfold LaneSt.takeItem
    refine LaneSt.ite_wf wf ?_
    have kept : ∀ host (f : CfgField → CfgField), memWf (q.onField p host f).mem = true := fun _ _ => (congrArg memWf (q.onField_mem ..)).trans wf
    exact LaneSt.ite_wf (LaneSt.setSig_wf _ _ _ (kept _ _)) (kept _ _)
  | coefs l => exact LaneSt.ite_wf wf wf
  | block n l => exact LaneSt.ite_wf wf wf
  | coefSet => exact wf
  | mode => exact wf
  | latch => exact wf
  | signal => exact wf
  | laneMark => exact wf
  | unit => exact wf
  | bank => exact wf
  | rxSeq => exact wf
  | delays => exact wf
  | request => exact wf
theorem takeItems_wf {q : LaneSt} (l : List CastItem) (wf : memWf q.mem = true) : memWf (l.foldl LaneSt.takeItem q).mem = true := by
  induction l generalizing q with
  | nil => exact wf
  | cons i r ih => exact ih (takeItem_wf i wf)
theorem castTake_wf (g : Img) (f : CastFrame) {q : LaneSt} (wf : memWf q.mem = true) : memWf (castTake g f q).mem = true :=
  LaneSt.ite_wf (LaneSt.ite_wf (takeItems_wf _ wf) wf) (castWrite_wf _ _ _ _ (takeItems_wf _ wf))
theorem castRecord_wf (f : CastFrame) {q : LaneSt} (wf : memWf q.mem = true) : memWf (castRecord f q).mem = true := by
  have staged : ∀ host, memWf (q.stage f.pid host f.value).mem = true := fun _ => (congrArg memWf (q.stage_mem ..)).trans wf
  unfold castRecord
  dsimp only
  split
  · exact (congrArg memWf (LaneSt.onField_mem ..)).trans (staged _)
  · exact staged _

namespace Dev.Tidy
variable {w : Option Lane → Prop} {b : Beat} {d : Dev}

/-! ### Service frames -/

theorem sendSvc (h : d.Tidy w b) (t : Nat) (x : SvcBody) : (d.sendSvc t x).Tidy w b := h
theorem svcGo (h : d.Tidy w b) (n : Nat) : (d.svcGo n).Tidy w b := by
  obtain ⟨p, is⟩ := d.svcGo_pair n
  exact is ▸ h.onPair (fun _ => p)
theorem handSvc (h : d.Tidy w b) (x : SvcBody) : (d.handSvc x).Tidy w b := svcGo (h.onPair _) _
theorem castMirrors (h : d.Tidy w b) : (castMirrors d).Tidy w b := by
  unfold Machine.castMirrors
  split
  · exact ite_ (h.onPair _) (h.onPair _)
  · exact h
theorem hubIncrement (h : d.Tidy w b) : (hubIncrement d).Tidy w b := by
  unfold Machine.hubIncrement
  split
  · exact ite_ (ite_ (h.onPair _) (.handSvc (h.onPair _) _)) h
  · exact h
theorem castStart (h : d.Tidy w b) : (castStart d).Tidy w b := by
  unfold Machine.castStart
  split
  · exact ite_ (.foldl (h.onPair _) (fun _ _ h => h.handSvc _) _) (h.onPair _)
  · exact h
theorem svcIn (h : d.Tidy w b) (t : Nat) (n : SvcIn) {f : Dev → Dev} (keeps : ∀ d, Dev.Tidy w b d → (f d).Tidy w b) : (d.svcIn t n f).Tidy w b :=
  ite_ h (keeps _ (h.onPair _))

/-! ### Roles -/

theorem roleAt (h : d.Tidy w b) (r : Role) (n : Nat) : (d.roleAt r n).Tidy w b := h
theorem roleNext (h : d.Tidy w b) (r : Role) : (d.roleNext r).Tidy w b := h
theorem sendRole (h : d.Tidy w b) (op k : Nat) (c : BitVec 32) : (d.sendRole op k c).Tidy w b := .handSvc (h.onPair _) _
theorem dropSwap (h : d.Tidy w b) : d.dropSwap.Tidy w b := by
  unfold Dev.dropSwap
  split
  · exact h
  · exact .endJob? (.countIf (h.onPair _) ..) ..
/-- A standby that begins to take a cast empties its memories. -/
theorem takeRole (h : d.Tidy w b) (r : Role) : (d.takeRole r).Tidy w b := by
  unfold Dev.takeRole
  extract_lets +onlyGivenNames old
  refine ite_ (h.onPair _) ?_
  extract_lets +onlyGivenNames tc x y z
  have changed : x.Tidy w b := h.onPair _
  clear_value x
  have off : y.Tidy w b := ite_ (changed.foldl (fun _ _ h => h.hbOff _) _) changed
  clear_value y
  exact .event (.note (ite_ (.onPair (off.onLanes fun q wf => LaneSt.ite_wf rfl wf) _) off) ..) ..
theorem stepUp (h : d.Tidy w b) : d.stepUp.Tidy w b := h
theorem askCast (h : d.Tidy w b) : d.askCast.Tidy w b := .sendRole (h.roleNext _) ..
theorem heartbeatRole (h : d.Tidy w b) (hb : Heartbeat) (i : ImgMatch) : (heartbeatRole d hb i).Tidy w b := by
  unfold Machine.heartbeatRole
  split
  · exact ite_ (ite_ (.sendRole (h.count ..) ..) h.askCast) (ite_ (h.roleNext _) h)
  · exact ite_ (ite_ (.askCast (.dropSwap (.onPair (h.count ..) _))) (.onPair (h.count ..) _)) h
  · exact ite_ (.roleAt h.dropSwap ..) h
  · exact ite_ (.roleAt h.dropSwap ..) h
  · exact h
theorem disagree (h : d.Tidy w b) (x : BitVec 64) : (disagree d x).Tidy w b := by
  unfold Machine.disagree
  extract_lets +onlyGivenNames r y
  have told : y.Tidy w b := .onPair (.fault (h.count ..) ..) _
  clear_value y
  exact ite_ told (ite_ (.roleNext (told.onPair _) _) (.askCast (told.onPair _)))
theorem compareDigests (h : d.Tidy w b) (n : Nat) : (compareDigests d n).Tidy w b := by
  unfold Machine.compareDigests
  refine ite_ h ?_
  split
  · exact ite_ (ite_ (.roleNext (h.onPair _) _) (h.onPair _)) (h.disagree _)
  · exact .onPair (h.count ..) _
theorem takeOver (h : d.Tidy w b) : (takeOver d).Tidy w b := .note (.onPair (.count (.roleNext (.stepUp h.dropSwap) _) ..) _) ..
theorem proposeSwap (h : d.Tidy w b) (k : Nat) (j : Option Nat) : (proposeSwap d k j).Tidy w b := .onPair (h.sendRole ..) _
theorem swapBell (h : d.Tidy w b) : (swapBell d).Tidy w b := by
  unfold Machine.swapBell
  split
  · exact h
  · exact ite_ h (ite_ (ite_ (.endJob? (.count (.takeRole (h.onPair _) _) ..) ..) h.dropSwap) (ite_ (.count (.takeRole (.stepUp (h.onPair _)) _) ..) h.dropSwap))
theorem pairBell (h : d.Tidy w b) : (pairBell d).Tidy w b := by
  unfold Machine.pairBell
  refine ite_ h ?_
  extract_lets +onlyGivenNames x y z done wake
  have swapped : x.Tidy w b := h.swapBell
  clear_value x
  have cast : y.Tidy w b := ite_ swapped.castStart (swapped.onPair _)
  clear_value y
  have sent : z.Tidy w b := cast.hubIncrement.svcGo _
  clear_value z done
  have woken : ∀ d : Dev, d.Tidy w b → (d.onLanes wake).Tidy w b := fun _ h => h.onLanes fun q wf => LaneSt.ite_wf wf wf
  exact ite_ (.onPair (.takeRole (woken _ (sent.onVot _)) _) _) (ite_ (woken _ sent) sent)
theorem pairBoundary (h : d.Tidy w b) (n : Nat) : (pairBoundary d n).Tidy w b := by
  unfold Machine.pairBoundary
  refine ite_ h ?_
  extract_lets +onlyGivenNames -underBinder x y z
  have turned : x.Tidy w b := by
    unfold x
    split
    · exact ite_ (.onPair (h.takeRole _) _) h
    · exact h
  clear_value x
  have counted : y.Tidy w b := ite_ (turned.onPair _) (turned.onPair _)
  clear_value y
  exact .onPair (.svcGo (.castMirrors (ite_ (counted.takeRole _) counted)) _) _

/-! ### Clocks -/

theorem clockOut (h : d.Tidy w b) (l : Lane) (n : Nat) : (clockOut d l n).Tidy w b := .takeOut (.onSeq (h.fault ..) ..) ..
theorem loseHub (h : d.Tidy w b) : (loseHub d).Tidy w b := ite_ h h
theorem strobeLoss (h : d.Tidy w b) (n : Nat) : (strobeLoss d n).Tidy w b := by
  have free : (d.onLanes (fun q => if 2 ≤ q.seq.noStrobe then { q with seq := { q.seq with freeRun := true } } else q)).Tidy w b :=
    h.onLanes fun q wf => LaneSt.ite_wf wf wf
  exact ite_ (free.roleAt ..) free

end Dev.Tidy

/-! ### Commands -/

theorem keeps_pairHeartbeatSend : Keeps .pairHeartbeatSend := by
  refine .of fun s => ⟨_, rfl, fun _ h => ?_⟩
  beta_reduce
  extract_lets +onlyGivenNames -underBinder n r dig
  clear_value n r dig
  split
  · exact h
  · refine .ite_ h ?_
    extract_lets +onlyGivenNames x ho hb y
    have there : x.Tidy _ _ := .svcGo (h.toGt _) _
    clear_value x
    have sent : y.Tidy _ _ := .onPair (there.sendSvc ..) _
    clear_value y
    exact .ite_ (.onPair (.roleAt sent.dropSwap ..) _) sent
theorem keeps_pairHeartbeatReceived (n : SvcIn) (hb : Heartbeat) (i : ImgMatch) : Keeps (.pairHeartbeatReceived n hb i) :=
  .of fun _ => ⟨_, rfl, fun _ h => by exact h.svcIn _ _ fun _ h => .heartbeatRole (h.onPair _) ..⟩
theorem keeps_heartbeatDeadline : Keeps .heartbeatDeadline := by
  refine .of fun s => ⟨_, rfl, fun _ h => .ite_ h ?_⟩
  extract_lets +onlyGivenNames b x got r
  have there : x.Tidy _ _ := .compareDigests (h.toGt _) _
  clear_value x
  refine .ite_ there ?_
  extract_lets +onlyGivenNames y z ring
  have counted : y.Tidy _ _ := there.onPair _
  clear_value y
  have gone : z.Tidy _ _ := .ite_ (counted.roleNext _) counted
  clear_value z
  exact .ite_ gone.takeOver gone
theorem keeps_initPartnerTimeout : Keeps .initPartnerTimeout := .of fun _ => ⟨_, rfl, fun _ h => by exact .ite_ (.roleNext (h.toClk _) _) h⟩
theorem keeps_castingTimeout : Keeps .castingTimeout := .of fun _ => ⟨_, rfl, fun _ h => by exact .ite_ (.onPair (.roleNext (h.toClk _) _) _) h⟩
theorem keeps_detach : Keeps .detach := .of fun _ => ⟨_, rfl, fun _ h => by exact .ite_ (.onPair (h.roleNext _) _) h⟩
theorem keeps_pairLinkUp (x : Bool) : Keeps (.pairLinkUp x) :=
  .of fun _ => ⟨_, rfl, fun _ h => by exact .ite_ h (.ite_ (.askCast (.onPair (h.onTime rfl) _)) (.onPair (h.onTime rfl) _))⟩
theorem keeps_castRequest (n : SvcIn) (a : CastAsk) : Keeps (.castRequest n a) := by
  refine .of fun _ => ⟨_, rfl, fun _ h => ?_⟩
  refine h.svcIn _ _ fun _ h => ?_
  split
  · exact h
  · exact .ite_ h (.ite_ (h.onPair _) (.ite_ (h.onPair _) (h.count ..)))
theorem keeps_castFrameReceived (n : SvcIn) (f : CastFrame) : Keeps (.castFrameReceived n f) := by
  refine .of fun _ => ⟨_, rfl, fun _ h => ?_⟩
  refine h.svcIn _ _ fun _ h => ?_
  split
  · exact h
  · exact .ite_ (.ite_ (h.onPair _) (.ite_ (.onNet (h.onLanes fun _ wf => castTake_wf _ _ wf) _) h))
      (.ite_ (.ite_ (h.onLanes fun _ wf => castRecord_wf _ wf) (.ite_ (h.onNet _) h)) h)
theorem keeps_swapPropose (n : SvcIn) (k : Nat) (c : BitVec 32) : Keeps (.swapPropose n k c) := by
  refine .of fun _ => ⟨_, rfl, fun _ h => ?_⟩
  refine h.svcIn _ _ fun _ h => ?_
  refine .ite_ h ?_
  split <;> [exact .ite_ (.onPair (h.sendRole ..) _) (h.sendRole ..); exact .ite_ (.onPair (h.sendRole ..) _) (h.sendRole ..)]
theorem keeps_swapAccept (n : SvcIn) : Keeps (.swapAccept n) := by
  refine .of fun _ => ⟨_, rfl, fun _ h => ?_⟩
  refine h.svcIn _ _ fun _ h => ?_
  split
  · exact .ite_ (h.onPair _) h
  · exact h
theorem keeps_swapRefuse (n : SvcIn) : Keeps (.swapRefuse n) := .of fun _ => ⟨_, rfl, fun _ h => by exact h.svcIn _ _ fun _ h => .ite_ h.dropSwap h⟩
theorem keeps_autoSwapExpiry : Keeps .autoSwapExpiry := .of fun _ => ⟨_, rfl, fun _ h => by exact .ite_ (.proposeSwap (h.toGt _) ..) h⟩

theorem keeps_strobeCapture (l : Lane) (c : Int) : Keeps (.strobeCapture l c) :=
  .of fun _ => ⟨_, rfl, fun _ h => by exact .ite_ h (.ite_ (h.clockOut ..) (.drawn (h.onSeq ..) _))⟩
theorem keeps_laneClockFault (l : Lane) (x : Bool) : Keeps (.laneClockFault l x) := .of fun _ => ⟨_, rfl, fun _ h => by exact .ite_ h (h.clockOut ..)⟩
theorem keeps_hubFault (c : HubCause) : Keeps (.hubFault c) := .of fun s => ⟨loseHub s.dev, by cases c <;> rfl, fun _ h => h.loseHub⟩
theorem keeps_hubClockFault : Keeps .hubClockFault := .of fun _ => ⟨_, rfl, fun _ h => by exact .loseHub (h.fault ..)⟩
theorem keeps_noHubStrobe : Keeps .noHubStrobe := .of fun _ => ⟨_, rfl, fun _ h => by exact .strobeLoss (h.onLanes fun _ wf => by exact wf) _⟩
theorem keeps_serdesUnlock : Keeps .serdesUnlock := by
  refine .of fun _ => ⟨_, rfl, fun _ h => .ite_ h ?_⟩
  extract_lets +onlyGivenNames dn x y
  have bad : x.Tidy _ _ := .fault (h.onTime rfl) ..
  clear_value x
  have down : y.Tidy _ _ := .onPair (bad.onNet _) _
  clear_value y
  exact .ite_ down (.wrapPort (down.wrapPort _) _)
theorem keeps_aclkFault : Keeps .aclkFault := .of fun _ => ⟨_, rfl, fun _ h => by exact .ite_ (.fault (h.onTime rfl) ..) h⟩
theorem keeps_temperatureRead (t : List Int) : Keeps (.temperatureRead t) := by
  refine .of fun _ => ⟨_, rfl, fun _ h => .ite_ h (.noteDegraded (.foldl (h.onMgmt fun wf => wf) (fun _ _ h => ?_) _))⟩
  exact .ite_ (h.onMgmt fun wf => wf) (.ite_ (.fault (h.onMgmt fun wf => wf) ..) h)
theorem keeps_excitationFault (a : Nat) (on : Bool) : Keeps (.excitationFault a on) := .of fun _ => ⟨_, rfl, fun _ h => by exact .ite_ (h.onGd _) h⟩

end Sys2Proof.Machine
end

section
/-! SUPPORT. The byte memories and the beat through the edge links, the host window, the mailboxes and the parameters. -/

namespace Sys2Proof.Machine
open Sys2Proof

namespace Dev.Tidy
variable {w : Option Lane → Prop} {b : Beat} {d : Dev} {r : Request}

theorem latchWords (h : d.Tidy w b) : (latchWords d).Tidy w b := by
  have put : ∀ (d : Dev) (e : Nat × Nat), d.Tidy w b → (d.putWin e.1 e.2).Tidy w b := fun _ _ h => h.putWin ..
  unfold Machine.latchWords
  extract_lets +onlyGivenNames q p d1 d2 d3 d4 d5 d6 d7 d8
  have h1 : d1.Tidy w b := h.foldl (fun _ _ h => put _ _ (put _ _ (put _ _ h))) _
  clear_value d1
  have h2 : d2.Tidy w b := put _ _ (put _ _ (put _ _ h1))
  clear_value d2
  have h3 : d3.Tidy w b := h2.foldl (fun _ _ h => put _ _ (put _ _ h)) _
  clear_value d3
  have h4 : d4.Tidy w b := put _ _ (put _ _ (put _ _ h3))
  clear_value d4
  have h5 : d5.Tidy w b := h4.foldl (fun _ _ h => put _ _ h) _
  clear_value d5
  have h6 : d6.Tidy w b := put _ _ (put _ _ h5)
  clear_value d6
  have h7 : d7.Tidy w b := h6.foldl (fun _ _ h => put _ _ (put _ _ h)) _
  clear_value d7
  have h8 : d8.Tidy w b := put _ _ (put _ _ h7)
  clear_value d8
  exact put _ _ (put _ _ h8)

/-! ### The host window -/

theorem onIn (h : d.Tidy w b) (m : Nat) (f : InBox → InBox) : (d.onIn m f).Tidy w b := h
theorem onOut (h : d.Tidy w b) (m : Nat) (f : OutBox → OutBox) : (d.onOut m f).Tidy w b := h
theorem putInWord (h : d.Tidy w b) (m i s : Nat) (v : Word) : (putInWord d m i s v).Tidy w b := h
theorem goInbox (h : d.Tidy w b) (m s n : Nat) : (goInbox d m s n).Tidy w b := h
theorem putInCtrl (h : d.Tidy w b) (m s : Nat) (v : Word) : (putInCtrl d m s v).Tidy w b := ite_ h (.onIn (h.countIf ..) ..)
theorem ackOut (h : d.Tidy w b) (m : Nat) : (ackOut d m).Tidy w b := by
  unfold Machine.ackOut
  refine ite_ h ?_
  extract_lets +onlyGivenNames x
  have acked : x.Tidy w b := h.onOut ..
  clear_value x
  refine ite_ ?_ ?_
  · split
    · exact .fillOut (acked.onHost _) ..
    · exact acked
  · split
    · exact .fillOut (acked.onHost _) ..
    · exact acked
theorem applyWord (h : d.Tidy w b) (s : Nat) (x : HostWord) : (applyWord s d x).Tidy w b :=
  ite_ (h.putInWord ..) (ite_ (h.putInCtrl ..) (ite_ (ite_ (h.ackOut _) h) (ite_ (h.onHost _) (ite_ (h.onHost _) (ite_ (h.canWrite ..) h)))))
theorem applyWords (h : d.Tidy w b) (s : Nat) (l : List HostWord) : (l.foldl (Machine.applyWord s) d).Tidy w b := h.foldl (fun _ _ h => h.applyWord ..) l
theorem countCode (h : d.Tidy w b) (c : Nat) : (countCode d c).Tidy w b := h.countIf ..
theorem hostWrite (h : d.Tidy w b) (s : Nat) (l : List HostWord) : (hostWrite d s l).1.Tidy w b := by
  unfold Machine.hostWrite
  dsimp only
  split
  · exact h.applyWords ..
  · exact h.countCode _
theorem keepDoor (h : d.Tidy w b) (x y : Word) : (keepDoor x y d).Tidy w b := by
  unfold Machine.keepDoor
  extract_lets stay e
  have kept : e.Tidy w b := h.onHost _
  clear_value e
  exact kept.foldl (fun _ _ h => ite_ (h.ring _) h) _
theorem raceOver (h : d.Tidy w b) (x : Word) (r : Race) : (raceOver x r d).Tidy w b := by
  unfold Machine.raceOver
  exact .keepDoor (.foldl (.foldl h (fun _ _ h => h.onCan ..) _) (fun _ _ h => h.onCan ..) _) ..
theorem latchGt (h : d.Tidy w b) : (latchGt d).Tidy w b := h.onTime rfl
theorem readWord (h : d.Tidy w b) (x : Nat) : (readWord d x).1.Tidy w b := by
  unfold Machine.readWord
  dsimp only
  split
  · exact h.latchGt
  split
  · split
    · exact h.onCan ..
    split
    · exact h.onCan ..
    split
    · exact h.onCan ..
    split
    · exact h.onCan ..
    · exact h
  · exact h
theorem readWords (h : d.Tidy w b) (x n : Nat) : (readWords d x n).1.Tidy w b := by
  induction n generalizing d x with
  | zero => exact h
  | succ n ih => exact ih (h.readWord x) _
theorem udpRun (h : d.Tidy w b) (g : Datagram) : (udpRun d g).1.Tidy w b := by
  unfold Machine.udpRun
  dsimp only
  split
  · split
    · exact h.count ..
    · exact h.readWords ..
  · exact h.hostWrite ..
theorem writeAndGo (h : d.Tidy w b) (m s n : Nat) (l : List Word) : (writeAndGo d m s n l).Tidy w b := ite_ (h.applyWords ..) (h.countCode _)

/-! ### Replies -/

theorem sendReply (h : d.Tidy w b) (m : Nat) (ws : List Word) : (sendReply d m ws).Tidy w b := ite_ (h.onHost _) (h.fillOut ..)
theorem countStatus (h : d.Tidy w b) (n : Nat) : (countStatus d n).Tidy w b := ite_ (h.count ..) (ite_ (h.count ..) h)
theorem reply (h : d.Tidy w b) (r : Request) (c s t : Nat) (res : List Word) : (reply d r c s t res).Tidy w b := .sendReply (h.countStatus _) ..
theorem refuse (h : d.Tidy w b) (r : Request) (c s t : Nat) : (refuse d r c s t).Tidy w b := h.reply ..
theorem okay (h : d.Tidy w b) (r : Request) (c : Nat) (res : List Word) : (okay d r c res).Tidy w b := h.reply ..
theorem accept (h : d.Tidy w b) (r : Request) (c t : Nat) (l : List Nat) : (accept d r c t l).1.Tidy w b := .sendReply (h.onMgmt fun wf => wf) ..
theorem onJob (h : d.Tidy w b) (n : Nat) (f : Job → Job) : (d.onJob n f).Tidy w b := h
theorem acceptDone (h : d.Tidy w b) (r : Request) (c : Nat) : (acceptDone d r c).Tidy w b := .endJob (h.accept ..) ..
theorem claimBulk (h : d.Tidy w b) (n : Nat) : (claimBulk d n).Tidy w b := h
theorem putBulk (h : d.Tidy w b) (n : Nat) (l : List Byte) : (putBulk d n l).Tidy w b := h.onMgmt (fun wf => memWrite_wf _ _ _ wf)
theorem command (h : d.Tidy w b) {c : Nat} {body : Dev → Dev} (keeps : ∀ d, Dev.Tidy w b d → (body d).Tidy w b) : (command d r c body).Tidy w b := by
  unfold Machine.command
  refine ite_ h ?_
  extract_lets +onlyGivenNames x
  have touched : x.Tidy w b := by
    unfold x
    split
    · exact ite_ (h.onMgmt fun wf => wf) h
    · exact h
  clear_value x
  exact ite_ (touched.refuse ..) (ite_ (touched.refuse ..) (ite_ (touched.refuse ..) (ite_ (touched.refuse ..) (ite_ (touched.refuse ..) (ite_ (touched.refuse ..) (keeps _ touched))))))
theorem withBulk (h : d.Tidy w b) {c : Nat} {body : Dev → Dev} (keeps : (body d).Tidy w b) : (withBulk d r c body).Tidy w b := ite_ (h.refuse ..) keeps

/-! ### Parameters -/

theorem onNext (h : d.Tidy w b) (p : Nat) (f : CfgField → CfgField) : (d.onNext p f).Tidy w b := h
theorem onRunning (h : d.Tidy w b) {f : LaneSt → LaneSt} (keeps : ∀ q : LaneSt, memWf q.mem = true → memWf (f q).mem = true) : (d.onRunning f).Tidy w b :=
  h.foldl (fun _ _ h => ite_ (h.onLane fun _ wf => keeps _ wf) h) _
theorem tellPartner (h : d.Tidy w b) (p : Nat) (v : DWord) (g : Option (BitVec 64)) : (tellPartner d p v g).Tidy w b := ite_ (h.handSvc _) h
theorem onField_wf {q : LaneSt} (p : Nat) (host : Bool) (f : CfgField → CfgField) (wf : memWf q.mem = true) : memWf (q.onField p host f).mem = true :=
  (congrArg memWf (q.onField_mem ..)).trans wf
theorem stageOne (h : d.Tidy w b) (e : Nat × DWord) : (stageOne d e).Tidy w b := ite_ (h.onNext ..) (.tellPartner (h.onRunning fun _ wf => onField_wf _ _ _ wf) ..)
theorem unstage_wf {q : LaneSt} (p : Nat) (wf : memWf q.mem = true) : memWf (q.unstage p).mem = true := wf
theorem foldl_wf {α : Type} {f : LaneSt → α → LaneSt} {q : LaneSt} (wf : memWf q.mem = true) (each : ∀ q a, memWf q.mem = true → memWf (f q a).mem = true) (l : List α) :
    memWf (l.foldl f q).mem = true := by
  induction l generalizing q with
  | nil => exact wf
  | cons a r ih => exact ih (each q a wf)
theorem dropGroup (h : d.Tidy w b) (g : Img) (n : Nat) : (dropGroup d g n).Tidy w b := by
  unfold Machine.dropGroup
  extract_lets +onlyGivenNames -underBinder ms i e
  have dropped : e.Tidy w b := by
    refine h.onRunning fun q wf => ?_
    extract_lets q'
    have unstaged : memWf q'.mem = true := by
      refine foldl_wf wf (fun q p wf => ?_) ms
      split
      · exact LaneSt.ite_wf (unstage_wf _ wf) wf
      · exact wf
    clear_value q'
    exact LaneSt.ite_wf unstaged unstaged
  clear_value e
  exact dropped.onMgmt fun wf => wf
theorem assignGroup (h : d.Tidy w b) (im : Img) (g n : Nat) : (assignGroup d im g n).Tidy w b := by
  unfold Machine.assignGroup
  refine ite_ (h.onRunning fun _ wf => wf) (h.foldl (fun _ _ h => ?_) _)
  split
  · exact h
  · exact ite_ (h.onNext ..) (.tellPartner (h.onRunning fun _ wf => onField_wf _ _ _ wf) ..)
theorem stateRec (h : d.Tidy w b) (t : Nat) (l : List Byte) : (d.stateRec t l).Tidy w b := h.post _
theorem calRecord (h : d.Tidy w b) (p : Nat) (v v' : DWord) : (calRecord d p v v').Tidy w b := ite_ (h.stateRec ..) (h.stateRec ..)
theorem calAssign_wf {q : LaneSt} (p : Nat) (v : DWord) (g : Nat) (wf : memWf q.mem = true) : memWf (calAssign q p v g).mem = true := onField_wf _ _ _ wf

end Dev.Tidy

/-! ### Commands -/

theorem keeps_edgeHeartbeatDue : Keeps .edgeHeartbeatDue := .of fun _ => ⟨_, rfl, fun _ h => .ite_ h (.of (h.toGt _) rfl rfl rfl)⟩
theorem keeps_edgeLinkIdle (k : Nat) : Keeps (.edgeLinkIdle k) := by
  refine .of fun s => ⟨_, rfl, fun _ h => .ite_ h ?_⟩
  extract_lets +onlyGivenNames x y z
  have guarded : y.Tidy _ _ := .onLink (h.pass _) ..
  clear_value y
  refine .ite_ (guarded.onLink ..) (.ite_ (guarded.onLink ..) (.ite_ (guarded.onLink ..) ?_))
  split
  · exact guarded.onLink ..
  · exact guarded
theorem keeps_statusFrame (k a : Nat) (e : Bool) (l : List Byte) : Keeps (.statusFrame k a e l) := by
  refine .of fun s => ⟨_, rfl, fun _ h => .ite_ h ?_⟩
  split
  · exact h.count ..
  · extract_lets +onlyGivenNames -underBinder x y meas ret no bad d1 d2 d3
    have there : x.Tidy _ _ := h.toGt _
    clear_value x meas
    have told : d1.Tidy _ _ := .onLink (there.count ..) ..
    clear_value d1
    have up : d2.Tidy _ _ := .ite_ (told.note ..) told
    clear_value d2
    have obeys : d3.Tidy _ _ := .ite_ (.note (up.count ..) ..) up
    clear_value d3
    exact .noteDegraded (.ite_ (obeys.note ..) obeys)
theorem keeps_edgeRxDown (k : Nat) : Keeps (.edgeRxDown k) :=
  .of fun _ => ⟨_, rfl, fun _ h => .ite_ h (.noteDegraded (.note (.onLink (.count (h.toClk _) ..) ..) ..))⟩
theorem keeps_serialiserClockSwitch : Keeps .serialiserClockSwitch := .of fun _ => ⟨_, rfl, fun _ h => h.of rfl rfl rfl⟩

theorem keeps_hostWrite (eth : Bool) (f : HostForm) (a : Nat) (l : List Word) (x : Race) : Keeps (.hostWrite eth f a l x) := by
  refine .of fun s => ⟨_, rfl, fun b h => .ite_ h (.ite_ (.raceOver (h.count ..) ..) ?_)⟩
  have written : (if f = .opcode then (countCode s.dev 4, 4) else hostWrite s.dev (if eth then 2 else 1) (hostWords a l)).1.Tidy (fun _ => True) b := by
    split
    · exact h.countCode _
    · exact h.hostWrite ..
  exact .ite_ (written.raceOver ..) (.onHost (written.raceOver ..) _)
theorem keeps_udpRequest (g : Datagram) : Keeps (.udpRequest g) := by
  refine .of fun s => ⟨_, rfl, fun _ h => .ite_ h (.ite_ (h.count ..) ?_)⟩
  split
  · exact .onHost (h.count ..) _
  · exact .onHost (h.udpRun _) _
theorem keeps_gtLoRead : Keeps .gtLoRead := .of fun _ => ⟨_, rfl, fun _ h => .ite_ h.latchGt h⟩
theorem keeps_inboundGo (m s n : Nat) (l : List Word) : Keeps (.inboundGo m s n l) := by
  refine .of fun s => ⟨_, rfl, fun _ h => .ite_ h ?_⟩
  split
  · exact h.writeAndGo ..
  · exact .ite_ (h.takeOutIf ..) (h.writeAndGo ..)
theorem keeps_claimTimeout (m : Nat) : Keeps (.claimTimeout m) := by
  refine .of fun s => ⟨_, rfl, fun _ h => ?_⟩
  dsimp only
  split
  · exact .ite_ (.count (.onIn (h.toClk _) ..) ..) h
  · exact h
theorem keeps_outboundAck (m r : Nat) : Keeps (.outboundAck m r) :=
  .of fun _ => ⟨_, rfl, fun _ h => .ite_ h (.ite_ (.ackOut (.ite_ (h.handSvc _) h) _) (h.countCode _))⟩
theorem keeps_relayedMailbox (n : SvcIn) (m : Nat) (l : List Word) : Keeps (.relayedMailbox n m l) :=
  .of fun _ => ⟨_, rfl, fun _ h => h.svcIn _ _ fun _ h => .ite_ h (.ite_ (h.countCode _) (.ite_ (h.count ..) (.goInbox (h.onIn ..) ..)))⟩
theorem keeps_doorbellClear (v x : Word) : Keeps (.doorbellClear v x) := .of fun _ => ⟨_, rfl, fun _ h => .ite_ h (.keepDoor (h.onHost _) ..)⟩
theorem keeps_doorbellRepeat : Keeps .doorbellRepeat := by
  refine .of fun s => ⟨_, rfl, fun _ h => ?_⟩
  dsimp only
  split
  · exact .ite_ (.onHost (h.toClk _) _) h
  · exact h
theorem keeps_eventExpiry : Keeps .eventExpiry := by
  refine .of fun s => ⟨_, rfl, fun _ h => ?_⟩
  dsimp only
  split
  · exact .ring (.count (.onHost (h.toClk _) _) ..) _
  · exact h
theorem keeps_bulkClaimTimeout : Keeps .bulkClaimTimeout := by
  refine .of fun s => ⟨_, rfl, fun _ h => ?_⟩
  dsimp only
  split
  · exact .onMgmt (h.toClk _) fun wf => wf
  · exact h
theorem keeps_stagingDelivered : Keeps .stagingDelivered := by
  refine .of fun s => ⟨_, rfl, fun _ h => ?_⟩
  dsimp only
  split
  · exact .okay (.foldl (h.onMgmt fun wf => wf) (fun _ _ h => h.stageOne _) _) ..
  · exact h

/-! ### Mailbox commands of buffer and parameters -/

namespace Dev.Tidy
variable {w : Option Lane → Prop} {b : Beat} {d : Dev} {r : Request}

theorem cmdBulkWrite (h : d.Tidy w b) : (cmdBulkWrite d r).Tidy w b :=
  h.command fun _ h => ite_ (h.refuse ..) (ite_ (h.refuse ..) (.okay (.putBulk (h.claimBulk _) ..) ..))
theorem cmdBulkRead (h : d.Tidy w b) : (cmdBulkRead d r).Tidy w b :=
  h.command fun _ h => ite_ (h.refuse ..) (ite_ (h.refuse ..) (ite_ (h.refuse ..) (h.okay ..)))
theorem cmdBulkRelease (h : d.Tidy w b) : (cmdBulkRelease d r).Tidy w b := h.command fun _ h => ite_ (h.refuse ..) (.okay (h.onMgmt fun wf => wf) ..)
theorem cmdParamStage (h : d.Tidy w b) : (cmdParamStage d r).Tidy w b := by
  refine h.command fun _ h => ite_ (h.refuse ..) ?_
  dsimp only
  split
  · exact h.refuse ..
  · exact h.onMgmt fun wf => wf
theorem cmdCommit (h : d.Tidy w b) : (cmdCommit d r).Tidy w b := by
  refine h.command fun _ h => ite_ (h.refuse ..) ?_
  split
  · exact h.refuse ..
  · refine ite_ (h.refuse ..) (ite_ (h.refuse ..) (ite_ ?_ ?_))
    · exact .refuse (.foldl h (fun _ _ h => h.dropGroup ..) _) ..
    · exact .accept (.foldl h (fun _ _ h => h.assignGroup ..) _) ..
theorem cmdDiscard (h : d.Tidy w b) : (cmdDiscard d r).Tidy w b := by
  refine h.command fun _ h => ite_ (h.refuse ..) ?_
  split
  · exact h.refuse ..
  · exact .okay (.foldl h (fun _ _ h => h.dropGroup ..) _) ..
theorem cmdCalibrate (h : d.Tidy w b) : (cmdCalibrate d r).Tidy w b := by
  refine h.command fun _ h => ite_ (h.refuse ..) (ite_ (h.refuse ..) (ite_ (h.refuse ..) (ite_ (h.refuse ..) (ite_ (h.refuse ..) ?_))))
  dsimp only
  split
  · exact .accept (.onLane (h.calRecord ..) fun _ wf => calAssign_wf _ _ _ (calAssign_wf _ _ _ wf)) ..
  · exact h.refuse ..
theorem cmdParamRead (h : d.Tidy w b) : (cmdParamRead d r).Tidy w b := by
  refine h.command fun _ h => ?_
  dsimp only
  split
  · exact h.refuse ..
  · exact ite_ (h.refuse ..) (h.okay ..)
theorem cmdCoefStage (h : d.Tidy w b) : (cmdCoefStage d r).Tidy w b := by
  refine h.command fun d h => h.withBulk ?_
  extract_lets +onlyGivenNames g loop bank hd n grp
  refine ite_ (h.refuse ..) (ite_ (h.refuse ..) (ite_ (h.refuse ..) (ite_ (h.refuse ..) ?_)))
  extract_lets +onlyGivenNames c
  refine ite_ (h.refuse ..) ?_
  extract_lets +onlyGivenNames other new
  have staged : ((Machine.claimBulk d r.sender).onRunning (fun q => { q with coefS := q.coefS.filter other ++ [new] })).Tidy w b := .onRunning (h.claimBulk _) fun _ wf => wf
  exact staged.okay ..
theorem cmdCoefRead (h : d.Tidy w b) : (cmdCoefRead d r).Tidy w b := by
  refine h.command fun _ h => h.withBulk ?_
  split
  · exact .okay (.putBulk (h.claimBulk _) ..) ..
  · exact h.refuse ..

end Dev.Tidy

end Sys2Proof.Machine
end

section
/-! SUPPORT. The byte memories and the beat through the roll call and the journal. -/

namespace Sys2Proof.Machine
open Sys2Proof

namespace Dev.Tidy
variable {w : Option Lane → Prop} {b : Beat} {d : Dev}

/-! ### The roll call -/

theorem selectSig {y : Lane} (h : d.Tidy (fun k => w k ∧ k ≠ some y) b) (d0 : Dev) (g : Img) (f : ExchangeFaults) (e : ExLanes) (i : Nat) :
    (selectSig d0 g f e y d i).Tidy (fun k => w k ∧ k ≠ some y) b := by
  unfold Machine.selectSig
  extract_lets +onlyGivenNames -underBinder q r cand cand' old k new mk d'
  have kept : d'.Tidy (fun k => w k ∧ k ≠ some y) b := h.onLane_aside
  clear_value d'
  exact ite_ (.markNotes (ite_ (kept.count ..) kept) ..) kept
theorem suspectStep {y : Lane} (h : d.Tidy (fun k => w k ∧ k ≠ some y) b) (f : ExchangeFaults) (e : ExLanes) : (suspectStep f e y d).Tidy (fun k => w k ∧ k ≠ some y) b := by
  unfold Machine.suspectStep
  extract_lets +onlyGivenNames -underBinder q refused sus newL mis d'
  have kept : d'.Tidy (fun k => w k ∧ k ≠ some y) b := h.onLane_aside
  clear_value d'
  exact ite_ (kept.markNotes ..) kept
theorem replicaStep (h : d.Tidy w b) (l : List Lane) : (replicaStep d l).Tidy w b :=
  ite_ h (.foldl h (fun _ _ h => ite_ (.laneRec (.takeOut (h.onSeq ..) ..) ..) (h.onSeq ..)) _)
theorem exchangeSend (h : d.Tidy w b) (f : ExchangeFaults) (e : Entry) (l : List Lane) : (exchangeSend d f e l).1.Tidy w b :=
  .foldl (.foldl h (fun _ _ h => h.takeOut ..) _) (fun _ _ h => h.takeOut ..) _
theorem exchangeSelect (h : d.Tidy w b) (f : ExchangeFaults) (e : Entry) (g : Img) (d0 : Dev) (x : ExLanes) (y : Lane) :
    (Machine.holdBack y e [] none d (Machine.suspectStep f x y ((rcIndices g e.operand).foldl (Machine.selectSig d0 g f x y) d))).Tidy w b :=
  h.holdBack (.suspectStep (.foldl (h.mono fun _ => And.left) (fun _ _ h => h.selectSig ..) _) ..)
end Dev.Tidy

theorem keeps_rollCallExchange (f : ExchangeFaults) : Keeps (.rollCallExchange f) := by
  refine .of fun _ => ⟨_, rfl, fun _ h => ?_⟩
  beta_reduce
  split
  · next g e0 es _ _ =>
    split
    · exact h
    · next e _ =>
      extract_lets +onlyGivenNames at_ d' d0
      have started : d'.Tidy (fun _ => True) _ := h.foldl (fun _ _ h => h.startEntry ..) _
      clear_value d' at_
      have sent := started.exchangeSend f e at_
      split
      next x is =>
      rw [is] at sent
      exact .replicaStep (.drawn (.foldl sent (fun _ _ h => h.exchangeSelect ..) _) _) _
  · exact h

namespace Dev.Tidy
variable {w : Option Lane → Prop} {b : Beat} {d : Dev}

/-! ### The journal -/

theorem startCompaction (h : d.Tidy w b) (cal : Bool) (l : List Nat) : (startCompaction d cal l).Tidy w b := by
  unfold Machine.startCompaction
  dsimp only
  split
  · exact h.onJr _
  · exact h.onJr _
theorem writeRec (h : d.Tidy w b) (q : QRec) : (writeRec d q).Tidy w b := by
  unfold Machine.writeRec
  extract_lets +onlyGivenNames -underBinder cal a p
  split
  · extract_lets +onlyGivenNames -underBinder d'
    have kept : d'.Tidy w b := ite_ h (h.onJr _)
    clear_value d'
    exact ite_ (kept.onJr _) (ite_ (kept.onJr _) (kept.onJr _))
  · extract_lets +onlyGivenNames -underBinder n r d' e
    have kept : e.Tidy w b := ite_ (.event (h.onJr _) ..) (h.onJr _)
    clear_value e
    exact ite_ (kept.startCompaction ..) kept
theorem flushClass (h : d.Tidy w b) (n : Nat) : (flushClass d n).Tidy w b := .foldl (h.onJr _) (fun _ _ h => h.writeRec _) _
theorem countersRec (h : d.Tidy w b) : (countersRec d).Tidy w b := h.stateRec ..
theorem endCompaction (h : d.Tidy w b) (cal : Bool) (c : CompSt) : (endCompaction d cal c).Tidy w b := by
  unfold Machine.endCompaction
  extract_lets +onlyGivenNames -underBinder s src all kept later left base t n0 note t' n1 gen hdr t'' sw d' e
  have ended : e.Tidy w b := .foldl (h.onJr _) (fun _ _ h => h.endJob ..) _
  clear_value e
  extract_lets
  exact ite_ (.countersRec (ended.onMgmt fun wf => wf)) ended
theorem secondsPass (h : d.Tidy w b) (n : Nat) : (d.secondsPass n).Tidy w b := ite_ h (h.onMgmt fun wf => wf)
theorem mramWords (h : d.Tidy w b) (n : Nat) (l : List Nat) : (mramWords d n l).Tidy w b :=
  .noteDegraded (.foldl (.onJr (h.onTest _) _) (fun _ _ h => h.fault ..) _)
theorem endTests (h : d.Tidy w b) (l : List Job) (f : Job → Job) : (l.foldl (fun d j => (d.onJob j.num f).endJob j.num 0 0) d).Tidy w b :=
  h.foldl (fun _ _ h => .endJob (h.onJob ..) ..) l
theorem mramDone (h : d.Tidy w b) (n c u : Nat) : (mramDone d n c u).Tidy w b := by
  unfold Machine.mramDone
  extract_lets +onlyGivenNames -underBinder res word e1 e2
  have shown : e1.Tidy w b := .putTest (h.onTest _) ..
  clear_value e1
  exact .testStatus (shown.endTests ..)
theorem scanJournal (h : d.Tidy w b) : (scanJournal d).Tidy w b := h.onJr _
theorem journalReadEnd (h : d.Tidy w b) (j : Job) : (journalReadEnd d j).Tidy w b := .endJob (.onJob (h.putBulk ..) ..) ..

end Dev.Tidy

theorem keeps_journalPost (p : Post) : Keeps (.journalPost p) := .of fun _ => ⟨_, rfl, fun _ h => by exact .ite_ (h.post _) h⟩
theorem keeps_recordWrite : Keeps .recordWrite := by
  refine .of fun _ => ⟨_, rfl, fun _ h => ?_⟩
  dsimp only
  split
  · exact .ite_ (.writeRec (h.onJr _) _) h
  · exact h
theorem keeps_compactionSlice (cal : Bool) : Keeps (.compactionSlice cal) := by
  refine .of fun _ => ⟨_, rfl, fun _ h => ?_⟩
  have flushed : ∀ n, Dev.Tidy _ _ (flushClass (Dev.toClk _ n) 0) := fun n => (h.toClk n).flushClass 0
  dsimp only
  split
  · exact h
  · exact .ite_ h (.ite_ ((flushed _).endCompaction ..) ((flushed _).onJr _))
theorem keeps_retentionRefresh : Keeps .retentionRefresh :=
  .of fun _ => ⟨_, rfl, fun _ h => by exact .ite_ (.startCompaction (h.startCompaction ..) ..) h⟩
theorem keeps_mramCheckSlice (c : Nat) (l : List Nat) : Keeps (.mramCheckSlice c l) := by
  refine .of fun _ => ⟨_, rfl, fun _ h => ?_⟩
  have checked : ∀ n, Dev.Tidy _ _ (flushClass (mramWords (Dev.toClk _ n) c l) 0) := fun n => ((h.toClk n).mramWords ..).flushClass 0
  dsimp only
  split
  · exact h
  · exact .ite_ h (.ite_ ((checked _).mramDone ..) (.testStatus ((checked _).onTest _)))
theorem keeps_earlyWarning : Keeps .earlyWarning := by
  refine .of fun _ => ⟨_, rfl, fun b h => ?_⟩
  beta_reduce
  extract_lets +onlyGivenNames -underBinder d'
  have warned : d'.Tidy (fun _ => True) b := h.onPwr _
  clear_value d'
  split
  · exact warned
  · extract_lets +onlyGivenNames -underBinder jobs e1 e2 e3
    have stopped : e2.Tidy (fun _ => True) b := .foldl (warned.onJr _) (fun _ _ h => h.endJob ..) _
    clear_value e2
    have tested : e3.Tidy (fun _ => True) b := by
      unfold e3
      split
      · exact stopped
      · extract_lets +onlyGivenNames -underBinder e
        have shown : e.Tidy (fun _ => True) b := .putTest (stopped.onTest _) ..
        clear_value e
        exact .testStatus (shown.endTests ..)
    clear_value e3
    exact .writeRec (.flushClass (tested.flushClass _) _) _
theorem keeps_earlyWarningClear : Keeps .earlyWarningClear := .of fun _ => ⟨_, rfl, fun _ h => by exact .onJr (h.onPwr _) _⟩

end Sys2Proof.Machine
end

section
/-! SUPPORT. The byte memories and the beat through the mailbox commands, the flash, the keys, resets and the power domains. -/

namespace Sys2Proof.Machine
open Sys2Proof

namespace Dev.Tidy
variable {w : Option Lane → Prop} {b : Beat} {d : Dev} {r : Request}

/-! ### Commands of the journal and reports -/

theorem cmdJournalInfo (h : d.Tidy w b) : (cmdJournalInfo d r).Tidy w b := h.command fun _ h => h.okay ..
theorem cmdJournalRead (h : d.Tidy w b) : (cmdJournalRead d r).Tidy w b := h.command fun _ h => h.withBulk (ite_ (h.refuse ..) (.accept (h.claimBulk _) ..))
theorem cmdJournalCompact (h : d.Tidy w b) : (cmdJournalCompact d r).Tidy w b := h.command fun _ h => .startCompaction (h.accept ..) ..
theorem cmdJournalAppend (h : d.Tidy w b) : (cmdJournalAppend d r).Tidy w b :=
  h.command fun _ h => ite_ (h.refuse ..) (ite_ (.refuse (h.onJr _) ..) (.okay (h.post _) ..))
theorem cmdIdentify (h : d.Tidy w b) : (cmdIdentify d r).Tidy w b := h.command fun _ h => h.okay ..
theorem cmdStatus (h : d.Tidy w b) : (cmdStatus d r).Tidy w b := h.command fun _ h => h.okay ..
theorem clearCounters (h : d.Tidy w b) : (clearCounters d).Tidy w b := h
theorem cmdCounterClear (h : d.Tidy w b) : (cmdCounterClear d r).Tidy w b := h.command fun _ h => .okay h.clearCounters ..
theorem cmdJobStatus (h : d.Tidy w b) : (cmdJobStatus d r).Tidy w b := h.command fun _ h => h.okay ..
theorem cmdImageInfo (h : d.Tidy w b) : (cmdImageInfo d r).Tidy w b := h.command fun _ h => h.okay ..
theorem cmdPwrStatus (h : d.Tidy w b) : (cmdPwrStatus d r).Tidy w b := h.command fun _ h => h.okay ..

/-! ### Modes, network and CAN -/

theorem cmdModeRequest (h : d.Tidy w b) : (cmdModeRequest d r).Tidy w b :=
  h.command fun _ h => ite_ (h.refuse ..) (ite_ (h.refuse ..) (ite_ (h.refuse ..) (.requestMode (.setPend (h.accept ..) _) ..)))
theorem cmdStarUnmute (h : d.Tidy w b) : (cmdStarUnmute d r).Tidy w b := h.command fun _ h => ite_ (h.refuse ..) (.okay (h.onNet _) ..)
theorem cmdNetSend (h : d.Tidy w b) : (cmdNetSend d r).Tidy w b :=
  h.command fun _ h => ite_ (h.refuse ..) (ite_ (h.refuse ..) (ite_ (h.refuse ..) (ite_ (.refuse (h.count ..) ..) (.okay (.queueRecess (h.claimBulk _) ..) ..))))
theorem cmdNetReceive (h : d.Tidy w b) : (cmdNetReceive d r).Tidy w b := by
  refine h.command fun d h => h.withBulk ?_
  have claimed := h.claimBulk r.sender
  generalize Machine.claimBulk d r.sender = e at claimed
  dsimp only
  split
  · exact claimed.okay ..
  · exact .okay (.putBulk (claimed.onNet _) ..) ..
theorem cmdCanRecover (h : d.Tidy w b) : (cmdCanRecover d r).Tidy w b :=
  h.command fun _ h => ite_ (h.refuse ..) (ite_ (h.refuse ..) (ite_ (h.refuse ..) (.onCan (.canRecoverStart (h.accept ..) _) ..)))

/-! ### Tests, the pair -/

theorem startDiag (h : d.Tidy w b) (u n : Nat) (c : Bool) : (startDiag d u n c).Tidy w b := h.onGd _
theorem cmdRunTest (h : d.Tidy w b) : (cmdRunTest d r).Tidy w b := by
  refine h.command fun _ h => ?_
  extract_lets +onlyGivenNames -underBinder u
  split
  · exact ite_ (h.refuse ..) (ite_ (h.refuse ..) (ite_ (h.refuse ..) (.startDiag (h.accept ..) ..)))
  · exact ite_ (h.refuse ..) (ite_ (h.refuse ..) (ite_ (h.refuse ..) (h.accept ..)))
  · refine ite_ (h.refuse ..) (ite_ (h.refuse ..) ?_)
    extract_lets +onlyGivenNames -underBinder d'
    have accepted : d'.Tidy w b := h.accept ..
    clear_value d'
    exact .testStatus (accepted.onTest _)
  · exact h.refuse ..
theorem cmdTestResults (h : d.Tidy w b) : (cmdTestResults d r).Tidy w b := by
  refine h.command fun _ h => ite_ (h.refuse ..) (ite_ (h.refuse ..) ?_)
  split
  · exact h.okay ..
  · exact h.okay ..
theorem sendClear (h : d.Tidy w b) (u : Nat) : (sendClear d u).Tidy w b := h.foldl (fun _ _ h => ite_ h (h.onLink ..)) _
theorem cmdSwitchClear (h : d.Tidy w b) : (cmdSwitchClear d r).Tidy w b := by
  refine h.command fun d h => ite_ (h.refuse ..) (ite_ (h.refuse ..) (ite_ (ite_ (h.refuse ..) ?_) ?_))
  · exact .startDiag (h.accept ..) ..
  · have accepted := (h.sendClear (argOf r 0)).accept r 0x0503 0 []
    generalize Machine.accept (Machine.sendClear d (argOf r 0)) r 0x0503 0 [] = e at accepted
    exact .endJob (accepted.onJob ..) ..
theorem cmdPairStatus (h : d.Tidy w b) : (cmdPairStatus d r).Tidy w b := h.command fun _ h => h.okay ..
theorem cmdPairSwap (h : d.Tidy w b) : (cmdPairSwap d r).Tidy w b := by
  refine h.command fun _ h => ite_ (h.refuse ..) (ite_ (h.refuse ..) (ite_ (h.refuse ..) ?_))
  exact ite_ (.proposeSwap (h.accept ..) ..) (.endJob (h.accept ..) ..)
theorem cmdPairRelay (h : d.Tidy w b) : (cmdPairRelay d r).Tidy w b := h.command fun _ h => ite_ (h.refuse ..) (.handSvc (.onPair (h.accept ..) _) _)

/-! ### Flash and keys -/

theorem putSlot (h : d.Tidy w b) (n : Nat) (fw : Bool) (l : List Byte) (ok : Bool) : (putSlot d n fw l ok).Tidy w b := h
theorem cmdImageWrite (h : d.Tidy w b) : (cmdImageWrite d r).Tidy w b :=
  h.command fun _ h => ite_ (h.refuse ..) (ite_ (h.refuse ..) (ite_ (h.refuse ..) (ite_ (h.refuse ..) (.putSlot (.accept (h.claimBulk _) ..) ..))))
theorem cmdFwWrite (h : d.Tidy w b) : (cmdFwWrite d r).Tidy w b :=
  h.command fun _ h => ite_ (h.refuse ..) (ite_ (h.refuse ..) (ite_ (h.refuse ..) (ite_ (h.refuse ..) (.onMgmt (.putSlot (.accept (h.claimBulk _) ..) ..) fun wf => wf))))
theorem slotWritten (h : d.Tidy w b) (j : Job) (n : Nat) (fw : Bool) (x : Nat) : (slotWritten d j n fw x).Tidy w b := ite_ (.endJob (h.putSlot ..) ..) (.endJob (h.putSlot ..) ..)
theorem imageWriteEnd (h : d.Tidy w b) (j : Job) (ok : Bool) : (imageWriteEnd d j ok).Tidy w b := h.slotWritten ..
theorem fwWriteEnd (h : d.Tidy w b) (j : Job) (ok : Bool) : (fwWriteEnd d j ok).Tidy w b := ite_ (h.slotWritten ..) (h.endJob ..)
theorem cmdSlotStatus (h : d.Tidy w b) : (cmdSlotStatus d r).Tidy w b := h.command fun _ h => h.okay ..
theorem cmdSlotSelect (h : d.Tidy w b) : (cmdSlotSelect d r).Tidy w b := h.command fun _ h => ite_ (h.refuse ..) (.okay (h.onBoot _) ..)
theorem cmdRestart (h : d.Tidy w b) : (cmdRestart d r).Tidy w b := h.command fun _ h => ite_ (h.refuse ..) (.onMgmt (h.okay ..) fun wf => wf)
theorem cmdAttest (h : d.Tidy w b) : (cmdAttest d r).Tidy w b := h.command fun _ h => ite_ (h.refuse ..) (ite_ (h.refuse ..) (.accept (h.claimBulk _) ..))
theorem attestEnd (h : d.Tidy w b) (j : Job) (l : List Byte) : (attestEnd d j l).Tidy w b := ite_ (h.endJob ..) (.endJob (.onJob (h.putBulk ..) ..) ..)
theorem cmdDebugChallenge (h : d.Tidy w b) (l : List Byte) : (cmdDebugChallenge d r l).Tidy w b := h.command fun _ h => .okay (h.onMgmt fun wf => wf) ..
theorem cmdDebugUnlock (h : d.Tidy w b) : (cmdDebugUnlock d r).Tidy w b := by
  refine h.command fun d h => ?_
  extract_lets +onlyGivenNames -underBinder used
  have spent : used.Tidy w b := h.onMgmt fun wf => wf
  clear_value used
  refine ite_ (spent.refuse ..) (ite_ (spent.refuse ..) ?_)
  extract_lets +onlyGivenNames -underBinder bs ok d'
  have claimed : d'.Tidy w b := spent.claimBulk _
  clear_value d'
  exact ite_ (claimed.refuse ..) (claimed.accept ..)
theorem openScan (h : d.Tidy w b) : (openScan d).Tidy w b := .onBoot (h.foldl (fun _ _ h => h.takeOut ..) _) _
theorem unlockEnd (h : d.Tidy w b) (j : Job) (ok : Bool) : (unlockEnd d j ok).Tidy w b :=
  ite_ (.endJob (.globalDoor (.onBoot (ite_ h.openScan h) _)) ..) (h.endJob ..)
theorem cmdDebugLock (h : d.Tidy w b) : (cmdDebugLock d r).Tidy w b := h.command fun _ h => .okay (.globalDoor (h.onBoot _)) ..
theorem floorsRec (h : d.Tidy w b) : (floorsRec d).Tidy w b := ite_ (h.writeRec _) h
theorem burnRollback (h : d.Tidy w b) (n : Nat) : (burnRollback d n).Tidy w b := h
theorem cmdRollbackAdvance (h : d.Tidy w b) : (cmdRollbackAdvance d r).Tidy w b :=
  h.command fun _ h => ite_ (h.refuse ..) (ite_ (h.refuse ..) (ite_ (h.refuse ..) (.floorsRec (.onBoot (h.accept ..) _))))

/-! ### Power -/

theorem dropUnit (h : d.Tidy w b) (c n : Nat) : (dropUnit d c n).Tidy w b :=
  ite_ (.onSeq (h.takeOut ..) ..) (ite_ (h.onSio ..) (ite_ (.foldl (h.bankLatch _) (fun _ _ h => h.onHb ..) _) (ite_ h h)))
theorem switchOff (h : d.Tidy w b) (c : Nat) : (switchOff d c).Tidy w b := .onPwr (h.dropUnit ..) _
theorem endLaneJobs (h : d.Tidy w b) (c : Nat) : (endLaneJobs d c).Tidy w b := .foldl (h.onPwr _) (fun _ _ h => h.endJob ..) _
theorem laneBack (h : d.Tidy w b) (c : Nat) : (laneBack d c).Tidy w b := ite_ (.startBist (h.onSeq ..) ..) h
theorem switchOn (h : d.Tidy w b) (c : Nat) : (switchOn d r c).Tidy w b := .onPwr (h.accept ..) _
theorem cmdPwrSet (h : d.Tidy w b) : (cmdPwrSet d r).Tidy w b := by
  refine h.command fun _ h => ite_ (h.refuse ..) (ite_ (h.refuse ..) (ite_ (h.acceptDone ..) (ite_ (ite_ ?_ ?_) (ite_ (h.switchOn _) ?_))))
  · exact ite_ (h.refuse ..) (h.switchOn _)
  · exact ite_ (h.refuse ..) (.acceptDone (h.switchOff _) ..)
  · exact ite_ (h.refuse ..) (.acceptDone (h.switchOff _) ..)
theorem pwrJobs (h : d.Tidy w b) : (pwrJobs d).Tidy w b := by
  refine h.foldl (fun _ _ h => ite_ h ?_) _
  exact ite_ (.endJob (h.onPwr _) ..) (ite_ (.switchOff (.endJob (h.onPwr _) ..) _) (ite_ (.endJob (h.onPwr _) ..) h))

/-! ### Jobs and drains -/

theorem finishJob (h : d.Tidy w b) (j : Job) (e : JobEnd) : (finishJob d j e).Tidy w b := by
  unfold Machine.finishJob
  split
  · exact h.imageWriteEnd ..
  · exact h.journalReadEnd ..
  · split
    · exact ite_ (.endJob (.onJob (h.onPair _) ..) ..) h
    · exact h
  · exact h.fwWriteEnd ..
  · exact h.attestEnd ..
  · exact h.unlockEnd ..
  · exact .endJob (h.burnRollback _) ..
  · exact h
theorem completeJob (h : d.Tidy w b) (j : Job) : (completeJob d j).Tidy w b := by
  unfold Machine.completeJob
  extract_lets +onlyGivenNames -underBinder gtWords res d' free e
  have freed : e.Tidy w b := ite_ (.onMgmt (h.onJob ..) fun wf => wf) (h.onJob ..)
  clear_value e
  exact .sendReply (freed.countStatus _) ..
theorem runCode (h : d.Tidy w b) (c : Nat) : (runCode d c r).Tidy w b := by
  unfold Machine.runCode
  split
  · exact h.cmdIdentify
  · exact h.cmdStatus
  · exact h.cmdCounterClear
  · exact h.cmdJobStatus
  · exact h.cmdBulkWrite
  · exact h.cmdBulkRead
  · exact h.cmdBulkRelease
  · exact h.cmdParamStage
  · exact h.cmdParamRead
  · exact h.cmdCommit
  · exact h.cmdDiscard
  · exact h.cmdCalibrate
  · exact h.cmdImageInfo
  · exact h.cmdModeRequest
  · exact h.cmdStarUnmute
  · exact h.cmdNetSend
  · exact h.cmdNetReceive
  · exact h.cmdImageWrite
  · exact h.cmdCoefStage
  · exact h.cmdCoefRead
  · exact h.cmdJournalInfo
  · exact h.cmdJournalRead
  · exact h.cmdJournalCompact
  · exact h.cmdJournalAppend
  · exact h.cmdRunTest
  · exact h.cmdTestResults
  · exact h.cmdSwitchClear
  · exact h.cmdPairStatus
  · exact h.cmdPairSwap
  · exact h.cmdPairRelay
  · exact h.cmdFwWrite
  · exact h.cmdSlotStatus
  · exact h.cmdSlotSelect
  · exact h.cmdRestart
  · exact h.cmdCanRecover
  · exact h.cmdAttest
  · exact drawn (h.cmdDebugChallenge _) _
  · exact h.cmdDebugUnlock
  · exact h.cmdDebugLock
  · exact h.cmdRollbackAdvance
  · exact h.cmdPwrSet
  · exact h.cmdPwrStatus
  · exact h.command fun _ h => h

end Dev.Tidy

theorem keeps_pairRelayRetry : Keeps .pairRelayRetry := by
  refine .of fun _ => ⟨_, rfl, fun _ h => ?_⟩
  dsimp only
  split
  · exact h
  · exact .ite_ (.handSvc (h.onPair _) _) (.endJob (h.onPair _) ..)
theorem keeps_challengeExpiry : Keeps .challengeExpiry := by
  refine .of fun _ => ⟨_, rfl, fun _ h => ?_⟩
  dsimp only
  split
  · exact .onMgmt (h.toClk _) fun wf => wf
  · exact h
theorem keeps_domainGood (c : Nat) : Keeps (.domainGood c) := by
  refine .of fun _ => ⟨_, rfl, fun b h => ?_⟩
  beta_reduce
  refine .ite_ h ?_
  extract_lets +onlyGivenNames -underBinder d
  have good : d.Tidy (fun _ => True) b := h.onPwr _
  clear_value d
  refine .ite_ good (.ite_ (good.laneBack _) (.ite_ (good.onSio ..) ?_))
  extract_lets +onlyGivenNames -underBinder d1 d2
  have back : d1.Tidy (fun _ => True) b := .ite_ (good.bankUnlatch _) good
  clear_value d1
  have synced : d2.Tidy (fun _ => True) b := .ite_ back back
  clear_value d2
  exact .noteDegraded (.foldl (synced.onPwr _) (fun _ _ h => h.endJob ..) _)
theorem keeps_jobCompletion (n : Nat) (e : JobEnd) : Keeps (.jobCompletion n e) := by
  refine .of fun _ => ⟨_, rfl, fun b h => ?_⟩
  beta_reduce
  refine .ite_ h ?_
  split
  · exact h
  · next j _ =>
    refine .ite_ h ?_
    extract_lets +onlyGivenNames -underBinder d
    have finished : d.Tidy (fun _ => True) b := .ite_ h (h.finishJob ..)
    clear_value d
    split
    · exact .ite_ (finished.completeJob _) finished
    · exact finished
theorem keeps_mailboxDrain : Keeps .mailboxDrain := by
  refine .of fun _ => ⟨_, rfl, fun b h => ?_⟩
  beta_reduce
  refine .ite_ h ?_
  split
  · exact h
  · exact .ite_ (h.count ..) (.runCode (.onHost (h.onIn ..) _) _)

/-! ### Resets -/

theorem resetDev_memsWf (d : Dev) (n : Nat) : (resetDev d n).memsWf := reset_memsWf
theorem plinthBegins_memsWf {d : Dev} (wf : d.memsWf) (p : Bool) : (plinthBegins d p).memsWf := by
  unfold plinthBegins
  split
  · exact wf
  · exact wf
theorem keeps_deviceReset (v : Bool) : Keeps (.deviceReset v) := .of_memsWf fun _ => ⟨_, rfl, fun _ => resetDev_memsWf ..⟩
theorem keeps_restartDelayExpiry : Keeps .restartDelayExpiry := by
  refine .of_memsWf fun _ => ⟨_, rfl, fun wf => ?_⟩
  dsimp only
  split
  · exact plinthBegins_memsWf (resetDev_memsWf ..) _
  · exact wf
theorem keeps_porNRelease (p : Bool) : Keeps (.porNRelease p) := .of_memsWf fun _ => ⟨_, rfl, fun wf => plinthBegins_memsWf wf p⟩
theorem keeps_domainDown (c : Nat) : Keeps (.domainDown c) := by
  refine .of_memsWf fun s => ⟨_, rfl, fun wf => ?_⟩
  have h := s.dev.tidy_iff.mp wf
  generalize s.dev.time.beat = b at h
  beta_reduce
  split
  · exact wf
  split
  · exact resetDev_memsWf ..
  extract_lets +onlyGivenNames -underBinder d1 d2
  have posted : d2.Tidy (fun _ => True) b := .fault (h.onPwr _) ..
  clear_value d2
  have after : ∀ {d : Dev}, d.Tidy (fun _ => True) b → d.memsWf := fun ⟨lanes, bulk, _⟩ => (Dev.tidy_iff _).mpr ⟨lanes, bulk, rfl⟩
  split
  · exact after posted.loseHub
  · exact after (.noteDegraded (.dropUnit (.ite_ (posted.endLaneJobs _) posted) ..))

end Sys2Proof.Machine
end

section
/-! SUPPORT. The byte memories and the beat through start-up. -/

namespace Sys2Proof.Machine
open Sys2Proof

namespace Dev.Tidy
variable {w : Option Lane → Prop} {b : Beat} {d : Dev}

theorem toStage (h : d.Tidy w b) (n : Nat) : (toStage d n).Tidy w b := .globalDoor (h.onBoot _)
theorem stageEnd (h : d.Tidy w b) (n : Nat) : (stageEnd d n).Tidy w b := h.toClk _
theorem loadFloors (h : d.Tidy w b) : (loadFloors d).Tidy w b := by
  unfold Machine.loadFloors
  split
  · exact h.onBoot _
  · exact h
theorem fallBack (h : d.Tidy w b) (fw : Bool) (n x : Nat) : (fallBack d fw n x).Tidy w b := .onBoot (h.note ..) _
theorem loadKey (h : d.Tidy w b) : (loadKey d).Tidy w b := ite_ h (ite_ (h.onBoot _) (.onBoot (h.note ..) _))
theorem recastCal (h : d.Tidy w b) (l : Lane) : (recastCal d l).Tidy w b := ite_ h (h.onLane fun _ wf => wf)
theorem loadNote (h : d.Tidy w b) (t u i c : Nat) : (loadNote d t u i c).Tidy w b := by
  unfold Machine.loadNote
  extract_lets +onlyGivenNames -underBinder e
  have written : e.Tidy w b := by
    unfold e
    split
    · exact ite_ (.writeRec (h.onJr _) _) h
    · exact h
  clear_value e
  exact written.note ..
theorem loadLane (h : d.Tidy w b) (g : Img) (l : List LoadHit) (k : Lane) : (loadLane d g l k).Tidy w b :=
  ite_ h (.foldl (h.onLane fun _ _ => initMem_wf g) (fun _ _ h => h.loadNote ..) _)
theorem loadNext (h : d.Tidy w b) (g : Img) : (loadNext d g).Tidy w b := h.onMgmt fun wf => wf
theorem loadCounters (h : d.Tidy w b) : (loadCounters d).Tidy w b := by
  unfold Machine.loadCounters
  dsimp only
  split
  · exact .onVot (h.onMgmt fun wf => wf) _
  · exact h.onMgmt fun wf => wf
theorem alignFloors (h : d.Tidy w b) : (alignFloors d).Tidy w b := ite_ (.floorsRec (h.onBoot _)) (ite_ (h.burnRollback _) h)
theorem analogItem (h : d.Tidy w b) (n : Nat) (x : Nat × Side × Nat) : (analogItem n d x).Tidy w b := by
  unfold Machine.analogItem
  split
  extract_lets +onlyGivenNames -underBinder t latch e
  have marked : e.Tidy w b := by
    refine ite_ (h.onHb ..) (ite_ (h.foldl (fun _ _ h => ?_) _) (ite_ (h.onGd _) (ite_ (ite_ (h.onTest _) h) (h.onSio ..))))
    exact .onHb (h.onHb ..) ..
  clear_value e
  exact ite_ (marked.fault ..) (marked.fault ..)
theorem queueDiags (h : d.Tidy w b) (n : Nat) : (queueDiags d n).Tidy w b := .diagPump (h.onGd _)
theorem raiseFwFloor (h : d.Tidy w b) : (raiseFwFloor d).Tidy w b := by
  unfold Machine.raiseFwFloor
  dsimp only
  split
  · exact h
  · exact ite_ (.floorsRec (h.onBoot _)) h
/-- The outcome of the image check, once the firmware part is chosen. -/
theorem verifyRun (h : d.Tidy w b) {p : Prop} {_ : Decidable p} {q : Prop} {_ : Decidable q} (f g : BootSt → BootSt) (n x y z c : Nat) (fw : Bool) :
    (if p then Machine.toStage (Machine.stageEnd (d.onBoot f) n) c
      else if q then Machine.toStage (Machine.stageEnd ((Machine.fallBack d fw x y).onBoot g) n) c
      else Machine.toStage (Machine.stageEnd d n) z).Tidy w b :=
  ite_ (.toStage (.stageEnd (h.onBoot _) _) _) (ite_ (.toStage (.stageEnd (.onBoot (h.fallBack ..) _) _) _) (.toStage (h.stageEnd _) _))

end Dev.Tidy

theorem keeps_plinth (bad : Bool) : Keeps (.plinth bad) := by
  refine .of fun _ => ⟨_, rfl, fun _ h => ?_⟩
  refine .ite_ h (.ite_ (.toStage (h.stageEnd _) _) (.toStage (.foldl (h.stageEnd _) (fun _ _ h => ?_) _) _))
  exact .ite_ (h.startBist _) (h.failLane ..)
theorem keeps_hubBist (ok : Bool) : Keeps (.hubBist ok) := by
  refine .of fun _ => ⟨_, rfl, fun b h => ?_⟩
  beta_reduce
  refine .ite_ h ?_
  extract_lets +onlyGivenNames -underBinder d n e
  have shown : e.Tidy (fun _ => True) b := .testStatus (.putTest (.onTest (h.stageEnd _) _) ..)
  clear_value e
  exact shown.toStage _
theorem keeps_fetch (f : Option Flash) : Keeps (.fetch f) := by
  refine .of fun _ => ⟨_, rfl, fun b h => ?_⟩
  beta_reduce
  refine .ite_ h ?_
  extract_lets +onlyGivenNames -underBinder d
  have read : d.Tidy (fun _ => True) b := by
    unfold d
    split
    · exact h.onBoot _
    · exact h
  clear_value d
  exact .toStage (.loadFloors (.scanJournal (read.stageEnd _))) _
theorem keeps_verify (fwA imgA fwB imgB : Bool) : Keeps (.verify fwA imgA fwB imgB) := by
  refine .of fun _ => ⟨_, rfl, fun b h => ?_⟩
  beta_reduce
  refine .ite_ h ?_
  extract_lets +onlyGivenNames -underBinder f p q fwD sig d1 d2 run
  have keyed : d2.Tidy (fun _ => True) b := .loadKey (h.onBoot _)
  have ran : ∀ d : Dev, ∀ n, d.Tidy (fun _ => True) b → (run d n).Tidy (fun _ => True) b := fun d n h => .verifyRun (h.onBoot _) ..
  clear_value d2 run
  exact .ite_ (ran _ _ keyed) (.ite_ (ran _ _ (keyed.fallBack ..)) (.toStage (keyed.stageEnd _) _))
theorem keeps_load (l : List LoadHit) : Keeps (.load l) := by
  refine .of fun _ => ⟨_, rfl, fun b h => ?_⟩
  beta_reduce
  split
  · exact h
  · refine .ite_ h ?_
    extract_lets +onlyGivenNames -underBinder g d1 d2 d3 d4
    have counted : d2.Tidy (fun _ => True) b := .countersRec (.loadCounters (.alignFloors (.loadNext (h.stageEnd _) _)))
    clear_value d2
    have loaded : d3.Tidy (fun _ => True) b := .foldl (counted.onBoot _) (fun _ _ h => h.loadLane ..) _
    clear_value d3
    have lines : d4.Tidy (fun _ => True) b := loaded.of rfl rfl rfl
    clear_value d4
    exact .toStage (.onPair (lines.onNet _) _) _
theorem keeps_analogSelfTestDone (n : Nat) (l : List (Nat × Side × Nat)) : Keeps (.analogSelfTestDone n l) := by
  refine .of fun _ => ⟨_, rfl, fun b h => ?_⟩
  beta_reduce
  refine .ite_ h ?_
  split
  · exact h
  · extract_lets +onlyGivenNames -underBinder job d1 res word d2 d3 d4
    have items : d1.Tidy (fun _ => True) b := .foldl (h.toClk _) (fun _ _ h => h.analogItem ..) _
    clear_value d1
    have marked : d3.Tidy (fun _ => True) b := .noteDegraded (items.onTest _)
    clear_value d3
    have shown : d4.Tidy (fun _ => True) b := .testStatus (marked.putTest ..)
    clear_value d4 job
    split
    · exact .endJob (shown.onJob ..) ..
    · exact shown.queueDiags _
theorem keeps_selfTest (n : Nat) (l : List Nat) : Keeps (.selfTest n l) := by
  refine .of fun _ => ⟨_, rfl, fun b h => ?_⟩
  beta_reduce
  refine .ite_ h ?_
  extract_lets +onlyGivenNames -underBinder d1 res d2 d3
  have checked : d1.Tidy (fun _ => True) b := .mramWords (h.stageEnd _) ..
  clear_value d1
  have shown : d2.Tidy (fun _ => True) b := .testStatus (.putTest (checked.onTest _) ..)
  clear_value d2
  have done : d3.Tidy (fun _ => True) b := shown.onBoot _
  clear_value d3
  exact .ite_ (done.toStage _) (.ite_ (done.toStage _) (.ite_ (done.toStage _) (done.toStage _)))

end Sys2Proof.Machine
end

section
/-! SUPPORT. The byte memories and the beat through a fast-cycle boundary, a bell and the release. The work of a boundary leaves the beat; a boundary, a
bell and the start of GT set it. -/

namespace Sys2Proof.Machine
open Sys2Proof

/-! ### Shadows -/

theorem discardGroup_wf (g : Img) {q : LaneSt} (n : Nat) (wf : memWf q.mem = true) : memWf (discardGroup g q n).mem = true := by
  refine LaneSt.ite_wf wf (Dev.Tidy.foldl_wf wf (fun q p wf => ?_) _)
  split
  · exact LaneSt.ite_wf wf wf
  · exact wf
theorem swapLane_wf (g : Img) (bell : Bool) (n : Nat) {q : LaneSt} (wf : memWf q.mem = true) : memWf (swapLane g bell n q).mem = true := by
  unfold swapLane
  extract_lets +onlyGivenNames -underBinder q0 new val banks pts q1 q2 q3
  have put : memWf q1.mem = true := Dev.Tidy.foldl_wf (f := fun (q : LaneSt) (c : CoefStage) => putCoef q c.rcd) wf (fun _ _ wf => wf) _
  clear_value q1
  exact LaneSt.setSigs_wf _ _ put

namespace Dev.Tidy
variable {w : Option Lane → Prop} {b : Beat} {d : Dev}

theorem commitLane (h : d.Tidy w b) (g : Img) (bell : Bool) (n : Nat) (l : Lane) : (commitLane g bell n d l).Tidy w b :=
  ite_ h (.onLane (.foldl h (fun _ _ h => .laneRec (.count (.onLane h fun _ wf => discardGroup_wf _ _ wf) ..) ..) _) fun _ wf => swapLane_wf _ _ _ wf)
theorem commitNext (h : d.Tidy w b) (n : Nat) : (commitNext n d).Tidy w b := .onMgmt (h.foldl (fun _ _ h => h.stateRec ..) _) fun wf => wf
theorem endCommits (h : d.Tidy w b) (n : Nat) : (endCommits n d).Tidy w b := h.foldl (fun _ _ h => h.endJob ..) _
theorem beginExc (h : d.Tidy w b) (n i : Nat) : (beginExc n d i).Tidy w b := h
theorem keepPhase (h : d.Tidy w b) (d0 : Dev) (n : Nat) (l : Lane) : (keepPhase d0 n d l).Tidy w b :=
  h.foldl (fun _ _ h => ite_ h (h.onLane fun _ wf => wf)) _
theorem restartLci (h : d.Tidy w b) (bell : Bool) (d0 : Dev) (n : Nat) : (restartLci bell d0 d n).Tidy w b := ite_ (h.onLanes fun _ wf => wf) h
theorem commitAll (h : d.Tidy w b) (bell : Bool) (n : Nat) : (commitAll d bell n).Tidy w b := by
  unfold Machine.commitAll
  extract_lets +onlyGivenNames -underBinder g exc e
  have committed := h.foldl (fun _ l h => h.commitLane g bell n l) lanesAll
  have phased : e.Tidy w b := .restartLci (.foldl (committed.keepDead ..) (fun _ _ h => h.keepPhase ..) _) ..
  clear_value e
  exact .endCommits (.commitNext (phased.foldl (fun _ _ h => h.beginExc ..) _) _) _

/-! ### Silence and what the dies deliver -/

theorem silenceOut (h : d.Tidy w b) (g : Group) : (silenceOut d g).Tidy w b := by
  unfold Machine.silenceOut
  split
  · exact h.foldl (fun _ _ h => .onHb (h.hbOff _) ..) _
  · exact h.onSio ..
  · exact h.onSio ..
  · exact h
theorem silence (h : d.Tidy w b) (g : Group) (t : BitVec 8) : (silence d g t).Tidy w b := .silenceOut (.fault (h.onGroup ..) ..) _
theorem silenceHeld (h : d.Tidy w b) : (silenceHeld d).Tidy w b := by
  unfold Machine.silenceHeld
  extract_lets +onlyGivenNames -underBinder e
  have held : e.Tidy w b := h.foldl (fun _ _ h => h.silence ..) _
  clear_value e
  exact ite_ (held.foldl (fun _ _ h => ite_ h (h.silence ..)) _) held
theorem latchRecords (h : d.Tidy w b) : (latchRecords d).Tidy w b := by
  unfold Machine.latchRecords
  extract_lets +onlyGivenNames -underBinder d1 d2
  have causes : d1.Tidy w b := h.foldl (fun _ _ h => ite_ h (h.fault ..)) _
  clear_value d1
  have first : d2.Tidy w b := ite_ (causes.fault ..) causes
  clear_value d2
  exact ite_ (first.fault ..) first
theorem protectionWord (h : d.Tidy w b) : (protectionWord d).Tidy w b := by
  unfold Machine.protectionWord
  extract_lets +onlyGivenNames -underBinder d1 new bs d2 d3
  have recorded : d1.Tidy w b := h.latchRecords
  clear_value d1
  have delivered : d2.Tidy w b := recorded.foldl (fun _ _ h => h.onHb ..) _
  clear_value d2
  have marked : d3.Tidy w b := delivered.onLanes fun q wf => foldl_wf (f := fun q ch => q.onRdc ch RdcSt.faulty) wf (fun _ _ wf => wf) _
  clear_value d3
  exact marked
theorem remoteRecords (h : d.Tidy w b) (k : Nat) (x y : EdgeRet) : (remoteRecords d k x y).Tidy w b := h.foldl (fun _ _ h => ite_ h (h.fault ..)) _
theorem edgeBoundary (h : d.Tidy w b) : (edgeBoundary d).Tidy w b := h.foldl (fun _ _ h => .onLink (h.remoteRecords ..) ..) _
theorem dueClears (h : d.Tidy w b) (n : Nat) : (dueClears d n).Tidy w b := .foldl (h.onGd _) (fun _ _ h => .endJob? (h.clearLatches _) ..) _
theorem repeatHalves (h : d.Tidy w b) (n : Nat) : (repeatHalves d n).Tidy w b :=
  .foldl (h.foldl (fun _ _ h => ite_ h (h.onHb ..)) _) (fun _ _ h => h.foldl (fun _ _ h => ite_ h (h.onLink ..)) _) _

/-! ### The work of a boundary -/

theorem swapBanks (h : d.Tidy w b) (n : Nat) : (swapBanks d n).Tidy w b := by
  unfold Machine.swapBanks
  split
  · exact h
  · exact h.onNet _
theorem selfTestCell (h : d.Tidy w b) (r : TestRead) : (selfTestCell d r).Tidy w b :=
  ite_ h (ite_ (.loseHub (.voterFault (h.count ..) ..)) (ite_ (h.count ..) (.voterFault (.onVot (h.count ..) _) ..)))
theorem selfTestVotes (h : d.Tidy w b) (l : List TestRead) : (selfTestVotes d l).Tidy w b := h.foldl (fun _ _ h => h.selfTestCell _) _
theorem injectTest (h : d.Tidy w b) : (injectTest d).Tidy w b := h.onVot _
theorem postDigests (h : d.Tidy w b) (n : Nat) : (postDigests d n).Tidy w b := h.foldl (fun _ _ h => .onLane (ite_ (h.postWord ..) h) fun _ wf => wf) _
theorem outSettled (h : d.Tidy w b) : (outSettled d).Tidy w b := h.foldl (fun _ _ h => ite_ (.markOut (.markOut (h.markOut ..) ..) ..) h) _
theorem strobe (h : d.Tidy w b) (n j : Nat) : (strobe d n j).Tidy w b := ite_ (h.onLanes fun _ wf => by exact wf) (drawn (.onTime (h.onLanes fun _ wf => by exact wf) rfl) _)
theorem boundaryWork (h : d.Tidy w b) (l : List TestRead) (n j : Nat) : (boundaryWork d l n j).Tidy w b := by
  unfold Machine.boundaryWork
  extract_lets +onlyGivenNames -underBinder bell d1 d2 d3 d4 d5 d6 d7 d8 d9 d10 d11 d12 d13 d14 d15 d16 d17
  have voted : d2.Tidy w b := .selfTestVotes (.outSettled (.verdictsDue (h.settledAt _))) _
  clear_value d2
  have judged : d5.Tidy w b := .probationBoundary (.silenceHeld (.strobeLoss (voted.strobe ..) _))
  clear_value d5
  have latched : d8.Tidy w b := .protectionWord (.edgeBoundary (.dueClears (judged.commitAll ..) _))
  clear_value d8
  have repeated : d11.Tidy w b := .repeatHalves (.canBoundary (.swapBanks (latched.onSafe _) _) _) _
  clear_value d11
  have shown : d14.Tidy w b := .onLanes (.latchWords (.secondsPass (.noteDegraded repeated.pwrJobs) _)) fun _ wf => wf
  clear_value d14
  have counted : d16.Tidy w b := .onVot (.injectTest (shown.onTime rfl)) _
  clear_value d16
  exact .onPair (.pairBoundary (counted.postDigests _) _) _

/-! ### The bell and the release -/

theorem overrun (h : d.Tidy w b) (l : Lane) : (overrun d l).Tidy w b := by
  unfold Machine.overrun
  dsimp only
  split
  · exact h
  split
  · exact ite_ (h.takeOut ..) h
  · exact h
theorem bellWords (h : d.Tidy w b) : (bellWords d).Tidy w b := by
  unfold Machine.bellWords
  extract_lets +onlyGivenNames -underBinder e
  have lanes : e.Tidy w b := h.foldl (fun _ _ h => .putWin (h.putWin ..) ..) _
  clear_value e
  exact .putWin (.putWin (.putWin (lanes.putWin ..) ..) ..) ..
theorem castApplied (h : d.Tidy w b) (d0 : Dev) : (castApplied d d0).Tidy w b := by
  unfold Machine.castApplied
  split
  · exact ite_ (ite_ (.onLane (h.recastCal _) fun _ wf => wf) (h.recastCal _)) h
  · exact h
theorem releaseNow (h : d.Tidy w b) (first : Bool) : (releaseNow d first).Tidy w b := by
  unfold Machine.releaseNow
  extract_lets +onlyGivenNames -underBinder g d1 d2 d3 d4 d5 edge can d6 d7 odd d8 d9 d10
  have started : d4.Tidy w b := .toStage (.onBoot (.injectTest (h.foldl (fun _ _ h => h.onSeq ..) _)) _) _
  clear_value d4
  have paired : d5.Tidy w b := started.onPair _
  clear_value d5
  have ports : ({ d5 with edge := edge, can := can } : Dev).Tidy w b := paired.of rfl rfl rfl
  have raised : d6.Tidy w b := ports.raiseFwFloor.foldl (fun _ _ h => h.beginExc ..) _
  clear_value d6
  have checked : d8.Tidy w b := .foldl (.liveChanged (.onLanes raised fun _ wf => by exact wf)) (fun _ _ h => h.takeOut ..) _
  clear_value d8
  have latched : d10.Tidy w b := ite_ (.protectionWord (.edgeBoundary (checked.onVot _))) (checked.onVot _)
  clear_value d10
  exact .latchWords (.noteDegraded (latched.onSafe _))

/-! ### Where the beat moves on -/

/-- A change of the time alone sets the beat. -/
theorem onTime_beat (h : d.Tidy w b) (f : TimeSt → TimeSt) : (d.onTime f).Tidy w (f d.time).beat := ⟨h.1, h.2.1, rfl⟩
theorem toBoundary (h : d.Tidy w b) (l : List TestRead) : (toBoundary d l).Tidy w
    { b with nextFc := BitVec.ofNat 64 (b.nextFc.toNat + (toBoundary d l).tf), fcIdx := (b.fcIdx + 1) % max 1 (toBoundary d l).k, bellDue := b.fcIdx == 0 } := by
  have is : d.time.beat = b := h.2.2
  have worked := (h.toGt d.nextFc).boundaryWork l d.nextFc d.time.fcIdx
  unfold Machine.toBoundary
  dsimp only
  generalize Machine.boundaryWork (d.toGt d.nextFc) l d.nextFc d.time.fcIdx = e at worked
  subst is
  obtain ⟨lanes, bulk, beat⟩ := worked
  refine ⟨lanes, bulk, ?_⟩
  obtain ⟨-, -, -, gt, cycle, belled⟩ := Beat.mk.inj beat
  exact Beat.mk.injEq .. |>.mpr ⟨rfl, rfl, rfl, gt, cycle, belled⟩
theorem toBell (h : d.Tidy w b) (n : Nat) : ∃ b' : Beat, (toBell n d).Tidy w b' ∧ b'.cycle = b.cycle ∧ b'.belled = b.belled := by
  induction n generalizing b d with
  | zero => exact ⟨b, h, rfl, rfl⟩
  | succ n ih =>
    unfold Machine.toBell
    split
    · exact ⟨b, h, rfl, rfl⟩
    · obtain ⟨b', kept, cycle, belled⟩ := ih (h.toBoundary [])
      exact ⟨b', kept, cycle, belled⟩
theorem bellWork (h : d.Tidy w b) (l : List Lane) :
    (bellWork d l).Tidy w { b with bellDue := false, bellGt := BitVec.ofNat 64 (b.nextFc.toNat - d.tf), cycle := b.cycle + 1 } := by
  unfold Machine.bellWork
  extract_lets +onlyGivenNames -underBinder g d1 d2 d3 d4 d5 d6 d7
  have hg : g = b.nextFc.toNat - d.tf := congrArg (fun t : Beat => t.nextFc.toNat - d.tf) h.2.2
  clear_value g
  subst hg
  have rewound : d3.Tidy w b := .onLanes (.foldl (.foldl h (fun _ _ h => h.overrun _) _) (fun _ _ h => h.takeOut ..) _) fun _ wf => wf
  clear_value d3
  have rung : d4.Tidy w { b with bellDue := false, bellGt := BitVec.ofNat 64 (b.nextFc.toNat - d.tf), cycle := b.cycle + 1 } := by
    obtain ⟨lanes, bulk, beat⟩ := rewound
    subst beat
    exact ⟨lanes, bulk, rfl⟩
  have applied := (rung.netBell.castBell.castApplied d4).pairBell
  clear_value d4
  have shown : d7.Tidy w { b with bellDue := false, bellGt := BitVec.ofNat 64 (b.nextFc.toNat - d.tf), cycle := b.cycle + 1 } :=
    .bellWords (.onPair (applied.onVot _) _)
  clear_value d7
  exact ite_ (shown.onHost _) shown
theorem firstBell (h : d.Tidy w b) :
    (Machine.firstBell d).Tidy w { b with
      nextFc := BitVec.ofNat 64 (b.nextFc.toNat + (Machine.firstBell d).tf), fcIdx := 1 % max 1 (Machine.firstBell d).k, bellGt := BitVec.ofNat 64 b.nextFc.toNat, belled := true } := by
  unfold Machine.firstBell
  extract_lets +onlyGivenNames -underBinder d1 g d2 d3 d4
  have came : d1.Tidy w b := h.toGt _
  clear_value d1
  have hg : g = b.nextFc.toNat := congrArg (fun t : Beat => t.nextFc.toNat) came.2.2
  clear_value g
  subst hg
  have rebased : d2.Tidy w b := came.onLanes fun _ wf => wf
  clear_value d2
  have rung : d3.Tidy w { b with bellGt := BitVec.ofNat 64 b.nextFc.toNat } := by
    refine netBell ?_
    generalize BitVec.ofNat 64 b.nextFc.toNat = n
    obtain ⟨lanes, bulk, beat⟩ := rebased
    subst beat
    exact ⟨lanes, bulk, rfl⟩
  clear_value d3
  have set : ∀ t k : Nat, (d3.onTime (fun x => { x with belled := true, nextFc := BitVec.ofNat 64 (b.nextFc.toNat + t), fcIdx := 1 % max 1 k })).Tidy w
      { b with nextFc := BitVec.ofNat 64 (b.nextFc.toNat + t), fcIdx := 1 % max 1 k, bellGt := BitVec.ofNat 64 b.nextFc.toNat, belled := true } := by
    intro t k
    obtain ⟨lanes, bulk, beat⟩ := rung
    obtain ⟨-, -, due, gt, cycle, -⟩ := Beat.mk.inj beat
    exact ⟨lanes, bulk, Beat.mk.injEq .. |>.mpr ⟨rfl, rfl, due, gt, cycle, rfl⟩⟩
  split
  · exact .onHost (set d3.tf d3.k) _
  · exact set d3.tf d3.k

end Dev.Tidy

theorem keeps_fastCycleBoundary (l : List TestRead) : Keeps (.fastCycleBoundary l) := by
  refine .of_canon fun _ => ⟨_, rfl, fun b h => ?_⟩
  refine .ite_ h.canon ?_
  split
  · exact ((h.bellWork []).toBoundary l).canon
  · exact (h.toBoundary l).canon
theorem keeps_bell (l : List Lane) : Keeps (.bell l) := by
  refine .of_canon fun s => ⟨_, rfl, fun b h => ?_⟩
  refine .ite_ h.canon (.ite_ h.firstBell.canon ?_)
  obtain ⟨_, reached, -⟩ := h.toBell (s.dev.k + 1)
  exact (reached.bellWork l).canon
theorem keeps_release : Keeps .release := by
  refine .of_canon fun _ => ⟨_, rfl, fun b h => ?_⟩
  refine .ite_ h.canon (.ite_ ?_ (.ite_ (h.releaseNow _).canon h.canon))
  have started := (h.stageEnd (2 * msClk)).onLanes (f := fun q => { q with seq := q.seq.replicaFrom 0 }) fun _ wf => wf
  exact (Dev.Tidy.releaseNow (started.onTime_beat _) true).canon

end Sys2Proof.Machine
end

section
/-! SUPPORT. Every command leaves the byte memories canonical, and with it O2. -/

namespace Sys2Proof.Machine
open Sys2Proof

theorem Keeps.of_same {c : Instr} {f : Dev → Dev} (runs : ∀ s : State, exec c s = s.onDev f)
    (keeps : ∀ {d : Dev}, d.Tidy (fun _ => True) d.time.beat → (f d).Tidy (fun _ => True) d.time.beat) : Keeps c := by
  refine .of_memsWf fun s => ⟨_, runs s, fun wf => ?_⟩
  obtain ⟨lanes, bulk, -⟩ := keeps (s.dev.tidy_iff.mp wf)
  exact (Dev.tidy_iff _).mpr ⟨lanes, bulk, rfl⟩
theorem Keeps.of_dispatch {c : Instr} {l : Lane} {p : Bool} {ok : Img → Entry → Bool} {body : Img → Entry → Dev → Dev}
    (runs : ∀ s : State, exec c s = s.onDev (fun d => dispatch d l p ok body))
    (aside : ∀ g e d, ∀ {b : Beat}, Dev.Tidy (fun k => True ∧ k ≠ some l) b d → (body g e d).Tidy (fun k => True ∧ k ≠ some l) b) : Keeps c :=
  .of_same runs fun h => h.dispatch fun g e d => aside g e d
/-- An entry that computes on its own lane. -/
theorem Keeps.of_onLane {c : Instr} {l : Lane} {p : Bool} {ok : Img → Entry → Bool} {f : Img → Entry → Dev → LaneSt → LaneSt}
    (runs : ∀ s : State, exec c s = s.onDev (fun d => dispatch d l p ok (fun g e d => d.onLane l (f g e d)))) : Keeps c :=
  .of_dispatch runs fun _ _ _ _ h => h.onLane_aside

theorem exec_keeps (c : Instr) : Keeps c := by
  cases c with
  | fastCycleBoundary reads => exact keeps_fastCycleBoundary reads
  | bell parity => exact keeps_bell parity
  | strobeCapture l corr => exact keeps_strobeCapture l corr
  | laneClockFault l byAclk => exact keeps_laneClockFault l byAclk
  | hubClockFault => exact keeps_hubClockFault
  | noHubStrobe => exact keeps_noHubStrobe
  | ringSyncLost => exact keeps_ringSyncLost
  | serdesUnlock => exact keeps_serdesUnlock
  | aclkFault => exact keeps_aclkFault
  | hubFault cause => exact keeps_hubFault cause
  | missedDeadline l unit => exact keeps_missedDeadline l unit
  | lmcPostTimeout l => exact keeps_lmcPostTimeout l
  | noOperation l p => exact .of_dispatch (fun _ => rfl) fun _ _ _ _ h => h
  | marker l p => exact .of_onLane fun _ => rfl
  | modeRequestEntry l p => exact keeps_modeRequestEntry l p
  | groupStaging l p => exact keeps_groupStaging l p
  | stageEvaluation l p => exact keeps_stageEvaluation l p
  | move l p => exact .of_onLane fun _ => rfl
  | add l p => exact .of_onLane fun _ => rfl
  | sub l p => exact .of_onLane fun _ => rfl
  | mul l p => exact .of_onLane fun _ => rfl
  | mac l p => exact .of_onLane fun _ => rfl
  | neg l p => exact .of_onLane fun _ => rfl
  | abs l p => exact .of_onLane fun _ => rfl
  | min l p => exact .of_onLane fun _ => rfl
  | max l p => exact .of_onLane fun _ => rfl
  | limit l p => exact .of_onLane fun _ => rfl
  | deadband l p => exact .of_onLane fun _ => rfl
  | scale2 l p => exact .of_onLane fun _ => rfl
  | sign l p => exact .of_onLane fun _ => rfl
  | ratecmp l p => exact .of_onLane fun _ => rfl
  | cmp l p => exact .of_onLane fun _ => rfl
  | hyst l p => exact .of_onLane fun _ => rfl
  | sel l p => exact .of_onLane fun _ => rfl
  | hold l p => exact .of_onLane fun _ => rfl
  | and l p => exact .of_onLane fun _ => rfl
  | or l p => exact .of_onLane fun _ => rfl
  | xor l p => exact .of_onLane fun _ => rfl
  | not l p => exact .of_onLane fun _ => rfl
  | lookup1d l p => exact .of_onLane fun _ => rfl
  | lookup2d l p => exact .of_onLane fun _ => rfl
  | loopClose l p => exact keeps_loopClose l p
  | forwardTransform l p => exact .of_onLane fun _ => rfl
  | inverseTransform l p => exact .of_onLane fun _ => rfl
  | modulation l p => exact keeps_modulation l p
  | observerStep l p => exact keeps_observerStep l p
  | acqTimeout l fcu => exact keeps_acqTimeout l fcu
  | sampleAndConvert l p codes => exact keeps_sampleAndConvert l p codes
  | resolverRead l p => exact .of_onLane fun _ => rfl
  | rdcUpdate l ch sinV cosV => exact keeps_rdcUpdate l ch sinV cosV
  | encoderHallRead l p => exact keeps_encoderHallRead l p
  | encoderEdge l inp w0 w1 w2 held => exact keeps_encoderEdge l inp w0 w1 w2 held
  | encoderSpeedTimeout l inp => exact keeps_encoderSpeedTimeout l inp
  | discreteOrLciRead l p => exact .of_onLane fun _ => rfl
  | dinLevelAccepted l n level samples => exact keeps_dinLevelAccepted l n level samples
  | lciMeasurement l code high period => exact keeps_lciMeasurement l code high period
  | lciTimeout l level => exact keeps_lciTimeout l level
  | pwmCompareWrite l p => exact keeps_pwmCompareWrite l p
  | gateEventPost l p => exact keeps_gateEventPost l p
  | edgeEventPost l p => exact keeps_edgeEventPost l p
  | parkLockCommand l p => exact .of_onLane fun _ => rfl
  | rollCallExchange f => exact keeps_rollCallExchange f
  | pairRollCallSelection l p => exact .of_onLane fun _ => rfl
  | payloadPost l p => exact keeps_payloadPost l p
  | payloadTake l p => exact .of_onLane fun _ => rfl
  | safetyDemandPost l p => exact keeps_safetyDemandPost l p
  | stateDigestSlice l p => exact keeps_stateDigestSlice l p
  | votedWordArrival l g parityOk cell => exact keeps_votedWordArrival l g parityOk cell
  | alignmentWindowExpiry g tag cell => exact keeps_alignmentWindowExpiry g tag cell
  | releaseDeadlineExpiry g tag cell => exact keeps_releaseDeadlineExpiry g tag cell
  | outIndicationArrival l v => exact keeps_outIndicationArrival l v
  | gateEventExecution hb => exact keeps_gateEventExecution hb
  | switchTurnOn hb vgs => exact keeps_switchTurnOn hb vgs
  | gateStuck hb => exact keeps_gateStuck hb
  | hardShortArmed hb sd => exact keeps_hardShortArmed hb sd
  | blankingEnd hb sd => exact keeps_blankingEnd hb sd
  | hardShortTrip hb sd => exact keeps_hardShortTrip hb sd
  | vdsTrip hb sd => exact keeps_vdsTrip hb sd
  | bsUv hb => exact keeps_bsUv hb
  | bsRecovered hb => exact keeps_bsRecovered hb
  | bsFault hb => exact keeps_bsFault hb
  | vgdUv bank mv => exact keeps_vgdUv bank mv
  | vgdRecovered bank mv => exact keeps_vgdRecovered bank mv
  | diagStepEnd unit nodes vdh => exact keeps_diagStepEnd unit nodes vdh
  | edgeHeartbeatDue => exact keeps_edgeHeartbeatDue
  | edgeLinkIdle link => exact keeps_edgeLinkIdle link
  | statusFrame link arrival codeErr bytes => exact keeps_statusFrame link arrival codeErr bytes
  | edgeRxDown link => exact keeps_edgeRxDown link
  | serialiserClockSwitch => exact keeps_serialiserClockSwitch
  | slotStart slot => exact keeps_slotStart slot
  | btnFrameReceived port f arrival => exact keeps_btnFrameReceived port f arrival
  | acceptanceWindowEnd slot => exact keeps_acceptanceWindowEnd slot
  | modeTimeout => exact keeps_modeTimeout
  | ringLinkDown east => exact keeps_ringLinkDown east
  | ringLinkUp east => exact keeps_ringLinkUp east
  | recessStart port => exact keeps_recessStart port
  | unscheduledFrameReceived port dest bytes => exact keeps_unscheduledFrameReceived port dest bytes
  | starFrameArrival port btn node => exact keeps_starFrameArrival port btn node
  | invigilatorCut port => exact keeps_invigilatorCut port
  | listenWindowEnd => exact keeps_listenWindowEnd
  | coldstartFrameReceived node dir => exact keeps_coldstartFrameReceived node dir
  | memberSilenceTimeout => exact keeps_memberSilenceTimeout
  | ctrlInitWrite ch v => exact keeps_ctrlInitWrite ch v
  | boRecover ch => exact keeps_boRecover ch
  | txcReq ch buf => exact keeps_txcReq ch buf
  | txcAbort ch buf => exact keeps_txcAbort ch buf
  | canStartOfFrame ch => exact keeps_canStartOfFrame ch
  | canAttemptEnd ch how tec rec => exact keeps_canAttemptEnd ch how tec rec
  | canRecoveryComplete ch again => exact keeps_canRecoveryComplete ch again
  | canFrameReceived ch f rec => exact keeps_canFrameReceived ch f rec
  | headObjectH0Read ch hp => exact keeps_headObjectH0Read ch hp
  | headObjectReleaseRead ch hp => exact keeps_headObjectReleaseRead ch hp
  | canBufferEntry desc => exact keeps_canBufferEntry desc
  | pairHeartbeatSend => exact keeps_pairHeartbeatSend
  | pairHeartbeatReceived n hb img => exact keeps_pairHeartbeatReceived n hb img
  | heartbeatDeadline => exact keeps_heartbeatDeadline
  | castRequest n ask => exact keeps_castRequest n ask
  | castFrameReceived n f => exact keeps_castFrameReceived n f
  | swapPropose n kind cycle => exact keeps_swapPropose n kind cycle
  | swapAccept n => exact keeps_swapAccept n
  | swapRefuse n => exact keeps_swapRefuse n
  | autoSwapExpiry => exact keeps_autoSwapExpiry
  | relayedMailbox n mbox words => exact keeps_relayedMailbox n mbox words
  | pairRelayRetry => exact keeps_pairRelayRetry
  | initPartnerTimeout => exact keeps_initPartnerTimeout
  | castingTimeout => exact keeps_castingTimeout
  | detach => exact keeps_detach
  | pairLinkUp port1 => exact keeps_pairLinkUp port1
  | castSweepEnd src p cal => exact keeps_castSweepEnd src p cal
  | rotationStart => exact keeps_rotationStart
  | laneBistDone l r => exact keeps_laneBistDone l r
  | ssReqAccepted grpB demand samples => exact keeps_ssReqAccepted grpB demand samples
  | safetyOutputChange grpB => exact keeps_safetyOutputChange grpB
  | testPulseStart out => exact keeps_testPulseStart out
  | testPulseEnd out readBackOk => exact keeps_testPulseEnd out readBackOk
  | safeStopRun l p io => exact keeps_safeStopRun l p io
  | safeStopStopped l => exact keeps_safeStopStopped l
  | graceExpired l => exact keeps_graceExpired l
  | discrep l => exact keeps_discrep l
  | dcLinkSupervision l p io => exact keeps_dcLinkSupervision l p io
  | chopFault l => exact keeps_chopFault l
  | prechargeTimeout l => exact keeps_prechargeTimeout l
  | hostWrite eth form addr data race => exact keeps_hostWrite eth form addr data race
  | udpRequest g => exact keeps_udpRequest g
  | gtLoRead => exact keeps_gtLoRead
  | inboundGo m sender len words => exact keeps_inboundGo m sender len words
  | claimTimeout m => exact keeps_claimTimeout m
  | outboundAck m reader => exact keeps_outboundAck m reader
  | doorbellClear v again => exact keeps_doorbellClear v again
  | mailboxDrain => exact keeps_mailboxDrain
  | doorbellRepeat => exact keeps_doorbellRepeat
  | eventExpiry => exact keeps_eventExpiry
  | jobCompletion job e => exact keeps_jobCompletion job e
  | stagingDelivered => exact keeps_stagingDelivered
  | identify r => exact .of_same (fun _ => rfl) Dev.Tidy.cmdIdentify
  | status r => exact .of_same (fun _ => rfl) Dev.Tidy.cmdStatus
  | counterClear r => exact .of_same (fun _ => rfl) Dev.Tidy.cmdCounterClear
  | jobStatus r => exact .of_same (fun _ => rfl) Dev.Tidy.cmdJobStatus
  | bulkWrite r => exact .of_same (fun _ => rfl) Dev.Tidy.cmdBulkWrite
  | bulkRead r => exact .of_same (fun _ => rfl) Dev.Tidy.cmdBulkRead
  | bulkRelease r => exact .of_same (fun _ => rfl) Dev.Tidy.cmdBulkRelease
  | bulkClaimTimeout => exact keeps_bulkClaimTimeout
  | paramStage r => exact .of_same (fun _ => rfl) Dev.Tidy.cmdParamStage
  | paramRead r => exact .of_same (fun _ => rfl) Dev.Tidy.cmdParamRead
  | commit r => exact .of_same (fun _ => rfl) Dev.Tidy.cmdCommit
  | discard r => exact .of_same (fun _ => rfl) Dev.Tidy.cmdDiscard
  | calibrate r => exact .of_same (fun _ => rfl) Dev.Tidy.cmdCalibrate
  | imageInfo r => exact .of_same (fun _ => rfl) Dev.Tidy.cmdImageInfo
  | modeRequest r => exact .of_same (fun _ => rfl) Dev.Tidy.cmdModeRequest
  | starUnmute r => exact .of_same (fun _ => rfl) Dev.Tidy.cmdStarUnmute
  | netSend r => exact .of_same (fun _ => rfl) Dev.Tidy.cmdNetSend
  | netReceive r => exact .of_same (fun _ => rfl) Dev.Tidy.cmdNetReceive
  | imageWrite r => exact .of_same (fun _ => rfl) Dev.Tidy.cmdImageWrite
  | coefStage r => exact .of_same (fun _ => rfl) Dev.Tidy.cmdCoefStage
  | coefRead r => exact .of_same (fun _ => rfl) Dev.Tidy.cmdCoefRead
  | journalInfo r => exact .of_same (fun _ => rfl) Dev.Tidy.cmdJournalInfo
  | journalRead r => exact .of_same (fun _ => rfl) Dev.Tidy.cmdJournalRead
  | journalCompact r => exact .of_same (fun _ => rfl) Dev.Tidy.cmdJournalCompact
  | journalAppend r => exact .of_same (fun _ => rfl) Dev.Tidy.cmdJournalAppend
  | runTest r => exact .of_same (fun _ => rfl) Dev.Tidy.cmdRunTest
  | testResults r => exact .of_same (fun _ => rfl) Dev.Tidy.cmdTestResults
  | switchClear r => exact .of_same (fun _ => rfl) Dev.Tidy.cmdSwitchClear
  | pairStatus r => exact .of_same (fun _ => rfl) Dev.Tidy.cmdPairStatus
  | pairSwap r => exact .of_same (fun _ => rfl) Dev.Tidy.cmdPairSwap
  | pairRelay r => exact .of_same (fun _ => rfl) Dev.Tidy.cmdPairRelay
  | fwWrite r => exact .of_same (fun _ => rfl) Dev.Tidy.cmdFwWrite
  | slotStatus r => exact .of_same (fun _ => rfl) Dev.Tidy.cmdSlotStatus
  | slotSelect r => exact .of_same (fun _ => rfl) Dev.Tidy.cmdSlotSelect
  | restart r => exact .of_same (fun _ => rfl) Dev.Tidy.cmdRestart
  | restartDelayExpiry => exact keeps_restartDelayExpiry
  | canRecover r => exact .of_same (fun _ => rfl) Dev.Tidy.cmdCanRecover
  | attest r => exact .of_same (fun _ => rfl) Dev.Tidy.cmdAttest
  | debugChallenge r rnd => exact .of_same (fun _ => rfl) fun h => h.cmdDebugChallenge rnd
  | challengeExpiry => exact keeps_challengeExpiry
  | debugUnlock r => exact .of_same (fun _ => rfl) Dev.Tidy.cmdDebugUnlock
  | debugLock r => exact .of_same (fun _ => rfl) Dev.Tidy.cmdDebugLock
  | rollbackAdvance r => exact .of_same (fun _ => rfl) Dev.Tidy.cmdRollbackAdvance
  | pwrSet r => exact .of_same (fun _ => rfl) Dev.Tidy.cmdPwrSet
  | pwrStatus r => exact .of_same (fun _ => rfl) Dev.Tidy.cmdPwrStatus
  | journalPost q => exact keeps_journalPost q
  | recordWrite => exact keeps_recordWrite
  | compactionSlice cal => exact keeps_compactionSlice cal
  | retentionRefresh => exact keeps_retentionRefresh
  | mramCheckSlice corrected bad => exact keeps_mramCheckSlice corrected bad
  | earlyWarning => exact keeps_earlyWarning
  | earlyWarningClear => exact keeps_earlyWarningClear
  | deviceReset vaon => exact keeps_deviceReset vaon
  | porNRelease pairId => exact keeps_porNRelease pairId
  | plinth fuseBad => exact keeps_plinth fuseBad
  | hubBist ok => exact keeps_hubBist ok
  | fetch f => exact keeps_fetch f
  | verify fwA imgA fwB imgB => exact keeps_verify fwA imgA fwB imgB
  | load hits => exact keeps_load hits
  | selfTest corrected bad => exact keeps_selfTest corrected bad
  | release => exact keeps_release
  | analogSelfTestDone die bad => exact keeps_analogSelfTestDone die bad
  | domainDown code => exact keeps_domainDown code
  | domainGood code => exact keeps_domainGood code
  | temperatureRead t => exact keeps_temperatureRead t
  | outputReadbackMismatch grpB out => exact keeps_outputReadbackMismatch grpB out
  | excitationFault amp on => exact keeps_excitationFault amp on
  | canBusIntegrated ch => exact keeps_canBusIntegrated ch
  | canBusError ch rec => exact keeps_canBusError ch rec
  | laneMonitorCoreFault l => exact keeps_laneMonitorCoreFault l

/-! ### The step -/

/-- Settles O2: a step runs one command, or lets a GCLK pass when none waits, and each command keeps every memory canonical. -/
theorem memoriesStayCanonical : Obligations.MemoriesStayCanonical := by
  unfold Obligations.MemoriesStayCanonical
  intro s t wf
  cases waits : s.pending with
  | nil =>
    intro is
    obtain rfl := Host.Outcome.next.inj ((step_of_nil waits).symm.trans is)
    obtain ⟨lanes, bulk, -⟩ := (s.dev.tidy_iff.mp wf).pass 1
    exact (Dev.tidy_iff _).mpr ⟨lanes, bulk, rfl⟩
  | cons c rest =>
    intro is
    obtain ⟨u, meaning, -, kept⟩ := exec_keeps c { s with pending := rest } wf
    obtain rfl := Host.Outcome.next.inj (meaning.symm.trans ((step_of_cons waits).symm.trans is))
    exact kept

end Sys2Proof.Machine
end

section
/-! SUPPORT. The rest of the bell's work leaves every pointer where the bell put it, at entry 0 (R50). -/

namespace Sys2Proof.Machine
open Sys2Proof

/-- Every pointer is at entry 0. -/
structure PtrsZero (lanes : Tri LaneSt) : Prop where
  ptr : ∀ k, (lanes.get k).seq.ptr = 0
def Dev.AtStart (d : Dev) : Prop := PtrsZero d.lanes

namespace Dev.AtStart
variable {d : Dev}

theorem of {d' : Dev} (h : d.AtStart) (lanes : d'.lanes = d.lanes) : d'.AtStart := (congrArg PtrsZero lanes).mpr h
theorem onLane (h : d.AtStart) {l : Lane} {f : LaneSt → LaneSt} (keeps : (d.lane l).seq.ptr = 0 → (f (d.lane l)).seq.ptr = 0) : (d.onLane l f).AtStart := by
  refine ⟨fun k => ?_⟩
  change ((d.onLane l f).lane k).seq.ptr = 0
  by_cases same : k = l
  · subst same
    rw [Dev.onLane_lane]
    exact keeps (h.ptr k)
  · rw [Dev.onLane_lane_ne _ _ _ _ same]
    exact h.ptr k
theorem onLanes (h : d.AtStart) {f : LaneSt → LaneSt} (keeps : ∀ q : LaneSt, q.seq.ptr = 0 → (f q).seq.ptr = 0) : (d.onLanes f).AtStart := by
  refine ⟨fun k => ?_⟩
  rw [Dev.onLanes, Tri.get_map]
  exact keeps _ (h.ptr k)
/-- A change of every lane that sets the pointers to entry 0. -/
theorem of_onLanes {f : LaneSt → LaneSt} (zero : ∀ q : LaneSt, (f q).seq.ptr = 0) : (d.onLanes f).AtStart := by
  refine ⟨fun k => ?_⟩
  rw [Dev.onLanes, Tri.get_map]
  exact zero _
theorem onHost (h : d.AtStart) (f : HostSt → HostSt) : (d.onHost f).AtStart := h
theorem onNet (h : d.AtStart) (f : NetSt → NetSt) : (d.onNet f).AtStart := h
theorem onPair (h : d.AtStart) (f : PairSt → PairSt) : (d.onPair f).AtStart := h
theorem onTime (h : d.AtStart) (f : TimeSt → TimeSt) : (d.onTime f).AtStart := h
theorem onVot (h : d.AtStart) (f : VotSt → VotSt) : (d.onVot f).AtStart := h
theorem count (h : d.AtStart) (a n : Nat) : (d.count a n).AtStart := h
theorem countIf (h : d.AtStart) (c : Bool) (a : Nat) : (d.countIf c a).AtStart := by
  cases c
  · exact h
  · exact h
theorem ring (h : d.AtStart) (n : Nat) : (d.ring n).AtStart := h
theorem putWin (h : d.AtStart) (a n : Nat) : (d.putWin a n).AtStart := h
theorem hbOff (h : d.AtStart) (n : Nat) : (d.hbOff n).AtStart := h
theorem foldl {α : Type} {f : Dev → α → Dev} (h : d.AtStart) (each : ∀ d a, Dev.AtStart d → (f d a).AtStart) (l : List α) : (l.foldl f d).AtStart := by
  induction l generalizing d with
  | nil => exact h
  | cons a r ih => exact ih (each d a h)
theorem ite_ {p : Prop} {_ : Decidable p} {x y : Dev} (yes : x.AtStart) (no : y.AtStart) : (if p then x else y).AtStart := by split <;> assumption

/-! ### Records and lanes that go out -/

theorem note (h : d.AtStart) (t u i c v : Nat) : (d.note t u i c v).AtStart := ite_ (h.of (d.post_lanes _)) h
theorem event (h : d.AtStart) (c : Nat) (v : Word) : (d.event c v).AtStart := ite_ h (ite_ h h)
theorem takeOut (h : d.AtStart) (l : Lane) (c e u : Nat) : (d.takeOut l c e u).AtStart := by
  refine ⟨fun k => ?_⟩
  change ((d.takeOut l c e u).lane k).seq.ptr = 0
  by_cases runs : d.runs l = true
  · by_cases same : k = l
    · subst same
      rw [Dev.takeOut_lane _ _ _ _ _ runs]
      exact h.ptr k
    · rw [Dev.takeOut_lane_ne _ _ _ _ _ _ same]
      exact h.ptr k
  · rw [Dev.takeOut_idle _ _ _ _ _ (Bool.eq_false_iff.mpr runs)]
    exact h.ptr k
theorem laneRecAt (h : d.AtStart) (g : Nat) (l : Lane) (k t u i c v : Nat) : (d.laneRecAt g l k t u i c v).AtStart :=
  ite_ (h.takeOut ..) (ite_ (h.of (d.post_lanes _)) h)
theorem markNotes (h : d.AtStart) (g : Nat) (l : List (Nat × Nat × Nat)) : (d.markNotes g l).AtStart := h.foldl (fun _ _ h => h.laneRecAt ..) l

/-! ### The network's modes -/

theorem switchMode (h : d.AtStart) (m : Nat) : (switchMode d m).AtStart :=
  .event (.note (h.foldl (fun _ _ h => ite_ (h.onLane fun _ => rfl) h) _) ..) ..
theorem endJob? (h : d.AtStart) (n : Option Nat) (s e : Nat) : (d.endJob? n s e).AtStart := by
  cases n
  · exact h
  · exact h
theorem modeTurn (h : d.AtStart) (p : Prop) {_ : Decidable p} (m : Nat) (job : Option Nat) : ((if p then d.clearPend else Machine.switchMode d m).endJob? job 0 0).AtStart :=
  .endJob? (ite_ (h.onLanes fun _ h => by exact h) (h.switchMode m)) ..
theorem requestMode (h : d.AtStart) (m : Nat) (job : Option Nat) : (d.requestMode m job).AtStart := by
  unfold Dev.requestMode
  extract_lets +onlyGivenNames -underBinder old
  clear_value old
  refine ite_ (.of (h.endJob? old 0x19 4) rfl) (ite_ h ?_)
  extract_lets +onlyGivenNames -underBinder announced
  clear_value announced
  refine ite_ ?_ (.of (h.endJob? old 0x19 4) rfl)
  extract_lets +onlyGivenNames -underBinder e
  have ended : e.AtStart := by
    unfold e
    split
    · exact h.endJob? ..
    · exact h
  exact ended
theorem modeBell (h : d.AtStart) : (modeBell d).AtStart := by
  unfold Machine.modeBell
  extract_lets +onlyGivenNames -underBinder e
  have switched : e.AtStart := by
    unfold e
    split
    · exact h
    · refine ite_ (ite_ (ite_ h ((h.onNet _).modeTurn ..)) h) (ite_ ?_ (ite_ h (ite_ h ?_)))
      · dsimp only
        split
        · exact .requestMode (.onNet ((h.onNet _).modeTurn ..) _) ..
        · exact (h.onNet _).modeTurn ..
      · split
        · exact ite_ h h
        · exact h
  clear_value e
  split
  · exact ite_ (ite_ switched (switched.switchMode _)) switched
  · exact switched
  · exact switched
theorem ringBell (h : d.AtStart) : (ringBell d).AtStart := by
  unfold Machine.ringBell
  extract_lets +onlyGivenNames kept e
  have joined : e.AtStart := by
    unfold e
    split
    · exact ite_ h h
    · exact ite_ h h
    · exact h
  clear_value e
  exact ite_ (ite_ joined (ite_ joined joined)) joined
theorem syncState (h : d.AtStart) : (syncState d).AtStart :=
  ite_ (ite_ h (.ring (.note (.onNet (h.onTime _) _) ..) _)) (ite_ (.ring (.note (h.onTime _) ..) _) h)
theorem syncBell (h : d.AtStart) : (syncBell d).AtStart := ite_ h (ite_ h h)
theorem wrapPort (h : d.AtStart) (east : Bool) : (wrapPort d east).AtStart := ite_ h h
theorem netBell (h : d.AtStart) : (netBell d).AtStart := by
  unfold Machine.netBell
  refine ite_ h ?_
  extract_lets +onlyGivenNames d1 d2 d3 d4 d5 d6
  have ports : d1.AtStart := h
  clear_value d1
  have wraps : d2.AtStart := (ports.wrapPort _).wrapPort _
  clear_value d2
  have counted : d4.AtStart := wraps
  clear_value d4
  have timed : d5.AtStart := ite_ counted (.ringBell (.syncState counted.syncBell))
  clear_value d5
  exact timed.modeBell

/-! ### Casts -/

theorem castBell (h : d.AtStart) : (castBell d).AtStart := by
  unfold Machine.castBell
  split
  · split
    · refine ite_ ?_ h
      extract_lets src was x y z
      have cast : x.AtStart := h.onLane fun _ => rfl
      clear_value x
      have told : y.AtStart := cast.onLanes fun _ h => h
      clear_value y
      have noted : z.AtStart := ite_ (told.markNotes ..) told
      exact noted
    · exact h
  · dsimp only
    split
    · exact ite_ h h
    · exact h
  · exact h
theorem recastCal (h : d.AtStart) (l : Lane) : (recastCal d l).AtStart := ite_ h (h.onLane fun h => h)
theorem castApplied (h : d.AtStart) (d0 : Dev) : (castApplied d d0).AtStart := by
  unfold Machine.castApplied
  split
  · exact ite_ (ite_ (.onLane (h.recastCal _) fun h => h) (h.recastCal _)) h
  · exact h
/-! ### The pair -/

theorem svcGo (h : d.AtStart) (n : Nat) : (d.svcGo n).AtStart := by
  obtain ⟨p, is⟩ := d.svcGo_pair n
  exact is ▸ h
theorem handSvc (h : d.AtStart) (x : SvcBody) : (d.handSvc x).AtStart := by
  obtain ⟨p, is⟩ := d.handSvc_pair x
  exact is ▸ h
theorem hubIncrement (h : d.AtStart) : (hubIncrement d).AtStart := by
  unfold Machine.hubIncrement
  split
  · exact ite_ (ite_ h ((h.onPair _).handSvc _)) h
  · exact h
theorem castStart (h : d.AtStart) : (castStart d).AtStart := by
  unfold Machine.castStart
  split
  · exact ite_ ((h.onPair _).foldl (fun _ _ h => h.handSvc _) _) h
  · exact h
theorem dropSwap (h : d.AtStart) : d.dropSwap.AtStart := by
  unfold Dev.dropSwap
  split
  · exact h
  · exact .endJob? (.countIf (h.onPair _) ..) ..
theorem takeRole (h : d.AtStart) (r : Role) : (d.takeRole r).AtStart := by
  unfold Dev.takeRole
  extract_lets +onlyGivenNames old
  refine ite_ h ?_
  extract_lets +onlyGivenNames tc x y z
  have changed : x.AtStart := h
  clear_value x
  have off : y.AtStart := ite_ (changed.foldl (fun _ _ h => h.hbOff _) _) changed
  clear_value y
  have idled : z.AtStart := by
    refine ite_ (.onPair (off.onLanes fun q start => ?_) _) off
    split
    · exact start
    · exact start
  clear_value z
  exact .event (idled.note ..) ..
theorem swapBell (h : d.AtStart) : (swapBell d).AtStart := by
  unfold Machine.swapBell
  split
  · exact h
  · refine ite_ h (ite_ (ite_ (.endJob? ?_ ..) h.dropSwap) (ite_ ?_ h.dropSwap))
    · exact .count ((h.onPair _).takeRole _) ..
    · exact .count (.takeRole (.onPair (h.onPair _) _) _) ..
theorem pairBell (h : d.AtStart) : (pairBell d).AtStart := by
  unfold Machine.pairBell
  refine ite_ h ?_
  extract_lets +onlyGivenNames x y z done wake
  have swapped : x.AtStart := h.swapBell
  clear_value x
  have cast : y.AtStart := ite_ swapped.castStart swapped
  clear_value y
  have sent : z.AtStart := cast.hubIncrement.svcGo _
  clear_value z done
  have woken : ∀ d : Dev, d.AtStart → (d.onLanes wake).AtStart := by
    refine fun _ h => h.onLanes fun q start => ?_
    unfold wake
    split
    · rfl
    · exact start
  exact ite_ (.onPair (.takeRole (woken _ (sent.onVot _)) _) _) (ite_ (woken _ sent) sent)
theorem bellWords (h : d.AtStart) : (bellWords d).AtStart := by
  unfold Machine.bellWords
  extract_lets +onlyGivenNames -underBinder e
  have shown : e.AtStart := h.foldl (fun _ _ h => .putWin (h.putWin ..) ..) _
  clear_value e
  exact .putWin (.putWin (.putWin (shown.putWin ..) ..) ..) ..

end Dev.AtStart

/-- After the bell's work every pointer is at entry 0. -/
theorem bellWork_atStart (d : Dev) (l : List Lane) : (bellWork d l).AtStart := by
  unfold bellWork
  extract_lets +onlyGivenNames -underBinder g d1 d2 d3 d4 d5 d6 d7
  have rewound : d3.AtStart := .of_onLanes fun _ => rfl
  clear_value d3
  have rung : d4.AtStart := rewound.onTime _
  have applied := (rung.netBell.castBell.castApplied d4).pairBell
  clear_value d4
  have voted : d6.AtStart := .onPair (applied.onVot _) _
  clear_value d6
  have shown : d7.AtStart := voted.bellWords
  clear_value d7
  exact .ite_ (shown.onHost _) shown

end Sys2Proof.Machine
end

section
/-! SUPPORT. The fast-cycle boundary and the bell (R39, R50, R51, R58 to R60, R63, R117), and with them O59. -/

namespace Sys2Proof.Machine
open Sys2Proof

/-! ### A field at a commit point -/

section
variable {q : LaneSt} {g : Img} {bell : Bool} {b : Nat} {c : CfgField}

theorem swapField_of_due {e : BitVec 64 × DWord} (last : (c.due.filter (fun e => decide (e.1.toNat ≤ b))).getLast? = some e) :
    (swapField q g bell b c).live = e.2 ∧ ∀ x ∈ (swapField q g bell b c).due, b < x.1.toNat := by
  have new : q.newValue g bell b c = some e.2 := by rw [LaneSt.newValue, last]
  rw [swapField, new]
  refine ⟨rfl, fun x here => ?_⟩
  have later := (List.mem_filter.mp here).2
  simpa using later
theorem newValue_of_none (none : c.due.filter (fun e => decide (e.1.toNat ≤ b)) = []) : q.newValue g bell b c = if q.ttReady g bell c then c.staged else .none := by
  rw [LaneSt.newValue, none]
  rfl
/-- No value that has come due, so all stay. -/
theorem due_stays (none : c.due.filter (fun e => decide (e.1.toNat ≤ b)) = []) : c.due.filter (fun e => !decide (e.1.toNat ≤ b)) = c.due :=
  List.filter_eq_self.mpr fun e here => by simpa using List.filter_eq_nil_iff.mp none e here
theorem swapField_of_staged {v : DWord} (none : c.due.filter (fun e => decide (e.1.toNat ≤ b)) = []) (ready : q.ttReady g bell c = true) (staged : c.staged = some v) :
    swapField q g bell b c = { c with live := v, staged := .none } := by
  have new : q.newValue g bell b c = some v := by rw [newValue_of_none none, if_pos ready, staged]
  rw [swapField, new]
  simp only [due_stays none, ready, if_true]
theorem swapField_of_waiting (none : c.due.filter (fun e => decide (e.1.toNat ≤ b)) = []) (waits : q.ttReady g bell c = false) : swapField q g bell b c = c := by
  have new : q.newValue g bell b c = .none := by rw [newValue_of_none none, waits]; rfl
  rw [swapField, new]
theorem ttReady_members (ready : q.ttReady g bell c = true) :
    c.host = false ∧ c.staged.isSome = true ∧ (bell = true ∨ groupClsB (groupPid g c.pid) = false) ∧
      ∀ p ∈ groupMembers g (groupPid g c.pid), ∃ x : CfgField, q.field p = some x ∧ x.host = false ∧ x.staged.isSome = true := by
  simp only [LaneSt.ttReady, Bool.and_eq_true, Bool.or_eq_true, Bool.not_eq_true', List.all_eq_true, Option.any_eq_true] at ready
  obtain ⟨⟨⟨own, staged⟩, cls⟩, members⟩ := ready
  exact ⟨own, staged, cls, members⟩

end

/-! ### Entries that a bell overtakes -/

section
variable {d : Dev} {l : Lane} {g : Img}

theorem overrun_of_left {m : ModeRec} (run : d.boot.running = some g) (mode : g.mode (d.lane l).seq.mode = some m) (runs : d.runs l = true)
    (left : (d.lane l).seq.ptr < m.count) :
    overrun d l = d.takeOut l 4 (d.lane l).seq.ptr (entryOf (g.entries.getD (m.start + (d.lane l).seq.ptr) 0)).unit := by
  simp [overrun, run, mode, runs, left]
theorem overrun_of_done (done : d.runs l = false ∨ ∀ g m, d.boot.running = some g → g.mode (d.lane l).seq.mode = some m → m.count ≤ (d.lane l).seq.ptr) :
    overrun d l = d := by
  unfold overrun
  dsimp only
  split
  · rfl
  next g run =>
  split
  · next m mode =>
    refine if_neg fun yes => ?_
    rw [Bool.and_eq_true, decide_eq_true_eq] at yes
    obtain ⟨runs, left⟩ := yes
    rcases done with out | done
    · exact Bool.false_ne_true (out.symm.trans runs)
    · exact Nat.not_lt.mpr (done g m run mode) left
  · rfl

end

/-! ### The voters' test words -/

/-- A word with one bit inverted is another. -/
theorem xor_bit_ne (w : BitVec 72) (k : Nat) : w ^^^ BitVec.ofNat 72 (2 ^ (k % 72)) ≠ w := by
  intro same
  have low : k % 72 < 72 := Nat.mod_lt _ (by decide)
  have bit := congrArg (fun v => BitVec.getLsbD v (k % 72)) same
  rw [BitVec.getLsbD_xor, BitVec.getLsbD_ofNat, Nat.testBit_two_pow_self, decide_eq_true low] at bit
  cases h : w.getLsbD (k % 72) <;> rw [h] at bit <;> contradiction
theorem testVerdict_testWords (c : Nat) : testVerdict (testWords c).a (testWords c).b (testWords c).c = testExpected c := by
  have differ := xor_bit_ne (Config.testWord c) (c / 4)
  have below : c % 4 < 4 := Nat.mod_lt _ (by decide)
  unfold testWords testExpected
  dsimp only
  generalize Config.testWord c ^^^ BitVec.ofNat 72 (2 ^ (c / 4 % 72)) = x at differ
  generalize Config.testWord c = w at differ
  interval_cases c % 4
  · simp [testVerdict]
  · simp [testVerdict, differ]
  · simp [testVerdict, differ, differ.symm]
  · simp [testVerdict, differ.symm]

/-! ### The beat, whatever the memories hold -/

theorem Dev.tidy_beat (d : Dev) : d.Tidy (fun _ => False) d.time.beat := ⟨nofun, nofun, rfl⟩

/-- A bell whose work is still due is done before the boundary. -/
def Dev.bellDone (d : Dev) : Dev := if d.time.bellDue then bellWork d [] else d
theorem Dev.bellDone_tidy (d : Dev) :
    ∃ b : Beat, d.bellDone.Tidy (fun _ => False) b ∧ b.nextFc = d.time.nextFc ∧ b.fcIdx = d.time.fcIdx ∧
      b.cycle = d.time.cycle + (if d.time.bellDue = true then 1 else 0) := by
  unfold Dev.bellDone
  split
  · exact ⟨_, d.tidy_beat.bellWork [], rfl, rfl, rfl⟩
  · exact ⟨_, d.tidy_beat, rfl, rfl, (BitVec.add_zero _).symm⟩
theorem boundaryWork_seen (d : Dev) (l : List TestRead) (n j : Nat) : (boundaryWork d l n j).pair.seen = false := rfl
theorem toBoundary_seen (d : Dev) (l : List TestRead) : (toBoundary d l).pair.seen = false := boundaryWork_seen ..
/-- While the hub is up the window's snapshot shows the counters. -/
def Dev.Snapped (d : Dev) : Prop := d.hubUp = true → d.host.snap = d.host.cnt
theorem Dev.snapped (d : Dev) : (if d.hubUp then d.onHost (fun h => { h with snap := h.cnt }) else d).Snapped := by
  split
  · exact fun _ => rfl
  · next lost => exact fun up => absurd up lost
theorem bellWork_snapped (d : Dev) (l : List Lane) : (bellWork d l).Snapped := by
  unfold bellWork
  extract_lets +onlyGivenNames -underBinder g d1 d2 d3 d4 d5 d6 d7
  clear_value d7
  exact d7.snapped
theorem firstBell_snapped (d : Dev) : (firstBell d).Snapped := by
  unfold firstBell
  extract_lets +onlyGivenNames -underBinder d1 g d2 d3 d4
  clear_value d4
  exact d4.snapped
theorem toBell_due {d : Dev} (due : d.time.bellDue = true) (n : Nat) : toBell (n + 1) d = d := if_pos due

section
variable {s : State} {l : List TestRead} {par : List Lane}

theorem fastCycleBoundary_idle (idle : s.dev.time.run = false ∨ s.dev.time.belled = false) : exec (.fastCycleBoundary l) s = .next s :=
  
  next_of_dev (e := s.dev) (if_pos (by rcases idle with h | h <;> simp [h]))
theorem fastCycleBoundary_runs (run : s.dev.time.run = true) (belled : s.dev.time.belled = true) :
    exec (.fastCycleBoundary l) s = .next { s with dev := toBoundary s.dev.bellDone l } := next_of_dev (if_neg (by simp [run, belled]))
/-- FAST_CYCLE_BOUNDARY counts the boundaries up to the next bell. -/
theorem fastCycleBoundary_counts (run : s.dev.time.run = true) (belled : s.dev.time.belled = true) :
    Does (.fastCycleBoundary l) s (fun d =>
      d.time.nextFc = BitVec.ofNat 64 (s.dev.time.nextFc.toNat + d.tf) ∧ d.time.fcIdx = (s.dev.time.fcIdx + 1) % max 1 d.k ∧
      d.time.bellDue = (s.dev.time.fcIdx == 0) ∧ d.time.cycle = s.dev.time.cycle + (if s.dev.time.bellDue = true then 1 else 0) ∧ d.pair.seen = false) := by
  refine does_of_dev (fastCycleBoundary_runs run belled) ?_
  obtain ⟨b, done, next, idx, cycle⟩ := s.dev.bellDone_tidy
  obtain ⟨-, -, beat⟩ := done.toBoundary l
  obtain ⟨hnext, hidx, hdue, -, hcycle, -⟩ := Beat.mk.inj beat
  rw [← next, ← idx, ← cycle]
  exact ⟨hnext, hidx, hdue, hcycle, toBoundary_seen ..⟩

theorem bell_idle (idle : s.dev.time.run = false) : exec (.bell par) s = .next s := next_of_dev (e := s.dev) (if_pos (by simp [idle]))
theorem bell_first (run : s.dev.time.run = true) (belled : s.dev.time.belled = false) : exec (.bell par) s = .next { s with dev := firstBell s.dev } :=
  next_of_dev ((if_neg (by simp [run])).trans (if_pos (by simp [belled])))
theorem bell_next (run : s.dev.time.run = true) (belled : s.dev.time.belled = true) :
    exec (.bell par) s = .next { s with dev := bellWork (toBell (s.dev.k + 1) s.dev) par } :=
  next_of_dev ((if_neg (by simp [run])).trans (if_neg (by simp [belled])))
theorem bell_first_sets (run : s.dev.time.run = true) (belled : s.dev.time.belled = false) :
    Does (.bell par) s (fun d => d.time.belled = true ∧ d.time.nextFc = BitVec.ofNat 64 (s.dev.time.nextFc.toNat + d.tf) ∧ d.time.fcIdx = 1 % max 1 d.k ∧
      (d.hubUp = true → d.host.snap = d.host.cnt)) := by
  refine does_of_dev (bell_first run belled) ?_
  obtain ⟨-, -, beat⟩ := s.dev.tidy_beat.firstBell
  obtain ⟨hnext, hidx, -, -, -, hbelled⟩ := Beat.mk.inj beat
  exact ⟨hbelled, hnext, hidx, firstBell_snapped _⟩
theorem bell_opens (run : s.dev.time.run = true) (belled : s.dev.time.belled = true) :
    Does (.bell par) s (fun d => d.time.cycle = s.dev.time.cycle + 1 ∧ d.time.bellDue = false ∧
      (s.dev.time.bellDue = true → d.time.bellGt = BitVec.ofNat 64 (s.dev.time.nextFc.toNat - s.dev.tf) ∧ d.time.nextFc = s.dev.time.nextFc ∧
        d.time.fcIdx = s.dev.time.fcIdx) ∧
      (∀ l : Lane, (d.lane l).seq.ptr = 0) ∧ (d.hubUp = true → d.host.snap = d.host.cnt)) := by
  refine does_of_dev (bell_next run belled) ?_
  obtain ⟨b, reached, cycle, -⟩ := s.dev.tidy_beat.toBell (s.dev.k + 1)
  obtain ⟨-, -, beat⟩ := reached.bellWork par
  obtain ⟨-, -, hdue, -, hcycle, -⟩ := Beat.mk.inj beat
  refine ⟨hcycle.trans (congrArg (· + 1) cycle), hdue, fun due => ?_, (bellWork_atStart ..).ptr, bellWork_snapped _ _⟩
  rw [toBell_due due]
  obtain ⟨-, -, beat⟩ := s.dev.tidy_beat.bellWork par
  obtain ⟨hnext, hidx, -, hgt, -⟩ := Beat.mk.inj beat
  exact ⟨hgt, hnext, hidx⟩

end

end Sys2Proof.Machine

namespace Sys2Proof
open Machine

/-- Settles O59: the counts of a boundary and of a bell are what these set in the beat, which all their other work leaves; the clauses about a field, an
overtaken entry and the test words are those of `swapField`, `overrun` and `testVerdict`. -/
theorem boundaryAndBell : Obligations.BoundaryAndBell := by
  unfold Obligations.BoundaryAndBell
  intro s
  dsimp only
  refine ⟨fun reads => ⟨fastCycleBoundary_idle, fastCycleBoundary_counts⟩, fun par => ⟨bell_idle, bell_first_sets, bell_opens⟩,
    fun q g bell b c => ⟨fun e => swapField_of_due, fun v => swapField_of_staged, swapField_of_waiting, ttReady_members⟩,
    fun l g m run mode runs left => ?_, fun l => overrun_of_done, testVerdict_testWords⟩
  rw [overrun_of_left run mode runs left]
  refine ⟨?_, ?_, ?_, fun k other => Dev.takeOut_lane_ne _ _ _ _ _ _ other⟩ <;> rw [Dev.takeOut_lane _ _ _ _ _ runs] <;> rfl

end Sys2Proof
end

section
/-! SUPPORT. What the service frames of a pair leave alone (R328 to R331), and the roles that heartbeats lead to (R332 to R334, R336, R342, R343). -/

namespace Sys2Proof.Machine
open Sys2Proof

/-! ### Sending -/

/-- Sending changes what waits and what has gone out, and nothing else of the pair. -/
def PairSt.Ports (p p' : PairSt) : Prop :=
  p' = { p with svcq := p'.svcq, svcFree := p'.svcFree, svcSeq := p'.svcSeq, svcSent := p'.svcSent, roleCyc := p'.roleCyc, castOut := p'.castOut }
theorem PairSt.Ports.trans {p p' p'' : PairSt} (h : p.Ports p') (h' : p'.Ports p'') : p.Ports p'' := by
  unfold PairSt.Ports at h h' ⊢
  rw [h'] at ⊢
  rw [h]
theorem svcLoop_ports (n lim : Nat) (d : Dev) : d.pair.Ports (svcLoop n lim d).pair := by
  induction n generalizing d with
  | zero => exact rfl
  | succ n ih =>
    unfold svcLoop
    split
    · next t e b _ =>
      split
      · refine PairSt.Ports.trans ?_ (ih _)
        cases e <;> exact rfl
      · exact rfl
    · exact rfl
theorem Dev.svcGo_ports (d : Dev) (lim : Nat) : ∃ p : PairSt, d.svcGo lim = { d with pair := p } ∧ d.pair.Ports p := by
  obtain ⟨p, is⟩ := d.svcGo_pair lim
  have ports : d.pair.Ports (d.svcGo lim).pair := by
    unfold Dev.svcGo
    split
    · exact svcLoop_ports ..
    · exact rfl
  rw [is] at ports
  exact ⟨p, is, ports⟩
theorem Dev.handSvc_ports (d : Dev) (b : SvcBody) : ∃ p : PairSt, d.handSvc b = { d with pair := p } ∧ d.pair.Ports p := by
  obtain ⟨p, is, ports⟩ := (d.onPair (fun p => { p with svcq := p.svcq ++ [(d.gt, b)] })).svcGo_ports (d.gt + 1)
  exact ⟨p, is, PairSt.Ports.trans (p' := { d.pair with svcq := d.pair.svcq ++ [(d.gt, b)] }) rfl ports⟩

/-- A role step keeps the partner's heartbeat, the role and EPOCH, and all outside the pair but counters and jobs. -/
structure Dev.PairKeeps (d e : Dev) : Prop where
  time : e.time = d.time
  lanes : e.lanes = d.lanes
  vot : e.vot = d.vot
  gd : e.gd = d.gd
  edge : e.edge = d.edge
  net : e.net = d.net
  can : e.can = d.can
  safe : e.safe = d.safe
  boot : e.boot = d.boot
  partner : e.pair.partner = d.pair.partner
  seen : e.pair.seen = d.pair.seen
  role : e.pair.role = d.pair.role
  svcRx : e.pair.svcRx = d.pair.svcRx
  lastHb : e.pair.lastHb = d.pair.lastHb
  epoch : e.pair.epoch = d.pair.epoch
  up0 : e.pair.up0 = d.pair.up0
  up1 : e.pair.up1 = d.pair.up1

namespace Dev.PairKeeps
variable {d e f : Dev}

theorem refl (d : Dev) : d.PairKeeps d := ⟨rfl, rfl, rfl, rfl, rfl, rfl, rfl, rfl, rfl, rfl, rfl, rfl, rfl, rfl, rfl, rfl, rfl⟩
theorem trans (h : d.PairKeeps e) (h' : e.PairKeeps f) : d.PairKeeps f where
  time := h'.time.trans h.time
  lanes := h'.lanes.trans h.lanes
  vot := h'.vot.trans h.vot
  gd := h'.gd.trans h.gd
  edge := h'.edge.trans h.edge
  net := h'.net.trans h.net
  can := h'.can.trans h.can
  safe := h'.safe.trans h.safe
  boot := h'.boot.trans h.boot
  partner := h'.partner.trans h.partner
  seen := h'.seen.trans h.seen
  role := h'.role.trans h.role
  svcRx := h'.svcRx.trans h.svcRx
  lastHb := h'.lastHb.trans h.lastHb
  epoch := h'.epoch.trans h.epoch
  up0 := h'.up0.trans h.up0
  up1 := h'.up1.trans h.up1
theorem count (d : Dev) (a n : Nat) : d.PairKeeps (d.count a n) := ⟨rfl, rfl, rfl, rfl, rfl, rfl, rfl, rfl, rfl, rfl, rfl, rfl, rfl, rfl, rfl, rfl, rfl⟩
theorem dual (d : Dev) : d.PairKeeps (d.onPair (fun p => { p with dual := true })) := ⟨rfl, rfl, rfl, rfl, rfl, rfl, rfl, rfl, rfl, rfl, rfl, rfl, rfl, rfl, rfl, rfl, rfl⟩
theorem roleAt (d : Dev) (r : Role) (n : Nat) : d.PairKeeps (d.roleAt r n) := ⟨rfl, rfl, rfl, rfl, rfl, rfl, rfl, rfl, rfl, rfl, rfl, rfl, rfl, rfl, rfl, rfl, rfl⟩
theorem roleNext (d : Dev) (r : Role) : d.PairKeeps (d.roleNext r) := roleAt ..

end Dev.PairKeeps

/-- A ROLE frame goes to the ports. -/
theorem Dev.sendRole_eq (d : Dev) (op kind : Nat) (c : BitVec 32) :
    d.PairKeeps (d.sendRole op kind c) ∧ (d.sendRole op kind c).pair.next = d.pair.next ∧ (d.sendRole op kind c).pair.sentRole = some (op, kind, c) ∧
      (d.sendRole op kind c).pair.dual = d.pair.dual := by
  obtain ⟨p, is, ports⟩ := (d.onPair (fun p => { p with sentRole := some (op, kind, c) })).handSvc_ports (.role op kind d.pair.epoch c d.img.digest)
  have sent : d.sendRole op kind c = { d with pair := p } := is
  rw [sent]
  exact ⟨⟨rfl, rfl, rfl, rfl, rfl, rfl, rfl, rfl, rfl, congrArg (·.partner) ports, congrArg (·.seen) ports, congrArg (·.role) ports,
    congrArg (·.svcRx) ports, congrArg (·.lastHb) ports, congrArg (·.epoch) ports, congrArg (·.up0) ports, congrArg (·.up1) ports⟩,
    congrArg (·.next) ports, congrArg (·.sentRole) ports, congrArg (·.dual) ports⟩
theorem Dev.askCast_eq (d : Dev) :
    d.PairKeeps d.askCast ∧ d.askCast.pair.next = some (.casting, BitVec.ofNat 64 d.nextFc) ∧ d.askCast.pair.sentRole = some (4, 0, 0) ∧
      d.askCast.pair.dual = d.pair.dual := by
  obtain ⟨keeps, next, sent, dual⟩ := (d.roleNext .casting).sendRole_eq 4 0 0
  exact ⟨(Dev.PairKeeps.roleNext d _).trans keeps, next, sent, dual⟩
theorem Dev.dropSwap_eq (d : Dev) : d.PairKeeps d.dropSwap ∧ d.dropSwap.pair.next = d.pair.next ∧ d.dropSwap.pair.dual = d.pair.dual ∧
    d.dropSwap.pair.sentHb = d.pair.sentHb ∧ d.dropSwap.pair.svcSent = d.pair.svcSent := by
  unfold Dev.dropSwap
  split
  · exact ⟨.refl d, rfl, rfl, rfl, rfl⟩
  · next j _ =>
    generalize (d.pair.role == .active) = a
    cases a <;> cases j <;> exact ⟨⟨rfl, rfl, rfl, rfl, rfl, rfl, rfl, rfl, rfl, rfl, rfl, rfl, rfl, rfl, rfl, rfl, rfl⟩, rfl, rfl, rfl, rfl⟩

/-! ### What the partner's heartbeat leads to (Table 18-5) -/

section
variable {d : Dev} {h : Heartbeat} {img : ImgMatch}

theorem heartbeatRole_keeps (d : Dev) (h : Heartbeat) (img : ImgMatch) : d.PairKeeps (heartbeatRole d h img) := by
  have handedOver : ∀ n, d.PairKeeps (d.dropSwap.roleAt .active n) := fun n => d.dropSwap_eq.1.trans (.roleAt ..)
  unfold heartbeatRole
  split
  · split
    · split
      · exact (Dev.PairKeeps.count d _ _).trans (Dev.sendRole_eq _ _ _ _).1
      · exact d.askCast_eq.1
    · split
      · exact .roleNext ..
      · exact .refl d
  · split
    · have counted : d.PairKeeps ((d.count (cNet 8) 1).onPair (fun p => { p with dual := true })) := (Dev.PairKeeps.count d _ _).trans (.dual _)
      dsimp only
      split
      · exact counted.trans ((Dev.dropSwap_eq _).1.trans (Dev.askCast_eq _).1)
      · exact counted
    · exact .refl d
  · split
    · exact handedOver _
    · exact .refl d
  · split
    · exact handedOver _
    · exact .refl d
  · exact .refl d

theorem heartbeatRole_asks (init : d.pair.hubRole = .init) (active : h.state = 1) (known : img ≠ .other) : heartbeatRole d h img = d.askCast := by
  simp [heartbeatRole, init, active, known]
theorem heartbeatRole_refuses (init : d.pair.hubRole = .init) (active : h.state = 1) (other : img = .other) :
    heartbeatRole d h img = (d.count (cNet 7) 1).sendRole 4 0 0 := by
  simp [heartbeatRole, init, active, other]
theorem heartbeatRole_leads (init : d.pair.hubRole = .init) (both : h.state = 0) :
    heartbeatRole d h img = if d.pair.pairId = true then d else d.roleNext .active := by
  cases side : d.pair.pairId <;> simp [heartbeatRole, init, both, side]
/-- Of two ACTIVE devices the one with the lower EPOCH, or with PAIR_ID 1 at the same one, steps down (R343). -/
def PairSt.outranked (p : PairSt) (h : Heartbeat) : Bool := decide (p.epoch.toNat < h.epoch.toNat) || (h.epoch == p.epoch && p.pairId)
theorem PairSt.outranked_of {p : PairSt} (above : p.epoch.toNat < h.epoch.toNat ∨ (h.epoch = p.epoch ∧ p.pairId = true)) : p.outranked h = true := by
  rcases above with more | ⟨same, side⟩
  · simp [PairSt.outranked, more]
  · simp [PairSt.outranked, same, side]
theorem PairSt.outranked_of_not {p : PairSt} (below : h.epoch.toNat < p.epoch.toNat ∨ (h.epoch = p.epoch ∧ p.pairId = false)) : p.outranked h = false := by
  rcases below with less | ⟨same, side⟩
  · have differ : h.epoch ≠ p.epoch := fun is => Nat.lt_irrefl _ (is ▸ less)
    simp [PairSt.outranked, Nat.le_of_lt less, differ]
  · simp [PairSt.outranked, same, side]
theorem heartbeatRole_dual (lead : d.pair.hubRole = .active) (active : h.state = 1) :
    (heartbeatRole d h img).pair.dual = true ∧
      (heartbeatRole d h img).pair.next = if d.pair.outranked h then some (.casting, BitVec.ofNat 64 d.nextFc) else d.pair.next := by
  have is : heartbeatRole d h img =
      if d.pair.outranked h then ((d.count (cNet 8) 1).onPair (fun p => { p with dual := true })).dropSwap.askCast
      else (d.count (cNet 8) 1).onPair (fun p => { p with dual := true }) := by
    unfold heartbeatRole
    rw [lead]
    exact if_pos active
  rw [is]
  split
  · obtain ⟨-, next, -, dual⟩ := ((d.count (cNet 8) 1).onPair (fun p => { p with dual := true })).dropSwap.askCast_eq
    obtain ⟨keeps, -, kept, -⟩ := ((d.count (cNet 8) 1).onPair (fun p => { p with dual := true })).dropSwap_eq
    exact ⟨dual.trans kept, next.trans (congrArg (fun t : TimeSt => some (Role.casting, BitVec.ofNat 64 t.nextFc.toNat)) keeps.time)⟩
  · exact ⟨rfl, rfl⟩
theorem heartbeatRole_handover (standby : d.pair.hubRole = .inStep ∨ d.pair.hubRole = .detached) (active : h.state = 1) (over_ : h.handover = true) :
    (heartbeatRole d h img).pair.next = some (.active, BitVec.ofNat 64 (h.fcGt.toNat + 2 * d.tf)) := by
  have is : heartbeatRole d h img = d.dropSwap.roleAt .active (h.fcGt.toNat + 2 * d.dropSwap.tf) ∨
      heartbeatRole d h img = d.dropSwap.roleAt .active (h.fcGt.toNat + 2 * d.tf) := by
    rcases standby with r | r <;> simp [heartbeatRole, r, active, over_]
  have tf : d.dropSwap.tf = d.tf := congrArg (fun b : BootSt => (b.running.map Img.tf).getD 16000) d.dropSwap_eq.1.boot
  rcases is with is | is <;> rw [is]
  · rw [tf]; rfl
  · rfl

end

/-! ### HEARTBEAT, received and sent -/

section
variable {s : State}

/-- What a heartbeat writes before any role changes (R336, R343). -/
def Dev.heard (d : Dev) (n : SvcIn) (h : Heartbeat) (img : ImgMatch) : Dev :=
  (d.svcSeen 1 n.seq).onPair (fun p => { p with
    partner := some h, seen := true
    update := if h.state == 1 then img == .state else p.update
    lastHb := if h.state == 1 then d.clk else p.lastHb
    epoch := if h.state == 1 && p.hubRole != .active then h.epoch else p.epoch
    seenTc := if h.tc then some (p.seenTc.getD h.fcGt.toNat) else none })
theorem pairHeartbeatReceived_runs {n : SvcIn} {h : Heartbeat} {img : ImgMatch} (up : s.dev.pairUp = true) (valid : n.ok = true)
    (new : s.dev.pair.svcRx.getD 0 none ≠ some n.seq) :
    exec (.pairHeartbeatReceived n h img) s = .next { s with dev := heartbeatRole (s.dev.heard n h img) h img } :=
  next_of_dev (Dev.svcIn_counts (type := 1) up valid new _)
theorem svcIn_skips {d : Dev} {n : SvcIn} {type : Nat} (skips : ¬ (d.pairUp = true ∧ n.ok = true ∧ d.pair.svcRx.getD (type - 1) none ≠ some n.seq)) (f : Dev → Dev) :
    d.svcIn type n f = d := by
  refine Dev.svcIn_idle ?_ f
  by_cases up : d.pairUp = true
  · by_cases ok : n.ok = true
    · exact .inr (.inr (not_not.mp fun new => skips ⟨up, ok, new⟩))
    · exact .inr (.inl (Bool.eq_false_iff.mpr ok))
  · exact .inl (Bool.eq_false_iff.mpr up)

/-- The frame that PAIR_HEARTBEAT_SEND sends in hub role r for the boundary at GT b, and the device that has sent it. -/
def Dev.heartbeat (d : Dev) (r : Role) (b : Nat) (x : BitVec 64) : Heartbeat :=
  { state := r.code, tc := tcRole r, ready := d.ready, full := d.full,
    handover := r == .active && !d.full && d.partnerIs .inStep && d.partnerFull && d.pair.handover.isNone, pairId := d.pair.pairId,
    live := laneMask d.liveLanes, epoch := d.pair.epoch, fcGt := BitVec.ofNat 64 b, digest := x }
def Dev.heartbeatSent (d : Dev) (r : Role) (b : Nat) (h : Heartbeat) : Dev :=
  (d.sendSvc d.gt (.heartbeat h)).onPair (fun p => { p with sentHb := some h, tcAt := if tcRole r then some (p.tcAt.getD b) else none })
def Dev.handingOver (d : Dev) (b : Nat) : Dev :=
  (d.dropSwap.roleAt .inStep (b + 2 * d.tf)).onPair (fun p => { p with handover := some (BitVec.ofNat 64 (b + 2 * d.tf)) })
/-- The device at B + 2 µs, with what was to go out before. -/
def Dev.atSend (d : Dev) (b : Nat) : Dev := (d.toGt (b + 1280)).svcGo (b + 1280)
def Dev.heartbeatGoes (d : Dev) (r : Role) (b : Nat) (h : Heartbeat) : Dev :=
  if h.handover then (d.heartbeatSent r b h).handingOver b else d.heartbeatSent r b h

def Dev.heartbeatOut (d : Dev) (x : BitVec 64) : Dev :=
  (d.atSend d.fcStart).heartbeatGoes d.pair.hubRole d.fcStart ((d.atSend d.fcStart).heartbeat d.pair.hubRole d.fcStart x)

theorem pairHeartbeatSend_runs {x : BitVec 64} (up : s.dev.pairUp = true)
    (dig : (if s.dev.pair.hubRole == .casting then some 0 else s.dev.ownFor s.dev.fcStart) = some x) :
    exec .pairHeartbeatSend s = .next { s with dev := s.dev.heartbeatOut x } := by
  show execPairHeartbeatSend s = _
  unfold execPairHeartbeatSend State.onDev
  refine next_of_dev ?_
  dsimp only
  unfold Dev.ownFor at dig
  rw [dig]
  exact if_neg (by rw [up]; nofun)
theorem Dev.atSend_keeps (d : Dev) (b : Nat) :
    ∃ p : PairSt, d.atSend b = { d.toGt (b + 1280) with pair := p } ∧ d.pair.Ports p := (d.toGt (b + 1280)).svcGo_ports (b + 1280)
/-- What the sent heartbeat leaves. -/
theorem Dev.heartbeatGoes_eq (d : Dev) (r : Role) (b : Nat) (h : Heartbeat) :
    d.PairKeeps (d.heartbeatGoes r b h) ∧ (d.heartbeatGoes r b h).pair.sentHb = some h ∧ (∃ f ∈ (d.heartbeatGoes r b h).pair.svcSent, f.body = .heartbeat h) ∧
      (h.handover = true → (d.heartbeatGoes r b h).pair.next = some (.inStep, BitVec.ofNat 64 (b + 2 * d.tf))) := by
  have keeps : d.PairKeeps (d.heartbeatSent r b h) := ⟨rfl, rfl, rfl, rfl, rfl, rfl, rfl, rfl, rfl, rfl, rfl, rfl, rfl, rfl, rfl, rfl, rfl⟩
  have sent : ∃ f ∈ (d.heartbeatSent r b h).pair.svcSent, f.body = .heartbeat h := ⟨_, List.mem_append_right _ (List.mem_singleton_self _), rfl⟩
  have shown : (d.heartbeatSent r b h).pair.sentHb = some h := rfl
  have tf : (d.heartbeatSent r b h).tf = d.tf := rfl
  unfold Dev.heartbeatGoes
  generalize d.heartbeatSent r b h = e at keeps sent shown tf
  split
  · obtain ⟨dropped, -, -, hb, svc⟩ := e.dropSwap_eq
    refine ⟨keeps.trans (dropped.trans ⟨rfl, rfl, rfl, rfl, rfl, rfl, rfl, rfl, rfl, rfl, rfl, rfl, rfl, rfl, rfl, rfl, rfl⟩), hb.trans shown, ?_, fun _ => ?_⟩
    · obtain ⟨f, here, is⟩ := sent
      exact ⟨f, svc.symm ▸ here, is⟩
    · rw [← tf]
      rfl
  · next not => exact ⟨keeps, shown, sent, fun is => absurd is not⟩

/-- The parts that no heartbeat touches. -/
structure Dev.PairFrame (d e : Dev) : Prop where
  lanes : e.lanes = d.lanes
  vot : e.vot = d.vot
  gd : e.gd = d.gd
  edge : e.edge = d.edge
  net : e.net = d.net
  can : e.can = d.can
  safe : e.safe = d.safe
  boot : e.boot = d.boot
theorem Dev.PairKeeps.frame {d e : Dev} (h : d.PairKeeps e) : d.PairFrame e := ⟨h.lanes, h.vot, h.gd, h.edge, h.net, h.can, h.safe, h.boot⟩
theorem Dev.PairFrame.trans {d e f : Dev} (h : d.PairFrame e) (h' : e.PairFrame f) : d.PairFrame f :=
  ⟨h'.lanes.trans h.lanes, h'.vot.trans h.vot, h'.gd.trans h.gd, h'.edge.trans h.edge, h'.net.trans h.net, h'.can.trans h.can, h'.safe.trans h.safe,
    h'.boot.trans h.boot⟩
theorem Dev.PairFrame.all {d e : Dev} (h : d.PairFrame e) : e.lanes = d.lanes ∧ e.vot = d.vot ∧ e.gd = d.gd ∧ e.edge = d.edge ∧ e.net = d.net ∧
    e.can = d.can ∧ e.safe = d.safe ∧ e.boot = d.boot := ⟨h.lanes, h.vot, h.gd, h.edge, h.net, h.can, h.safe, h.boot⟩

/-- What HEARTBEAT says, and that it leaves the role. -/
theorem Dev.heartbeatOut_says (d : Dev) (x : BitVec 64) : ∃ h : Heartbeat, (d.heartbeatOut x).pair.sentHb = some h ∧
    (h.state = d.pair.hubRole.code ∧ h.tc = tcRole d.pair.hubRole ∧ h.pairId = d.pair.pairId ∧ h.epoch = d.pair.epoch ∧ h.fcGt = BitVec.ofNat 64 d.fcStart ∧
      h.digest = x ∧ h.live = laneMask d.liveLanes) ∧
    (∃ f ∈ (d.heartbeatOut x).pair.svcSent, f.body = .heartbeat h) ∧
    (h.handover = true → d.pair.hubRole = .active ∧ (d.heartbeatOut x).pair.next = some (.inStep, BitVec.ofNat 64 (d.fcStart + 2 * d.tf))) ∧
    (d.heartbeatOut x).pair.role = d.pair.role ∧ d.PairFrame (d.heartbeatOut x) := by
  obtain ⟨p, is, ports⟩ := d.atSend_keeps d.fcStart
  have role : (d.atSend d.fcStart).pair.role = d.pair.role := by rw [is]; exact congrArg (·.role) ports
  have pairId : (d.atSend d.fcStart).pair.pairId = d.pair.pairId := by rw [is]; exact congrArg (·.pairId) ports
  have epoch : (d.atSend d.fcStart).pair.epoch = d.pair.epoch := by rw [is]; exact congrArg (·.epoch) ports
  have frame : d.PairFrame (d.atSend d.fcStart) := by rw [is]; exact ⟨rfl, rfl, rfl, rfl, rfl, rfl, rfl, rfl⟩
  have live : (d.atSend d.fcStart).liveLanes = d.liveLanes := congrArg (fun t : Tri LaneSt => lanesAll.filter (fun l => (t.get l).seq.phase == .live)) frame.lanes
  have tf : (d.atSend d.fcStart).tf = d.tf := congrArg (fun b : BootSt => (b.running.map Img.tf).getD 16000) frame.boot
  unfold Dev.heartbeatOut
  generalize d.atSend d.fcStart = e at role pairId epoch frame live tf
  obtain ⟨keeps, sent, queued, next⟩ := e.heartbeatGoes_eq d.pair.hubRole d.fcStart (e.heartbeat d.pair.hubRole d.fcStart x)
  refine ⟨_, sent, ⟨rfl, rfl, pairId, epoch, rfl, rfl, congrArg laneMask live⟩, queued, fun over_ => ⟨?_, tf ▸ next over_⟩, keeps.role.trans role, frame.trans keeps.frame⟩
  have active := over_
  simp only [Dev.heartbeat, Bool.and_eq_true, beq_iff_eq] at active
  exact active.1.1.1.1

/-- No frame before its digest is released. -/
theorem pairHeartbeatSend_waits (role : s.dev.pair.hubRole ≠ .casting) (none_ : s.dev.ownFor s.dev.fcStart = none) : exec .pairHeartbeatSend s = .next s := by
  have dig : (if s.dev.pair.hubRole == .casting then some 0 else s.dev.ownFor s.dev.fcStart) = none := (if_neg (by simpa using role)).trans none_
  show execPairHeartbeatSend s = _
  unfold execPairHeartbeatSend State.onDev
  refine next_of_dev (e := s.dev) ?_
  dsimp only
  unfold Dev.ownFor at dig
  rw [dig]

/-! ### Time-outs and the link -/

theorem Dev.toClk_nextFc (d : Dev) (n : Nat) : (d.toClk n).nextFc = d.nextFc := congrArg (fun b : Beat => b.nextFc.toNat) (d.time.toClk_beat n)
theorem initPartnerTimeout_does (paired : s.dev.paired = true) (released : s.dev.boot.released = true) (role : s.dev.pair.hubRole = .init) (alone : s.dev.pair.partner = none) :
    Does .initPartnerTimeout s (fun d => d.pair = { s.dev.pair with next := some (.active, BitVec.ofNat 64 s.dev.nextFc) } ∧
      s.dev.pair.relClk + (if s.dev.pair.pairId then 6 else 4) * s.dev.tn ≤ d.clk ∧ s.dev.PairFrame d) := by
  have meaning : exec .initPartnerTimeout s = .next { s with
      dev := (s.dev.toClk (s.dev.pair.relClk + (if s.dev.pair.pairId then 6 else 4) * s.dev.tn)).roleNext .active } :=
    next_of_dev (if_pos (by simp [paired, released, role, alone]))
  refine does_of_dev meaning ⟨?_, ?_, ⟨rfl, rfl, rfl, rfl, rfl, rfl, rfl, rfl⟩⟩
  · show ({ s.dev.pair with next := some (.active, BitVec.ofNat 64 (s.dev.toClk _).nextFc) } : PairSt) = _
    rw [Dev.toClk_nextFc]
  · show _ ≤ (s.dev.toClk _).clk
    rw [Dev.toClk_clk]
    exact le_max_right ..
theorem initPartnerTimeout_idle (idle : s.dev.pair.hubRole ≠ .init ∨ s.dev.pair.partner ≠ none) : exec .initPartnerTimeout s = .next s := by
  refine next_of_dev (e := s.dev) (if_neg ?_)
  rcases idle with role | heard
  · simp [role]
  · simp [heard]
theorem castingTimeout_does (paired : s.dev.paired = true) (role : s.dev.pair.hubRole = .casting) :
    Does .castingTimeout s (fun d => d.pair = { s.dev.pair with next := some (.init, BitVec.ofNat 64 s.dev.nextFc), castIn := [], partner := none } ∧
      s.dev.pair.lastHb + 2 * s.dev.tn ≤ d.clk ∧ s.dev.PairFrame d) := by
  have meaning : exec .castingTimeout s = .next { s with
      dev := ((s.dev.toClk (s.dev.pair.lastHb + 2 * s.dev.tn)).roleNext .init).onPair (fun p => { p with castIn := [], partner := none }) } :=
    next_of_dev (if_pos (by simp [paired, role]))
  refine does_of_dev meaning ⟨?_, ?_, ⟨rfl, rfl, rfl, rfl, rfl, rfl, rfl, rfl⟩⟩
  · show ({ s.dev.pair with next := some (.init, BitVec.ofNat 64 (s.dev.toClk _).nextFc), castIn := [], partner := none } : PairSt) = _
    rw [Dev.toClk_nextFc]
  · show _ ≤ (s.dev.toClk _).clk
    rw [Dev.toClk_clk]
    exact le_max_right ..
theorem castingTimeout_idle (role : s.dev.pair.hubRole ≠ .casting) : exec .castingTimeout s = .next s := next_of_dev (e := s.dev) (if_neg (by simp [role]))
theorem detach_does (paired : s.dev.paired = true) (role : s.dev.pair.hubRole = .inStep) :
    Does .detach s (fun d => d.pair = { s.dev.pair with next := some (.detached, BitVec.ofNat 64 s.dev.nextFc), noDig := max 2 s.dev.pair.noDig } ∧ s.dev.PairFrame d) := by
  have meaning : exec .detach s = .next { s with dev := (s.dev.roleNext .detached).onPair (fun p => { p with noDig := max 2 p.noDig }) } :=
    next_of_dev (if_pos (by simp [paired, role]))
  exact does_of_dev meaning ⟨rfl, ⟨rfl, rfl, rfl, rfl, rfl, rfl, rfl, rfl⟩⟩
theorem detach_idle (role : s.dev.pair.hubRole ≠ .inStep) : exec .detach s = .next s := next_of_dev (e := s.dev) (if_neg (by simp [role]))

/-- A pair port whose link is up again. -/
def Dev.linkUp (d : Dev) (port1 : Bool) : Dev :=
  (d.onTime (fun t => { t with serdesBad := false })).onPair (fun p => if port1 then { p with up1 := true } else { p with up0 := true })
theorem Dev.linkUp_eq (d : Dev) (port1 : Bool) : (if port1 then (d.linkUp port1).pair.up1 else (d.linkUp port1).pair.up0) = true ∧
    (d.linkUp port1).time = { d.time with serdesBad := false } ∧ d.PairFrame (d.linkUp port1) ∧ (d.linkUp port1).pair.hubRole = d.pair.hubRole ∧
      (d.linkUp port1).pair.update = d.pair.update ∧ (d.linkUp port1).pair.next = d.pair.next ∧ (d.linkUp port1).pair.sentRole = d.pair.sentRole := by
  cases port1 <;> exact ⟨rfl, rfl, ⟨rfl, rfl, rfl, rfl, rfl, rfl, rfl, rfl⟩, rfl, rfl, rfl, rfl⟩
/-- A detached device whose link is back asks for a full cast. -/
def Dev.recast (d : Dev) : Dev := if d.paired && d.pair.hubRole == .detached && !d.pair.update then d.askCast else d
theorem pairLinkUp_does (port1 : Bool) (hub : s.dev.hubUp = true) : Does (.pairLinkUp port1) s (fun d => (if port1 then d.pair.up1 else d.pair.up0) = true ∧
    d.time = { s.dev.time with serdesBad := false } ∧ s.dev.PairFrame d ∧
    ((s.dev.paired = true ∧ s.dev.pair.hubRole = .detached ∧ s.dev.pair.update = false) →
      d.pair.next = some (.casting, BitVec.ofNat 64 s.dev.nextFc) ∧ d.pair.sentRole = some (4, 0, 0)) ∧
    ((s.dev.paired = false ∨ s.dev.pair.hubRole ≠ .detached ∨ s.dev.pair.update = true) → d.pair.next = s.dev.pair.next ∧ d.pair.sentRole = s.dev.pair.sentRole)) := by
  have meaning : exec (.pairLinkUp port1) s = .next { s with dev := (s.dev.linkUp port1).recast } := next_of_dev (if_neg (by simp [hub]))
  obtain ⟨up, time, frame, role, update, next, sent⟩ := s.dev.linkUp_eq port1
  have paired : (s.dev.linkUp port1).paired = s.dev.paired := by cases port1 <;> rfl
  have later : (s.dev.linkUp port1).nextFc = s.dev.nextFc := by cases port1 <;> rfl
  generalize s.dev.linkUp port1 = e at meaning up time frame role update next sent paired later
  rw [Dev.recast, paired, role, update] at meaning
  split at meaning
  · next asks =>
    simp only [Bool.and_eq_true, beq_iff_eq, Bool.not_eq_true'] at asks
    obtain ⟨⟨isPaired, isDetached⟩, full⟩ := asks
    obtain ⟨keeps, casting, frameSent, -⟩ := e.askCast_eq
    refine does_of_dev meaning ⟨?_, keeps.time.trans time, frame.trans keeps.frame, fun _ => ⟨later ▸ casting, frameSent⟩, fun stays => ?_⟩
    · rw [keeps.up0, keeps.up1]
      exact up
    · rcases stays with not | not | not
      · exact absurd (not.symm.trans isPaired) Bool.false_ne_true
      · exact absurd isDetached not
      · exact absurd (full.symm.trans not) Bool.false_ne_true
  · next stays =>
    refine does_of_dev meaning ⟨up, time, frame, fun ⟨isPaired, isDetached, full⟩ => absurd ?_ stays, fun _ => ⟨next, sent⟩⟩
    simp [isPaired, isDetached, full]

/-! ### A HEARTBEAT taken -/

theorem Dev.svcSeen_hubRole (d : Dev) (type : Nat) (seq : BitVec 16) : (d.svcSeen type seq).pair.hubRole = d.pair.hubRole := rfl

/-- What a heartbeat leads to in each hub role (Tables 18-4, 18-5). -/
theorem heartbeatTaken_next (n : SvcIn) (h : Heartbeat) (img : ImgMatch) (d : Dev) :
    (d.pair.hubRole = .init → h.state = 1 → img ≠ .other →
      (heartbeatRole (d.heard n h img) h img).pair.next = some (.casting, BitVec.ofNat 64 d.nextFc) ∧
        (heartbeatRole (d.heard n h img) h img).pair.sentRole = some (4, 0, 0)) ∧
    (d.pair.hubRole = .init → h.state = 1 → img = .other → (heartbeatRole (d.heard n h img) h img).pair.next = d.pair.next ∧
      (heartbeatRole (d.heard n h img) h img).pair.sentRole = some (4, 0, 0)) ∧
    (d.pair.hubRole = .init → h.state = 0 → (heartbeatRole (d.heard n h img) h img).pair.next =
      if d.pair.pairId then d.pair.next else some (.active, BitVec.ofNat 64 d.nextFc)) ∧
    (d.pair.hubRole = .active → h.state = 1 → (heartbeatRole (d.heard n h img) h img).pair.dual = true ∧
      (heartbeatRole (d.heard n h img) h img).pair.next =
        if d.pair.outranked h then some (.casting, BitVec.ofNat 64 d.nextFc) else d.pair.next) ∧
    ((d.pair.hubRole = .inStep ∨ d.pair.hubRole = .detached) → h.state = 1 → h.handover = true →
      (heartbeatRole (d.heard n h img) h img).pair.next = some (.active, BitVec.ofNat 64 (h.fcGt.toNat + 2 * d.tf))) := by
  have role : (d.heard n h img).pair.hubRole = d.pair.hubRole := rfl
  have next : (d.heard n h img).pair.next = d.pair.next := rfl
  have pairId : (d.heard n h img).pair.pairId = d.pair.pairId := rfl
  have later : (d.heard n h img).nextFc = d.nextFc := rfl
  have tf : (d.heard n h img).tf = d.tf := rfl
  have epoch : d.pair.hubRole = .active → (d.heard n h img).pair.epoch = d.pair.epoch := fun lead => if_neg (by simp [Dev.svcSeen_hubRole, lead])
  generalize d.heard n h img = e at role next pairId later tf epoch
  rw [← role, ← next, ← pairId, ← later, ← tf]
  refine ⟨fun init active known => ?_, fun init active other => ?_, fun init both => ?_, fun lead active => ?_, heartbeatRole_handover⟩
  · rw [heartbeatRole_asks init active known]
    exact ⟨e.askCast_eq.2.1, e.askCast_eq.2.2.1⟩
  · rw [heartbeatRole_refuses init active other]
    obtain ⟨-, kept, sent, -⟩ := (e.count (cNet 7) 1).sendRole_eq 4 0 0
    exact ⟨kept, sent⟩
  · rw [heartbeatRole_leads init both]
    split <;> rfl
  · have same : d.pair.outranked h = e.pair.outranked h := by simp only [PairSt.outranked, epoch (role ▸ lead), pairId]
    rw [same]
    exact heartbeatRole_dual lead active

theorem pairHeartbeatReceived_records (n : SvcIn) (h : Heartbeat) (img : ImgMatch) (d : Dev) (ports : d.pair.svcRx.length = 4) :
    (heartbeatRole (d.heard n h img) h img).pair.partner = some h ∧ (heartbeatRole (d.heard n h img) h img).pair.seen = true ∧
    (heartbeatRole (d.heard n h img) h img).pair.role = d.pair.role ∧ (heartbeatRole (d.heard n h img) h img).pair.svcRx.getD 0 none = some n.seq ∧
    d.PairFrame (heartbeatRole (d.heard n h img) h img) ∧
    (h.state = 1 → (heartbeatRole (d.heard n h img) h img).pair.lastHb = d.clk ∧
      (d.pair.hubRole ≠ .active → (heartbeatRole (d.heard n h img) h img).pair.epoch = h.epoch)) ∧
    (h.state ≠ 1 → (heartbeatRole (d.heard n h img) h img).pair.lastHb = d.pair.lastHb ∧
      (heartbeatRole (d.heard n h img) h img).pair.epoch = d.pair.epoch) := by
  have keeps := heartbeatRole_keeps (d.heard n h img) h img
  have seen : (d.heard n h img).pair.svcRx.getD 0 none = some n.seq := modAt_getD (by omega) _ _
  have frame : d.PairFrame (d.heard n h img) := ⟨rfl, rfl, rfl, rfl, rfl, rfl, rfl, rfl⟩
  refine ⟨keeps.partner, keeps.seen, keeps.role, (congrArg (·.getD 0 none) keeps.svcRx).trans seen, frame.trans keeps.frame,
    fun active => ⟨keeps.lastHb.trans (if_pos (by simp [active])), fun standby => keeps.epoch.trans (if_pos (by simp [Dev.svcSeen_hubRole, active, standby]))⟩,
    fun other => ⟨keeps.lastHb.trans (if_neg (by simp [other])), keeps.epoch.trans (if_neg (by simp [other]))⟩⟩

end

end Sys2Proof.Machine
end

section
namespace Sys2Proof
open Machine

/-- Settles O43, by the frame that the partner's boundary gets, by what a heartbeat records before it changes a role, and by the three
timeouts and the link that lead to the other roles. -/
theorem pairHeartbeats : Obligations.PairHeartbeats := by
  intro s
  refine ⟨fun x up role own => ?_, fun up role => ?_, pairHeartbeatSend_waits, fun n h img ports takes => ?_, fun n h img skips => ?_,
    fun paired released role alone => (initPartnerTimeout_does paired released role alone).imp fun d has => ⟨has.1, has.2.1, has.2.2.all⟩,
    initPartnerTimeout_idle,
    fun paired role => (castingTimeout_does paired role).imp fun d has => ⟨has.1, has.2.1, has.2.2.all⟩, castingTimeout_idle,
    fun paired role => (detach_does paired role).imp fun d has => ⟨has.1, has.2.all⟩, detach_idle,
    fun port1 hub => (pairLinkUp_does port1 hub).imp fun d has => ⟨has.1, has.2.1, has.2.2.1.all, has.2.2.2⟩⟩
  · obtain ⟨h, sent, ⟨state, tc, pairId, epoch, fcGt, digest, live⟩, queued, over_, kept, frame⟩ := s.dev.heartbeatOut_says x
    exact does_of_dev (pairHeartbeatSend_runs up ((if_neg (by simpa using role)).trans own))
      ⟨⟨h, sent, state, tc, pairId, epoch, fcGt, digest, live, queued, fun is => (over_ is).2⟩, kept, frame.all⟩
  · obtain ⟨h, sent, ⟨state, tc, -, -, -, digest, -⟩, -, over_, kept, frame⟩ := s.dev.heartbeatOut_says 0
    refine does_of_dev (pairHeartbeatSend_runs up (if_pos (by simp [role])))
      ⟨⟨h, sent, by rw [state, role]; rfl, by rw [tc, role]; rfl, digest, ?_⟩, kept, frame.all⟩
    exact Bool.eq_false_iff.mpr fun is => nomatch role.symm.trans (over_ is).1
  · obtain ⟨up, valid, new⟩ := takes
    obtain ⟨partner, seen, role, svcRx, frame, active, standby⟩ := pairHeartbeatReceived_records n h img s.dev ports
    obtain ⟨asks, refuses, leads, dual, handover⟩ := heartbeatTaken_next n h img s.dev
    refine does_of_dev (pairHeartbeatReceived_runs up valid new) ⟨partner, seen, role, svcRx, frame.all, active, standby, asks, refuses, leads,
      fun lead is => ⟨(dual lead is).1, fun above => (dual lead is).2.trans (if_pos (PairSt.outranked_of above)),
        fun below => (dual lead is).2.trans (if_neg (by simp [PairSt.outranked_of_not below]))⟩, handover⟩
  · exact next_of_dev (svcIn_skips (type := 1) skips _)

end Sys2Proof
end


section
/-! SUPPORT. Casts, swaps and relays between the devices of a pair (R335, R337, R338, R344, R345, R379, R401). -/

namespace Sys2Proof.Machine
open Sys2Proof

/-! ### What a service frame of the pair leaves -/

/-- The parts that no frame of a cast, a swap or a relay touches. -/
def Dev.SwapFrame (d e : Dev) : Prop :=
  e.vot = d.vot ∧ e.gd = d.gd ∧ e.edge = d.edge ∧ e.net = d.net ∧ e.can = d.can ∧ e.safe = d.safe ∧ e.pair.role = d.pair.role ∧
    e.pair.next = d.pair.next ∧ e.pair.epoch = d.pair.epoch
theorem Dev.SwapFrame.refl (d : Dev) : d.SwapFrame d := ⟨rfl, rfl, rfl, rfl, rfl, rfl, rfl, rfl, rfl⟩
theorem Dev.SwapFrame.trans {d e f : Dev} (h : d.SwapFrame e) (h' : e.SwapFrame f) : d.SwapFrame f := by
  obtain ⟨vot, gd, edge, net, can, safe, role, next, epoch⟩ := h'
  rw [Dev.SwapFrame, vot, gd, edge, net, can, safe, role, next, epoch]
  exact h
theorem Dev.PairKeeps.swapFrame {d e : Dev} (h : d.PairKeeps e) (next : e.pair.next = d.pair.next) : d.SwapFrame e :=
  ⟨h.vot, h.gd, h.edge, h.net, h.can, h.safe, h.role, next, h.epoch⟩

/-- A frame of which nothing is taken but its SEQ. -/
structure Dev.SwapSame (d e : Dev) : Prop where
  lanes : e.lanes = d.lanes
  host : e.host = d.host
  castReq : e.pair.castReq = d.pair.castReq
  swap : e.pair.swap = d.pair.swap
  sentRole : e.pair.sentRole = d.pair.sentRole
  castIn : e.pair.castIn = d.pair.castIn
  frame : d.SwapFrame e
theorem Dev.SwapSame.all {d e : Dev} (h : d.SwapSame e) : e.lanes = d.lanes ∧ e.host = d.host ∧ e.pair.castReq = d.pair.castReq ∧
    e.pair.swap = d.pair.swap ∧ e.pair.sentRole = d.pair.sentRole ∧ e.pair.castIn = d.pair.castIn ∧ e.vot = d.vot ∧ e.gd = d.gd ∧ e.edge = d.edge ∧
    e.net = d.net ∧ e.can = d.can ∧ e.safe = d.safe ∧ e.pair.role = d.pair.role ∧ e.pair.next = d.pair.next ∧ e.pair.epoch = d.pair.epoch :=
  ⟨h.lanes, h.host, h.castReq, h.swap, h.sentRole, h.castIn, h.frame⟩
theorem Dev.svcSeen_same (d : Dev) (type : Nat) (seq : BitVec 16) : d.SwapSame (d.svcSeen type seq) :=
  ⟨rfl, rfl, rfl, rfl, rfl, rfl, ⟨rfl, rfl, rfl, rfl, rfl, rfl, rfl, rfl, rfl⟩⟩

/-- The frame is taken: a pair port is up, the frame is valid, and it is not a later copy. -/
def Dev.Takes (d : Dev) (type : Nat) (n : SvcIn) : Prop := d.pairUp = true ∧ n.ok = true ∧ d.pair.svcRx.getD (type - 1) none ≠ some n.seq
theorem Dev.Takes.runs {d : Dev} {type : Nat} {n : SvcIn} (takes : d.Takes type n) (f : Dev → Dev) : d.svcIn type n f = f (d.svcSeen type n.seq) :=
  Dev.svcIn_counts takes.1 takes.2.1 takes.2.2 f

/-! ### Casts (R337, R338) -/

section
variable {s : State} {n : SvcIn} {g : Img}

/-- What an ACTIVE device with no cast asked for or under way answers a cast request with (R335). -/
def Dev.castAsked (d : Dev) (g : Img) (ask : CastAsk) : Dev :=
  if d.pair.hubRole != .active || d.pair.castReq.isSome || d.pair.castOut.isSome then d
  else if ask.digest == g.digest then d.onPair (fun p => { p with castReq := some false })
  else if ask.sameState then d.onPair (fun p => { p with castReq := some true })
  else d.count (cNet 7) 1
theorem castRequest_runs {ask : CastAsk} (image : s.dev.boot.running = some g) (takes : s.dev.Takes 4 n) :
    exec (.castRequest n ask) s = .next { s with dev := (s.dev.svcSeen 4 n.seq).castAsked g ask } := by
  have image' : (s.dev.svcSeen 4 n.seq).boot.running = some g := image
  refine next_of_dev ((takes.runs _).trans ?_)
  rw [image', Dev.castAsked]
theorem castRequest_does (ask : CastAsk) (image : s.dev.boot.running = some g) (takes : s.dev.Takes 4 n) :
    (s.dev.pair.hubRole = .active → s.dev.pair.castReq = none → s.dev.pair.castOut = none →
      (ask.digest = g.digest → Does (.castRequest n ask) s (fun d => d.pair.castReq = some false ∧ d.lanes = s.dev.lanes ∧ s.dev.SwapFrame d)) ∧
      (ask.digest ≠ g.digest → ask.sameState = true → Does (.castRequest n ask) s (fun d => d.pair.castReq = some true ∧
        d.lanes = s.dev.lanes ∧ s.dev.SwapFrame d)) ∧
      (ask.digest ≠ g.digest → ask.sameState = false → Does (.castRequest n ask) s (fun d => d.pair.castReq = none ∧
        s.dev.Counted d (cNet 7) ∧ d.lanes = s.dev.lanes ∧ s.dev.SwapFrame d))) ∧
    ((s.dev.pair.hubRole ≠ .active ∨ s.dev.pair.castReq ≠ none ∨ s.dev.pair.castOut ≠ none) → Does (.castRequest n ask) s s.dev.SwapSame) := by
  have meaning := castRequest_runs (ask := ask) image takes
  have same := s.dev.svcSeen_same 4 n.seq
  have role : (s.dev.svcSeen 4 n.seq).pair.hubRole = s.dev.pair.hubRole := rfl
  have idle : (s.dev.svcSeen 4 n.seq).pair.castOut = s.dev.pair.castOut := rfl
  generalize s.dev.svcSeen 4 n.seq = e at meaning same role idle
  unfold Dev.castAsked at meaning
  rw [role, same.castReq, idle] at meaning
  refine ⟨fun leads free none_ => ?_, fun busy => ?_⟩
  · rw [if_neg (by simp [leads, free, none_])] at meaning
    refine ⟨fun equal => ?_, fun differ state => ?_, fun differ state => ?_⟩
    · rw [if_pos (by simp [equal])] at meaning
      exact does_of_dev meaning ⟨rfl, same.lanes, same.frame⟩
    · rw [if_neg (by simp [differ]), if_pos state] at meaning
      exact does_of_dev meaning ⟨rfl, same.lanes, same.frame⟩
    · rw [if_neg (by simp [differ]), if_neg (by simp [state])] at meaning
      exact does_of_dev meaning ⟨same.castReq.trans free, Dev.counted_of_host same.host rfl, same.lanes, same.frame⟩
  · rw [if_pos] at meaning
    · exact does_of_dev meaning same
    · rcases busy with other | asked | out
      · simp [other]
      · simp [Option.isSome_iff_ne_none.mpr asked]
      · simp [Option.isSome_iff_ne_none.mpr out]

/-- What a device that casts or stands by takes of a CAST frame (R337, R338). -/
def Dev.castTaken (d : Dev) (g : Img) (f : CastFrame) : Dev :=
  if d.pair.hubRole == .casting then
    (if f.kind = 3 then d.onPair (fun p => { p with castIn := insertNew p.castIn f.src, castInGt := BitVec.ofNat 64 d.gt })
     else if f.kind = 1 ∨ f.kind = 2 ∨ f.kind = 4 then (d.onLanes (castTake g f)).onNet (fun n => f.items.foldl NetSt.takeItem n)
     else d)
  else if d.pair.hubRole == .probation || d.pair.hubRole == .inStep || d.pair.hubRole == .detached then
    (if f.kind = 4 then d.onLanes (castRecord f)
     else if f.kind = 2 then d.onNet (fun n => f.items.foldl NetSt.takeItem n)
     else d)
  else d
theorem castFrameReceived_runs {f : CastFrame} (image : s.dev.boot.running = some g) (takes : s.dev.Takes 2 n) :
    exec (.castFrameReceived n f) s = .next { s with dev := (s.dev.svcSeen 2 n.seq).castTaken g f } := by
  have image' : (s.dev.svcSeen 2 n.seq).boot.running = some g := image
  refine next_of_dev ((takes.runs _).trans ?_)
  rw [image', Dev.castTaken]

theorem takeObs_keeps (g : Img) (l : List Nat) (q : LaneSt) : (takeObs g l q).mem = q.mem ∧ (takeObs g l q).seq = q.seq ∧ (takeObs g l q).cfg = q.cfg := by
  unfold takeObs
  refine List.foldlRecOn _ _ (motive := fun x : LaneSt => x.mem = q.mem ∧ x.seq = q.seq ∧ x.cfg = q.cfg) ⟨rfl, rfl, rfl⟩ fun x h i _ => ?_
  split
  · split_ifs <;> exact h
  · exact h
/-- One byte of the state set (R337). -/
theorem castWrite_byte {q : LaneSt} {off i a : Nat} (b : Byte) (place : off = castBase g q + i) (addr : stateAddr g.ranges i = some a)
    (inside : slotGap a = false) (wf : memWf q.mem = true) :
    memGet (castWrite g off [b] q).mem a = b ∧ (∀ x : Nat, x ≠ a → memGet (castWrite g off [b] q).mem x = memGet q.mem x) ∧
      (castWrite g off [b] q).seq = q.seq ∧ (castWrite g off [b] q).cfg = q.cfg := by
  have cell : ([b].zip ((List.range [b].length).map (· + off))).filterMap (fun e =>
      if castBase g q ≤ e.2 then (stateAddr g.ranges (e.2 - castBase g q)).map (fun a => (a, e.1)) else none) = [(a, b)] := by
    simp [place, addr]
  obtain ⟨mem, seq, cfg⟩ := takeObs_keeps g ((([b].zip ((List.range [b].length).map (· + off))).filterMap (fun e =>
      if castBase g q ≤ e.2 then (stateAddr g.ranges (e.2 - castBase g q)).map (fun a => (a, e.1)) else none)).map (·.1)) _
  unfold castWrite
  rw [seq, cfg, mem, cell]
  have written : laneSet q.mem a b = memSet q.mem a b := if_neg (by simp [inside])
  refine ⟨?_, fun x other => ?_, rfl, rfl⟩
  · show memGet (laneSet q.mem a b) a = b
    rw [written]
    exact memGet_memSet _ _ _ _ wf
  · show memGet (laneSet q.mem a b) x = _
    rw [written]
    exact memGet_memSet_ne _ _ _ _ _ wf other

theorem castRecord_stages {f : CastFrame} (none_ : f.commit = none) (q : LaneSt) :
    (∃ c : CfgField, (castRecord f q).field f.pid = some c ∧ c.staged = some f.value) ∧ (castRecord f q).mem = q.mem ∧ (castRecord f q).seq = q.seq := by
  have seq (host : Bool) : (q.stage f.pid host f.value).seq = q.seq := by
    unfold LaneSt.stage LaneSt.onField
    split_ifs <;> rfl
  unfold castRecord
  rw [none_]
  exact ⟨LaneSt.stage_field .., LaneSt.onField_mem .., seq _⟩

theorem castFrameReceived_does (f : CastFrame) (image : s.dev.boot.running = some g) (takes : s.dev.Takes 2 n) :
    (s.dev.pair.hubRole = .casting → f.kind = 3 → Does (.castFrameReceived n f) s (fun d => f.src ∈ d.pair.castIn ∧
      (∀ l ∈ s.dev.pair.castIn, l ∈ d.pair.castIn) ∧ d.pair.castInGt = BitVec.ofNat 64 s.dev.gt ∧ d.lanes = s.dev.lanes ∧ s.dev.SwapFrame d)) ∧
    (∀ (l : Lane) (b : Byte) (i a : Nat), s.dev.pair.hubRole = .casting → (f.kind = 1 ∨ f.kind = 2) → f.data = [b] → f.items = [] →
      f.offset = castBase g (s.dev.lane l) + i → stateAddr g.ranges i = some a → slotGap a = false → memWf (s.dev.lane l).mem = true →
      Does (.castFrameReceived n f) s (fun d => memGet (d.lane l).mem a = b ∧
        (∀ x : Nat, x ≠ a → memGet (d.lane l).mem x = memGet (s.dev.lane l).mem x) ∧ (d.lane l).seq = (s.dev.lane l).seq ∧
        (d.lane l).cfg = (s.dev.lane l).cfg ∧ d.pair.castIn = s.dev.pair.castIn ∧ s.dev.SwapFrame d)) ∧
    ((s.dev.pair.hubRole = .probation ∨ s.dev.pair.hubRole = .inStep ∨ s.dev.pair.hubRole = .detached) → f.kind = 4 → f.commit = none →
      Does (.castFrameReceived n f) s (fun d => ∀ l : Lane, (∃ c : CfgField, (d.lane l).field f.pid = some c ∧ c.staged = some f.value) ∧
        (d.lane l).mem = (s.dev.lane l).mem ∧ (d.lane l).seq = (s.dev.lane l).seq ∧ s.dev.SwapFrame d)) ∧
    ((s.dev.pair.hubRole = .init ∨ s.dev.pair.hubRole = .active ∨ s.dev.pair.hubRole = .faulty) → Does (.castFrameReceived n f) s s.dev.SwapSame) := by
  have meaning := castFrameReceived_runs (f := f) image takes
  have same := s.dev.svcSeen_same 2 n.seq
  have role : (s.dev.svcSeen 2 n.seq).pair.hubRole = s.dev.pair.hubRole := rfl
  have gt : (s.dev.svcSeen 2 n.seq).gt = s.dev.gt := rfl
  generalize s.dev.svcSeen 2 n.seq = e at meaning same role gt
  have lane (l : Lane) : e.lane l = s.dev.lane l := congrArg (·.get l) same.lanes
  unfold Dev.castTaken at meaning
  rw [role] at meaning
  refine ⟨fun casts kind => ?_, fun l b i a casts kind data items place addr inside wf => ?_, fun standby kind none_ => ?_, fun other => ?_⟩
  · rw [if_pos (by simp [casts]), if_pos kind] at meaning
    refine does_of_dev meaning ⟨mem_insertNew.mpr (.inr rfl), fun l there => mem_insertNew.mpr (.inl (same.castIn.symm ▸ there)), ?_, same.lanes, same.frame⟩
    exact congrArg (BitVec.ofNat 64) gt
  · have take : castTake g f (s.dev.lane l) = castWrite g f.offset [b] (s.dev.lane l) := by
      rw [castTake, if_neg (by omega), data, items]
      rfl
    rw [if_pos (by simp [casts]), if_neg (by omega), if_pos (by omega), items] at meaning
    obtain ⟨at_, others, seq, cfg⟩ := castWrite_byte b place addr inside wf
    have becomes : ((e.onLanes (castTake g f)).onNet (fun n => [].foldl NetSt.takeItem n)).lane l = castWrite g f.offset [b] (s.dev.lane l) :=
      (e.onLanes_lane l _).trans ((congrArg _ (lane l)).trans take)
    refine does_of_dev meaning ?_
    rw [becomes]
    exact ⟨at_, others, seq, cfg, same.castIn, same.frame⟩
  · rw [if_neg (by rcases standby with r | r | r <;> simp [r]), if_pos (by rcases standby with r | r | r <;> simp [r]), if_pos kind] at meaning
    refine does_of_dev meaning fun l => ?_
    rw [e.onLanes_lane, lane]
    obtain ⟨staged, mem, seq⟩ := castRecord_stages none_ (s.dev.lane l)
    exact ⟨staged, mem, seq, same.frame⟩
  · rw [if_neg (by rcases other with r | r | r <;> simp [r]), if_neg (by rcases other with r | r | r <;> simp [r])] at meaning
    exact does_of_dev meaning same

end

/-! ### Swaps (R344, R345) -/

/-- A ROLE frame that goes out, with the pair's swap. -/
theorem Dev.sendRole_swap (d : Dev) (op kind : Nat) (c : BitVec 32) : (d.sendRole op kind c).pair.swap = d.pair.swap ∧ (d.sendRole op kind c).pair.sentRole = some (op, kind, c) ∧
    (d.sendRole op kind c).lanes = d.lanes ∧ d.SwapFrame (d.sendRole op kind c) := by
  obtain ⟨keeps, next, sentRole, -⟩ := d.sendRole_eq op kind c
  obtain ⟨p, is, sent⟩ := (d.onPair (fun p => { p with sentRole := some (op, kind, c) })).handSvc_sent (.role op kind d.pair.epoch c d.img.digest)
  have swap : (d.sendRole op kind c).pair.swap = d.pair.swap := (congrArg (·.pair.swap) is).trans sent.swap
  exact ⟨swap, sentRole, keeps.lanes, keeps.swapFrame next⟩

/-- The jobs named in `j` that are open end with their status. -/
def Dev.Aborted (d e : Dev) (j st de : Nat) : Prop :=
  ∀ k ∈ d.mgmt.jobs, k.num = j → k.done = false → ∃ i ∈ e.mgmt.jobs, i.num = j ∧ i.done = true ∧ i.status = st ∧ i.detail = de
theorem Dev.endJob_aborts (d : Dev) (j st de : Nat) : d.Aborted (d.endJob j st de) j st de := by
  intro k there num open_
  refine ⟨_, List.mem_map_of_mem there, ?_⟩
  rw [if_pos (by simp [num, open_])]
  exact ⟨num, rfl, rfl, rfl⟩

section
variable {s : State} {n : SvcIn} {kind : Nat} {c : BitVec 32}

/-- A standby in IN_STEP takes a swap, one that is DETACHED after an update cast takes an update (R344). -/
def Dev.SwapFits (d : Dev) (kind : Nat) : Prop :=
  (kind = 1 ∧ d.pair.hubRole = .detached ∧ d.pair.update = true) ∨ (kind ≠ 1 ∧ d.pair.hubRole = .inStep)
theorem swapPropose_does (kind : Nat) (c : BitVec 32) (takes : s.dev.Takes 4 n) :
    (s.dev.SwapFits kind → Does (.swapPropose n kind c) s (fun d => d.pair.swap = some (kind, c, true, none) ∧ d.pair.sentRole = some (2, kind, c) ∧
      d.lanes = s.dev.lanes ∧ s.dev.SwapFrame d)) ∧
    (s.dev.pair.hubRole ≠ .active → ¬ s.dev.SwapFits kind → Does (.swapPropose n kind c) s (fun d => d.pair.swap = s.dev.pair.swap ∧
      d.pair.sentRole = some (3, kind, c) ∧ d.lanes = s.dev.lanes ∧ s.dev.SwapFrame d)) ∧
    (s.dev.pair.hubRole = .active → Does (.swapPropose n kind c) s s.dev.SwapSame) := by
  have meaning : exec (.swapPropose n kind c) s = .next { s with dev := _ } := next_of_dev (takes.runs _)
  have same := s.dev.svcSeen_same 4 n.seq
  have role : (s.dev.svcSeen 4 n.seq).pair.hubRole = s.dev.pair.hubRole := rfl
  have update : (s.dev.svcSeen 4 n.seq).pair.update = s.dev.pair.update := rfl
  generalize s.dev.svcSeen 4 n.seq = e at meaning same role update
  rw [role, update] at meaning
  have fits : (if kind = 1 then s.dev.pair.hubRole == .detached && s.dev.pair.update else s.dev.pair.hubRole == .inStep) = true ↔ s.dev.SwapFits kind := by
    unfold Dev.SwapFits
    split_ifs with is <;> simp [is]
  refine ⟨fun fit => ?_, fun standby not => ?_, fun leads => ?_⟩
  · have standby : s.dev.pair.hubRole ≠ .active := by rcases fit with ⟨-, r, -⟩ | ⟨-, r⟩ <;> simp [r]
    rw [if_neg (by simpa using standby), if_pos (fits.mpr fit)] at meaning
    obtain ⟨-, sent, lanes, frame⟩ := e.sendRole_swap 2 kind c
    exact does_of_dev meaning ⟨rfl, sent, lanes.trans same.lanes, same.frame.trans frame⟩
  · rw [if_neg (by simpa using standby), if_neg (fits.not.mpr not)] at meaning
    obtain ⟨swap, sent, lanes, frame⟩ := e.sendRole_swap 3 kind c
    exact does_of_dev meaning ⟨swap.trans same.swap, sent, lanes.trans same.lanes, same.frame.trans frame⟩
  · rw [if_pos (by simp [leads])] at meaning
    exact does_of_dev meaning same

theorem swapAccept_does {k : Nat} {a : Bool} {j : Option Nat} (takes : s.dev.Takes 4 n) (swap : s.dev.pair.swap = some (k, c, a, j))
    (leads : s.dev.pair.hubRole = .active) :
    Does (.swapAccept n) s (fun d => d.pair.swap = some (k, c, true, j) ∧ d.pair.accGt = s.dev.gt ∧ d.lanes = s.dev.lanes ∧ s.dev.SwapFrame d) := by
  have swap' : (s.dev.svcSeen 4 n.seq).pair.swap = some (k, c, a, j) := swap
  have leads' : ((s.dev.svcSeen 4 n.seq).pair.hubRole == .active) = true := beq_iff_eq.mpr leads
  have meaning : exec (.swapAccept n) s = .next { s with
      dev := (s.dev.svcSeen 4 n.seq).onPair (fun p => { p with swap := some (k, c, true, j), accGt := (s.dev.svcSeen 4 n.seq).gt }) } := by
    refine next_of_dev ((takes.runs _).trans ?_)
    rw [swap']
    exact if_pos leads'
  have same := s.dev.svcSeen_same 4 n.seq
  exact does_of_dev meaning ⟨rfl, rfl, same.lanes, same.frame⟩
theorem swapRefuse_does {k : Nat} {a : Bool} {j : Option Nat} (takes : s.dev.Takes 4 n) (swap : s.dev.pair.swap = some (k, c, a, j))
    (leads : s.dev.pair.hubRole = .active) (role : s.dev.pair.role = .active) :
    Does (.swapRefuse n) s (fun d => d.pair.swap = none ∧ s.dev.Counted d (cNet 6) ∧ d.lanes = s.dev.lanes ∧ s.dev.SwapFrame d ∧
      ∀ m : Nat, j = some m → s.dev.Aborted d m 0x19 6) := by
  have dropped : (s.dev.svcSeen 4 n.seq).dropSwap =
      (((s.dev.svcSeen 4 n.seq).onPair (fun p => { p with swap := none })).count (cNet 6) 1).endJob? j 0x19 6 := by
    have swap' : (s.dev.svcSeen 4 n.seq).pair.swap = some (k, c, a, j) := swap
    have role' : (s.dev.svcSeen 4 n.seq).pair.role = .active := role
    unfold Dev.dropSwap
    rw [swap', role']
    rfl
  have meaning : exec (.swapRefuse n) s = .next { s with dev := (s.dev.svcSeen 4 n.seq).dropSwap } :=
    next_of_dev ((takes.runs _).trans (if_pos (beq_iff_eq.mpr leads)))
  rw [dropped] at meaning
  have same := s.dev.svcSeen_same 4 n.seq
  have jobs : (s.dev.svcSeen 4 n.seq).mgmt = s.dev.mgmt := rfl
  generalize s.dev.svcSeen 4 n.seq = e at meaning same jobs
  cases j with
  | none => exact does_of_dev meaning ⟨rfl, Dev.counted_of_host same.host rfl, same.lanes, same.frame, nofun⟩
  | some m =>
    refine does_of_dev meaning ⟨rfl, Dev.counted_of_host same.host rfl, same.lanes, same.frame, fun m' is => ?_⟩
    obtain rfl := Option.some.inj is
    have aborts := ((e.onPair (fun p => { p with swap := none })).count (cNet 6) 1).endJob_aborts m 0x19 6
    exact fun x there => aborts x ((congrArg MgmtSt.jobs jobs).symm ▸ there)
theorem swapAnswer_idle (takes : s.dev.Takes 4 n) (idle : s.dev.pair.swap = none ∨ s.dev.pair.hubRole ≠ .active) :
    Does (.swapAccept n) s s.dev.SwapSame ∧ Does (.swapRefuse n) s s.dev.SwapSame := by
  have same := s.dev.svcSeen_same 4 n.seq
  have role : (s.dev.svcSeen 4 n.seq).pair.hubRole = s.dev.pair.hubRole := rfl
  have accepts : exec (.swapAccept n) s = .next { s with dev := _ } := next_of_dev (takes.runs _)
  have refuses : exec (.swapRefuse n) s = .next { s with dev := _ } := next_of_dev (takes.runs _)
  generalize s.dev.svcSeen 4 n.seq = e at accepts refuses same role
  rw [role] at accepts refuses
  rw [same.swap] at accepts
  rcases idle with none_ | standby
  · rw [none_] at accepts
    have dropped : e.dropSwap = e := by
      unfold Dev.dropSwap
      rw [same.swap, none_]
    rw [dropped, ite_self] at refuses
    exact ⟨does_of_dev accepts same, does_of_dev refuses same⟩
  · rw [if_neg (by simpa using standby)] at refuses
    refine ⟨?_, does_of_dev refuses same⟩
    split at accepts
    · rw [if_neg (by simpa using standby)] at accepts
      exact does_of_dev accepts same
    · exact does_of_dev accepts same

theorem autoSwapExpiry_does (up : s.dev.pairUp = true) (leads : s.dev.pair.hubRole = .active) (ready : s.dev.partnerReady = true) (idle : s.dev.pair.swap = none)
    (set_ : dyLt (dyInt 0) (sigVal (valSig (s.dev.nextVal 0x0B5))) = true) :
    Does .autoSwapExpiry s (fun d => ∃ c : BitVec 32, d.pair.swap = some (0, c, false, none) ∧ d.pair.sentRole = some (1, 0, c) ∧ c = swapCycle d ∧
      d.lanes = s.dev.lanes ∧ s.dev.SwapFrame d) := by
  have meaning : exec .autoSwapExpiry s = .next { s with
      dev := proposeSwap (s.dev.toGt (s.dev.pair.lastSwap + (dyFloor (dyMul (sigVal (valSig (s.dev.nextVal 0x0B5))) (dyInt 640000000))).toNat)) 0 none } :=
    next_of_dev (if_pos (by simp [up, leads, ready, idle, set_]))
  have frame : s.dev.SwapFrame (s.dev.toGt (s.dev.pair.lastSwap + (dyFloor (dyMul (sigVal (valSig (s.dev.nextVal 0x0B5))) (dyInt 640000000))).toNat)) := .refl s.dev
  have lanes : (s.dev.toGt (s.dev.pair.lastSwap + (dyFloor (dyMul (sigVal (valSig (s.dev.nextVal 0x0B5))) (dyInt 640000000))).toNat)).lanes = s.dev.lanes := rfl
  generalize s.dev.toGt (s.dev.pair.lastSwap + (dyFloor (dyMul (sigVal (valSig (s.dev.nextVal 0x0B5))) (dyInt 640000000))).toNat) = e at meaning frame lanes
  obtain ⟨p, is, -⟩ := proposeSwap_eq e 0 none
  obtain ⟨-, sent, kept, goes⟩ := e.sendRole_swap 1 0 (swapCycle e)
  have cycle : swapCycle e = swapCycle (proposeSwap e 0 none) := by rw [is]; rfl
  exact does_of_dev meaning ⟨swapCycle e, rfl, sent, cycle, kept.trans lanes, frame.trans goes⟩
theorem autoSwapExpiry_idle (idle : s.dev.partnerReady = false ∨ s.dev.pair.swap ≠ none) : exec .autoSwapExpiry s = .next s := by
  refine next_of_dev (e := s.dev) (if_neg ?_)
  rcases idle with not | swap
  · simp [not]
  · simp [swap]

/-- A relay goes again, 16 times at most (R401). -/
theorem pairRelayRetry_does {n k : Nat} {ws : List Word} (relay : s.dev.pair.relay = some (n, ws, k)) :
    (k ≤ 16 → Does .pairRelayRetry s (fun d => d.pair.relay = some (n, ws, k + 1) ∧ d.mgmt = s.dev.mgmt ∧ s.dev.SwapFrame d)) ∧
    (16 < k → Does .pairRelayRetry s (fun d => d.pair = { s.dev.pair with relay := none } ∧ s.dev.Aborted d n 3 0 ∧ s.dev.SwapFrame d)) := by
  have meaning : exec .pairRelayRetry s = .next { s with
      dev := if k ≤ 16 then (s.dev.onPair (fun p => { p with relay := some (n, ws, k + 1) })).handSvc (.mailbox 13 ws)
      else (s.dev.onPair (fun p => { p with relay := none })).endJob n 3 0 } := by
    refine next_of_dev ?_
    beta_reduce
    rw [relay]
  refine ⟨fun again => ?_, fun last => ?_⟩
  · rw [if_pos again] at meaning
    obtain ⟨p, is, ports⟩ := (s.dev.onPair (fun p => { p with relay := some (n, ws, k + 1) })).handSvc_ports (.mailbox 13 ws)
    rw [is] at meaning
    exact does_of_dev meaning ⟨congrArg (·.relay) ports, rfl, rfl, rfl, rfl, rfl, rfl, rfl, congrArg (·.role) ports, congrArg (·.next) ports,
      congrArg (·.epoch) ports⟩
  · rw [if_neg (by omega)] at meaning
    exact does_of_dev meaning ⟨rfl, Dev.endJob_aborts (s.dev.onPair _) n 3 0, .refl s.dev⟩
theorem pairRelayRetry_idle (relay : s.dev.pair.relay = none) : exec .pairRelayRetry s = .next s := by
  refine next_of_dev (e := s.dev) ?_
  beta_reduce
  rw [relay]

end

end Sys2Proof.Machine
end

section
namespace Sys2Proof
open Machine

/-- Settles O45, frame by frame: what of it is taken, and what a later copy or an invalid one leaves. -/
theorem pairSwaps : Obligations.PairSwaps := by
  intro s
  refine ⟨fun n => ⟨fun skips => ⟨fun ask => next_of_dev (svcIn_skips (type := 4) skips _), fun kind c => next_of_dev (svcIn_skips (type := 4) skips _),
      next_of_dev (svcIn_skips (type := 4) skips _), next_of_dev (svcIn_skips (type := 4) skips _)⟩,
      fun skips f => next_of_dev (svcIn_skips (type := 2) skips _)⟩,
    fun n ask g image takes => ?_, fun n f g image takes => ?_, fun n kind c takes => ?_, fun n k c a j takes swap role next => ?_,
    fun n takes idle => ?_, autoSwapExpiry_does, autoSwapExpiry_idle, fun n k ws relay => pairRelayRetry_does relay, pairRelayRetry_idle⟩
  · obtain ⟨asks, rest⟩ := castRequest_does ask image takes
    exact ⟨asks, fun busy => (rest busy).imp fun _ same => same.all⟩
  · obtain ⟨mark, byte, record, rest⟩ := castFrameReceived_does f image takes
    exact ⟨mark, byte, record, fun other => (rest other).imp fun _ same => same.all⟩
  · obtain ⟨fits, refuses, rest⟩ := swapPropose_does kind c takes
    exact ⟨fits, refuses, fun leads => (rest leads).imp fun _ same => same.all⟩
  · have leads : s.dev.pair.hubRole = .active := by
      unfold PairSt.hubRole
      rw [next]
      exact role
    exact ⟨swapAccept_does takes swap leads, swapRefuse_does takes swap leads role⟩
  · obtain ⟨accepts, refuses⟩ := swapAnswer_idle takes idle
    exact ⟨accepts.imp fun _ same => same.all, refuses.imp fun _ same => same.all⟩

end Sys2Proof
end


section
/-! SUPPORT. What the loss of a reference does and leaves alone (Table 2-6). -/

namespace Sys2Proof.Machine
open Sys2Proof

/-! ### The lanes' clocks (R42, R45) -/

section
variable {s : State} {l : Lane}

/-- The drive dies, edge links, safety groups and start-up, which the loss of a reference leaves alone. -/
def Dev.ClockApart (d e : Dev) : Prop := e.gd = d.gd ∧ e.edge = d.edge ∧ e.safe = d.safe ∧ e.boot = d.boot

/-- The monitor's finding, before the lane goes out. -/
def Dev.clockBad (d : Dev) (l : Lane) (row : Nat) : Dev := (d.fault 0x15 row (laneIdx l) 0 0).onSeq l (fun q => { q with clkBad := true })
theorem clockOut_eq (d : Dev) (l : Lane) (row : Nat) : clockOut d l row = (d.clockBad l row).takeOut l 7 0 0 := rfl
theorem Dev.clockBad_eq (d : Dev) (l : Lane) (row : Nat) :
    (d.clockBad l row).lane l = { d.lane l with seq := { (d.lane l).seq with clkBad := true } } ∧
    (∀ m : Lane, m ≠ l → (d.clockBad l row).lane m = d.lane m) ∧ (d.clockBad l row).runs l = d.runs l ∧ (d.clockBad l row).vot = d.vot ∧
    d.ClockApart (d.clockBad l row) := by
  have lanes (m : Lane) : (d.fault 0x15 row (laneIdx l) 0 0).lane m = d.lane m := congrArg (·.get m) (d.fault_lanes ..)
  have marked : (d.clockBad l row).lane l = { d.lane l with seq := { (d.lane l).seq with clkBad := true } } := by
    rw [Dev.clockBad, Dev.onSeq_lane, lanes]
  refine ⟨marked, fun m other => ?_, ?_, d.fault_vot .., d.fault_gd .., d.fault_edge .., d.fault_safe .., d.fault_boot ..⟩
  · rw [Dev.clockBad, Dev.onSeq_lane_ne _ _ _ _ other, lanes]
  · rw [Dev.runs, Dev.isLive, Dev.isProb, Dev.phase, marked]
    rfl
/-- A monitor takes a lane that runs out with cause 7 (R45). -/
theorem clockOut_runs (d : Dev) (row : Nat) (runs : d.runs l = true) : (clockOut d l row).phase l = .out ∧ ((clockOut d l row).lane l).seq.cause = 7 ∧
    ((clockOut d l row).lane l).seq.clkBad = true ∧ (∀ m : Lane, m ≠ l → (clockOut d l row).lane m = d.lane m) ∧ (clockOut d l row).boot = d.boot := by
  obtain ⟨marked, others, still, -, -, -, -, boot⟩ := d.clockBad_eq l row
  have out := (d.clockBad l row).takeOut_lane l 7 0 0 (still.trans runs)
  rw [clockOut_eq]
  refine ⟨?_, ?_, ?_, fun m other => (Dev.takeOut_lane_ne _ l m 7 0 0 other).trans (others m other), (Dev.takeOut_boot ..).trans boot⟩
  · rw [Dev.phase, out]; rfl
  · rw [out]; rfl
  · rw [out, marked]; rfl
theorem clockOut_stays (d : Dev) (row : Nat) (idle : d.runs l = false) : (clockOut d l row).phase l = d.phase l ∧
    ((clockOut d l row).lane l).seq.clkBad = true ∧ ((clockOut d l row).lane l).mem = (d.lane l).mem ∧
    (∀ m : Lane, m ≠ l → (clockOut d l row).lane m = d.lane m) ∧ (clockOut d l row).vot = d.vot ∧ d.ClockApart (clockOut d l row) := by
  obtain ⟨marked, others, still, vot, apart⟩ := d.clockBad_eq l row
  rw [clockOut_eq, Dev.takeOut_idle _ l 7 0 0 (still.trans idle), Dev.phase, marked]
  exact ⟨rfl, rfl, rfl, others, vot, apart⟩

/-- The replica corrected at a capture, with its own part of the deviation and its drift. -/
def Dev.strobed (d : Dev) (l : Lane) (corr own drift : Int) : Dev :=
  d.onSeq l (fun q => q.captured (d.laneClk l) d.time.raw corr d.time.strobeErr own drift)
theorem Dev.strobed_lane (d : Dev) (l : Lane) (corr own drift : Int) : (d.strobed l corr own drift).lane l =
    { d.lane l with seq := (d.lane l).seq.captured (d.laneClk l) d.time.raw corr d.time.strobeErr own drift } := d.onSeq_lane ..
theorem Dev.strobed_lane_ne (d : Dev) {l m : Lane} (corr own drift : Int) (other : m ≠ l) : (d.strobed l corr own drift).lane m = d.lane m :=
  d.onSeq_lane_ne l m _ other
/-- A capture within the guard corrects the replica (R42). -/
theorem strobeCapture_corrects {x : Int} (up : s.dev.hubUp = true) (within : x.natAbs * 1000000 ≤ s.dev.guardPpm * 2 ^ 32) : Does (.strobeCapture l x) s (fun d =>
    ((d.lane l).seq.dev - s.dev.time.strobeErr).natAbs ≤ 4123168604 ∧ (d.lane l).seq.corr = x ∧ (d.lane l).seq.noStrobe = 0 ∧
    (d.lane l).seq.freeRun = false ∧ d.time = s.dev.time ∧ d.phase l = s.dev.phase l ∧
    (d.lane l).mem = (s.dev.lane l).mem ∧ (∀ m : Lane, m ≠ l → d.lane m = s.dev.lane m) ∧ d.vot = s.dev.vot ∧ d.net = s.dev.net ∧ s.dev.ClockApart d) := by
  have meaning : exec (.strobeCapture l x) s = .next { s with
      dev := { s.dev.strobed l x ((Config.replicaRest s.dev.draws).val - 4123168604) ((Config.replicaDrift s.dev.draws).val - 10737) with draws := s.dev.draws + 1 } } :=
    next_of_dev ((if_neg (by simp [up])).trans (if_neg (Nat.not_lt.mpr within)))
  have bound := (Config.replicaRest s.dev.draws).isLt
  generalize (Config.replicaRest s.dev.draws).val = own at meaning bound
  generalize ((Config.replicaDrift s.dev.draws).val : Int) - 10737 = drift at meaning
  have becomes := s.dev.strobed_lane l x ((own : Int) - 4123168604) drift
  have others (m : Lane) (other : m ≠ l) := s.dev.strobed_lane_ne x ((own : Int) - 4123168604) drift other
  refine does_of_dev meaning ⟨?_, congrArg (·.seq.corr) becomes, congrArg (·.seq.noStrobe) becomes, congrArg (·.seq.freeRun) becomes, rfl,
    congrArg (·.seq.phase) becomes, congrArg (·.mem) becomes, others, rfl, rfl, rfl, rfl, rfl, rfl⟩
  have dev : ((s.dev.strobed l x ((own : Int) - 4123168604) drift).lane l).seq.dev = s.dev.time.strobeErr + ((own : Int) - 4123168604) :=
    congrArg (·.seq.dev) becomes
  show (((s.dev.strobed l x ((own : Int) - 4123168604) drift).lane l).seq.dev - s.dev.time.strobeErr).natAbs ≤ 4123168604
  rw [dev]
  omega
theorem strobeCapture_idle {x : Int} (lost : s.dev.hubUp = false) : exec (.strobeCapture l x) s = .next s :=
  next_of_dev (e := s.dev) (if_pos (by simp [lost]))
theorem strobeCapture_out {x : Int} (up : s.dev.hubUp = true) (beyond : s.dev.guardPpm * 2 ^ 32 < x.natAbs * 1000000) :
    exec (.strobeCapture l x) s = .next { s with dev := clockOut s.dev l 2 } :=
  next_of_dev ((if_neg (by simp [up])).trans (if_pos beyond))
theorem laneClockFault_out {a : Bool} (judged : a = true → s.dev.time.aclkBad = false) :
    exec (.laneClockFault l a) s = .next { s with dev := clockOut s.dev l (if a then 2 else 1) } :=
  next_of_dev (if_neg (by
    cases a with
    | false => simp
    | true => simp [judged rfl]))
theorem laneClockFault_idle (bad : s.dev.time.aclkBad = true) : exec (.laneClockFault l true) s = .next s :=
  next_of_dev (e := s.dev) (if_pos (by simp [bad]))

end

/-! ### The hub (R16, R18, R446) -/

section
variable {s : State}

theorem loseHub_ends (d : Dev) (up : d.hubUp = true) : (loseHub d).pwr.hubLost = true ∧
    (loseHub d).lanes = d.lanes ∧ (loseHub d).time = d.time ∧ (loseHub d).pair.role = d.pair.role ∧ (loseHub d).pair.partner = d.pair.partner ∧
    (loseHub d).pair.up0 = false ∧ (loseHub d).pair.up1 = false ∧
    (loseHub d).host.replies = [] ∧ (loseHub d).host.events = [] ∧ (loseHub d).mgmt.jobs = [] ∧ (loseHub d).jr.queue = [] ∧
    (loseHub d).net.txq = [] ∧ (loseHub d).net.sending = false ∧
    (loseHub d).net.banks.map (fun b => (b.key, b.read)) = d.net.banks.map (fun b => (b.key, b.read)) ∧ d.ClockApart (loseHub d) := by
  have up' : ¬ d.pwr.hubLost = true := by simpa [Dev.hubUp] using up
  unfold loseHub
  rw [if_neg up']
  refine ⟨rfl, rfl, rfl, rfl, rfl, rfl, rfl, rfl, rfl, rfl, rfl, rfl, rfl, ?_, rfl, rfl, rfl, rfl⟩
  simp [Function.comp_def]
theorem hubFault_eq (h : HubCause) : exec (.hubFault h) s = .next { s with dev := loseHub s.dev } := by cases h <;> rfl
theorem hubFault_idle (h : HubCause) (lost : s.dev.hubUp = false) : exec (.hubFault h) s = .next s :=
  (hubFault_eq h).trans (next_of_dev (e := s.dev) (if_pos (by simpa [Dev.hubUp] using lost)))
theorem hubLost_does {h : HubCause} {c : Instr} (is : c = .hubFault h ∨ c = .hubClockFault) (up : s.dev.hubUp = true) : Does c s (fun d => d.pwr.hubLost = true ∧
    d.lanes = s.dev.lanes ∧ d.time = s.dev.time ∧ d.pair.role = s.dev.pair.role ∧ d.pair.partner = s.dev.pair.partner ∧
    d.pair.up0 = false ∧ d.pair.up1 = false ∧
    d.host.replies = [] ∧ d.host.events = [] ∧ d.mgmt.jobs = [] ∧ d.jr.queue = [] ∧ d.net.txq = [] ∧ d.net.sending = false ∧
    d.net.banks.map (fun b => (b.key, b.read)) = s.dev.net.banks.map (fun b => (b.key, b.read)) ∧ s.dev.ClockApart d) := by
  rcases is with rfl | rfl
  · exact does_of_dev (hubFault_eq h) (loseHub_ends s.dev up)
  · have meaning : exec .hubClockFault s = .next { s with dev := loseHub (s.dev.fault 0x15 4 0xFFFF 0 0) } := rfl
    have still : (s.dev.fault 0x15 4 0xFFFF 0 0).hubUp = true := by rw [Dev.hubUp, Dev.fault_pwr]; exact up
    have ends := loseHub_ends _ still
    simp only [Dev.ClockApart, Dev.fault_lanes, Dev.fault_time, Dev.fault_pair, Dev.fault_net, Dev.fault_gd, Dev.fault_edge, Dev.fault_safe, Dev.fault_boot] at ends
    exact does_of_dev meaning ends

/-- Two boundaries without a strobe, and each lane concerned holds its last rate. -/
def Dev.unstrobed (d : Dev) : Dev := d.onLanes (fun q => { q with seq := { q.seq with noStrobe := max 2 q.seq.noStrobe } })
def Dev.freeRuns (d : Dev) : Dev := d.onLanes (fun q => if 2 ≤ q.seq.noStrobe then { q with seq := { q.seq with freeRun := true } } else q)
theorem Dev.unstrobed_lane (d : Dev) (l : Lane) : d.unstrobed.lane l = { d.lane l with
    seq := { (d.lane l).seq with noStrobe := max 2 (d.lane l).seq.noStrobe } } := d.onLanes_lane ..
theorem Dev.freeRuns_lane (d : Dev) (l : Lane) (twice : 2 ≤ (d.lane l).seq.noStrobe) : d.freeRuns.lane l = { d.lane l with
    seq := { (d.lane l).seq with freeRun := true } } := (d.onLanes_lane ..).trans (if_pos twice)
/-- An ACTIVE device whose lanes all lose the strobe yields to a partner that is IN_STEP and FULL (R341). -/
theorem strobeLoss_eq {d : Dev} (g : Nat) (twice : ∀ l : Lane, 2 ≤ (d.lane l).seq.noStrobe) : strobeLoss d g =
    if (!lanesAll.all (fun m => (d.lane m).seq.freeRun) && d.paired && d.pair.role == .active && d.partnerIs .inStep && d.partnerFull) = true then
      d.freeRuns.roleAt .yielded g else d.freeRuns := by
  have before : d.hubLoss = true := List.all_eq_true.mpr fun l _ => decide_eq_true (twice l)
  have after : d.freeRuns.hubLoss = true := List.all_eq_true.mpr fun l _ => decide_eq_true (by rw [d.freeRuns_lane l (twice l)]; exact twice l)
  have body : strobeLoss d g = if (d.freeRuns.hubLoss && !(d.hubLoss && lanesAll.all (fun m => (d.lane m).seq.freeRun)) && d.paired &&
      d.pair.role == .active && d.partnerIs .inStep && d.partnerFull) = true then d.freeRuns.roleAt .yielded g else d.freeRuns := rfl
  rw [body, after, before, Bool.true_and, Bool.true_and]
/-- Two boundaries without a strobe (R45, R341). -/
theorem noHubStrobe_does : Does .noHubStrobe s (fun d => (∀ m : Lane, d.lane m = { s.dev.lane m with
      seq := { (s.dev.lane m).seq with noStrobe := max 2 (s.dev.lane m).seq.noStrobe, freeRun := true } }) ∧
    d.time = s.dev.time ∧ d.vot = s.dev.vot ∧ d.net = s.dev.net ∧ d.pair.next =
      (if (!lanesAll.all (fun m => (s.dev.lane m).seq.freeRun) &&
          s.dev.paired && s.dev.pair.role == .active && s.dev.partnerIs .inStep && s.dev.partnerFull) = true then
        some (.yielded, BitVec.ofNat 64 s.dev.nextFc) else s.dev.pair.next) ∧ s.dev.ClockApart d) := by
  have twice (l : Lane) : 2 ≤ (s.dev.unstrobed.lane l).seq.noStrobe := by rw [Dev.unstrobed_lane]; exact le_max_left ..
  have lane (l : Lane) : s.dev.unstrobed.freeRuns.lane l = { s.dev.lane l with
      seq := { (s.dev.lane l).seq with noStrobe := max 2 (s.dev.lane l).seq.noStrobe, freeRun := true } } := by
    rw [Dev.freeRuns_lane _ l (twice l), Dev.unstrobed_lane]
  have ran : lanesAll.all (fun m => (s.dev.unstrobed.lane m).seq.freeRun) = lanesAll.all (fun m => (s.dev.lane m).seq.freeRun) :=
    congrArg lanesAll.all (funext fun l => by rw [Dev.unstrobed_lane])
  have meaning : exec .noHubStrobe s = .next { s with dev := strobeLoss s.dev.unstrobed s.dev.nextFc } := rfl
  rw [strobeLoss_eq _ twice, ran] at meaning
  refine does_of_dev meaning ?_
  show _ ∧ _ ∧ _ ∧ _ ∧ _ = (if (_ && s.dev.unstrobed.paired && s.dev.unstrobed.pair.role == .active && s.dev.unstrobed.partnerIs .inStep &&
    s.dev.unstrobed.partnerFull) = true then _ else _) ∧ _
  split_ifs
  · exact ⟨lane, rfl, rfl, rfl, rfl, rfl, rfl, rfl, rfl⟩
  · exact ⟨lane, rfl, rfl, rfl, rfl, rfl, rfl, rfl, rfl⟩

end

/-! ### The serdes reference and ACLK (R45) -/

section
variable {s : State} {l : Lane}

/-- A ring port that is wrapped keeps its link state. -/
theorem wrapPort_keeps (d : Dev) (east : Bool) : (wrapPort d east).net.east.up = d.net.east.up ∧ (wrapPort d east).net.west.up = d.net.west.up ∧
    (wrapPort d east).net.east.down = d.net.east.down ∧ (wrapPort d east).net.west.down = d.net.west.down ∧ (wrapPort d east).pair = d.pair ∧
    (wrapPort d east).time = d.time ∧ (wrapPort d east).lanes = d.lanes ∧ (wrapPort d east).vot = d.vot ∧ (wrapPort d east).can = d.can ∧
    d.ClockApart (wrapPort d east) := by
  have is : wrapPort d east = (d.count (cNet 0) 1).onNet (·.onSide east (fun p => { p with wrapped := true })) ∨ wrapPort d east = d := ite_eq_or_eq ..
  rcases is with is | is
  · rw [is]
    cases east <;> exact ⟨rfl, rfl, rfl, rfl, rfl, rfl, rfl, rfl, rfl, rfl, rfl, rfl, rfl⟩
  · rw [is]
    exact ⟨rfl, rfl, rfl, rfl, rfl, rfl, rfl, rfl, rfl, rfl, rfl, rfl, rfl⟩
/-- The four ports of the serdes reference are down, and it is reported. -/
def Dev.serdesDown (d : Dev) : Dev :=
  (((d.onTime (fun t => { t with serdesBad := true })).fault 0x15 7 0xFFFF 0 0).onNet (fun n => { n with
    east := { n.east with up := false, down := true, clean := 0 }, west := { n.west with up := false, down := true, clean := 0 } })).onPair
    (fun p => { p with up0 := false, up1 := false })
theorem serdesUnlock_does (up : s.dev.hubUp = true) : Does .serdesUnlock s (fun d => d.time = { s.dev.time with serdesBad := true } ∧ d.net.east.up = false ∧
    d.net.west.up = false ∧ d.net.east.down = true ∧ d.net.west.down = true ∧ d.pair.up0 = false ∧ d.pair.up1 = false ∧
    d.lanes = s.dev.lanes ∧ d.vot = s.dev.vot ∧ d.can = s.dev.can ∧ s.dev.ClockApart d) := by
  have meaning : exec .serdesUnlock s = .next { s with
      dev := if s.dev.serdesDown.time.run || s.dev.serdesDown.standalone then s.dev.serdesDown else wrapPort (wrapPort s.dev.serdesDown true) false } :=
    next_of_dev (if_neg (by simp [up]))
  have time : s.dev.serdesDown.time = { s.dev.time with serdesBad := true } := Dev.fault_time ..
  have lanes : s.dev.serdesDown.lanes = s.dev.lanes := Dev.fault_lanes (s.dev.onTime _) ..
  have vot : s.dev.serdesDown.vot = s.dev.vot := Dev.fault_vot (s.dev.onTime _) ..
  have can : s.dev.serdesDown.can = s.dev.can := Dev.fault_can (s.dev.onTime _) ..
  have apart : s.dev.ClockApart s.dev.serdesDown :=
    ⟨Dev.fault_gd (s.dev.onTime _) .., Dev.fault_edge (s.dev.onTime _) .., Dev.fault_safe (s.dev.onTime _) .., Dev.fault_boot (s.dev.onTime _) ..⟩
  have ports : s.dev.serdesDown.net.east.up = false ∧ s.dev.serdesDown.net.west.up = false ∧ s.dev.serdesDown.net.east.down = true ∧
      s.dev.serdesDown.net.west.down = true ∧ s.dev.serdesDown.pair.up0 = false ∧ s.dev.serdesDown.pair.up1 = false := ⟨rfl, rfl, rfl, rfl, rfl, rfl⟩
  generalize s.dev.serdesDown = e at meaning time lanes vot can apart ports
  split at meaning
  · obtain ⟨east, west, eastDown, westDown, up0, up1⟩ := ports
    exact does_of_dev meaning ⟨time, east, west, eastDown, westDown, up0, up1, lanes, vot, can, apart⟩
  · obtain ⟨eu, wu, ed, wd, pair, time', lanes', vot', can', gd, edge, safe, boot⟩ := wrapPort_keeps e true
    obtain ⟨eu', wu', ed', wd', pair', time'', lanes'', vot'', can'', gd', edge', safe', boot'⟩ := wrapPort_keeps (wrapPort e true) false
    refine does_of_dev meaning ?_
    rw [time'', time', eu', eu, wu', wu, ed', ed, wd', wd, pair', pair, lanes'', lanes', vot'', vot', can'', can', Dev.ClockApart, gd', gd, edge', edge,
      safe', safe, boot', boot]
    obtain ⟨east, west, eastDown, westDown, up0, up1⟩ := ports
    exact ⟨time, east, west, eastDown, westDown, up0, up1, lanes, vot, can, apart⟩
theorem aclkFault_does (up : s.dev.hubUp = true) : Does .aclkFault s (fun d => d.time = { s.dev.time with aclkBad := true } ∧ d.lanes = s.dev.lanes ∧
    d.vot = s.dev.vot ∧ d.net = s.dev.net ∧ d.pair = s.dev.pair ∧ s.dev.ClockApart d) := by
  have meaning : exec .aclkFault s = .next { s with dev := (s.dev.onTime (fun t => { t with aclkBad := true })).fault 0x15 8 0xFFFF 0 0 } :=
    next_of_dev (if_pos up)
  exact does_of_dev meaning ⟨Dev.fault_time .., Dev.fault_lanes .., Dev.fault_vot .., Dev.fault_net .., Dev.fault_pair .., Dev.fault_gd ..,
    Dev.fault_edge .., Dev.fault_safe .., Dev.fault_boot ..⟩

/-! ### The monitor cores -/

theorem lmcPostTimeout_does (lost : s.dev.hubUp = false) : Does (.lmcPostTimeout l) s (fun d => (d.lane l).seq.lmcDrops =
      (s.dev.lane l).seq.lmcDrops + (if (s.dev.lane l).seq.lmcDown then 0 else 1) ∧ d.phase l = s.dev.phase l ∧
    (d.lane l).mem = (s.dev.lane l).mem ∧ (∀ m : Lane, m ≠ l → d.lane m = s.dev.lane m) ∧ d.vot = s.dev.vot ∧ s.dev.ClockApart d) := by
  have meaning : exec (.lmcPostTimeout l) s = .next { s with dev := s.dev.onSeq l (fun q => if q.lmcDown then q else { q with lmcDrops := q.lmcDrops + 1 }) } :=
    next_of_dev (if_neg (by simp [lost]))
  have becomes := s.dev.onSeq_lane l (fun q => if q.lmcDown then q else { q with lmcDrops := q.lmcDrops + 1 })
  refine does_of_dev meaning ⟨?_, ?_, congrArg (·.mem) becomes, fun m other => s.dev.onSeq_lane_ne l m _ other, rfl, rfl, rfl, rfl, rfl⟩
  · rw [becomes]
    show SeqSt.lmcDrops (if _ then _ else _) = _
    split <;> rfl
  · rw [Dev.phase, becomes]
    show SeqSt.phase (if _ then _ else _) = _
    split <;> rfl
theorem lmcPostTimeout_idle (up : s.dev.hubUp = true) : exec (.lmcPostTimeout l) s = .next s := next_of_dev (e := s.dev) (if_pos up)
/-- A stopped monitor core: the others mark it, one that has itself stopped does not (log entry 145). -/
theorem laneMonitorCoreFault_does : Does (.laneMonitorCoreFault l) s (fun d => d.lane l = { s.dev.lane l with seq := { (s.dev.lane l).seq with lmcDown := true } } ∧
    (∀ m : Lane, m ≠ l → (s.dev.lane m).seq.lmcDown = true → d.lane m = s.dev.lane m) ∧
    (∀ m : Lane, m ≠ l → (s.dev.lane m).seq.lmcDown = false → d.lane m = { s.dev.lane m with
      seq := { (s.dev.lane m).seq with lmcPeers := (s.dev.lane m).seq.lmcPeers.set l true } }) ∧
    d.vot = s.dev.vot ∧ d.host = s.dev.host ∧ s.dev.ClockApart d) := by
  have meaning : exec (.laneMonitorCoreFault l) s = .next { s with dev := (s.dev.onLanes (fun q =>
      if q.seq.lmcDown then q else { q with seq := { q.seq with lmcPeers := q.seq.lmcPeers.set l true } })).onSeq l (fun q =>
        { q with lmcDown := true, lmcPeers := (s.dev.lane l).seq.lmcPeers }) } := rfl
  refine does_of_dev meaning ⟨?_, fun m other down => ?_, fun m other runs => ?_, rfl, rfl, rfl, rfl, rfl, rfl⟩
  · rw [Dev.onSeq_lane, Dev.onLanes_lane]
    split <;> rfl
  · rw [Dev.onSeq_lane_ne _ _ _ _ other, Dev.onLanes_lane, if_pos down]
  · rw [Dev.onSeq_lane_ne _ _ _ _ other, Dev.onLanes_lane, if_neg (by simp [runs])]

/-! ### Temperature and excitation (R188, R478) -/

/-- What the sensor i shows becomes of the hot ones. -/
def Dev.sensed (t : List Int) (d : Dev) (i : Nat) : Dev :=
  if t.getD i 0 < 145 * 8 then d.onMgmt (fun m => { m with hot := m.hot.filter (· != i) })
  else if 150 * 8 < t.getD i 0 && !d.mgmt.hot.contains i then
    (d.onMgmt (fun m => { m with hot := insertNew m.hot i })).fault 0x1D i 0 0 (toField (t.getD i 0) 64)
  else d
/-- HOT of a sensor: below 145 °C no, above 150 °C yes, between as it was. -/
def hotAfter (v : Int) (was : Prop) : Prop := ¬ v < 1160 ∧ (1200 < v ∨ was)
theorem Dev.sensed_hot (t : List Int) (d : Dev) (i j : Nat) :
    i ∈ (d.sensed t j).mgmt.hot ↔ if j = i then hotAfter (t.getD i 0) (i ∈ d.mgmt.hot) else i ∈ d.mgmt.hot := by
  unfold Dev.sensed hotAfter
  by_cases is : j = i
  · subst is
    rw [if_pos rfl]
    generalize t.getD j 0 = v
    split_ifs with cold hot
    · have gone : j ∉ d.mgmt.hot.filter (· != j) := by simp
      exact ⟨fun there => absurd there gone, fun warm => absurd (show v < 1160 by omega) warm.1⟩
    · simp only [Bool.and_eq_true, decide_eq_true_eq] at hot
      rw [Dev.fault_mgmt]
      exact ⟨fun _ => ⟨by omega, .inl (by omega)⟩, fun _ => mem_insertNew.mpr (.inr rfl)⟩
    · simp only [Bool.and_eq_true, decide_eq_true_eq, Bool.not_eq_true', List.contains_eq_mem, decide_eq_false_iff_not, not_and, not_not] at hot
      exact ⟨fun there => ⟨by omega, .inr there⟩, fun warm => warm.2.elim (fun above => hot (by omega)) id⟩
  · rw [if_neg is]
    split_ifs
    · show i ∈ d.mgmt.hot.filter (· != j) ↔ _
      simp [Ne.symm is]
    · rw [Dev.fault_mgmt]
      show i ∈ insertNew d.mgmt.hot j ↔ _
      simp [mem_insertNew, Ne.symm is]
    · rfl
theorem sensedAll_hot (t : List Int) (i : Nat) (l : List Nat) (d : Dev) :
    i ∈ (l.foldl (Dev.sensed t) d).mgmt.hot ↔ if i ∈ l then hotAfter (t.getD i 0) (i ∈ d.mgmt.hot) else i ∈ d.mgmt.hot := by
  induction l generalizing d with
  | nil => simp
  | cons j l ih =>
    rw [List.foldl_cons, ih, Dev.sensed_hot]
    by_cases here : j = i
    · subst here
      unfold hotAfter
      by_cases there : j ∈ l
      · simp [there]
        tauto
      · simp [there]
    · have other : i ∈ j :: l ↔ i ∈ l := by simp [Ne.symm here]
      simp only [other, if_neg here]
theorem Dev.sensed_keeps (t : List Int) (d : Dev) (j : Nat) : (d.sensed t j).mgmt.temps = d.mgmt.temps ∧ (d.sensed t j).lanes = d.lanes ∧
    (d.sensed t j).vot = d.vot ∧ (d.sensed t j).net = d.net ∧ d.ClockApart (d.sensed t j) := by
  unfold Dev.sensed
  split_ifs
  · exact ⟨rfl, rfl, rfl, rfl, rfl, rfl, rfl, rfl⟩
  · exact ⟨by rw [Dev.fault_mgmt]; rfl, Dev.fault_lanes .., Dev.fault_vot .., Dev.fault_net .., Dev.fault_gd .., Dev.fault_edge .., Dev.fault_safe ..,
      Dev.fault_boot ..⟩
  · exact ⟨rfl, rfl, rfl, rfl, rfl, rfl, rfl, rfl⟩
theorem temperatureRead_does (t : List Int) (i : Nat) (up : s.dev.hubUp = true) (six : t.length = 6) (low : i < 6) : Does (.temperatureRead t) s (fun d => d.mgmt.temps = t ∧
    (t.getD i 0 < 1160 → i ∉ d.mgmt.hot) ∧ (1200 < t.getD i 0 → i ∈ d.mgmt.hot) ∧
    (1160 ≤ t.getD i 0 → t.getD i 0 ≤ 1200 → (i ∈ d.mgmt.hot ↔ i ∈ s.dev.mgmt.hot)) ∧ d.lanes = s.dev.lanes ∧ d.vot = s.dev.vot ∧
    d.net = s.dev.net ∧ s.dev.ClockApart d) := by
  have meaning : exec (.temperatureRead t) s = .next { s with
      dev := noteDegraded ((List.range 6).foldl (Dev.sensed t) (s.dev.onMgmt (fun m => { m with temps := t }))) } :=
    next_of_dev (if_neg (by simp [up, six]))
  have keeps : ∀ (l : List Nat) (d : Dev), (l.foldl (Dev.sensed t) d).mgmt.temps = d.mgmt.temps ∧ (l.foldl (Dev.sensed t) d).lanes = d.lanes ∧
      (l.foldl (Dev.sensed t) d).vot = d.vot ∧ (l.foldl (Dev.sensed t) d).net = d.net ∧ d.ClockApart (l.foldl (Dev.sensed t) d) := by
    intro l
    induction l with
    | nil => exact fun d => ⟨rfl, rfl, rfl, rfl, rfl, rfl, rfl, rfl⟩
    | cons j l ih =>
      intro d
      obtain ⟨temps, lanes, vot, net, gd, edge, safe, boot⟩ := d.sensed_keeps t j
      rw [List.foldl_cons, ← temps, ← lanes, ← vot, ← net, Dev.ClockApart, ← gd, ← edge, ← safe, ← boot]
      exact ih (d.sensed t j)
  have hot := sensedAll_hot t i (List.range 6) (s.dev.onMgmt (fun m => { m with temps := t }))
  rw [if_pos (List.mem_range.mpr low)] at hot
  obtain ⟨temps, lanes, vot, net, gd, edge, safe, boot⟩ := keeps (List.range 6) (s.dev.onMgmt (fun m => { m with temps := t }))
  have was : i ∈ (s.dev.onMgmt (fun m => { m with temps := t })).mgmt.hot ↔ i ∈ s.dev.mgmt.hot := Iff.rfl
  generalize (List.range 6).foldl (Dev.sensed t) (s.dev.onMgmt (fun m => { m with temps := t })) = e at meaning hot temps lanes vot net gd edge safe boot
  rw [was, hotAfter] at hot
  refine does_of_dev meaning ?_
  rw [noteDegraded_mgmt, noteDegraded_lanes, noteDegraded_vot, noteDegraded_net, Dev.ClockApart, noteDegraded_gd, noteDegraded_edge, noteDegraded_safe,
    noteDegraded_boot, hot]
  exact ⟨temps, fun cold is => is.1 cold, fun above => ⟨by omega, .inl above⟩, fun warm below => ⟨fun is => is.2.resolve_left (by omega), fun is => ⟨by omega, .inr is⟩⟩,
    lanes, vot, net, gd, edge, safe, boot⟩

theorem excitationFault_does {k : Nat} (low : k < 2) :
    Does (.excitationFault k true) s (fun d => k ∈ d.gd.exc ∧ (∀ x ∈ s.dev.gd.exc, x ∈ d.gd.exc) ∧ d.gd.hb = s.dev.gd.hb ∧
      d.lanes = s.dev.lanes ∧ d.vot = s.dev.vot ∧ d.net = s.dev.net ∧ d.safe = s.dev.safe) ∧
    Does (.excitationFault k false) s (fun d => k ∉ d.gd.exc ∧ (∀ x : Nat, x ≠ k → (x ∈ d.gd.exc ↔ x ∈ s.dev.gd.exc)) ∧
      d.gd.hb = s.dev.gd.hb ∧ d.lanes = s.dev.lanes ∧ d.vot = s.dev.vot ∧ d.net = s.dev.net ∧ d.safe = s.dev.safe) := by
  have sets : exec (.excitationFault k true) s = .next { s with dev := s.dev.onGd (fun g => { g with exc := insertNew g.exc k }) } := next_of_dev (if_pos low)
  have clears : exec (.excitationFault k false) s = .next { s with dev := s.dev.onGd (fun g => { g with exc := g.exc.filter (· != k) }) } := next_of_dev (if_pos low)
  refine ⟨does_of_dev sets ⟨mem_insertNew.mpr (.inr rfl), fun x there => mem_insertNew.mpr (.inl there), rfl, rfl, rfl, rfl, rfl⟩,
    does_of_dev clears ⟨?_, fun x other => ?_, rfl, rfl, rfl, rfl, rfl⟩⟩
  · show k ∉ s.dev.gd.exc.filter (· != k)
    simp
  · show x ∈ s.dev.gd.exc.filter (· != k) ↔ _
    simp [other]
theorem excitationFault_idle {k : Nat} {on : Bool} (high : 2 ≤ k) : exec (.excitationFault k on) s = .next s :=
  next_of_dev (e := s.dev) (if_neg (by omega))

end

end Sys2Proof.Machine
end

section
namespace Sys2Proof
open Machine

/-- Settles O50, reference by reference. -/
theorem clocks : Obligations.Clocks := by
  intro s l
  refine ⟨fun x up within => strobeCapture_corrects up within, fun x up beyond runs => ?_, fun x lost => strobeCapture_idle lost,
    fun a judged => ⟨fun runs => does_of_dev (laneClockFault_out judged) (clockOut_runs s.dev _ runs),
      fun idle => does_of_dev (laneClockFault_out judged) (clockOut_stays s.dev _ idle)⟩,
    laneClockFault_idle, fun h c is up => hubLost_does is up, fun h lost => hubFault_idle h lost, noHubStrobe_does, serdesUnlock_does, aclkFault_does,
    lmcPostTimeout_does, lmcPostTimeout_idle, laneMonitorCoreFault_does, fun t i up six low => temperatureRead_does t i up six low,
    fun k low => excitationFault_does low, fun k on high => excitationFault_idle high⟩
  obtain ⟨phase, cause, -, others, boot⟩ := clockOut_runs s.dev 2 runs
  exact does_of_dev (strobeCapture_out up beyond) ⟨phase, cause, others, boot⟩

end Sys2Proof
end


section
/-! SUPPORT. The roll call: what a lane selects in an exchange without a fault (R124, R127), the replica comparison at its end (R43), and
the pair roll-call selection (R133, R480). -/

namespace Sys2Proof.Machine
open Sys2Proof

/-! ### The memory of a roll-called signal -/

theorem LaneSt.rcOf_idx (q : LaneSt) (g : Img) (i : Nat) : (q.rcOf g i).idx = i := by
  unfold LaneSt.rcOf
  cases found : q.rc.find? (fun r => r.idx == i) with
  | none => rfl
  | some r =>
    have same := List.find?_some found
    exact beq_iff_eq.mp same
theorem LaneSt.putRc_rcOf (q : LaneSt) (g : Img) (r : RcSig) : (q.putRc r).rcOf g r.idx = r := by
  unfold LaneSt.rcOf LaneSt.putRc
  dsimp only
  split_ifs with there
  · have same : ((fun x : RcSig => x.idx == r.idx) ∘ fun x => if x.idx == r.idx then r else x) = fun x => x.idx == r.idx := by
      funext x
      by_cases is : x.idx = r.idx <;> simp [is]
    rw [List.find?_map, same]
    obtain ⟨x, found⟩ := Option.isSome_iff_exists.mp ((List.find?_isSome (p := fun x : RcSig => x.idx == r.idx)).mpr (List.any_eq_true.mp there))
    have idx := List.find?_some found
    rw [found, Option.map_some, if_pos idx]
    rfl
  · have none_ : q.rc.find? (fun x => x.idx == r.idx) = none := List.find?_eq_none.mpr fun x here is => there (List.any_eq_true.mpr ⟨x, here, is⟩)
    rw [List.find?_append, none_]
    simp

/-! ### The pair roll-call selection (R133, R480) -/

section
variable {s : State} {l : Lane} {g : Img} {e : Entry}

/-- The selection that body word w asks for, its operands being read in q0. -/
def pairOf (g : Img) (w : DWord) (first : Bool) (q0 q : LaneSt) : SigWord × SigWord × Bool × Bool :=
  pairPick (g.sigD (dw w 33 19)) (q.cfgDy 0x010 (dw w 33 19)) (q.cfgDy 0x011 (dw w 33 19)) (q.cfgInt 0x012 (dw w 33 19)) first
    ((q0.sig (dw w 48 34)).st.stale || !(q0.sig (dw w 48 34)).st.valid) (q0.sig (dw w 63 49)) (q0.sig (dw w 48 34)) (q.rcOf g (dw w 33 19)).last
theorem pairSig_gives (g : Img) (x i : Nat) (first : Bool) (q0 q : LaneSt) (wf : memWf q.mem = true) :
    (pairSig g x first q0 q i).sig (dw (g.desc x (1 + i)) 33 19) = (pairOf g (g.desc x (1 + i)) first q0 q).1 ∧
      (pairSig g x first q0 q i).rcs.absent = (q.rcs.absent || (pairOf g (g.desc x (1 + i)) first q0 q).2.2.2) ∧
      (∀ j : Nat, j ≠ dw (g.desc x (1 + i)) 33 19 → (pairSig g x first q0 q i).sig j = q.sig j) ∧ (pairSig g x first q0 q i).cfg = q.cfg :=
  ⟨LaneSt.sig_setSig wf _ _, rfl, fun _ other => LaneSt.sig_setSig_ne wf _ other, rfl⟩

/-- PAIR_ROLL_CALL_SELECTION of one signal writes what the selection gives. -/
theorem pairRollCall_gives (ready : s.dev.Ready l g e) (accepted : e.cls = 0x29) (one : g.descCount e.operand = 1)
    (wf : memWf ((s.dev.begun l g e).lane l).mem = true) {p : SigWord × SigWord × Bool × Bool}
    (gives : pairOf g (g.desc e.operand 1) s.dev.pair.rankFirst ((s.dev.begun l g e).lane l) ((s.dev.begun l g e).lane l) = p) :
    Ends (.pairRollCallSelection l false) s l g e (fun d => (d.lane l).sig (dw (g.desc e.operand 1) 33 19) = p.1 ∧ (d.lane l).rcs.absent = p.2.2.2 ∧
      (∀ j : Nat, j ≠ dw (g.desc e.operand 1) 33 19 → (d.lane l).sig j = ((s.dev.begun l g e).lane l).sig j) ∧
      (d.lane l).cfg = ((s.dev.begun l g e).lane l).cfg ∧ (∀ m : Lane, m ≠ l → d.lane m = s.dev.lane m) ∧ d.vot = s.dev.vot ∧ s.dev.SameOutside d) := by
  have becomes := (Dev.LaneBecomes.begun s.dev l g e).onLane
    (fun _ => pairSig g e.operand s.dev.pair.rankFirst ((s.dev.begun l g e).lane l)
      { (s.dev.begun l g e).lane l with rcs := { ((s.dev.begun l g e).lane l).rcs with absent := false } } 0)
  refine (ends_of_laneBecomes ready (q := pairSig g e.operand s.dev.pair.rankFirst ((s.dev.begun l g e).lane l)
      { (s.dev.begun l g e).lane l with rcs := { ((s.dev.begun l g e).lane l).rcs with absent := false } } 0) (beq_iff_eq.mpr accepted) rfl ?_).imp fun d h => ?_
  · rw [one]
    exact becomes
  · obtain ⟨sig, absent, others, cfg⟩ := pairSig_gives g e.operand 0 s.dev.pair.rankFirst ((s.dev.begun l g e).lane l)
      { (s.dev.begun l g e).lane l with rcs := { ((s.dev.begun l g e).lane l).rcs with absent := false } } wf
    rw [h.lane, ← gives]
    exact ⟨sig, absent, others, cfg, h.others, h.vot, h.outside⟩

end

/-- The four cases of a pair selection. -/
theorem pairPick_absent (r : SigRec) (lo hi : Dy) (code : Int) (first : Bool) (own par last : SigWord) :
    pairPick r lo hi code first true own par last = ({ own with st := { own.st with subst := true } }, { own with st := { own.st with subst := true } }, false, true) := rfl
theorem pairPick_near {r : SigRec} {lo hi : Dy} {code : Int} {first : Bool} {own par last : SigWord}
    (near : inBand lo hi (pairDiff r (if first then own else par) (if first then par else own)) = true) :
    pairPick r lo hi code first false own par last = (if first then own else par, if first then own else par, false, false) :=
  if_pos near
theorem pairPick_second {r : SigRec} {lo hi : Dy} {first : Bool} {own par last : SigWord}
    (far : inBand lo hi (pairDiff r (if first then own else par) (if first then par else own)) = false) :
    pairPick r lo hi 2 first false own par last = ({ (if first then par else own) with st := { (if first then par else own).st with subst := true } },
      { (if first then par else own) with st := { (if first then par else own).st with subst := true } }, true, false) :=
  (if_neg (ne_true_of_eq_false far)).trans rfl
theorem pairPick_subst {r : SigRec} {lo hi : Dy} {code : Int} {first : Bool} {own par last : SigWord}
    (far : inBand lo hi (pairDiff r (if first then own else par) (if first then par else own)) = false) (other : code ≠ 2) :
    pairPick r lo hi code first false own par last = (substWord r.init last code, if code = 1 then substWord r.init last code else last, true, false) := by
  unfold pairPick
  dsimp only
  rw [if_neg Bool.false_ne_true, if_neg (ne_true_of_eq_false far), if_neg other]

/-! ### Records while the queues to the hub have room -/

/-- No lane's queue to the hub is full. -/
def Dev.Roomy (d : Dev) : Prop := ∀ m : Lane, d.hubQueueFull m = false
theorem Dev.Roomy.of_vot {d d' : Dev} (room : d.Roomy) (vot : d'.vot = d.vot) : d'.Roomy := fun m => (Dev.hubQueueFull_congr vot m).trans (room m)

namespace Dev.LaneBecomes
variable {d d' : Dev} {l : Lane} {q : LaneSt} (room : d.Roomy)

theorem postLane (h : d.LaneBecomes l q d') (gt : Nat) (m : Lane) (cls t u i c v : Nat) : d.LaneBecomes l q (d'.postLane gt m cls t u i c v) where
  lane := (congrArg (·.get l) (Dev.postLane_lanes ..)).trans h.lane
  others m other := (congrArg (·.get m) (Dev.postLane_lanes ..)).trans (h.others m other)
  vot := (Dev.postLane_vot ..).trans h.vot
  outside := by
    obtain ⟨gd, edge, net, can, pair, safe, mgmt, boot, test, pwr⟩ := h.outside
    exact ⟨(Dev.postLane_gd ..).trans gd, (Dev.postLane_edge ..).trans edge, (Dev.postLane_net ..).trans net, (Dev.postLane_can ..).trans can,
      (Dev.postLane_pair ..).trans pair, (Dev.postLane_safe ..).trans safe, (Dev.postLane_mgmt ..).trans mgmt, (Dev.postLane_boot ..).trans boot,
      (Dev.postLane_test ..).trans test, (Dev.postLane_pwr ..).trans pwr⟩
include room
theorem laneRecAt (h : d.LaneBecomes l q d') (gt : Nat) (m : Lane) (cls t u i c v : Nat) : d.LaneBecomes l q (d'.laneRecAt gt m cls t u i c v) := by
  have free : ¬ (d'.runs m && d'.hubQueueFull m) = true := by simp [room.of_vot h.vot m]
  unfold Dev.laneRecAt
  rw [if_neg free]
  exact h.postLane ..
theorem markNotes (h : d.LaneBecomes l q d') (gt : Nat) (rs : List (Nat × Nat × Nat)) : d.LaneBecomes l q (d'.markNotes gt rs) :=
  List.foldlRecOn rs _ (motive := fun x => d.LaneBecomes l q x) h fun _ h _ _ => h.laneRecAt room ..

end Dev.LaneBecomes

/-! ### One lane of an exchange without a fault -/

/-- No fault, and all three lanes live. -/
def noFaults : ExchangeFaults := ⟨[], [], [], [], [], []⟩
def allHere : ExLanes := ⟨lanesAll, lanesAll, lanesAll, lanesAll⟩
theorem accepts_all (x y : Lane) : accepts noFaults allHere x y = true := by cases x <;> cases y <;> rfl
theorem blockWord_all (d : Dev) (x y : Lane) (i : Nat) : blockWord d noFaults x y i = (d.lane x).sig i := if_neg (by simp [noFaults])

/-- The candidates among the words that the lanes of d hold of signal i. -/
def Dev.candidates (d : Dev) (r : SigRec) (i : Nat) : List (Lane × SigWord) :=
  ([(Lane.a, (d.lane .a).sig i), (Lane.b, (d.lane .b).sig i), (Lane.c, (d.lane .c).sig i)]).filter (fun v => isCand r v.2)
theorem exchange_candidates (d : Dev) (r : SigRec) (y : Lane) (i : Nat) :
    ((allHere.live.filter (fun x => accepts noFaults allHere x y)).map (fun x => (x, blockWord d noFaults x y i))).filter (fun v => isCand r v.2) =
      d.candidates r i := by
  simp only [accepts_all, blockWord_all]
  rfl

/-- What a lane that holds q selects for signal i, the lanes having sent what they hold in d. -/
def Dev.chosen (d : Dev) (g : Img) (q : LaneSt) (i : Nat) : Pick :=
  pick (g.sigD i) (q.cfgDy 0x010 i) (q.cfgDy 0x011 i) (q.cfgInt 0x012 i) (q.rcOf g i).last (d.candidates (g.sigD i) i)

/-- The lane q as q' once it has selected k for signal i. -/
structure LaneSt.Selects (q : LaneSt) (g : Img) (i : Nat) (k : Pick) (q' : LaneSt) : Prop where
  mem : q'.mem = (q.setSig i k.out).mem
  seq : q'.seq = q.seq
  cfg : q'.cfg = q.cfg
  last : (q'.rcOf g i).last = k.last

/-- What selecting k for signal i makes of a lane, new being its memory of the signal. -/
def LaneSt.selected (q : LaneSt) (i : Nat) (k : Pick) (new : RcSig) (live : List Lane) : LaneSt :=
  let mk := fun (x : Lane) (l : List Nat) => if live.contains x && !(k.agree.contains x) then insertNew l i else l
  { (q.setSig i k.out).putRc new with
    rcs := { q.rcs with
      substN := if k.subst then q.rcs.substN + 1 else q.rcs.substN,
      marked := ⟨mk .a q.rcs.marked.a, mk .b q.rcs.marked.b, mk .c q.rcs.marked.c⟩ } }
theorem LaneSt.selected_selects (q : LaneSt) (g : Img) {i : Nat} {k : Pick} {new : RcSig} (live : List Lane) (idx : new.idx = i) (last : new.last = k.last) :
    q.Selects g i k (q.selected i k new live) := by
  refine ⟨rfl, rfl, rfl, ?_⟩
  subst idx
  exact (congrArg RcSig.last ((q.setSig new.idx k.out).putRc_rcOf g new)).trans last
theorem selectSig_eq (d0 d : Dev) (g : Img) (f : ExchangeFaults) (x : ExLanes) (y : Lane) (i : Nat) {cand : List (Lane × SigWord)} {k : Pick} {new : RcSig} {e : Dev}
    (sent : ((x.live.filter (fun l => accepts f x l y)).map (fun l => (l, blockWord d0 f l y i))).filter (fun v => isCand (g.sigD i) v.2) = cand)
    (picks : pick (g.sigD i) ((d.lane y).cfgDy 0x010 i) ((d.lane y).cfgDy 0x011 i) ((d.lane y).cfgInt 0x012 i) ((d.lane y).rcOf g i).last cand = k)
    (after : ((d.lane y).rcOf g i).after x.live (cand.map (·.1)) k = new) (lane : d.onLane y (fun q => q.selected i k new x.live) = e) :
    selectSig d0 g f x y d i =
      if y = e.lowLane then
        (if k.subst && decide (((g.sigmap.filter (·.rollcall)).map (·.index)).idxOf i < 2048) then
          e.count (cConflict (((g.sigmap.filter (·.rollcall)).map (·.index)).idxOf i)) 1 else e).markNotes (e.gt + 1024)
          (markRecords ((d.lane y).rcOf g i) new (g.sigD i).nameId.toNat)
      else e := by
  subst sent picks after lane
  rfl
theorem selectSig_selects (d0 d : Dev) (g : Img) (y : Lane) (i : Nat) (room : d.Roomy) :
    ∃ q' : LaneSt, d.LaneBecomes y q' (selectSig d0 g noFaults allHere y d i) ∧ (d.lane y).Selects g i (d0.chosen g (d.lane y) i) q' := by
  have is := selectSig_eq d0 d g noFaults allHere y i (exchange_candidates d0 (g.sigD i) y i) (k := d0.chosen g (d.lane y) i) rfl rfl rfl
  have selects := (d.lane y).selected_selects g (k := d0.chosen g (d.lane y) i)
    (new := ((d.lane y).rcOf g i).after allHere.live ((d0.candidates (g.sigD i) i).map (·.1)) (d0.chosen g (d.lane y) i)) allHere.live
    ((d.lane y).rcOf_idx g i) rfl
  have becomes := (Dev.LaneBecomes.refl d y).onLane (fun q => q.selected i (d0.chosen g (d.lane y) i)
    (((d.lane y).rcOf g i).after allHere.live ((d0.candidates (g.sigD i) i).map (·.1)) (d0.chosen g (d.lane y) i)) allHere.live)
  refine ⟨_, ?_, selects⟩
  rw [is]
  exact .iteSelf (.markNotes room (.iteSelf (becomes.count _ _) becomes) _ _) becomes

/-- Lane-suspect marks leave what the lane has selected. -/
theorem suspectStep_becomes {d d' : Dev} {y : Lane} {q : LaneSt} (room : d.Roomy) (h : d.LaneBecomes y q d') (f : ExchangeFaults) (x : ExLanes) :
    ∃ q' : LaneSt, d.LaneBecomes y q' (suspectStep f x y d') ∧ q'.mem = q.mem ∧ q'.seq = q.seq ∧ q'.cfg = q.cfg ∧ q'.rc = q.rc := by
  obtain ⟨marks, records, is, keeps⟩ : ∃ (marks : LaneSt → LaneSt) (records : List (Nat × Nat × Nat)), suspectStep f x y d' =
      (if y = (d'.onLane y marks).lowLane then (d'.onLane y marks).markNotes ((d'.onLane y marks).gt + 1024) records else d'.onLane y marks) ∧
      ∀ q : LaneSt, (marks q).mem = q.mem ∧ (marks q).seq = q.seq ∧ (marks q).cfg = q.cfg ∧ (marks q).rc = q.rc :=
    ⟨_, _, rfl, fun _ => ⟨rfl, rfl, rfl, rfl⟩⟩
  rw [is]
  exact ⟨marks q, .iteSelf (.markNotes room (h.onLane _) _ _) (h.onLane _), keeps q⟩

/-- The lane q as q' once the exchange of signal i under entry e is over for it: what k writes is in progress until the entry's deadline. -/
structure LaneSt.Exchanges (q : LaneSt) (g : Img) (e : Entry) (i : Nat) (k : Pick) (q' : LaneSt) : Prop where
  late : ∃ w : Late, q'.seq = { q.seq with late := q.seq.late ++ [w] } ∧ w.unit = e.unit ∧ w.due = (lookupNat q.seq.busy e.unit).getD 0 ∧
    w.cells = memDiff q.mem (q.setSig i k.out).mem
  mem : q'.mem = q.mem
  cfg : q'.cfg = q.cfg
  last : (q'.rcOf g i).last = k.last

/-- Lane y's part of the exchange of one signal. -/
def exchangeLane (d0 : Dev) (g : Img) (e : Entry) (i : Nat) (d : Dev) (y : Lane) : Dev :=
  holdBack y e [] none d (suspectStep noFaults allHere y (selectSig d0 g noFaults allHere y d i))
theorem exchangeLane_exchanges (d0 d : Dev) (g : Img) (e : Entry) (i : Nat) (y : Lane) (room : d.Roomy) (runs : d.runs y = true) :
    ∃ q' : LaneSt, d.LaneBecomes y q' (exchangeLane d0 g e i d y) ∧ (d.lane y).Exchanges g e i (d0.chosen g (d.lane y) i) q' := by
  obtain ⟨q', becomes, selects⟩ := selectSig_selects d0 d g y i room
  obtain ⟨q'', after, mem, seq, cfg, rc⟩ := suspectStep_becomes room becomes noFaults allHere
  unfold exchangeLane holdBack
  generalize suspectStep noFaults allHere y (selectSig d0 g noFaults allHere y d i) = e' at after
  have still : e'.runs y = true := (Dev.runs_congr (by rw [after.lane, seq, selects.seq])).trans runs
  refine ⟨_, after.onLane _, ⟨?_, rfl, cfg.trans selects.cfg, ?_⟩⟩
  · rw [if_pos still, seq, selects.seq, after.lane, mem, selects.mem]
    exact ⟨_, rfl, rfl, rfl, rfl⟩
  · unfold LaneSt.rcOf
    dsimp only
    rw [rc]
    exact selects.last

/-- All three lanes of d have exchanged signal i. -/
structure Dev.Exchanged (d0 : Dev) (g : Img) (e : Entry) (i : Nat) (d : Dev) : Prop where
  lanes : ∀ y : Lane, (d0.lane y).Exchanges g e i (d0.chosen g (d0.lane y) i) (d.lane y)
  outside : d0.SameOutside d
theorem SameOutside_trans {d d' d'' : Dev} (h : d.SameOutside d') (h' : d'.SameOutside d'') : d.SameOutside d'' := by
  obtain ⟨gd, edge, net, can, pair, safe, mgmt, boot, test, pwr⟩ := h'
  rw [Dev.SameOutside, gd, edge, net, can, pair, safe, mgmt, boot, test, pwr]
  exact h
theorem exchangeLanes_exchanged (d0 : Dev) (g : Img) (e : Entry) (i : Nat) (room : d0.Roomy) (runs : ∀ y : Lane, d0.runs y = true) :
    d0.Exchanged g e i (lanesAll.foldl (exchangeLane d0 g e i) d0) := by
  have step (d : Dev) (y : Lane) (room : d.Roomy) (kept : d.lane y = d0.lane y) : ∃ q' : LaneSt, d.LaneBecomes y q' (exchangeLane d0 g e i d y) ∧
      (d0.lane y).Exchanges g e i (d0.chosen g (d0.lane y) i) q' := by
    rw [← kept]
    exact exchangeLane_exchanges d0 d g e i y room ((Dev.runs_congr (congrArg (·.seq.phase) kept)).trans (runs y))
  show d0.Exchanged g e i (exchangeLane d0 g e i (exchangeLane d0 g e i (exchangeLane d0 g e i d0 .a) .b) .c)
  obtain ⟨qa, a, fromA⟩ := step d0 .a room rfl
  generalize exchangeLane d0 g e i d0 .a = d1 at a
  obtain ⟨qb, b, fromB⟩ := step d1 .b (room.of_vot a.vot) (a.others .b (by decide))
  generalize exchangeLane d0 g e i d1 .b = d2 at b
  obtain ⟨qc, c, fromC⟩ := step d2 .c (room.of_vot (b.vot.trans a.vot)) ((b.others .c (by decide)).trans (a.others .c (by decide)))
  generalize exchangeLane d0 g e i d2 .c = d3 at c
  have laneA : d3.lane .a = qa := ((c.others .a (by decide)).trans (b.others .a (by decide))).trans a.lane
  have laneB : d3.lane .b = qb := (c.others .b (by decide)).trans b.lane
  refine ⟨fun y => ?_, SameOutside_trans a.outside (SameOutside_trans b.outside c.outside)⟩
  cases y with
  | a => exact laneA ▸ fromA
  | b => exact laneB ▸ fromB
  | c => exact c.lane ▸ fromC

/-! ### The replica comparison (R43) -/

/-- A sequencer whose replica alone has moved. -/
structure SeqSt.Compared (q q' : SeqSt) : Prop where
  late : q'.late = q.late
  phase : q'.phase = q.phase
/-- A comparison that has taken no lane out. -/
structure Dev.Compared (d d' : Dev) : Prop where
  lanes : ∀ y : Lane, ∃ q : SeqSt, (d.lane y).seq.Compared q ∧ d'.lane y = { d.lane y with seq := q }
  outside : d.SameOutside d'
theorem Dev.Compared.refl (d : Dev) : d.Compared d := ⟨fun _ => ⟨_, ⟨rfl, rfl⟩, rfl⟩, .refl d⟩
theorem Dev.Compared.trans {d d' d'' : Dev} (h : d.Compared d') (h' : d'.Compared d'') : d.Compared d'' := by
  refine ⟨fun y => ?_, SameOutside_trans h.outside h'.outside⟩
  obtain ⟨q, ⟨late, phase⟩, is⟩ := h.lanes y
  obtain ⟨q', ⟨late', phase'⟩, is'⟩ := h'.lanes y
  rw [is] at late' phase' is'
  exact ⟨q', ⟨late'.trans late, phase'.trans phase⟩, is'⟩
/-- One lane's comparison with the median m of deviation and drift. -/
def comparedSeq (s : SeqSt) (raw n tf : Nat) (m : Int × Int) : SeqSt :=
  { (if s.freeRun then s.steer raw n tf m.1 m.2 else s) with offMed := if 27487790694 < (s.devWhen raw - m.1).natAbs then s.offMed + 1 else 0 }
theorem comparedSeq_compared (s : SeqSt) (raw n tf : Nat) (m : Int × Int) : s.Compared (comparedSeq s raw n tf m) := by
  unfold comparedSeq
  split
  · exact ⟨rfl, rfl⟩
  · exact ⟨rfl, rfl⟩
def compareLane (raw : Nat) (m : Int × Int) (d : Dev) (l : Lane) : Dev :=
  if 2 ≤ (comparedSeq (d.lane l).seq raw (d.laneClk l) d.tf m).offMed then
    ((d.onSeq l (fun _ => comparedSeq (d.lane l).seq raw (d.laneClk l) d.tf m)).takeOut l 7 0 0).laneRec l 0 0x15 3 (laneIdx l) 0 0
  else d.onSeq l (fun _ => comparedSeq (d.lane l).seq raw (d.laneClk l) d.tf m)
theorem replicaStep_eq (d : Dev) (here : List Lane) : ∃ m : Int × Int, replicaStep d here =
    if here.length < 3 then d else here.foldl (compareLane d.time.raw m) d := ⟨_, rfl⟩
/-- One exchange beyond the median takes no lane out. -/
theorem compareLane_compares {raw : Nat} {m : Int × Int} {d : Dev} {l : Lane} (fresh : (d.lane l).seq.offMed = 0) :
    d.Compared (compareLane raw m d l) ∧ ∀ y : Lane, y ≠ l → (compareLane raw m d l).lane y = d.lane y := by
  have once : ¬ 2 ≤ (comparedSeq (d.lane l).seq raw (d.laneClk l) d.tf m).offMed := by
    simp only [comparedSeq, fresh]
    split <;> omega
  unfold compareLane
  rw [if_neg once]
  have others (y : Lane) (other : y ≠ l) := d.onSeq_lane_ne l y (fun _ => comparedSeq (d.lane l).seq raw (d.laneClk l) d.tf m) other
  refine ⟨⟨fun y => ?_, .refl d⟩, others⟩
  by_cases is : y = l
  · subst is
    exact ⟨_, comparedSeq_compared .., d.onSeq_lane ..⟩
  · exact ⟨_, ⟨rfl, rfl⟩, others y is⟩
theorem compareLanes_compare {raw : Nat} {m : Int × Int} (here : List Lane) (d : Dev) (apart : here.Nodup) (fresh : ∀ l ∈ here, (d.lane l).seq.offMed = 0) :
    d.Compared (here.foldl (compareLane raw m) d) := by
  induction here generalizing d with
  | nil => exact .refl d
  | cons l r ih =>
    obtain ⟨compares, others⟩ := compareLane_compares (raw := raw) (m := m) (fresh l List.mem_cons_self)
    obtain ⟨new, apart⟩ := List.nodup_cons.mp apart
    rw [List.foldl_cons]
    refine compares.trans (ih _ apart fun y there => ?_)
    rw [others y fun is => new (is ▸ there)]
    exact fresh y (List.mem_cons_of_mem l there)
theorem replicaStep_compares (d : Dev) (here : List Lane) (apart : here.Nodup) (fresh : ∀ l ∈ here, (d.lane l).seq.offMed = 0) :
    d.Compared (replicaStep d here) := by
  obtain ⟨m, is⟩ := replicaStep_eq d here
  rw [is]
  split
  · exact .refl d
  · exact compareLanes_compare here d apart fresh

/-! ### The exchange without a fault -/

theorem startEntry_ready {d : Dev} {l : Lane} {g : Img} {e : Entry} (ready : d.Ready l g e) : startEntry d l false e g = (d.begun l g e, true) := by
  obtain ⟨-, -, -, timely, free⟩ := ready
  have early : ¬ (d.dispatchAt l e.offset - d.target l e.offset > 64) := by omega
  have idle : ¬ (d.dispatchAt l e.offset < (lookupNat (d.lane l).seq.busy e.unit).getD 0) := by omega
  simp only [startEntry, Dev.begun, early, idle, if_false, decide_false, Bool.false_eq_true]
theorem begun_steady (d : Dev) (l m : Lane) (g : Img) (e : Entry) :
    (d.begun l g e).phase m = d.phase m ∧ ((d.begun l g e).lane m).seq.offMed = (d.lane m).seq.offMed := by
  unfold Dev.phase
  by_cases is : m = l
  · subst is
    rw [begun_lane]
    dsimp only [SeqSt.dispatched]
    rw [LaneSt.settle_seq]
    exact ⟨rfl, rfl⟩
  · rw [begun_lane_ne _ _ _ _ _ is]
    exact ⟨rfl, rfl⟩
theorem begun_busy (d : Dev) (l : Lane) (g : Img) (e : Entry) :
    lookupNat ((d.begun l g e).lane l).seq.busy e.unit = some (d.dispatchAt l e.offset + cost g e) := by
  rw [begun_lane]
  exact lookupNat_putNat ..

section
variable {s : State} {g : Img} {e : Entry}

/-- All three lanes have dispatched the entry, one after the other. -/
def Dev.allBegun (d : Dev) (g : Img) (e : Entry) : Dev := ((d.begun .a g e).begun .b g e).begun .c g e
theorem Dev.allBegun_steady (d : Dev) (g : Img) (e : Entry) (m : Lane) : (d.allBegun g e).phase m = d.phase m ∧
    ((d.allBegun g e).lane m).seq.offMed = (d.lane m).seq.offMed := by
  obtain ⟨phase, off⟩ := begun_steady d .a m g e
  obtain ⟨phase', off'⟩ := begun_steady (d.begun .a g e) .b m g e
  obtain ⟨phase'', off''⟩ := begun_steady ((d.begun .a g e).begun .b g e) .c m g e
  exact ⟨phase''.trans (phase'.trans phase), off''.trans (off'.trans off)⟩
theorem Dev.allBegun_busy (d : Dev) (g : Img) (e : Entry) (m : Lane) : ∃ n : Nat, lookupNat ((d.allBegun g e).lane m).seq.busy e.unit = some n := by
  unfold Dev.allBegun
  cases m with
  | a =>
    rw [begun_lane_ne _ _ _ _ _ (by decide), begun_lane_ne _ _ _ _ _ (by decide)]
    exact ⟨_, begun_busy ..⟩
  | b =>
    rw [begun_lane_ne _ _ _ _ _ (by decide)]
    exact ⟨_, begun_busy ..⟩
  | c => exact ⟨_, begun_busy ..⟩
theorem exchangeSend_all {d : Dev} (runs : ∀ l : Lane, d.runs l = true) (live : d.vot.liveFc = lanesAll) :
    exchangeSend d noFaults e lanesAll = (d, allHere) := by
  have all : lanesAll.filter d.runs = lanesAll := List.filter_eq_self.mpr fun l _ => runs l
  have none_ : lanesAll.filter ([] : List Lane).contains = [] := rfl
  simp [exchangeSend, noFaults, allHere, all, live, none_, runs]

/-- The three lanes dispatch, exchange one signal and compare their replicas. -/
theorem rollCallExchange_runs (a : s.dev.Ready .a g e) (b : (s.dev.begun .a g e).Ready .b g e) (c : ((s.dev.begun .a g e).begun .b g e).Ready .c g e)
    (here : ∀ l : Lane, s.dev.entryAt l = some e ∧ s.dev.isLive l = true) (accepted : e.cls = 0x28) (live : s.dev.vot.liveFc = lanesAll)
    (one : g.descCount e.operand = 1) {d : Dev} (is : lanesAll.foldl (exchangeLane (s.dev.allBegun g e) g e (rcIndex g e.operand 0)) (s.dev.allBegun g e) = d) :
    exec (.rollCallExchange noFaults) s = .next { s with dev := replicaStep { d with draws := d.draws + 1 } (lanesAll.filter d.isLive) } := by
  subst is
  have runs (l : Lane) : s.dev.runs l = true := by simp [Dev.runs, (here l).2]
  have all : lanesAll.filter s.dev.runs = lanesAll := List.filter_eq_self.mpr fun l _ => runs l
  have entries : lanesAll.filterMap s.dev.entryAt = [e, e, e] := by simp [lanesAll, (here _).1]
  have found : [e, e, e].find? (fun e => e.cls == 0x28) = some e := by simp [accepted]
  have at_ : lanesAll.filter (fun l => s.dev.entryAt l == some e) = lanesAll := List.filter_eq_self.mpr fun l _ => by simp [(here l).1]
  have begun : lanesAll.foldl (fun d l => (startEntry d l (noFaults.parity.contains l) e g).1) s.dev = s.dev.allBegun g e := by
    show (startEntry (startEntry (startEntry s.dev .a false e g).1 .b false e g).1 .c false e g).1 = _
    rw [startEntry_ready a, startEntry_ready b, startEntry_ready c]
    rfl
  have still (l : Lane) : (s.dev.allBegun g e).runs l = true := (Dev.runs_congr (s.dev.allBegun_steady g e l).1).trans (runs l)
  have signals : rcIndices g e.operand = [rcIndex g e.operand 0] := by rw [rcIndices, one]; rfl
  refine next_of_dev ?_
  beta_reduce
  rw [a.1, all, entries]
  dsimp only
  rw [found]
  dsimp only
  rw [at_, begun, exchangeSend_all still live]
  simp only [signals]
  rfl

/-- What the exchange leaves of every lane. -/
theorem rollCallExchange_exchanges (a : s.dev.Ready .a g e) (b : (s.dev.begun .a g e).Ready .b g e) (c : ((s.dev.begun .a g e).begun .b g e).Ready .c g e)
    (here : ∀ l : Lane, s.dev.entryAt l = some e ∧ s.dev.isLive l = true) (accepted : e.cls = 0x28) (live : s.dev.vot.liveFc = lanesAll)
    (one : g.descCount e.operand = 1) (room : s.dev.Roomy) (fresh : ∀ l : Lane, (s.dev.lane l).seq.offMed = 0) :
    ∃ d d' : Dev, exec (.rollCallExchange noFaults) s = .next { s with dev := d' } ∧
      (s.dev.allBegun g e).Exchanged g e (rcIndex g e.operand 0) d ∧ d.Compared d' := by
  have runs (l : Lane) : (s.dev.allBegun g e).runs l = true :=
    (Dev.runs_congr (s.dev.allBegun_steady g e l).1).trans (by simp [Dev.runs, (here l).2])
  have exchanged := exchangeLanes_exchanged (s.dev.allBegun g e) g e (rcIndex g e.operand 0) (room.of_vot rfl) runs
  have meaning := rollCallExchange_runs a b c here accepted live one rfl
  generalize lanesAll.foldl (exchangeLane (s.dev.allBegun g e) g e (rcIndex g e.operand 0)) (s.dev.allBegun g e) = d at exchanged meaning
  refine ⟨{ d with draws := d.draws + 1 }, _, meaning, ⟨exchanged.lanes, exchanged.outside⟩,
    replicaStep_compares _ _ (List.Nodup.filter _ (by decide)) fun y _ => ?_⟩
  obtain ⟨⟨w, seq, -⟩, -⟩ := exchanged.lanes y
  have off : (d.lane y).seq.offMed = ((s.dev.allBegun g e).lane y).seq.offMed := by rw [seq]
  exact off.trans ((s.dev.allBegun_steady g e y).2.trans (fresh y))

end

end Sys2Proof.Machine
end

section
namespace Sys2Proof
open Machine

/-- Settles O23: each lane selects from the words that all three hold after their dispatches, and the comparison of the replicas at the end
moves nothing else; the pair selection case by case. -/
theorem rollCallExchange : Obligations.RollCallExchange := by
  refine ⟨fun s g e => ?_, fun s l g e ready accepted one => ?_⟩
  · intro d1 d2 d3 a b c here accepted live one room fresh i r cand
    obtain ⟨d, d', meaning, exchanged, compared⟩ := rollCallExchange_exchanges a b c here accepted live one room fresh
    refine does_of_dev meaning fun y => ?_
    obtain ⟨w, seq, unit, due, cells⟩ := (exchanged.lanes y).late
    obtain ⟨q, same, is⟩ := compared.lanes y
    obtain ⟨n, busy⟩ := s.dev.allBegun_busy g e y
    have phase : (s.dev.allBegun g e).phase y = .live := (s.dev.allBegun_steady g e y).1.trans (beq_iff_eq.mp (here y).2)
    intro q0 k
    have lates : (d'.lane y).seq.late = q0.seq.late ++ [w] := by rw [is, same.late, seq]; rfl
    refine ⟨⟨w, lates, unit, ?_, cells⟩, ?_, ?_, ?_, ?_, SameOutside_trans ⟨rfl, rfl, rfl, rfl, rfl, rfl, rfl, rfl, rfl, rfl⟩
      (SameOutside_trans exchanged.outside compared.outside)⟩
    · rw [due, busy]
      exact busy.symm
    · rw [is]
      exact (exchanged.lanes y).mem
    · rw [is]
      exact (exchanged.lanes y).last
    · rw [is]
      exact (exchanged.lanes y).cfg
    · rw [Dev.phase, is]
      exact same.phase.trans ((congrArg SeqSt.phase seq).trans phase)
  · intro w q own par o v1 v2 near wf gives
    refine ⟨fun absent => ?_, fun present is => ?_, fun present is code => ?_, fun present is code => ?_, fun present is code code' => ?_⟩
    · exact pairRollCall_gives ready accepted one wf ((congrArg (fun b => pairPick _ _ _ _ _ b _ _ _) absent).trans (pairPick_absent ..))
    · exact pairRollCall_gives ready accepted one wf ((congrArg (fun b => pairPick _ _ _ _ _ b _ _ _) present).trans (pairPick_near is))
    · exact pairRollCall_gives ready accepted one wf ((congrArg₂ (fun c b => pairPick _ _ _ c _ b _ _ _) code present).trans (pairPick_second is))
    · exact pairRollCall_gives ready accepted one wf ((congrArg₂ (fun c b => pairPick _ _ _ c _ b _ _ _) code present).trans (pairPick_subst is (by decide)))
    · refine (pairRollCall_gives ready accepted one wf ((congrArg (fun b => pairPick _ _ _ _ _ b _ _ _) present).trans (pairPick_subst is code))).imp fun d h => ?_
      rw [substWord, if_neg code'] at h
      exact h

end Sys2Proof
end
